-- ==== Sys2Proof/Word.lean ====
section
/-! DEFINITION. The word types of the block: a byte, and lists of bytes for what crosses an interface. -/

namespace Sys2Proof

/-- One byte of a payload, a frame or a memory. -/
abbrev Byte := BitVec 8

/-- A byte string in address (or wire) order. -/
abbrev Bytes := List Byte

end Sys2Proof
end

