-- ==== Sys2Proof/Syntax.lean ====
section
/-! DEFINITION. The commands of the block: one constructor per row of spec/opcode_table.json, with what each brings from
outside. A mailbox request row carries the request; an event row carries what the event brings (a frame, a pin level, a
reading, the verdict of a check whose arithmetic the spec takes from an external standard). -/

namespace Sys2Proof

/-- A mailbox request as it lies in a slot: its channel, its header fields but OPCODE (the row gives it), its inline
payload, and what the DMA of its bulk descriptors did: the bytes each request descriptor's read returned (none: the read
failed) and the first response descriptor whose write failed (R44, R45). -/
structure Req where
  ch : Nat
  length : Nat
  seq : Nat
  flags : Nat
  txn : Nat
  resv : Nat
  payload : Bytes
  bulkReads : List (Option Bytes)
  bulkWriteFail : Option Nat
  deriving DecidableEq, Repr

/-- A request with its OPCODE, as a doorbell or an SPI write presents it. -/
structure HostReq where
  opcode : Nat
  rq : Req
  deriving DecidableEq, Repr

/-- A register access over PCIe or SPI: a write, or a read, which the table gives no row of its own (log 83). Its byte address is that
of the SPI address space, in which the BAR0 map begins at 0 and the BAR2 map at 0x0100_0000, over PCIe too; `value` holds what is
written (words in address order, least significant word first) and is 0 for a read. -/
structure BusAccess where
  spi : Bool
  write : Bool
  addr : Nat
  nbits : Nat
  value : Nat
  deriving DecidableEq, Repr

/-- An access through the Hopper aperture (R35): pool 1 to 5, byte offset, width in bytes. -/
structure ApertureAccess where
  write : Bool
  pool : Nat
  off : Nat
  width : Nat
  value : Nat
  deriving DecidableEq, Repr

/-- An ingress timestamp as the MAC registers it (R276): the local time at which the first byte arrived, the local time sampled at
the timestamp point, and the position of that point within the sampled cycle, in 2^-16 ns. -/
structure RxStamp where
  began : Nat
  sampled : Nat
  point : Nat
  deriving DecidableEq, Repr

/-- A frame that ends at an Ethernet MAC: its bytes from DA to before the FCS, whether the FCS was valid, how many code
violations it held, and the local time at which its first byte and its timestamp point were sampled (R276). -/
structure RxFrame where
  port : Nat
  bytes : Bytes
  fcsOk : Bool
  violations : Nat
  firstByte : Nat
  sampled : Nat
  /-- Fragments after the first of a preempted frame, whether its reassembly failed, and mPackets with an unknown SMD that
  came with it. -/
  frags : Nat
  assyFailed : Bool
  smdErr : Nat
  /-- On a TS segment: the node whose transmit opportunity it came in, and its place among that opportunity's frames. -/
  node : Nat
  nth : Nat
  /-- The last byte of its FCS is registered in the second SYS tick of its TIME tick (R209). -/
  second : Bool := false
  /-- Position of the timestamp point within the sampled cycle, in 2^-16 ns (R276). -/
  point : Nat := 0
  deriving DecidableEq, Repr

/-- A P90 descriptor as the host posted it. -/
structure P90Desc where
  addr : Nat
  /-- LENGTH (transmit) or BUF_SIZE (receive). -/
  length : Nat
  control : Nat
  tag : Nat
  deriving DecidableEq, Repr

/-- A Service Fabric request raised, or its latest-service time written again (R24). -/
structure ArbRaise where
  requester : Nat
  beats : Nat
  lst : Nat
  deriving DecidableEq, Repr

/-- What a port's link resolved: SPEED encoding and duplex. -/
structure LinkInfo where
  speed : Nat
  fullDuplex : Bool
  deriving DecidableEq, Repr

/-- Which frame enters the pipeline: the head of a slice's ingress FIFO, or a frame still being received, with the bytes received so
far. -/
inductive ClassifySrc where
  | fifo (slice : Nat)
  | arriving (f : RxFrame)
  deriving DecidableEq, Repr

/-- A CAN frame. -/
structure CanFrame where
  id : Nat
  ext : Bool
  fd : Bool
  brs : Bool
  esi : Bool
  rtr : Bool
  data : Bytes
  deriving DecidableEq, Repr

/-- A CAN bus error (ISO 11898-1): its kind (0 bit, 1 stuff, 2 form, 3 CRC, 4 acknowledge), whether the channel was
transmitting, whether as a receiver it adds 8 (else 1) to REC, and whether it is one of the transmitter's errors that leave TEC
as it is. -/
structure CanError where
  kind : Nat
  transmitting : Bool
  dominantAfter : Bool
  exempt : Bool
  deriving DecidableEq, Repr

/-- A character on a serial channel, with its errors, and the local time of its last stop bit. -/
structure SerialChar where
  value : Nat
  parity : Bool
  framing : Bool
  brk : Bool
  deriving DecidableEq, Repr

/-- A Sync with its Follow_Up, or a one-step Sync: preciseOriginTimestamp in ns, correctionField in 2^-16 ns, the Sync's ingress
timestamp, rateRatio - 1 in 2^-41, and the grandmaster. -/
structure SyncSample where
  origin : Nat
  corr : Int
  stamp : RxStamp
  rate : Int
  gmId : Nat
  stepsRemoved : Nat
  utcOffset : Int
  port : Nat
  deriving DecidableEq, Repr

/-- What a gPTP interval sends. -/
inductive GptpKind where
  | sync | announce | pdelayReq
  deriving DecidableEq, Repr

/-- What the best master clock algorithm (IEEE 802.1AS-2020 clause 10) selects: the slave port, the grandmaster and the
steps removed; the device itself when `self`. -/
structure BmcaResult where
  self : Bool
  port : Nat
  gmId : Nat
  stepsRemoved : Nat
  deriving DecidableEq, Repr

/-- A gPTP message received that is no Sync sample: its domain, its kind (0 Announce, 1 peer delay request, 2 the message that
completes a peer delay response, 3 another); the ingress timestamp of a request or response; for a response the responder's receipt and
origin times t2 and t3 in 2^-16 ns, and neighborRateRatio - 1 in 2^-41; for an Announce what the best master clock algorithm then
selects. -/
structure GptpMsg where
  domain : Nat
  kind : Nat
  stamp : RxStamp
  t2 : Int
  t3 : Int
  nrr : Int
  bmca : BmcaResult
  deriving DecidableEq, Repr

/-- A cipher job written to a register page. -/
structure PageJob where
  dir : Nat
  slot : Nat
  nblocks : Nat
  src : Nat
  dst : Nat
  lst : Nat
  deriving DecidableEq, Repr

/-- Straps at the rising edge of PORST_N, and whether VDD_AON stayed present. -/
structure PowerPins where
  spi : Bool
  twinRole : Bool
  aonKept : Bool
  vddioB : Nat := 3300
  deriving DecidableEq, Repr

/-- What the ROM finds on its way through a boot: the BOOT_SRC strap, its self-checks, whether a copy of the lifecycle record is
readable (else the failing word), the banks (component * 2 + bank) whose image or manifest fails its authentication, the key blob
records (slot * 2 + record) that fail theirs, the contents of the external store, and the trimmed VID code. -/
structure BootInfo where
  bootSrc : Nat
  romDigestOk : Bool
  comparatorOk : Bool
  lifecycleReadable : Bool
  lifecycleWord : Nat
  badBanks : List Nat
  badBlobs : List Nat
  flash : Bytes
  vidTrim : Nat
  deriving DecidableEq, Repr

/-- A memory error: the memory as numbered in the on-chip memories table, corrected or not, and its word address. -/
structure MemError where
  memory : Nat
  corrected : Bool
  word : Nat
  deriving DecidableEq, Repr

/-- The commands: one constructor per row of spec/opcode_table.json, in its order. -/
inductive Instr where
  /-- REGISTER_WRITE (R31): A host write to a BAR0 or SPI-mapped register with no behaviour of its own stores the value; a badly sized BAR0 access completes with Unsupported Request. -/
  | registerWrite (a : BusAccess)
  /-- MBX_REQ_PROD_DOORBELL (R43): A write to MBX_REQ_PROD rings the channel doorbell; the device reads each new request whole and takes it for execution. -/
  | mbxReqProdDoorbell (ch prod : Nat) (reqs : List HostReq)
  /-- MBX_RSP_CONS_WRITE (R38): The host advances MBX_RSP_CONS, which consumes a response and frees an outstanding slot. -/
  | mbxRspConsWrite (ch val : Nat)
  /-- MBX_CHAN_RESET (R42): Writing 0x0000_5A5A discards unstarted requests, aborts the channel's transaction, zeroes the indices and posts SYS_CHANNEL_RESET. -/
  | mbxChanReset (ch val : Nat)
  /-- MBX_CHANNEL_ENABLE (R40): A write of MBX_CTRL ENABLE enables or disables the mailbox channel. -/
  | mbxChannelEnable (ch val : Nat)
  /-- HIF_IRQ_STATUS_CLEAR (R33): A W1C write clears interrupt status bits; a source set again in the same tick is raised again. -/
  | hifIrqStatusClear (val again : Nat)
  /-- HIF_EVT_CONS_WRITE (R51): The host advances the event consumer index, freeing ring space; the first entry then written after loss is SYS_EVENTS_LOST. -/
  | hifEvtConsWrite (val : Nat)
  /-- EVT_RING_ENABLE (R417): Setting HIF_EVT_CTRL ENABLE writes the events held in the internal history to the ring, oldest first. -/
  | evtRingEnable (val : Nat)
  /-- EVT_OVERFLOW_CLEAR (R51): Writing 1 to HIF_EVT_CTRL OVERFLOW clears the overflow flag. -/
  | evtOverflowClear (val : Nat)
  /-- EVENT_HOLDOFF_EXPIRY (R50): The HOLDOFF delay after the first new event entry expires and the EVENT source is raised. -/
  | eventHoldoffExpiry
  /-- COUNTER_LOW_HALF_READ (R34): A 32-bit read of a counter's low half latches its high half for the next read by the same requester. -/
  | counterLowHalfRead (requester off : Nat)
  /-- HOPPER_APERTURE_ACCESS (R35): A host access through the Hopper aperture reaches only buffers owned by host DMA; any other access reads zero, discards the write and counts APERTURE_VIOLATION. -/
  | hopperApertureAccess (a : ApertureAccess)
  /-- FUNCTION_LEVEL_RESET (R32): A PCIe function level reset resets BAR0, discards pending requests and responses, aborts a PCIe-owned transaction and disables the P90 rings. -/
  | functionLevelReset
  /-- SPI_WRITE_REQUEST (R37): A WRITE to a request port is taken when HSPI_CS_N rises, or is rejected with a BUSY response when the channel or the SPI buffer is full. -/
  | spiWriteRequest (ch : Nat) (r : HostReq)
  /-- SPI_READ_RESPONSE (R38): A READ at a response port returns the oldest unconsumed response of the channel. -/
  | spiReadResponse (ch : Nat)
  /-- SPI_STATUS_READ (R36): The STATUS instruction returns the malformed and rejected bits and clears both. -/
  | spiStatusRead
  /-- IN_BAND_REQUEST_FRAME (R47): A management frame addressed to BASE_MAC is checked for port, VLAN, peer, DIR, CMAC and replay, and is then taken as a mailbox request or dropped and counted. -/
  | inBandRequestFrame (f : RxFrame)
  /-- MAILBOX_RESPONSE_POSTED (R41): A command completes, its response is written whole, the producer index advances and its interrupt source is raised. -/
  | mailboxResponsePosted (ch : Nat)
  /-- TXN_IDLE_TIMEOUT (R56): An open transaction's idle timeout expires; it is aborted and TXN_ENDED is posted with reason 3. -/
  | txnIdleTimeout
  /-- P90_RING_TAIL_WRITE (R62): The host writes a P90 ring TAIL, posting transmit or receive descriptors. -/
  | p90RingTailWrite (tx : Bool) (ring tail : Nat) (ds : List P90Desc)
  /-- P90_RING_ENABLE (R61): A write of a P90 ring CTRL ENABLE enables or disables the ring. -/
  | p90RingEnable (tx : Bool) (ring val : Nat)
  /-- P90_TX_FRAME_FETCH (R64): P90 takes the next posted transmit descriptor from the highest enabled ring, checks LENGTH, injects the frame into the fabric and writes back STATUS. -/
  | p90TxFrameFetch (dma : Option (List Byte))
  /-- P90_RX_DELIVERY (R63): A frame leaving at P90 is written to a posted descriptor of its class ring with a single write-back, or is dropped as too big. -/
  | p90RxDelivery
  /-- P90_HOLDOFF_EXPIRY (R61): A P90 ring's HOLDOFF after its first unsignalled completion expires and its interrupt status bit is set. -/
  | p90HoldoffExpiry (tx : Bool) (ring : Nat)
  /-- SYS_IDENTIFY (R30): Returns the part, stepping, lifecycle, stage, UID, BASE_MAC and protocol version. -/
  | sysIdentify (rq : Req)
  /-- SYS_VERSION (R382): Returns the version records of every bank and of the ROM. -/
  | sysVersion (rq : Req)
  /-- SYS_RESET (R406): Checks CONFIRM, posts OK and schedules a system reset, with or without Kiln entry. -/
  | sysReset (rq : Req)
  /-- SYS_RESET_START (R406): The system reset requested by SYS_RESET begins between 100 µs and 1 ms after the response. -/
  | sysResetStart
  /-- SYS_CLAIMS_LIST (R26): Lists the committed resource claims and their owners. -/
  | sysClaimsList (rq : Req)
  /-- SYS_COUNTER_SNAPSHOT (R58): Latches the selected counter regions on one TIME tick and copies them to the snapshot window. -/
  | sysCounterSnapshot (rq : Req)
  /-- SYS_COUNTER_CLEAR (R59): Clears a range of counters, each in one tick of its own domain. -/
  | sysCounterClear (rq : Req)
  /-- SYS_EVENT_FETCH (R52): Reads entries from the internal event history. -/
  | sysEventFetch (rq : Req)
  /-- SYS_CHANNEL_CFG (R60): Stages a channel binding to the host transport or to in-band management. -/
  | sysChannelCfg (rq : Req)
  /-- CHANNEL_REBIND (R60): After the COMMIT response and the completion of outstanding commands, the channel moves to its new binding and SYS_CHANNEL_RESET is posted. -/
  | channelRebind (ch : Nat)
  /-- TXN_BEGIN (R53): Opens the single configuration transaction and returns its ID. -/
  | txnBegin (rq : Req)
  /-- TXN_COMMIT (R55): Evaluates releases, claims, capacities and admission, and applies the staged commands as one generation or refuses them all. -/
  | txnCommit (rq : Req)
  /-- GEN_FLIP (R150): Once no old-generation frame remains, or after 2 µs, GEN is inverted, L0 reopens and LTR_GEN_FLIP is posted. -/
  | genFlip
  /-- TXN_ABORT (R443): Aborts the open transaction from its owning channel. -/
  | txnAbort (rq : Req)
  /-- TXN_STATUS (R443): Reports the open transaction, its owner, state, staged count and idle time left. -/
  | txnStatus (rq : Req)
  /-- SERVICE_ARBITER_ROUND (R19): In each CPU cycle the arbiter chooses among waiting Service Fabric requests, grants, revokes and advances the wait counters. -/
  | serviceArbiterRound (raised : List ArbRaise)
  /-- FABRIC_TRANSFER_COMMIT (R22): A Service Fabric transfer commits at its last beat and its requester's wait counter returns to zero. -/
  | fabricTransferCommit
  /-- PORT_CFG (R90): Stages a port's admin state, mode, advertisement, frame limit, hold, filter mode, PHY address and stepping. -/
  | portCfg (rq : Req)
  /-- PORT_FILTER_SET (R79): Stages a port's receive filter entries and hash bins. -/
  | portFilterSet (rq : Req)
  /-- PORT_PLCA_CFG (R80): Stages a TS port's PLCA parameters. -/
  | portPlcaCfg (rq : Req)
  /-- PORT_STATUS (R82): Returns a port's state, speed, PLCA status, hold time left, step level and PHY ID. -/
  | portStatus (rq : Req)
  /-- PORT_MDIO (R71): Performs a clause 22 or clause 45 access to an external PHY, refusing writes to the control registers of an enabled port. -/
  | portMdio (rq : Req)
  /-- MAC_FRAME_RECEIVED (R72): A frame ends at an Ethernet MAC and is judged by length, FCS and code violations, then filtered, passed to the slice FIFO or dropped and counted. -/
  | macFrameReceived (f : RxFrame)
  /-- CUT_THROUGH_OVERSIZE (R73): The receiving MAC counts byte M + 1 of a cut-through frame; each egress ends it with a stomped FCS.
  `sent`: the frame bytes the egress has sent when the crossing reaches it; `bytes`: those received up to the crossing. -/
  | cutThroughOversize (port : Nat) (sent : Nat) (bytes : Bytes := [])
  /-- LINK_DOWN (R82): A port goes down, stops starting frames, starts its flap-hold timer and posts PORT_LINK_DOWN. -/
  | linkDown (port cause : Nat)
  /-- LINK_UP (R85): A port comes up, applies the resolved speed and duplex, resumes its queues within the hold, and posts PORT_LINK_UP. -/
  | linkUp (port : Nat) (i : LinkInfo)
  /-- FLAP_HOLD_EXPIRY (R84): The hold expires with the port down; every queue is flushed, FDB entries are removed and PORT_HOLD_EXPIRED is posted. -/
  | flapHoldExpiry (port : Nat)
  /-- PLCA_BEACON_RECEIVED (R81): A follower receives the coordinator's PLCA beacon and, if it was down, comes up. -/
  | plcaBeaconReceived (port : Nat)
  /-- PLCA_BEACON_TIMEOUT (R81): No beacon arrives for 200 bit times past the expected cycle end; PLCA status fails and the port goes down. -/
  | plcaBeaconTimeout (port : Nat)
  /-- PLCA_TRANSMIT_OPPORTUNITY (R170): The port's PLCA transmit opportunity arrives and the offered frame, or a due time beacon, starts on the segment. `point`: the timestamp point's position in
  its sampled cycle, in 2^-16 ns (R276). -/
  | plcaTransmitOpportunity (port : Nat) (point : Nat := 0)
  /-- UTILISATION_INTERVAL_END (R86): A 100 ms utilisation interval ends and the port may step down after its dwell or step up to full rate. -/
  | utilisationIntervalEnd (port : Nat)
  /-- STEP_UP_QUEUE_THRESHOLD (R87): A port's egress queues exceed STEP_UP_QUEUE and the port steps up to full rate at once. -/
  | stepUpQueueThreshold (port : Nat)
  /-- RETRAIN_FAIL_TIMEOUT (R88): A step's retrain does not bring the link up within 5 s; PORT_PHY_FAULT is posted and the full rate is restored. -/
  | retrainFailTimeout (port : Nat)
  /-- PHY_STATUS_POLL (R70): Every second the firmware reads each managed PHY's fault and link status and posts PORT_PHY_FAULT on a fault. -/
  | phyStatusPoll (faults : List Nat)
  /-- FRAME_CLASSIFY (R124): A frame from a slice FIFO or from P92 passes Grist, stream identification and Lauter and is enqueued, dropped or copied. -/
  | frameClassify (src : ClassifySrc)
  /-- FRAME_VALID_END (R125): In the tick in which a frame's valid end is registered, learning, age bits, policer charging and stream filter, meter, interval and FRER state take effect. -/
  | frameValidEnd (id : Nat)
  /-- CUT_THROUGH_START (R105): Once 128 bytes have arrived and classification is complete, an eligible frame starts on the egress wire before it has been fully received. -/
  | cutThroughStart (port : Nat) (point : Nat := 0)
  /-- MATCHING_SLOT (R99): Every 16 ns the scheduler runs three request-grant-accept iterations and moves matched VOQ heads to the transmit stages. -/
  | matchingSlot
  /-- RECIRC_READER_MOVE (R149): The recirculation reader moves one cell of a P92 frame into slice S8. -/
  | recircReaderMove
  /-- CAPTURE_RECORD_WRITE (R110): A frame dequeued at P93 is written as a capture record, with a pad record where needed, or is dropped in STOP mode when full. -/
  | captureRecordWrite
  /-- LACPDU_RECEIVED (R112): A trapped slow-protocol frame is processed by LACP, which may change a member's distributing state. -/
  | lacpduReceived (port : Nat) (distributing : Bool)
  /-- FENCE_TIMEOUT (R115): FENCE_US passes since the move; the fence releases and the frames released are counted in REORDER_RISK. -/
  | fenceTimeout (group bucket : Nat)
  /-- HOPPER_ALLOC (R116): A buffer request is served from the smallest fitting pool, from the owner's reservation or the free buffers, or fails. -/
  | hopperAlloc (owner size : Nat)
  /-- HOPPER_REFCOUNT_INCREMENT (R117): A buffer's reference count is increased, or the increment is refused at 65,535. -/
  | hopperRefcountIncrement (requester handle : Nat)
  /-- HOPPER_REFCOUNT_DECREMENT (R117): A buffer's reference count is decreased and the buffer is freed at zero. -/
  | hopperRefcountDecrement (requester handle : Nat)
  /-- ENGINE_RESTART_RELEASE (R119): When an engine restarts, Hopper maintenance releases every reference it held. -/
  | engineRestartRelease (owner : Nat)
  /-- FAB_BUFFER_CFG (R97): Stages the class shares, twin reserve, cut-through mask and port limits. -/
  | fabBufferCfg (rq : Req)
  /-- FAB_MIRROR_CFG (R109): Stages a mirror session. -/
  | fabMirrorCfg (rq : Req)
  /-- FAB_CAPTURE_CFG (R110): Stages the capture ring mode and snap length and claims the ring. -/
  | fabCaptureCfg (rq : Req)
  /-- FAB_CAPTURE_ACK (R111): Acknowledges capture records up to READ_OFF in STOP mode. -/
  | fabCaptureAck (rq : Req)
  /-- FAB_LAG_CFG (R112): Stages a link aggregation group. -/
  | fabLagCfg (rq : Req)
  /-- FAB_LAG_STATUS (R114): Returns a group's distributing mask, open fences and bucket map. -/
  | fabLagStatus (rq : Req)
  /-- FAB_HOPPER_CFG (R119): Stages a Hopper reservation for an owner. -/
  | fabHopperCfg (rq : Req)
  /-- FAB_HOPPER_STATUS (R116): Returns free, reserved and host-held buffer counts per pool. -/
  | fabHopperStatus (rq : Req)
  /-- FAB_HOPPER_ALLOC (R116): Allocates an engine buffer for host DMA. -/
  | fabHopperAlloc (rq : Req)
  /-- FAB_HOPPER_FREE (R117): Decrements a host buffer's reference count. -/
  | fabHopperFree (rq : Req)
  /-- FAB_QUEUE_STATUS (R94): Returns a port's cell and frame occupancy per class. -/
  | fabQueueStatus (rq : Req)
  /-- FDB_AGE_SCAN (R134): Once every AGE_TIME the scanner removes dynamic entries whose age bit is clear and clears the bits that are set. -/
  | fdbAgeScan
  /-- CT_AGE_SCAN (R141): Every 100 ms the scanner removes connection entries idle for their state's timeout. -/
  | ctAgeScan
  /-- BINDING_CT_PURGE (R130): Within 1 ms of a binding clear, every connection entry that records the binding's zone is removed. -/
  | bindingCtPurge (zone : Nat)
  /-- LTR_PORT_CFG (R126): Stages a port's L0 entry. -/
  | ltrPortCfg (rq : Req)
  /-- LTR_VLAN_SET (R126): Stages a VLAN entry. -/
  | ltrVlanSet (rq : Req)
  /-- LTR_FDB_STATIC (R135): Stages the addition or deletion of a static FDB entry. -/
  | ltrFdbStatic (rq : Req)
  /-- LTR_FDB_CFG (R134): Stages AGE_TIME. -/
  | ltrFdbCfg (rq : Req)
  /-- LTR_FDB_FLUSH (R132): Removes dynamic FDB entries by scope. -/
  | ltrFdbFlush (rq : Req)
  /-- LTR_FDB_READ (R131): Reads FDB entries. -/
  | ltrFdbRead (rq : Req)
  /-- LTR_MCAST_GROUP (R131): Stages a multicast group's port mask. -/
  | ltrMcastGroup (rq : Req)
  /-- LTR_ACL_WRITE (R136): Stages the write or invalidation of a TCAM entry. -/
  | ltrAclWrite (rq : Req)
  /-- LTR_PROFILE_SET (R146): Stages an L5 profile. -/
  | ltrProfileSet (rq : Req)
  /-- LTR_POLICER_SET (R147): Stages a policer. -/
  | ltrPolicerSet (rq : Req)
  /-- LTR_ZONE_MATRIX (R145): Stages one row of the zone matrix. -/
  | ltrZoneMatrix (rq : Req)
  /-- LTR_CT_CFG (R141): Stages CT_SEED, LOOSE, SPIRE_RATE and the state timeouts. -/
  | ltrCtCfg (rq : Req)
  /-- LTR_CT_FLUSH (R140): Removes connection entries, all of them or those of one zone. -/
  | ltrCtFlush (rq : Req)
  /-- LTR_CT_READ (R140): Reads connection entries. -/
  | ltrCtRead (rq : Req)
  /-- LTR_ZONE_BIND_STATUS (R128): Reads a session zone binding. -/
  | ltrZoneBindStatus (rq : Req)
  /-- LTR_GEN_STATUS (R150): Returns the rule bank in force and the pause figures. -/
  | ltrGenStatus (rq : Req)
  /-- FRAME_TX_START (R168): At a start opportunity Belfry selects the highest eligible class whose head frame fits its window, and the MAC starts it. `point`: the timestamp point's position in
  its sampled cycle, in 2^-16 ns (R276). -/
  | frameTxStart (port : Nat) (collision : Bool) (point : Nat := 0)
  /-- TX_FRAME_COMPLETE (R168): The egress MAC completes a frame, which is counted, and the next start opportunity opens. -/
  | txFrameComplete (port : Nat)
  /-- GATE_ENTRY_CHANGE (R171): A gate list entry's interval ends and the next entry's gate states and hold operation take effect, issued ahead of time. -/
  | gateEntryChange (port : Nat)
  /-- GATE_LIST_SWITCH (R174): At the switch time the admin list becomes oper, GATE_SWITCHES is counted and STR_GATE_SWITCH is posted. -/
  | gateListSwitch (port : Nat)
  /-- PREEMPT_VERIFY_RESPONSE (R183): A response to a verify mPacket arrives and preemption becomes active. -/
  | preemptVerifyResponse (port : Nat)
  /-- PREEMPT_VERIFY_TIMEOUT (R183): VERIFY_MS passes without a response; the verify mPacket is resent, or verification fails after the third. -/
  | preemptVerifyTimeout (port : Nat)
  /-- BELFRY_CMP (R186): The two Belfry instances' output vectors differ in a TIME tick, raising an F2 fault. -/
  | belfryCmp (port mask : Nat)
  /-- QUEUE_OBSERVE_SAMPLE (R187): At each multiple of PERIOD_US a record is written per sampled class, with STR_QUEUE_ALARM when MAX_DELAY_NS exceeds ALARM_NS. -/
  | queueObserveSample (port : Nat)
  /-- FRER_RESET_TIMEOUT (R166): A recovery entry's reset timer expires and the entry enters TAKE_ANY. -/
  | frerResetTimeout (entry : Nat)
  /-- FRER_LATENT_PERIOD_END (R167): A latent-error period ends and STR_FRER_LATENT is posted on a shortfall. -/
  | frerLatentPeriodEnd (entry : Nat)
  /-- STR_STREAM_SET (R158): Stages a stream entry. -/
  | strStreamSet (rq : Req)
  /-- STR_METER_SET (R164): Stages a flow meter. -/
  | strMeterSet (rq : Req)
  /-- STR_GATE_CFG (R174): Stages a port's gate list enable, length, cycle and base time. -/
  | strGateCfg (rq : Req)
  /-- STR_GATE_ENTRIES (R188): Stages gate list entries. -/
  | strGateEntries (rq : Req)
  /-- STR_CBS_SET (R182): Stages a credit-based shaper. -/
  | strCbsSet (rq : Req)
  /-- STR_PREEMPT_CFG (R183): Stages frame preemption on a port. -/
  | strPreemptCfg (rq : Req)
  /-- STR_FRER_SET (R165): Stages a sequence generator or a recovery entry. -/
  | strFrerSet (rq : Req)
  /-- STR_OBSERVE_CFG (R187): Stages queue observation on a port. -/
  | strObserveCfg (rq : Req)
  /-- STR_OBSERVE_READ (R187): Reads observation records. -/
  | strObserveRead (rq : Req)
  /-- STR_GATE_STATUS (R174): Returns a port's gate list state. -/
  | strGateStatus (rq : Req)
  /-- STR_FILTER_RESET (R160): Unblocks a stream filter, unlatches a meter or puts a recovery entry into TAKE_ANY. -/
  | strFilterReset (rq : Req)
  /-- STR_STREAM_STATUS (R159): Returns a stream's flags, interval count, meter credits and recovered sequence. -/
  | strStreamStatus (rq : Req)
  /-- ADM_PATH_SET (R191): Stages a declared path through engines. -/
  | admPathSet (rq : Req)
  /-- ADM_BUS_DECLARE (R202): Stages a device-scheduled bus declaration. -/
  | admBusDeclare (rq : Req)
  /-- ADM_REPORT_READ (R206): Reads the stored admission report. -/
  | admReportRead (rq : Req)
  /-- CUPOLA_FRAME_DEQUEUE (R208): A frame dequeued at P95 is tested for trips, then treated as a reply, a command, or dropped. -/
  | cupolaFrameDequeue
  /-- FAN_OUT_STEP (R215): After its Service Fabric grant the step writes the request record, computes each member value and emits copies or a packed frame.
  `copies`: how many frames are handed over before something else may happen. -/
  | fanOutStep (copies : Nat := 1)
  /-- FOLD_END (R218): The fold ends at opening plus W, or when every leaf has been folded. -/
  | foldEnd (group : Nat)
  /-- FAN_IN_STEP (R219): The fold record goes to the Spire pair and Cask through requester 3, and the group reply is emitted within 500 ns. -/
  | fanInStep
  /-- CUPOLA_BANK_FLIP (R227): Once no window is open under the target bank, the commit writes the new expansion lists, flips the bank and posts CUP_FLIP. -/
  | cupolaBankFlip
  /-- CUP_GROUP_SET (R211): Stages a power group. -/
  | cupGroupSet (rq : Req)
  /-- CUP_MEMBERS_SET (R211): Stages member list entries of a group. -/
  | cupMembersSet (rq : Req)
  /-- CUP_TRIP_SET (R225): Stages a group's trip match, template and pin. -/
  | cupTripSet (rq : Req)
  /-- CUP_TRIP_CLEAR (R226): Releases a tripped group's pin and returns the group to service. -/
  | cupTripClear (rq : Req)
  /-- CUP_GROUP_STATUS (R222): Returns a group's state and latest fold. -/
  | cupGroupStatus (rq : Req)
  /-- CUP_EXPANSION_READ (R212): Reads a group's flattened expansion list. -/
  | cupExpansionRead (rq : Req)
  /-- P94_FRAME_TO_CHANNEL (R229): A frame queued at P94 for a CN or SL port is accepted as a tunnel or serial frame for that channel, or dropped. -/
  | p94FrameToChannel
  /-- P94_FRAME_TO_GATEWAY (R230): A frame addressed to P94 itself is matched to a raw channel, an ACF_IN PDU or an ETH PDU, or is dropped. -/
  | p94FrameToGateway
  /-- CAN_FRAME_RECEIVED (R236): A CAN frame ends at EOF, passes acceptance, and becomes a source PDU reception, a tunnelled frame or a drop. -/
  | canFrameReceived (ch : Nat) (f : CanFrame)
  /-- CAN_PROTOCOL_EXCEPTION (R234): A recessive res bit ends reception without an error frame, and the controller waits for 11 recessive bits. -/
  | canProtocolException (ch : Nat)
  /-- CAN_ARBITRATION_START (R237): At each start of arbitration the controller offers the buffered frame with the lowest key. -/
  | canArbitrationStart (ch : Nat) (won : Bool)
  /-- CAN_TX_COMPLETE (R237): A CAN frame that won arbitration ends and is counted in CAN_TX_OK. `edges`: the falling edges seen on CAN_RX, in BUS
  cycles after the one on CAN_TX (R233). -/
  | canTxComplete (ch : Nat) (edges : List Nat)
  /-- CAN_TX_LATE (R239): A tunnelled frame's latest transmit time passes before SOF and the frame is removed. -/
  | canTxLate (ch : Nat)
  /-- CAN_BUS_ERROR (R240): A bus error updates the error counters and may change the error state, up to bus-off. -/
  | canBusError (ch : Nat) (e : CanError)
  /-- BUS_OFF_DELAY_EXPIRY (R240): BOFF_DELAY_MS passes with BOFF_AUTO set and the recovery sequence starts. -/
  | busOffDelayExpiry (ch : Nat)
  /-- BUS_OFF_RECOVERY_COMPLETE (R240): 128 occurrences of 11 recessive bits have been seen; the counters return to 0 and GW_CAN_STATE reports recovered. -/
  | busOffRecoveryComplete (ch : Nat)
  /-- ACF_OUT_ACCUM_EXPIRY (R243): ACCUM_US passes since the first held message and the tunnel frame is emitted. -/
  | acfOutAccumExpiry (pdu : Nat)
  /-- SERIAL_CHAR_RECEIVED (R245): A serial character is received, checked for parity and framing, and stored, or lost on overrun. -/
  | serialCharReceived (ch : Nat) (c : SerialChar)
  /-- RAW_MESSAGE_CLOSE (R247): A raw channel closes a message after its idle gap, or at MAX_BYTES, and sends it through its SERIAL_ENC PDU. -/
  | rawMessageClose (ch : Nat)
  /-- POLL_DUE (R250): A periodic poll entry's due time comes; it is queued, or the miss is counted in POLL_SKIPPED. -/
  | pollDue (entry : Nat)
  /-- POLL_TRANSACTION_START (R250): After INTER_POLL_US the engine sends the request of the next due entry and starts the response timer. -/
  | pollTransactionStart (ch : Nat)
  /-- POLL_REPLY_RECEIVED (R251): A reply completes with its t3.5 gap and is validated, delivered, treated as an exception or retried.
  `bytes`: the characters read; `idles`: the silence before each, in ns (R249). -/
  | pollReplyReceived (ch : Nat) (bytes : Bytes) (idles : List Nat)
  /-- POLL_RESPONSE_TIMEOUT (R251): The response timer expires; the attempt is retried, or the poll fails with GW_POLL_FAIL. -/
  | pollResponseTimeout (ch : Nat)
  /-- SGE_ROUTE_STEP (R261): SGE processes a source reception after its Service Fabric grant, applying its routes in order and triggering sends. -/
  | sgeRouteStep
  /-- DST_PDU_CYCLIC_SEND (R257): A cyclic destination PDU sends its content at its grid instant. -/
  | dstPduCyclicSend (pdu : Nat)
  /-- DST_PDU_DEFERRED_SEND (R257): A send deferred by MIN_GAP_US is made at the gap's end, carrying every change made meanwhile. -/
  | dstPduDeferredSend (pdu : Nat)
  /-- SRC_PDU_TIMEOUT (R258): A source PDU's reception timer expires; its routes write their substitutes and GW_RX_TIMEOUT is posted. -/
  | srcPduTimeout (pdu : Nat)
  /-- GW_CAN_CFG (R232): Stages a CAN channel's mode and bit timing. -/
  | gwCanCfg (rq : Req)
  /-- GW_CAN_FILTER (R235): Stages a CAN channel's acceptance entries. -/
  | gwCanFilter (rq : Req)
  /-- GW_SERIAL_CFG (R245): Stages a serial channel. -/
  | gwSerialCfg (rq : Req)
  /-- GW_POLL_SET (R250): Stages a poll entry. -/
  | gwPollSet (rq : Req)
  /-- GW_SRC_PDU_SET (R258): Stages a source PDU. -/
  | gwSrcPduSet (rq : Req)
  /-- GW_DST_PDU_SET (R257): Stages a destination PDU. -/
  | gwDstPduSet (rq : Req)
  /-- GW_ROUTE_SET (R254): Stages signal routes. -/
  | gwRouteSet (rq : Req)
  /-- GW_SCALE_SET (R255): Stages a scale entry. -/
  | gwScaleSet (rq : Req)
  /-- GW_CAN_RECOVER (R240): Starts the bus-off recovery sequence of a channel. -/
  | gwCanRecover (rq : Req)
  /-- GW_CAN_STATUS (R240): Returns a CAN channel's state, error counters, TDCV and buffer use. -/
  | gwCanStatus (rq : Req)
  /-- GW_SERIAL_STATUS (R245): Returns a serial channel's actual rate and poll state. -/
  | gwSerialStatus (rq : Req)
  /-- GW_PDU_READ (R258): Reads a source or destination PDU's content and flags. -/
  | gwPduRead (rq : Req)
  /-- GW_PDU_SEND (R257): Writes bytes into a destination PDU's content and sends it. -/
  | gwPduSend (rq : Req)
  /-- GW_POLL_NOW (R250): Queues a poll entry on demand. -/
  | gwPollNow (rq : Req)
  /-- SYNC_SAMPLE (R265): A Sync or Follow_Up arrival gives an offset and rate sample, which the servo uses and which updates the slot state. -/
  | syncSample (slot : Nat) (y : SyncSample)
  /-- SYNC_RECEIPT_TIMEOUT (R267): A slot's sync receipt timer expires; it enters HOLDOVER or LISTENING. -/
  | syncReceiptTimeout (slot : Nat)
  /-- GPTP_MESSAGE_RECEIVED (R274): A gPTP message other than a Sync sample is handled by the relay, the BMCA or the link delay service, or dropped as another domain. -/
  | gptpMessageReceived (port : Nat) (m : GptpMsg)
  /-- PDELAY_TIMEOUT (R274): Peer delay responses stop for 3 intervals and the port is no longer asCapable. -/
  | pdelayTimeout (port : Nat)
  /-- GPTP_INTERVAL_SEND (R274): The firmware sends the periodic gPTP messages of a slot on its master ports. -/
  | gptpIntervalSend (slot port : Nat) (kind : GptpKind)
  /-- TS_FIFO_DRAIN (R279): At each 250 ns multiple one entry of each non-empty timestamp FIFO becomes an event or returns to gPTP, and a pending loss record is written. -/
  | tsFifoDrain
  /-- BEACON_DUE (R280): A T1S time beacon falls due and replaces an unsent one, which is counted as skipped. -/
  | beaconDue (port : Nat)
  /-- TIME_IO_EDGE (R282): A programmed output edge is driven in its TIME tick, with PIN_COMP applied. -/
  | timeIoEdge (pin : Nat)
  /-- CAPTURE_EDGE (R285): A filtered input edge on a CAPTURE pin is timestamped and stored, or lost when the store is full. -/
  | captureEdge (pin : Nat) (rising : Bool) (held : Nat)
  /-- RTC_SECOND_SYNC (R355): At each local second boundary Lantern sets the RTC to the local seconds and trims the AON oscillator. -/
  | rtcSecondSync
  /-- TIME_CLOCK_CFG (R265): Stages the servo and clock parameters. -/
  | timeClockCfg (rq : Req)
  /-- TIME_DOMAIN_CFG (R274): Stages a gPTP domain slot. -/
  | timeDomainCfg (rq : Req)
  /-- TIME_PORT_CFG (R277): Stages a port's peer delay and latency parameters. -/
  | timePortCfg (rq : Req)
  /-- TIME_BEACON_CFG (R280): Stages a TS port's time beacon. -/
  | timeBeaconCfg (rq : Req)
  /-- TIME_IO_CFG (R282): Stages a TIME_IO pin's mode. -/
  | timeIoCfg (rq : Req)
  /-- TIME_STATUS (R269): Returns the clock quality and the state of both slots. -/
  | timeStatus (rq : Req)
  /-- TIME_READ (R270): Returns local time and both slot times latched on one tick. -/
  | timeRead (rq : Req)
  /-- TIME_SWITCH (R271): Makes a LOCKED slot the working slot, which the clock then reaches by slewing. -/
  | timeSwitch (rq : Req)
  /-- TIME_SET (R272): Steps the local clock to a given time and sets QUALITY to UNSYNCED. -/
  | timeSet (rq : Req)
  /-- TIME_CAPTURE_READ (R285): Reads and removes capture records of a pin. -/
  | timeCaptureRead (rq : Req)
  /-- TIME_PULSE (R284): Arms one pulse on a PULSE pin, replacing a pending one. -/
  | timePulse (rq : Req)
  /-- METER_READING_ARRIVAL (R293): A legal meter delivery that answers a session's reading request commits at Cask and is converted to mWh. -/
  | meterReadingArrival (session : Nat)
  /-- READ_ATTEMPT_TIMEOUT (R294): A reading attempt's timer expires; the attempt fails, is retried for a stop reading, or the command answers TIMEOUT. -/
  | readAttemptTimeout (session : Nat)
  /-- STOP_FOLD_WAIT_TIMEOUT (R297): No usable stop fold arrives within READ_TIMEOUT_MS after the stop reading; MODULE_MWH is 0. -/
  | stopFoldWaitTimeout (session : Nat)
  /-- RECORD_SEAL (R301): Cask checks plausibility, builds, signs, verifies and writes a record, then moves the session onwards. -/
  | recordSeal (session : Nat) (sigOk : Bool) (retryOk : Bool)
  /-- CASK_RESTART_RECOVERY (R307): After a reset, Cask verifies the chain, voids interrupted sequence values, and ends or keeps each kept session. -/
  | caskRestartRecovery (chainOk : Bool)
  /-- TAKEOVER_SESSION_RESEGMENT (R307): After takeover, the new active seals each running session's segment with END_CAUSE 4 and starts a new segment. -/
  | takeoverSessionResegment (session : Nat)
  /-- SES_OPEN (R289): Binds a session context to an outlet, meter, group and zone. -/
  | sesOpen (rq : Req)
  /-- SES_START (R293): Takes the start reading and makes the session ACTIVE. -/
  | sesStart (rq : Req)
  /-- SES_SUSPEND (R287): Moves an ACTIVE session to SUSPENDED. -/
  | sesSuspend (rq : Req)
  /-- SES_RESUME (R287): Moves a SUSPENDED session to ACTIVE. -/
  | sesResume (rq : Req)
  /-- SES_STOP (R293): Takes the stop reading, moves the session to CLOSING and seals its record. -/
  | sesStop (rq : Req)
  /-- SES_INTERIM (R294): Takes an interim reading. -/
  | sesInterim (rq : Req)
  /-- SES_REBIND (R291): Replaces the meter or group, sealing a segment at the boundary. -/
  | sesRebind (rq : Req)
  /-- SES_ABORT (R287): Returns a BOUND session to IDLE with no record. -/
  | sesAbort (rq : Req)
  /-- SES_STATUS (R286): Returns a session context. -/
  | sesStatus (rq : Req)
  /-- SES_RECORD_READ (R304): Reads released records from the ring, skipping void values. -/
  | sesRecordRead (rq : Req)
  /-- SES_ACK (R306): Acknowledges records or legal log entries up to a sequence number. -/
  | sesAck (rq : Req)
  /-- SES_LEGAL_ID (R302): Returns a signed identification of the legal partition. -/
  | sesLegalId (rq : Req)
  /-- SES_LEGAL_LOG_READ (R309): Reads legal log entries with a signature. -/
  | sesLegalLogRead (rq : Req)
  /-- SES_LEGAL_PARAM_UPDATE (R308): Applies a signed legal parameter block and its SGE changes as one generation and writes a marker. -/
  | sesLegalParamUpdate (rq : Req)
  /-- SES_RESEAL (R303): Retries a withheld seal. -/
  | sesReseal (rq : Req)
  /-- CIPHER_PAGE_GO (R322): A write of GO to a cipher register page submits a job. -/
  | cipherPageGo (requester page : Nat) (j : PageJob)
  /-- CIPHER_JOB_START (R322): The engine takes the next page in rotation, checks it, charges usage and latches the key and GEN. -/
  | cipherJobStart
  /-- CIPHER_JOB_RELEASE (R326): A completed job is checked against the inverse transform and the slot state, then released or withheld. -/
  | cipherJobRelease (inverseOk : Bool)
  /-- ECC_OPERATION_COMPLETE (R329): An ECC operation ends, is checked by verification or recomputation, and is released or withheld with a fault. -/
  | eccOperationComplete (firstOk secondOk : Bool)
  /-- RNG_HEALTH_FAIL (R330): A random number health test fails; RNG_HEALTH is recorded and the generator answers FAULT. -/
  | rngHealthFail (kind : Nat)
  /-- RNG_RETEST (R330): One second after a failure the test reruns; three consecutive failures keep the generator failed. -/
  | rngRetest (ok : Bool)
  /-- TAMPER_ALARM (R332): A tamper source becomes active past its filter; Lantern latches it and Keep locks, holds or logs as ACTION gives. -/
  | tamperAlarm (src held : Nat)
  /-- TAMPER_HOLD_RESET (R332): After Cask's log entry, a HOLD alarm resets the device into TAMPER_HOLD within 5 ms. -/
  | tamperHoldReset
  /-- LIFECYCLE_RESET (R312): Between 100 µs and 1 ms after an accepted LIFECYCLE message the device resets into the new state. -/
  | lifecycleReset
  /-- KEEP_SLOT_INFO (R315): Returns a key slot record. -/
  | keepSlotInfo (rq : Req)
  /-- KEEP_UPDATE (R318): Checks and applies an authenticated update message: key install, generate, erase or lifecycle change. -/
  | keepUpdate (rq : Req)
  /-- KEEP_DERIVE (R320): Derives or erases a child key slot. -/
  | keepDerive (rq : Req)
  /-- KEEP_CIPHER (R322): Runs a host AES block job through the channel's register page. -/
  | keepCipher (rq : Req)
  /-- KEEP_SIGN (R329): Signs a digest or data with ECDSA. -/
  | keepSign (rq : Req)
  /-- KEEP_VERIFY (R329): Verifies an ECDSA signature. -/
  | keepVerify (rq : Req)
  /-- KEEP_HASH (R44): Returns the SHA-256 or SHA-384 of data. -/
  | keepHash (rq : Req)
  /-- KEEP_RANDOM (R330): Returns random bytes. -/
  | keepRandom (rq : Req)
  /-- KEEP_COUNTER_READ (R313): Returns the 16 monotonic counters. -/
  | keepCounterRead (rq : Req)
  /-- KEEP_COUNTER_INCREMENT (R313): Increments a general-purpose monotonic counter. -/
  | keepCounterIncrement (rq : Req)
  /-- KEEP_ATTEST (R331): Returns a signed attestation statement. -/
  | keepAttest (rq : Req)
  /-- KEEP_IDENTITY (R331): Returns the attestation key certificate. -/
  | keepIdentity (rq : Req)
  /-- KEEP_TAMPER_CFG (R332): Stages the tamper source configuration. -/
  | keepTamperCfg (rq : Req)
  /-- KEEP_TAMPER_STATUS (R332): Returns the latched and active tamper sources. -/
  | keepTamperStatus (rq : Req)
  /-- KEEP_ALIVE_TIMEOUT (R342): A domain's keep-alive timer expires and the domain enters PREPARE unless it has a hold. -/
  | keepAliveTimeout (domain : Nat)
  /-- PREPARE_EXPIRY (R344): PREPARE_MS ends and the first sleep indication is sent, or the commit point is reached. -/
  | prepareExpiry (domain : Nat)
  /-- SLEEP_INDICATION_SEND (R344): After IND_GAP_MS the next sleep indication is sent. -/
  | sleepIndicationSend (domain : Nat)
  /-- SLEEP_COMMIT_POINT (R345): The end of the final indication is registered; the domain is ASLEEP, its ports sleep and its CAN_STB pins go to standby. -/
  | sleepCommitPoint (domain : Nat)
  /-- INDICATION_TIMEOUT (R345): An indication not completed within 100 ms of falling due makes the commit point and is counted in IND_FAILED. -/
  | indicationTimeout (domain : Nat)
  /-- DEVICE_SLEEP_ENTRY (R336): When every domain sleeps and no device hold exists, entry into DOZE or DORMANT begins. -/
  | deviceSleepEntry
  /-- DOZE_ENTRY_COMPLETE (R338): Queues have been flushed, engines stopped, usage counts written and SRAM retained; the device is in DOZE. -/
  | dozeEntryComplete
  /-- DORMANT_ENTRY_COMPLETE (R339): The device has entered DORMANT and only Lantern runs. -/
  | dormantEntryComplete
  /-- DORMANT_AFTER_EXPIRY (R336): The device has stayed DORMANT_AFTER_S seconds in DOZE and goes on into DORMANT. -/
  | dormantAfterExpiry
  /-- WAKE_PATTERN_DETECTED (R350): A class A source completes its filtered wake pattern and wakes its target, or a failed pattern is counted.
  `phases`: the levels seen and how long each lasted, in ns. -/
  | wakePatternDetected (source : Nat) (phases : List (Bool × Nat))
  /-- HOST_WAKE (R340): A doorbell write or an HSPI_CS_N fall during sleep wakes the device as host activity. -/
  | hostWake (spi : Bool)
  /-- RTC_ALARM_WAKE (R355): The RTC reaches ALARM_S and wakes its target. -/
  | rtcAlarmWake
  /-- LATCHED_WAKE_SERVE (R347): A wake latched during an entry is served in the first tick after the entry completes. -/
  | latchedWakeServe
  /-- WAKE_EXIT_COMPLETE (R353): The woken domain's ports forward again and the device is in PARTIAL. -/
  | wakeExitComplete (domain : Nat)
  /-- NO_TRAFFIC_TIMEOUT (R351): After a class B wake, NO_TRAFFIC_MS passes without a keep-alive; FALSE_WAKE is counted and the domain prepares to sleep. -/
  | noTrafficTimeout (domain : Nat)
  /-- HOST_IDLE_EXPIRY (R337): HOST_IDLE_MS passes since the last mailbox request and the host activity hold ends. -/
  | hostIdleExpiry
  /-- PWR_HOLD_TIMEOUT (R343): A host hold's TIMEOUT_S expires, the hold is released and PWR_HOLD_EXPIRED is posted. -/
  | pwrHoldTimeout (scope : Nat)
  /-- PWR_DOMAIN_CFG (R357): Stages a sleep domain. -/
  | pwrDomainCfg (rq : Req)
  /-- PWR_WAKE_CFG (R350): Stages a wake source. -/
  | pwrWakeCfg (rq : Req)
  /-- PWR_POLICY_CFG (R336): Stages the sleep target, host idle time and dormant delay. -/
  | pwrPolicyCfg (rq : Req)
  /-- PWR_HOLD (R343): Sets or releases a host hold on a domain or the device. -/
  | pwrHold (rq : Req)
  /-- PWR_STATUS (R337): Returns the power state, holds, last wake and domain states. -/
  | pwrStatus (rq : Req)
  /-- PWR_AON_LOG_READ (R356): Reads Lantern's always-on log. -/
  | pwrAonLogRead (rq : Req)
  /-- PWR_RTC_ALARM (R355): Sets or cancels the RTC wake alarm. -/
  | pwrRtcAlarm (rq : Req)
  /-- LOCK_CMP (R358): The lockstep comparator finds a mismatch or an invalid code, raising an F2 fault. -/
  | lockCmp (lanes : Nat)
  /-- DELAY_PARITY_ERROR (R359): A delay register stage shows a parity error, fault LOCK_INFRA. -/
  | delayParityError (output : Bool)
  /-- COMPARATOR_SELF_TEST (R360): Every 1 ms a mismatch is injected on the test lane; a missed detection is LOCK_INFRA. -/
  | comparatorSelfTest (detected : Bool)
  /-- STATE_DIGEST_PASS (R362): Every 10 ms both cores' CRC-64 state digests are compared; a difference is LOCK_DIGEST. -/
  | stateDigestPass (digestA digestB : Nat)
  /-- WATCHDOG_EXPIRY (R366): The watchdog is not served within WDT_MS, raising an F2 fault. `servedAt`: the uptime of its last service. -/
  | watchdogExpiry (servedAt : Nat := 0)
  /-- FAULT_HOLD_RESTART (R370): With F2_ACTION 1, RESTART_DELAY_MS after entry into FAULT_HOLD, a system reset follows while the hourly limit allows. -/
  | faultHoldRestart
  /-- INTERLOCK_CONFLICT (R372): Both twins drive ACT_OUT_N low; neither drives and the conflict is counted. -/
  | interlockConflict
  /-- INTERLOCK_SETTLE_EXPIRY (R372): The 50 µs settle window ends; the TWIN_ROLE 1 twin releases on a conflict, and a taking-over standby keeps ACT only with ACT_IN_N still high. -/
  | interlockSettleExpiry
  /-- ACT_CLAIM_AT_RUN (R374): At stage RUN in twin mode, a twin claims ACT or becomes standby and requests a full resynchronisation. -/
  | actClaimAtRun
  /-- PRIMARY_WAIT_EXPIRY (R374): PRIMARY_WAIT_MS ends for the TWIN_ROLE 1 twin, which then tries its claim. -/
  | primaryWaitExpiry
  /-- ACT_TAKEOVER_DECISION (R378): The standby has seen ACT_IN_N high throughout FILTER_US and decides to take over. -/
  | actTakeoverDecision
  /-- JOURNAL_FRAME_RECEIVED (R375): A Twin Link frame on P9 is checked, and its records are applied in SEQ order or rejected with a resynchronisation request. -/
  | journalFrameReceived (bytes : List Byte)
  /-- JOURNAL_RESEND_TIMEOUT (R376): A journal frame not acknowledged within 1 ms is resent; after 8 resends TWIN_LINK_LOST is recorded. -/
  | journalResendTimeout
  /-- TWIN_LINK_TIMEOUT (R376): No frame arrives from the peer for LINK_TIMEOUT_MS; TWIN_LINK_LOST is recorded and SYNC is not ready. -/
  | twinLinkTimeout
  /-- JOURNAL_SYNC_TIMEOUT (R377): A CONFIG or SESSION record unacknowledged for 5 ms releases the held response and marks SYNC not ready. -/
  | journalSyncTimeout
  /-- HELLO_SEND (R375): Every 1 ms and at link-up a HELLO record is sent over Twin Link. -/
  | helloSend
  /-- TIME_ALIGN_SEND (R375): Every 125 ms the active sends a TIME_ALIGN record. -/
  | timeAlignSend
  /-- JOURNAL_BATCH_SEND (R377): Every JOURNAL_PERIOD_MS the active sends its PDU content and Cupola records. -/
  | journalBatchSend
  /-- SAFE_STATUS (R366): Returns the Spire mode, fault pins, latest fault and self-test ages. -/
  | safeStatus (rq : Req)
  /-- SAFE_FAULT_READ (R368): Reads fault log records. -/
  | safeFaultRead (rq : Req)
  /-- SAFE_FAULT_CLEAR (R366): Marks fault records as cleared and releases FAULT_N when none remain. -/
  | safeFaultClear (rq : Req)
  /-- SAFE_MODE_SET (R364): Moves the Spire pair between LOCKED and SPLIT. `returnPasses`: the self-test and digest pass of a return pass. -/
  | safeModeSet (rq : Req) (returnPasses : Bool := true)
  /-- SAFE_POLICY_CFG (R370): Stages the F2 action, restart limits and watchdog time. -/
  | safePolicyCfg (rq : Req)
  /-- SAFE_TWIN_CFG (R372): Stages twin mode and its timers. -/
  | safeTwinCfg (rq : Req)
  /-- SAFE_TWIN_STATUS (R377): Returns the twin role, sync, link and journal state. -/
  | safeTwinStatus (rq : Req)
  /-- SAFE_TWIN_HANDOVER (R381): Flushes the journal, waits for SYNC ready and releases ACT to the standby. -/
  | safeTwinHandover (rq : Req)
  /-- FW_BEGIN (R384): Checks a manifest and opens the update session. -/
  | fwBegin (rq : Req)
  /-- FW_WRITE (R386): Appends or repeats image data in a target bank. -/
  | fwWrite (rq : Req)
  /-- FW_VERIFY (R388): Hashes every written image and makes the target banks VALID or INVALID. -/
  | fwVerify (rq : Req)
  /-- FW_ACTIVATE (R389): Puts the verified manifest or named VALID banks in force, HOT or by reset, starting a trial. `failsAt`: the
  component whose step of a HOT activation fails. -/
  | fwActivate (rq : Req) (failsAt : Option Nat := none)
  /-- ACTIVATION_RESET (R390): Between 100 µs and 1 ms after a RESET activation's response the system resets into the trial banks. -/
  | activationReset
  /-- FW_CONFIRM (R393): Ends the trial, makes its banks ACTIVE and raises the epoch counters. -/
  | fwConfirm (rq : Req)
  /-- FW_FALLBACK (R395): Ends the trial with a fallback to the previous banks. -/
  | fwFallback (rq : Req)
  /-- FW_ABORT (R385): Ends the update session and invalidates its target banks. -/
  | fwAbort (rq : Req)
  /-- FW_STATUS (R385): Returns the update session and trial state. -/
  | fwStatus (rq : Req)
  /-- KILN_BOOT (R399): Puts a verified manifest in force as a RESET activation, raising counter 3, or reboots. -/
  | kilnBoot (rq : Req)
  /-- KILN_UNLOCK (R333): Checks a TAMPER_UNLOCK message, clears the tamper latch and resumes boot at image selection. -/
  | kilnUnlock (rq : Req)
  /-- UPDATE_SESSION_IDLE_TIMEOUT (R385): An update session idle for 60 s is aborted and its target banks become INVALID. -/
  | updateSessionIdleTimeout
  /-- TRIAL_TIMER_EXPIRY (R394): CONFIRM_S passes without confirmation and the trial falls back. -/
  | trialTimerExpiry
  /-- RUN_NOT_REACHED_TIMEOUT (R394): Stage RUN is not reached within 10 s of a RESET activation and the trial falls back. -/
  | runNotReachedTimeout
  /-- KILN_IDLE_TIMEOUT (R398): Kiln entered by SYS_RESET KIND 2 receives no MB0 request for 600 s and performs a system reset. -/
  | kilnIdleTimeout
  /-- KILN_FRAME_RECEIVED (R400): A Kiln frame on P10 carries an MB0 request, served one at a time and answered to its SA. -/
  | kilnFrameReceived (bytes : List Byte)
  /-- POWER_ON_RESET (R404): A PORST_N low pulse makes a power-on reset, and the straps are sampled at its end. -/
  | powerOnReset (pulseNs : Nat) (p : PowerPins)
  /-- SYSTEM_RESET_INPUT (R404): A SYSRST_N low pulse makes a system reset and restarts any running boot. -/
  | systemResetInput (pulseNs : Nat)
  /-- BOOT_SEQUENCE (R407): At the end of a reset the ROM runs the boot steps from PLL lock to RUN. -/
  | bootSequence (b : BootInfo)
  /-- WARM_PATH_BOOT (R418): A wake from DORMANT boots by the short path when the kept write count and banks match, and by the cold boot otherwise. -/
  | warmPathBoot (b : BootInfo)
  /-- VDD_AON_REMOVAL (R402): Removing VDD_AON puts the device in OFF, losing the RTC, always-on log and tamper latch. -/
  | vddAonRemoval
  /-- MEMORY_ERROR_DETECTED (R16): A SECDED or parity check finds an error in an on-chip memory, on an access or in the 1 ms background scrub of the ACL TCAM. A corrected error is counted and written back as F0; an uncorrectable one is raised as F1 or F2. -/
  | memoryErrorDetected (e : MemError)
  /-- HOLDOVER_BUDGET_EXCEEDED (R269): While the working slot is in HOLDOVER, ERR_NS grows past HOLDOVER_BUDGET_NS; QUALITY changes to HOLDOVER_EXCEEDED and TIME_QUALITY is posted. -/
  | holdoverBudgetExceeded
  /-- ANNOUNCE_RECEIPT_TIMEOUT (R274): ANNOUNCE_TIMEOUT × 2^LOG_ANNOUNCE passes without an Announce on a slot's slave port, and the best master clock algorithm reselects, which can change the grandmaster or return the slot to LISTENING. -/
  | announceReceiptTimeout (slot : Nat) (b : BmcaResult)
  /-- ACT_IN_N_EDGE (R378): ACT_IN_N changes level. A rise starts the standby's FILTER_US takeover filter and wakes a sleeping standby with wake source 0x203; a fall restarts the filter. -/
  | actInNEdge (high : Bool)
  /-- LOOSE_PERIOD_EXPIRY (R380): LOOSE_S seconds after a takeover with LOOSE_ON_TAKEOVER set, the temporary LOOSE setting ends and LOOSE returns to its configured value. -/
  | loosePeriodExpiry
  /-- LACP_PARTNER_TIMEOUT (R112): An LACP member receives no LACPDU from its partner within the LACP timeout, the partner information expires, and the member stops distributing. -/
  | lacpPartnerTimeout (port : Nat)
  /-- PLCA_COORDINATOR_BEACON (R81): As PLCA coordinator, the TS port sends the PLCA BEACON that opens each cycle once the previous cycle's last transmit opportunity has ended. It counts TX_PLCA_BEACON and fixes PLCA_START. -/
  | plcaCoordinatorBeacon (port : Nat)
  deriving DecidableEq, Repr

end Sys2Proof
end

