-- ==== Sys2Proof/Config.lean ====
section
/-! DEFINITION. What one device or an external standard fixes, and the free values. None of these has a body: nothing can
be proved of a value of them. -/

namespace Sys2Proof.Config

open Sys2Proof

/-- The device unique identifier, 16 bytes (SYS_IDENTIFY). -/
opaque uid : Bytes
/-- The first of the device's 128 addresses (SYS_IDENTIFY). -/
opaque baseMac : Nat
/-- VERSION, BUILD and EPOCH of the ROM (SYS_VERSION). -/
opaque romVersion : Nat
opaque romBuild : Nat
opaque romEpoch : Nat
/-- The attestation certificate (KEEP_IDENTITY). -/
opaque certificate : Bytes
/-- The public halves of the attestation and transport key pairs (R331). -/
opaque attestPub : Bytes
opaque transportPub : Bytes
/-- SHA-256 of the ROM (attestation statement). -/
opaque romDigest : Bytes
/-- LYSWIN's public key in the ROM. -/
opaque lyswinPub : Bytes
/-- The key of a root (1 TEST, 2 OWNER, 3 LEGAL), which nothing reads outside the SEC island (R311). -/
opaque rootKey : Nat → Bytes
/-- AES on one 16-byte block: key, inverse, block (FIPS 197). -/
opaque aes : Bytes → Bool → Bytes → Bytes
/-- SHA-256 and SHA-384 (FIPS 180-4). -/
opaque sha256 : Bytes → Bytes
opaque sha384 : Bytes → Bytes
/-- ECDSA of FIPS 186-5 with RFC 6979 nonces: curve (1 P-256, 2 P-384), key, digest. -/
opaque ecdsaSign : Nat → Bytes → Bytes → Bytes
/-- ECDSA verification: curve, public key, digest, signature. -/
opaque ecdsaVerify : Nat → Bytes → Bytes → Bytes → Bool
/-- The device's own P-384 attestation signature over a digest (R331). -/
opaque attestSign : Bytes → Bytes
/-- The public key of a private scalar: curve, scalar. -/
opaque ecPublic : Nat → Bytes → Bytes
/-- The one-step KDF of R319 on the ECDH secret of a peer's public key and the transport key: public key, OtherInfo. -/
opaque transportKdf : Bytes → Bytes → Bytes
/-- AES-SIV opening (RFC 5297): key, associated data, SIV, ciphertext; none where it does not verify. -/
opaque sivOpen : Bytes → Bytes → Bytes → Bytes → Option Bytes
/-- AES-SIV sealing (RFC 5297): key, associated data, plaintext; the SIV, then the ciphertext. -/
opaque sivSeal : Bytes → Bytes → Bytes → Bytes
/-- The order of a curve (1 P-256, 2 P-384). -/
opaque curveOrder : Nat → Nat
/-- Output of the random number generator: draw number, byte count (R330). -/
opaque random : Nat → Nat → Bytes
/-- What an MDIO register of an external PHY reads as: access number, PHY, clause 45 device (none: clause 22), register. -/
opaque phyRegister : Nat → Nat → Option Nat → Nat → BitVec 16
/-- How many MDIO accesses the firmware queues for one action on a PHY (0 set up, 1 link-up, 2 poll, 3 rate step, 4 power down). -/
opaque mdioAccesses : Nat → Nat
/-- What an IEEE 802.1AS-2020 message the firmware sends holds after its header's domainNumber, by index. -/
opaque gptpBody : Nat → Bytes
/-- The SerDes and wire have no part in the model; a free value the spec leaves open, by its index. -/
opaque freeNat : Nat → Nat
/-- Bytes whose value the spec does not give (fields of a marker record, the hash before a chain's first link), by index. -/
opaque fill : Nat → Bytes
/-- The longest service pause a commit caused, in ns (PAUSE_NS is bounded by R151, not given): by index. -/
opaque freePause : Nat → Nat

end Sys2Proof.Config
end

