-- ==== Sys2Proof/Machine/Bytes.lean ====
section
/-! DEFINITION. Reading and writing numbers in byte strings: little-endian for mailbox and register fields, big-endian
for wire formats (R1); signed readings; rounding half away from zero (R3); the CRCs the frame formats of the spec use. -/

namespace Sys2Proof.Machine

open Sys2Proof

/-- The byte at an offset as a number; past the end it is zero. -/
def byteAt (bs : Bytes) (i : Nat) : Nat := (bs.getD i 0).toNat

/-- `n` bytes from offset `off`, little-endian (R1). -/
def le (bs : Bytes) (off : Nat) : Nat → Nat
  | 0 => 0
  | n + 1 => byteAt bs off + 256 * le bs (off + 1) n

/-- `n` bytes from offset `off`, big-endian (R1). -/
def be (bs : Bytes) (off : Nat) : Nat → Nat
  | 0 => 0
  | n + 1 => byteAt bs off * 256 ^ n + be bs (off + 1) n

/-- The low `n` bytes of a number, little-endian. -/
def leb : Nat → Nat → Bytes
  | 0, _ => []
  | n + 1, v => BitVec.ofNat 8 v :: leb n (v / 256)

/-- The low `n` bytes of a number, big-endian. -/
def beb (n v : Nat) : Bytes := (leb n v).reverse

/-- `n` zero bytes. -/
def zeros (n : Nat) : Bytes := List.replicate n 0

/-- `n` bytes from offset `off`, zero past the end. -/
def slice (bs : Bytes) (off n : Nat) : Bytes :=
  let t := (bs.drop off).take n
  t ++ zeros (n - t.length)

/-- The bytes of `bs` with those from offset `off` replaced by `v`; it never grows past its own length. -/
def patch (bs : Bytes) (off : Nat) (v : Bytes) : Bytes :=
  bs.take off ++ v.take (bs.length - off) ++ bs.drop (off + v.length)

/-- Bits [lo + n - 1 : lo] of a number. -/
def bits (v lo n : Nat) : Nat := v / 2 ^ lo % 2 ^ n

/-- Bit `i` of a number. -/
def bit (v i : Nat) : Bool := v / 2 ^ i % 2 == 1

/-- A truth value as a bit. -/
def b2n (b : Bool) : Nat := if b then 1 else 0

/-- `v` with bit `i` set. -/
def setBit (v i : Nat) : Nat := if bit v i then v else v + 2 ^ i

/-- `v` with bit `i` clear. -/
def clearBit (v i : Nat) : Nat := if bit v i then v - 2 ^ i else v

/-- The signed value of an `n`-bit two's-complement field. -/
def signed (n v : Nat) : Int :=
  let w := v % 2 ^ n
  if w < 2 ^ (n - 1) then (w : Int) else (w : Int) - (2 ^ n : Nat)

/-- An integer as an `n`-bit two's-complement field. -/
def unsigned (n : Nat) (v : Int) : Nat := (v % (2 ^ n : Nat)).toNat

/-- Rounding up a quotient. -/
def ceilDiv (a b : Nat) : Nat := if b == 0 then 0 else (a + b - 1) / b

/-- A quotient rounded half away from zero (R3); zero for a zero divisor. -/
def roundDiv (a : Int) (b : Nat) : Int :=
  if b == 0 then 0
  else if a < 0 then - ((((-a).toNat * 2 + b) / (2 * b) : Nat) : Int)
  else ((a.toNat * 2 + b) / (2 * b) : Nat)

/-- The signed 32-bit difference by which two local-time deadlines are ordered (R4): `a` is at or before `b` when the
result is not positive. -/
def deadlineDiff (a b : Nat) : Int := signed 32 (a % 2 ^ 32 + 2 ^ 32 - b % 2 ^ 32)

/-- A local time in ns as T80: 48 bits of seconds, then 32 bits of nanoseconds (R4), little-endian as in mailbox
payloads and events. -/
def t80le (ns : Nat) : Bytes := leb 6 (ns / 1000000000) ++ leb 4 (ns % 1000000000)

/-- T80 in network order, as in frames. -/
def t80be (ns : Nat) : Bytes := beb 6 (ns / 1000000000) ++ beb 4 (ns % 1000000000)

/-- A T80 field of a payload as ns. -/
def t80At (bs : Bytes) (off : Nat) : Nat := le bs off 6 * 1000000000 + le bs (off + 6) 4

/-- All bytes zero. -/
def allZero (bs : Bytes) : Bool := bs.all (· == 0)

end Sys2Proof.Machine
end

