-- ==== Sys2Proof/Machine/Tab.lean ====
section
/-! DEFINITION. Sparse tables: a list of (index, entry) pairs with strictly rising indices. Every table of the block that
is addressed by an index (ports, streams, FDB entries, groups, counters ...) is one, and an addressed RAM is one of bytes
whose unlisted addresses read as zero. -/

namespace Sys2Proof.Machine

open Sys2Proof

/-- A sparse table. -/
abbrev Tab (α : Type) := List (Nat × α)

variable {α : Type}

/-- The entry at an index. -/
def tabFind : Tab α → Nat → Option α
  | [], _ => none
  | (k, v) :: t, i => if k = i then some v else tabFind t i

/-- The entry at an index, or what an absent entry stands for. -/
def tabGet (dflt : α) (t : Tab α) (i : Nat) : α := (tabFind t i).getD dflt

/-- Put an entry at an index, in index order. -/
def tabPut : Tab α → Nat → α → Tab α
  | [], i, v => [(i, v)]
  | (k, w) :: t, i, v =>
    if i < k then (i, v) :: (k, w) :: t
    else if k = i then (i, v) :: t
    else (k, w) :: tabPut t i v

/-- Remove the entry at an index. -/
def tabDel (t : Tab α) (i : Nat) : Tab α := t.filter (fun p => p.1 != i)

/-- Change the entry at an index, an absent one standing for `dflt`. -/
def tabMod (dflt : α) (t : Tab α) (i : Nat) (f : α → α) : Tab α := tabPut t i (f (tabGet dflt t i))

/-- Change the entry at an index if it is present. -/
def tabUpd (t : Tab α) (i : Nat) (f : α → α) : Tab α :=
  t.map (fun p => if p.1 = i then (p.1, f p.2) else p)

/-- An entry is present. -/
def tabHas (t : Tab α) (i : Nat) : Bool := (tabFind t i).isSome

/-- Change every entry. -/
def tabMap (t : Tab α) (f : Nat → α → α) : Tab α := t.map (fun p => (p.1, f p.1 p.2))

/-- The table is in its canonical form: indices strictly rising. -/
def tabSorted : Tab α → Bool
  | [] => true
  | [_] => true
  | (i, _) :: (j, w) :: t => decide (i < j) && tabSorted ((j, w) :: t)

/-- The lowest index below `n` that holds no entry. -/
def tabFree (t : Tab α) (n : Nat) : Option Nat := (List.range n).find? (fun i => !tabHas t i)

/-- An addressed RAM: cells at strictly rising addresses, none of them zero; an unlisted address reads as zero
(log 3). -/
abbrev Memory := List Host.Cell

/-- The byte at an address. -/
def memRead (m : Memory) (a : Nat) : Byte := tabGet 0 m a

/-- Write one byte, keeping the canonical form. -/
def memWrite (m : Memory) (a : Nat) (b : Byte) : Memory := if b = 0 then tabDel m a else tabPut m a b

/-- Read `n` bytes from an address. -/
def memReadN (m : Memory) (a n : Nat) : Bytes := (List.range n).map (fun i => memRead m (a + i))

/-- Write a byte string from an address. -/
def memWriteN : Memory → Nat → Bytes → Memory
  | m, _, [] => m
  | m, a, b :: bs => memWriteN (memWrite m a b) (a + 1) bs

/-- The memory is in its canonical form. -/
def Memory.wf (m : Memory) : Bool := tabSorted m && m.all (fun c => c.2 != 0)

end Sys2Proof.Machine
end

