-- ==== Sys2Proof/Machine/StateEngine.lean ====
section
/-! DEFINITION. The Cupola (chapter 08) and the signal gateway engine (chapter 09). -/

namespace Sys2Proof.Machine

open Sys2Proof

/-- A leaf of an expansion list (R211). -/
structure Leaf where
  mac : Nat
  node : Nat
  weight : Int
  offset : Int
  min : Nat
  max : Nat
  deriving DecidableEq, Repr

/-- An entry of a member list (CUP_MEMBERS_SET): 32 bytes. -/
abbrev Member := Bytes

/-- An open collection window (R217 to R220). -/
structure Window where
  tag : Nat
  /-- Bank under which it was opened. -/
  bank : Nat
  /-- CUP_GROUP_SET and the expansion list under which its request was issued. -/
  cfg : Bytes
  leaves : List Leaf
  /-- Uptime at which it opened. -/
  opened : Nat
  /-- SA of the command that opened it. -/
  sender : Nat
  /-- Member indices folded. -/
  folded : List Nat
  /-- One accumulator per IN_FIELD. -/
  acc : List Int
  /-- Uptime at which its fold ended. -/
  ended : Nat := 0
  deriving DecidableEq, Repr

/-- A configured group and its state. -/
structure Group where
  /-- CUP_GROUP_SET: 192 bytes. -/
  cfg : Bytes
  members : List Member
  leaves : List Leaf
  seq : Nat
  tripped : Bool
  lastTag : Nat
  /-- Low 32 bits of local ns at the latest window opening. -/
  opened : Nat
  received : Nat
  lastFolds : List Nat
  /-- Uptime and member index of the last match on a frame of its leaves (R223, R226). -/
  matched : Option (Nat × Nat) := none
  /-- Uptime at which it last tripped. -/
  trippedAt : Nat := 0
  deriving DecidableEq, Repr

/-- What the fan-in requester still has to write: a fold record with the cause of its end, or a trip record. -/
inductive CupRecord where
  | fold (group : Nat) (w : Window) (cause : Nat)
  | trip (group member time : Nat)
  deriving DecidableEq, Repr

/-- A command whose fan-out step waits, with the bank, configuration and list in force when it was dequeued (R227). -/
structure FanOut where
  group : Nat
  bytes : Bytes
  bank : Nat
  cfg : Bytes
  leaves : List Leaf
  deriving DecidableEq, Repr

/-- A fan-out step in progress: the frames it has not emitted, each with the number of member values its clamp changed (R215, R224). -/
structure Emission where
  group : Nat
  frames : List (Bytes × Nat)
  deriving DecidableEq, Repr

/-- What the Cupola writes to the Spire pair: a fan-out step's request record (R215), a fold or trip record (R219, R224). -/
inductive SpireRecord where
  | request (x : FanOut) (tag : Nat)
  | result (r : CupRecord)
  deriving DecidableEq, Repr

/-- A trip pin driven active: the pin and its active level (R223). -/
structure TripPin where
  pin : Nat
  level : Bool
  deriving DecidableEq, Repr

/-- The Cupola. -/
structure Cupola where
  groups : Tab Group
  /-- CUP_TRIP_SET of each group: 144 bytes. -/
  trips : Tab Bytes
  /-- Bank in force. -/
  bank : Nat
  /-- Open windows, by group. -/
  windows : Tab Window
  /-- The last closed request of each group. -/
  closed : Tab Window
  /-- Commands whose fan-out step waits, oldest first. -/
  fanOut : List FanOut
  fanIn : List CupRecord
  /-- Trip pins driven active, by group; each stays so until CUP_TRIP_CLEAR names the group (R223). -/
  pins : Tab TripPin
  /-- The fan-out step in progress. -/
  emitting : Option Emission := none
  /-- Records written to the Spire pair, oldest first. -/
  spire : List SpireRecord := []
  deriving DecidableEq, Repr

/-- A frame in a CAN transmit buffer. -/
structure CanTx where
  frame : CanFrame
  /-- Destination PDU of kind CAN it came from. -/
  pdu : Option Nat
  /-- Latest transmit time of a tunnelled frame (R239). -/
  latest : Option Nat
  deriving DecidableEq, Repr

/-- A CAN channel. -/
structure CanCh where
  cfg : Bytes
  filters : Tab (Nat × Nat)
  tec : Nat
  recCnt : Nat
  busOff : Bool
  /-- Error state last posted: 0 active, 1 passive, 2 bus-off. -/
  errState : Nat
  bufs : List CanTx
  /-- A buffered frame that has won arbitration. -/
  sending : Option CanTx
  tdcv : Nat
  /-- Bus-off delay's expiry, and whether the recovery sequence runs. -/
  boffDeadline : Option Nat
  recovering : Bool
  /-- The bus-off delay's remainder while its domain sleeps (R348). -/
  frozen : Option Nat
  /-- sequence_num of the previous tunnel frame addressed to the channel (R244). -/
  acfSeq : Option Nat
  /-- Uptime before which the 11 recessive bits of a protocol exception or of a reintegration cannot have passed (R234, GW_CAN_CFG). -/
  quietUntil : Nat := 0
  deriving DecidableEq, Repr

/-- A poll transaction in progress (R251). -/
structure PollTxn where
  entry : Nat
  onDemand : Bool
  attempt : Nat
  /-- Response timer's expiry. -/
  deadline : Nat
  /-- Uptime at which the transaction started. -/
  started : Nat
  deriving DecidableEq, Repr

/-- A character held: its value, its FLAGS bits, its start (local time) and its end (uptime). -/
structure HeldChar where
  value : Nat
  flags : Nat
  start : Nat
  ends : Nat
  deriving DecidableEq, Repr

/-- A serial channel. -/
structure SerialCh where
  cfg : Bytes
  /-- Receive FIFO, oldest first. -/
  rx : List HeldChar
  /-- A break that marks the next character, and characters lost before the next message. -/
  brk : Bool
  lost : Bool
  seq : Nat
  /-- Uptime at which the last stop bit of what is being sent ends. -/
  txUntil : Nat
  /-- What is in the transmit FIFO or being shifted out: the start (uptime) of each message's first character, and its characters. -/
  tx : List (Nat × Nat) := []
  /-- A GW_SERIAL_CFG that takes effect when the transaction in progress has ended. -/
  nextCfg : Option Bytes := none
  txn : Option PollTxn
  /-- Retry due after INTER_POLL_US. -/
  retry : Option PollTxn
  onDemand : List Nat
  /-- Periodic entries waiting: (due time, entry). -/
  due : List (Nat × Nat)
  /-- The next transaction starts no earlier (uptime). -/
  readyAt : Nat
  deriving DecidableEq, Repr

/-- A poll entry. -/
structure PollEntry where
  cfg : Bytes
  /-- Local time of its next due time. -/
  nextDue : Nat
  deriving DecidableEq, Repr

/-- A source PDU. -/
structure SrcPdu where
  cfg : Bytes
  content : Bytes
  time : Nat
  received : Bool
  timedOut : Bool
  /-- Reception timer's expiry (uptime). -/
  deadline : Option Nat
  /-- sequence_num of the previous ACF frame. -/
  acfSeq : Option Nat
  deriving DecidableEq, Repr

/-- A message an ACF_OUT PDU holds, with its arrival. -/
structure AcfMsg where
  bus : Nat
  frame : CanFrame
  arrival : Nat
  /-- Working-domain time of its end of EOF, in ns (R242). -/
  domain : Nat
  /-- Uptime of its arrival (R243). -/
  up : Nat := 0
  deriving DecidableEq, Repr

/-- A send that waits for the end of MIN_GAP_US: a frame for P94 with its ingress timestamp, or a frame for a CAN channel. -/
inductive PduUnit where
  | eth (bytes : Bytes) (stamp : Nat)
  | can (ch : Nat) (t : CanTx)
  deriving DecidableEq, Repr

/-- A destination PDU. -/
structure DstPdu where
  cfg : Bytes
  content : Bytes
  /-- Local time of the last send. -/
  lastSend : Option Nat
  /-- Uptime of the last send, from which MIN_GAP_US runs, and the content it carried. -/
  lastSendUp : Nat
  sentContent : Bytes
  /-- A deferred send: the uptime at which it falls due. -/
  deferred : Option Nat
  /-- Local time of the next cyclic instant. -/
  nextCycle : Nat
  acfSeq : Nat
  held : List AcfMsg
  heldUntil : Nat
  /-- Tunnel frames, tunnelled frames and serial messages that MIN_GAP_US holds back, oldest first (R257). -/
  outbox : List PduUnit := []
  deriving DecidableEq, Repr

/-- A reception that waits for its SGE step. -/
structure Reception where
  src : Nat
  bytes : Bytes
  /-- Its arrival: local time (R231) and uptime. -/
  arrival : Nat
  up : Nat
  /-- Working-domain time of its arrival, in ns (R242). -/
  domain : Nat
  /-- QUALITY and ERR_NS at its arrival (R296). -/
  quality : Nat
  errNs : Nat
  /-- The frame of a CAN reception. -/
  can : Option CanFrame
  /-- CAN frames of an ACF_IN reception by can_bus_id, and the latest transmit time they keep (R239, R244). -/
  msgs : List (Nat × CanFrame)
  latest : Option Nat
  /-- Start of the on-demand transaction of a MODBUS reception (R293). -/
  started : Option Nat
  /-- Its bytes have been delivered to Cask (R259). -/
  delivered : Bool := false
  deriving DecidableEq, Repr

/-- A scale entry. -/
structure Scale where
  factor : Int
  offset : Int
  min : Int
  max : Int
  subst : Int
  deriving DecidableEq, Repr

/-- SGE. -/
structure Gateway where
  can : Tab CanCh
  serial : Tab SerialCh
  polls : Tab PollEntry
  srcs : Tab SrcPdu
  dsts : Tab DstPdu
  /-- Signal routes as their 96 bits. -/
  routes : Tab Nat
  scales : Tab Scale
  urgent : List Reception
  normal : List Reception
  /-- Receptions dropped since the last GW_OVERLOAD event. -/
  dropped : Nat
  deriving DecidableEq, Repr

end Sys2Proof.Machine
end

