-- ==== Sys2Proof/Machine/StateFabric.lean ====
section
/-! DEFINITION. Ports and links (chapter 03) and the switch core (chapter 04). -/

namespace Sys2Proof.Machine

open Sys2Proof

/-- A port: PORT_CFG, PORT_PLCA_CFG, the receive filter and the line state. -/
structure Port where
  admin : Bool
  mode : Nat
  advert : Nat
  maxFrame : Nat
  /-- MAX_FRAME before the latest change and the time of that change (R76; log 84). -/
  oldMax : Nat
  maxSince : Nat
  flapHold : Nat
  filterMode : Nat
  phyAddr : Nat
  stepMask : Nat
  stepDown : Nat
  stepUp : Nat
  stepDwell : Nat
  stepQueue : Nat
  txEq : Nat
  /-- Filter entries: ACTION and ADDRESS of entries 0 to 15 (R77). -/
  entries : Tab (Nat × Nat)
  /-- The 512 hash bins, bit b for bin b. -/
  hashBins : Nat
  plcaEn : Bool
  nodeId : Nat
  nodeCount : Nat
  toTimer : Nat
  burstCount : Nat
  burstTimer : Nat
  up : Bool
  /-- SPEED encoding of PORT_STATUS. -/
  speed : Nat
  lineMode : Nat
  plcaOk : Bool
  /-- Expiry of the running flap hold (uptime); none when no hold runs. -/
  hold : Option Nat
  /-- The hold has expired, or none has run since the port was enabled (R84). -/
  holdExpired : Bool
  stepLevel : Nat
  phyId : Nat
  /-- A planned step in progress: target level and expiry of the retrain. -/
  retrain : Option (Nat × Nat)
  /-- A step-up condition arose during a retrain (R88). -/
  stepUpPending : Bool
  /-- Quiet intervals counted toward the dwell, the end of the running interval, and its bytes of wire time. -/
  dwell : Nat
  intervalEnd : Nat
  rxWire : Nat
  txWire : Nat
  /-- Collisions the head frame has met (CSMA/CD). -/
  collisions : Nat
  /-- Frames sent in the present PLCA opportunity. -/
  burst : Nat
  /-- Until when (uptime) a further frame of the burst may start. -/
  burstEnd : Option Nat
  /-- The class whose frame ended last, and the end (uptime) of the gap after it. -/
  gap : Option (Nat × Nat) := none
  deriving DecidableEq, Repr

/-- What the gPTP stack does with the egress timestamp of a frame it sent (R279): the Follow_Up of a Sync of a domain, with the
preciseOriginTimestamp and correctionField received, the link delay in 2^-16 ns, the local time of that Sync's ingress (none: the
device is grandmaster) and rateRatio - 1 in 2^-41; the time of a peer delay request; or the follow-up of a peer delay response. -/
inductive FollowUp where
  | sync (domain origin : Nat) (corr delay : Int) (ingress : Option Nat) (rate : Int)
  | pdelayReq
  | pdelayResp (domain : Nat)
  deriving DecidableEq, Repr

/-- An egress timestamp a frame asks for (R278): its tag, whether it is a firmware frame's internal one, and what that is for. -/
structure TsReq where
  firmware : Bool
  tag : Nat
  follow : Option FollowUp := none
  deriving DecidableEq, Repr

/-- What a frame keeps for its second pass through P92 (R148): GEN, META and SRC_ZONE of the first pass, its original
ingress port, received PCP and stream handle. -/
structure Second where
  gen : Bool
  metaWord : Nat
  zone : Nat
  inPort : Nat
  pcp : Nat
  handle : Nat
  /-- Yellow on its first pass (R163). -/
  yellow : Bool := false
  deriving DecidableEq, Repr

/-- What Grist, stream identification and Lauter found of a frame, kept with it. -/
structure FrameInfo where
  inPort : Nat
  /-- Ingress timestamp (R276). -/
  time : Nat
  tc : Nat
  handle : Nat
  zone : Nat
  gen : Bool
  vid : Nat
  metaWord : Nat
  /-- Received PCP (R130). -/
  pcp : Nat
  /-- The egress timestamp its sender asked for. -/
  ts : Option TsReq := none
  /-- Uptime of the tick in which it arrived (R8, R209). -/
  arrival : Nat := 0
  /-- A flow meter found it yellow: its tagged copies leave with DEI set (R163). -/
  yellow : Bool := false
  deriving DecidableEq, Repr

/-- One queued copy of a stored frame. -/
structure Copy where
  port : Nat
  tc : Nat
  slice : Nat
  /-- 0 original, 1 ingress mirror, 2 egress mirror, 3 sample or trap. -/
  kind : Nat
  /-- Mirror session of a mirror copy. -/
  session : Nat
  /-- The port the frame is addressed to: a CN or SL port for a copy that leaves at P94, else `port`. -/
  dest : Nat
  /-- Mirrored egress port of an egress mirror. -/
  mirrored : Nat
  /-- The egress tag edit: none leaves the frame as stored; else the outer tag goes, and a tag with this TCI comes. -/
  tag : Option (Option Nat)
  /-- The R-TAG edit (R155): none keeps the frame; else an R-TAG with this sequence number, or no R-TAG. -/
  rtag : Option (Option Nat)
  /-- Fenced: the fence's number. The mark goes when the fence releases. -/
  fenced : Option Nat
  /-- Moved to the transmit stage, and in which order. -/
  staged : Bool
  stageSeq : Nat := 0
  /-- Started on the wire. -/
  started : Bool
  /-- Local time at enqueue. -/
  enqTime : Nat
  deriving DecidableEq, Repr

/-- A stored frame: its bytes from DA, without FCS, its cells and its copies in enqueue order. -/
structure Stored where
  id : Nat
  bytes : Bytes
  /-- Length under R6 as received. -/
  len : Nat
  cells : Nat
  info : FrameInfo
  copies : List Copy
  /-- Still being received (cut through). -/
  receiving : Bool
  /-- Received whole with a bad FCS. -/
  bad : Bool
  /-- Cut through (R104): Belfry takes it to be as long as the egress port's MAX_FRAME (R105). -/
  cut : Bool := false
  /-- A copy of it has started transmission (R101). -/
  begun : Bool := false
  /-- Cells of it that lie in Twin Link's reserve (R93). -/
  twin : Nat := 0
  deriving DecidableEq, Repr

/-- A frame in a slice's ingress FIFO: its port, ingress timestamp, P90 transmit ring (R62), and what it keeps of a first
pass. -/
structure Arrived where
  port : Nat
  bytes : Bytes
  time : Nat
  ring : Nat
  second : Option Second
  /-- The egress timestamp its sender asked for. -/
  ts : Option TsReq := none
  /-- Uptime of the tick in which it arrived (R8, R209). -/
  arrival : Nat := 0
  deriving DecidableEq, Repr

/-- A mirror session (FAB_MIRROR_CFG). -/
structure Mirror where
  enable : Bool
  dest : Nat
  tc : Nat
  sampleN : Nat
  dir : Nat
  srcMask : Nat
  count : Nat
  deriving DecidableEq, Repr

/-- The capture ring. -/
structure CaptureRing where
  enable : Bool
  wrap : Bool
  snapLen : Nat
  writeOff : Nat
  readOff : Nat
  seqNext : Nat
  wraps : Nat
  /-- FAB_CAPTURE_FULL has been posted since the last acknowledgement. -/
  fullPosted : Bool
  /-- Record boundaries from READ_OFF to WRITE_OFF, oldest first. -/
  bounds : List Nat
  /-- The tick (uptime) of the latest acknowledgement, and READ_OFF before it (R111). -/
  acked : Option (Nat × Nat) := none
  mem : Memory
  deriving DecidableEq, Repr

/-- An open fence of a LAG bucket (R115), with the number its FENCED marks carry. -/
structure Fence where
  id : Nat
  bucket : Nat
  deadline : Nat
  /-- Markers: the stored frame and copy behind which each stands: (frame id, port). -/
  markers : List (Nat × Nat)
  deriving DecidableEq, Repr

/-- A LAG group. -/
structure Lag where
  lacp : Nat
  members : Tab Nat
  hashFields : Nat
  fenceUs : Nat
  seed : Nat
  /-- Members that LACP lets distribute: member index. -/
  partner : Tab Nat
  /-- Expiry of each member's partner information (uptime). -/
  partnerDeadline : Tab Nat
  /-- Ports that distribute, ascending. -/
  dist : List Nat
  fences : List Fence
  deriving DecidableEq, Repr

/-- An allocated engine buffer (R116). -/
structure Buf where
  owner : Nat
  refs : Nat
  /-- References by the requester that took them; an engine's restart releases its own (R119). -/
  holds : Tab Nat
  /-- Taken from the owner's reservation. -/
  reserved : Bool
  deriving DecidableEq, Repr

/-- An engine pool: its allocated buffers by index, its contents and the reservations by owner. -/
structure Pool where
  bufs : Tab Buf
  mem : Memory
  reserve : Tab Nat
  /-- Buffers freed in this TIME tick, not yet available (R116), with the owner whose reservation each returns to. -/
  justFreed : List (Nat × Option Nat)
  /-- The uptime of that tick. -/
  freedAt : Nat
  deriving DecidableEq, Repr

/-- The frame a port is sending, or has offered to PLCA. -/
structure Sending where
  id : Nat
  tc : Nat
  /-- The place of its copy in the order of transmit stages. -/
  seq : Nat := 0
  bytes : Bytes
  /-- Uptime and local time at which it started. -/
  start : Nat
  /-- MAX_FRAME in force at its start (R76). -/
  maxFrame : Nat
  cutThrough : Bool
  preemptable : Bool
  /-- ps of its L bytes that earlier fragments have sent. -/
  sent : Nat
  /-- Offered to PLCA, and waiting for its transmit opportunity (R170). -/
  offered : Bool
  /-- The link failed: the rest of the frame is lost on the wire (R82). -/
  lost : Bool := false
  deriving DecidableEq, Repr

/-- The switch core. -/
structure Fabric where
  share : List Nat
  twinReserve : Nat
  highPct : Nat
  ctMask : Nat
  portMax : Tab Nat
  /-- FAB_BUFFER_LEVEL stands at risen. -/
  levelHigh : Bool
  frames : List Stored
  nextId : Nat
  /-- Slice ingress FIFOs, oldest first. -/
  fifos : Tab (List Arrived)
  /-- The recirculation reader (R149): the frame it moves and the cells moved, and the slice it serves next. -/
  recirc : Option (Nat × Nat)
  recircPtr : Nat
  gptr : Tab Nat
  aptr : Tab Nat
  /-- The next place in the order of transmit stages. -/
  nextStage : Nat
  mirrors : Tab Mirror
  capture : CaptureRing
  lags : Tab Lag
  pools : Tab Pool
  sending : Tab Sending
  /-- Frames preempted and not yet resumed. -/
  preempted : Tab Sending
  /-- A cut-through frame being received, by ingress port: stored frame id. -/
  cutting : Tab Nat
  /-- The number of the next fence. -/
  nextFence : Nat := 0
  /-- The MDIO master: when (uptime) each access the firmware has queued ends (R70). -/
  mdio : List Nat := []
  deriving DecidableEq, Repr

end Sys2Proof.Machine
end

