-- ==== Sys2Proof/Machine/StateHost.lean ====
section
/-! DEFINITION. The host side of the state: registers, mailbox channels, events, counters, transactions, P90 rings, the
Service Arbiter and the resource claims (chapters 01 and 02 of the spec). -/

namespace Sys2Proof.Machine

open Sys2Proof

/-- HIF_STAGE: the stages of the device in its own encoding (02, HIF_ general registers). -/
inductive Stage where
  | reset | rom | tamperHold | kiln | loading | admitting | run | faultHold
  deriving DecidableEq, Repr

/-- What the firmware does to an external PHY (03, External PHY management), and clause 37 on a lane (R66). -/
inductive PhyAction where
  /-- Host-side interface of the port's MODE, advertisement of ADVERT, full duplex only, no pause; negotiation restarts. -/
  | setup (mode advert : Nat)
  /-- The advertisement is restricted to one rate (SPEED encoding), and negotiation restarts: a rate step. -/
  | restrict (speed : Nat)
  /-- Power down. -/
  | powerDown
  /-- Clause 37 auto-negotiation of a 1000BASE-X lane advertises full duplex and no pause ability (R66). -/
  | clause37
  deriving DecidableEq, Repr

/-- What the device drives to the outside: bus completions, interrupts, DMA writes, frames and characters. The model
keeps them, oldest first, so that a statement can say what was sent. -/
inductive Output where
  /-- An MSI-X vector sent (R33). -/
  | msix (vector : Nat)
  /-- A completion with Unsupported Request (R31). -/
  | unsupported
  /-- Data returned to a read. -/
  | readData (value : Nat)
  /-- A DMA write to host memory. -/
  | hostMem (addr : Nat) (data : Bytes)
  /-- Bytes returned on the SPI bus. -/
  | spi (data : Bytes)
  /-- A frame on an Ethernet port, with whether its FCS was sent inverted (R106, R369). -/
  | frame (port : Nat) (data : Bytes) (stomped : Bool)
  /-- A CAN frame offered on a channel's bus. -/
  | can (ch : Nat) (f : CanFrame)
  /-- A channel drives the ACK slot of a received CAN frame dominant, or sends an error frame, passive or active. -/
  | canAck (ch : Nat)
  | canErrorFrame (ch : Nat) (passive : Bool)
  /-- Characters on a serial channel, after a break of two character times where asked (R248). -/
  | serial (ch : Nat) (brk : Bool) (data : Bytes)
  /-- What the firmware has a port's external PHY, or clause 37, do. -/
  | phy (port : Nat) (a : PhyAction)
  /-- A write on the MDIO bus for the host: PHY, clause 45 device (none: clause 22), register, data. -/
  | mdioWrite (phy : Nat) (dev : Option Nat) (reg data : Nat)
  /-- A verify mPacket on a port (R183). -/
  | verify (port : Nat)
  deriving DecidableEq, Repr

/-- An event entry (02, Event ring); PHASE is computed where it is written. -/
structure Evt where
  code : Nat
  seq : Nat
  time : Nat
  object : Nat
  data : Nat
  deriving DecidableEq, Repr

/-- Where an in-band request came from, so that its response returns there (R48). -/
structure Origin where
  port : Nat
  vlan : Nat
  sa : Nat
  deriving DecidableEq, Repr

/-- A request the device has taken: its opcode, fields and origin (none on the host transport). -/
structure Taken where
  opcode : Nat
  rq : Req
  origin : Option Origin
  deriving DecidableEq, Repr

/-- A response (02, Message headers). -/
structure Rsp where
  opcode : Nat
  seq : Nat
  status : Nat
  detail : Nat
  payload : Bytes
  origin : Option Origin
  /-- The BUSY response of a request the SPI port did not queue (R37); no outstanding request stands behind it. -/
  rejected : Bool := false
  /-- In twin mode: the SEQ of the journal frame whose acknowledgement posts it (R377). -/
  hold : Option Nat := none
  deriving DecidableEq, Repr

/-- One mailbox channel: its registers, its configuration and its requests and responses in flight. -/
structure Chan where
  /-- MBX_REQ_BASE, 64 bits. -/
  reqBase : Nat
  /-- MBX_RSP_BASE, 64 bits. -/
  rspBase : Nat
  reqProd : Nat
  reqCons : Nat
  rspProd : Nat
  rspCons : Nat
  /-- MBX_CTRL.ENABLE. -/
  enable : Bool
  /-- Bound to in-band frames, else to the host transport (R29). -/
  inband : Bool
  /-- A SYS_CHANNEL_CFG committed and not yet in effect (R60). -/
  rebind : Option Bytes
  keySlot : Nat
  tc : Nat
  vlan : Nat
  peerMac : Nat
  portMask : Nat
  /-- Highest REPLAY accepted (R47). -/
  rxReplay : Nat
  /-- The channel's transmit replay counter (R48). -/
  txReplay : Nat
  /-- Both replay counters as last written to MRAM. -/
  mramRx : Nat
  mramTx : Nat
  /-- Accepted requests since that write. -/
  accepted : Nat
  /-- Requests in the host's queue that the device has not taken, oldest first. -/
  waiting : List HostReq
  /-- Taken and not started, oldest first. -/
  taken : List Taken
  /-- In progress: started, waiting for another step to complete it. -/
  running : Option Taken
  /-- The response of the command in progress is to be discarded (R32, R42). -/
  dropRunning : Bool
  /-- Completed and not posted, oldest first. -/
  completed : List Rsp
  /-- Posted and not consumed, oldest first. -/
  posted : List Rsp
  deriving DecidableEq, Repr

/-- A P90 ring (R61 to R64). -/
structure Ring where
  baseLo : Nat
  baseHi : Nat
  /-- log2 of the descriptor count. -/
  size : Nat
  head : Nat
  tail : Nat
  enable : Bool
  holdoff : Nat
  /-- Posted descriptors from HEAD on. -/
  descs : List P90Desc
  /-- Completions not yet signalled. -/
  unsignalled : Nat
  /-- When the holdoff of the first of them ends. -/
  deadline : Option Nat
  deriving DecidableEq, Repr

/-- The HIF_ registers, the event machinery and the counter windows. -/
structure HostIf where
  /-- The sampled HOST_IF strap: true selects SPI (R29). -/
  spi : Bool
  stage : Stage
  /-- The PCIe endpoint is ready for link training (R413). -/
  pcieReady : Bool
  subsysVendor : Nat
  subsysId : Nat
  scratch : Nat
  irqStatus : Nat
  irqEnable : Nat
  evtBaseLo : Nat
  evtBaseHi : Nat
  evtProd : Nat
  evtCons : Nat
  evtEnable : Bool
  evtOverflow : Bool
  evtHoldoff : Nat
  /-- End of a running event holdoff (R50). -/
  evtDeadline : Option Nat
  /-- New entries since the holdoff began. -/
  evtNew : Nat
  /-- SEQNUM of the next event. -/
  evtSeq : Nat
  /-- The latest 1,024 events, oldest first (R52). -/
  history : List Evt
  /-- Events that wait for ENABLE, oldest first (R417). -/
  unsent : List Evt
  /-- The event ring's entries by index. -/
  ring : Tab Evt
  /-- SEQNUM of the first event lost since the ring filled (R51). -/
  lostFirst : Nat
  lostCount : Nat
  /-- MSI-X table words by byte offset from 0xE000. -/
  msixTable : Tab Nat
  /-- Live counters, class * 32768 + index; an absent one is zero (R5). -/
  counters : Tab Nat
  /-- The snapshot window (R58). -/
  snapshot : Tab Nat
  /-- High halves latched by a low-half read: (requester, counter offset, value) (R34). -/
  latched : List (Nat × Nat × Nat)
  spiMalformed : Bool
  spiRejected : Bool
  /-- Last post of each rate-limited event, by a key (uptime in ns). -/
  lastPost : Tab Nat
  deriving DecidableEq, Repr

/-- A staged command of a transaction: opcode and request data. -/
structure Staged where
  opcode : Nat
  data : Bytes
  deriving DecidableEq, Repr

/-- The open transaction (R53 to R56). -/
structure OpenTxn where
  id : Nat
  /-- Owning channel; 255 for the CFG image's transaction, which no channel owns (R414). -/
  owner : Nat
  idleMs : Nat
  /-- When the idle timeout expires; it runs from the posting of the latest response. -/
  deadline : Nat
  /-- Staged commands, oldest first. -/
  staged : List Staged
  deriving DecidableEq, Repr

/-- What a commit in progress belongs to, and so what follows its flip: TXN_COMMIT's response; nothing (the boot's CFG image, a generation
of the journal); FW_ACTIVATE's response in MODE 0, with its PAUSE_US; or the rest of a fallback carried out as a HOT activation, with the
trial's component mask, MANIFEST_ID and cause (R391, R395). -/
inductive CommitKind where
  | txn
  | boot
  | hot (pauseUs : Nat)
  | back (mask manifestId cause : Nat)
  deriving DecidableEq, Repr

/-- A COMMIT that is being applied (R57, R150, R227): its transaction, owner and commands, and which banks have not yet
flipped. -/
structure Commit where
  id : Nat
  owner : Nat
  kind : CommitKind
  staged : List Staged
  /-- L0 is closed: the rule banks have not flipped, since this uptime. -/
  rules : Option Nat
  /-- The Cupola's bank has not flipped. -/
  cupola : Bool
  /-- Uptime at which the commit was evaluated. -/
  since : Nat
  pause : Nat
  deriving DecidableEq, Repr

/-- The transaction unit. -/
structure TxnUnit where
  committing : Option Commit
  lastId : Nat
  txn : Option OpenTxn
  /-- IDs that ended by abort, idle timeout, refusal or channel reset. -/
  aborted : List Nat
  /-- Configuration generation. -/
  generation : Nat
  deriving DecidableEq, Repr

/-- One Service Fabric requester (R18 to R24). -/
structure Requester where
  /-- Configured wait limit, 1 to 255. -/
  limit : Nat
  wait : Nat
  /-- A request is pending. -/
  pending : Bool
  /-- Latest-service time: low 32 bits of local ns. -/
  lst : Nat
  /-- A latest-service time written while the request holds the grant: it applies to the next request (R24). -/
  nextLst : Option Nat
  /-- Beats of its transfer, 1 to 64. -/
  beats : Nat
  deriving DecidableEq, Repr

/-- The grant in force. -/
structure Holder where
  req : Nat
  forced : Bool
  left : Nat
  deriving DecidableEq, Repr

/-- The Service Arbiter. -/
structure Arbiter where
  reqs : Tab Requester
  holder : Option Holder
  deriving DecidableEq, Repr

/-- A resource claim (R26): its resource (type and index as in SYS_CLAIMS_LIST), amount, and owner in DETAIL's format. -/
structure Claim where
  type : Nat
  index : Nat
  amount : Nat
  owner : Nat
  deriving DecidableEq, Repr

end Sys2Proof.Machine
end

