-- ==== Sys2Proof/Machine/StateLauter.lean ====
section
/-! DEFINITION. Lauter's tables (chapter 05), the stream unit and Belfry (chapter 06), and the declarations of Deadline
Admission (chapter 07). -/

namespace Sys2Proof.Machine

open Sys2Proof

/-- An L0 port entry (LTR_PORT_CFG). -/
structure LPort where
  accept : Nat
  pvid : Nat
  zone : Nat
  flags : Nat
  learnLimit : Nat
  pcpTc : Nat
  deriving DecidableEq, Repr

/-- A VLAN (LTR_VLAN_SET). -/
structure Vlan where
  fid : Nat
  flags : Nat
  zone : Nat
  member : Nat
  untag : Nat
  deriving DecidableEq, Repr

/-- An ACL entry and its result (LTR_ACL_WRITE). -/
structure Acl where
  disp : Nat
  zoneSet : Nat
  dest : Nat
  metaSet : Nat
  profile : Nat
  bypass : Bool
  key : Nat
  mask : Nat
  deriving DecidableEq, Repr

/-- An L5 profile (LTR_PROFILE_SET). -/
structure Profile where
  tc : Nat
  mirror : Nat
  policer : Nat
  copySpire : Bool
  deriving DecidableEq, Repr

/-- A policer's parameters (LTR_POLICER_SET). -/
structure Policer where
  mode : Nat
  redTc : Nat
  cir : Nat
  cbs : Nat
  deriving DecidableEq, Repr

/-- One bank of the banked tables (R150). -/
structure RuleBank where
  ports : Tab LPort
  vlans : Tab Vlan
  acl : Tab Acl
  /-- The zone matrix: X * 64 + Y to its policy byte; an absent one is ALLOW on the diagonal and DENY elsewhere. -/
  matrix : Tab Nat
  profiles : Tab Profile
  policers : Tab Policer
  deriving DecidableEq, Repr

/-- An FDB entry, at index bucket * 4 + way. -/
structure Fdb where
  mac : Nat
  fid : Nat
  dest : Nat
  zone : Nat
  isStatic : Bool
  age : Bool
  deriving DecidableEq, Repr

/-- A connection (R140), at index bucket * 4 + way; an IPv6 one also takes the next way. -/
structure Conn where
  /-- The 18-byte endpoints as numbers. -/
  lo : Nat
  hi : Nat
  family : Nat
  proto : Nat
  state : Nat
  origHi : Bool
  loZone : Nat
  hiZone : Nat
  finLo : Bool
  finHi : Bool
  /-- Uptime of the last accepted frame. -/
  last : Nat
  deriving DecidableEq, Repr

/-- A session zone binding (R128). -/
structure Binding where
  zone : Nat
  port : Nat
  vid : Nat
  sa : Nat
  wildcard : Bool
  deriving DecidableEq, Repr

/-- What learning does at a frame's valid end (R125, R132). -/
structure Learn where
  fid : Nat
  sa : Nat
  port : Nat
  /-- The destination encoding of the ingress port or its LAG. -/
  dest : Nat
  zone : Nat
  deriving DecidableEq, Repr

/-- What classification found of a frame: its descriptor, its copies, the mirror session its profile names, its policer, and
the copies to P91 it asks for (R146). -/
structure Verdict where
  info : FrameInfo
  copies : List Copy
  mirror : Option Nat
  policer : Option Nat
  dropped : Bool
  spire : Nat
  deriving DecidableEq, Repr

/-- A stream entry (STR_STREAM_SET) and its filter's state. -/
structure Stream where
  kind : Nat
  keyType : Nat
  inPort : Nat
  wildcard : Nat
  mac : Nat
  vid : Nat
  ipSa : Nat
  ipDa : Nat
  sport : Nat
  dport : Nat
  dscp : Nat
  proto : Nat
  tc : Nat
  rtagOut : Nat
  egressMask : Nat
  deadline : Nat
  maxLen : Nat
  blockOversize : Bool
  intervalNs : Nat
  maxPer : Nat
  meter : Nat
  seqgen : Nat
  recovery : Nat
  blocked : Bool
  /-- Frames counted in each window, by window number (R159). -/
  windows : Tab Nat
  deriving DecidableEq, Repr

/-- A classified frame whose valid end still takes effect (R125, R161). -/
structure PendEnd where
  id : Nat
  frame : Arrived
  /-- Its stream, if it matched one, with the entry it matched (R158): the filter runs at the valid end. -/
  stream : Option (Nat × Stream)
  /-- A verdict that waits for the frame's end, or for the policer's colour. -/
  verdict : Option Verdict
  learn : Option Learn
  /-- The frame is still being received. -/
  receiving : Bool
  deriving DecidableEq, Repr

/-- Lauter. -/
structure Lauter where
  gen : Bool
  bank : RuleBank
  other : RuleBank
  /-- The generation that set the banks in force. -/
  bankGeneration : Nat
  lastPause : Nat
  maxPause : Nat
  fdb : Tab Fdb
  ageTime : Nat
  /-- Uptime of the FDB scanner's last pass, and of the connection scanner's. -/
  lastAge : Nat
  lastCtScan : Nat
  mcast : Tab Nat
  conns : Tab Conn
  bindings : Tab Binding
  /-- Classified frames whose valid end is due, oldest first. -/
  ends : List PendEnd
  nextEnd : Nat
  /-- Zones whose connections are still to be removed (R130). -/
  purges : List Nat
  seed : Nat
  loose : Bool
  spireRate : Nat
  timeouts : List Nat
  /-- Limiter of the copies to P91: credit in units of 10^-9 token, and its last update (uptime). -/
  spireTokens : Nat
  spireLast : Nat
  /-- Policer credits in units of 1/125,000 byte and their last update (uptime). -/
  credits : Tab (Nat × Nat)
  deriving DecidableEq, Repr

/-- A flow meter (STR_METER_SET) with its buckets in units of 1/125,000 byte. -/
structure Meter where
  flags : Nat
  cir : Nat
  cbs : Nat
  eir : Nat
  ebs : Nat
  c : Nat
  e : Nat
  last : Nat
  latched : Bool
  deriving DecidableEq, Repr

/-- A recovery entry (R165 to R167). -/
structure Recovery where
  takeNoSeq : Bool
  history : Nat
  paths : Nat
  resetMs : Nat
  latentMs : Nat
  latentThreshold : Nat
  takeAny : Bool
  seq : Nat
  hist : Nat
  /-- Expiry of the reset timer (uptime). -/
  deadline : Option Nat
  passed : Nat
  discarded : Nat
  periodEnd : Nat
  deriving DecidableEq, Repr

/-- A gate list: entries (gates, op, interval in TIME ticks), cycle in ticks and base time in ns. -/
structure GateList where
  entries : List (Nat × Nat × Nat)
  cycle : Nat
  base : Nat
  deriving DecidableEq, Repr

/-- A port's gate unit (R171 to R177). -/
structure Gates where
  /-- The oper list and its switch time; none while the list is disabled. -/
  oper : Option (GateList × Nat)
  /-- Pending switches in order, two at most (R176): the admin list to put in force (none: disable) and its switch time. -/
  pending : List (Option GateList × Nat)
  /-- Hold asserted by OP 1. -/
  hold : Bool
  /-- Gate vector as last driven. -/
  vector : Nat
  /-- Number of the oper entry in force. -/
  entry : Nat
  deriving DecidableEq, Repr

/-- A credit-based shaper (R181). -/
structure Cbs where
  enable : Bool
  idleSlope : Nat
  /-- In 10^-6 of 2^-16 bit, so that a tick's change is exact (log 22). -/
  credit : Int
  /-- A committed change waits for the next frame start of the class (R182). -/
  next : Option (Bool × Nat)
  deriving DecidableEq, Repr

/-- Frame preemption of a port (R183). -/
structure Preempt where
  enable : Bool
  expressMask : Nat
  addFrag : Nat
  verify : Bool
  verifyMs : Nat
  /-- 0 disabled, 1 verifying, 2 active, 3 verification failed. -/
  state : Nat
  tries : Nat
  deadline : Option Nat
  deriving DecidableEq, Repr

/-- Queue observation of a port (R187). -/
structure Observe where
  enable : Bool
  tcMask : Nat
  periodUs : Nat
  alarmNs : Nat
  /-- Records by SEQ, oldest first, at most 64. -/
  records : List (Nat × Bytes)
  seq : Nat
  /-- Largest delay of each class since the previous sample. -/
  maxDelay : Tab Nat
  lastSample : Nat
  deriving DecidableEq, Repr

/-- Belfry and the stream unit. -/
structure Streams where
  table : Tab Stream
  meters : Tab Meter
  /-- Next sequence number of each configured generator. -/
  seqgens : Tab Nat
  recoveries : Tab Recovery
  gates : Tab Gates
  /-- Shapers by port * 8 + class. -/
  cbs : Tab Cbs
  preempt : Tab Preempt
  observe : Tab Observe
  /-- Frames already counted in GATE_WAIT: (frame id, port). -/
  waited : List (Nat × Nat)
  deriving DecidableEq, Repr

/-- A declared path (ADM_PATH_SET). -/
structure Path where
  data : Bytes
  deriving DecidableEq, Repr

/-- A bus declaration (ADM_BUS_DECLARE) and the arrivals the device checks it with (R203). -/
structure BusDecl where
  data : Bytes
  /-- Last arrival of each declared identifier or node (local time). -/
  lastSeen : Tab Nat
  deriving DecidableEq, Repr

/-- The result of an evaluation (R205, R206): paths evaluated, the generation it was evaluated against, and every entry in
order. -/
structure AdmReport where
  paths : Nat
  generation : Nat
  entries : List Bytes
  deriving DecidableEq, Repr

/-- Deadline Admission's declarations and its stored report. -/
structure Admission where
  paths : Tab Path
  buses : Tab BusDecl
  report : Option AdmReport
  deriving DecidableEq, Repr

end Sys2Proof.Machine
end

