-- ==== Sys2Proof/Machine/StateLegal.lean ====
section
/-! DEFINITION. Cask (chapter 11), Keep and the SEC island (chapter 12), and the update unit (chapter 15). -/

namespace Sys2Proof.Machine

open Sys2Proof

/-- A meter reading with its time, quality and error bound (R295, R296). -/
structure Reading where
  mwh : Nat
  time : Nat
  quality : Nat
  errNs : Nat
  deriving DecidableEq, Repr

/-- Session states (R286). -/
inductive SesState where
  | idle | bound | active | suspended | closing | sealed
  deriving DecidableEq, Repr

/-- What a session waits for. -/
inductive SesWait where
  /-- Nothing. -/
  | none
  /-- A start reading; `rebind` after a rebinding or takeover (R291, R307). -/
  | start (rebind : Bool)
  /-- An interim reading. -/
  | interim
  /-- A stop reading. -/
  | stop
  /-- The stop value of the module fold (R297). -/
  | fold
  /-- The seal of its record (R301). -/
  | seal
  deriving DecidableEq, Repr

/-- A delivery of a legal source PDU to Cask (R259): its bytes, its arrival at SGE (local time), the poll's status, QUALITY and
ERR_NS at that arrival (R296), and the uptime at which the delivery committed (R294). -/
structure Delivery where
  bytes : Bytes
  arrival : Nat
  ok : Bool
  quality : Nat
  errNs : Nat
  committed : Nat
  deriving DecidableEq, Repr

/-- A session context (R286). -/
structure Session where
  state : SesState
  outlet : Nat
  meterSel : Nat
  zone : Nat
  group : Nat
  foldIdx : Nat
  port : Nat
  flags : Nat
  vid : Nat
  sa : Nat
  hostRef : Bytes
  serial : Nat
  segment : Nat
  start : Option Reading
  last : Option Reading
  stop : Option Reading
  /-- Usable fold values taken (R297). -/
  startFold : Option Nat
  stopFold : Option Nat
  suspendCount : Nat
  interimCount : Nat
  suspendedMs : Nat
  /-- Local time at which the running suspension began (uptime). -/
  suspendedAt : Nat
  degraded : Bool
  stopMissing : Bool
  restart : Bool
  endCause : Nat
  /-- State to which the session returns after its segment is sealed (R291, R307). -/
  resume : Option SesState
  /-- Rebinding to apply: METER_SEL, FOLD, GROUP. -/
  rebind : Option (Nat × Nat × Nat)
  wait : SesWait
  /-- The command in progress (R288): its channel and opcode. -/
  cmd : Option (Nat × Nat)
  /-- Attempts made for the reading, the running attempt's expiry, and when it began. -/
  attempts : Nat
  deadline : Nat
  begun : Nat
  /-- The delivery that waits to be taken as the reading. -/
  delivery : Option Delivery
  /-- RECORD_SEQ of the session's last record. -/
  lastRecord : Nat
  /-- Uptimes at which the start and the stop reading arrived at Cask (R294, R297). -/
  startAt : Nat
  stopAt : Nat
  /-- A reading after a reset that waits until the meter's channel runs (R307). -/
  due : Bool
  deriving DecidableEq, Repr

/-- A record that waits for its seal: of a session, or a marker (session 0) with its END_CAUSE and the time of its change. -/
structure SealItem where
  session : Nat
  cause : Nat
  time : Nat
  /-- The status its seal was withheld with (R303) and the RECORD_SEQ reserved for it. -/
  withheld : Option Nat
  seq : Option Nat
  /-- A withheld seal is to be tried again. -/
  retry : Bool
  deriving DecidableEq, Repr

/-- Cask: contexts, chain, ring, legal parameters and legal log. -/
structure Cask where
  sessions : Tab Session
  serial : Nat
  /-- One above the last released RECORD_SEQ (R304). -/
  nextSeq : Nat
  /-- The lowest RECORD_SEQ not acknowledged. -/
  unacked : Nat
  /-- Void sequence values (R304). -/
  voids : List Nat
  /-- The record ring: slot to 256 bytes (MRAM 0x00CC_0000). -/
  records : Tab Bytes
  /-- RECORD_SEQ of the last released record and its 256 bytes. -/
  lastSeq : Option Nat
  /-- Records that wait for their seal, in order of segment end. -/
  seals : List SealItem
  /-- SES_RING_LEVEL stands at risen. -/
  levelHigh : Bool
  /-- The legal parameter block in force, 1,040 bytes. -/
  params : Bytes
  /-- The legal event log: SEQ to 64 bytes. -/
  log : Tab Bytes
  logNext : Nat
  logUnacked : Nat
  logLost : Nat
  /-- No session starts until parameters are updated (CASK_CHAIN, R307). -/
  chainBroken : Bool
  /-- A lifecycle change to log at the next start: old and new state (R312). -/
  lifecycleLog : Option (Nat × Nat)
  /-- The version of a LEG image put in force and not yet logged (R392). -/
  legNew : Option Nat
  /-- The channel that waits for the marker of a legal parameter update, if any. -/
  paramCh : Option Nat
  /-- The SGE commands of the legal parameters in force (R308). -/
  sge : List (Nat × Bytes)
  /-- LEG was stopped by a fault (R307), and its recovery after a reset is due. -/
  faultEnd : Bool
  /-- That fault was an F2 fault in twin mode: the restart seals nothing (R371). -/
  twinEnd : Bool
  recover : Bool
  /-- The uptime of the last release of a record, and of the last entry of the legal log, each with the limit of an acknowledgement served
  in that tick: NEXT_SEQ, or the log's next SEQ, before it (R306). -/
  released : Option (Nat × Nat) := none
  logged : Option (Nat × Nat) := none
  deriving DecidableEq, Repr

/-- A key slot (12, Key slots). -/
structure KeySlot where
  /-- 0 EMPTY, 1 VALID, 2 REVOKED. -/
  state : Nat
  type : Nat
  root : Nat
  origin : Nat
  gen : Nat
  parent : Nat
  depth : Nat
  usage : Nat
  parentGen : Nat
  useLimit : Nat
  useCount : Nat
  label : Nat
  key : Bytes
  pub : Bytes
  /-- USE_COUNT as stored in its blob (R325). -/
  stored : Nat
  lowPosted : Bool
  deriving DecidableEq, Repr

/-- The two blob records of a slot in MRAM, each the slot as written, and which is written next (R316). -/
structure Blobs where
  a : Option KeySlot
  b : Option KeySlot
  second : Bool
  deriving DecidableEq, Repr

/-- A cipher engine register page (12, The cipher engine). -/
structure Page where
  go : Bool
  dir : Nat
  slot : Nat
  nblocks : Nat
  src : Nat
  dst : Nat
  lst : Nat
  status : Nat
  gen : Nat
  done : Nat
  /-- The job answers a KEEP_CIPHER of channel page - 1; its input comes with the request, not by SRC. -/
  host : Bool
  input : Bytes
  deriving DecidableEq, Repr

/-- An ECC operation in the engine's queue (R329): what it answers, its key, and what it works on. -/
structure EccOp where
  /-- 0 sign, 1 verify, 2 attest. -/
  kind : Nat
  ch : Nat
  /-- The slot of its key; none for a key given with the request or the attestation key. -/
  slot : Option Nat
  /-- The operation has begun, with the slot's GEN latched. -/
  started : Bool
  gen : Nat
  /-- Named by Cask (CASK), else by the host (HOST). -/
  cask : Bool
  /-- The root a record signing key must have (R302). -/
  root : Option Nat
  curve : Nat
  pub : Bytes
  digest : Bytes
  sig : Bytes
  /-- What precedes the signature in the response; for an attestation the nonce. -/
  head : Bytes
  deriving DecidableEq, Repr

/-- Keep and the SEC island. -/
structure Keep where
  /-- 0 BLANK, 1 TEST, 2 OWNED, 3 SEALED, 4 RETIRED (R310). -/
  lifecycle : Nat
  /-- The lifecycle record as written, in force from the next boot (R312). -/
  lifecycleNext : Nat
  rootsUnlocked : Bool
  /-- The roots are locked by a tamper alarm (R332). -/
  locked : Bool
  counters : Tab Nat
  slots : Tab KeySlot
  /-- Blob records by slot. -/
  blobs : Tab Blobs := []
  /-- The key the LIFECYCLE message in force from the next boot installs. -/
  authNext : Bytes
  ownerAuth : Bytes
  legalAuth : Bytes
  pages : Tab Page
  lastPage : Nat
  /-- The page whose job runs. -/
  job : Option Nat
  /-- The working key register holds a copy of a slot's key. -/
  workingKey : Bytes
  eccQueue : List EccOp
  eccKey : Bytes
  rngFailed : Bool
  rngFailures : Nat
  /-- The generator stays failed until the next reset (R330). -/
  rngStuck : Bool
  rngRetest : Nat
  /-- Requests since the DRBG last reseeded (R330). -/
  rngRequests : Nat
  /-- Random requests served, from which the DRBG's output is taken. -/
  rngDraws : Nat
  deriving DecidableEq, Repr

/-- A bank of a component (15, Bank states). -/
structure Bank where
  /-- 0 EMPTY, 1 VALID, 2 ACTIVE, 3 ACTIVE_TRIAL, 4 INVALID. -/
  state : Nat
  version : Nat
  build : Nat
  epoch : Nat
  length : Nat
  /-- The manifest it was verified against and the lifecycle state then (R411). -/
  manifest : Bytes
  lifecycle : Nat
  deriving DecidableEq, Repr

/-- An update session (R385). -/
structure UpdateSession where
  owner : Nat
  manifest : Bytes
  /-- Target bank of each component of the manifest (R382). -/
  targets : List (Nat × Nat)
  verified : Bool
  /-- WRITTEN of each component 1 to 5. -/
  written : Tab Nat
  /-- OFFSET and byte count of the previous write of each component (R386). -/
  lastWrite : Tab (Nat × Nat)
  deadline : Nat
  deriving DecidableEq, Repr

/-- A trial (R393). -/
structure Trial where
  manifestId : Nat
  mask : Nat
  hot : Bool
  confirmS : Nat
  /-- The trial timer's expiry, once it runs. -/
  deadline : Option Nat
  /-- Bank each component ran before: component to bank (2 none), and the bank on trial. -/
  previous : Tab Nat
  current : Tab Nat
  /-- SEQ of the fault log's next record at the activation. -/
  faultMark : Nat
  /-- The trial has failed, with its cause, and falls back at the next reset (R395). -/
  failed : Option Nat
  deriving DecidableEq, Repr

/-- The update unit. -/
structure Update where
  /-- Banks: component * 2 + bank. -/
  banks : Tab Bank
  /-- MRAM bank contents by MRAM address. -/
  mram : Memory
  /-- Writes counted by the MRAM controller (R418). -/
  mramWrites : Nat
  session : Option UpdateSession
  trial : Option Trial
  /-- The one-shot trial flag of R410. -/
  trialFlag : Bool
  /-- When a RESET activation's reset began (R394 cause 3). -/
  trialReset : Option Nat
  /-- Kiln entered by SYS_RESET with KIND 2: its timeout (R398). -/
  kilnDeadline : Option Nat
  /-- The requester of a Kiln frame being served on P10 (R400). -/
  kilnPeer : Option Nat
  deriving DecidableEq, Repr

end Sys2Proof.Machine
end

