-- ==== Sys2Proof/Machine/StatePower.lean ====
section
/-! DEFINITION. Power states, sleep domains and Lantern (chapter 13), faults, safe state and the twin (chapter 14), reset
and boot (chapter 16). -/

namespace Sys2Proof.Machine

open Sys2Proof

/-- Power states (R335). -/
inductive PowerState where
  | run | partialRun | doze | dormant | off | tamperHold
  deriving DecidableEq, Repr

/-- Domain states (13, Domain states). -/
inductive DomainState where
  | awake | prepare | asleep | waking
  deriving DecidableEq, Repr

/-- A sleep domain: PWR_DOMAIN_CFG and its state. -/
structure Domain where
  flags : Nat
  timer : Nat
  portMask : Nat
  stbMask : Nat
  settleUs : Nat
  kaTimeoutMs : Nat
  noTrafficMs : Nat
  prepareMs : Nat
  indCount : Nat
  indGapMs : Nat
  indPdu : Nat
  kaKind : Nat
  kaId : Nat
  kaMask : Nat
  kaEtype : Nat
  kaDa : Nat
  state : DomainState
  /-- Expiry of the keep-alive timer (uptime). -/
  kaDeadline : Nat
  /-- The first run after a class B wake (R351), with its wake source. -/
  firstRun : Option Nat
  /-- End of PREPARE_MS. -/
  prepareEnd : Nat
  /-- Indications sent, and completed. -/
  indSent : Nat
  indDone : Nat
  /-- Uptime of the commit point, after which its gating takes at most 1 ms (R345). -/
  commitAt : Nat
  /-- Source of the wake in progress, and the uptime at which it began. -/
  wakeSource : Nat
  wakeAt : Nat
  deriving DecidableEq, Repr

/-- A wake source's configuration (PWR_WAKE_CFG). -/
structure WakeCfg where
  enable : Bool
  target : Nat
  filterUs : Nat
  mode : Nat
  deriving DecidableEq, Repr

/-- An entry of the always-on log (R356). -/
structure AonEntry where
  type : Nat
  source : Nat
  rtcS : Nat
  rtcSub : Nat
  seq : Nat
  data : Nat
  deriving DecidableEq, Repr

/-- A host hold (PWR_HOLD): when it ends, if it ends. -/
structure Hold where
  deadline : Option Nat
  deriving DecidableEq, Repr

/-- The tamper unit, kept by Lantern (R331 to R334). -/
structure Tamper where
  /-- KEEP_TAMPER_CFG: 32 bytes. -/
  cfg : Bytes
  /-- Sources with a latched alarm, and sources active now: a bit each. -/
  latched : Nat
  active : Nat
  /-- TAMPER_SEQ of the latest alarm (0 none), its source (0xFF none) and its RTC time in ns. -/
  seq : Nat
  lastSrc : Nat
  lastTime : Nat
  /-- A HOLD alarm's reset is due by then (uptime). -/
  holdBy : Option Nat
  deriving DecidableEq, Repr

/-- Lantern and the power unit. -/
structure Lantern where
  power : PowerState
  domains : Tab Domain
  wake : Tab WakeCfg
  target : Nat
  hostIdleMs : Nat
  dormantAfterS : Nat
  /-- Host holds by scope 0 to 32. -/
  holds : Tab Hold
  /-- Arrival of the last mailbox request (uptime). -/
  lastRequest : Option Nat
  /-- The host-idle hold has been in force since and its end not yet taken. -/
  hostActive : Bool
  lastWakeSrc : Nat
  lastWakeTime : Nat
  /-- Wakes latched: (target, source, uptime of the condition). -/
  latched : List (Nat × Nat × Nat)
  /-- An entry into DOZE or DORMANT in progress: the target state and when it began. -/
  entry : Option (PowerState × Nat)
  /-- Uptime at which DOZE was entered. -/
  dozeSince : Nat
  rtcS : Nat
  rtcSub : Nat
  /-- Time since the last whole AON cycle, in units of 2^-15 ns x 1000000000. -/
  rtcFrac : Nat
  alarmS : Nat
  alarmTarget : Nat
  aonLog : List AonEntry
  aonSeq : Nat
  /-- Levels of CAN_STB pins, one bit each. -/
  stb : Nat
  /-- Kept at each entry into DORMANT (R418): bank selection, generation and MRAM write count. -/
  keptBanks : List Nat
  keptGeneration : Nat
  keptWrites : Nat
  tamper : Tamper
  /-- Events that arise during entry and are posted after the next wake: code, OBJECT, DATA, TIME. -/
  deferred : List (Nat × Nat × Nat × Nat)
  deriving DecidableEq, Repr

/-- A fault log record (R368). -/
structure FaultRec where
  seq : Nat
  code : Nat
  cls : Nat
  flags : Nat
  time : Nat
  object : Nat
  data : Nat
  deriving DecidableEq, Repr

/-- Twin roles in SAFE_TWIN_STATUS's encoding. -/
inductive TwinRole where
  | disabled | pairing | active | standby | miswired
  deriving DecidableEq, Repr

/-- A journal frame sent and not acknowledged. -/
structure JFrame where
  seq : Nat
  bytes : Bytes
  sentAt : Nat
  resends : Nat
  deriving DecidableEq, Repr

/-- A synchronous record the standby has not acknowledged (R377): the SEQ of its last frame, its TYPE, and the end of the 5 ms. -/
structure SyncWait where
  seq : Nat
  type : Nat
  deadline : Nat
  deriving DecidableEq, Repr

/-- A CONFIG record being put together: its generation, the next part, and the bytes so far. -/
structure ConfigPart where
  gen : Nat
  next : Nat
  data : Bytes
  deriving DecidableEq, Repr

/-- The twin unit (R372 to R381). -/
structure Twin where
  enable : Bool
  loose : Bool
  filterUs : Nat
  journalMs : Nat
  linkTimeoutMs : Nat
  primaryWaitMs : Nat
  looseS : Nat
  role : TwinRole
  /-- ACT_OUT_N low. -/
  act : Bool
  /-- ACT_IN_N high, and the uptime at which it was last registered to rise. -/
  actInHigh : Bool
  actInHighSince : Nat
  /-- The sampled TWIN_ROLE strap. -/
  strap : Bool
  sync : Bool
  link : Bool
  /-- The peer: its MAC and UID, once a HELLO has been accepted. -/
  peerMac : Option Nat
  peerUid : Nat
  /-- What the peer's HELLO says of the pairing: 0 fits, 1 versions differ, 2 the straps are equal (R374). -/
  mismatch : Nat
  /-- TYPEs, a bit each, whose full state this standby has requested and not yet received (R375, R377). -/
  needs : Nat
  /-- SEQ of the last frame sent; of the last one acknowledged. -/
  txSeq : Nat
  acked : Nat
  /-- Highest SEQ received in order; none until the first sequenced frame since link-up. -/
  rxSeq : Option Nat
  unacked : List JFrame
  /-- Frames received after a gap, by SEQ. -/
  gap : Tab Bytes
  /-- Last frame from the peer (uptime). -/
  lastRx : Nat
  waits : List SyncWait
  /-- Last HELLO sent (uptime); none since link-up. -/
  lastHello : Option Nat
  lastAlign : Nat
  lastBatch : Nat
  /-- The end of PRIMARY_WAIT_MS, of the settle window, and of LOOSE_S. -/
  primaryWait : Option Nat
  settle : Option Nat
  looseEnd : Option Nat
  /-- A switch-over is in progress, between its steps 1 and 3 (R379). -/
  takingOver : Bool
  /-- Both twins have been found to drive ACT_OUT_N low (R372). -/
  conflict : Bool
  /-- A CONFIG record received in part. -/
  parts : Option ConfigPart
  /-- Transactions committed since boot, by generation: the full state of CONFIG. -/
  commits : List (Nat × List Staged)
  /-- On the active: a full resynchronisation has been acknowledged since link-up; and the SEQ of the last frame of one under way. -/
  paired : Bool
  resyncSeq : Option Nat
  /-- TYPEs, a bit each, that the peer has requested and this twin, not yet active, still owes it. -/
  owed : Nat
  /-- Destination PDUs changed since the last batch. -/
  changedPdus : List Nat
  /-- Domain or power states changed and not yet journalled (SLEEP record). -/
  sleepDirty : Bool
  /-- A handover the active waits for: channel, deadline. -/
  handover : Option (Nat × Nat)
  deriving DecidableEq, Repr

/-- The safety unit: the Spire pair's mode, the comparators, the fault log and the safe state (R358 to R371). -/
structure Safety where
  /-- Spire mode: true is SPLIT. -/
  split : Bool
  /-- A LOCK_INFRA in SPLIT refuses the return to LOCKED (R361). -/
  noReturn : Bool
  /-- SAFE_N is low. -/
  safe : Bool
  /-- The fault register: what the hardware latched of the latest F2 fault, before the ROM writes its record (R368). -/
  latched : Option FaultRec
  log : List FaultRec
  faultSeq : Nat
  lastCode : Nat
  selfTestAt : Nat
  digestAt : Nat
  f2Action : Nat
  /-- F2_ACTION was set by a command, else it follows twin mode. -/
  f2Set : Bool
  restartsPerHour : Nat
  restartDelayMs : Nat
  wdtMs : Nat
  /-- Uptimes of the R370 restarts. -/
  restarts : List Nat
  /-- When FAULT_HOLD was entered. -/
  holdSince : Option Nat
  deriving DecidableEq, Repr

/-- The JTAG port (R426): its 5-bit instruction register and the latches of its boundary-scan register. -/
structure Jtag where
  ir : Nat
  latches : List Bool
  deriving DecidableEq, Repr

/-- Reset inputs and straps as sampled, and what the ROM keeps (chapter 16). -/
structure Boot where
  bootSrc : Nat
  /-- Boot stopped by R408; only a power-on reset leaves it. -/
  stopped : Bool
  /-- A reset is to begin no earlier than this (SYS_RESET and its like): kind 1 system, 2 into Kiln, and its cause. -/
  resetDue : Option (Nat × Nat × Nat)
  /-- A reset is in force or its boot has not run: the kind (0 power-on, 1 system, 2 system into Kiln). -/
  resetKind : Option Nat
  /-- VDD_AON is present. -/
  aon : Bool
  /-- The VID code requested (R403). -/
  vid : Nat
  /-- VDDIO_B's level as taken at PORST_N's rising edge selected 3.3 V pads; else 1.8 V pads (R422). -/
  pads33 : Bool
  /-- The CFG image was refused in ADMITTING (R414). -/
  cfgRefused : Bool
  /-- Uptime at which ADMITTING was entered. -/
  admittingAt : Option Nat
  /-- LEG runs (R412). -/
  legRuns : Bool
  /-- PHY and SDS are loaded (R412). -/
  phyLoaded : Bool
  sdsLoaded : Bool
  deriving DecidableEq, Repr

end Sys2Proof.Machine
end

