-- ==== Sys2Proof/Machine/StateTime.lean ====
section
/-! DEFINITION. The time unit's state (chapter 10 of the spec). -/

namespace Sys2Proof.Machine

open Sys2Proof

/-- The local clock: 48 bits of seconds, 32 bits of nanoseconds, 32 bits of fraction, and the 40-bit INCREMENT in units
of 2^-32 ns that each TIME tick adds (R263). -/
structure Clock where
  sec : Nat
  ns : Nat
  frac : Nat
  increment : Nat
  deriving DecidableEq, Repr

/-- Slot states (10, Domains, servo and quality). -/
inductive SlotState where
  | disabled | listening | acquire | locked | holdover | grandmaster
  deriving DecidableEq, Repr

/-- One gPTP domain slot: its configuration (TIME_DOMAIN_CFG) and its servo. -/
structure Slot where
  enable : Bool
  domain : Nat
  flags : Nat
  priority1 : Nat
  priority2 : Nat
  logSync : Int
  logAnnounce : Int
  syncTimeout : Nat
  announceTimeout : Nat
  portMask : Nat
  slavePort : Nat
  state : SlotState
  /-- The slave port the slot selects; 255 none. -/
  slave : Nat
  gmId : Nat
  stepsRemoved : Nat
  utcOffset : Int
  /-- Offset of the last sample, local minus domain, in ns. -/
  theta : Int
  /-- Whether a sample has been taken since the slot started. -/
  sampled : Bool
  /-- Sum of the offsets (R265). -/
  sumTheta : Int
  /-- rho - 1 of the last valid sample, in 2^-41. -/
  rate : Int
  /-- The correction c of the last sample, in 2^-16 ppb (R265). -/
  corr : Int
  /-- Consecutive samples within LOCK_NS, and beyond 4 x LOCK_NS (R266). -/
  goodRun : Nat
  badRun : Nat
  /-- The sync receipt timer's expiry (uptime). -/
  syncDeadline : Option Nat
  /-- The announce receipt timer's expiry (uptime). -/
  announceDeadline : Option Nat
  /-- Local time of the last sample, from which the slot's time is extrapolated (R270). -/
  sampleLocal : Nat
  /-- Timestamp uncertainty of the slave port at the last sample, in ns. -/
  uncertainty : Nat
  /-- preciseOriginTimestamp, correctionField (2^-16 ns), link delay (2^-16 ns) and ingress timestamp of the last Sync, which the
  slot's own Follow_Ups pass on (R274). -/
  origin : Nat := 0
  corrField : Int := 0
  delay : Int := 0
  ingress : Nat := 0
  /-- INCREMENT in force after that sample, which its rate is relative to (R270). -/
  relIncr : Nat
  /-- Uptime at which holdover began and the error bound then (R268). -/
  holdoverStart : Nat
  holdoverErr : Nat
  deriving DecidableEq, Repr

/-- Per-port gPTP configuration and state (TIME_PORT_CFG, R274). -/
structure TimePort where
  peerDelay : Bool
  logPdelay : Int
  thresh : Nat
  asym : Int
  /-- RX_LAT and TX_LAT of the four rate slots, Q16.16 ns. -/
  rxLat : List Int
  txLat : List Int
  /-- RX_LAT before each recent flip, with the local time of the flip, oldest first (R277). -/
  rxPast : List (Nat × List Int) := []
  asCapable : Bool
  /-- Mean link delay, in 2^-16 ns. -/
  meanDelay : Int
  /-- Egress timestamp t1 of the last peer delay request, once registered. -/
  reqSent : Option Nat := none
  /-- Intervals without a peer delay response. -/
  missed : Nat
  /-- Uptime of the last peer delay response, or of the enabling. -/
  pdelayLast : Option Nat
  deriving DecidableEq, Repr

/-- An entry of an egress timestamp FIFO (R278): a record of a host frame or a firmware frame, or a loss record. -/
inductive TsEntry where
  | host (tag time : Nat)
  | firmware (tag time : Nat) (follow : Option FollowUp)
  | loss (first last frames : Nat)
  deriving DecidableEq, Repr

/-- A port's egress timestamp FIFO with its pending loss run. -/
structure TsFifo where
  /-- Oldest first, each with the uptime at which it was written. -/
  entries : List (Nat × TsEntry)
  /-- First tag, last tag and frames of the run. -/
  run : Option (Nat × Nat × Nat)
  deriving DecidableEq, Repr

/-- T1S segment time beacon of a port (R280). -/
structure Beacon where
  enable : Bool
  periodMs : Nat
  da : Nat
  segDelay : Nat
  seq : Nat
  /-- A due beacon not yet sent. -/
  due : Bool
  /-- Local time at which the next beacon falls due. -/
  next : Nat
  /-- PLCA_START of this cycle. -/
  plcaStart : Option Nat
  stepped : Bool
  switched : Bool
  deriving DecidableEq, Repr

/-- A capture record of a TIME_IO pin (R285). -/
structure Capture where
  time : Nat
  edge : Nat
  flags : Nat
  seq : Nat
  deriving DecidableEq, Repr

/-- One TIME_IO pin (R282 to R285). -/
structure TimePin where
  /-- 0 OFF, 1 PULSE, 2 PERIODIC, 3 CAPTURE. -/
  mode : Nat
  flags : Nat
  filter : Nat
  start : Nat
  period : Nat
  width : Nat
  count : Nat
  comp : Int
  /-- The next edge's number (PERIODIC). -/
  k : Nat
  /-- Edges that count toward COUNT. -/
  used : Nat
  /-- A pulse armed and not yet driven (PULSE). -/
  pending : Option Nat
  /-- While active: the local time at which the pin goes inactive. -/
  activeUntil : Option Nat
  captures : List Capture
  seq : Nat
  lost : Bool
  deriving DecidableEq, Repr

/-- The time unit. -/
structure TimeUnit where
  clock : Clock
  workSlot : Nat
  /-- The slot TIME_CLOCK_CFG names. -/
  cfgSlot : Nat
  stepAllow : Bool
  autoSwitch : Bool
  lockCount : Nat
  kp : Nat
  ki : Nat
  slewPpm : Nat
  lockNs : Nat
  stepNs : Nat
  holdoverPpb : Nat
  budgetNs : Nat
  switchMax : Nat
  slots : Tab Slot
  ports : Tab TimePort
  fifos : Tab TsFifo
  /-- Drains fall at multiples of 250 ns; local time of the last. -/
  lastDrain : Nat
  beacons : Tab Beacon
  pins : Tab TimePin
  /-- QUALITY last posted (R269). -/
  quality : Nat
  /-- The lock criterion has not been met since the last switch. -/
  slewing : Bool
  /-- The clock was last set by TIME_SET. -/
  clockSet : Bool
  /-- Position within the sampled cycle of the egress timestamp point last registered, in 2^-16 ns (R276). -/
  txPoint : Nat := 0
  deriving DecidableEq, Repr

end Sys2Proof.Machine
end

