-- ==== Sys2Proof/Machine/Defaults.lean ====
section
/-! DEFINITION. What an absent table entry stands for, and each unit right after a power-on reset: the defaults the
chapters' tables give; where they give none, zero or empty (log 2). -/

namespace Sys2Proof.Machine

open Sys2Proof

/-- A mailbox channel at reset: registers zero, no configuration, bound to the host transport (R29). -/
def chan0 : Chan :=
  { reqBase := 0, rspBase := 0, reqProd := 0, reqCons := 0, rspProd := 0, rspCons := 0, enable := false, inband := false,
    rebind := none, keySlot := 0, tc := 0, vlan := 0, peerMac := 0, portMask := 0, rxReplay := 4096, txReplay := 4096,
    mramRx := 0, mramTx := 0, accepted := 0, waiting := [], taken := [], running := none, dropRunning := false, completed := [],
    posted := [] }

/-- A P90 ring at reset: SIZE 6, the rest zero (02, Host frame path on P90). -/
def ring0 : Ring :=
  { baseLo := 0, baseHi := 0, size := 6, head := 0, tail := 0, enable := false, holdoff := 0, descs := [],
    unsignalled := 0, deadline := none }

/-- The host interface at reset. -/
def hostIf0 : HostIf :=
  { spi := false, stage := .reset, pcieReady := false, subsysVendor := 0, subsysId := 0, scratch := 0, irqStatus := 0,
    irqEnable := 0, evtBaseLo := 0, evtBaseHi := 0, evtProd := 0, evtCons := 0, evtEnable := false,
    evtOverflow := false, evtHoldoff := 0, evtDeadline := none, evtNew := 0, evtSeq := 0, history := [], unsent := [],
    ring := [], lostFirst := 0, lostCount := 0, msixTable := [], counters := [], snapshot := [], latched := [],
    spiMalformed := false, spiRejected := false, lastPost := [] }

/-- No transaction; the first ID is one greater than this (R53, log 4). -/
def txnUnit0 : TxnUnit := { committing := none, lastId := 0, txn := none, aborted := [], generation := 0 }

/-- A requester at reset: wait limit 64 (R18). -/
def requester0 : Requester :=
  { limit := 64, wait := 0, pending := false, lst := 0, nextLst := none, beats := 0 }

/-- The arbiter at reset. -/
def arbiter0 : Arbiter := { reqs := [], holder := none }

/-- The local clock at power-on reset: the RTC's seconds, 0 ns, INCREMENT nominal (R264). -/
def clock0 (rtcS : Nat) : Clock := { sec := rtcS, ns := 0, frac := 0, increment := 0x0400000000 }

/-- A domain slot: disabled, with TIME_DOMAIN_CFG's defaults. -/
def slot0 : Slot :=
  { enable := false, domain := 0, flags := 0, priority1 := 246, priority2 := 248, logSync := -3, logAnnounce := 0,
    syncTimeout := 3, announceTimeout := 3, portMask := 0, slavePort := 255, state := .disabled, slave := 255, gmId := 0,
    stepsRemoved := 0, utcOffset := 0, theta := 0, sampled := false, sumTheta := 0, rate := 0, corr := 0, goodRun := 0,
    badRun := 0, syncDeadline := none, announceDeadline := none, sampleLocal := 0, uncertainty := 0, relIncr := 0x0400000000, holdoverStart := 0,
    holdoverErr := 0 }

/-- A gPTP port with TIME_PORT_CFG's defaults. -/
def timePort0 : TimePort :=
  { peerDelay := false, logPdelay := 0, thresh := 800, asym := 0, rxLat := [0, 0, 0, 0], txLat := [0, 0, 0, 0],
    asCapable := false, meanDelay := 0, missed := 0, pdelayLast := none }

/-- An empty egress timestamp FIFO. -/
def tsFifo0 : TsFifo := { entries := [], run := none }

/-- A segment beacon, disabled: PERIOD_MS 125 and the default address 03-4C-59-00-00-01. -/
def beacon0 : Beacon :=
  { enable := false, periodMs := 125, da := 0x034C59000001, segDelay := 0, seq := 0, due := false, next := 0,
    plcaStart := none, stepped := false, switched := false }

/-- A TIME_IO pin in mode OFF. -/
def timePin0 : TimePin :=
  { mode := 0, flags := 0, filter := 0, start := 0, period := 0, width := 0, count := 0, comp := 0, k := 0, used := 0,
    pending := none, activeUntil := none, captures := [], seq := 0, lost := false }

/-- The time unit with TIME_CLOCK_CFG's defaults, UNSYNCED (R264). -/
def timeUnit0 (rtcS : Nat) : TimeUnit :=
  { clock := clock0 rtcS, workSlot := 0, cfgSlot := 0, stepAllow := true, autoSwitch := false, lockCount := 8,
    kp := 0xB333, ki := 0x0CCD, slewPpm := 10, lockNs := 100, stepNs := 1000000, holdoverPpb := 100, budgetNs := 1000000,
    switchMax := 100000, slots := [], ports := [], fifos := [], lastDrain := 0, beacons := [], pins := [], quality := 4,
    slewing := false, clockSet := false }

/-- The tamper unit at first power: sources 4 to 7 enabled (R332) with ACTION LOCK, the others disabled (log 13). -/
def tamper0 : Tamper :=
  { cfg := zeros 16 ++ [1, 1, 0, 0, 1, 1, 0, 0, 1, 1, 0, 0, 1, 1, 0, 0], latched := 0, active := 0, seq := 0, lastSrc := 0xFF
    lastTime := 0, holdBy := none }

/-- Lantern at first power: RUN's defaults of PWR_POLICY_CFG, RTC at 0 s (R335). -/
def lantern0 : Lantern :=
  { power := .run, domains := [], wake := [], target := 1, hostIdleMs := 2000, dormantAfterS := 0, holds := [],
    lastRequest := none, hostActive := false, lastWakeSrc := 0, lastWakeTime := 0, latched := [], entry := none,
    dozeSince := 0, rtcS := 0, rtcSub := 0, rtcFrac := 0, alarmS := 0, alarmTarget := 0, aonLog := [], aonSeq := 0,
    stb := 255, keptBanks := [], keptGeneration := 0, keptWrites := 0, tamper := tamper0, deferred := [] }

/-- The safety unit: LOCKED, SAFE_POLICY_CFG's defaults. -/
def safety0 : Safety :=
  { split := false, noReturn := false, safe := false, latched := none, log := [], faultSeq := 0, lastCode := 0, selfTestAt := 0,
    digestAt := 0, f2Action := 0, f2Set := false, restartsPerHour := 3, restartDelayMs := 100, wdtMs := 100,
    restarts := [], holdSince := none }

/-- The twin unit: twin mode disabled, ACT_OUT_N released (R373), SAFE_TWIN_CFG's defaults. -/
def twin0 : Twin :=
  { enable := false, loose := false, filterUs := 20, journalMs := 10, linkTimeoutMs := 10, primaryWaitMs := 500,
    looseS := 120, role := .disabled, act := false, actInHigh := true, actInHighSince := 0, strap := false, sync := false,
    link := false, peerMac := none, peerUid := 0, mismatch := 0, needs := 0, txSeq := 0, acked := 0, rxSeq := none
    unacked := [], gap := [], lastRx := 0, waits := [], lastHello := none, lastAlign := 0, lastBatch := 0
    primaryWait := none, settle := none, looseEnd := none, takingOver := false, conflict := false, parts := none
    commits := [], paired := false, resyncSeq := none, owed := 0, changedPdus := [], sleepDirty := false, handover := none }

/-- Straps and reset inputs before the first power-on reset's boot has run; VID reads code 4 (R403). -/
def boot0 : Boot :=
  { bootSrc := 0, stopped := false, resetDue := none, resetKind := some 0, aon := true, vid := 4, pads33 := true, cfgRefused := false,
    admittingAt := none, legRuns := false, phyLoaded := false, sdsLoaded := false }

/-- The JTAG port after a power-on reset: IDCODE is selected, as IEEE 1149.1 has it; its latches' levels are the model's (log 93). -/
def jtag0 : Jtag := { ir := 1, latches := List.replicate 161 false }

/-- A session context in IDLE. -/
def session0 : Session :=
  { state := .idle, outlet := 0, meterSel := 0, zone := 6, group := 0xFFFF, foldIdx := 0, port := 0, flags := 0, vid := 0,
    sa := 0, hostRef := zeros 16, serial := 0, segment := 0, start := none, last := none, stop := none, startFold := none,
    stopFold := none, suspendCount := 0, interimCount := 0, suspendedMs := 0, suspendedAt := 0, degraded := false,
    stopMissing := false, restart := false, endCause := 0, resume := none, rebind := none, wait := .none, cmd := none,
    attempts := 0, deadline := 0, begun := 0, delivery := none, lastRecord := 0, startAt := 0, stopAt := 0, due := false }

/-- Cask on a new device: an empty chain, an empty log and no legal parameters. -/
def cask0 : Cask :=
  { sessions := [], serial := 0, nextSeq := 1, unacked := 1, voids := [], records := [], lastSeq := none, seals := []
    levelHigh := false, params := zeros 1040, log := [], logNext := 0, logUnacked := 0, logLost := 0, chainBroken := false
    lifecycleLog := none, legNew := none, paramCh := none, sge := [], faultEnd := false, twinEnd := false, recover := false }

/-- An EMPTY key slot. -/
def keySlot0 : KeySlot :=
  { state := 0, type := 0, root := 0, origin := 0, gen := 0, parent := 0xFF, depth := 0, usage := 0, parentGen := 0,
    useLimit := 0, useCount := 0, label := 0, key := [], pub := [], stored := 0, lowPosted := false }

/-- A cipher page at reset. -/
def page0 : Page :=
  { go := false, dir := 0, slot := 0, nblocks := 0, src := 0, dst := 0, lst := 0, status := 0, gen := 0, done := 0,
    host := false, input := [] }

/-- Keep on a new device. -/
def keep0 : Keep :=
  { lifecycle := 1, lifecycleNext := 1, rootsUnlocked := false, locked := false, counters := [], slots := [], authNext := [],
    ownerAuth := [], legalAuth := [], pages := [], lastPage := 15, job := none, workingKey := [], eccQueue := [],
    eccKey := [], rngFailed := false, rngFailures := 0, rngStuck := false, rngRetest := 0, rngRequests := 0,
    rngDraws := 0 }

/-- An EMPTY bank. -/
def bank0 : Bank := { state := 0, version := 0, build := 0, epoch := 0, length := 0, manifest := [], lifecycle := 0 }

/-- The update unit of a new device: SVC, LEG, PHY and SDS in bank A, no CFG image (16, First configuration). -/
def update0 : Update :=
  { banks := [(2, { bank0 with state := 2, lifecycle := 1 }), (4, { bank0 with state := 2, lifecycle := 1 }),
      (6, { bank0 with state := 2, lifecycle := 1 }), (8, { bank0 with state := 2, lifecycle := 1 })],
    mram := [], mramWrites := 0, session := none, trial := none, trialFlag := false,
    trialReset := none, kilnDeadline := none, kilnPeer := none }

/-- An external port at power-on: disabled, with PORT_CFG's and PORT_PLCA_CFG's defaults. Internal ports are always up with
MAX_FRAME 9,216 (03, Internal ports); P90's is PORT_CFG's default 1,522. -/
def port0 (p : Nat) : Port :=
  { admin := decide (90 ≤ p), mode := 0, advert := 0, maxFrame := if 91 ≤ p then 9216 else 1522,
    oldMax := if 91 ≤ p then 9216 else 1522, maxSince := 0, flapHold := 10, filterMode := 2,
    phyAddr := if p < 10 then 0x80 else 0, stepMask := 0, stepDown := 20, stepUp := 70, stepDwell := 10, stepQueue := 64,
    txEq := 0, entries := [], hashBins := 0, plcaEn := true, nodeId := 0, nodeCount := 8, toTimer := 32, burstCount := 0,
    burstTimer := 128, up := decide (90 ≤ p), speed := 0, lineMode := 0, plcaOk := false,
    hold := none, holdExpired := decide (p < 90), stepLevel := 0, phyId := 0, retrain := none, stepUpPending := false,
    dwell := 0, intervalEnd := 0, rxWire := 0, txWire := 0, collisions := 0, burst := 0,
    burstEnd := none }

/-- A mirror session, disabled. -/
def mirror0 : Mirror := { enable := false, dest := 0, tc := 0, sampleN := 1, dir := 0, srcMask := 0, count := 0 }

/-- A LAG group without members. -/
def lag0 : Lag :=
  { lacp := 0, members := [], hashFields := 0, fenceUs := 100, seed := 0, partner := [], partnerDeadline := [],
    dist := [], fences := [] }

/-- An engine pool with every buffer free. -/
def pool0 : Pool := { bufs := [], mem := [], reserve := [], justFreed := [], freedAt := 0 }

/-- The capture ring, disabled. -/
def captureRing0 : CaptureRing :=
  { enable := false, wrap := false, snapLen := 64, writeOff := 0x40, readOff := 0x40, seqNext := 0, wraps := 0,
    fullPosted := false, bounds := [], mem := [] }

/-- The switch core with FAB_BUFFER_CFG's defaults. -/
def fabric0 : Fabric :=
  { share := [0, 512, 512, 512, 512, 1024, 2048, 2048], twinReserve := 1024, highPct := 90, ctMask := 0, portMax := [],
    levelHigh := false, frames := [], nextId := 0, fifos := [], recirc := none, recircPtr := 0, gptr := [], aptr := [], nextStage := 0, mirrors := [],
    capture := captureRing0, lags := [], pools := [], sending := [], preempted := [], cutting := [] }

/-- L0's entry of a port at power-on: PVID 1, INGRESS_FILTER and LEARN set, PCP 0 to 5 to TC0 to TC5 and PCP 6 and 7 to
TC5, default zone 2 on P0 to P49, 0 on P90 and P91, 3 on P94 and P95 (LTR_PORT_CFG). -/
def lport0 (p : Nat) : LPort :=
  { accept := 0, pvid := 1,
    zone := if p < 50 then 2 else if p = 94 ∨ p = 95 then 3 else 0,
    flags := 3, learnLimit := 0,
    pcpTc := 0 + 1 * 2 ^ 3 + 2 * 2 ^ 6 + 3 * 2 ^ 9 + 4 * 2 ^ 12 + 5 * 2 ^ 15 + 5 * 2 ^ 18 + 5 * 2 ^ 21 }

/-- VLAN 1 at power-on: FID 1, LEARN and both flood flags, members P0 to P49 and P90, all untagged (LTR_VLAN_SET). -/
def vlan1 : Vlan :=
  { fid := 1, flags := 0xF, zone := 0, member := 2 ^ 50 - 1 + 2 ^ 90, untag := 2 ^ 50 - 1 + 2 ^ 90 }

/-- The rule bank at power-on. -/
def ruleBank0 : RuleBank :=
  { ports := [], vlans := [(1, vlan1)], acl := [], matrix := [], profiles := [], policers := [] }

/-- A profile at power-on: zero (LTR_PROFILE_SET). -/
def profile0 : Profile := { tc := 0, mirror := 0, policer := 0, copySpire := false }

/-- Lauter at power-on, with LTR_FDB_CFG's and LTR_CT_CFG's defaults; the copy limiter full (R146). -/
def lauter0 : Lauter :=
  { gen := false, bank := ruleBank0, other := ruleBank0, bankGeneration := 0, lastPause := 0, maxPause := 0, fdb := [],
    ageTime := 300, lastAge := 0, lastCtScan := 0, mcast := [], conns := [], bindings := [], ends := [], nextEnd := 0, purges := [], seed := 0,
    loose := false, spireRate := 20000, timeouts := [30, 30, 3600, 120, 30, 10, 30, 180, 30],
    spireTokens := 64000000000, spireLast := 0, credits := [] }

/-- A port's gate unit: list disabled, every gate open, hold released (R171). -/
def gates0 : Gates := { oper := none, pending := [], hold := false, vector := 0xFF, entry := 0 }

/-- A shaper: none. -/
def cbs0 : Cbs := { enable := false, idleSlope := 0, credit := 0, next := none }

/-- Preemption: disabled, VERIFY 1, VERIFY_MS 10 (STR_PREEMPT_CFG). -/
def preempt0 : Preempt :=
  { enable := false, expressMask := 0x80, addFrag := 0, verify := true, verifyMs := 10, state := 0, tries := 0,
    deadline := none }

/-- Queue observation: off. -/
def observe0 : Observe :=
  { enable := false, tcMask := 0, periodUs := 1, alarmNs := 0, records := [], seq := 0, maxDelay := [], lastSample := 0 }

/-- Streams and Belfry at power-on: nothing configured. -/
def streams0 : Streams :=
  { table := [], meters := [], seqgens := [], recoveries := [], gates := [], cbs := [], preempt := [], observe := [],
    waited := [] }

/-- Admission: nothing declared, no report stored. -/
def admission0 : Admission := { paths := [], buses := [], report := none }

/-- The Cupola: no group configured. -/
def cupola0 : Cupola :=
  { groups := [], trips := [], bank := 0, windows := [], closed := [], fanOut := [], fanIn := [], pins := [] }

/-- A CAN channel: off. -/
def canCh0 : CanCh :=
  { cfg := zeros 32, filters := [], tec := 0, recCnt := 0, busOff := false, errState := 0, bufs := [], sending := none,
    tdcv := 0, boffDeadline := none, recovering := false, frozen := none, acfSeq := none }

/-- A serial channel: off. -/
def serialCh0 : SerialCh :=
  { cfg := zeros 24, rx := [], brk := false, lost := false, seq := 0, txUntil := 0, txn := none, retry := none
    onDemand := [], due := [], readyAt := 0 }

/-- SGE: nothing configured. -/
def gateway0 : Gateway :=
  { can := [], serial := [], polls := [], srcs := [], dsts := [], routes := [], scales := [], urgent := [], normal := [],
    dropped := 0 }

end Sys2Proof.Machine
end

