-- ==== Sys2Proof/Machine/State.lean ====
section
/-! DEFINITION. The state of the block, its reset, and the reasons a step can stop. `Dev` is everything the spec gives the
block; `State` is `Dev` with the queue of waiting commands. -/

namespace Sys2Proof.Machine

open Sys2Proof

/-- The block: one field per unit. -/
structure Dev where
  /-- HIF_ registers, events, counters (02). -/
  host : HostIf
  /-- Mailbox channels MB0 to MB7 (02). -/
  chans : Tab Chan
  /-- P90 receive and transmit rings (02). -/
  rxRings : Tab Ring
  txRings : Tab Ring
  /-- The transaction unit (02). -/
  txn : TxnUnit
  /-- The Service Arbiter (01). -/
  arb : Arbiter
  /-- Resource claims in force (R26). -/
  claims : List Claim
  /-- Ports (03). -/
  ports : Tab Port
  /-- The switch core and Hopper (04). -/
  fabric : Fabric
  /-- Lauter (05). -/
  lauter : Lauter
  /-- Streams and Belfry (06). -/
  streams : Streams
  /-- Deadline Admission (07). -/
  adm : Admission
  /-- The Cupola (08). -/
  cupola : Cupola
  /-- SGE (09). -/
  gateway : Gateway
  /-- The time unit (10). -/
  time : TimeUnit
  /-- Cask (11). -/
  cask : Cask
  /-- Keep (12). -/
  keep : Keep
  /-- Power and Lantern (13). -/
  lantern : Lantern
  /-- Safety (14). -/
  safety : Safety
  /-- The twin (14). -/
  twin : Twin
  /-- Firmware update (15). -/
  update : Update
  /-- Reset and boot (16). -/
  boot : Boot
  /-- The JTAG port (17). -/
  jtag : Jtag
  /-- MODEL: time since power-on in ns, on which every guard timer runs; it never steps (log 1). -/
  uptime : Nat
  /-- MODEL: the next free value's index (log 5). -/
  freeIx : Nat
  /-- MODEL: what the block has driven to the outside, oldest first (log 6). -/
  outs : List Output
  deriving DecidableEq, Repr

/-- The block and the commands that wait for it, first in first out. -/
structure State where
  dev : Dev
  pending : List Instr
  deriving DecidableEq, Repr

/-- The block right after a power-on reset, before its boot has run. -/
def dev0 : Dev :=
  { host := hostIf0, chans := [], rxRings := [], txRings := [], txn := txnUnit0, arb := arbiter0, claims := [],
    ports := [], fabric := fabric0, lauter := lauter0, streams := streams0, adm := admission0, cupola := cupola0,
    gateway := gateway0, time := timeUnit0 0, cask := cask0, keep := keep0, lantern := lantern0, safety := safety0,
    twin := twin0, update := update0, boot := boot0, jtag := jtag0, uptime := 0, freeIx := 0, outs := [] }

/-- The state after reset: the block after a power-on reset in stage RESET, no command waiting. -/
def State.reset : State := { dev := dev0, pending := [] }

/-- Reasons a step ends in a fault. There is none: the spec records device faults (R366) as effects of the step that
detects them, and no command stops the block. -/
inductive Fault where
  deriving DecidableEq, Repr

/-- Reasons a command has no meaning. -/
inductive Refusal where
  /-- Raised by exec for a command of the table that this model gives no meaning yet. Safe: the block stops where the
  hardware goes on. -/
  | notModelled (mnemonic : String)
  deriving DecidableEq, Repr

/-- The outcome of a command. -/
abbrev Out := Host.Outcome State Fault Refusal

end Sys2Proof.Machine
end

