-- ==== Sys2Proof/Machine/Ops.lean ====
section
/-! DEFINITION. The shared operations: time and timers, counters, interrupts, events, faults and the safe state, resets,
transactions' ends, and answers to requests. -/

namespace Sys2Proof.Machine

open Sys2Proof

/-- A meaning that always completes: the block's next state, the queue unchanged. -/
def onDev (f : Dev → Dev) (s : State) : Out := .next { s with dev := f s.dev }

/-! ## Time -/

/-- Local time as read: seconds and nanoseconds, in ns (R263). -/
def Dev.now (d : Dev) : Nat := d.time.clock.sec * 1000000000 + d.time.clock.ns

/-- A guard timer that runs until `t` has expired: its tick is over, so that whatever arrived in that tick came first
(R7, log 7). -/
def Dev.over (d : Dev) (t : Nat) : Bool := decide (t < d.uptime)

/-- As `over`, for a timer that may not run. -/
def Dev.overO (d : Dev) : Option Nat → Bool
  | none => false
  | some t => d.over t

/-- Milliseconds in ns. -/
def ms (n : Nat) : Nat := n * 1000000

/-- Seconds in ns. -/
def sec (n : Nat) : Nat := n * 1000000000

/-- A free value: the next index, and the state in which it is used up (log 5). -/
def Dev.free (d : Dev) : Nat × Dev := (Config.freeNat d.freeIx, { d with freeIx := d.freeIx + 1 })

/-- Drive something to the outside. -/
def Dev.emit (d : Dev) (o : Output) : Dev := { d with outs := d.outs ++ [o] }

/-! ## Counters (R5) -/

/-- The index of a counter in the counter table: class and index within the class. -/
def counterKey (cls i : Nat) : Nat := cls * 32768 + i

/-- A counter's value. -/
def Dev.counter (d : Dev) (cls i : Nat) : Nat := tabGet 0 d.host.counters (counterKey cls i)

/-- Add to a counter: 64 bits, never saturating (R5). -/
def Dev.countN (d : Dev) (cls i n : Nat) : Dev :=
  { d with host := { d.host with
      counters := tabMod 0 d.host.counters (counterKey cls i) (fun v => (v + n) % 2 ^ 64) } }

/-- Add one to a counter. -/
def Dev.count (d : Dev) (cls i : Nat) : Dev := d.countN cls i 1

/-! ## Interrupts (R33) -/

/-- The MSI-X vector of an HIF_IRQ_STATUS bit; SPI_REJECT has none (02, MSI-X vectors). -/
def irqVector (b : Nat) : Option Nat :=
  if b ≤ 9 then some b else if b = 10 then none else some (b - 1)

/-- Set a status bit; a change from 0 to 1 while it is enabled sends its vector on PCIe (R33). -/
def Dev.raise (d : Dev) (b : Nat) : Dev :=
  if bit d.host.irqStatus b then d
  else
    let d' := { d with host := { d.host with irqStatus := setBit d.host.irqStatus b } }
    if bit d.host.irqEnable b && !d.host.spi then
      match irqVector b with
      | some v => d'.emit (.msix v)
      | none => d'
    else d'

/-- HSPI_IRQ_N is low while any enabled status bit is 1 (R33). -/
def Dev.spiIrqLow (d : Dev) : Bool := d.host.spi && (d.host.irqStatus &&& d.host.irqEnable) != 0

/-! ## Events (R50 to R52, R417) -/

/-- Entries of the ring. -/
def ringSize : Nat := 4096

/-- Unconsumed entries. -/
def Dev.ringUsed (d : Dev) : Nat := (d.host.evtProd + 2 * ringSize - d.host.evtCons) % (2 * ringSize)

/-- An event entry's 32 bytes with PHASE equal to HIF_EVT_PROD bit 12 inverted. -/
def evtBytes (e : Evt) (phase : Bool) : Bytes :=
  leb 2 e.code ++ leb 2 (if phase then 0x8000 else 0) ++ leb 4 e.seq ++ t80le e.time ++ zeros 2 ++ leb 4 e.object ++ leb 8 e.data

/-- Write an entry at HIF_EVT_PROD and advance it; the caller has checked for space. Where the ring was empty the EVENT source is raised,
or with HOLDOFF its delay begins; the 64th new entry ends a running delay (R50). -/
def Dev.ringPut (d : Dev) (e : Evt) : Dev :=
  let h := d.host
  let slot := h.evtProd % ringSize
  let first := d.ringUsed == 0
  let d1 := { d with host := { h with
      ring := tabPut h.ring slot e
      evtProd := (h.evtProd + 1) % (2 * ringSize) } }
  let d2 := if h.spi then d1
    else d1.emit (.hostMem (h.evtBaseLo + h.evtBaseHi * 2 ^ 32 + slot * 32) (evtBytes e (!bit h.evtProd 12)))
  if h.evtHoldoff == 0 then (if first then d2.raise 0 else d2)
  else if first then
    { d2 with host := { d2.host with evtDeadline := some (d.uptime + h.evtHoldoff * 1000), evtNew := 1 } }
  else if h.evtDeadline.isNone then d2
  else if h.evtNew + 1 ≥ 64 then
    { d2 with host := { d2.host with evtDeadline := none, evtNew := 0 } } |>.raise 0
  else { d2 with host := { d2.host with evtNew := h.evtNew + 1 } }

/-- An event is lost: EVT_LOST, OVERFLOW (R51). -/
def Dev.evtLose (d : Dev) (e : Evt) : Dev :=
  let d1 := d.count 1 5
  { d1 with host := { d1.host with
      evtOverflow := true
      lostFirst := if d.host.lostCount == 0 then e.seq else d.host.lostFirst
      lostCount := d.host.lostCount + 1 } }

/-- Deliver an event: to the ring, or lost while it is full, or kept until ENABLE is set (R51, R417). -/
def Dev.deliver (d : Dev) (e : Evt) : Dev :=
  if !d.host.evtEnable then
    let kept := d.host.unsent ++ [e]
    if kept.length ≤ 1024 then { d with host := { d.host with unsent := kept } }
    else
      match kept with
      | [] => d
      | old :: rest => Dev.evtLose { d with host := { d.host with unsent := rest } } old
  else if d.ringUsed ≥ ringSize || d.host.lostCount != 0 then d.evtLose e
  else d.ringPut e

/-- Generate an event with a given TIME: SEQNUM, history (R52), delivery. While an entry into sleep is in progress or the
device sleeps, it waits for the next wake (13, Power events). -/
def Dev.postAt (d : Dev) (code object data time : Nat) : Dev :=
  let asleep := d.lantern.entry.isSome || decide (d.lantern.power = .doze) || decide (d.lantern.power = .dormant)
  if asleep then { d with lantern := { d.lantern with deferred := d.lantern.deferred ++ [(code, object, data, time)] } }
  else
    let e : Evt := { code := code, seq := d.host.evtSeq, time := time, object := object, data := data }
    let hist := d.host.history ++ [e]
    let d1 := { d with host := { d.host with
        evtSeq := (d.host.evtSeq + 1) % 2 ^ 32
        history := hist.drop (hist.length - 1024) } }
    d1.deliver e

/-- Generate an event at local time. -/
def Dev.post (d : Dev) (code object data : Nat) : Dev := d.postAt code object data d.now

/-- An event that is posted at most once per second for each key (its code, and an object within it). -/
def Dev.postLimited (d : Dev) (code key object data : Nat) : Dev :=
  let k := code * 2 ^ 24 + key
  match tabFind d.host.lastPost k with
  | some t =>
    if t + sec 1 ≤ d.uptime then
      { d with host := { d.host with lastPost := tabPut d.host.lastPost k d.uptime } } |>.post code object data
    else d
  | none => { d with host := { d.host with lastPost := tabPut d.host.lastPost k d.uptime } } |>.post code object data

/-- The event may be posted now under its limit of one per second. -/
def Dev.mayPost (d : Dev) (code key : Nat) : Bool :=
  match tabFind d.host.lastPost (code * 2 ^ 24 + key) with
  | some t => decide (t + sec 1 ≤ d.uptime)
  | none => true

/-- When space frees after a loss, the first entry written is SYS_EVENTS_LOST (R51). -/
def Dev.reportLost (d : Dev) : Dev :=
  if d.host.evtEnable && d.host.lostCount != 0 && decide (d.ringUsed < ringSize) then
    let e : Evt := { code := 0x0102, seq := d.host.evtSeq, time := d.now, object := d.host.lostFirst, data := d.host.lostCount }
    let hist := d.host.history ++ [e]
    { d with host := { d.host with
        evtSeq := (d.host.evtSeq + 1) % 2 ^ 32
        history := hist.drop (hist.length - 1024)
        lostFirst := 0
        lostCount := 0 } } |>.ringPut e
  else d

/-! ## Stage -/

/-- HIF_STAGE's encoding. -/
def stageCode : Stage → Nat
  | .reset => 0 | .rom => 1 | .tamperHold => 2 | .kiln => 3 | .loading => 4 | .admitting => 5 | .run => 6 | .faultHold => 7

/-- Set the stage. -/
def Dev.setStage (d : Dev) (st : Stage) : Dev := { d with host := { d.host with stage := st } }

/-- PWR_STATUS's encoding of the power state (R335). -/
def powerCode : PowerState → Nat
  | .run => 0 | .partialRun => 1 | .doze => 2 | .dormant => 3 | .off => 4 | .tamperHold => 5

/-- TWIN_ROLE's encoding. -/
def roleCode : TwinRole → Nat
  | .disabled => 0 | .pairing => 1 | .active => 2 | .standby => 3 | .miswired => 4

/-- Records that SAFE_FAULT_CLEAR has not cleared (R366). -/
def Dev.uncleared (d : Dev) : Nat := (d.safety.log.filter (fun r => !bit r.flags 3)).length

/-- FAULT_N is low while an uncleared record remains, and in the stop of R408; in reset it is released (R366, R423; log 92). -/
def Dev.faultLow (d : Dev) : Bool := (decide (0 < d.uncleared) && decide (d.host.stage ≠ .reset)) || d.boot.stopped

/-- In twin mode a medium is driven only while this twin's ACT_OUT_N is low and its ACT_IN_N high (R372), and not before step 4
of a switch-over (R379). -/
def Dev.mayDrive (d : Dev) : Bool := !d.twin.enable || (d.twin.act && d.twin.actInHigh && !d.twin.takingOver)

/-- SAFE_N is low: from a safe-state response, or from a reset, to stage RUN, and in the stop of R408 (R366, R408, R423, R425; log 92). -/
def Dev.safeLow (d : Dev) : Bool := d.safety.safe || d.boot.stopped || decide (d.host.stage ≠ .run)

/-! ## Channels -/

/-- A mailbox channel. -/
def Dev.chan (d : Dev) (ch : Nat) : Chan := tabGet chan0 d.chans ch

/-- Change a channel. -/
def Dev.modChan (d : Dev) (ch : Nat) (f : Chan → Chan) : Dev := { d with chans := tabMod chan0 d.chans ch f }

/-- Requests taken whose response the host has not consumed (R40). -/
def Chan.outstanding (c : Chan) : Nat :=
  c.taken.length + (if c.running.isSome then 1 else 0) + ((c.completed ++ c.posted).filter (fun r => !r.rejected)).length

/-- End the open transaction without applying it: its ID is remembered as aborted and TXN_ENDED is posted
(R55, R56, R42). -/
def Dev.endTxn (d : Dev) (reason : Nat) : Dev :=
  match d.txn.txn with
  | none => d
  | some t =>
    { d with txn := { d.txn with txn := none, aborted := d.txn.aborted ++ [t.id] } } |>.post 0x0601 t.id reason

/-- The channel owns the open transaction. -/
def Dev.ownsTxn (d : Dev) (ch : Nat) : Bool :=
  match d.txn.txn with
  | none => false
  | some t => t.owner == ch

/-! ## Ports -/

/-- A port. -/
def Dev.port (d : Dev) (p : Nat) : Port := tabGet (port0 p) d.ports p

/-- Change a port. -/
def Dev.modPort (d : Dev) (p : Nat) (f : Port → Port) : Dev := { d with ports := tabMod (port0 p) d.ports p f }

/-! ## MRAM -/

/-- The MRAM controller counts every bank, blob and lifecycle write (16, The warm path from DORMANT). -/
def Dev.mramWrote (d : Dev) (n : Nat) : Dev := { d with update := { d.update with mramWrites := (d.update.mramWrites + n) % 2 ^ 64 } }

/-! ## Always-on log (R356) -/

/-- Make room in a full log: the oldest entry whose TYPE is not 2 goes, or the oldest of all. -/
def aonEvict (l : List AonEntry) : List AonEntry :=
  if l.length < 16 then l
  else if l.any (fun e => e.type != 2) then l.eraseP (fun e => e.type != 2)
  else l.drop 1

/-- Write an entry of the always-on log. -/
def Dev.aonWrite (d : Dev) (type source data : Nat) : Dev :=
  let l := d.lantern
  let e : AonEntry :=
    { type := type, source := source, rtcS := l.rtcS % 2 ^ 32, rtcSub := l.rtcSub, seq := l.aonSeq, data := data }
  { d with lantern := { l with aonLog := aonEvict l.aonLog ++ [e], aonSeq := (l.aonSeq + 1) % 2 ^ 16 } }

/-! ## Resets (R406) -/

/-- A derived slot, and any volatile part of a slot, is lost at a reset; persistent slots resume from the stored USE_COUNT
plus 2^16 (R325). -/
def resetSlot (s : KeySlot) : KeySlot :=
  if s.origin == 3 then { keySlot0 with gen := s.gen }
  else if s.state == 1 then { s with useCount := s.stored + 65536, lowPosted := false }
  else s

/-- A channel after a reset: nothing but the replay counters written to MRAM is kept; only greater values than the stored
ones plus 4,096 are accepted and used (R48). -/
def resetChan (c : Chan) : Chan :=
  { chan0 with mramRx := c.mramRx, mramTx := c.mramTx, rxReplay := c.mramRx + 4096, txReplay := c.mramTx + 4096 }

/-- A session context after a reset: no command, attempt or delivery is in progress. -/
def Session.interrupted (x : Session) : Session :=
  { x with cmd := none, wait := .none, delivery := none, attempts := 0, due := false }

/-- Everything a reset of any kind clears; the caller sets what its kind clears besides (R406). -/
def Dev.clearVolatile (d : Dev) : Dev :=
  { d with
    host := { hostIf0 with spi := d.host.spi, pcieReady := d.host.pcieReady, subsysVendor := d.host.subsysVendor, subsysId := d.host.subsysId }
    chans := tabMap d.chans (fun _ c => resetChan c)
    rxRings := []
    txRings := []
    txn := txnUnit0
    arb := arbiter0
    claims := []
    ports := []
    fabric := fabric0
    lauter := lauter0
    streams := streams0
    adm := admission0
    cupola := cupola0
    gateway := gateway0
    cask := { d.cask with sessions := tabMap d.cask.sessions (fun _ x => x.interrupted), paramCh := none, recover := false }
    keep := { d.keep with
      rootsUnlocked := false, locked := false, slots := tabMap d.keep.slots (fun _ s => resetSlot s), pages := [], lastPage := 15,
      job := none, workingKey := [], eccQueue := [], eccKey := [], rngFailed := false, rngFailures := 0,
      rngStuck := false, rngRetest := 0, rngRequests := 0 }
    lantern := { d.lantern with
      power := .run, domains := [], wake := [], target := 1, hostIdleMs := 2000, dormantAfterS := 0, holds := [],
      lastRequest := none, hostActive := false, entry := none, stb := 255 }
    safety := { safety0 with
      safe := d.safety.safe, latched := d.safety.latched, log := d.safety.log, faultSeq := d.safety.faultSeq, lastCode := d.safety.lastCode,
      restarts := d.safety.restarts, selfTestAt := d.uptime, digestAt := d.uptime }
    twin := { twin0 with strap := d.twin.strap, actInHigh := d.twin.actInHigh, actInHighSince := d.twin.actInHighSince }
    update := { d.update with session := none, kilnDeadline := none, kilnPeer := none }
    boot := { d.boot with
      resetDue := none, cfgRefused := false, admittingAt := none, legRuns := false,
      phyLoaded := false, sdsLoaded := false, vid := 4 } }

/-- A system reset (kind 1, or 2 into Kiln): the clock keeps counting at its INCREMENT with QUALITY UNSYNCED, the fault log
is kept, ACT_OUT_N is released; the boot then runs (R406). -/
def Dev.systemReset (d : Dev) (kind : Nat) : Dev :=
  let c := d.clearVolatile
  { c with
    time := { timeUnit0 0 with clock := d.time.clock }
    boot := { c.boot with resetKind := some kind } }

/-! ## Faults (R366 to R369) -/

/-- The next record of the fault log. -/
def Dev.faultRec (d : Dev) (cls code object data flags time : Nat) : FaultRec :=
  { seq := d.safety.faultSeq, code := code, cls := cls, flags := flags, time := time, object := object, data := data }

/-- An F2 fault is latched in the fault register (R368, R369 stage 1). -/
def Dev.latchFault (d : Dev) (r : FaultRec) : Dev := { d with safety := { d.safety with latched := some r } }

/-- Write a record of the fault log, which keeps the latest 64 (R368), and post SAFE_FAULT with interrupt source 9. -/
def Dev.logFault (d : Dev) (cls code object data flags time : Nat) : Dev :=
  let r := d.faultRec cls code object data flags time
  let l := d.safety.log ++ [r]
  let d1 := { d with safety := { d.safety with
      log := l.drop (l.length - 64), faultSeq := (d.safety.faultSeq + 1) % 2 ^ 32, lastCode := code } }
  (d1.post 0x0D01 r.seq (code + cls * 2 ^ 16 + object % 2 ^ 32 * 2 ^ 32)).raise 9

/-- An F0 fault: counted, SAFE_FAULT at most once per second per code (R366). -/
def Dev.faultF0 (d : Dev) (code object : Nat) : Dev :=
  (d.count 13 0).postLimited 0x0D01 code 0 (code + object % 2 ^ 32 * 2 ^ 32)

/-- An F1 fault (R366). -/
def Dev.faultF1 (d : Dev) (code object data : Nat) : Dev :=
  (d.count 13 1).logFault 1 code object data 0 d.now

/-- Frames in transmission end with an inverted FCS, and CAN and serial frames are abandoned (R369 step 2). -/
def Dev.stopOutputs (d : Dev) : Dev :=
  let stomp := fun (e : Dev) (p : Nat × Sending) =>
    if p.1 < 50 && !p.2.offered && !p.2.lost then (e.emit (.frame p.1 p.2.bytes true)).count 2 (p.1 * 64 + 19) else e
  let d1 := (d.fabric.sending ++ d.fabric.preempted).foldl stomp d
  { d1 with fabric := { d1.fabric with sending := [], preempted := [] } }

/-- A system reset begins: outputs stop, and a twin that held ACT has released it by reset (R373). -/
def Dev.resetNow (d : Dev) (kind : Nat) : Dev :=
  let d1 := d.stopOutputs.systemReset kind
  if d.twin.act then d1.post 0x0D03 (roleCode .disabled) (roleCode d.twin.role + 5 * 2 ^ 8) else d1

/-- An F2 fault: the fault register latches, ACT released, SAFE_N and FAULT_N low, outputs in their safe state with CAN_STB at its level, and
the Spire pair restarted from ROM
into FAULT_HOLD with the record written from the fault register (R369). Counters begin at zero at that restart (R406), and
the fault is counted then. A twin that held ACT has released it by fault. -/
def Dev.faultF2 (d : Dev) (code object data : Nat) : Dev :=
  if decide (d.host.stage = .faultHold) then
    ((d.count 13 2).latchFault (d.faultRec 2 code object data 6 d.now)).logFault 2 code object data 6 d.now
  else
    let act := d.twin.act
    let failing := fun (t : Trial) => { t with failed := some (t.failed.getD 2) }
    let d1 := d.stopOutputs
    let mark := d1.safety.restarts
    let policy := d1.safety
    let action := if policy.f2Set then policy.f2Action else b2n d.twin.enable
    let d2 := d1.systemReset 1
    let d3 := { d2 with
      safety := { d2.safety with
        safe := true, restarts := mark, holdSince := some d.uptime, f2Action := action, f2Set := policy.f2Set,
        restartsPerHour := policy.restartsPerHour, restartDelayMs := policy.restartDelayMs }
      twin := { d2.twin with enable := false }
      lantern := { d2.lantern with stb := d.lantern.stb }
      boot := { d2.boot with resetKind := none }
      update := { d2.update with trial := d2.update.trial.map failing }
      cask := { d2.cask with faultEnd := true, twinEnd := d.twin.enable } }
    let d4 := d3.setStage .faultHold
    let d5 := ((d4.count 13 2).latchFault (d4.faultRec 2 code object data (b2n act + 6) d.now)).logFault 2 code object data (b2n act + 6) d.now
    if act then d5.post 0x0D03 (roleCode .disabled) (roleCode .active + 4 * 2 ^ 8) else d5

/-- A fault of a class that depends on where it arose. -/
def Dev.fault (d : Dev) (f2 : Bool) (code object data : Nat) : Dev :=
  if f2 then d.faultF2 code object data else d.faultF1 code object data

/-! ## Twin Link (R375 to R377) -/

/-- Change the twin unit. -/
def Dev.modTwin (d : Dev) (f : Twin → Twin) : Dev := { d with twin := f d.twin }

/-- Set SYNC, with TWIN_SYNC and the TYPE that caused the change. -/
def Dev.setSync (d : Dev) (ready : Bool) (type : Nat) : Dev :=
  if d.twin.sync = ready then d else (d.modTwin (fun t => { t with sync := ready })).post 0x0D04 (b2n ready) type

/-- Twin Link is down: SYNC is not ready, and the next HELLO brings it up. What was sent and not acknowledged is kept. -/
def Dev.twinLinkDown (d : Dev) : Dev :=
  if !d.twin.link then d
  else
    let d1 := d.modTwin (fun t => { t with link := false, paired := false, resyncSeq := none, lastHello := none })
    (d1.post 0x0D05 0 0).setSync false 0

/-- The port of Twin Link comes up: a HELLO is sent at once, and its peer is to be learned again. -/
def Dev.twinPortUp (d : Dev) : Dev := (d.twinLinkDown).modTwin (fun t => { t with lastHello := none })

end Sys2Proof.Machine
end

