-- ==== Sys2Proof/Machine/Arbiter.lean ====
section
/-! DEFINITION. The Service Arbiter of the Service Fabric (R18 to R24), and the transfer an engine's own step makes through it. -/

namespace Sys2Proof.Machine

open Sys2Proof

/-- A requester. -/
def Arbiter.req (a : Arbiter) (r : Nat) : Requester := tabGet requester0 a.reqs r

/-- Change a requester. -/
def Arbiter.mod (a : Arbiter) (r : Nat) (f : Requester → Requester) : Arbiter := { a with reqs := tabMod requester0 a.reqs r f }

/-- A requester holds the grant. -/
def Arbiter.heldBy (a : Arbiter) (r : Nat) : Bool :=
  match a.holder with
  | some h => h.req == r
  | none => false

/-- A request raised, or a latest-service time written again: to the waiting request, or after the holder's transfer (R24). -/
def Arbiter.raised (a : Arbiter) (x : ArbRaise) : Arbiter :=
  if 16 ≤ x.requester ∨ x.beats < 1 ∨ 64 < x.beats then a
  else if a.heldBy x.requester then a.mod x.requester (fun q => { q with nextLst := some (x.lst % 2 ^ 32) })
  else if (a.req x.requester).pending then a.mod x.requester (fun q => { q with lst := x.lst % 2 ^ 32 })
  else
    a.mod x.requester (fun q => { q with
      pending := true, beats := x.beats, lst := q.nextLst.getD (x.lst % 2 ^ 32), nextLst := none })

/-- The holder's transfer commits at its last beat: its wait counter returns to zero (R20, R22). -/
def Arbiter.commit (a : Arbiter) : Arbiter :=
  match a.holder with
  | none => a
  | some h => { (a.mod h.req (fun q => { q with pending := false, wait := 0 })) with holder := none }

/-- The holder moves one beat; with its last one the transfer commits, before any revocation (R23). -/
def Arbiter.beat (a : Arbiter) : Arbiter :=
  match a.holder with
  | none => a
  | some h => if h.left ≤ 1 then a.commit else { a with holder := some { h with left := h.left - 1 } }

/-- Requesters that wait: pending and not holding the grant. -/
def Arbiter.waiting (a : Arbiter) : List Nat :=
  (List.range 16).filter (fun r => (a.req r).pending && (match a.holder with | some h => h.req != r | none => true))

/-- A request is forced: its wait counter is at its limit. -/
def Requester.forced (q : Requester) : Bool := q.wait == q.limit

/-- The winner of a round (R19): among forced requests if there are any, the nearest latest-service time, then the lowest
number. -/
def Arbiter.winner (a : Arbiter) : Option Nat :=
  let ws := a.waiting
  let forced := ws.filter (fun r => (a.req r).forced)
  (if forced.isEmpty then ws else forced).foldl (fun best r =>
    match best with
    | none => some r
    | some b => if deadlineDiff (a.req r).lst (a.req b).lst < 0 then some r else some b) none

/-- Grant a request. -/
def Arbiter.grant (a : Arbiter) (r : Nat) : Arbiter :=
  { a with holder := some { req := r, forced := (a.req r).forced, left := (a.req r).beats } }

/-- The holder would finish after a winner's latest-service time; times in quarters of a ns (R21). -/
def holderLate (now left lst : Nat) : Bool := decide (0 < signed 34 ((now % 2 ^ 32) * 4 + left * 5 + 2 ^ 34 - lst * 4))

/-- The decision of a round (R19, R21). -/
def Arbiter.decide_ (a : Arbiter) (now : Nat) : Arbiter :=
  match a.winner with
  | none => a
  | some w =>
    match a.holder with
    | none => a.grant w
    | some h =>
      if !h.forced && ((a.req w).forced || holderLate now h.left (a.req w).lst) then a.grant w else a

/-- Wait counters after the decision (R20): of the requests `ws` that waited when the round began, those still not granted grow. A holder
revoked in the round did not wait then and keeps its value. -/
def Arbiter.age (ws : List Nat) (a : Arbiter) : Arbiter :=
  (ws.filter (fun r => a.waiting.contains r)).foldl (fun b r => b.mod r (fun q => { q with wait := min q.limit (q.wait + 1) })) a

/-- One round: what was raised since the last one, the holder's beat, the decision, the wait counters. -/
def Arbiter.round (raised : List ArbRaise) (now : Nat) (a : Arbiter) : Arbiter :=
  let a1 := (raised.foldl Arbiter.raised a).beat
  (a1.decide_ now).age a1.waiting

/-- SERVICE_ARBITER_ROUND (R18 to R24). -/
def arbiterRound (raised : List ArbRaise) (d : Dev) : Dev := { d with arb := d.arb.round raised d.now }

/-- SERVICE_ARBITER_ROUND. -/
def execServiceArbiterRound (raised : List ArbRaise) (s : State) : Out := onDev (arbiterRound raised) s

/-- FABRIC_TRANSFER_COMMIT: the holder is at its last beat (R22). -/
def transferCommit (d : Dev) : Dev :=
  match d.arb.holder with
  | some h => if h.left ≤ 1 then { d with arb := d.arb.commit } else d
  | none => d

/-- FABRIC_TRANSFER_COMMIT. -/
def execFabricTransferCommit (s : State) : Out := onDev transferCommit s

/-! ## Transfers of the engines -/

/-- The request of a step that needs a transfer of `beats` beats by a latest-service time: raised unless it already waits or holds the
grant. -/
def Dev.raiseOwn (d : Dev) (req beats lst : Nat) : List ArbRaise :=
  if (d.arb.req req).pending then [] else [{ requester := req, beats := max 1 (min 64 beats), lst := lst }]

/-- The arbiter after the transfer a step asks for, where the step's round grants it: the transfer commits within the step; none while another
transfer holds the fabric or another request wins the round. -/
def Dev.granted (d : Dev) (req beats lst : Nat) : Option Arbiter :=
  if d.arb.heldBy req then some d.arb.commit
  else
    let a := d.arb.round (d.raiseOwn req beats lst) d.now
    if a.heldBy req then some a.commit else none

/-- A step that moves data through the Service Fabric (R18 to R22): its request takes part in one arbitration round. Granted, its transfer
commits within the step, which then has its effect `act`, for a step is whole (95). While another transfer holds the fabric or another
request wins the round, the request waits in the arbiter, its wait counter growing, and the step has no effect yet: it is taken again. -/
def Dev.transferBy (req beats lst : Nat) (act : Dev → Dev) (d : Dev) : Dev :=
  match d.granted req beats lst with
  | some a => act { d with arb := a }
  | none => { d with arb := d.arb.round (d.raiseOwn req beats lst) d.now }

/-- A transfer whose latest-service time is the engine's own, which the spec does not state: a free value (log 82). -/
def Dev.transfer (req beats : Nat) (act : Dev → Dev) (d : Dev) : Dev :=
  Dev.transferBy req beats d.free.1 act d.free.2

end Sys2Proof.Machine
end

