-- ==== Sys2Proof/Machine/Hopper.lean ====
section
/-! DEFINITION. Hopper's engine pools (chapter 04, R116 to R119), the aperture (R35) and Hopper's own rows of the table. -/

namespace Sys2Proof.Machine

open Sys2Proof

/-- Buffer size of a pool code (04, Engine pools). -/
def poolSize (p : Nat) : Nat :=
  match p with
  | 1 => 64 | 2 => 256 | 3 => 1024 | 4 => 4096 | 5 => 10240 | _ => 0

/-- Buffers of a pool code. -/
def poolCount (p : Nat) : Nat :=
  match p with
  | 1 => 8192 | 2 => 2048 | 3 => 512 | 4 => 96 | 5 => 12 | _ => 0

/-- A pool of the device. -/
def Dev.pool (d : Dev) (p : Nat) : Pool := tabGet pool0 d.fabric.pools p

/-- Replace a pool. -/
def Dev.putPool (d : Dev) (p : Nat) (q : Pool) : Dev :=
  { d with fabric := { d.fabric with pools := tabPut d.fabric.pools p q } }

/-- The smallest pool whose buffers hold `s` bytes (R116). -/
def poolFor (s : Nat) : Option Nat :=
  if s == 0 then none else [1, 2, 3, 4, 5].find? (fun p => decide (s ≤ poolSize p))

/-- Buffers an owner holds from its reservation. -/
def heldReserved (q : Pool) (owner : Nat) : Nat :=
  (q.bufs.filter (fun b => b.2.owner == owner && b.2.reserved)).length

/-- Buffers an owner holds. -/
def heldBy (q : Pool) (owner : Nat) : Nat := (q.bufs.filter (fun b => b.2.owner == owner)).length

/-- The sum of a pool's reservations. -/
def reservedSum (q : Pool) : Nat := (q.reserve.map (fun r => r.2)).sum

/-- Buffers freed in the present tick, which allocations take from the next tick on (R116). -/
def justFreed (d : Dev) (q : Pool) : List (Nat × Option Nat) := if q.freedAt == d.uptime then q.justFreed else []

/-- Buffers of an owner's reservation that allocations cannot take in the present tick: held, or just freed (R116). -/
def Dev.reservedTaken (d : Dev) (q : Pool) (owner : Nat) : Nat :=
  heldReserved q owner + ((justFreed d q).filter (fun x => x.2 == some owner)).length

/-- Reserved buffers not in use, over every owner. -/
def Dev.reservedIdle (d : Dev) (q : Pool) : Nat := (q.reserve.map (fun r => r.2 - d.reservedTaken q r.1)).sum

/-- Allocate a buffer (R116, R117): the handle, and the state after, in which a failure is counted in ALLOC_FAIL and posted
as FAB_HOPPER_EMPTY. -/
def Dev.hopperAlloc (d : Dev) (owner size : Nat) : Option Nat × Dev :=
  match poolFor size with
  | none => (none, d)
  | some p =>
    let q := d.pool p
    let busy := justFreed d q
    let own := decide (d.reservedTaken q owner < tabGet 0 q.reserve owner)
    let common := decide (q.bufs.length + busy.length + d.reservedIdle q < poolCount p)
    let idx := (List.range (poolCount p)).find? (fun i => !tabHas q.bufs i && !busy.any (fun x => x.1 == i))
    match (if own || common then idx else none) with
    | some i =>
      let b : Buf := { owner := owner, refs := 1, holds := [(owner, 1)], reserved := own }
      (some (p * 2 ^ 28 + i * poolSize p),
        (d.putPool p { q with bufs := tabPut q.bufs i b }).count 3 (3088 + (p - 1) * 4))
    | none =>
      (none, (d.count 3 (3089 + (p - 1) * 4)).postLimited 0x0305 p p owner)

/-- Why a handle is bad (R118): 1 pool, 2 alignment or range, 3 free buffer; else its pool and index. -/
def Dev.handle (d : Dev) (h : Nat) : Nat ⊕ (Nat × Nat) :=
  let p := h / 2 ^ 28
  let off := h % 2 ^ 28
  if p == 0 || decide (5 < p) then .inl 1
  else if off % poolSize p != 0 || decide (poolSize p * poolCount p ≤ off) then .inl 2
  else if !tabHas (d.pool p).bufs (off / poolSize p) then .inl 3
  else .inr (p, off / poolSize p)

/-- Hopper counts a bad handle in HOPPER_BAD_HANDLE and posts FAB_HOPPER_FAULT (R118). -/
def Dev.noteBadHandle (d : Dev) (requester h reason : Nat) : Dev :=
  (d.count 3 3081).post 0x0303 requester (h % 2 ^ 32 + reason * 2 ^ 32)

/-- A bad handle from a requester that is no mailbox command: also fault HOPPER_HANDLE of class F2 from Cask and Keep DMA and F1 from the
others (R118). -/
def Dev.badHandle (d : Dev) (requester h reason : Nat) : Dev :=
  (d.noteBadHandle requester h reason).fault (requester == 7 || requester == 8) 0x0401 requester (h % 2 ^ 32)

/-- Free a buffer (R117): it counts as FREED and is available, to its owner's reservation or to all, from the next tick. -/
def Dev.hopperRelease (d : Dev) (p i : Nat) : Dev :=
  let q := d.pool p
  let home := (tabFind q.bufs i).bind (fun b => if b.reserved then some b.owner else none)
  (d.putPool p { q with
      bufs := tabDel q.bufs i, justFreed := justFreed d q ++ [(i, home)], freedAt := d.uptime }).count 3 (3090 + (p - 1) * 4)

/-- Take `n` references of a requester off a buffer, which is freed when none is left (R117). -/
def Dev.dropRefs (d : Dev) (p i requester n : Nat) : Dev :=
  let q := d.pool p
  match tabFind q.bufs i with
  | none => d
  | some b =>
    if b.refs ≤ n then d.hopperRelease p i
    else
      let who := if tabGet 0 b.holds requester == 0 then b.owner else requester
      let h := tabGet 0 b.holds who
      d.putPool p { q with bufs := tabPut q.bufs i { b with refs := b.refs - n, holds := tabPut b.holds who (h - n) } }

/-- Add one reference; above 65,535 it fails and is counted in REFCOUNT_LIMIT (R117). -/
def Dev.addRef (d : Dev) (p i requester : Nat) : Dev :=
  let q := d.pool p
  match tabFind q.bufs i with
  | none => d
  | some b =>
    if 65535 ≤ b.refs then d.count 3 (3091 + (p - 1) * 4)
    else d.putPool p { q with
      bufs := tabPut q.bufs i { b with
        refs := b.refs + 1, holds := tabPut b.holds requester (tabGet 0 b.holds requester + 1) } }

/-- Release every reference a requester holds in one pool (R119). -/
def Dev.releasePool (d : Dev) (owner p : Nat) : Dev :=
  (d.pool p).bufs.foldl (fun e b =>
    let n := tabGet 0 b.2.holds owner
    if n == 0 then e else e.dropRefs p b.1 owner n) d

/-- Release every reference a requester holds (R119). -/
def Dev.releaseOwner (d : Dev) (owner : Nat) : Dev := [1, 2, 3, 4, 5].foldl (fun e p => e.releasePool owner p) d

/-- Read through a handle; none for a bad handle. A transfer longer than the buffer runs on in the pool (DESIGN CHOICE, log 85). -/
def Dev.hopperRead (d : Dev) (h n : Nat) : Option Bytes :=
  match d.handle h with
  | .inr (p, i) => some (memReadN (d.pool p).mem (i * poolSize p) n)
  | .inl _ => none

/-- Write through a handle, no further than its pool's end. -/
def Dev.hopperWrite (d : Dev) (h : Nat) (bs : Bytes) : Option Dev :=
  match d.handle h with
  | .inr (p, i) =>
    let q := d.pool p
    some (d.putPool p { q with mem := memWriteN q.mem (i * poolSize p) (bs.take (poolSize p * poolCount p - i * poolSize p)) })
  | .inl _ => none

/-! ## The rows -/

/-- HOPPER_ALLOC (R116): an engine asks for a buffer. -/
def hopperAllocStep (owner size : Nat) (d : Dev) : Dev := (d.hopperAlloc owner size).2

/-- HOPPER_ALLOC. -/
def execHopperAlloc (owner size : Nat) (s : State) : Out := onDev (hopperAllocStep owner size) s

/-- HOPPER_REFCOUNT_INCREMENT (R117, R118). -/
def hopperIncStep (requester h : Nat) (d : Dev) : Dev :=
  match d.handle h with
  | .inl r => d.badHandle requester h r
  | .inr (p, i) => d.addRef p i requester

/-- HOPPER_REFCOUNT_INCREMENT. -/
def execHopperRefcountIncrement (requester handle : Nat) (s : State) : Out := onDev (hopperIncStep requester handle) s

/-- HOPPER_REFCOUNT_DECREMENT (R117, R118). -/
def hopperDecStep (requester h : Nat) (d : Dev) : Dev :=
  match d.handle h with
  | .inl r => d.badHandle requester h r
  | .inr (p, i) => d.dropRefs p i requester 1

/-- HOPPER_REFCOUNT_DECREMENT. -/
def execHopperRefcountDecrement (requester handle : Nat) (s : State) : Out := onDev (hopperDecStep requester handle) s

/-- ENGINE_RESTART_RELEASE (R119). -/
def execEngineRestartRelease (owner : Nat) (s : State) : Out := onDev (fun d => d.releaseOwner owner) s

/-- The aperture access is allowed: within a pool, and in a buffer allocated to owner 9 (R35). -/
def apertureOk (d : Dev) (a : ApertureAccess) : Bool :=
  decide (1 ≤ a.pool) && decide (a.pool ≤ 5) && decide (a.off + a.width ≤ poolSize a.pool * poolCount a.pool) &&
  decide (a.off / poolSize a.pool = (a.off + a.width - 1) / poolSize a.pool) &&
  (match tabFind (d.pool a.pool).bufs (a.off / poolSize a.pool) with
   | some b => b.owner == 9
   | none => false)

/-- HOPPER_APERTURE_ACCESS (R35): a disallowed read returns zero, a disallowed write is discarded, and both are counted. -/
def apertureStep (a : ApertureAccess) (d : Dev) : Dev :=
  if apertureOk d a then
    let q := d.pool a.pool
    if a.write then d.putPool a.pool { q with mem := memWriteN q.mem a.off (leb a.width a.value) }
    else d.emit (.readData (le (memReadN q.mem a.off a.width) 0 a.width))
  else
    let d1 := d.count 1 6
    if a.write then d1 else d1.emit (.readData 0)

/-- HOPPER_APERTURE_ACCESS. -/
def execHopperApertureAccess (a : ApertureAccess) (s : State) : Out := onDev (apertureStep a) s

end Sys2Proof.Machine
end

