-- ==== Sys2Proof/Machine/Layout.lean ====
section
/-! DEFINITION. Payload layouts: the fields of a request payload with their ranges. Every byte no field covers is reserved
and must be zero (R2). -/

namespace Sys2Proof.Machine

open Sys2Proof

/-- A field of a payload: offset, width in bytes, and its inclusive range. -/
structure Fld where
  off : Nat
  len : Nat
  lo : Nat
  hi : Nat
  deriving DecidableEq, Repr

/-- A field with a range. -/
def fr (off len lo hi : Nat) : Fld := ⟨off, len, lo, hi⟩

/-- A field of which every value is allowed. -/
def fa (off len : Nat) : Fld := ⟨off, len, 0, 256 ^ len - 1⟩

/-- The field's value lies in its range. -/
def fldOk (bs : Bytes) (f : Fld) : Bool := decide (f.lo ≤ le bs f.off f.len) && decide (le bs f.off f.len ≤ f.hi)

/-- Some field covers the byte. -/
def fldCovers (fs : List Fld) (i : Nat) : Bool := fs.any (fun f => decide (f.off ≤ i) && decide (i < f.off + f.len))

/-- Every field is in its range and every byte that no field covers is zero (R2, R54). -/
def layoutOk (fs : List Fld) (bs : Bytes) : Bool :=
  fs.all (fldOk bs) && (bs.zipIdx.all (fun p => p.1 == 0 || fldCovers fs p.2))

end Sys2Proof.Machine
end

