-- ==== Sys2Proof/Machine/Mailbox.lean ====
section
/-! DEFINITION. How a mailbox request is served (chapter 02): the header checks of R39 in their order, bulk descriptors
(R44, R45), execution in the order the channel takes its requests (R40), responses, and the staging of transactional
commands (R53, R54). -/

namespace Sys2Proof.Machine

open Sys2Proof

/-! ## Status codes -/

/-- OK. -/ abbrev stOk : Nat := 0x00
/-- BUSY. -/ abbrev stBusy : Nat := 0x01
/-- BAD_OPCODE. -/ abbrev stBadOpcode : Nat := 0x02
/-- BAD_LENGTH. -/ abbrev stBadLength : Nat := 0x03
/-- BAD_PARAM. -/ abbrev stBadParam : Nat := 0x04
/-- NO_RESOURCE. -/ abbrev stNoResource : Nat := 0x05
/-- CONFLICT. -/ abbrev stConflict : Nat := 0x06
/-- REFUSED_DEADLINE. -/ abbrev stRefusedDeadline : Nat := 0x07
/-- NOT_PERMITTED. -/ abbrev stNotPermitted : Nat := 0x08
/-- AUTH_FAIL. -/ abbrev stAuthFail : Nat := 0x09
/-- TIMEOUT. -/ abbrev stTimeout : Nat := 0x0A
/-- STALE_COUNTER. -/ abbrev stStaleCounter : Nat := 0x0B
/-- KEY_REVOKED. -/ abbrev stKeyRevoked : Nat := 0x0C
/-- KEY_CHANGED. -/ abbrev stKeyChanged : Nat := 0x0D
/-- USAGE_EXHAUSTED. -/ abbrev stUsageExhausted : Nat := 0x0E
/-- TAMPERED. -/ abbrev stTampered : Nat := 0x0F
/-- FAULT. -/ abbrev stFault : Nat := 0x10
/-- NOT_IN_TXN. -/ abbrev stNotInTxn : Nat := 0x11
/-- TXN_ABORTED. -/ abbrev stTxnAborted : Nat := 0x12
/-- WRONG_MODE. -/ abbrev stWrongMode : Nat := 0x13
/-- NOT_FOUND. -/ abbrev stNotFound : Nat := 0x14

/-- DETAIL of a FAULT answer: CODE and CLASS (R367). -/
def faultDetail (code cls : Nat) : Nat := code + cls * 2 ^ 16

/-! ## Opcodes -/

/-- Commands of an opcode class (the command tables of chapters 02 to 15). -/
def classCommands (c : Nat) : Nat :=
  match c with
  | 0x01 => 8 | 0x02 => 5 | 0x03 => 11 | 0x04 => 16 | 0x05 => 12 | 0x06 => 7 | 0x07 => 6 | 0x08 => 14
  | 0x09 => 11 | 0x0A => 15 | 0x0B => 14 | 0x0C => 7 | 0x0D => 8 | 0x0E => 10 | _ => 0

/-- The opcode is known (R39 step 2). -/
def knownOpcode (op : Nat) : Bool :=
  decide (1 ≤ op % 256) && decide (op % 256 ≤ classCommands (op / 256))

/-- The command is transactional (each command table's Kind). -/
def isTransactional (op : Nat) : Bool :=
  op == 0x0108 || [0x0201, 0x0202, 0x0203].contains op || [0x0301, 0x0302, 0x0303, 0x0305, 0x0307].contains op ||
  (op / 256 == 4 && [1, 2, 3, 4, 7, 8, 9, 10, 11, 12].contains (op % 256)) ||
  (op / 256 == 5 && decide (1 ≤ op % 256) && decide (op % 256 ≤ 8)) || op == 0x0605 || op == 0x0606 ||
  [0x0701, 0x0702, 0x0703].contains op || (op / 256 == 8 && decide (1 ≤ op % 256) && decide (op % 256 ≤ 8)) ||
  (op / 256 == 9 && decide (1 ≤ op % 256) && decide (op % 256 ≤ 5)) || op == 0x0B0D ||
  [0x0C01, 0x0C02, 0x0C03].contains op || op == 0x0D05 || op == 0x0D06

/-- The command only reads (R57, R377). -/
def isRead (op : Nat) : Bool :=
  [0x0101, 0x0102, 0x0104, 0x0107, 0x0604, 0x0204, 0x0306, 0x0308, 0x030B, 0x0406, 0x040E, 0x040F, 0x0410, 0x0509,
    0x050A, 0x050C, 0x0607, 0x0705, 0x0706, 0x080A, 0x080B, 0x080C, 0x0906, 0x0907, 0x090A, 0x0A09, 0x0A0A, 0x0A0C,
    0x0A0D, 0x0B01, 0x0B06, 0x0B07, 0x0B08, 0x0B09, 0x0B0B, 0x0B0C, 0x0B0E, 0x0C05, 0x0C06].contains op

/-- Commands a standby serves though they change state (R377; chapter 15, Updating a twin). -/
def standbyServes (op : Nat) : Bool :=
  op / 256 == 0x0D || [0x0E01, 0x0E02, 0x0E03, 0x0E05, 0x0E07, 0x0E08].contains op

/-- Session-class commands served in SPLIT and without LEG (R363, R412). -/
def sessionReads (op : Nat) : Bool := [0x0A09, 0x0A0A, 0x0A0D].contains op

/-- Commands of stage LOADING (16, Service by stage). -/
def loadingServes (op : Nat) : Bool := [0x0101, 0x0102, 0x0B0B, 0x0B0C, 0x0D01, 0x0D02].contains op

/-- Served in stage RUN. -/
def runServes (d : Dev) (op : Nat) : Bool :=
  !(op == 0x0E09 || op == 0x0E0A) &&
  (op / 256 != 0x0A || sessionReads op || (!d.safety.split && d.boot.legRuns)) &&
  (decide (d.twin.role ≠ .standby) || isRead op || standbyServes op)

/-- The present stage serves the command on the channel (R30, R370, R397, chapters 12 and 16). -/
def Dev.serves (d : Dev) (ch op : Nat) : Bool :=
  match d.host.stage with
  | .reset => false
  | .rom => op == 0x0101
  | .tamperHold => op == 0x0101 || op == 0x0B0B || (ch == 0 && op == 0x0E0A)
  | .kiln =>
    op == 0x0101 || (ch == 0 && [0x0B0B, 0x0E01, 0x0E02, 0x0E03, 0x0E07, 0x0E08, 0x0E09].contains op)
  | .loading => op == 0x0101 || (ch != 0 && loadingServes op)
  | .admitting =>
    op == 0x0101 ||
    (ch != 0 && (loadingServes op ||
      (d.boot.cfgRefused &&
        ([0x0607, 0x0601, 0x0602, 0x0603, 0x0604].contains op || isTransactional op))))
  | .run => op == 0x0101 || (ch != 0 && runServes d op)
  | .faultHold => op == 0x0101 || (ch != 0 && [0x0103, 0x0B0B, 0x0D01, 0x0D02, 0x0D03].contains op)

/-! ## Header checks (R39 steps 1 to 5) -/

/-- FLAGS.STAGED. -/
def reqStaged (rq : Req) : Bool := bit rq.flags 0

/-- FLAGS.BULK_REQ. -/
def reqBulkReq (rq : Req) : Bool := bit rq.flags 1

/-- FLAGS.BULK_RSP. -/
def reqBulkRsp (rq : Req) : Bool := bit rq.flags 2

/-- The transaction rules for a staged command (R39 step 5, R53, R54). -/
def txnError (d : Dev) (rq : Req) : Option Nat :=
  if !(reqStaged rq) then some stNotInTxn
  else
    match d.txn.txn with
    | some t =>
      if t.id == rq.txn then (if t.owner == rq.ch then none else some stNotPermitted)
      else if d.txn.aborted.contains rq.txn then some stTxnAborted
      else some stNotInTxn
    | none => if d.txn.aborted.contains rq.txn then some stTxnAborted else some stNotInTxn

/-- The first failure of R39 steps 1 to 5. -/
def headerError (d : Dev) (op : Nat) (rq : Req) : Option Nat :=
  if 4096 < rq.length then some stBadLength
  else if !knownOpcode op then some stBadOpcode
  else if !d.serves rq.ch op then some stWrongMode
  else if rq.resv != 0 || decide (8 ≤ rq.flags) || (!(reqStaged rq) && rq.txn != 0) || ((reqStaged rq) && !isTransactional op) then
    some stBadParam
  else if isTransactional op then txnError d rq
  else none

/-! ## Request data and bulk descriptors (R44, R45) -/

/-- A bulk descriptor: address or handle, byte count, whether it names a Hopper handle. -/
structure BulkDesc where
  addr : Nat
  bytes : Nat
  hopper : Bool
  deriving DecidableEq, Repr

/-- The descriptor at an index of the list that follows the count word. -/
def bulkDesc (pl : Bytes) (i : Nat) : BulkDesc :=
  { addr := le pl (4 + 16 * i) 8, bytes := le pl (12 + 16 * i) 4, hopper := bit (le pl (16 + 16 * i) 4) 0 }

/-- A descriptor obeys its layout, the transport, and R118. -/
def bulkDescOk (d : Dev) (pl : Bytes) (i : Nat) : Bool :=
  let b := bulkDesc pl i
  decide (4 ≤ b.bytes) && decide (b.bytes ≤ 16777216) && b.bytes % 4 == 0 && decide (le pl (16 + 16 * i) 4 < 2) &&
  (if b.hopper then
    decide (b.addr < 2 ^ 32) && (match d.handle b.addr with
      | .inr (p, _) => decide (b.bytes ≤ poolSize p)
      | .inl _ => false)
   else !d.host.spi && b.addr % 4 == 0)

/-- The bad handle of a bulk request, where that is what its first wrong descriptor has: the handle and R118's reason. -/
def badBulk (d : Dev) (pl : Bytes) (n : Nat) : Option (Nat × Nat) :=
  ((List.range n).find? (fun i => !bulkDescOk d pl i)).bind (fun i =>
    let b := bulkDesc pl i
    if b.hopper && decide (b.addr < 2 ^ 32) then (match d.handle b.addr with | .inl r => some (b.addr, r) | .inr _ => none) else none)

/-- A bulk request's bad handle is counted and posted; it is no device fault (R118). -/
def Dev.noteBulk (d : Dev) (inband : Bool) (rq : Req) : Dev :=
  let pl := slice rq.payload 0 rq.length
  let n := le pl 0 2 + le pl 2 2
  if inband || !(reqBulkReq rq || reqBulkRsp rq) || pl.length ≠ 4 + 16 * n then d
  else match badBulk d pl n with
    | some (h, r) => d.noteBadHandle 9 h r
    | none => d

/-- What a request's payload holds: its data, and the descriptors of a bulk response. -/
structure ReqData where
  data : Bytes
  rsp : List BulkDesc
  reqCount : Nat
  deriving DecidableEq, Repr

/-- The inline payload: LENGTH bytes of the slot. -/
def inlineBytes (rq : Req) : Bytes := slice rq.payload 0 rq.length

/-- The bytes one request descriptor's buffer holds. -/
def bulkRead (d : Dev) (rq : Req) (b : BulkDesc) (i : Nat) : Option Bytes :=
  if b.hopper then d.hopperRead b.addr b.bytes
  else match rq.bulkReads.getD i none with
    | some bs => some (slice bs 0 b.bytes)
    | none => none

/-- Read every request descriptor; a failing read gives its index. -/
def bulkReadAll (d : Dev) (rq : Req) : List (BulkDesc × Nat) → Nat ⊕ Bytes
  | [] => .inr []
  | (b, i) :: t =>
    match bulkRead d rq b i with
    | none => .inl i
    | some bs =>
      match bulkReadAll d rq t with
      | .inl e => .inl e
      | .inr rest => .inr (bs ++ rest)

/-- A request's data, or the status and DETAIL of what is wrong with its bulk part. -/
def requestData (d : Dev) (inband : Bool) (rq : Req) : (Nat × Nat) ⊕ ReqData :=
  if !((reqBulkReq rq) || (reqBulkRsp rq)) then .inr { data := (inlineBytes rq), rsp := [], reqCount := 0 }
  else if inband then .inl (stNotPermitted, 0)
  else
    let pl := (inlineBytes rq)
    let n := le pl 0 2
    let m := le pl 2 2
    if pl.length < 4 then .inl (stBadLength, 0)
    else if 255 < n ∨ 255 < m ∨ (n != 0) ≠ (reqBulkReq rq) ∨ (m != 0) ≠ (reqBulkRsp rq) then .inl (stBadParam, 0)
    else if pl.length ≠ 4 + 16 * (n + m) then .inl (stBadLength, 0)
    else if !(List.range (n + m)).all (bulkDescOk d pl) then .inl (stBadParam, 0)
    else
      let reqs := (List.range n).map (fun i => (bulkDesc pl i, i))
      let rsps := (List.range m).map (fun i => bulkDesc pl (n + i))
      if 16777216 < (reqs.map (fun b => b.1.bytes)).sum then .inl (stBadLength, 0)
      else
        match bulkReadAll d rq reqs with
        | .inl i => .inl (stBadParam, i)
        | .inr bs => .inr { data := bs, rsp := rsps, reqCount := n }

/-- Room of the response descriptors. -/
def ReqData.room (r : ReqData) : Nat := (r.rsp.map (fun b => b.bytes)).sum

/-- Write response data across the response descriptors, in list order. -/
def bulkWriteAll (d : Dev) : List BulkDesc → Bytes → Dev
  | [], _ => d
  | b :: t, bs =>
    let part := bs.take b.bytes
    let d1 :=
      if part.isEmpty then d
      else if b.hopper then (d.hopperWrite b.addr part).getD d
      else d.emit (.hostMem b.addr part)
    bulkWriteAll d1 t (bs.drop b.bytes)

/-! ## Responses -/

/-- What serving a request comes to: a response now, or a wait that another step ends. -/
inductive Ans where
  | done (status detail : Nat) (payload : Bytes) (d : Dev)
  | wait (d : Dev)

/-- OK with a payload. -/
def ansOk (d : Dev) (payload : Bytes) : Ans := .done stOk 0 payload d

/-- A failure with no effect. -/
def ansErr (d : Dev) (status : Nat) : Ans := .done status 0 [] d

/-- A failure with DETAIL and no effect. -/
def ansErrD (d : Dev) (status detail : Nat) : Ans := .done status detail [] d

/-- Queue a response for posting (R40); that of a COMMIT or of a session command follows the acknowledgement of its journal
records (R377). -/
def Dev.answer (d : Dev) (t : Taken) (status detail : Nat) (payload : Bytes) : Dev :=
  let synced := status == stOk && (t.opcode == 0x0602 || (t.opcode / 256 == 0x0A && !sessionReads t.opcode))
  let r : Rsp :=
    { opcode := t.opcode, seq := t.rq.seq % 65536, status := status, detail := detail % 2 ^ 32, payload := payload,
      origin := t.origin, hold := if synced then d.twin.waits.getLast?.map (fun w => w.seq) else none }
  d.modChan t.rq.ch (fun c => { c with completed := c.completed ++ [r] })

/-- Queue a response whose data, with BULK_RSP, goes to the response descriptors; a failing write is answered with its
index plus REQ_COUNT, the effects standing (R44, R45). -/
def Dev.answerData (d : Dev) (t : Taken) (status detail : Nat) (payload : Bytes) (r : ReqData) : Dev :=
  if (reqBulkRsp t.rq) && status == stOk then
    match t.rq.bulkWriteFail with
    | some i => d.answer t stBadParam (i + r.reqCount) []
    | none => (bulkWriteAll d r.rsp payload).answer t status detail (leb 4 payload.length)
  else d.answer t status detail payload

/-- Answer the heads of a channel's taken requests that fail their header checks, at most `n` of them. -/
def Dev.drain (ch : Nat) : Nat → Dev → Dev
  | 0, d => d
  | n + 1, d =>
    let c := d.chan ch
    match c.running, c.taken with
    | none, t :: rest =>
      match headerError d t.opcode t.rq with
      | some e => Dev.drain ch n ((d.modChan ch (fun c => { c with taken := rest })).answer t e 0 [])
      | none => d
    | _, _ => d

/-- Answer every head of a channel that fails its header checks. -/
def Dev.drainAll (d : Dev) (ch : Nat) : Dev := Dev.drain ch (d.chan ch).taken.length d

/-- Complete the command in progress on a channel: its response is queued, or discarded after a reset (R42). -/
def Dev.complete (d : Dev) (ch status detail : Nat) (payload : Bytes) : Dev :=
  let c := d.chan ch
  match c.running with
  | none => d
  | some t =>
    let d1 := d.modChan ch (fun c => { c with running := none, dropRunning := false })
    let r := match requestData d c.inband t.rq with
      | .inr r => r
      | .inl _ => { data := [], rsp := [], reqCount := 0 }
    if c.dropRunning then d1.drainAll ch else (d1.answerData t status detail payload r).drainAll ch

/-! ## Serving -/

/-- The device takes requests: not in stage RESET nor in the stop of R408 (R30), and awake (R340). -/
def Dev.takesRequests (d : Dev) : Bool :=
  decide (d.host.stage ≠ .reset) && !d.boot.stopped &&
  (decide (d.lantern.power = .run) || decide (d.lantern.power = .partialRun) || decide (d.lantern.power = .tamperHold))

/-- The arrival of a request (R41): host activity (R337), and the idle times of Kiln (R398) and of an update session
(R385) begin again. -/
def Dev.arrival (d : Dev) (ch op : Nat) : Dev :=
  let d1 := { d with lantern := { d.lantern with lastRequest := some d.uptime, hostActive := true } }
  let d2 :=
    if ch == 0 && d1.update.kilnDeadline.isSome then
      { d1 with update := { d1.update with kilnDeadline := some (d1.uptime + sec 600) } }
    else d1
  match d2.update.session with
  | some u =>
    if u.owner == ch && op / 256 == 0x0E then
      { d2 with update := { d2.update with session := some { u with deadline := d2.uptime + sec 60 } } }
    else d2
  | none => d2

/-- Take a request into a channel's queue; MBX_REQ_CONS counts those of the host transport (R43). -/
def Dev.take (d : Dev) (t : Taken) : Dev :=
  let d1 := d.arrival t.rq.ch t.opcode
  d1.modChan t.rq.ch (fun c => { c with
    taken := c.taken ++ [t]
    reqCons := if t.origin.isNone then (c.reqCons + 1) % 32 else c.reqCons })

/-- A host request may be taken on the channel now: enabled, bound to the host transport, fewer than 16 outstanding. -/
def Dev.mayTake (d : Dev) (ch : Nat) : Bool :=
  let c := d.chan ch
  decide (ch < 8) && d.takesRequests && c.enable && !c.inband && decide (c.outstanding < 16)

/-- Take what waits in the host's queue of a channel, as long as it may be taken: at most `n` requests. -/
def Dev.pull (ch : Nat) : Nat → Dev → Dev
  | 0, d => d
  | n + 1, d =>
    match (d.chan ch).waiting with
    | [] => d
    | r :: rest =>
      if d.mayTake ch then
        let d1 := d.modChan ch (fun c => { c with waiting := rest })
        Dev.pull ch n (d1.take { opcode := r.opcode, rq := { r.rq with ch := ch }, origin := none })
      else d

/-- Take all that may be taken of a channel's queue. -/
def Dev.pullAll (d : Dev) (ch : Nat) : Dev := Dev.pull ch (d.chan ch).waiting.length d

/-- Start a request: the oldest taken one of its channel if it is this one, or this one on its arrival where none is taken
(R40); an arrival by doorbell moves MBX_REQ_PROD. The state after it has left the queue. -/
def Dev.start (d0 : Dev) (op : Nat) (rq : Req) : Option (Taken × Dev) :=
  let d := d0.pullAll rq.ch
  let c := d.chan rq.ch
  if !d.takesRequests || c.running.isSome then none
  else
    match c.taken with
    | t :: rest =>
      if t.opcode == op && t.rq == rq then some (t, d.modChan rq.ch (fun c => { c with taken := rest })) else none
    | [] =>
      if d.mayTake rq.ch then
        let t : Taken := { opcode := op, rq := rq, origin := none }
        some (t, (d.take t).modChan rq.ch (fun c => { c with
          taken := []
          reqProd := if d.host.spi then c.reqProd else (c.reqProd + 1) % 32 }))
      else none

/-- Bytes of a response in the SPI response buffer. -/
def rspBytes (r : Rsp) : Nat := 16 + r.payload.length

/-- The free part of the 32 KiB SPI response buffer, a whole response kept for each command in progress (R38). -/
def Dev.spiRoom (d : Dev) : Nat :=
  let used := d.chans.map (fun c =>
    ((c.2.completed ++ c.2.posted).map rspBytes).sum + (if c.2.running.isSome then 4112 else 0))
  32768 - used.sum

/-- LTR_FDB_FLUSH of this request removes a dynamic entry of the address that a staged LTR_FDB_STATIC names. -/
def flushNames (d : Dev) (data : Bytes) (c : Staged) : Bool :=
  d.lauter.fdb.any (fun e => !e.2.isStatic && e.2.fid == le c.data 2 2 && e.2.mac == be c.data 4 6 &&
    (byteAt data 0 == 0 || (byteAt data 0 == 1 && e.2.dest == le data 4 2) || (byteAt data 0 == 2 && e.2.fid == le data 2 2)))

/-- An immediate command would change the object a staged command writes or deletes (R57). -/
def namesObject (d : Dev) (op : Nat) (data : Bytes) (c : Staged) : Bool :=
  match op with
  | 0x0304 => c.opcode == 0x0303
  | 0x0405 => c.opcode == 0x0403 && flushNames d data c
  | 0x050B =>
    (byteAt data 0 == 0 && c.opcode == 0x0501 && le data 2 2 == le c.data 0 2) ||
    (byteAt data 0 == 1 && c.opcode == 0x0502 && le data 2 2 == le c.data 0 2) ||
    (byteAt data 0 == 2 && c.opcode == 0x0507 && byteAt c.data 2 == 1 && le data 2 2 == le c.data 0 2)
  | 0x0704 => [0x0701, 0x0702, 0x0703].contains c.opcode && le data 0 2 == le c.data 0 2
  | 0x0809 => (c.opcode == 0x0801 || c.opcode == 0x0802) && byteAt data 0 == byteAt c.data 0
  | 0x080D => c.opcode == 0x0806 && le data 0 2 == le c.data 0 2
  | 0x080E => c.opcode == 0x0804 && le data 0 2 == le c.data 0 2
  | 0x0908 => c.opcode == 0x0901 || (c.opcode == 0x0902 && byteAt data 0 == byteAt c.data 0)
  | 0x090A => c.opcode == 0x0905 && byteAt data 0 == byteAt c.data 0
  | 0x090B => c.opcode == 0x0905 && byteAt data 0 == byteAt c.data 0
  | 0x0C04 => c.opcode == 0x0C01 && byteAt data 0 == byteAt c.data 0
  | _ => false

/-- A COMMIT that is being applied holds the object an immediate command would change: its TXN (R57). -/
def Dev.heldByCommit (d : Dev) (op : Nat) (data : Bytes) : Option Nat :=
  match d.txn.committing with
  | none => none
  | some c => if c.staged.any (namesObject d op data) then some c.id else none

/-- Serve a request: the steps of R39 in order, then the command. `most` is the largest response data the command can
produce from its request (R45); `body` is the command's own checks and effect, on the state, the channel and the data. -/
def Dev.serve (op : Nat) (rq : Req) (most : Dev → Bytes → Nat) (body : Dev → Nat → Bytes → Ans) (d : Dev) : Dev :=
  match d.start op rq with
  | none => d
  | some (t, d1) =>
    match headerError d1 op t.rq with
    | some e => (d1.answer t e 0 []).drainAll rq.ch
    | none =>
      match requestData d1 t.origin.isSome t.rq with
      | .inl e => ((d1.noteBulk t.origin.isSome t.rq).answer t e.1 e.2 []).drainAll rq.ch
      | .inr r =>
        let top := most d1 r.data
        if d1.host.spi && decide (d1.spiRoom < 16 + (if (reqBulkRsp t.rq) then 4 else top)) then
          d1.modChan rq.ch (fun c => { c with taken := t :: c.taken })
        else
          let short := reqBulkRsp t.rq && decide (r.room < top)
          match body d1 rq.ch r.data with
          | .wait d2 =>
            if short then (d1.answer t stNoResource top []).drainAll rq.ch
            else d2.modChan rq.ch (fun c => { c with running := some t })
          | .done st det pl d2 =>
            match (if st == stOk then d1.heldByCommit op r.data else none) with
            | some id => (d1.answer t stBusy id []).drainAll rq.ch
            | none =>
              if short && st == stOk then (d1.answer t stNoResource top []).drainAll rq.ch
              else (d2.answerData t st det pl r).drainAll rq.ch

/-- The largest response of a command whose response has a fixed length. -/
def rspMax (n : Nat) : Dev → Bytes → Nat := fun _ _ => n

/-! ## Staging (R53, R54) -/

/-- Stage a command in the open transaction: OK with its zero-based index, or NO_RESOURCE at the limits of the store. -/
def Dev.stage (d : Dev) (op : Nat) (data : Bytes) : Ans :=
  match d.txn.txn with
  | none => ansErr d stNotInTxn
  | some t =>
    let size := (t.staged.map (fun c => c.data.length)).sum
    if 16384 ≤ t.staged.length ∨ 2097152 < size + data.length then ansErr d stNoResource
    else
      .done stOk t.staged.length []
        { d with txn := { d.txn with txn := some { t with staged := t.staged ++ [{ opcode := op, data := data }] } } }

/-- A transactional row: its length, ranges and reserved fields are checked, then it is staged (R54). -/
def Dev.serveStaged (op : Nat) (rq : Req) (check : Dev → Bytes → Nat) (d : Dev) : Dev :=
  d.serve op rq (rspMax 0) (fun d _ data =>
    let st := check d data
    if st == stOk then d.stage op data else ansErr d st)

/-- A staging check: the required length, then ranges and reserved fields. -/
def checkLayout (len : Nat) (fs : List Fld) (extra : Bytes → Bool) (_ : Dev) (bs : Bytes) : Nat :=
  if bs.length ≠ len then stBadLength else if layoutOk fs bs && extra bs then stOk else stBadParam

/-- A staging check of a command with an OP field: a delete carries only the fields that name its object, and every other
byte must be zero (R445). -/
def checkOp (len opOff : Nat) (names fs : List Fld) (extra : Bytes → Bool) (_ : Dev) (bs : Bytes) : Nat :=
  if bs.length ≠ len then stBadLength
  else if byteAt bs opOff == 1 then (if layoutOk (fr opOff 1 0 1 :: names) bs then stOk else stBadParam)
  else if layoutOk (fr opOff 1 0 1 :: names ++ fs) bs && extra bs then stOk
  else stBadParam

/-- Why a transaction is refused: its status, DETAIL, and the failing staging index where the status carries one (02,
TXN_COMMIT). -/
structure Refused where
  status : Nat
  detail : Nat
  index : Option Nat
  deriving DecidableEq, Repr

/-- A transaction's commands with their staging indices. -/
abbrev Batch := List (Nat × Staged)

/-- The staging index of the last command that satisfies a test. -/
def Batch.last (b : Batch) (f : Staged → Bool) : Option Nat := ((b.filter (fun x => f x.2)).getLast?).map (fun x => x.1)

/-- The staging index of the first command that satisfies a test. -/
def Batch.first (b : Batch) (f : Staged → Bool) : Option Nat := (b.find? (fun x => f x.2)).map (fun x => x.1)

/-- A refusal at a staging index. -/
def refuseAt (status : Nat) (i : Option Nat) : Option Refused := some { status := status, detail := 0, index := i }

/-- A conflict: its owner in DETAIL's format (R26) and the staging index. -/
def conflict (cls object : Nat) (i : Option Nat) : Option Refused :=
  some { status := stConflict, detail := cls * 2 ^ 24 + object % 2 ^ 20, index := i }

/-- The checks of an immediate command: the required length, then ranges and reserved fields; then the rest. -/
def withLayout (d : Dev) (len : Nat) (fs : List Fld) (bs : Bytes) (k : Ans) : Ans :=
  if bs.length ≠ len then ansErr d stBadLength else if layoutOk fs bs then k else ansErr d stBadParam

end Sys2Proof.Machine
end

