-- ==== Sys2Proof/Machine/PowerOps.lean ====
section
/-! DEFINITION. Sleep domains and wakes (chapter 13): domain states, the cancellation of a sleep, wakes and their latching,
and keep-alives. -/

namespace Sys2Proof.Machine

open Sys2Proof

/-- DOMAIN_STATE's encoding. -/
def domainCode : DomainState → Nat
  | .awake => 0 | .prepare => 1 | .asleep => 2 | .waking => 3

/-- The domain a port belongs to. -/
def Dev.domainOf (d : Dev) (p : Nat) : Option Nat := (d.lantern.domains.find? (fun e => bit e.2.portMask p)).map (fun e => e.1)

/-- Change a domain. -/
def Dev.modDomain (d : Dev) (n : Nat) (f : Domain → Domain) : Dev :=
  { d with lantern := { d.lantern with domains := tabUpd d.lantern.domains n f } }

/-- The device is in PARTIAL while a configured domain is ASLEEP or WAKING, else in RUN (R336). -/
def awakePower (l : Lantern) : PowerState :=
  if l.domains.any (fun e => decide (e.2.state = .asleep) || decide (e.2.state = .waking)) then .partialRun else .run

/-- Set the power state and post PWR_STATE on a change, with the wake source of one that leaves a sleep. -/
def Dev.setPower (d : Dev) (ps : PowerState) (src : Nat) : Dev :=
  if d.lantern.power = ps then d
  else
    let old := d.lantern.power
    let d1 := { d with lantern := { d.lantern with power := ps }, twin := { d.twin with sleepDirty := true } }
    d1.post 0x0C01 (powerCode ps) (powerCode old + src * 2 ^ 8)

/-- While the device is awake its power state follows its domains (R336). -/
def Dev.settlePower (d : Dev) : Dev :=
  if d.lantern.power = .run ∨ d.lantern.power = .partialRun then d.setPower (awakePower d.lantern) 0 else d

/-- Move a domain to a state, with PWR_DOMAIN_STATE. -/
def Dev.setDomain (d : Dev) (n : Nat) (st : DomainState) (src : Nat) : Dev :=
  match tabFind d.lantern.domains n with
  | none => d
  | some m =>
    let d1 := (d.modDomain n (fun m => { m with state := st })).post 0x0C02 n (domainCode st + domainCode m.state * 2 ^ 8 + src * 2 ^ 16)
    ({ d1 with twin := { d1.twin with sleepDirty := true } }).settlePower

/-- Restart a domain's keep-alive timer at KA_TIMEOUT_MS (R342). -/
def Dev.restartKeepAlive (d : Dev) (n : Nat) : Dev :=
  d.modDomain n (fun m => { m with kaDeadline := d.uptime + ms m.kaTimeoutMs, firstRun := none })

/-- Cancel a sleep before its commit point (R346). -/
def Dev.cancelSleep (d : Dev) (n : Nat) : Dev :=
  let d1 := (d.setDomain n .awake 0).restartKeepAlive n
  (d1.modDomain n (fun m => { m with indSent := 0, indDone := 0 })).count 12 (n * 8 + 2)

/-- Latch a wake in Lantern (R347). -/
def Dev.latchWake (d : Dev) (target src : Nat) : Dev :=
  let d1 := { d with lantern := { d.lantern with latched := d.lantern.latched ++ [(target, src, d.uptime)] } }
  let d2 := d1.aonWrite 5 src 0
  if target < 32 then d2.count 12 (target * 8 + 4) else d2

/-- Note a wake's source and the local time of its condition, in PWR_STATUS and the always-on log (R352, R356). -/
def Dev.noteWake (d : Dev) (src : Nat) : Dev :=
  { d with lantern := { d.lantern with lastWakeSrc := src, lastWakeTime := d.now } }.aonWrite 1 src 0

/-- Post what arose during entry (13, Power events). -/
def Dev.postDeferred (d : Dev) : Dev :=
  d.lantern.deferred.foldl (fun e x => e.postAt x.1 x.2.1 x.2.2.1 x.2.2.2) { d with lantern := { d.lantern with deferred := [] } }

/-- Drive a domain's CAN_STB pins to their standby level, or to the other (R345, R348). -/
def Dev.driveStb (d : Dev) (m : Domain) (standby : Bool) : Dev :=
  let high := standby == bit m.flags 1
  let level := fun (v i : Nat) => if bit m.stbMask i then (if high then setBit v i else clearBit v i) else v
  { d with lantern := { d.lantern with stb := (List.range 8).foldl level d.lantern.stb } }

/-- Begin the exit of a sleeping domain (R352): its CAN_STB pins are released. -/
def Dev.beginWaking (d : Dev) (n src : Nat) : Dev :=
  let d1 := match tabFind d.lantern.domains n with
    | some m => d.driveStb m false
    | none => d
  ((d1.setDomain n .waking src).modDomain n (fun m => { m with wakeSource := src, wakeAt := d.uptime })).count 12 (n * 8 + 1)

/-- A sleep is being entered or held: the device in DOZE or DORMANT or on its way (R336, R338, R339). -/
def Dev.deviceAsleep (d : Dev) : Bool :=
  d.lantern.entry.isSome || decide (d.lantern.power = .doze) || decide (d.lantern.power = .dormant)

/-- The device leaves DOZE for PARTIAL; only the targets of its wakes go to WAKING (R352). -/
def Dev.leaveDoze (d : Dev) (src : Nat) : Dev :=
  let ps := awakePower d.lantern
  let d1 := { d with lantern := { d.lantern with power := ps, dozeSince := 0 } }
  (d1.postDeferred).post 0x0C01 (powerCode ps) (powerCode .doze + src * 2 ^ 8)

/-- The domain's commit point has been reached in this tick or before, though its step is still to come (R345, R346): the final indication's
end is registered, or without indications PREPARE_MS has ended. -/
def Dev.pastCommit (d : Dev) (m : Domain) : Bool :=
  if m.indCount == 0 then decide (m.prepareEnd ≤ d.uptime) else decide (m.indCount ≤ m.indDone)

/-- A wake of a target, 0 to 31 a domain and 32 the device (R346, R347, R352). In DORMANT, and during an entry, it is
latched: DORMANT is left through the ROM. -/
def Dev.wake (d : Dev) (target src : Nat) : Dev :=
  if d.lantern.entry.isSome || decide (d.lantern.power = .dormant) then d.latchWake target src
  else
    let d1 := if d.lantern.power = .doze then (d.noteWake src).leaveDoze src else d
    match tabFind d1.lantern.domains target with
    | none => d1
    | some m =>
      match m.state with
      | .awake => d1
      | .waking => d1
      | .prepare => if d1.pastCommit m then d1.latchWake target src else d1.cancelSleep target
      | .asleep => if m.commitAt + ms 1 ≤ d.uptime then (d1.noteWake src).beginWaking target src else d1.latchWake target src

/-- A keep-alive of a domain: it restarts the timer, or cancels a sleep before its commit point (R342, R346). -/
def Dev.keepAlive (d : Dev) (n : Nat) : Dev :=
  match tabFind d.lantern.domains n with
  | none => d
  | some m =>
    match m.state with
    | .awake => d.restartKeepAlive n
    | .prepare => if d.pastCommit m then d else d.cancelSleep n
    | .asleep => d
    | .waking => d

/-- The port's domain is ASLEEP (R348, R349). -/
def Dev.portAsleep (d : Dev) (p : Nat) : Bool :=
  match d.domainOf p with
  | none => false
  | some n =>
    match tabFind d.lantern.domains n with
    | some m => decide (m.state = .asleep)
    | none => false

/-- The port is out of service by sleep: its domain is ASLEEP or WAKING. -/
def Dev.portSleeping (d : Dev) (p : Nat) : Bool :=
  match d.domainOf p with
  | none => false
  | some n =>
    match tabFind d.lantern.domains n with
    | some m => decide (m.state = .asleep) || decide (m.state = .waking)
    | none => false

end Sys2Proof.Machine
end

