-- ==== Sys2Proof/Machine/Fabric.lean ====
section
/-! DEFINITION. The switch core's shared operations (chapter 04): buffer accounting and admission (R92 to R97), push-out
(R101 to R103), mirror copies (R107 to R109), queues and their flush, link aggregation maps and fences (R112 to R115), and
the matching of slices to ports (R99). -/

namespace Sys2Proof.Machine

open Sys2Proof

/-- A frame's length under R6: its bytes from DA, padded to 60 (R75), and its FCS. -/
def frameLen (bs : Bytes) : Nat := max 64 (bs.length + 4)

/-- Cells a frame of L bytes occupies (R92). -/
def cellsFor (len : Nat) : Nat := (len + 255) / 256

/-- The slice of a port (01, Port map). -/
def sliceOf (p : Nat) : Nat :=
  if p < 10 then p / 2 else if p < 34 then 5 else if p < 50 then 6 else if p < 90 then 7 else 8

/-- Index of an (egress port, class) counter of class 0x03. -/
def voqIx (p c k : Nat) : Nat := p * 32 + c * 4 + k

/-! ## Buffer accounting -/

/-- SHARE[c]. -/
def Dev.share (d : Dev) (c : Nat) : Nat := d.fabric.share.getD c 0

/-- A mirror copy; the other copies are the original's and those to P91 (R146). -/
def Copy.mirror (k : Copy) : Bool := k.kind == 1 || k.kind == 2

/-- Cells a frame counts in a class: once in its own while a copy that is no mirror copy stands, and once for each mirror copy in
its session's class (R96, R109). -/
def frameOcc (c : Nat) (f : Stored) : Nat :=
  (if f.info.tc == c && f.copies.any (fun k => !k.mirror) then f.cells else 0) +
  (f.copies.filter (fun k => k.mirror && k.tc == c)).length * f.cells

/-- occ[c]: cells class c holds across the device. -/
def occOf (fs : List Stored) (c : Nat) : Nat := (fs.map (frameOcc c)).sum

/-- Cells the queued frames of a port hold (R94). -/
def portCells (fs : List Stored) (p : Nat) : Nat :=
  (fs.map (fun f => (f.copies.filter (fun k => k.port == p)).length * f.cells)).sum

/-- The reserve of Twin Link, in twin mode (R93). -/
def Dev.reserve (d : Dev) : Nat := if d.twin.enable then d.fabric.twinReserve else 0

/-- Size of the common pool (R93). -/
def Dev.commonSize (d : Dev) : Nat := 49152 - d.fabric.share.sum - d.reserve

/-- Cells of a class that lie in Twin Link's reserve (R93). -/
def Dev.twinCells (d : Dev) (fs : List Stored) (c : Nat) : Nat :=
  if d.twin.enable then (fs.map (fun f => if f.info.tc == c && f.copies.any (fun k => !k.mirror) then f.twin else 0)).sum else 0

/-- Common-pool cells in use: what each class holds outside its share, less what of it lies in Twin Link's reserve. -/
def Dev.commonUsed (d : Dev) (fs : List Stored) : Nat :=
  ((List.range 8).map (fun c => occOf fs c - d.share c - d.twinCells fs c)).sum

/-- Cells of Twin Link's reserve that are free. -/
def Dev.reserveFree (d : Dev) (fs : List Stored) : Nat := d.reserve - ((List.range 8).map (d.twinCells fs)).sum

/-- The part of n more cells of class c that falls outside SHARE[c] (R94). -/
def Dev.outside (d : Dev) (fs : List Stored) (c n : Nat) : Nat :=
  (occOf fs c + n - d.share c) - (occOf fs c - d.share c)

/-- n more cells of class c fit the free common pool (R94); P9's frames use their reserve first. -/
def Dev.fits (d : Dev) (fs : List Stored) (c n : Nat) (twinPort : Bool) : Bool :=
  let spare := if twinPort then d.reserveFree fs else 0
  decide (d.outside fs c n ≤ (d.commonSize - d.commonUsed fs) + spare)

/-- PORT_MAX[p]; P92's queues never hold more than 64 cells (R149). -/
def Dev.portMax (d : Dev) (p : Nat) : Nat :=
  if p == 92 then min 64 (tabGet 16384 d.fabric.portMax p) else tabGet 16384 d.fabric.portMax p

/-- The port condition of R94. -/
def Dev.portFits (d : Dev) (fs : List Stored) (p n : Nat) : Bool := decide (portCells fs p + n ≤ d.portMax p)

/-- Post FAB_BUFFER_LEVEL when the common pool's occupancy rises to HIGH_PCT or falls below HIGH_PCT less 10 points. -/
def Dev.levelCheck (d : Dev) : Dev :=
  let used := d.commonUsed d.fabric.frames * 100
  if !d.fabric.levelHigh && decide (d.fabric.highPct * d.commonSize ≤ used) && decide (0 < used) then
    ({ d with fabric := { d.fabric with levelHigh := true } }).post 0x0301 0 1
  else if d.fabric.levelHigh && decide (used < (d.fabric.highPct - 10) * d.commonSize) then
    ({ d with fabric := { d.fabric with levelHigh := false } }).post 0x0301 0 0
  else d

/-! ## Frames, copies and fences -/

/-- Replace the stored frames. -/
def Dev.putFrames (d : Dev) (fs : List Stored) : Dev := { d with fabric := { d.fabric with frames := fs } }

/-- A stored frame. -/
def Dev.stored (d : Dev) (id : Nat) : Option Stored := d.fabric.frames.find? (fun f => f.id == id)

/-- Change a stored frame. -/
def Dev.modStored (d : Dev) (id : Nat) (f : Stored → Stored) : Dev :=
  d.putFrames (d.fabric.frames.map (fun g => if g.id == id then f g else g))

/-- A marker still stands: the frame ahead of it waits unstarted on the old member (R115). -/
def markerStands (fs : List Stored) (m : Nat × Nat) : Bool :=
  fs.any (fun f => f.id == m.1 && f.copies.any (fun k => k.port == m.2 && !k.started))

/-- Clear the mark of a released fence from every copy. -/
def clearMark (key : Nat) (fs : List Stored) : List Stored :=
  fs.map (fun f => { f with copies := f.copies.map (fun k => if k.fenced == some key then { k with fenced := none } else k) })

/-- Markers that have left go from their fences, and a fence without markers releases (R115). -/
def Dev.sweepGroup (d : Dev) (g : Nat) : Dev :=
  match tabFind d.fabric.lags g with
  | none => d
  | some l =>
    let fs := l.fences.map (fun f => { f with markers := f.markers.filter (markerStands d.fabric.frames) })
    let gone := fs.filter (fun f => f.markers.isEmpty)
    let d1 := gone.foldl (fun e f => e.putFrames (clearMark f.id e.fabric.frames)) d
    { d1 with fabric := { d1.fabric with
        lags := tabPut d1.fabric.lags g { l with fences := fs.filter (fun f => !f.markers.isEmpty) } } }

/-- The copy a port is sending or has offered. -/
def Sending.of (s : Sending) (k : Copy) : Bool := k.staged && k.stageSeq == s.seq

/-- The copy of a sending still stands in its frame. -/
def Sending.stands (fs : List Stored) (s : Sending) : Bool := fs.any (fun f => f.id == s.id && f.copies.any s.of)

/-- After copies have left: frames without copies free their cells (R96), an offer whose copy is gone is withdrawn, fences are swept,
the level is watched. -/
def Dev.settleFabric (d : Dev) : Dev :=
  let d1 := d.putFrames (d.fabric.frames.filter (fun f => !f.copies.isEmpty))
  let d2 := { d1 with fabric := { d1.fabric with
      sending := d1.fabric.sending.filter (fun x => !x.2.offered || x.2.stands d1.fabric.frames) } }
  ((List.range 8).foldl (fun e g => e.sweepGroup g) d2).levelCheck

/-- Copies not yet started that are addressed to a port: how many, over all frames. -/
def queuedTo (fs : List Stored) (p : Nat) : Nat :=
  (fs.map (fun f => (f.copies.filter (fun k => k.dest == p && !k.started)).length)).sum

/-- Flush every queue of a port and count the frames in TX_LINK_FLUSH (R84); the number flushed. -/
def Dev.flushPort (d : Dev) (p : Nat) : Nat × Dev :=
  let n := queuedTo d.fabric.frames p
  let fs := d.fabric.frames.map (fun f => { f with copies := f.copies.filter (fun k => !(k.dest == p && !k.started)) })
  (n, ((d.putFrames fs).countN 2 (p * 64 + 22) n).settleFabric)

/-! ## Push-out (R101 to R103) -/

/-- The frame may be evicted: whole, a copy that is no mirror copy, and no copy of it has started transmission. -/
def evictable (f : Stored) : Bool :=
  !f.receiving && f.copies.any (fun k => !k.mirror) && !f.begun && f.copies.all (fun k => !k.started)

/-- The victim: the newest evictable frame of the lowest class below c, TC6 and TC7 excepted, that holds more than its
share. Where the lowest such class holds no frame that may be evicted, the next one's is taken (DESIGN CHOICE, log 85). -/
def Dev.victim (d : Dev) (fs : List Stored) (c : Nat) : Option Stored :=
  (List.range (min c 6)).findSome? (fun k =>
    if d.share k < occOf fs k then (fs.reverse.find? (fun f => f.info.tc == k && evictable f)) else none)

/-- Remove every copy of a frame but the mirror copies, which stay once taken (R107). -/
def evict (id : Nat) (fs : List Stored) : List Stored :=
  (fs.map (fun f => if f.id == id then { f with copies := f.copies.filter Copy.mirror } else f)).filter
    (fun f => !f.copies.isEmpty)

/-- Evict until n cells of class c fit: the frames that stay and the victims; none where the candidates cannot free
enough, in which case nothing is evicted. -/
def Dev.pushOut (d : Dev) (c n : Nat) (twinPort : Bool) : Nat → List Stored → List Stored → Option (List Stored × List Stored)
  | 0, fs, out => if d.fits fs c n twinPort then some (fs, out) else none
  | k + 1, fs, out =>
    if d.fits fs c n twinPort then some (fs, out)
    else match d.victim fs c with
      | none => none
      | some v => Dev.pushOut d c n twinPort k (evict v.id fs) (out ++ [v])

/-- Count the copies of an evicted frame in PUSHED_OUT of their ports and classes (R102). -/
def Dev.countEvicted (d : Dev) (f : Stored) : Dev :=
  (f.copies.filter (fun k => !k.mirror)).foldl (fun e k => e.count 3 (voqIx k.port k.tc 2)) d

/-! ## Enqueue -/

/-- A copy for a port in a class. -/
def copyTo (port dest tc slice : Nat) (tag : Option (Option Nat)) : Copy :=
  { port := port, tc := tc, slice := slice, kind := 0, session := 0, dest := dest, mirrored := 0xFF, tag := tag, rtag := none,
    fenced := none, staged := false, started := false, enqTime := 0 }

/-- A port takes frames into its queue: an internal one always; a CN or SL port while it is enabled; an Ethernet port while
it is up or its hold has not expired (R84). -/
def Dev.portTakes (d : Dev) (p : Nat) : Bool :=
  if 90 ≤ p then true
  else if 50 ≤ p then (d.port p).admin
  else (d.port p).admin && ((d.port p).up || !(d.port p).holdExpired)

/-- What enqueuing for a port does before admission: a frame for a sleeping domain wakes it under WAKE_ON_EGRESS (R349). -/
def Dev.wakeOnEgress (d : Dev) (p : Nat) : Dev :=
  match d.domainOf p with
  | none => d
  | some n =>
    match tabFind d.lantern.domains n with
    | some m => if decide (m.state = .asleep) && bit m.flags 0 then d.wake n p else d
    | none => d

/-- The port is in a sleeping domain that a frame for it does not wake (R349). -/
def Dev.closedBySleep (d : Dev) (p : Nat) : Bool :=
  match d.domainOf p with
  | none => false
  | some n =>
    match tabFind d.lantern.domains n with
    | some m => decide (m.state = .asleep) && !bit m.flags 0
    | none => false

/-- Admit one copy at its port: dropped at a closed port (TX_LINK_DOWN) or at PORT_MAX (DROP_PORT_LIMIT), alone (R84, R94,
R96). -/
def Dev.admitCopy (n : Nat) (acc : Dev × List Copy) (k : Copy) : Dev × List Copy :=
  let d := acc.1
  if !d.portTakes k.dest || d.closedBySleep k.dest then (d.count 2 (k.dest * 64 + 23), acc.2)
  else
    let held := (acc.2.filter (fun j => j.port == k.port)).length * n
    if portCells d.fabric.frames k.port + held + n ≤ d.portMax k.port then
      (d.wakeOnEgress k.dest, acc.2 ++ [{ k with enqTime := d.now }])
    else (d.count 3 (voqIx k.port k.tc 3), acc.2)

/-- Mirror session i copies the frame: its source and direction match, and where DIR [2] is set Lauter's action names it
(R107, R108). -/
def mirrorMatches (m : Mirror) (i dirBit port : Nat) (named : Option Nat) : Bool :=
  m.enable && bit m.dir dirBit && bit m.srcMask port && (!bit m.dir 2 || named == some i)

/-- A mirror copy of the newest stored frame is admitted, or dropped and counted in MIRROR_DROP (R109). -/
def Dev.mirrorCopy (d : Dev) (id i kind mirrored : Nat) (m : Mirror) : Dev :=
  match d.stored id with
  | none => d
  | some f =>
    let ok := d.portTakes m.dest && !d.closedBySleep m.dest && d.portFits d.fabric.frames m.dest f.cells &&
      d.fits d.fabric.frames m.tc f.cells false
    if ok then
      let k : Copy := { copyTo m.dest m.dest m.tc (sliceOf f.info.inPort) none with
        kind := kind, session := i, mirrored := mirrored, enqTime := d.now }
      (((d.wakeOnEgress m.dest).modStored id (fun g => { g with copies := g.copies ++ [k] })).count 3 (voqIx m.dest m.tc 0)).count 3 3074
    else
      let d1 := if d.portTakes m.dest && !d.closedBySleep m.dest then d else d.count 2 (m.dest * 64 + 23)
      d1.count 3 3075

/-- One match of a session: its count, and at SAMPLE_N a copy (R108). -/
def Dev.mirrorOne (id i kind mirrored : Nat) (d : Dev) : Dev :=
  let m := tabGet mirror0 d.fabric.mirrors i
  let n := m.count + 1
  let put := fun (c : Nat) => { d with fabric := { d.fabric with mirrors := tabPut d.fabric.mirrors i { m with count := c } } }
  if m.sampleN ≤ n then Dev.mirrorCopy (put 0) id i kind mirrored m else put n

/-- The copies every session takes of a frame just enqueued (R107). Where several of its copies leave at source ports of an egress
session, the session counts each (DESIGN CHOICE, log 85). -/
def Dev.mirrorAll (d : Dev) (id inPort : Nat) (outs : List Nat) (named : Option Nat) : Dev :=
  (List.range 8).foldl (fun e i =>
    let m := tabGet mirror0 e.fabric.mirrors i
    let e1 := if mirrorMatches m i 0 inPort named then Dev.mirrorOne id i 1 0xFF e else e
    outs.foldl (fun e2 p => if mirrorMatches m i 1 p named then Dev.mirrorOne id i 2 p e2 else e2) e1) d

/-- The fence of a number is open. -/
def Dev.fenceOpen (d : Dev) (id : Nat) : Bool := d.fabric.lags.any (fun x => x.2.fences.any (fun f => f.id == id))

/-- A copy as it is enqueued: the mark of a fence released meanwhile goes (R115). -/
def Dev.unfence (d : Dev) (k : Copy) : Copy :=
  match k.fenced with
  | some id => if d.fenceOpen id then k else { k with fenced := none }
  | none => k

/-- Append a frame to the store. -/
def Dev.addStored (d : Dev) (f : Stored) : Dev := { d with fabric := { d.fabric with frames := d.fabric.frames ++ [f], nextId := f.id + 1 } }

/-- Store a frame for its copies: the port conditions alone, then the class condition with push-out, then the counters (R94 to
R96, R101). The frame's number, where it is stored. A cut-through frame (`receiving`) is charged by its ingress port's MAX_FRAME
(R95). -/
def Dev.place (d : Dev) (bytes : Bytes) (len : Nat) (info : FrameInfo) (copies : List Copy) (receiving : Bool) : Option Nat × Dev :=
  let n := if receiving then cellsFor (d.port info.inPort).maxFrame else cellsFor len
  let a := copies.foldl (fun acc k => Dev.admitCopy n acc (d.unfence k)) (d, [])
  let d1 := a.1
  match a.2 with
  | [] => (none, d1)
  | k :: ks =>
    let twinPort := ks.isEmpty && k.port == 9
    match Dev.pushOut d1 info.tc n twinPort (d1.fabric.frames.length + 1) d1.fabric.frames [] with
    | none => (none, a.2.foldl (fun e j => e.count 3 (voqIx j.port j.tc 1)) d1)
    | some (fs, out) =>
      let id := d1.fabric.nextId
      let f : Stored :=
        { id := id, bytes := bytes, len := len, cells := n, info := info, copies := a.2, receiving := receiving, bad := false
          cut := receiving, twin := if twinPort then min (d1.outside fs info.tc n) (d1.reserveFree fs) else 0 }
      let d2 := out.foldl Dev.countEvicted ((d1.putFrames fs).addStored f)
      (some id, a.2.foldl (fun e j => e.count 3 (voqIx j.port j.tc 0)) d2)

/-- Ports of a stored frame's original copies. -/
def Dev.originalPorts (d : Dev) (id : Nat) : List Nat :=
  match d.stored id with
  | some f => (f.copies.filter (fun k => k.kind == 0)).map (fun k => k.port)
  | none => []

/-- Enqueue a frame for its copies, and take the mirror copies of its original (R107). A CN or SL port's copy leaves at P94, so an egress
session matches it by P94's bit, and a recirculated frame is enqueued, and mirrored, on both passes (DESIGN CHOICE, log 85). -/
def Dev.enqueue (d : Dev) (bytes : Bytes) (len : Nat) (info : FrameInfo) (copies : List Copy) (named : Option Nat)
    (receiving : Bool) : Dev :=
  match d.place bytes len info copies receiving with
  | (none, d1) => d1
  | (some id, d1) =>
    let outs := d1.originalPorts id
    (if outs.isEmpty then d1 else Dev.mirrorAll d1 id info.inPort outs named).settleFabric

/-- Enqueue a dropped frame's copies to P91, and the copy of the session its profile names, if that session takes one (R146, R107 to
R109): references to one stored frame, which is stored for the mirror copy alone where there is no other. -/
def Dev.enqueueDropped (d : Dev) (bytes : Bytes) (len : Nat) (info : FrameInfo) (copies : List Copy) (named : Option Nat) : Dev :=
  let r := d.place bytes len info copies false
  match named with
  | none => r.2.settleFabric
  | some i =>
    let m := tabGet mirror0 r.2.fabric.mirrors i
    if !(bit m.dir 2 && mirrorMatches m i 0 info.inPort named) then r.2.settleFabric
    else
      let id := r.1.getD r.2.fabric.nextId
      let bare : Stored :=
        { id := id, bytes := bytes, len := len, cells := cellsFor len, info := info, copies := [], receiving := false, bad := false }
      let d1 := if r.1.isSome then r.2 else r.2.addStored bare
      (Dev.mirrorOne id i 1 0xFF d1).settleFabric

/-- A frame the device itself sends at a port in a class, padded to 60 bytes (R75): it is enqueued there as it stands. -/
def Dev.sendTs (d : Dev) (port tc : Nat) (bs : Bytes) (ts : Option TsReq) : Dev :=
  let b := slice bs 0 (max 60 bs.length)
  let info : FrameInfo :=
    { inPort := 91, time := d.now, tc := tc, handle := 0xFFFF, zone := 0, gen := d.lauter.gen, vid := 0,
      metaWord := 0, pcp := 0, ts := ts, arrival := d.uptime }
  d.enqueue b (frameLen b) info [copyTo port port tc 8 none] none false

/-- A frame the device itself sends, without an egress timestamp. -/
def Dev.sendAt (d : Dev) (port tc : Nat) (bs : Bytes) : Dev := d.sendTs port tc bs none

/-- Bytes a slice's ingress FIFO holds. -/
def Dev.fifoUsed (d : Dev) (sl : Nat) : Nat := ((tabGet [] d.fabric.fifos sl).map (fun a => frameLen a.bytes)).sum

/-- Put a frame into its slice's ingress FIFO; none where its 32 KiB cannot take the whole frame (R9). -/
def Dev.fifoPut (d : Dev) (sl : Nat) (a : Arrived) : Option Dev :=
  if d.fifoUsed sl + frameLen a.bytes ≤ 32768 then
    some { d with fabric := { d.fabric with fifos := tabMod [] d.fabric.fifos sl (fun l => l ++ [a]) } }
  else none

/-- A frame of an engine or of the host enters the fabric at its internal port as a new frame with the ingress timestamp it
is given (01, Blocks and the forwarding path; R157), counted as received there or in RX_OVERFLOW. -/
def Dev.injectTs (d : Dev) (port : Nat) (bs : Bytes) (time ring : Nat) (ts : Option TsReq) : Dev :=
  let b := slice bs 0 (max 60 bs.length)
  match d.fifoPut 8 { port := port, bytes := b, time := time, ring := ring, second := none, ts := ts, arrival := d.uptime } with
  | some d1 => (d1.count 2 (port * 64)).countN 2 (port * 64 + 1) (frameLen b)
  | none => d.count 2 (port * 64 + 9)

/-- A frame that asks for no egress timestamp. -/
def Dev.injectAt (d : Dev) (port : Nat) (bs : Bytes) (time ring : Nat) : Dev := d.injectTs port bs time ring none

/-! ## Link aggregation (R112 to R115) -/

/-- A member distributes: its link is up and, with LACP, its partner collects and distributes. -/
def Dev.memberDistributes (d : Dev) (l : Lag) (m : Nat × Nat) : Bool :=
  (d.port m.2).up && (!bit l.lacp 0 || tabGet 0 l.partner m.1 == 1)

/-- Insert into an ascending list. -/
def insertAsc (x : Nat) : List Nat → List Nat
  | [] => [x]
  | y :: t => if x ≤ y then x :: y :: t else y :: insertAsc x t

/-- The distributing members in ascending port order (R114). -/
def Dev.distNow (d : Dev) (l : Lag) : List Nat :=
  ((l.members.filter (d.memberDistributes l)).map (fun m => m.2)).foldr insertAsc []

/-- The port a bucket maps to (R114). -/
def bucketPort (dist : List Nat) (b : Nat) : Option Nat := if dist.isEmpty then none else dist[b % dist.length]?

/-- DIST_MASK. -/
def distMask (l : Lag) (dist : List Nat) : Nat := (l.members.map (fun m => if dist.contains m.2 then 2 ^ m.1 else 0)).sum

/-- The markers of a moved bucket: the last frame of every non-empty VOQ of the old member (R115). -/
def drainMarkers (fs : List Stored) (old : Nat) : List (Nat × Nat) :=
  (List.range 72).filterMap (fun i =>
    let s := i / 8
    let c := i % 8
    (fs.reverse.find? (fun f => f.copies.any (fun k => k.port == old && k.slice == s && k.tc == c && !k.started && !k.staged))).map
      (fun f => (f.id, old)))

/-- Recompute a group's map; moved buckets are fenced, the change is posted (R114, R115). A bucket that moves again while a fence of
it is open has both fences. -/
def Dev.lagRemap (d : Dev) (g : Nat) : Dev :=
  match tabFind d.fabric.lags g with
  | none => d
  | some l =>
    let new := d.distNow l
    if new = l.dist then d
    else
      let moved := (List.range 256).filterMap (fun b =>
        match bucketPort l.dist b, bucketPort new b with
        | some o, some n => if o == n then none else some (b, o)
        | _, _ => none)
      let fences := moved.zipIdx.map (fun m =>
        { id := d.fabric.nextFence + m.2, bucket := m.1.1, deadline := d.uptime + l.fenceUs * 1000,
          markers := drainMarkers d.fabric.frames m.1.2 : Fence })
      let d1 := { d with fabric := { d.fabric with
          lags := tabPut d.fabric.lags g { l with dist := new, fences := l.fences ++ fences }
          nextFence := d.fabric.nextFence + moved.length } }
      ((d1.countN 3 3079 moved.length).post 0x0302 g (distMask l new)).settleFabric

/-- Recompute every group that has the port as a member. -/
def Dev.lagPort (d : Dev) (p : Nat) : Dev :=
  d.fabric.lags.foldl (fun e x => if x.2.members.any (fun m => m.2 == p) then e.lagRemap x.1 else e) d

/-- The open fence of a bucket's latest move. -/
def Dev.openFence (d : Dev) (g b : Nat) : Option Nat :=
  match tabFind d.fabric.lags g with
  | none => none
  | some l => (l.fences.reverse.find? (fun f => f.bucket == b)).map (fun f => f.id)

/-- Copies that wait behind a fence. -/
def fencedBy (fs : List Stored) (id : Nat) : Nat := (fs.map (fun f => (f.copies.filter (fun k => k.fenced == some id)).length)).sum

/-- FENCE_TIMEOUT (R115): the bucket's fences that are due release, their waiting frames counted in REORDER_RISK. -/
def fenceTimeout (g b : Nat) (d : Dev) : Dev :=
  match tabFind d.fabric.lags g with
  | none => d
  | some l =>
    let due := fun (f : Fence) => f.bucket == b && d.over f.deadline
    let d1 := { d with fabric := { d.fabric with lags := tabPut d.fabric.lags g { l with fences := l.fences.filter (fun f => !due f) } } }
    (l.fences.filter due).foldl (fun e f =>
      (e.putFrames (clearMark f.id e.fabric.frames)).countN 3 3078 (fencedBy e.fabric.frames f.id)) d1

/-- FENCE_TIMEOUT. -/
def execFenceTimeout (group bucket : Nat) (s : State) : Out := onDev (fenceTimeout group bucket) s

/-- LACPDU_RECEIVED: the partner's state of a member changes (R112, R114); its information lasts three periods, 3 s at the
fast rate and 90 s at the slow one (log 20). -/
def lacpduReceived (port : Nat) (distributing : Bool) (d : Dev) : Dev :=
  let d1 := { d with fabric := { d.fabric with
      lags := tabMap d.fabric.lags (fun _ (l : Lag) =>
        match l.members.find? (fun (m : Nat × Nat) => m.2 == port) with
        | some m =>
          if bit l.lacp 0 then
            { l with
              partner := tabPut l.partner m.1 (b2n distributing),
              partnerDeadline := tabPut l.partnerDeadline m.1 (d.uptime + sec (if bit l.lacp 1 then 3 else 90)) }
          else l
        | none => l) } }
  d1.lagPort port

/-- LACPDU_RECEIVED. -/
def execLacpduReceived (port : Nat) (distributing : Bool) (s : State) : Out := onDev (lacpduReceived port distributing) s

/-- LACP_PARTNER_TIMEOUT: a member whose partner information has expired stops distributing (R112, R114). -/
def lacpTimeout (port : Nat) (d : Dev) : Dev :=
  let d1 := { d with fabric := { d.fabric with
      lags := tabMap d.fabric.lags (fun _ (l : Lag) =>
        match l.members.find? (fun (m : Nat × Nat) => m.2 == port) with
        | some m =>
          if d.overO (tabFind l.partnerDeadline m.1) then
            { l with partner := tabPut l.partner m.1 0, partnerDeadline := tabDel l.partnerDeadline m.1 }
          else l
        | none => l) } }
  d1.lagPort port

/-- LACP_PARTNER_TIMEOUT. -/
def execLacpPartnerTimeout (port : Nat) (s : State) : Out := onDev (lacpTimeout port) s

/-! ## Matching (R98, R99) -/

/-- The head of a VOQ: the first frame that holds an unstaged copy for it, with that copy. -/
def voqHead (fs : List Stored) (s p c : Nat) : Option (Stored × Copy) :=
  fs.findSome? (fun f =>
    (f.copies.find? (fun k => k.slice == s && k.port == p && k.tc == c && !k.staged && !k.started)).map (fun k => (f, k)))

/-- Frames in the transmit stage of (p, c). -/
def stageCount (fs : List Stored) (p c : Nat) : Nat :=
  (fs.map (fun f => (f.copies.filter (fun k => k.port == p && k.tc == c && k.staged && !k.started)).length)).sum

/-- Slice s requests port p at class c (R99). P92 is read by its own reader (R149). A mirror copy waits until its frame is whole
(R104). -/
def requests (fs : List Stored) (s p c : Nat) : Bool :=
  decide (p ≠ 92) && decide (stageCount fs p c < 2) &&
  (match voqHead fs s p c with
   | some (f, k) => k.fenced.isNone && !(f.receiving && k.mirror)
   | none => false)

/-- First of a list at or after a pointer, modulo n. -/
def firstFrom (ptr n : Nat) : List Nat → Option Nat
  | [] => none
  | x :: t =>
    match firstFrom ptr n t with
    | none => some x
    | some y => if (x + n - ptr) % n ≤ (y + n - ptr) % n then some x else some y

/-- The state of one slot's matching: matches (slice, port, class) and the pointers. -/
structure Matching where
  pairs : List (Nat × Nat × Nat)
  gptr : Tab Nat
  aptr : Tab Nat

/-- The grant of an unmatched port: its highest requested class, and of that class the first requesting unmatched slice at
or after its pointer. -/
def grantOf (fs : List Stored) (m : Matching) (p : Nat) : Option (Nat × Nat) :=
  if m.pairs.any (fun x => x.2.1 == p) then none
  else
    let free := (List.range 9).filter (fun s => !m.pairs.any (fun x => x.1 == s))
    match [7, 6, 5, 4, 3, 2, 1, 0].find? (fun c => free.any (fun s => requests fs s p c)) with
    | none => none
    | some c =>
      (firstFrom (tabGet 0 m.gptr (p * 8 + c)) 9 (free.filter (fun s => requests fs s p c))).map (fun s => (s, c))

/-- One slice accepts: its highest granted class, and of that class the first granting port at or after its pointer. -/
def acceptOf (grants : List (Nat × Nat × Nat)) (first : Bool) (m : Matching) (s : Nat) : Matching :=
  let mine := grants.filter (fun g => g.2.1 == s)
  match [7, 6, 5, 4, 3, 2, 1, 0].find? (fun c => mine.any (fun g => g.2.2 == c)) with
  | none => m
  | some c =>
    match firstFrom (tabGet 0 m.aptr (s * 8 + c)) 96 ((mine.filter (fun g => g.2.2 == c)).map (fun g => g.1)) with
    | none => m
    | some p =>
      { pairs := m.pairs ++ [(s, p, c)]
        gptr := if first then tabPut m.gptr (p * 8 + c) ((s + 1) % 9) else m.gptr
        aptr := if first then tabPut m.aptr (s * 8 + c) ((p + 1) % 96) else m.aptr }

/-- One iteration of grant and accept. -/
def matchIter (fs : List Stored) (ports : List Nat) (first : Bool) (m : Matching) : Matching :=
  let grants := ports.filterMap (fun p => (grantOf fs m p).map (fun g => (p, g)))
  (List.range 9).foldl (acceptOf grants first) m

/-- Change the first copy of a frame that satisfies a test. -/
def modFirst (test : Copy → Bool) (f : Copy → Copy) : List Copy → List Copy
  | [] => []
  | k :: t => if test k then f k :: t else k :: modFirst test f t

/-- Move the head frame of a VOQ into its transmit stage, after what is there. -/
def stageHead (acc : List Stored × Nat) (x : Nat × Nat × Nat) : List Stored × Nat :=
  match voqHead acc.1 x.1 x.2.1 x.2.2 with
  | none => acc
  | some (h, _) =>
    (acc.1.map (fun f =>
      if f.id == h.id then
        let test := fun (k : Copy) => k.slice == x.1 && k.port == x.2.1 && k.tc == x.2.2 && !k.staged && !k.started
        { f with copies := modFirst test (fun k => { k with staged := true, stageSeq := acc.2 }) f.copies }
      else f), acc.2 + 1)

/-- MATCHING_SLOT (R99): three iterations, pointers moving on the first, then every match moves a head frame. -/
def matchingSlot (d : Dev) : Dev :=
  let fs := d.fabric.frames
  let ports := (List.range 96).filter (fun p => fs.any (fun f => f.copies.any (fun k => k.port == p && !k.staged && !k.started)))
  let m0 : Matching := { pairs := [], gptr := d.fabric.gptr, aptr := d.fabric.aptr }
  let m := matchIter fs ports false (matchIter fs ports false (matchIter fs ports true m0))
  let r := m.pairs.foldl stageHead (fs, d.fabric.nextStage)
  { d with fabric := { d.fabric with frames := r.1, nextStage := r.2, gptr := m.gptr, aptr := m.aptr } }

/-- MATCHING_SLOT. -/
def execMatchingSlot (s : State) : Out := onDev matchingSlot s

end Sys2Proof.Machine
end

