-- ==== Sys2Proof/Machine/Crypto.lean ====
section
/-! DEFINITION. The check codes and ciphers the frame formats and the record formats of the spec are built from: CRC-32 of
IEEE 802.3 (R78), the Modbus CRC-16 (R251), AES-CMAC (NIST SP 800-38B) over the block cipher of Config. -/

namespace Sys2Proof.Machine

open Sys2Proof

/-- One bit of a reflected CRC over a register of Nat type. -/
def crcBit (poly v : Nat) : Nat := if v % 2 == 1 then (v / 2) ^^^ poly else v / 2

/-- One byte of a reflected CRC. -/
def crcByte (poly crc : Nat) (b : Byte) : Nat :=
  (List.range 8).foldl (fun v _ => crcBit poly v) (crc ^^^ b.toNat)

/-- CRC-32 of IEEE 802.3: reflected polynomial 0xEDB88320, register and result inverted. -/
def crc32 (bs : Bytes) : Nat := (bs.foldl (crcByte 0xEDB88320) 0xFFFFFFFF) ^^^ 0xFFFFFFFF

/-- The Modbus CRC-16: reflected polynomial 0xA001, register 0xFFFF. -/
def crc16 (bs : Bytes) : Nat := bs.foldl (crcByte 0xA001) 0xFFFF

/-- Byte-wise exclusive or; the shorter length counts. -/
def xorBytes (a b : Bytes) : Bytes := List.zipWith (fun x y => x ^^^ y) a b

/-- A CMAC subkey: the 128-bit value doubled in GF(2^128). -/
def cmacDouble (k : Bytes) : Bytes :=
  let v := be k 0 16
  let s := v * 2 % 2 ^ 128
  beb 16 (if bit v 127 then s ^^^ 0x87 else s)

/-- The CMAC chain over whole blocks, `fuel` blocks at most. -/
def cmacChain (key : Bytes) : Nat → Bytes → Bytes → Bytes
  | 0, x, _ => x
  | n + 1, x, m =>
    if m.length ≤ 16 then x
    else cmacChain key n (Config.aes key false (xorBytes x (m.take 16))) (m.drop 16)

/-- The last block of a message, whole or padded, with its subkey. -/
def cmacLast (key m : Bytes) : Bytes :=
  let k1 := cmacDouble (Config.aes key false (zeros 16))
  let r := if m.length == 0 then 0 else (m.length - 1) % 16 + 1
  let tail := m.drop (m.length - r)
  if r == 16 then xorBytes tail k1 else xorBytes (slice (tail ++ [0x80]) 0 16) (cmacDouble k1)

/-- AES-CMAC. -/
def cmac (key m : Bytes) : Bytes :=
  Config.aes key false (xorBytes (cmacChain key (m.length / 16 + 1) (zeros 16) m) (cmacLast key m))

/-- SHA-256 and SHA-384 are those of Config; a digest by algorithm (1 SHA-256, 2 SHA-384). -/
def digest (alg : Nat) (m : Bytes) : Bytes := if alg == 2 then Config.sha384 m else Config.sha256 m

end Sys2Proof.Machine
end

