-- ==== Sys2Proof/Machine/Grist.lean ====
section
/-! DEFINITION. Grist, the frame parser (chapter 05, R120 to R122): the fields it takes from the first 256 bytes of a
frame. -/

namespace Sys2Proof.Machine

open Sys2Proof

/-- The fields Grist hands on (05, Fields Grist hands on). A field that is not valid reads as zero (R120). -/
structure Grist where
  da : Nat := 0
  sa : Nat := 0
  vlanCount : Nat := 0
  /-- Outer and inner TCI: PCP, DEI, VID. -/
  outer : Nat := 0
  inner : Nat := 0
  rtag : Option Nat := none
  /-- Offset of the tag area's end: of the type field that gives ETYPE. -/
  etypeOff : Nat := 12
  etype : Nat := 0
  /-- 4, 6 or 0: the IP version of a valid layer 3. -/
  l3 : Nat := 0
  /-- IP addresses, 16 bytes, IPv4 as ::FFFF:a.b.c.d (R139). -/
  ipSa : Nat := 0
  ipDa : Nat := 0
  flow : Nat := 0
  extCount : Nat := 0
  proto : Nat := 0
  dscp : Nat := 0
  ecn : Nat := 0
  hop : Nat := 0
  frag : Nat := 0
  l4 : Bool := false
  /-- L4 ports; of ICMP the type and code, and of an echo the identifier. -/
  sport : Nat := 0
  dport : Nat := 0
  tcpFlags : Nat := 0
  icmpType : Nat := 0
  icmpCode : Nat := 0
  icmpId : Nat := 0
  avtpSubtype : Nat := 0
  avtpStream : Nat := 0
  acfType : Nat := 0
  canBus : Nat := 0
  canId : Nat := 0
  ptpType : Nat := 0
  ptpSdo : Nat := 0
  ptpDomain : Nat := 0
  lysSubtype : Nat := 0
  lysVersion : Nat := 0
  lysChannel : Nat := 0
  options : Bool := false
  malformed : Bool := false
  csumBad : Bool := false
  extLimit : Bool := false
  truncated : Bool := false
  deriving DecidableEq, Repr

/-- OUTER_VID, or 0 without a tag. -/
def Grist.outerVid (g : Grist) : Nat := bits g.outer 0 12

/-- OUTER_PCP, or 0 without a tag. -/
def Grist.outerPcp (g : Grist) : Nat := bits g.outer 13 3

/-- OUTER_DEI, or 0 without a tag. -/
def Grist.outerDei (g : Grist) : Bool := bit g.outer 12

/-- L3_VALID. -/
def Grist.l3Valid (g : Grist) : Bool := g.l3 != 0

/-- PARSE_FLAGS. -/
def Grist.parseFlags (g : Grist) : Nat :=
  b2n g.l3Valid + 2 * b2n g.l4 + 4 * b2n g.truncated + 8 * b2n g.extLimit + 16 * b2n g.csumBad + 32 * b2n g.malformed +
    64 * b2n g.rtag.isSome + 128 * b2n g.options

/-- The group bit of an address. -/
def isGroup (mac : Nat) : Bool := bit mac 40

/-- The broadcast address. -/
def broadcast : Nat := 0xFFFFFFFFFFFF

/-- A TPID (R121). -/
def isTpid (t : Nat) : Bool := t == 0x8100 || t == 0x88A8

/-- Tags, R-TAG and ETYPE (R121). -/
def gristL2 (b : Bytes) : Grist :=
  let g0 : Grist := { da := be b 0 6, sa := be b 6 6 }
  let t0 := be b 12 2
  let g1 : Grist := if isTpid t0 then { g0 with vlanCount := 1, outer := be b 14 2, etypeOff := 16 } else g0
  let t1 := be b g1.etypeOff 2
  let g2 : Grist := if g1.vlanCount == 1 && isTpid t1 then { g1 with vlanCount := 2, inner := be b 18 2, etypeOff := 20 } else g1
  let t2 := be b g2.etypeOff 2
  let g3 : Grist := if t2 == 0xF1C1 then { g2 with rtag := some (be b (g2.etypeOff + 4) 2), etypeOff := g2.etypeOff + 6 } else g2
  { g3 with etype := be b g3.etypeOff 2, truncated := decide (b.length < g3.etypeOff + 2) }

/-- The one's complement sum of a header's 16-bit words. -/
def headerSum (b : Bytes) (off words : Nat) : Nat :=
  let s := ((List.range words).map (fun i => be b (off + 2 * i) 2)).sum
  let s1 := s / 65536 + s % 65536
  s1 / 65536 + s1 % 65536

/-- Layer 4 at an offset: TCP, UDP, ICMP and ICMPv6; others are not parsed. -/
def gristL4 (b : Bytes) (g : Grist) (o : Nat) : Grist :=
  let n := b.length
  if g.proto == 6 then
    if n < o + 20 || decide (n < o + 4 * (byteAt b (o + 12) / 16)) then { g with truncated := true }
    else
      { g with
        l4 := true, sport := be b o 2, dport := be b (o + 2) 2,
        tcpFlags := byteAt b (o + 12) % 2 * 256 + byteAt b (o + 13) }
  else if g.proto == 17 then
    if n < o + 8 then { g with truncated := true }
    else { g with l4 := true, sport := be b o 2, dport := be b (o + 2) 2 }
  else if g.proto == 1 || g.proto == 58 then
    if n < o + 8 then { g with truncated := true }
    else
      let t := byteAt b o
      let echo := if g.proto == 1 then t == 8 || t == 0 else t == 128 || t == 129
      let id := if echo then be b (o + 4) 2 else 0
      { g with
        l4 := true, icmpType := t, icmpCode := byteAt b (o + 1), icmpId := id,
        sport := be b o 2, dport := id }
  else g

/-- IPv4 (R120, R122). -/
def gristV4 (b : Bytes) (g : Grist) : Grist :=
  let n := b.length
  let o := g.etypeOff + 2
  if n < o + 20 then { g with truncated := true }
  else
    let ihl := byteAt b o % 16
    if ihl < 5 || decide (be b (o + 2) 2 < 4 * ihl) then { g with malformed := true, truncated := decide (n < o + 4 * ihl) }
    else if n < o + 4 * ihl then { g with truncated := true }
    else
      let fr := be b (o + 6) 2
      let later := fr % 8192 != 0
      let g1 : Grist := { g with
        l3 := 4, ipSa := 0xFFFF00000000 + be b (o + 12) 4, ipDa := 0xFFFF00000000 + be b (o + 16) 4,
        proto := byteAt b (o + 9), dscp := byteAt b (o + 1) / 4, ecn := byteAt b (o + 1) % 4, hop := byteAt b (o + 8),
        frag := if later then 2 else if bit fr 13 then 1 else 0,
        options := decide (5 < ihl), csumBad := headerSum b o (2 * ihl) != 65535 }
      if later then g1 else gristL4 b g1 (o + 4 * ihl)

/-- The extension headers Grist skips (R122). -/
def isExt (t : Nat) : Bool := t == 0 || t == 43 || t == 44 || t == 60

/-- The IPv6 extension chain from an offset, the type there being `t`; at most two headers are skipped (R122). -/
def gristExt (b : Bytes) : Nat → Grist → Nat → Nat → Grist
  | k, g, o, t =>
    if !isExt t then gristL4 b { g with proto := t } o
    else
      match k with
      | 0 => { g with extLimit := true, proto := t }
      | k + 1 =>
        let len := if t == 44 then 8 else 8 * (byteAt b (o + 1) + 1)
        if b.length < o + 2 || decide (b.length < o + len) then { g with truncated := true, proto := t }
        else
          let nh := byteAt b o
          let g1 : Grist := { g with extCount := g.extCount + 1 }
          if t == 44 then
            let fr := be b (o + 2) 2
            if fr / 8 != 0 then { g1 with frag := 2, proto := nh }
            else gristExt b k { g1 with frag := if bit fr 0 then 1 else g1.frag } (o + len) nh
          else gristExt b k g1 (o + len) nh

/-- IPv6. -/
def gristV6 (b : Bytes) (g : Grist) : Grist :=
  let o := g.etypeOff + 2
  if b.length < o + 40 then { g with truncated := true }
  else
    let w := be b o 4
    let g1 : Grist := { g with
      l3 := 6, ipSa := be b (o + 8) 16, ipDa := be b (o + 24) 16, flow := w % 2 ^ 20, dscp := bits w 22 6, ecn := bits w 20 2,
      hop := byteAt b (o + 7) }
    gristExt b 2 g1 (o + 40) (byteAt b (o + 6))

/-- The first ACF message, at an offset: a CAN message's header is 16 bytes long, a CAN-brief message's 8 (R120). -/
def gristAcf (b : Bytes) (g : Grist) (m : Nat) : Grist :=
  let ty := byteAt b m / 2
  let size := if ty == 1 then 16 else if ty == 2 then 8 else 2
  if b.length < m + size then { g with truncated := true }
  else if size == 2 then g
  else { g with acfType := ty, canBus := byteAt b (m + 3) % 32, canId := be b (m + size - 4) 4 % 2 ^ 29 }

/-- AVTP and its first ACF message: an NTSCF frame's header is 12 bytes long, a TSCF frame's 24. -/
def gristAvtp (b : Bytes) (g : Grist) : Grist :=
  let o := g.etypeOff + 2
  let size := if byteAt b o == 0x05 then 24 else 12
  if b.length < o + size then { g with truncated := true }
  else
    let st := byteAt b o
    let g1 : Grist := { g with avtpSubtype := st, avtpStream := be b (o + 4) 8 }
    if st == 0x82 || st == 0x05 then gristAcf b g1 (o + size) else g1

/-- gPTP fields, of the 34-byte message header. -/
def gristPtp (b : Bytes) (g : Grist) : Grist :=
  let o := g.etypeOff + 2
  if b.length < o + 34 then { g with truncated := true }
  else { g with ptpType := byteAt b o % 16, ptpSdo := byteAt b o / 16, ptpDomain := byteAt b (o + 4) }

/-- Lyswin local encapsulation, whose first 3 bytes Grist reads. -/
def gristLys (b : Bytes) (g : Grist) : Grist :=
  let o := g.etypeOff + 2
  if b.length < o + 3 then { g with truncated := true }
  else { g with lysSubtype := byteAt b o, lysVersion := byteAt b (o + 1), lysChannel := byteAt b (o + 2) }

/-- Grist's fields of a frame (its bytes from DA to before the FCS). -/
def grist (frame : Bytes) : Grist :=
  let b := frame.take 256
  let g := gristL2 b
  if g.truncated then g
  else if g.etype == 0x0800 then gristV4 b g
  else if g.etype == 0x86DD then gristV6 b g
  else if g.etype == 0x22F0 then gristAvtp b g
  else if g.etype == 0x88F7 then gristPtp b g
  else if g.etype == 0x88B5 then gristLys b g
  else g

/-! ## Fields of keys -/

/-- The bucket of a LAG (R113): HASH_FIELDS, SEED. -/
def lagBucket (fields seed : Nat) (g : Grist) : Nat :=
  let sym := bit fields 15
  let pair := fun (bx by_ n x y : Nat) =>
    let both := bit fields bx && bit fields by_
    let lo := if sym && both then min x y else x
    let hi := if sym && both then max x y else y
    ((if bit fields bx then beb n lo else []), (if bit fields by_ then beb n hi else []))
  let macs := pair 0 1 6 g.da g.sa
  let ips := pair 4 5 16 g.ipSa g.ipDa
  let ports := pair 7 8 2 (if g.proto == 6 || g.proto == 17 then g.sport else 0) (if g.proto == 6 || g.proto == 17 then g.dport else 0)
  let key := beb 4 seed ++ macs.1 ++ macs.2 ++ (if bit fields 2 then beb 2 g.outerVid else []) ++
    (if bit fields 3 then beb 2 g.etype else []) ++ ips.1 ++ ips.2 ++ (if bit fields 6 then beb 1 g.proto else []) ++
    ports.1 ++ ports.2
  let h := crc32 key
  (h ^^^ (h / 2 ^ 8) ^^^ (h / 2 ^ 16) ^^^ (h / 2 ^ 24)) % 256

end Sys2Proof.Machine
end

