-- ==== Sys2Proof/Machine/StreamFilter.lean ====
section
/-! DEFINITION. Stream identification (R153), stream filters (R159 to R161), flow meters (R162 to R164), recovery entries
(R165) and sequence generation, and the egress edits of tags and R-TAGs (R130, R155). -/

namespace Sys2Proof.Machine

open Sys2Proof

/-! ## Egress edits -/

/-- Where a frame's tags end: after at most two tags (R121). -/
def tagEnd (bs : Bytes) : Nat :=
  if !isTpid (be bs 12 2) then 12 else if !isTpid (be bs 16 2) then 16 else 20

/-- The tag edit of a copy (R130): none leaves the frame; otherwise its outer tag goes and, where a TCI is given, a tag with
it stands, under the TPID of the tag it replaces. -/
def editTag (t : Option (Option Nat)) (bs : Bytes) : Bytes :=
  match t with
  | none => bs
  | some o =>
    let tagged := isTpid (be bs 12 2)
    let rest := if tagged then bs.drop 16 else bs.drop 12
    match o with
    | none => bs.take 12 ++ rest
    | some tci => bs.take 12 ++ (if tagged then slice bs 12 2 else beb 2 0x8100) ++ beb 2 tci ++ rest

/-- The R-TAG edit of a copy (R155): an existing R-TAG keeps all but its sequence number. -/
def editRtag (r : Option (Option Nat)) (bs : Bytes) : Bytes :=
  match r with
  | none => bs
  | some o =>
    let e := tagEnd bs
    let has := be bs e 2 == 0xF1C1
    match o with
    | none => if has then bs.take e ++ bs.drop (e + 6) else bs
    | some q => if has then bs.take (e + 4) ++ beb 2 q ++ bs.drop (e + 6) else bs.take e ++ beb 2 0xF1C1 ++ zeros 2 ++ beb 2 q ++ bs.drop e

/-- A copy's bytes at its egress, padded to 60 where the edits shorten it (R75). -/
def egressBytes (k : Copy) (bs : Bytes) : Bytes :=
  let b := editRtag k.rtag (editTag k.tag bs)
  slice b 0 (max 60 b.length)

/-! ## Identification -/

/-- A frame matches an entry (R153). -/
def streamMatches (e : Stream) (g : Grist) (port : Nat) : Bool :=
  (e.inPort == 0xFF || e.inPort == port) && (bit e.wildcard 1 || bits e.vid 0 12 == g.outerVid) &&
  (match e.keyType with
   | 0 => e.mac == g.da
   | 1 => e.mac == g.sa
   | 2 =>
     let ports := bit e.wildcard 6 && bit e.wildcard 7
     g.l3Valid && (ports || g.l4) && (bit e.wildcard 0 || e.mac == g.da) && (bit e.wildcard 2 || e.ipSa == g.ipSa) &&
     (bit e.wildcard 3 || e.ipDa == g.ipDa) && (bit e.wildcard 4 || e.dscp == g.dscp) &&
     (bit e.wildcard 5 || e.proto == g.proto) && (bit e.wildcard 6 || e.sport == g.sport) &&
     (bit e.wildcard 7 || e.dport == g.dport)
   | _ => g.etype == 0x22F0 && e.ipSa / 2 ^ 64 == g.avtpStream)

/-- The matching entry with the lowest handle. -/
def Dev.identify (d : Dev) (g : Grist) (port : Nat) : Option (Nat × Stream) :=
  d.streams.table.find? (fun p => streamMatches p.2 g port)

/-! ## Flow meters -/

/-- Credit units per byte. -/
def creditUnit : Nat := 125000

/-- A meter with its buckets filled up to now (R162): 64 kbit/s is one unit of 1/125,000 byte each ns. -/
def meterFill (m : Meter) (now : Nat) : Meter :=
  let dt := now - m.last
  let c := m.c + m.cir * dt
  let cMax := m.cbs * creditUnit
  let spill := if bit m.flags 2 then c - cMax else 0
  { m with c := min c cMax, e := min (m.e + m.eir * dt + spill) (m.ebs * creditUnit), last := now }

/-- Colour and charge a frame: 0 green, 1 yellow, 2 red (R162, R164). -/
def meterColour (m : Meter) (len : Nat) (inYellow : Bool) : Nat × Meter :=
  let need := len * creditUnit
  let skip := bit m.flags 1 && inYellow
  if m.latched then (2, m)
  else if !skip && decide (need ≤ m.c) then (0, { m with c := m.c - need })
  else if need ≤ m.e then (1, { m with e := m.e - need })
  else (2, m)

/-- The meter step of a filter: the colour, with the counters and the red latch (R162 to R164). -/
def Dev.meterStep (d : Dev) (h len : Nat) (inYellow : Bool) (ix : Nat) : Nat × Dev :=
  match tabFind d.streams.meters ix with
  | none => (0, d)
  | some m0 =>
    let r := meterColour (meterFill m0 d.uptime) len inYellow
    let latch := r.1 == 2 && bit r.2.flags 4 && !r.2.latched
    let m := if latch then { r.2 with latched := true } else r.2
    let d1 := { d with streams := { d.streams with meters := tabPut d.streams.meters ix m } }
    let d2 := d1.count 5 (16384 + 3 * ix + r.1)
    (r.1, if latch then d2.post 0x0502 ix h else d2)

/-! ## Elimination (R165) -/

/-- What a recovery entry decides. -/
inductive Frer where
  | pass | discard | rogue
  deriving DecidableEq, Repr

/-- The decision on a frame's sequence number, with the entry after it. -/
def recoveryJudge (r : Recovery) (rtag : Option Nat) : Frer × Recovery :=
  match rtag with
  | none => if r.takeNoSeq then (.pass, r) else (.discard, r)
  | some s =>
    if r.takeAny then (.pass, { r with takeAny := false, seq := s, hist := 1 })
    else
      let dist := signed 16 (s + 65536 - r.seq)
      let h : Int := r.history
      if h ≤ dist ∨ dist ≤ -h then (.rogue, r)
      else if 0 < dist then
        (.pass, { r with hist := (r.hist * 2 ^ dist.toNat + 1) % 2 ^ r.history, seq := s })
      else
        let i := (-dist).toNat
        if bit r.hist i then (.discard, r) else (.pass, { r with hist := setBit r.hist i })

/-- The elimination step: counters, the reset timer and the latent period's counts (R165 to R167). -/
def Dev.frerStep (d : Dev) (ix : Nat) (rtag : Option Nat) : Frer × Dev :=
  match tabFind d.streams.recoveries ix with
  | none => (.pass, d)
  | some r0 =>
    let j := recoveryJudge r0 rtag
    let r :=
      match j.1 with
      | .pass => { j.2 with deadline := some (d.uptime + ms j.2.resetMs), passed := j.2.passed + 1 }
      | .discard => { j.2 with discarded := j.2.discarded + (if rtag.isSome then 1 else 0) }
      | .rogue => j.2
    let k := match j.1 with | .pass => 0 | .discard => 1 | .rogue => 2
    (j.1, ({ d with streams := { d.streams with recoveries := tabPut d.streams.recoveries ix r } }).count 5 (28672 + 3 * ix + k))

/-! ## Filters (R159 to R161) -/

/-- Change the filter state of the stream with a handle. -/
def Dev.putStream (d : Dev) (h : Nat) (e : Stream) : Dev :=
  { d with streams := { d.streams with table := tabPut d.streams.table h e } }

/-- The entry a frame matched, with the filter state it has now; `e` itself where a commit has replaced it meanwhile (R158). -/
def Dev.streamNow (d : Dev) (h : Nat) (e : Stream) : Stream :=
  match tabFind d.streams.table h with
  | some t => if { t with blocked := e.blocked, windows := e.windows } = e then t else e
  | none => e

/-- Keep the filter state of the entry a frame matched, if that entry is still the one in force. -/
def Dev.keepStream (d : Dev) (h : Nat) (e : Stream) (f : Stream → Stream) : Dev :=
  if tabFind d.streams.table h = some e then d.putStream h (f e) else d

/-- What a filter lets through: whether the frame is yellow, and the sequence number its generator gave it. -/
structure Passed where
  yellow : Bool
  seq : Option Nat
  deriving DecidableEq, Repr

/-- The window of local time a timestamp lies in (R159). -/
def filterWindow (e : Stream) (time : Nat) : Nat := if e.intervalNs == 0 then 0 else time / e.intervalNs

/-- Steps 4 to 6 of a filter: meter, elimination, sequence generation. -/
def Dev.filterTail (d : Dev) (h : Nat) (e : Stream) (g : Grist) (len : Nat) : Option Passed × Dev :=
  let c := if bit e.meter 15 then d.meterStep h len (g.vlanCount != 0 && g.outerDei) (bits e.meter 0 12) else (0, d)
  let drops := match tabFind d.streams.meters (bits e.meter 0 12) with
    | some m => bit m.flags 3
    | none => false
  if c.1 == 2 || (c.1 == 1 && drops) then (none, c.2)
  else
    let f := if bit e.recovery 15 then c.2.frerStep (bits e.recovery 0 10) g.rtag else (Frer.pass, c.2)
    match f.1 with
    | .pass =>
      if bit e.seqgen 15 then
        let q := tabGet 0 f.2.streams.seqgens (bits e.seqgen 0 10)
        (some { yellow := c.1 == 1, seq := some q },
          { f.2 with streams := { f.2.streams with seqgens := tabPut f.2.streams.seqgens (bits e.seqgen 0 10) ((q + 1) % 65536) } })
      else (some { yellow := c.1 == 1, seq := none }, f.2)
    | _ => (none, f.2)

/-- A stream's filter on a frame at its valid end, in the order of the chapter: blocked, oversize, interval, meter,
elimination, sequence generation. -/
def Dev.filter (d : Dev) (h : Nat) (e : Stream) (g : Grist) (len time : Nat) : Option Passed × Dev :=
  if e.blocked then (none, d.count 5 (4 * h + 3))
  else if e.maxLen < len then
    let d1 := d.count 5 (4 * h + 1)
    (none, if e.blockOversize then (d1.keepStream h e (fun e => { e with blocked := true })).post 0x0501 h len else d1)
  else if e.intervalNs == 0 then d.filterTail h e g len
  else
    let w := filterWindow e time
    let n := tabGet 0 e.windows w
    if e.maxPer ≤ n then (none, d.count 5 (4 * h + 2))
    else
      (d.keepStream h e (fun e => { e with windows := tabPut e.windows w (n + 1) })).filterTail h e g len

/-- A yellow frame's egress tag (R163): a copy that carries an outer tag leaves with DEI set. -/
def yellowTag (yellow : Bool) (g : Grist) (t : Option (Option Nat)) : Option (Option Nat) :=
  if !yellow then t
  else
    match t with
    | none => if g.vlanCount == 0 then none else some (some (setBit g.outer 12))
    | some none => some none
    | some (some tci) => some (some (setBit tci 12))

/-- The copies of a scheduled frame (R154, R155): every port of EGRESS_MASK, tags as received, the R-TAG by RTAG_OUT. -/
def scheduledCopies (e : Stream) (g : Grist) (slice : Nat) (p : Passed) : List Copy :=
  let rtag := match e.rtagOut with
    | 1 => some (some (p.seq.getD 0))
    | 2 => some none
    | _ => none
  ((List.range 96).filter (fun n => bit e.egressMask n)).map (fun n =>
    { copyTo n n e.tc slice (yellowTag p.yellow g none) with rtag := rtag })

end Sys2Proof.Machine
end

