-- ==== Sys2Proof/Machine/Gates.lean ====
section
/-! DEFINITION. Gate lists (chapter 06): the spans of a cycle, the gates in force, when they next change, and the switch times
of admin lists (R171, R174 to R178). -/

namespace Sys2Proof.Machine

open Sys2Proof

/-! ## Gate lists (R171, R178) -/

/-- A port's gate unit. -/
def Dev.gates (d : Dev) (p : Nat) : Gates := tabGet gates0 d.streams.gates p

/-- Replace a port's gate unit. -/
def Dev.putGates (d : Dev) (p : Nat) (g : Gates) : Dev :=
  { d with streams := { d.streams with gates := tabPut d.streams.gates p g } }

/-- The spans of a cycle from a tick: start, end, gates, OP and entry number. The list is cut at the cycle's end, and its last
entry holds to it (R171). -/
def spansFrom (cycle : Nat) : List (Nat × Nat × Nat) → Nat → Nat → List (Nat × Nat × Nat × Nat × Nat)
  | [], _, _ => []
  | [e], i, at_ => if cycle ≤ at_ then [] else [(at_, cycle, e.1, e.2.1, i)]
  | e :: t, i, at_ =>
    if cycle ≤ at_ then []
    else (at_, min cycle (at_ + e.2.2), e.1, e.2.1, i) :: spansFrom cycle t (i + 1) (at_ + e.2.2)

/-- The spans of a gate list's cycle. -/
def GateList.spans (l : GateList) : List (Nat × Nat × Nat × Nat × Nat) := spansFrom l.cycle l.entries 0 0

/-- The cycle in ns. -/
def GateList.ns (l : GateList) : Nat := l.cycle * 4

/-- Position in the cycle, in ns, of a list that became oper at S. -/
def GateList.pos (l : GateList) (s now : Nat) : Nat := (((now : Int) - s) % (l.ns : Int)).toNat

/-- The span in force. -/
def GateList.spanAt (l : GateList) (s now : Nat) : Option (Nat × Nat × Nat × Nat × Nat) :=
  l.spans.find? (fun x => decide (l.pos s now < x.2.1 * 4))

/-- The gate vector in force: all open while the list is disabled. A start is judged by it; what has started goes on (R179, R180). -/
def Gates.vectorAt (g : Gates) (now : Nat) : Nat :=
  match g.oper with
  | none => 0xFF
  | some (l, s) => match l.spanAt s now with
    | some x => x.2.2.1
    | none => 0xFF

/-- The gates a port is driven to: all open while its list is disabled or the port is not enabled (R171, R186). -/
def Dev.gateVector (d : Dev) (p : Nat) : Nat := if (d.port p).admin then (d.gates p).vectorAt d.now else 0xFF

/-- The spans that follow a position, over three cycles: start and end in ns from the present cycle's start, and gates. -/
def GateList.ahead (l : GateList) (pos : Nat) : List (Nat × Nat × Nat) :=
  ([0, 1, 2].flatMap (fun k => l.spans.map (fun x => (x.1 * 4 + k * l.ns, x.2.1 * 4 + k * l.ns, x.2.2.1)))).filter
    (fun x => decide (pos < x.2.1))

/-- ns until the gate of a class next closes: 0 where it is closed, none where the list never closes it. -/
def Gates.closeIn (g : Gates) (c now : Nat) : Option Nat :=
  match g.oper with
  | none => none
  | some (l, s) =>
    let pos := l.pos s now
    ((l.ahead pos).find? (fun x => !bit x.2.2 c)).map (fun x => x.1 - pos)

/-- ns until the gate of a class next opens; none where it never closes or never opens. -/
def Gates.openIn (g : Gates) (c now : Nat) : Option Nat :=
  match g.oper with
  | none => none
  | some (l, s) =>
    let pos := l.pos s now
    let rest := (l.ahead pos).dropWhile (fun x => bit x.2.2 c)
    (rest.find? (fun x => bit x.2.2 c)).map (fun x => x.1 - pos)

/-- The gate edge error of a port in ps (R14). -/
def gateErrPs (p : Nat) : Nat := if p < 10 then 6206 else if p < 34 then 8000 else 40000

/-- The first of start + k x step, k ≥ 0, at or after a time. -/
def firstAt (start step least : Nat) : Nat :=
  if least ≤ start then start else start + ceilDiv (least - start) step * step

/-- Arm an admin list, or a disabling, at local time (R174 to R176). -/
def Gates.arm (g : Gates) (l : Option GateList) (now : Nat) : Gates :=
  let soon := g.pending.filter (fun x => decide (x.2 < now + 1000))
  let force := match soon.getLast? with
    | some (x, s) => x.map (fun y => (y, s))
    | none => g.oper
  let least := match soon.getLast? with
    | some (_, s) => max (now + 1000) s
    | none => now + 1000
  match l, force with
  | none, none => { g with pending := soon }
  | none, some (o, s) => { g with pending := soon ++ [(none, firstAt s o.ns least)] }
  | some x, some (o, s) => { g with pending := soon ++ [(some x, firstAt s o.ns (max least x.base))] }
  | some x, none => { g with pending := soon ++ [(some x, firstAt x.base x.ns least)] }

/-- A clock step moves the switch times it passes (R177). -/
def Gates.stepped (g : Gates) (old new : Nat) : Gates :=
  { g with pending := g.pending.map (fun x =>
      if old < x.2 ∧ x.2 ≤ new then
        match g.oper, x.1 with
        | some (o, s), l => (l, firstAt s o.ns new)
        | none, some l => (some l, firstAt l.base l.ns (new + 1000))
        | none, none => x
      else x) }

end Sys2Proof.Machine
end

