-- ==== Sys2Proof/Machine/Mac.lean ====
section
/-! DEFINITION. The line side of an Ethernet port: rates and wire times (R169), frame timestamps and the egress timestamp
queue (R276, R278), and the receive filter (R77, R78). -/

namespace Sys2Proof.Machine

open Sys2Proof

/-! ## Rates -/

/-- The rate of a SPEED encoding, in Mbit/s. -/
def speedMbps (code : Nat) : Nat :=
  match code with
  | 1 => 10 | 2 => 100 | 3 => 1000 | 4 => 2500 | 5 => 5000 | 6 => 10000 | _ => 0

/-- A port's line rate in Mbit/s; 0 for a port that is down. -/
def Dev.portMbps (d : Dev) (p : Nat) : Nat := if (d.port p).up then speedMbps (d.port p).speed else 0

/-- Wire time of n bit times, in ps. -/
def bitsPs (bitTimes mbps : Nat) : Nat := ceilDiv (bitTimes * 1000000) mbps

/-- wire_time of R169 in ps: L bytes with preamble, SFD and gap. -/
def wirePs (len mbps : Nat) : Nat := bitsPs ((len + 20) * 8) mbps

/-! ## Timestamps -/

/-- The rate slot of a port (TIME_PORT_CFG). -/
def Dev.rateSlot (d : Dev) (p : Nat) : Nat :=
  let s := (d.port p).speed
  if p < 10 then (if s == 5 then 1 else if s == 4 then 2 else if s == 3 then 3 else 0)
  else if p < 34 then (if s == 2 then 1 else if s == 1 then 2 else 0)
  else 0

/-- A Q16.16 ns value rounded half away from zero. -/
def roundQ16 (v : Int) : Int := roundDiv v 65536

/-- RX_LAT in force at a timestamp point: a point before a flip keeps the latencies before it (R277). -/
def TimePort.rxAt (t : TimePort) (began : Nat) : List Int :=
  match t.rxPast.find? (fun x => decide (began < x.1)) with
  | some x => x.2
  | none => t.rxLat

/-- An ingress timestamp (R276): the sampled time and the point's position in its cycle, less RX_LAT of the rate. -/
def Dev.ingressTime (d : Dev) (p : Nat) (r : RxStamp) : Nat :=
  let t := tabGet timePort0 d.time.ports p
  (roundQ16 ((r.sampled : Int) * 65536 + r.point - (t.rxAt r.began).getD (d.rateSlot p) 0)).toNat

/-- The ingress timestamp of a received frame. -/
def Dev.ingressOf (d : Dev) (f : RxFrame) : Nat := d.ingressTime f.port { began := f.firstByte, sampled := f.sampled, point := f.point }

/-- An egress timestamp point is registered now, at a position within the sampled cycle. -/
def Dev.atPoint (d : Dev) (point : Nat) : Dev := { d with time := { d.time with txPoint := point } }

/-- The egress timestamp of a frame whose timestamp point is registered now (R276). -/
def Dev.egressTime (d : Dev) (p : Nat) : Nat :=
  let t := tabGet timePort0 d.time.ports p
  (roundQ16 ((d.now : Int) * 65536 + d.time.txPoint + t.txLat.getD (d.rateSlot p) 0)).toNat

/-- The transmit filter of an XG lane: its amplitude in mV, and the pre-cursor and post-cursor codes in 64ths of the swing; TX_EQ 0 selects
the lane's defaults, by its mode, 0 being 10GBASE-R (R438). -/
def Port.txFilter (q : Port) : Nat × Nat × Nat :=
  if q.txEq == 0 then (810, if q.mode == 0 || (q.mode == 4 && speedMbps q.speed == 10000) then (2, 8) else (0, 4))
  else (300 + 15 * (q.txEq / 2 ^ 16 % 64), q.txEq % 16, q.txEq / 2 ^ 8 % 32)

/-- Timestamp uncertainty in ns by port type and rate (R276). -/
def Dev.tsUncertainty (d : Dev) (p : Nat) : Nat :=
  let r := d.rateSlot p
  if p < 10 then (if r == 0 then 2 else 4)
  else if p < 34 then (if r == 0 then 4 else if r == 1 then 20 else 100)
  else if p < 50 then 40
  else 4

/-- Entries of a port's egress timestamp FIFO. -/
def tsDepth (p : Nat) : Nat := if p < 10 then 32 else 16

/-- A gPTP event message: messageType 0 to 3. -/
def isGptpEvent (bs : Bytes) : Bool := be bs 12 2 == 0x88F7 && decide (byteAt bs 14 % 16 < 4)

/-- Write a timestamp record, or add the frame to the port's loss run (R278). -/
def Dev.tsRecord (d : Dev) (p : Nat) (r : TsReq) (event : Bool) (stamp : Nat) : Dev :=
  let f := tabGet tsFifo0 d.time.fifos p
  let room := if event then tsDepth p else tsDepth p - 4
  if f.entries.length < room then
    let e := if r.firmware then TsEntry.firmware r.tag stamp r.follow else TsEntry.host r.tag stamp
    ({ d with time := { d.time with fifos := tabPut d.time.fifos p { f with entries := f.entries ++ [(d.uptime, e)] } } }).count 9 (p * 8)
  else
    let run := match f.run with
      | none => (r.tag, r.tag, 1)
      | some x => (x.1, r.tag, x.2.2 + 1)
    ({ d with time := { d.time with fifos := tabPut d.time.fifos p { f with run := some run } } }).count 9 (p * 8 + 1)

/-! ## Receive filter -/

/-- The destination address as bytes in transmission order, as a number. -/
def frameDa (bs : Bytes) : Nat := be bs 0 6

/-- The hash bin of a destination address (R78). -/
def hashBin (da : Nat) : Nat := crc32 (beb 6 da) % 512

/-- The receive filter passes the frame (R77). -/
def filterPasses (q : Port) (bs : Bytes) : Bool :=
  let da := frameDa bs
  if da / 16 == 0x0180C200000 then true
  else
    match q.entries.find? (fun (e : Nat × Nat × Nat) => e.2.1 != 0 && e.2.2 == da) with
    | some e => e.2.1 == 1
    | none =>
      if !bit q.filterMode 0 then true
      else if !bit da 40 then true
      else if da == 0xFFFFFFFFFFFF then bit q.filterMode 1
      else bit q.hashBins (hashBin da)

/-- A MAC control frame (R69). -/
def isMacControl (bs : Bytes) : Bool := be bs 12 2 == 0x8808

/-! ## Sent frames -/

/-- The counter of a destination address type after a base: individual, group, broadcast. -/
def castOffset (bs : Bytes) : Nat :=
  let da := frameDa bs
  if da == 0xFFFFFFFFFFFF then 2 else if bit da 40 then 1 else 0

/-- A frame has been sent whole and well. -/
def Dev.countSent (d : Dev) (p : Nat) (bytes : Bytes) : Dev :=
  let d1 := (d.count 2 (p * 64 + 14)).countN 2 (p * 64 + 15) (frameLen bytes)
  if 50 ≤ p then d1 else d1.count 2 (p * 64 + 16 + castOffset bytes)

/-- Wire time of a frame at a port, toward its utilisation (R86). -/
def Dev.addTxWire (d : Dev) (p n : Nat) : Dev := d.modPort p (fun q => { q with txWire := q.txWire + n + 20 })

end Sys2Proof.Machine
end

