-- ==== Sys2Proof/Machine/Pdu.lean ====
section
/-! DEFINITION. What other units use of SGE's PDUs (chapter 09): their configuration, the frame of an ETH destination PDU, the
time grids a clock step moves, and a sleep indication's completion (R345). -/

namespace Sys2Proof.Machine

open Sys2Proof

/-- A PDU index field names no PDU. -/
abbrev noPdu : Nat := 0xFFFF

/-! ## GW_DST_PDU_SET -/

/-- KIND of a destination PDU. -/
def DstPdu.kind (q : DstPdu) : Nat := byteAt q.cfg 3
/-- CHANNEL. -/
def DstPdu.channel (q : DstPdu) : Nat := byteAt q.cfg 5
/-- LENGTH. -/
def DstPdu.len (q : DstPdu) : Nat := le q.cfg 6 2
/-- KEY. -/
def DstPdu.key (q : DstPdu) : Nat := le q.cfg 8 4
/-- CYCLE_US and PHASE_US in ns, where MODE is CYCLIC. -/
def DstPdu.cycle (q : DstPdu) : Option (Nat × Nat) :=
  if bit (byteAt q.cfg 4) 0 && le q.cfg 0x0C 4 != 0 then some (le q.cfg 0x0C 4 * 1000, le q.cfg 0x10 4 * 1000) else none
/-- TEMPLATE. -/
def DstPdu.template (q : DstPdu) : Bytes := slice q.cfg 0x30 (min 64 (le q.cfg 0x1A 2))
/-- INIT as content: its first 64 bytes, zeros after (LENGTH bytes). -/
def DstPdu.init (q : DstPdu) : Bytes := slice (slice q.cfg 0x70 64) 0 q.len

/-- The frame of an ETH destination PDU: its template, zeros to OFFSET, its content from there (log 50). -/
def DstPdu.frame (q : DstPdu) : Bytes :=
  let off := le q.cfg 0x18 2
  let base := slice q.template 0 (max q.template.length (off + q.content.length))
  patch base off q.content

/-- The first instant phase + k x cycle at or after a local time. -/
def gridFrom (phase cycle t : Nat) : Nat := firstAt phase cycle t

/-- PERIOD_MS and PHASE_MS of a periodic poll entry, in ns. -/
def PollEntry.period (e : PollEntry) : Option (Nat × Nat) :=
  if bit (byteAt e.cfg 0x0B) 0 && le e.cfg 0x0C 4 != 0 then some (ms (le e.cfg 0x0C 4), ms (le e.cfg 0x10 4)) else none

/-- A clock step: cyclic sends and periodic polls go on at their next instant of local time (R250, R257); instants the step
passes are not made up for (log 51). -/
def Gateway.stepped (g : Gateway) (new : Nat) : Gateway :=
  { g with
    dsts := tabMap g.dsts (fun _ q => match q.cycle with
      | some (c, p) => { q with nextCycle := gridFrom p c new }
      | none => q)
    polls := tabMap g.polls (fun _ e => match e.period with
      | some (c, p) => { e with nextDue := gridFrom p c new }
      | none => e) }

/-! ## Sleep indications (R344, R345) -/

/-- An indication of a domain has been sent whole. -/
def Dev.indicationDone (d : Dev) (n : Nat) : Dev :=
  { d with lantern := { d.lantern with domains := tabUpd d.lantern.domains n (fun m =>
      if decide (m.state = .prepare) && decide (m.indDone < m.indSent) then { m with indDone := m.indDone + 1 } else m) } }

/-- A CAN frame of a destination PDU has ended: an indication of every domain whose IND_PDU it is. -/
def Dev.pduSent (d : Dev) (pdu : Nat) : Dev :=
  d.lantern.domains.foldl (fun e x => if x.2.indPdu == pdu then e.indicationDone x.1 else e) d

/-- A frame of SGE has ended at a port: an indication where it is the frame of the port's domain's IND_PDU. -/
def Dev.frameSent (d : Dev) (p inPort : Nat) (bytes : Bytes) : Dev :=
  match d.lantern.domains.find? (fun e => bit e.2.portMask p) with
  | none => d
  | some (n, m) =>
    match tabFind d.gateway.dsts m.indPdu with
    | some q => if inPort == 94 && q.kind == 1 && slice q.frame 0 (max 60 q.frame.length) == bytes then d.indicationDone n else d
    | none => d

end Sys2Proof.Machine
end

