-- ==== Sys2Proof/Machine/Time.lean ====
section
/-! DEFINITION. The time unit (chapter 10): the local clock and its steps, the two domain slots with their servo and quality,
gPTP, the egress timestamp queue, the segment time beacon, TIME_IO, and the time commands. -/

namespace Sys2Proof.Machine

open Sys2Proof

/-! ## The local clock (R263, R272, R273) -/

/-- One TIME tick of the clock (R263). -/
def Clock.tick (c : Clock) : Clock :=
  let f := c.frac + c.increment % 2 ^ 32
  let n := c.ns + c.increment / 2 ^ 32 + f / 2 ^ 32
  { c with sec := (c.sec + n / 1000000000) % 2 ^ 48, ns := n % 1000000000, frac := f % 2 ^ 32 }

/-- The clock set to a time in ns. -/
def Clock.setTo (c : Clock) (t : Nat) : Clock := { c with sec := t / 1000000000 % 2 ^ 48, ns := t % 1000000000 }

/-- A slot. -/
def Dev.slot (d : Dev) (i : Nat) : Slot := tabGet slot0 d.time.slots i

/-- Replace a slot. -/
def Dev.putSlot (d : Dev) (i : Nat) (s : Slot) : Dev := { d with time := { d.time with slots := tabPut d.time.slots i s } }

/-- The working slot. -/
def Dev.work (d : Dev) : Slot := d.slot d.time.workSlot

/-- SlotState's encoding. -/
def slotCode : SlotState → Nat
  | .disabled => 0 | .listening => 1 | .acquire => 2 | .locked => 3 | .holdover => 4 | .grandmaster => 5

/-- Move a slot to a state, with TIME_SERVO_STATE (R266). -/
def Dev.slotState (d : Dev) (i : Nat) (st : SlotState) : Dev :=
  let s := d.slot i
  if s.state = st then d
  else (d.putSlot i { s with state := st, goodRun := 0, badRun := 0 }).post 0x0901 i (slotCode st + slotCode s.state * 2 ^ 8)

/-! ## Quality (R268, R269) -/

/-- |θ| of the last sample plus twice the slave port's uncertainty. -/
def Slot.sampleErr (s : Slot) : Nat := s.theta.natAbs + 2 * s.uncertainty

/-- The error bound in holdover (R268); t in ns is t / 1,000 µs, and the product is rounded once (R3). -/
def Dev.holdoverErr (d : Dev) (s : Slot) : Nat := s.holdoverErr + (roundDiv (d.time.holdoverPpb * (d.uptime - s.holdoverStart) : Nat) 1000000).toNat

/-- ERR_NS (R269). -/
def Dev.errNs (d : Dev) : Nat :=
  let s := d.work
  if d.time.clockSet then 0xFFFFFFFF
  else match s.state with
    | .locked => min s.sampleErr 0xFFFFFFFF
    | .holdover => min (d.holdoverErr s) 0xFFFFFFFF
    | _ => 0xFFFFFFFF

/-- QUALITY (R269). -/
def Dev.qualityNow (d : Dev) : Nat :=
  let s := d.work
  if d.time.clockSet then 4
  else match s.state with
    | .locked => if d.time.slewing then 5 else 0
    | .grandmaster => 1
    | .holdover => if d.holdoverErr s ≤ d.time.budgetNs then 2 else 3
    | _ => 4

/-- Each change of quality posts TIME_QUALITY. -/
def Dev.settleQuality (d : Dev) : Dev :=
  let q := d.qualityNow
  if q == d.time.quality then d
  else ({ d with time := { d.time with quality := q } }).post 0x0902 0 (q + d.errNs * 2 ^ 32)

/-! ## Slot time (R270) -/

/-- A slot's time as ns: its offset at the last sample, extrapolated at its rate relative to the local clock. -/
def Dev.slotTime (d : Dev) (s : Slot) : Int :=
  if s.state = .grandmaster then d.now
  else
    let since : Int := (d.now : Int) - s.sampleLocal
    (s.sampleLocal : Int) - s.theta + roundDiv (since * (2 ^ 41 + s.rate)) (128 * s.relIncr)

/-- OFFSET_NS: slot time minus local time. -/
def Dev.slotOffset (d : Dev) (s : Slot) : Int := d.slotTime s - d.now

/-- A 32-bit signed field that holds at its limits. -/
def hold32 (v : Int) : Nat := unsigned 32 (max (-2147483648) (min 2147483647 v))

/-- RATE_PPB: the grandmaster's rate relative to the local clock. -/
def slotPpb (s : Slot) : Int :=
  if s.state = .grandmaster then 0
  else roundDiv ((2 ^ 41 + s.rate - 128 * (s.relIncr : Int)) * 1000000000) (128 * s.relIncr)

/-- The slot's time is valid: states 2 to 5. -/
def slotValid (s : Slot) : Bool := decide (2 ≤ slotCode s.state)

/-! ## TIME_IO outputs and steps (R282 to R284) -/

/-- The local time at which an edge programmed at t is driven. -/
def TimePin.driveAt (q : TimePin) (t : Nat) : Nat := (roundQ16 ((t : Int) * 65536 - q.comp)).toNat

/-- Edge k of a PERIODIC pin. -/
def TimePin.edge (q : TimePin) (k : Nat) : Nat := q.driveAt (q.start + k * q.period)

/-- Edges COUNT still allows; none is no limit. -/
def TimePin.left (q : TimePin) : Option Nat := if q.count == 0 then none else some (q.count - q.used)

/-- A pin. -/
def Dev.pin (d : Dev) (n : Nat) : TimePin := tabGet timePin0 d.time.pins n

/-- Replace a pin. -/
def Dev.putPin (d : Dev) (n : Nat) (q : TimePin) : Dev := { d with time := { d.time with pins := tabPut d.time.pins n q } }

/-- Edges not driven: counted and reported in one event. -/
def Dev.missed (d : Dev) (n k : Nat) : Dev := if k == 0 then d else (d.countN 9 (1040 + n * 4 + 3) k).post 0x0909 n k

/-- What a step from `old` to `new` does to one pin (R283, R284). -/
def Dev.stepPin (old new : Nat) (d : Dev) (n : Nat) : Dev :=
  let q := d.pin n
  let q1 := { q with activeUntil := q.activeUntil.map (fun u => ((u : Int) + new - old).toNat) }
  if q.mode == 1 then
    match q.pending with
    | some t =>
      if old < q.driveAt t ∧ q.driveAt t ≤ new then (d.putPin n { q1 with pending := none }).missed n 1 else d.putPin n q1
    | none => d.putPin n q1
  else if q.mode == 2 then
    let next := q.edge q.k
    if old < new ∧ next ≤ new ∧ q.left != some 0 ∧ 0 < q.period then
      let n1 := (new - next) / q.period + 1
      let passed := match q.left with | some l => min l n1 | none => n1
      (d.putPin n { q1 with k := q.k + passed, used := q.used + passed }).missed n passed
    else d.putPin n q1
  else d.putPin n q1

/-- Step the local clock to a time in one tick (R272, R273). After a backward step the multiples of a beacon's period and of the
timestamp queue's 250 ns fall due by the stepped clock. -/
def Dev.stepTo (d : Dev) (new : Nat) : Dev :=
  let old := d.now
  let d1 := { d with
    time := { d.time with
      clock := d.time.clock.setTo new, lastDrain := min d.time.lastDrain new
      beacons := tabMap d.time.beacons (fun _ b => { b with
        stepped := true, next := if new < old then ceilDiv new (ms b.periodMs) * ms b.periodMs else b.next }) }
    streams := { d.streams with gates := tabMap d.streams.gates (fun _ g => g.stepped old new) }
    gateway := d.gateway.stepped new }
  let d2 := (d1.count 9 1104).post 0x0904 0 (unsigned 64 ((new : Int) - old))
  (d2.time.pins.map (fun x => x.1)).foldl (Dev.stepPin old new) d2

/-! ## Switching the working slot (R271) -/

/-- INCREMENT of a rate ρ - 1 in 2^-41 and a correction in 2^-16 ppb (R264). -/
def servoIncrement (r c : Int) : Nat :=
  (roundDiv (2 ^ 34 * (2 ^ 7 * 1000000000) + (r * 1000000000 - c * 2 ^ 25)) (2 ^ 7 * 1000000000)).toNat

/-- Make a slot the working one: never a step; Σθ is cleared and the clock slews until the lock criterion is met. Of a slot in HOLDOVER
the clock takes the last y with c at 0 (R268). -/
def Dev.switchSlot (d : Dev) (i cause : Nat) : Dev :=
  let s := d.slot i
  let off := d.slotOffset s
  let d1 := d.putSlot i { s with sumTheta := 0, goodRun := 0, badRun := 0 }
  let inc := if s.state = .holdover then servoIncrement s.rate 0 else d.time.clock.increment
  let d2 := { d1 with time := { d1.time with
      workSlot := i, slewing := true, clockSet := false, clock := { d1.time.clock with increment := inc }
      beacons := tabMap d1.time.beacons (fun _ b => { b with switched := true }) } }
  ((d2.count 9 1105).post 0x0903 i (hold32 off + cause * 2 ^ 32)).settleQuality

/-- The other slot. -/
def otherSlot (i : Nat) : Nat := 1 - i

/-- Since `old` the working slot has entered HOLDOVER or LISTENING, or the other has reached LOCKED while it is in HOLDOVER (R271). -/
def Dev.switchMoment (d old : Dev) : Bool :=
  let w := d.time.workSlot
  let entered := (decide (d.work.state = .holdover) || decide (d.work.state = .listening)) && decide ((old.slot w).state ≠ d.work.state)
  let reached := decide (d.work.state = .holdover) && decide ((old.slot (otherSlot w)).state ≠ .locked)
  entered || reached

/-- With AUTO_SWITCH the working slot gives way to the other at that moment, while the other is LOCKED and near enough (R271). -/
def Dev.autoSwitch (d old : Dev) : Dev :=
  let o := d.slot (otherSlot d.time.workSlot)
  if d.time.autoSwitch && d.switchMoment old && decide (o.state = .locked) && decide ((d.slotOffset o).natAbs ≤ d.time.switchMax) then
    d.switchSlot (otherSlot d.time.workSlot) 2
  else d

/-! ## The servo (R264 to R267) -/

/-- The sync receipt timeout, in ns: SYNC_TIMEOUT x 2^LOG_SYNC s. -/
def receiptNs (timeout : Nat) (log : Int) : Nat := timeout * 1000000000 * 2 ^ (log + 8).toNat / 256

/-- ρ lies within 1 ± 200 x 10^-6 (R265). -/
def rateOk (r : Int) : Bool := decide (r.natAbs * 1000000 ≤ 200 * 2 ^ 41)

/-- c of R265 before its clamp, in 2^-16 ppb. -/
def servoRaw (d : Dev) (theta sum : Int) : Int := (d.time.kp : Int) * theta + (d.time.ki : Int) * sum

/-- c within ±SLEW_PPM, in 2^-16 ppb. -/
def servoClamp (d : Dev) (c : Int) : Int :=
  let m : Int := (d.time.slewPpm : Int) * 1000 * 65536
  max (-m) (min m c)

/-- The offset the lock criterion judges: θ itself for the working slot, and for the other its distance from the slot time
extrapolated (log 23). -/
def lockError (d : Dev) (i : Nat) (s : Slot) (theta : Int) : Nat :=
  if i == d.time.workSlot || !s.sampled then theta.natAbs else ((d.now : Int) - theta - d.slotTime s).natAbs

/-- The lock criterion after one more sample: the runs, and the state they lead to (R266). A LOCKED working slot that still
slews after a switch stays LOCKED (log 23). -/
def lockStep (d : Dev) (i : Nat) (s : Slot) (err : Nat) : Nat × Nat × SlotState :=
  let good := if err ≤ d.time.lockNs then s.goodRun + 1 else 0
  let bad := if 4 * d.time.lockNs < err then s.badRun + 1 else 0
  match s.state with
  | .acquire => if d.time.lockCount ≤ good then (good, 0, .locked) else (good, bad, .acquire)
  | .locked => if 3 ≤ bad && !(d.time.slewing && i == d.time.workSlot) then (0, 0, .acquire) else (good, bad, .locked)
  | st => (good, bad, st)

/-- The grandmaster a slot follows changes: TIME_GM_CHANGE, and a LOCKED slot returns to ACQUIRE (R266). -/
def Dev.setGm (d : Dev) (i gm : Nat) : Dev :=
  let s := d.slot i
  if s.gmId == gm then d
  else
    let d1 := d.putSlot i { s with gmId := gm, goodRun := 0 }
    if s.gmId == 0 then d1
    else
      let d2 := (d1.count 9 (1024 + i * 8 + 3)).post 0x0905 i gm
      if (d2.slot i).state = .locked then d2.slotState i .acquire else d2

/-- A sample steps the clock: the working slot in ACQUIRE, STEP_ALLOW, |θ| > STEP_NS (R272). -/
def Dev.sampleSteps (d : Dev) (i : Nat) (theta : Int) : Bool :=
  i == d.time.workSlot && decide ((d.slot i).state = .acquire) && d.time.stepAllow && decide (d.time.stepNs < theta.natAbs)

/-- A port is asCapable; P90's link delay is 0. -/
def Dev.asCapable (d : Dev) (p : Nat) : Bool := p == 90 || (tabGet timePort0 d.time.ports p).asCapable

/-- A port's link delay toward its neighbour in 2^-16 ns: the mean link delay and delayAsymmetry, 0 on P90 (R274, R276). -/
def Dev.linkDelay (d : Dev) (p : Nat) : Int :=
  if p == 90 then 0 else (tabGet timePort0 d.time.ports p).meanDelay + (tabGet timePort0 d.time.ports p).asym

/-- The ingress timestamp of a gPTP event message; on P90 it is the one its descriptor carries, without RX_LAT (R274). -/
def Dev.gptpStamp (d : Dev) (p : Nat) (r : RxStamp) : Nat := if p == 90 then r.sampled else d.ingressTime p r

/-- θ of a sample (R265): local time less domain time at the Sync's ingress, in whole ns, rounded once (R3). -/
def Dev.theta (d : Dev) (y : SyncSample) : Int :=
  roundQ16 (((d.gptpStamp y.port y.stamp : Int) - y.origin) * 65536 - y.corr - d.linkDelay y.port)

/-- A slot takes the samples of its slave port, while its PORT_MASK selects that port and the port is asCapable (R265, R274). -/
def Dev.samplesFrom (d : Dev) (i p : Nat) : Bool := (d.slot i).slave == p && bit (d.slot i).portMask p && d.asCapable p

/-- A valid sample's slot data and, for the working slot, its INCREMENT. -/
def Dev.applySample (d : Dev) (i : Nat) (y : SyncSample) (theta : Int) (sum c : Int) (runs : Nat × Nat × SlotState) : Dev :=
  let s := d.slot i
  let inc := if i == d.time.workSlot then servoIncrement y.rate c else d.time.clock.increment
  let s' := { s with
    theta := theta, sampled := true, sumTheta := sum, rate := y.rate, corr := c, goodRun := runs.1, badRun := runs.2.1,
    syncDeadline := some (d.uptime + receiptNs s.syncTimeout s.logSync),
    sampleLocal := d.now
    uncertainty := d.tsUncertainty y.port, relIncr := inc, stepsRemoved := y.stepsRemoved, utcOffset := y.utcOffset
    origin := y.origin, corrField := y.corr, delay := d.linkDelay y.port, ingress := d.gptpStamp y.port y.stamp }
  let d1 := d.putSlot i s'
  let d2 := if i == d.time.workSlot then
      { d1 with time := { d1.time with
          clock := { d1.time.clock with increment := inc }, clockSet := false
          slewing := d1.time.slewing && decide (runs.1 < d1.time.lockCount) } }
    else d1
  if runs.2.2 = s.state then d2
  else
    let keep := (d2.slot i).goodRun
    (d2.slotState i runs.2.2).putSlot i { (d2.slotState i runs.2.2).slot i with goodRun := if runs.2.2 = .locked then keep else 0 }

/-- A valid sample is taken: the step of R272 or the servo of R265, and the lock criterion. -/
def Dev.takeSample (d : Dev) (i : Nat) (y : SyncSample) : Dev :=
  let s := d.slot i
  let theta := d.theta y
  let runs := lockStep d i s (lockError d i s theta)
  if d.sampleSteps i theta then
    let d1 := d.stepTo ((d.now : Int) - theta).toNat
    d1.applySample i y 0 0 0 (0, 0, .acquire)
  else
    let sum := s.sumTheta + theta
    let raw := servoRaw d theta sum
    let c := servoClamp d raw
    d.applySample i y theta (if c = raw then sum else s.sumTheta) c runs

/-- A gPTP frame received at a port (PTP_RX, of P0 to P49). -/
def Dev.gptpHeard (d : Dev) (p : Nat) : Dev := if p < 50 then d.count 9 (p * 8 + 2) else d

/-- SYNC_SAMPLE: a sample of an enabled slot that is no grandmaster, received at its slave port. -/
def syncSample (i : Nat) (y : SyncSample) (d : Dev) : Dev :=
  let d0 := d.gptpHeard y.port
  let s := d.slot i
  if 2 ≤ i ∨ s.state = .disabled ∨ s.state = .grandmaster ∨ d.samplesFrom i y.port = false then d0
  else if !rateOk y.rate then d0.count 9 (1024 + i * 8 + 2)
  else
    let d1 := (d0.count 9 (1024 + i * 8)).setGm i y.gmId
    let d2 := if (d1.slot i).state = .listening ∨ (d1.slot i).state = .holdover then d1.slotState i .acquire else d1
    ((d2.takeSample i y).autoSwitch d).settleQuality

/-- SYNC_SAMPLE. -/
def execSyncSample (slot : Nat) (y : SyncSample) (s : State) : Out := onDev (syncSample slot y) s

/-- A slot enters HOLDOVER: the working slot's clock goes on at the last y with c at 0 (R268). -/
def Dev.enterHoldover (d : Dev) (i : Nat) : Dev :=
  let s := d.slot i
  let d1 := (d.putSlot i { s with holdoverStart := d.uptime, holdoverErr := s.sampleErr, corr := 0 }).slotState i .holdover
  if i == d.time.workSlot then
    { d1 with time := { d1.time with clock := { d1.time.clock with increment := servoIncrement s.rate 0 } } }
  else d1

/-- SYNC_RECEIPT_TIMEOUT (R267). -/
def syncTimeout (i : Nat) (d : Dev) : Dev :=
  let s := d.slot i
  if !d.overO s.syncDeadline then d
  else
    let d1 := (d.putSlot i { s with syncDeadline := none }).count 9 (1024 + i * 8 + 1)
    let d2 := if s.state = .locked then d1.enterHoldover i else d1.slotState i .listening
    (d2.autoSwitch d).settleQuality

/-- SYNC_RECEIPT_TIMEOUT. -/
def execSyncReceiptTimeout (slot : Nat) (s : State) : Out := onDev (syncTimeout slot) s

/-- HOLDOVER_BUDGET_EXCEEDED (R269): the bound has grown past the budget. -/
def execHoldoverBudgetExceeded (s : State) : Out := onDev (fun d => d.settleQuality) s

/-! ## gPTP (R274, R275) -/

/-- The device may be grandmaster of a slot's domain. -/
def Slot.gmCapable (s : Slot) : Bool := bit s.flags 0 && s.priority1 != 255

/-- The best master clock algorithm's selection takes effect in a slot: the device itself, or a port its PORT_MASK selects. -/
def Dev.reselect (d : Dev) (i : Nat) (b : BmcaResult) : Dev :=
  let s := d.slot i
  if !b.self && !bit s.portMask b.port then d
  else if b.self then
    let d1 := (d.setGm i (if s.gmCapable then b.gmId else 0))
    let d2 := d1.putSlot i { d1.slot i with slave := 255, stepsRemoved := 0, syncDeadline := none }
    d2.slotState i (if s.gmCapable then .grandmaster else .listening)
  else
    let d1 := d.setGm i b.gmId
    let d2 := d1.putSlot i { d1.slot i with slave := b.port, stepsRemoved := b.stepsRemoved }
    if (d2.slot i).state = .grandmaster ∨ !d2.asCapable b.port then d2.slotState i .listening else d2

/-- A port is no longer asCapable: the slots that follow it listen. -/
def Dev.slotsLosePort (d : Dev) (p : Nat) : Dev :=
  let one := fun (e : Dev) (i : Nat) =>
    if (e.slot i).slave == p && decide ((e.slot i).state ≠ .disabled) && decide ((e.slot i).state ≠ .grandmaster) then
      (e.slotState i .listening).putSlot i { (e.slotState i .listening).slot i with syncDeadline := none }
    else e
  (([0, 1].foldl one d).autoSwitch d).settleQuality

/-- A port's capability changes. -/
def Dev.setCapable (d : Dev) (p : Nat) (ok : Bool) : Dev :=
  let t := tabGet timePort0 d.time.ports p
  let d1 := { d with time := { d.time with ports := tabPut d.time.ports p { t with asCapable := ok } } }
  if t.asCapable && !ok then d1.slotsLosePort p else d1

/-- The interval of peer delay requests, in ns. -/
def pdelayNs (t : TimePort) : Nat := receiptNs 1 t.logPdelay

/-- A gPTP frame of the firmware: 01-80-C2-00-00-0E, the port's address, EtherType 0x88F7, messageType, version, length and
domainNumber, and the fields given with their offsets in the message; the rest is IEEE 802.1AS-2020's (log 24). -/
def gptpFrame (ix p mtype len domain : Nat) (fields : List (Nat × Bytes)) : Bytes :=
  beb 6 0x0180C200000E ++ beb 6 (Config.baseMac + p) ++ beb 2 0x88F7 ++
    fields.foldl (fun b x => patch b x.1 x.2)
      ([BitVec.ofNat 8 (0x10 + mtype), 0x02] ++ beb 2 len ++ [BitVec.ofNat 8 domain] ++ slice (Config.gptpBody ix) 0 (len - 5))

/-- The firmware sends a gPTP frame at a port, counted in PTP_TX of P0 to P49; an event message asks for its egress timestamp. -/
def Dev.sendGptp (d : Dev) (p mtype len domain : Nat) (fields : List (Nat × Bytes)) (follow : Option FollowUp) : Dev :=
  let ts := if mtype < 4 then some { firmware := true, tag := d.freeIx % 65536, follow := follow : TsReq } else none
  let d1 := ({ d with freeIx := d.freeIx + 1 }).sendTs p 5 (gptpFrame d.freeIx p mtype len domain fields) ts
  if p < 50 then d1.count 9 (p * 8 + 3) else d1

/-- correctionField, and the timestamp at offset 34 (preciseOriginTimestamp, or a peer delay time), of a message. -/
def stampFields (corr : Int) (t : Nat) : List (Nat × Bytes) := [(8, beb 8 (unsigned 64 corr)), (34, t80be t)]

/-- correctionField of a Follow_Up sent at egress time t (R274): what was received, and the link delay and the residence time at the rate
ratio; a grandmaster's own time needs none. -/
def followCorr (corr delay : Int) (ingress : Option Nat) (rate : Int) (t : Nat) : Int :=
  match ingress with
  | none => 0
  | some a => corr + roundDiv (((t : Int) - a) * 65536 * (2 ^ 41 + rate) + delay * (2 ^ 41 + rate)) (2 ^ 41)

/-- The egress timestamp of a frame the firmware sent returns to the gPTP stack (R279). -/
def Dev.stampReturns (d : Dev) (p t : Nat) (f : FollowUp) : Dev :=
  match f with
  | .sync domain origin corr delay ingress rate =>
    d.sendGptp p 8 76 domain (stampFields (followCorr corr delay ingress rate t) (if ingress.isNone then t else origin) ++
      [(54, beb 4 (unsigned 32 rate))]) none
  | .pdelayReq => { d with time := { d.time with ports := tabMod timePort0 d.time.ports p (fun q => { q with reqSent := some t }) } }
  | .pdelayResp domain => d.sendGptp p 10 54 domain (stampFields 0 t) none

/-- The mean link delay a response completes, in 2^-16 ns: half of the turnaround at the neighbour's rate less the responder's. -/
def meanLinkDelay (t1 t4 : Nat) (m : GptpMsg) : Int :=
  roundDiv (((t4 : Int) - t1) * 65536 * (2 ^ 41 + m.nrr) - (m.t3 - m.t2) * 2 ^ 41) (2 ^ 42)

/-- A peer delay response at a port that measures its link delay; one whose request's timestamp was lost gives no new delay. -/
def Dev.pdelayResponse (d : Dev) (p : Nat) (m : GptpMsg) : Dev :=
  let t := tabGet timePort0 d.time.ports p
  if !t.peerDelay then d
  else
    let delay := match t.reqSent with
      | some t1 => meanLinkDelay t1 (d.gptpStamp p m.stamp) m
      | none => t.meanDelay
    let t' := { t with meanDelay := delay, missed := 0, pdelayLast := some d.uptime, reqSent := none }
    let d1 := { d with time := { d.time with ports := tabPut d.time.ports p t' } }
    if t.reqSent.isSome then d1.setCapable p (decide (delay ≤ (t.thresh : Int) * 65536)) else d1

/-- A peer delay request at a port of the link delay service: its response carries the request's ingress timestamp. -/
def Dev.pdelayRequest (d : Dev) (p : Nat) (m : GptpMsg) : Dev :=
  if (tabGet timePort0 d.time.ports p).peerDelay then
    d.sendGptp p 3 54 m.domain (stampFields 0 (d.gptpStamp p m.stamp)) (some (.pdelayResp m.domain))
  else d

/-- An Announce in a slot whose slave port the algorithm chooses. -/
def Dev.announced (p : Nat) (b : BmcaResult) (d : Dev) (i : Nat) : Dev :=
  if bit (d.slot i).flags 1 || !bit (d.slot i).portMask p then d
  else
    let d1 := d.reselect i b
    let s := d1.slot i
    if s.slave == p then d1.putSlot i { s with announceDeadline := some (d1.uptime + receiptNs s.announceTimeout s.logAnnounce) }
    else d1

/-- GPTP_MESSAGE_RECEIVED: a message of an enabled slot's domain at a gPTP port; TS ports are none (R275). -/
def gptpMessage (p : Nat) (m : GptpMsg) (d : Dev) : Dev :=
  let d0 := d.gptpHeard p
  let mine := [0, 1].filter (fun i => (d0.slot i).enable && (d0.slot i).domain == m.domain)
  if decide (34 ≤ p) && decide (p < 50) then d0
  else if mine.isEmpty then d0.count 9 1106
  else if m.kind == 2 then d0.pdelayResponse p m
  else if m.kind == 1 then d0.pdelayRequest p m
  else if m.kind == 0 then ((mine.foldl (Dev.announced p m.bmca) d0).autoSwitch d0).settleQuality
  else d0

/-- GPTP_MESSAGE_RECEIVED. -/
def execGptpMessageReceived (port : Nat) (m : GptpMsg) (s : State) : Out := onDev (gptpMessage port m) s

/-- ANNOUNCE_RECEIPT_TIMEOUT (R274): the algorithm reselects, unless EXTERNAL_CFG fixes the slave port. -/
def announceTimeout (i : Nat) (b : BmcaResult) (d : Dev) : Dev :=
  let s := d.slot i
  if !d.overO s.announceDeadline then d
  else
    let d1 := d.putSlot i { s with announceDeadline := none }
    if bit s.flags 1 then d1 else ((d1.reselect i b).autoSwitch d).settleQuality

/-- ANNOUNCE_RECEIPT_TIMEOUT. -/
def execAnnounceReceiptTimeout (slot : Nat) (b : BmcaResult) (s : State) : Out := onDev (announceTimeout slot b) s

/-- PDELAY_TIMEOUT (R274): the responses missing since the last are counted, and at three the port is not asCapable. -/
def pdelayTimeout (p : Nat) (d : Dev) : Dev :=
  let t := tabGet timePort0 d.time.ports p
  match t.pdelayLast with
  | none => d
  | some last =>
    let n := (d.uptime - last) / max 1 (pdelayNs t)
    if !t.peerDelay || n ≤ t.missed then d
    else
      let d1 := { d with time := { d.time with ports := tabPut d.time.ports p { t with missed := n } } }
      let d2 := d1.countN 9 (p * 8 + 4) (n - t.missed)
      if 3 ≤ n then d2.setCapable p false else d2

/-- PDELAY_TIMEOUT. -/
def execPdelayTimeout (port : Nat) (s : State) : Out := onDev (pdelayTimeout port) s

/-- The Follow_Up a slot's Sync is to have: as grandmaster the device gives its own time, else it passes the last Sync on. -/
def Slot.followUp (s : Slot) : FollowUp :=
  if s.state = .grandmaster then .sync s.domain 0 0 0 none 0
  else .sync s.domain s.origin s.corrField s.delay (some s.ingress) s.rate

/-- A two-step Sync of a slot at a port (R274). P90 has no timestamp queue: its Follow_Up is sent at once, with the timestamp the Sync's
descriptor carries. -/
def Dev.sendSync (d : Dev) (p : Nat) (s : Slot) : Dev :=
  let d1 := d.sendGptp p 0 44 s.domain [] (some s.followUp)
  if p == 90 then d1.stampReturns p d.now s.followUp else d1

/-- GPTP_INTERVAL_SEND: the periodic message of a slot on a master port of its mask, or of a port's link delay service. -/
def gptpSend (i p : Nat) (kind : GptpKind) (d : Dev) : Dev :=
  let s := d.slot i
  let master := s.enable && bit s.portMask p && s.slave != p && d.asCapable p
  match kind with
  | .pdelayReq =>
    if (tabGet timePort0 d.time.ports p).peerDelay && decide (p < 34) then d.sendGptp p 2 54 s.domain [] (some .pdelayReq) else d
  | .sync => if master && slotValid s then d.sendSync p s else d
  | .announce => if master && s.gmId != 0 then d.sendGptp p 11 64 s.domain [] none else d

/-- GPTP_INTERVAL_SEND. -/
def execGptpIntervalSend (slot port : Nat) (kind : GptpKind) (s : State) : Out := onDev (gptpSend slot port kind) s

/-! ## Egress timestamp queue (R279) -/

/-- Drain one port's FIFO at an instant of uptime: its oldest entry written before it, then a pending loss run. -/
def drainPort (instant : Nat) (d : Dev) (p : Nat) : Dev :=
  let f := tabGet tsFifo0 d.time.fifos p
  match f.entries with
  | [] => d
  | (t, e) :: rest =>
    if instant ≤ t then d
    else
      let entries := match f.run with
        | some r => rest ++ [(d.uptime, TsEntry.loss r.1 r.2.1 r.2.2)]
        | none => rest
      let d1 := { d with time := { d.time with fifos := tabPut d.time.fifos p { entries := entries, run := none } } }
      match e with
      | .host tag time => d1.postAt 0x0906 (tag + p * 2 ^ 16) 0 time
      | .firmware _ time (some f) => d1.stampReturns p time f
      | .firmware _ _ none => d1
      | .loss first last n => d1.post 0x0907 (first + p * 2 ^ 16) (last + n % 65536 * 2 ^ 16)

/-- TS_FIFO_DRAIN: at a multiple of 250 ns of local time. -/
def tsFifoDrain (d : Dev) : Dev :=
  if d.now / 250 == d.time.lastDrain / 250 then d
  else
    let d1 := { d with time := { d.time with lastDrain := d.now } }
    (d1.time.fifos.map (fun x => x.1)).foldl (drainPort (d.uptime - d.now % 250)) d1

/-- TS_FIFO_DRAIN. -/
def execTsFifoDrain (s : State) : Out := onDev tsFifoDrain s

/-! ## Segment time beacon (R280, R281) -/

/-- A port's beacon. -/
def Dev.beacon (d : Dev) (p : Nat) : Beacon := tabGet beacon0 d.time.beacons p

/-- Replace a port's beacon. -/
def Dev.putBeacon (d : Dev) (p : Nat) (b : Beacon) : Dev := { d with time := { d.time with beacons := tabPut d.time.beacons p b } }

/-- BEACON_DUE: an unsent beacon is replaced and counted. -/
def beaconDue (p : Nat) (d : Dev) : Dev :=
  let b := d.beacon p
  if !b.enable || decide (d.now < b.next) then d
  else
    let d1 := if b.due then d.count 9 (p * 8 + 6) else d
    d1.putBeacon p { b with due := true, next := (d.now / ms b.periodMs + 1) * ms b.periodMs }

/-- BEACON_DUE. -/
def execBeaconDue (port : Nat) (s : State) : Out := onDev (beaconDue port) s

/-- The beacon frame, whose ORIGIN the MAC inserts as it sends. -/
def Dev.beaconFrame (d : Dev) (p : Nat) : Bytes :=
  let b := d.beacon p
  let w := d.work
  let q := d.qualityNow
  let flags := b2n b.plcaStart.isSome + 2 * b2n b.stepped + 4 * b2n b.switched
  beb 6 b.da ++ beb 6 (Config.baseMac + p) ++ beb 2 0x88B5 ++ [0x03, 0x01] ++
    beb 1 (if w.enable then w.domain else 0xFF) ++ beb 1 q ++ beb 2 b.seq ++ t80be (d.egressTime p) ++
    (match b.plcaStart with | some t => t80be t | none => zeros 10) ++ beb 2 b.segDelay ++ beb 2 flags ++
    beb 2 (unsigned 16 w.utcOffset) ++ beb 4 d.errNs ++ beb 8 w.gmId ++ zeros 2

/-- The TS MAC sends the due beacon. -/
def Dev.sendBeacon (d : Dev) (p : Nat) : Dev :=
  let b := d.beacon p
  let f := d.beaconFrame p
  let d1 := d.putBeacon p { b with due := false, seq := (b.seq + 1) % 65536, stepped := false, switched := false }
  ((d1.count 9 (p * 8 + 5)).countSent p f).emit (.frame p f false)

/-! ## TIME_IO steps (R282 to R285) -/

/-- Drive one output edge whose time is t. -/
def Dev.driveEdge (d : Dev) (n t : Nat) (q : TimePin) : Dev :=
  (d.putPin n { q with activeUntil := some (t + q.width) }).count 9 (1040 + n * 4)

/-- TIME_IO_EDGE: the edges of a pin that are due. -/
def timeIoEdge (n : Nat) (d : Dev) : Dev :=
  let q0 := d.pin n
  let ends := match q0.activeUntil with | some u => decide (u ≤ d.now) | none => false
  let q := if ends then { q0 with activeUntil := none } else q0
  let d1 := d.putPin n q
  if !tabHas d.time.pins n then d
  else if q.mode == 1 then
    match q.pending with
    | some t => if q.driveAt t ≤ d.now then d1.driveEdge n (q.driveAt t) { q with pending := none } else d1
    | none => d1
  else if q.mode == 2 && decide (q.edge q.k ≤ d.now) && q.left != some 0 then
    d1.driveEdge n (q.edge q.k) { q with k := q.k + 1, used := q.used + 1 }
  else d1

/-- TIME_IO_EDGE. -/
def execTimeIoEdge (pin : Nat) (s : State) : Out := onDev (timeIoEdge pin) s

/-- CAPTURE_EDGE: a selected edge that has held its level for FILTER ticks. -/
def captureEdge (n : Nat) (rising : Bool) (held : Nat) (d : Dev) : Dev :=
  let q := d.pin n
  if q.mode != 3 || held < q.filter || !(if rising then bit q.flags 1 else bit q.flags 2) then d
  else if 16 ≤ q.captures.length then (d.putPin n { q with lost := true }).count 9 (1040 + n * 4 + 2)
  else
    let t := (roundQ16 (((d.now : Int) - 8 - 4 * q.filter) * 65536 - q.comp)).toNat
    let edge := if rising then 0 else 1
    let r : Capture := { time := t, edge := edge, flags := b2n q.lost, seq := q.seq }
    let d1 := (d.putPin n { q with captures := q.captures ++ [r], seq := (q.seq + 1) % 65536, lost := false }).count 9 (1040 + n * 4 + 1)
    if bit q.flags 3 then d1.postAt 0x0908 n (edge + b2n q.lost * 2 ^ 8) t else d1

/-- CAPTURE_EDGE. -/
def execCaptureEdge (pin : Nat) (rising : Bool) (held : Nat) (s : State) : Out := onDev (captureEdge pin rising held) s

/-- RTC_SECOND_SYNC (R355): at a local second boundary the RTC takes the local seconds. -/
def rtcSync (d : Dev) : Dev :=
  if d.lantern.power = .dormant ∨ d.lantern.power = .off then d
  else { d with lantern := { d.lantern with rtcS := d.time.clock.sec, rtcSub := 0, rtcFrac := 0 } }

/-- RTC_SECOND_SYNC. -/
def execRtcSecondSync (s : State) : Out := onDev rtcSync s

end Sys2Proof.Machine
end

