-- ==== Sys2Proof/Machine/Belfry.lean ====
section
/-! DEFINITION. Belfry (chapter 06): windows, shapers, preemption, the start and the end of a transmission, gate steps and
queue observation. -/

namespace Sys2Proof.Machine

open Sys2Proof

/-! ## Windows (R178) -/

/-- remaining_window of R178 in ps; none is unbounded. It ends no later than a pending switch. -/
def Dev.windowPs (d : Dev) (p c : Nat) : Option Nat :=
  let g := d.gates p
  let close := g.closeIn c d.now
  let switch := g.pending.head?.map (fun x => x.2 - d.now)
  let w := match close, switch with
    | none, none => none
    | some a, none => some a
    | none, some b => some b
    | some a, some b => some (min a b)
  w.map (fun n => n * 1000 - gateErrPs p)

/-! ## Preemption (R183 to R185) -/

/-- A port's preemption unit. -/
def Dev.preempt (d : Dev) (p : Nat) : Preempt := tabGet preempt0 d.streams.preempt p

/-- Preemption is active. -/
def Dev.preemptActive (d : Dev) (p : Nat) : Bool := (d.preempt p).enable && (d.preempt p).state == 2

/-- A class is preemptable on a port. -/
def Dev.isPreemptable (d : Dev) (p c : Nat) : Bool := (d.preempt p).enable && !bit (d.preempt p).expressMask c

/-- Move a port's preemption unit to a state, with STR_PREEMPT_STATUS on a change. -/
def Dev.setPreempt (d : Dev) (p st : Nat) (f : Preempt → Preempt) : Dev :=
  let q := d.preempt p
  let d1 := { d with streams := { d.streams with preempt := tabPut d.streams.preempt p { f q with state := st } } }
  if q.state == st then d1 else d1.post 0x0504 p st

/-- A verify mPacket is sent (R183), where the medium may be driven (R372). -/
def Dev.sendVerify (d : Dev) (p : Nat) : Dev := if d.mayDrive then d.emit (.verify p) else d

/-- Verification begins at link-up with its first verify mPacket, or preemption is at once active where it is disabled (R183). -/
def Dev.preemptLinkUp (d : Dev) (p : Nat) : Dev :=
  let q := d.preempt p
  if !q.enable || !tabHas d.streams.preempt p then d
  else if q.verify then
    (d.setPreempt p 1 (fun q => { q with tries := 1, deadline := some (d.uptime + ms q.verifyMs) })).sendVerify p
  else d.setPreempt p 2 (fun q => { q with deadline := none })

/-- Without a link preemption is not active (R183). -/
def Dev.preemptLinkDown (d : Dev) (p : Nat) : Dev :=
  if !tabHas d.streams.preempt p then d else d.setPreempt p 0 (fun q => { q with tries := 0, deadline := none })

/-- PREEMPT_VERIFY_RESPONSE (R183): verification succeeds on the first response. -/
def verifyResponse (p : Nat) (d : Dev) : Dev :=
  if (d.preempt p).state == 1 then d.setPreempt p 2 (fun q => { q with deadline := none }) else d

/-- PREEMPT_VERIFY_RESPONSE. -/
def execPreemptVerifyResponse (port : Nat) (s : State) : Out := onDev (verifyResponse port) s

/-- PREEMPT_VERIFY_TIMEOUT (R183): the verify mPacket is sent again, or verification fails after the third. -/
def verifyTimeout (p : Nat) (d : Dev) : Dev :=
  let q := d.preempt p
  if q.state != 1 || !d.overO q.deadline then d
  else if q.tries < 3 then
    (d.setPreempt p 1 (fun q => { q with tries := q.tries + 1, deadline := some (d.uptime + ms q.verifyMs) })).sendVerify p
  else (d.setPreempt p 3 (fun q => { q with deadline := none })).count 5 (31752 + 16 * p)

/-- PREEMPT_VERIFY_TIMEOUT. -/
def execPreemptVerifyTimeout (port : Nat) (s : State) : Out := onDev (verifyTimeout port) s

/-! ## Shapers (R181, R182) -/

/-- The shaper of a port's class. -/
def Dev.shaper (d : Dev) (p c : Nat) : Cbs := tabGet cbs0 d.streams.cbs (p * 8 + c)

/-- A frame of (p, c) waits in a VOQ or in the transmit stage. -/
def Dev.queuedIn (d : Dev) (p c : Nat) : Bool :=
  d.fabric.frames.any (fun f => f.copies.any (fun k => k.port == p && k.tc == c && !k.started))

/-- The bytes a port sends of a frame: those of the copy it started, edited for its egress. -/
def sendingBytesOf (f : Stored) (s : Sending) : Bytes :=
  match f.copies.find? s.of with
  | some k => egressBytes k f.bytes
  | none => f.bytes

/-- L of the frame a port is sending, in bit times under R6; none while it is still being received. -/
def Dev.sendingBits (d : Dev) (s : Sending) : Option Nat :=
  match d.stored s.id with
  | some f => if f.receiving then none else some (frameLen (sendingBytesOf f s) * 8)
  | none => some 0

/-- ps of the present fragment's frame bytes sent so far: the time since its preamble and SFD ended (R6). -/
def Dev.fragmentPs (d : Dev) (p : Nat) (s : Sending) : Nat := (d.uptime - s.start) * 1000 - bitsPs 64 (d.portMbps p)

/-- The L bytes of a frame of the class are on the wire: after the preamble and SFD of the present fragment, and before the gap
(R6, R181). -/
def Dev.sendingBytes (d : Dev) (p c : Nat) : Bool :=
  match tabFind d.fabric.sending p with
  | none => false
  | some s =>
    s.tc == c && !s.offered && decide (0 < d.portMbps p) &&
    decide (s.start * 1000 + bitsPs 64 (d.portMbps p) ≤ d.uptime * 1000) &&
    (match d.sendingBits s with
     | none => true
     | some n => decide (s.sent + d.fragmentPs p s < bitsPs n (d.portMbps p)))

/-- The class is treated as waiting (R181): a frame of it is queued, or is in its preamble, SFD or gap, or is interrupted. -/
def Dev.waits (d : Dev) (p c : Nat) : Bool :=
  d.queuedIn p c ||
  (match tabFind d.fabric.sending p with
   | some s => s.tc == c && !s.offered && !d.sendingBytes p c
   | none => false) ||
  (match tabFind d.fabric.preempted p with
   | some s => s.tc == c
   | none => false) ||
  (match (d.port p).gap with
   | some g => g.1 == c && decide (d.uptime < g.2)
   | none => false)

/-- One TIME tick of a shaper (06, Credit-based shapers); the credit is in 10^-6 of 2^-16 bit, of which I kbit/s for 4 ns is
I * 262,144. -/
def Dev.shaperTick (d : Dev) (p c : Nat) (s : Cbs) : Cbs :=
  if !s.enable then s
  else
    let slope := (s.idleSlope : Int) * 262144
    let waits := d.waits p c
    let credit :=
      if d.sendingBytes p c then s.credit + slope - (d.portMbps p : Int) * 1000 * 262144
      else if bit (d.gateVector p) c && (waits || decide (s.credit < 0)) then s.credit + slope
      else s.credit
    { s with credit := if !waits && decide (0 < credit) then 0 else credit }

/-- One TIME tick of every shaper. -/
def Dev.shapersTick (d : Dev) : Dev :=
  { d with streams := { d.streams with cbs := tabMap d.streams.cbs (fun i s => d.shaperTick (i / 8) (i % 8) s) } }

/-! ## Selection (R168, R185) -/

/-- The head of a transmit stage: the staged, unstarted copy that was staged first. -/
def stageHeadOf (fs : List Stored) (p c : Nat) : Option (Stored × Copy) :=
  let all := fs.flatMap (fun f => (f.copies.filter (fun k => k.port == p && k.tc == c && k.staged && !k.started)).map (fun k => (f, k)))
  all.foldl (fun best x =>
    match best with
    | none => some x
    | some b => if x.2.stageSeq < b.2.stageSeq then some x else some b) none

/-- A copy's length at its egress: MAX_FRAME for a frame that is cut through (R105, R169). -/
def Dev.egressLen (d : Dev) (f : Stored) (k : Copy) : Nat :=
  if f.cut && !k.mirror then (d.port k.port).maxFrame else frameLen (egressBytes k f.bytes)

/-- The frame fits its window (R168, R178), and, on a port whose preemption is enabled but inactive, the time before TC7's
next opening (R185). -/
def Dev.fitsWindow (d : Dev) (p c len : Nat) : Bool :=
  let w := wirePs len (d.portMbps p)
  (match d.windowPs p c with
   | none => true
   | some n => decide (w ≤ n)) &&
  (if d.isPreemptable p c && !d.preemptActive p then
    match (d.gates p).openIn 7 d.now with
    | none => true
    | some n => decide (w ≤ n * 1000)
   else true)

/-- Count a frame once in GATE_WAIT (R168). -/
def Dev.markWait (d : Dev) (p : Nat) (f : Stored) : Dev :=
  if d.streams.waited.contains (f.id, p) then d
  else ({ d with streams := { d.streams with waited := d.streams.waited ++ [(f.id, p)] } }).count 5 (31744 + 16 * p)

/-- Belfry's selection among the frames that `ok` allows, from TC7 down (R168). -/
def Dev.select (p : Nat) (ok : Nat → Stored → Bool) : List Nat → Dev → Dev × Option (Stored × Copy)
  | [], d => (d, none)
  | c :: t, d =>
    match stageHeadOf d.fabric.frames p c with
    | none => Dev.select p ok t d
    | some x =>
      if !ok c x.1 || !bit (d.gateVector p) c then Dev.select p ok t d
      else if !d.fitsWindow p c (d.egressLen x.1 x.2) then Dev.select p ok t (d.markWait p x.1)
      else if (d.shaper p c).enable && decide ((d.shaper p c).credit < 0) then Dev.select p ok t d
      else (d, some x)

/-- The classes from the highest down. -/
def classesDown : List Nat := [7, 6, 5, 4, 3, 2, 1, 0]

/-! ## Starting and ending a frame -/

/-- Remove one copy of a frame. -/
def Dev.dropCopy (d : Dev) (id : Nat) (k : Copy) : Dev :=
  (d.modStored id (fun f => { f with copies := f.copies.erase k })).settleFabric

/-- A committed shaper change takes effect at the class's next frame start (R182). -/
def Dev.cbsStart (d : Dev) (p c : Nat) : Dev :=
  match (d.shaper p c).next with
  | none => d
  | some n =>
    { d with streams := { d.streams with
        cbs := tabPut d.streams.cbs (p * 8 + c) { enable := n.1, idleSlope := n.2, credit := 0, next := none } } }

/-- The delay of a started frame, for queue observation. -/
def Dev.observeStart (d : Dev) (p c time : Nat) : Dev :=
  match tabFind d.streams.observe p with
  | none => d
  | some o =>
    let o' := { o with maxDelay := tabMod 0 o.maxDelay c (fun m => max m (d.now - time)) }
    { d with streams := { d.streams with observe := tabPut d.streams.observe p o' } }

/-- The record of what a port sends or offers. -/
def Dev.sendingOf (d : Dev) (p : Nat) (f : Stored) (k : Copy) (offered : Bool) : Sending :=
  { id := f.id, tc := k.tc, seq := k.stageSeq, bytes := egressBytes k f.bytes, start := d.uptime, maxFrame := (d.port p).maxFrame,
    cutThrough := f.receiving, preemptable := d.isPreemptable p k.tc, sent := 0, offered := offered }

/-- Set what a port sends. -/
def Dev.putSending (d : Dev) (p : Nat) (s : Sending) : Dev := { d with fabric := { d.fabric with sending := tabPut d.fabric.sending p s } }

/-- A Twin Link frame: EtherType 0x88B5, SUBTYPE 0x04. -/
def isTwinFrame (bs : Bytes) : Bool := be bs 12 2 == 0x88B5 && byteAt bs 14 == 4

/-- A TIME_ALIGN record leaves with the local time of its frame's egress timestamp (14, Journal records). -/
def stampAlign (time : Nat) (bs : Bytes) : Bytes :=
  if isTwinFrame bs && byteAt bs 32 == 4 && be bs 34 2 == 24 then bs.take 36 ++ t80le time ++ bs.drop 46 else bs

/-- A frame starts on the wire: its copy is marked, its timestamp point is registered (R278), its MAX_FRAME fixed (R76). -/
def Dev.startCopy (d : Dev) (p : Nat) (f : Stored) (k : Copy) : Dev :=
  let mark := fun (j : Copy) => { j with started := true }
  let s0 := d.sendingOf p f k false
  let s := if p == 9 && d.twin.enable then { s0 with bytes := stampAlign (d.egressTime 9) s0.bytes } else s0
  let d1 := (d.modStored f.id (fun g => { g with copies := modFirst (fun j => decide (j = k)) mark g.copies, begun := true })).putSending p s
  let d2 := { d1 with streams := { d1.streams with waited := d1.streams.waited.filter (fun w => w != (f.id, p)) } }
  let d3 := ((d2.cbsStart p k.tc).observeStart p k.tc f.info.time).modPort p (fun q => { q with collisions := 0, gap := none })
  let d4 := match f.info.ts with
    | some r => if k.kind == 0 && decide (p < 50) then d3.tsRecord p r (isGptpEvent s.bytes) (d3.egressTime p) else d3
    | none => d3
  d4.settleFabric

/-- A stored frame longer than the egress MAX_FRAME is not sent (R74). Any other starts, or is offered to PLCA (R170), where it
waits in its transmit stage for the opportunity, but for a further frame of a burst, which starts within BURST_TIMER of the one
before. -/
def Dev.dequeue (d : Dev) (p : Nat) (x : Stored × Copy) : Dev :=
  if !x.1.receiving && decide ((d.port p).maxFrame < frameLen (egressBytes x.2 x.1.bytes)) then
    (d.dropCopy x.1.id x.2).count 2 (p * 64 + 20)
  else if decide (34 ≤ p) && decide (p < 50) && (d.port p).plcaEn then
    let burst := match (d.port p).burstEnd with | some t => decide (d.uptime ≤ t) | none => false
    if burst then (d.startCopy p x.1 x.2).modPort p (fun q => { q with burst := q.burst + 1, burstEnd := none })
    else d.putSending p (d.sendingOf p x.1 x.2 true)
  else d.startCopy p x.1 x.2

/-- The frame a port has offered starts on the segment (R170). -/
def Dev.startOffered (d : Dev) (p : Nat) (s : Sending) : Dev :=
  let d1 := { d with fabric := { d.fabric with sending := tabDel d.fabric.sending p } }
  match d1.stored s.id with
  | none => d1
  | some f =>
    match f.copies.find? s.of with
    | some k => d1.startCopy p f k
    | none => d1

/-- A gPTP peer-delay message: messageType 2, 3 or 0xA. -/
def isPdelay (bs : Bytes) : Bool := be bs 12 2 == 0x88F7 && [2, 3, 10].contains (byteAt bs 14 % 16)

/-- A frame that may leave at a port now: 128 bytes of it, or the whole, have been received (R105); in twin mode P9 carries Twin Link
frames alone (R10), and without the line the other ports only peer-delay messages (R372). -/
def Dev.maySend (d : Dev) (p : Nat) (f : Stored) : Bool :=
  (!f.receiving || decide (128 ≤ f.bytes.length)) &&
  (if p == 9 && d.twin.enable then isTwinFrame f.bytes else d.mayDrive || isPdelay f.bytes)

/-- The port is up and in service. -/
def Dev.portRuns (d : Dev) (p : Nat) : Bool := (d.port p).admin && (d.port p).up && !d.portSleeping p

/-- A preemptable frame on the wire may give way now (R184): its fragment, with the 4 bytes of its own check sequence, has the minimum
64 x (1 + ADD_FRAG) bytes, and 64 or more are left for the last one (log 84). -/
def Dev.mayInterrupt (d : Dev) (p : Nat) (s : Sending) : Bool :=
  let rate := d.portMbps p
  decide (bitsPs ((60 + 64 * (d.preempt p).addFrag) * 8) rate ≤ d.fragmentPs p s) &&
  (match d.sendingBits s with
   | none => true
   | some n => decide (s.sent + d.fragmentPs p s + bitsPs 512 rate ≤ bitsPs n rate))

/-- A preemptable frame on the wire gives way (R184). -/
def Dev.interrupt (d : Dev) (p : Nat) (s : Sending) : Dev :=
  { d with fabric := { d.fabric with
      sending := tabDel d.fabric.sending p
      preempted := tabPut d.fabric.preempted p { s with sent := s.sent + d.fragmentPs p s } } }

/-- A preempted frame goes on with its next fragment, which begins with a preamble of its own. -/
def Dev.resume (d : Dev) (p : Nat) (s : Sending) : Dev :=
  (({ d with fabric := { d.fabric with preempted := tabDel d.fabric.preempted p } }).putSending p { s with start := d.uptime }).count 5
    (31746 + 16 * p)

/-- A collision of the frame offered on a CSMA/CD segment: the 16th discards it (R65, R80). -/
def Dev.collide (d : Dev) (p : Nat) (x : Stored × Copy) : Dev :=
  let d1 := d.count 2 (p * 64 + 24)
  if 16 ≤ (d.port p).collisions + 1 then
    ((d1.modPort p (fun q => { q with collisions := 0 })).dropCopy x.1.id x.2).count 2 (p * 64 + 25)
  else d1.modPort p (fun q => { q with collisions := q.collisions + 1 })

/-- The frame Belfry selects among the express classes (R184). -/
def Dev.selectExpress (d : Dev) (p : Nat) : Dev × Option (Stored × Copy) :=
  Dev.select p (fun c f => !d.isPreemptable p c && d.maySend p f) classesDown d

/-- A start opportunity of a port that is sending nothing. While preemption is active Belfry selects among the express classes first; then
the interrupted frame goes on, or a preemptable frame starts, unless hold is asserted (R184). -/
def Dev.startIdle (d : Dev) (p : Nat) (collision : Bool) : Dev :=
  let cut := (tabFind d.fabric.preempted p).filter (fun s => !s.lost)
  if d.preemptActive p then
    let r := d.selectExpress p
    match r.2, cut with
    | some x, _ => r.1.dequeue p x
    | none, some s => if (d.gates p).hold then r.1 else r.1.resume p s
    | none, none =>
      if (d.gates p).hold then r.1
      else
        let t := Dev.select p (fun c f => d.isPreemptable p c && d.maySend p f) classesDown r.1
        match t.2 with
        | some x => t.1.dequeue p x
        | none => t.1
  else match cut with
    | some s => d.resume p s
    | none =>
      let r := Dev.select p (fun _ f => d.maySend p f) classesDown d
      match r.2 with
      | none => r.1
      | some x =>
        if collision && decide (34 ≤ p) && decide (p < 50) && !(d.port p).plcaEn then r.1.collide p x else r.1.dequeue p x

/-- A start opportunity of a port with a preemptable frame on the wire: it gives way to an express frame, or to hold (R184). -/
def Dev.startExpress (d : Dev) (p : Nat) (s : Sending) : Dev :=
  if d.preemptActive p && s.preemptable && !tabHas d.fabric.preempted p && d.mayInterrupt p s then
    let r := d.selectExpress p
    match r.2 with
    | some x => (r.1.interrupt p s).dequeue p x
    | none => if (d.gates p).hold then r.1.interrupt p s else r.1
  else d

/-- FRAME_TX_START (R168, R184): P91 takes its highest class; the other internal ports have steps of their own. A due beacon
goes ahead of Belfry's next offer where PLCA is off (R280). -/
def frameTxStart (p : Nat) (collision : Bool) (d : Dev) : Dev :=
  if p == 91 then
    if tabHas d.fabric.sending 91 then d
    else match classesDown.findSome? (fun c => stageHeadOf d.fabric.frames 91 c) with
      | some x => d.dequeue 91 x
      | none => d
  else if 50 ≤ p || !d.portRuns p then d
  else
    match tabFind d.fabric.sending p with
    | none =>
      if decide (34 ≤ p) && !(d.port p).plcaEn && (d.beacon p).due && d.mayDrive then d.sendBeacon p else d.startIdle p collision
    | some s => d.startExpress p s

/-- FRAME_TX_START. -/
def execFrameTxStart (port : Nat) (collision : Bool) (s : State) (point : Nat := 0) : Out :=
  onDev (fun d => frameTxStart port collision (d.atPoint point)) s

/-- A frame ends with an inverted FCS (R73, R106); the wire of a failed link carries nothing (R82). -/
def Dev.stomp (d : Dev) (p : Nat) (bytes : Bytes) (lost : Bool) : Dev :=
  ((if lost then d else d.emit (.frame p bytes true)).count 2 (p * 64 + 19)).addTxWire p (bytes.length + 4)

/-- The copy a port is sending, or that is interrupted there, leaves its frame. -/
def Dev.sentCopy (d : Dev) (p : Nat) (s : Sending) : Dev :=
  let other := fun (x : Nat × Sending) => !(x.1 == p && x.2.seq == s.seq && x.2.id == s.id)
  let d1 := { d with fabric := { d.fabric with sending := d.fabric.sending.filter other, preempted := d.fabric.preempted.filter other } }
  (d1.modStored s.id (fun f => { f with copies := f.copies.eraseP (fun k => k.port == p && s.of k) })).settleFabric

/-- After a frame on a PLCA segment a further one may follow within BURST_TIMER, up to BURST_COUNT of them. -/
def Dev.burstGoesOn (d : Dev) (p : Nat) : Dev :=
  if decide (34 ≤ p) && (d.port p).plcaEn then
    d.modPort p (fun q => { q with burstEnd := if q.burst < q.burstCount then some (d.uptime + q.burstTimer * 100) else none })
  else d

/-- The gap after a frame of an Ethernet port: 96 bit times (R6, R181). -/
def Dev.startGap (d : Dev) (p tc : Nat) : Dev :=
  if 50 ≤ p then d
  else d.modPort p (fun q => { q with gap := some (tc, d.uptime + bitsPs 96 (d.portMbps p) / 1000) })

/-- A frame whose last byte has been received ends at its egress: counted in exactly one of TX_OK_FRAMES, TX_STOMPED (R73, R74, R106).
A frame whose link failed is counted all the same, and reaches nobody (R82). -/
def Dev.endSend (d : Dev) (p : Nat) (s : Sending) (f : Stored) : Dev :=
  let bytes := sendingBytesOf f s
  let d1 := (d.sentCopy p s).startGap p s.tc
  if f.bad then d1.stomp p bytes s.lost
  else if s.cutThrough && decide (s.maxFrame < frameLen bytes) then d1.stomp p (bytes.take (s.maxFrame - 4)) s.lost
  else
    let d2 := d1.countSent p bytes
    if 50 ≤ p then d2
    else if s.lost then d2.addTxWire p (frameLen bytes)
    else (((d2.emit (.frame p bytes false)).addTxWire p (frameLen bytes)).burstGoesOn p).frameSent p f.info.inPort f.bytes

/-- TX_FRAME_COMPLETE. A frame still being received cannot end. -/
def txComplete (p : Nat) (d : Dev) : Dev :=
  match tabFind d.fabric.sending p with
  | none => d
  | some s =>
    if s.offered then d
    else match d.stored s.id with
      | none => { d with fabric := { d.fabric with sending := tabDel d.fabric.sending p } }
      | some f => if f.receiving then d else d.endSend p s f

/-- The link of a port fails under a frame (R82): lost on the wire, it is counted as its MAC completes it, a cut-through frame at the end
of its reception. -/
def Dev.loseOne (p : Nat) (d : Dev) (s : Sending) : Dev :=
  match d.stored s.id with
  | none => d
  | some f =>
    if !f.receiving then d.endSend p { s with lost := true } f
    else
      let mark := fun (x : Nat × Sending) => if x.1 == p && x.2.seq == s.seq && x.2.id == s.id then (x.1, { x.2 with lost := true }) else x
      { d with fabric := { d.fabric with sending := d.fabric.sending.map mark, preempted := d.fabric.preempted.map mark } }

/-- A port's link fails (R82): its offer is withdrawn, the frame it sends and the one that is interrupted are lost. -/
def Dev.loseSending (d : Dev) (p : Nat) : Dev :=
  let d1 := { d with fabric := { d.fabric with sending := d.fabric.sending.filter (fun x => !(x.1 == p && x.2.offered)) } }
  let now := (d1.fabric.sending ++ d1.fabric.preempted).filter (fun x => x.1 == p && !x.2.lost)
  (now.map (fun x => x.2)).foldl (Dev.loseOne p) d1

/-- The frames of failed links that were cut through end with their reception (R82). -/
def Dev.endLost (d : Dev) (id : Nat) : Dev :=
  ((d.fabric.sending ++ d.fabric.preempted).filter (fun x => x.2.id == id && x.2.lost)).foldl (fun e x =>
    match e.stored id with
    | some f => e.endSend x.1 x.2 f
    | none => e) d

/-- TX_FRAME_COMPLETE. -/
def execTxFrameComplete (port : Nat) (s : State) : Out := onDev (txComplete port) s

/-- The copy of a cut-through frame stands at its transmit stage. -/
def Dev.stageCut (d : Dev) (id : Nat) (k : Copy) : Copy × Dev :=
  if k.staged then (k, d)
  else
    let k1 := { k with staged := true, stageSeq := d.fabric.nextStage }
    let d1 := d.modStored id (fun g => { g with copies := modFirst (fun j => decide (j = k)) (fun _ => k1) g.copies })
    (k1, { d1 with fabric := { d1.fabric with nextStage := d1.fabric.nextStage + 1 } })

/-- CUT_THROUGH_START (R105): the frame being received on `inPort`, of which 128 bytes have arrived, starts at its egress, where its gate and
window allow it. A FENCED frame waits for its fence as in R115 (DESIGN CHOICE, log 85). -/
def cutThroughStart (inPort : Nat) (d : Dev) : Dev :=
  match tabFind d.fabric.cutting inPort with
  | none => d
  | some id =>
    match d.stored id with
    | none => d
    | some f =>
      match f.copies.find? (fun k => k.kind == 0 && !k.started) with
      | none => d
      | some k =>
        let c := k.tc
        if !d.portRuns k.port || !d.maySend k.port f || tabHas d.fabric.sending k.port || tabHas d.fabric.preempted k.port then d
        else if k.fenced.isSome then d
        else if d.preemptActive k.port && (d.gates k.port).hold && d.isPreemptable k.port c then d
        else if !bit (d.gateVector k.port) c then d
        else if !d.fitsWindow k.port c (d.egressLen f k) then d.markWait k.port f
        else if (d.shaper k.port c).enable && decide ((d.shaper k.port c).credit < 0) then d
        else
          let r := d.stageCut id k
          match r.2.stored id with
          | some g => r.2.dequeue k.port (g, r.1)
          | none => r.2

/-- CUT_THROUGH_START. -/
def execCutThroughStart (port : Nat) (s : State) (point : Nat := 0) : Out := onDev (fun d => cutThroughStart port (d.atPoint point)) s

/-! ## Gate steps -/

/-- The entry in force is driven: its gates, and its hold operation while preemption is active (R171, R172); a port that is not enabled has
every gate open and hold released (R186). A hold that takes effect is counted, and a preemptable frame gives way as soon as it may
(R184). -/
def Dev.driveGates (d : Dev) (p : Nat) : Dev :=
  let g := d.gates p
  if !(d.port p).admin then d.putGates p { g with vector := 0xFF, hold := false }
  else match g.oper with
  | none => d.putGates p { g with vector := 0xFF, entry := 0, hold := false }
  | some (l, s) =>
    match l.spanAt s d.now with
    | none => d
    | some x =>
      let op := if d.preemptActive p then x.2.2.2.1 else 0
      let hold := if op == 1 then true else if op == 2 then false else g.hold
      let d1 := d.putGates p { g with vector := x.2.2.1, entry := x.2.2.2.2, hold := hold }
      if hold && !g.hold then
        let d2 := d1.count 5 (31751 + 16 * p)
        match tabFind d2.fabric.sending p with
        | some s => if s.preemptable && !tabHas d2.fabric.preempted p && d2.mayInterrupt p s then d2.interrupt p s else d2
        | none => d2
      else d1

/-- GATE_ENTRY_CHANGE. -/
def execGateEntryChange (port : Nat) (s : State) : Out := onDev (fun d => d.driveGates port) s

/-- GATE_LIST_SWITCH (R174, R175): at the switch time the pending list becomes oper. -/
def gateSwitch (p : Nat) (d : Dev) : Dev :=
  let g := d.gates p
  match g.pending with
  | [] => d
  | (l, s) :: rest =>
    if d.now < s then d
    else
      let len := match l with | some x => x.entries.length | none => 0
      let d1 := d.putGates p { g with oper := l.map (fun x => (x, s)), pending := rest, hold := if l.isNone then false else g.hold }
      ((d1.count 5 (31745 + 16 * p)).post 0x0503 p (s % 2 ^ 32 + len * 2 ^ 32)).driveGates p

/-- GATE_LIST_SWITCH. -/
def execGateListSwitch (port : Nat) (s : State) : Out := onDev (gateSwitch port) s

/-- BELFRY_CMP (R186): fault BELFRY_CMP names the port. -/
def belfryCmp (port mask : Nat) (d : Dev) : Dev := if mask == 0 then d else d.faultF2 0x0201 port mask

/-- BELFRY_CMP. -/
def execBelfryCmp (port mask : Nat) (s : State) : Out := onDev (belfryCmp port mask) s

/-! ## Queue observation (R187) -/

/-- One observation record and its largest delay. -/
def Dev.observation (d : Dev) (p c seq : Nat) (o : Observe) : Bytes × Nat :=
  let waiting := d.fabric.frames.filter (fun f => f.copies.any (fun k => k.port == p && k.tc == c && !k.started))
  let maxD := min (tabGet 0 o.maxDelay c) 0xFFFFFFFF
  let head := match stageHeadOf d.fabric.frames p c with
    | some x => min (d.now - x.1.info.time) 0xFFFFFFFF
    | none => 0
  let sh := d.shaper p c
  let flags := b2n (bit (d.gateVector p) c) + 2 * b2n (sh.enable && decide (sh.credit < 0)) + 4 * b2n (!(d.port p).up)
  (leb 1 p ++ leb 1 c ++ leb 1 flags ++ leb 1 0 ++ leb 4 seq ++ t80le d.now ++ leb 2 waiting.length ++
    leb 4 (waiting.map (fun f => f.len)).sum ++ leb 4 head ++ leb 4 maxD, maxD)

/-- One class's record goes into the port's store of 64. -/
def Dev.observeClass (p : Nat) (d : Dev) (c : Nat) : Dev :=
  match tabFind d.streams.observe p with
  | none => d
  | some o =>
    if !bit o.tcMask c then d
    else
      let r := d.observation p c o.seq o
      let all := o.records ++ [(o.seq, r.1)]
      let o' := { o with
        records := all.drop (all.length - 64), seq := (o.seq + 1) % 2 ^ 32, maxDelay := tabDel o.maxDelay c }
      let d1 := { d with streams := { d.streams with observe := tabPut d.streams.observe p o' } }
      if o.alarmNs != 0 && decide (o.alarmNs < r.2) then d1.postLimited 0x0506 (p * 8 + c) p (c + r.2 * 2 ^ 32) else d1

/-- QUEUE_OBSERVE_SAMPLE: at a multiple of PERIOD_US of local time. -/
def queueObserve (p : Nat) (d : Dev) : Dev :=
  match tabFind d.streams.observe p with
  | none => d
  | some o =>
    if !o.enable || d.now / (o.periodUs * 1000) == o.lastSample / (o.periodUs * 1000) then d
    else
      let d1 := { d with streams := { d.streams with observe := tabPut d.streams.observe p { o with lastSample := d.now } } }
      (List.range 8).foldl (Dev.observeClass p) d1

/-- QUEUE_OBSERVE_SAMPLE. -/
def execQueueObserveSample (port : Nat) (s : State) : Out := onDev (queueObserve port) s

/-! ## Recovery timers (R166, R167) -/

/-- FRER_RESET_TIMEOUT: the entry enters TAKE_ANY. -/
def frerReset (r : Nat) (d : Dev) : Dev :=
  match tabFind d.streams.recoveries r with
  | some e =>
    if d.overO e.deadline then
      { d with streams := { d.streams with recoveries := tabPut d.streams.recoveries r { e with takeAny := true, deadline := none } } }
    else d
  | none => d

/-- FRER_RESET_TIMEOUT. -/
def execFrerResetTimeout (entry : Nat) (s : State) : Out := onDev (frerReset entry) s

/-- FRER_LATENT_PERIOD_END: a shortfall over the threshold is posted. -/
def frerLatent (r : Nat) (d : Dev) : Dev :=
  match tabFind d.streams.recoveries r with
  | some e =>
    if e.latentMs == 0 || !d.over e.periodEnd then d
    else
      let e' := { e with passed := 0, discarded := 0, periodEnd := e.periodEnd + ms e.latentMs }
      let d1 := { d with streams := { d.streams with recoveries := tabPut d.streams.recoveries r e' } }
      let short := e.passed * (e.paths - 1) - e.discarded
      if e.latentThreshold < short then d1.post 0x0505 r short else d1
  | none => d

/-- FRER_LATENT_PERIOD_END. -/
def execFrerLatentPeriodEnd (entry : Nat) (s : State) : Out := onDev (frerLatent entry) s

end Sys2Proof.Machine
end

