-- ==== Sys2Proof/Machine/FabricCmds.lean ====
section
/-! DEFINITION. Fabric commands and the capture ring (chapter 04). -/

namespace Sys2Proof.Machine

open Sys2Proof

/-! ## Frames that leave at an internal port -/

/-- The head frame of the highest non-empty class of an internal port's transmit stage. -/
def Dev.internalHead (d : Dev) (p : Nat) : Option (Stored × Copy) := classesDown.findSome? (fun c => stageHeadOf d.fabric.frames p c)

/-- A frame has passed from the fabric at an internal port: counted as sent there, its copy gone; one over the port's
MAX_FRAME only counts in TX_OVERSIZE (R74). -/
def Dev.passOut (d : Dev) (p : Nat) (x : Stored × Copy) : Dev :=
  let bytes := egressBytes x.2 x.1.bytes
  let d1 := d.dropCopy x.1.id x.2
  if (d.port p).maxFrame < frameLen bytes then d1.count 2 (p * 64 + 20) else d1.countSent p bytes

/-- A frame the internal port does pass on: no longer than its MAX_FRAME (R74). -/
def Dev.passes (d : Dev) (p : Nat) (x : Stored × Copy) : Bool := decide (frameLen (egressBytes x.2 x.1.bytes) ≤ (d.port p).maxFrame)

/-! ## Capture ring (R110, R111) -/

/-- The end of the ring, and the first record's place. -/
def ringEnd : Nat := 0x100000
/-- The offset of the first record. -/
def ringBase : Nat := 0x40

/-- Bytes between READ_OFF and WRITE_OFF in ring order, for a READ_OFF. -/
def CaptureRing.used (c : CaptureRing) (readOff : Nat) : Nat := (c.writeOff + (ringEnd - ringBase) - readOff) % (ringEnd - ringBase)

/-- The READ_OFF a write at an uptime is judged by: the one before an acknowledgement of that tick (R111). -/
def CaptureRing.judgedBy (c : CaptureRing) (now : Nat) : Nat :=
  match c.acked with
  | some (t, old) => if t == now then old else c.readOff
  | none => c.readOff

/-- A record's 32-byte header. -/
def captureHeader (recLen type flags seq time origLen capLen portIn portOut session tc stream : Nat) : Bytes :=
  leb 2 recLen ++ leb 1 type ++ leb 1 flags ++ leb 4 seq ++ t80le time ++ leb 2 origLen ++ leb 2 capLen ++ leb 1 portIn ++ leb 1 portOut ++
    leb 1 session ++ leb 1 tc ++ leb 2 stream ++ zeros 4

/-- The record of a frame that reached P93. -/
def Dev.captureRecord (d : Dev) (f : Stored) (k : Copy) : Bytes :=
  let c := d.fabric.capture
  let bytes := egressBytes k f.bytes
  let whole := bytes ++ leb 4 (crc32 bytes)
  let cap := min f.len c.snapLen
  let sampled := decide (1 < (tabGet mirror0 d.fabric.mirrors k.session).sampleN) && k.kind != 0
  let flags := b2n (decide (cap < f.len)) + 2 * b2n (k.kind == 2) + 4 * b2n sampled
  let recLen := (32 + cap + 31) / 32 * 32
  slice (captureHeader recLen 1 flags c.seqNext f.info.time f.len cap f.info.inPort k.mirrored k.session f.info.tc f.info.handle ++
    slice whole 0 cap) 0 recLen

/-- Place a record: after a pad record to the ring's end where it does not fit there. The ring after it; none where STOP mode
has no room (R110, R111). -/
def CaptureRing.place (c : CaptureRing) (now : Nat) (r : Bytes) : Option CaptureRing :=
  let wraps := decide (ringEnd < c.writeOff + r.length)
  let pad := if wraps then ringEnd - c.writeOff else 0
  if !c.wrap && decide (ringEnd - ringBase ≤ c.used (c.judgedBy now) + pad + r.length) then none
  else
    let m1 := if wraps then memWriteN c.mem c.writeOff (slice (captureHeader pad 0 0 0 0 0 0 0 0 0 0 0) 0 pad) else c.mem
    let at_ := if wraps then ringBase else c.writeOff
    let next := if at_ + r.length == ringEnd then ringBase else at_ + r.length
    some { c with
      mem := memWriteN m1 at_ r, writeOff := next, seqNext := (c.seqNext + 1) % 2 ^ 32
      wraps := (c.wraps + b2n wraps + b2n (next == ringBase)) % 2 ^ 32
      bounds := if c.wrap then [] else c.bounds ++ (if wraps then [ringBase] else []) ++ [next] }

/-- CAPTURE_RECORD_WRITE: P93's head frame goes into the ring. While capture is disabled the frame goes nowhere. -/
def captureWrite (d : Dev) : Dev :=
  match d.internalHead 93 with
  | none => d
  | some x =>
    let c := d.fabric.capture
    if !c.enable || !d.passes 93 x then d.passOut 93 x
    else match c.place d.uptime (d.captureRecord x.1 x.2) with
      | some c' => d.transfer 14 64 (fun e =>
          let e1 := e.passOut 93 x
          ({ e1 with fabric := { e1.fabric with capture := c' } }).count 3 3076)
      | none =>
        let d2 := (d.passOut 93 x).count 3 3077
        if c.fullPosted then d2
        else ({ d2 with fabric := { d2.fabric with capture := { c with fullPosted := true } } }).post 0x0304 0 c.writeOff

/-- CAPTURE_RECORD_WRITE. -/
def execCaptureRecordWrite (s : State) : Out := onDev captureWrite s

/-! ## Staged commands -/

/-- FAB_BUFFER_CFG's checks. -/
def checkFabBuffer : Dev → Bytes → Nat :=
  checkLayout 224
    ((List.range 8).map (fun c => fr (2 * c) 2 0 49152) ++ [fr 0x10 2 0 4096, fr 0x12 1 50 100, fr 0x14 12 0 (2 ^ 50 - 1)] ++
      (List.range 96).map (fun p => fr (0x20 + 2 * p) 2 1 49152))
    (fun _ => true)

/-- FAB_BUFFER_CFG in force (R97). -/
def applyFabBuffer (bs : Bytes) (d : Dev) : Dev :=
  ({ d with fabric := { d.fabric with
      share := (List.range 8).map (fun c => le bs (2 * c) 2), twinReserve := le bs 0x10 2, highPct := byteAt bs 0x12
      ctMask := le bs 0x14 12, portMax := (List.range 96).map (fun p => (p, le bs (0x20 + 2 * p) 2)) } }).levelCheck

/-- FAB_BUFFER_CFG. -/
def execFabBufferCfg (rq : Req) (s : State) : Out := onDev (Dev.serveStaged 0x0301 rq checkFabBuffer) s

/-- FAB_MIRROR_CFG's checks. -/
def checkFabMirror : Dev → Bytes → Nat :=
  checkLayout 24 [fr 0 1 0 7, fr 1 1 0 1, fr 2 1 0 95, fr 3 1 0 5, fr 4 2 1 65535, fr 6 1 0 7, fa 8 12]
    (fun bs =>
      let p := byteAt bs 2
      (decide (p < 50) || p == 90 || p == 91 || decide (93 ≤ p)) && !(byteAt bs 1 == 1 && byteAt bs 6 % 4 == 0))

/-- FAB_MIRROR_CFG in force: the count starts at 0 (R108). -/
def applyFabMirror (bs : Bytes) (d : Dev) : Dev :=
  let m : Mirror :=
    { enable := byteAt bs 1 == 1, dest := byteAt bs 2, tc := byteAt bs 3, sampleN := le bs 4 2, dir := byteAt bs 6, srcMask := le bs 8 12, count := 0 }
  { d with fabric := { d.fabric with mirrors := tabPut d.fabric.mirrors (byteAt bs 0) m } }

/-- FAB_MIRROR_CFG. -/
def execFabMirrorCfg (rq : Req) (s : State) : Out := onDev (Dev.serveStaged 0x0302 rq checkFabMirror) s

/-- FAB_CAPTURE_CFG's checks. -/
def checkFabCapture : Dev → Bytes → Nat := checkLayout 8 [fr 0 1 0 1, fr 1 1 0 1, fr 2 2 64 9216] (fun _ => true)

/-- FAB_CAPTURE_CFG in force: the ring restarts empty. -/
def applyFabCapture (bs : Bytes) (d : Dev) : Dev :=
  { d with fabric := { d.fabric with
      capture := { captureRing0 with
        enable := byteAt bs 0 == 1, wrap := byteAt bs 1 == 1, snapLen := le bs 2 2, mem := d.fabric.capture.mem } } }

/-- FAB_CAPTURE_CFG. -/
def execFabCaptureCfg (rq : Req) (s : State) : Out := onDev (Dev.serveStaged 0x0303 rq checkFabCapture) s

/-- FAB_LAG_CFG's checks. -/
def checkFabLag : Dev → Bytes → Nat :=
  checkLayout 20 [fr 0 1 0 7, fr 1 1 0 1, fr 2 1 0 3, fa 4 8, fa 0x0C 2, fr 0x0E 2 1 1000, fa 0x10 4]
    (fun bs => (List.range 8).all (fun i => decide (byteAt bs (4 + i) < 34) || byteAt bs (4 + i) == 0xFF) && bits (le bs 0x0C 2) 9 6 == 0)

/-- Members of FAB_LAG_CFG. -/
def lagMembers (bs : Bytes) : Tab Nat :=
  (List.range 8).filterMap (fun i => if byteAt bs (4 + i) == 0xFF then none else some (i, byteAt bs (4 + i)))

/-- FAB_LAG_CFG in force: the map is recomputed, moved buckets are fenced; with a group that goes its fences release. -/
def applyFabLag (bs : Bytes) (d : Dev) : Dev :=
  let g := byteAt bs 0
  if byteAt bs 1 == 0 then
    let d1 := (tabGet lag0 d.fabric.lags g).fences.foldl (fun e f => e.putFrames (clearMark f.id e.fabric.frames)) d
    { d1 with fabric := { d1.fabric with lags := tabDel d1.fabric.lags g } }
  else
    let old := tabGet lag0 d.fabric.lags g
    let ms := lagMembers bs
    let same := fun (m : Nat × Nat) => old.members.contains m
    let l : Lag := { old with
      lacp := byteAt bs 2, members := ms, hashFields := le bs 0x0C 2, fenceUs := le bs 0x0E 2, seed := le bs 0x10 4
      partner := old.partner.filter (fun x => ms.any (fun m => m.1 == x.1 && same m))
      partnerDeadline := old.partnerDeadline.filter (fun x => ms.any (fun m => m.1 == x.1 && same m)) }
    ({ d with fabric := { d.fabric with lags := tabPut d.fabric.lags g l } }).lagRemap g

/-- FAB_LAG_CFG. -/
def execFabLagCfg (rq : Req) (s : State) : Out := onDev (Dev.serveStaged 0x0305 rq checkFabLag) s

/-- FAB_HOPPER_CFG's checks. -/
def checkFabHopper : Dev → Bytes → Nat :=
  checkLayout 8 [fr 0 1 0 15, fr 1 1 1 5, fa 2 2] (fun bs => decide (le bs 2 2 ≤ poolCount (byteAt bs 1)))

/-- FAB_HOPPER_CFG in force: buffers held over a reduced reservation count against the unreserved part (R119). -/
def applyFabHopper (bs : Bytes) (d : Dev) : Dev :=
  let o := byteAt bs 0
  let p := byteAt bs 1
  let n := le bs 2 2
  let q := d.pool p
  let excess := heldReserved q o - n
  let shed := q.bufs.foldl (fun (acc : Nat × Tab Buf) x =>
    if 0 < acc.1 && x.2.owner == o && x.2.reserved then (acc.1 - 1, acc.2 ++ [(x.1, { x.2 with reserved := false })])
    else (acc.1, acc.2 ++ [x])) (excess, [])
  d.putPool p { q with reserve := if n == 0 then tabDel q.reserve o else tabPut q.reserve o n, bufs := shed.2 }

/-- FAB_HOPPER_CFG. -/
def execFabHopperCfg (rq : Req) (s : State) : Out := onDev (Dev.serveStaged 0x0307 rq checkFabHopper) s

/-! ## Immediate commands -/

/-- FAB_CAPTURE_ACK: READ_OFF must be a record boundary not beyond WRITE_OFF. -/
def fabCaptureAck (rq : Req) (d : Dev) : Dev :=
  d.serve 0x0304 rq (rspMax 0) (fun d _ bs => withLayout d 4 [fa 0 4] bs
    (let c := d.fabric.capture
     let v := le bs 0 4
     if !c.enable || c.wrap then ansErr d stWrongMode
     else if v != c.readOff && !c.bounds.contains v then ansErr d stBadParam
     else
       let rest := if v == c.readOff then c.bounds else (c.bounds.dropWhile (fun x => x != v)).drop 1
       ansOk { d with fabric := { d.fabric with capture := { c with
         readOff := v, bounds := rest, fullPosted := false, acked := some (d.uptime, c.judgedBy d.uptime) } } } []))

/-- FAB_CAPTURE_ACK. -/
def execFabCaptureAck (rq : Req) (s : State) : Out := onDev (fabCaptureAck rq) s

/-- FAB_LAG_STATUS. -/
def fabLagStatus (rq : Req) (d : Dev) : Dev :=
  d.serve 0x0306 rq (rspMax 260) (fun d _ bs => withLayout d 4 [fr 0 1 0 7] bs
    (let l := tabGet lag0 d.fabric.lags (byteAt bs 0)
     let entry := fun (b : Nat) => match bucketPort l.dist b with
       | some p => (match l.members.find? (fun (m : Nat × Nat) => m.2 == p) with
         | some m => m.1
         | none => 0xFF)
       | none => 0xFF
     ansOk d (leb 1 (distMask l l.dist) ++ zeros 1 ++ leb 2 l.fences.length ++ (List.range 256).flatMap (fun b => leb 1 (entry b)))))

/-- FAB_LAG_STATUS. -/
def execFabLagStatus (rq : Req) (s : State) : Out := onDev (fabLagStatus rq) s

/-- FAB_HOPPER_STATUS. -/
def fabHopperStatus (rq : Req) (d : Dev) : Dev :=
  d.serve 0x0308 rq (rspMax 40) (fun d _ bs => withLayout d 0 [] bs
    (ansOk d ([1, 2, 3, 4, 5].flatMap (fun p =>
      leb 2 (poolCount p - (d.pool p).bufs.length) ++ leb 2 (reservedSum (d.pool p)) ++ leb 2 (heldBy (d.pool p) 9) ++ zeros 2))))

/-- FAB_HOPPER_STATUS. -/
def execFabHopperStatus (rq : Req) (s : State) : Out := onDev (fabHopperStatus rq) s

/-- FAB_HOPPER_ALLOC: for owner 9; NO_RESOURCE carries the pool code. -/
def fabHopperAlloc (rq : Req) (d : Dev) : Dev :=
  d.serve 0x0309 rq (rspMax 4) (fun d _ bs => withLayout d 4 [fr 0 2 1 10240] bs
    (let r := d.hopperAlloc 9 (le bs 0 2)
     match r.1 with
     | some h => ansOk r.2 (leb 4 h)
     | none => ansErrD r.2 stNoResource ((poolFor (le bs 0 2)).getD 0)))

/-- FAB_HOPPER_ALLOC. -/
def execFabHopperAlloc (rq : Req) (s : State) : Out := onDev (fabHopperAlloc rq) s

/-- FAB_HOPPER_FREE. -/
def fabHopperFree (rq : Req) (d : Dev) : Dev :=
  d.serve 0x030A rq (rspMax 4) (fun d _ bs => withLayout d 4 [fa 0 4] bs
    (match d.handle (le bs 0 4) with
     | .inl r => ansErr (d.noteBadHandle 9 (le bs 0 4) r) stBadParam
     | .inr (p, i) =>
       match tabFind (d.pool p).bufs i with
       | none => ansErr d stBadParam
       | some b => if b.owner == 9 then ansOk (d.dropRefs p i 9 1) (leb 2 (b.refs - 1) ++ zeros 2) else ansErr d stNotPermitted))

/-- FAB_HOPPER_FREE. -/
def execFabHopperFree (rq : Req) (s : State) : Out := onDev (fabHopperFree rq) s

/-- Cells and waiting frames of a port's class. -/
def queueClass (fs : List Stored) (p c : Nat) : Nat × Nat :=
  ((fs.map (fun f => (f.copies.filter (fun k => k.port == p && k.tc == c)).length * f.cells)).sum,
    (fs.map (fun f => (f.copies.filter (fun k => k.port == p && k.tc == c && !k.started)).length)).sum)

/-- FAB_QUEUE_STATUS. -/
def fabQueueStatus (rq : Req) (d : Dev) : Dev :=
  d.serve 0x030B rq (rspMax 72) (fun d _ bs => withLayout d 4 [fr 0 1 0 95] bs
    (let p := byteAt bs 0
     let fs := d.fabric.frames
     ansOk d (leb 4 (portCells fs p) ++ leb 4 (d.commonUsed fs) ++ (List.range 8).flatMap (fun c => leb 4 (queueClass fs p c).1) ++
       (List.range 8).flatMap (fun c => leb 4 (queueClass fs p c).2))))

/-- FAB_QUEUE_STATUS. -/
def execFabQueueStatus (rq : Req) (s : State) : Out := onDev (fabQueueStatus rq) s

end Sys2Proof.Machine
end

