-- ==== Sys2Proof/Machine/Lauter.lean ====
section
/-! DEFINITION. Lauter (chapter 05): the tables L0 to L5 on one frame (R123 to R149), the effects of a frame's valid end
(R125, R132, R147, R161), the recirculation reader, the scanners, and the flip of the rule banks (R150). -/

namespace Sys2Proof.Machine

open Sys2Proof

/-! ## Tables -/

/-- L0's entry of a port. -/
def RuleBank.port (b : RuleBank) (p : Nat) : LPort := tabGet (lport0 p) b.ports p

/-- M[X][Y]: ALLOW on the diagonal and DENY elsewhere until it is written (05, L4). -/
def RuleBank.policy (b : RuleBank) (x y : Nat) : Nat := tabGet (if x == y then 1 else 0) b.matrix (x * 64 + y)

/-- A port's DEFAULT_ZONE as a destination (R144); a CN or SL port is reached through P94 (log 21). -/
def RuleBank.portZone (b : RuleBank) (p : Nat) : Nat := (b.port (if 50 ≤ p ∧ p < 90 then 94 else p)).zone

/-- The LAG group a port is a member of. -/
def Dev.lagOf (d : Dev) (p : Nat) : Option Nat :=
  (d.fabric.lags.find? (fun e => e.2.members.any (fun m => m.2 == p))).map (fun e => e.1)

/-- A port as a source: its own destination encoding, or its LAG's (R132). -/
def Dev.sourceDest (d : Dev) (p : Nat) : Nat :=
  match d.lagOf p with
  | some g => 0x400 + g
  | none => p

/-- The FDB bucket of an address (05, L1). -/
def fdbBucket (fid mac : Nat) : Nat := crc32 (beb 2 fid ++ beb 6 mac) % 8192

/-- The FDB entry of an address: its index and itself. -/
def Dev.fdbFind (d : Dev) (fid mac : Nat) : Option (Nat × Fdb) :=
  let b := fdbBucket fid mac
  d.lauter.fdb.find? (fun e => e.1 / 4 == b && e.2.mac == mac && e.2.fid == fid)

/-- Replace the FDB. -/
def Dev.putFdb (d : Dev) (t : Tab Fdb) : Dev := { d with lauter := { d.lauter with fdb := t } }

/-- Dynamic entries a destination encoding holds. -/
def Dev.dynamicOf (d : Dev) (dest : Nat) : Nat :=
  (d.lauter.fdb.filter (fun e => !e.2.isStatic && e.2.dest == dest)).length

/-- The lowest free way of a bucket. -/
def freeWay {α : Type} (t : Tab α) (bucket : Nat) : Option Nat :=
  ([0, 1, 2, 3].find? (fun w => !tabHas t (bucket * 4 + w))).map (fun w => bucket * 4 + w)

/-! ## L2 keys (R136) -/

/-- Append a field of n bits to a key being built from its most significant end. -/
def keyField (k n v : Nat) : Nat := k * 2 ^ n + v % 2 ^ n

/-- Key type 0. -/
def aclKey0 (g : Grist) (vid port zone metaWord : Nat) : Nat :=
  let k := keyField 0 2 0
  let k := keyField (keyField k 48 g.da) 48 g.sa
  let k := keyField (keyField (keyField k 12 vid) 3 g.outerPcp) 16 g.etype
  let v4 := g.l3 == 4
  let k := keyField (keyField k 32 (if v4 then g.ipSa else 0)) 32 (if v4 then g.ipDa else 0)
  let k := keyField (keyField k 8 g.proto) 6 g.dscp
  let k := keyField (keyField k 16 g.sport) 16 g.dport
  let k := keyField (keyField (keyField k 8 g.tcpFlags) 2 g.frag) 8 g.parseFlags
  let k := keyField (keyField (keyField k 7 port) 6 zone) 12 metaWord
  keyField k 38 0

/-- Key type 1. -/
def aclKey1 (g : Grist) (port zone : Nat) : Nat :=
  let k := keyField 0 2 1
  let v6 := g.l3 == 6
  let k := keyField (keyField k 128 (if v6 then g.ipSa else 0)) 128 (if v6 then g.ipDa else 0)
  let k := keyField (keyField (keyField k 8 g.proto) 16 g.sport) 16 g.dport
  let k := keyField (keyField (keyField k 8 g.tcpFlags) 7 port) 6 zone
  keyField k 1 (b2n g.l4)

/-- The lowest-indexed entry whose compared bits equal the key's. -/
def aclFind (t : Tab Acl) (key : Nat) : Option (Nat × Acl) :=
  t.find? (fun e => (key &&& e.2.mask) == (e.2.key &&& e.2.mask))

/-! ## The carry word -/

/-- The carry word's fields and what the tables add to the frame (R124). -/
structure Carry where
  port : Nat
  second : Bool
  zone : Nat
  /-- DST_ZONE of a single destination. -/
  dstZone : Nat
  dest : Nat
  /-- DISP: 0 by L1, 1 by L2, 2 drop. -/
  disp : Nat
  reason : Nat
  vid : Nat
  fid : Nat
  tc : Nat
  metaWord : Nat
  profile : Nat
  bypass : Bool
  copyDenied : Bool
  pcp : Nat
  deriving DecidableEq, Repr

/-- Drop with a reason; the first table to drop decides (R124). -/
def Carry.drop (c : Carry) (reason : Nat) : Carry := if c.disp == 2 then c else { c with disp := 2, reason := reason }

/-- Set the destination unless the frame is dropped. -/
def Carry.setDest (c : Carry) (disp dest zone : Nat) : Carry :=
  if c.disp == 2 then c else { c with disp := disp, dest := dest, dstZone := zone }

/-- L0 (R126 to R128): VID, class, source zone; and the session binding that gave the zone, if one did. -/
def l0 (d : Dev) (a : Arrived) (g : Grist) : Carry × Bool :=
  let port := match a.second with | some s => s.inPort | none => a.port
  let e := d.lauter.bank.port port
  let tagged := g.vlanCount != 0 && g.outerVid != 0
  let vid := if tagged then g.outerVid else e.pvid
  let vlan := tabFind d.lauter.bank.vlans vid
  let valid := match vlan with | some v => bit v.flags 0 | none => false
  let fid := match vlan with | some v => v.fid | none => 0
  let member := match vlan with | some v => bit v.member port | none => false
  let defPcp := if port == 90 then a.ring else bits e.pcpTc 24 3
  let pcp := match a.second with
    | some s => s.pcp
    | none => if g.vlanCount != 0 then g.outerPcp else defPcp
  let bad := (e.accept == 1 && !tagged) || (e.accept == 2 && tagged) || !valid || (bit e.flags 0 && !member)
  let vlanZone := match vlan with
    | some v => if bit v.flags 0 && bit v.flags 4 then v.zone else e.zone
    | none => e.zone
  let exactMatch := fun (b : Nat × Binding) => b.2.port == port && b.2.vid == vid && !b.2.wildcard && b.2.sa == g.sa
  let anyMatch := fun (b : Nat × Binding) => b.2.port == port && b.2.vid == vid && b.2.wildcard
  let bound := match d.lauter.bindings.find? exactMatch with
    | some b => some b
    | none => d.lauter.bindings.find? anyMatch
  let zone := match a.second with
    | some s => s.zone
    | none => match bound with
      | some b => b.2.zone
      | none => vlanZone
  let c : Carry :=
    { port := port, second := a.second.isSome, zone := zone, dstZone := 0, dest := 0xC00, disp := 0, reason := 0, vid := vid,
      fid := fid, tc := bits e.pcpTc (3 * pcp) 3,
      metaWord := match a.second with | some s => s.metaWord | none => 0,
      profile := 0, bypass := false, copyDenied := false, pcp := pcp }
  (if bad then c.drop 1 else c, a.second.isNone && bound.isSome)

/-- The VLAN's flags. -/
def vlanFlags (d : Dev) (vid : Nat) : Nat :=
  match tabFind d.lauter.bank.vlans vid with
  | some v => if bit v.flags 0 then v.flags else 0
  | none => 0

/-- L1, destination lookup (R131). -/
def l1Dest (d : Dev) (g : Grist) (c : Carry) : Carry :=
  if g.da == broadcast then c.setDest 0 0xC00 0
  else
    match d.fdbFind c.fid g.da with
    | some (_, e) => c.setDest 0 e.dest e.zone
    | none => if bit (vlanFlags d c.vid) (if isGroup g.da then 3 else 2) then c.setDest 0 0xC00 0 else c.drop 12

/-- Learning applies: LEARN is set on the port and on the VLAN (R132). -/
def mayLearn (d : Dev) (c : Carry) : Bool :=
  !c.second && bit (d.lauter.bank.port c.port).flags 1 && bit (vlanFlags d c.vid) 1

/-- L1, source lookup (R133): a static entry elsewhere, or an unknown address over the limit, drops the frame; the limit is tested on
the first pass alone (R148). -/
def l1Source (d : Dev) (g : Grist) (c : Carry) : Carry :=
  let e := d.lauter.bank.port c.port
  let src := d.sourceDest c.port
  match d.fdbFind c.fid g.sa with
  | some (_, f) => if f.isStatic && f.dest != src then c.drop 2 else c
  | none =>
    if mayLearn d c && e.learnLimit != 0 && decide (e.learnLimit ≤ d.dynamicOf src) && bit e.flags 2 then c.drop 13 else c

/-- The zone of a destination named by an ACL result (R144). -/
def destZone (d : Dev) (dest : Nat) : Nat :=
  if dest / 1024 == 0 then d.lauter.bank.portZone (dest % 1024)
  else if dest / 1024 == 1 then
    match tabFind d.fabric.lags (dest % 1024) with
    | some l => match l.members with | m :: _ => d.lauter.bank.portZone m.2 | [] => 0
    | none => 0
  else 0

/-- The key type of a frame (R136): the type its first pass did not use, on its second. -/
def keyType (d : Dev) (g : Grist) (c : Carry) : Nat :=
  let one := g.l3 == 6 && bit (d.lauter.bank.port c.port).flags 3
  if c.second then (if one then 0 else 1) else if one then 1 else 0

/-- L2 (R136, R137): the entry hit, and the carry word after it. -/
def l2 (d : Dev) (g : Grist) (c : Carry) : Option Nat × Carry :=
  let key := if keyType d g c == 1 then aclKey1 g c.port c.zone else aclKey0 g c.vid c.port c.zone c.metaWord
  match aclFind d.lauter.bank.acl key with
  | none => (none, c)
  | some (i, e) =>
    let c1 := if e.disp == 2 then c.drop 3 else if e.disp == 1 then c.setDest 1 e.dest (destZone d e.dest) else c
    let c2 := if bit e.zoneSet 7 then { c1 with zone := bits e.zoneSet 0 6 } else c1
    let c3 := if bit e.metaSet 15 then { c2 with metaWord := bits e.metaSet 0 12 } else c2
    (some i, { c3 with profile := e.profile, bypass := e.bypass })

/-! ## L3 and L4 -/

/-- An ICMP echo message. -/
def isEcho (g : Grist) : Bool :=
  (g.proto == 1 && (g.icmpType == 8 || g.icmpType == 0)) || (g.proto == 58 && (g.icmpType == 128 || g.icmpType == 129))

/-- L3 looks the frame up (R138). -/
def tracked (g : Grist) : Bool :=
  g.l3Valid && g.l4 && (g.proto == 6 || g.proto == 17 || isEcho g) && !isGroup g.da

/-- Source and destination endpoints as 18-byte numbers (R139). -/
def endpoints (g : Grist) : Nat × Nat :=
  let sp := if isEcho g then g.icmpId else g.sport
  let dp := if isEcho g then g.icmpId else g.dport
  (g.ipSa * 65536 + sp, g.ipDa * 65536 + dp)

/-- LO and HI (R139). -/
def loHi (g : Grist) : Nat × Nat :=
  let e := endpoints g
  if e.1 ≤ e.2 then (e.1, e.2) else (e.2, e.1)

/-- FAMILY of the key. -/
def family (g : Grist) : Nat := g.l3

/-- The connection bucket (R139). -/
def ctBucket (seed fam proto lo hi : Nat) : Nat :=
  crc32 (beb 4 seed ++ beb 1 fam ++ beb 1 proto ++ beb 18 lo ++ beb 18 hi) % 16384

/-- The entry of a frame's connection. -/
def Dev.connFind (d : Dev) (g : Grist) : Option (Nat × Conn) :=
  let k := loHi g
  let b := ctBucket d.lauter.seed (family g) g.proto k.1 k.2
  d.lauter.conns.find? (fun e =>
    e.1 / 4 == b && e.2.lo == k.1 && e.2.hi == k.2 && e.2.family == family g && e.2.proto == g.proto)

/-- The frame comes from LO. -/
def fromLo (g : Grist) : Bool := decide ((endpoints g).1 ≤ (endpoints g).2)

/-- The frame comes from the originator. -/
def fromOrig (c : Conn) (g : Grist) : Bool := if c.origHi then !fromLo g else fromLo g

/-- TCP flags: FIN, SYN, RST, ACK. -/
def tcpFin (g : Grist) : Bool := bit g.tcpFlags 0
/-- SYN. -/
def tcpSyn (g : Grist) : Bool := bit g.tcpFlags 1
/-- RST. -/
def tcpRst (g : Grist) : Bool := bit g.tcpFlags 2
/-- ACK. -/
def tcpAck (g : Grist) : Bool := bit g.tcpFlags 4

/-- The state table of R140: the next state of an accepted frame, or none where the state does not accept it. -/
def ctNext (c : Conn) (g : Grist) : Option Nat :=
  let orig := fromOrig c g
  let syn := tcpSyn g
  let ack := tcpAck g
  let fin := tcpFin g
  let seenOther := if fromLo g then c.finHi else c.finLo
  if g.proto == 6 && tcpRst g then some 6
  else
    match c.state with
    | 1 => if orig && syn && !ack then some 1 else if !orig && syn && ack then some 2 else none
    | 2 =>
      if orig && ack && !syn then some 3
      else if (orig && syn && !ack) || (!orig && syn && ack) then some 2 else none
    | 3 => if syn then none else if fin then some 4 else some 3
    | 4 => if syn then none else if fin && seenOther then some 5 else some 4
    | 5 => if orig && syn && !ack then some 1 else if !syn && (ack || fin) then some 5 else none
    | 6 => if orig && syn && !ack then some 1 else none
    | 7 => if orig then some 7 else some 8
    | 8 => some 8
    | 9 =>
      let req := g.icmpType == 8 || g.icmpType == 128
      if req == orig then some 9 else none
    | _ => none

/-- An accepted frame's entry: its state, the FINs seen, its last frame (R140, R141). -/
def ctAdvance (c : Conn) (g : Grist) (st now : Nat) : Conn :=
  let fresh := st == 1
  let fin := g.proto == 6 && tcpFin g && decide (st = 4 ∨ st = 5)
  { c with
    state := st, last := now,
    finLo := !fresh && (c.finLo || (fin && fromLo g)),
    finHi := !fresh && (c.finHi || (fin && !fromLo g)) }

/-- The state a frame opens on a miss (R140, R142). -/
def ctOpens (loose : Bool) (g : Grist) : Option Nat :=
  if !tracked g then none
  else if g.proto == 6 then
    if tcpSyn g && !tcpAck g then some 1 else if loose && !tcpSyn g then some 3 else none
  else if g.proto == 17 then some 7
  else if g.icmpType == 8 || g.icmpType == 128 then some 9
  else none

/-- A new entry for the frame that opens it, with the zones it carries. -/
def ctNew (g : Grist) (st x y now : Nat) : Conn :=
  let k := loHi g
  let lo := fromLo g
  { lo := k.1, hi := k.2, family := family g, proto := g.proto, state := st, origHi := !lo,
    loZone := if lo then x else y, hiZone := if lo then y else x, finLo := false, finHi := false, last := now }

/-- Way w of a bucket is taken: by an entry there, or by the second half of an IPv6 entry below. -/
def wayTaken (t : Tab Conn) (bucket w : Nat) : Bool :=
  tabHas t (bucket * 4 + w) ||
  (decide (0 < w) && (match tabFind t (bucket * 4 + w - 1) with
    | some c => c.family == 6
    | none => false))

/-- Where a new entry goes: a free way, or two adjacent ones for IPv6 (R140). -/
def ctSlot (t : Tab Conn) (bucket : Nat) (v6 : Bool) : Option Nat :=
  if v6 then ([0, 1, 2].find? (fun w => !wayTaken t bucket w && !wayTaken t bucket (w + 1))).map (fun w => bucket * 4 + w)
  else ([0, 1, 2, 3].find? (fun w => !wayTaken t bucket w)).map (fun w => bucket * 4 + w)

/-- Replace the connection table. -/
def Dev.putConns (d : Dev) (t : Tab Conn) : Dev := { d with lauter := { d.lauter with conns := t } }

/-- A frame that is always permitted under TRACK (R143 step 3): group-addressed, ICMP errors, neighbour discovery. -/
def trackExempt (g : Grist) : Bool :=
  isGroup g.da || (g.l4 && g.proto == 58 && ((133 ≤ g.icmpType && g.icmpType ≤ 137) || (1 ≤ g.icmpType && g.icmpType ≤ 4))) ||
  (g.l4 && g.proto == 1 && (g.icmpType == 3 || g.icmpType == 11 || g.icmpType == 12))

/-- R143 step 3: a miss under TRACK. -/
def trackMiss (d : Dev) (g : Grist) (c : Carry) (held : Option Nat) : Carry × Dev :=
  if trackExempt g then (c, d)
  else
    match ctOpens (d.lauter.loose || d.twin.looseEnd.isSome) g with
    | some st =>
      let k := loHi g
      let bucket := ctBucket d.lauter.seed (family g) g.proto k.1 k.2
      let slot := match held with
        | some i => some i
        | none => ctSlot d.lauter.conns bucket (g.l3 == 6)
      match slot with
      | some i => (c, (d.putConns (tabPut d.lauter.conns i (ctNew g st c.zone c.dstZone d.uptime))).count 4 6216)
      | none => (c.drop 7, (d.count 4 6217).postLimited 0x0402 0 bucket (family g + g.proto * 256))
    | none =>
      if !g.l3Valid || !tracked g || g.frag == 2 || g.extLimit || g.truncated then (c.drop 8, d.count 4 6221)
      else (c.drop 5, d.count 4 6220)

/-- R143 steps 2 to 4: a miss, or a hit treated as one. -/
def zoneMiss (d : Dev) (g : Grist) (c : Carry) (held : Option Nat) : Carry × Dev :=
  let m := d.lauter.bank.policy c.zone c.dstZone
  match bits m 0 2 with
  | 1 => (c, d)
  | 2 => trackMiss d g c held
  | _ => ({ c.drop 4 with copyDenied := bit m 2 }, d.count 4 (6144 + c.zone))

/-- L3 and L4 on a single-destination frame (R138 to R143). -/
def l3l4 (d : Dev) (g : Grist) (c : Carry) : Carry × Dev :=
  if !tracked g then zoneMiss d g c none
  else
    match d.connFind g with
    | none => zoneMiss d g c none
    | some (i, e) =>
      let o := if e.origHi then e.hiZone else e.loZone
      let q := if e.origHi then e.loZone else e.hiZone
      let zones := if fromOrig e g then c.zone == o && c.dstZone == q else c.zone == q && c.dstZone == o
      if bits (d.lauter.bank.policy o q) 0 2 == 2 && zones then
        match ctNext e g with
        | some st => (c, d.putConns (tabPut d.lauter.conns i (ctAdvance e g st d.uptime)))
        | none => (c.drop 6, d.count 4 6219)
      else zoneMiss d g c (some i)

/-- The frame has a single destination: a port or a LAG. -/
def Carry.single (c : Carry) : Bool := decide (c.dest / 1024 < 2)

/-! ## L5 and the copies -/

/-- The ports of a flood or a multicast group, in ascending order. -/
def destMask (d : Dev) (c : Carry) : Nat :=
  if c.dest / 1024 == 2 then tabGet 0 d.lauter.mcast (c.dest % 1024)
  else match tabFind d.lauter.bank.vlans c.vid with
    | some v => v.member
    | none => 0

/-- The bucket of a frame in a group (R113). -/
def Dev.bucketOf (d : Dev) (grp : Nat) (g : Grist) : Nat :=
  match tabFind d.fabric.lags grp with
  | some l => lagBucket l.hashFields l.seed g
  | none => 0

/-- The member of a group that takes a frame, with the open fence of its bucket; none counts in DROP_LAG_DOWN (R114). -/
def Dev.lagMember (d : Dev) (grp : Nat) (g : Grist) : Option (Nat × Option Nat) :=
  match tabFind d.fabric.lags grp with
  | none => none
  | some l =>
    let b := d.bucketOf grp g
    (bucketPort l.dist b).map (fun p => (p, d.openFence grp b))

/-- The egress tag of a copy (R130): untagged on a port of the VLAN's UNTAG mask, else with VID and received PCP. The DEI bit
stays as received. -/
def egressTag (d : Dev) (g : Grist) (c : Carry) (port : Nat) : Option (Option Nat) :=
  let untag := match tabFind d.lauter.bank.vlans c.vid with
    | some v => bit v.untag port
    | none => false
  if untag then some none
  else some (some (c.pcp * 8192 + (if g.vlanCount != 0 && g.outerDei then 4096 else 0) + c.vid))

/-- One copy to a port: a CN or SL port through P94, P92 as stored. -/
def portCopy (d : Dev) (g : Grist) (c : Carry) (slice p : Nat) (fence : Option Nat) : Copy :=
  let q := if 50 ≤ p ∧ p < 90 then 94 else p
  { copyTo q p c.tc slice (if p == 92 then none else egressTag d g c p) with fenced := fence }

/-- A LAG's copy. -/
def lagCopy (d : Dev) (g : Grist) (c : Carry) (slice grp : Nat) : List Copy × Dev :=
  match d.lagMember grp g with
  | some (p, fence) => ([portCopy d g c slice p fence], d)
  | none => ([], d.count 3 3080)

/-- The copies of a flood or group: member ports of zones M[X][Z] does not deny, the ingress port left out, a LAG once
(R131, R144). On a second pass no copy goes to P92, so that no frame passes Lauter a third time (R11, R148; log 86). -/
def floodCopies (d : Dev) (g : Grist) (c : Carry) (slice : Nat) : List Copy × Dev :=
  let mask := destMask d c
  let ports := (List.range 96).filter (fun p =>
    bit mask p && p != c.port && !(c.second && p == 92) && (c.bypass || bits (d.lauter.bank.policy c.zone (d.lauter.bank.portZone p)) 0 2 != 0))
  let own := d.lagOf c.port
  let lags := ((ports.filterMap (fun p => d.lagOf p)).eraseDups).filter (fun x => own != some x)
  let plain := (ports.filter (fun p => (d.lagOf p).isNone)).map (fun p => portCopy d g c slice p none)
  lags.foldl (fun acc x => let r := lagCopy acc.2 g c slice x; (acc.1 ++ r.1, r.2)) (plain, d)

/-- The copies a forwarded frame gets (R146); a second pass for P92 is a loop (R148). -/
def forwardCopies (d : Dev) (g : Grist) (c : Carry) (slice : Nat) : List Copy × Dev :=
  if c.disp == 2 then ([], d)
  else if c.dest / 1024 == 0 then ([portCopy d g c slice (c.dest % 1024) none], d)
  else if c.dest / 1024 == 1 then lagCopy d g c slice (c.dest % 1024)
  else floodCopies (if c.dest / 1024 == 3 then d.count 4 6214 else d) g c slice

/-- The counter of a drop reason, at L5 (R146). Reasons 4 to 8 have been counted where they arose. -/
def countReason (d : Dev) (reason : Nat) : Dev :=
  match reason with
  | 1 => d.count 4 6215
  | 2 => d.count 4 6213
  | 10 => d.count 4 6225
  | 11 => d.count 4 6226
  | 12 => d.count 4 6230
  | _ => d

/-- The copy limiter filled up to now: one token each 1 / SPIRE_RATE s, at most 64; in parts of 10^-9 token. -/
def spireTokensNow (d : Dev) : Nat :=
  min (d.lauter.spireTokens + d.lauter.spireRate * (d.uptime - d.lauter.spireLast)) 64000000000

/-- Up to n copies to P91 in the frame's class, one for each token the limiter has (R146). -/
def Dev.spireCopies (info : FrameInfo) : Nat → Dev → List Copy × Dev
  | 0, d => ([], d)
  | n + 1, d =>
    let t := spireTokensNow d
    let d1 := { d with lauter := { d.lauter with spireTokens := if 1000000000 ≤ t then t - 1000000000 else t, spireLast := d.uptime } }
    if 1000000000 ≤ t then
      let r := Dev.spireCopies info n (d1.count 4 6222)
      ({ copyTo 91 91 info.tc (sliceOf info.inPort) none with kind := 3 } :: r.1, r.2)
    else Dev.spireCopies info n (d1.count 4 6223)

/-- A finished verdict takes effect (R146): the originals, with the copies to P91 and the mirror copies of one stored frame; of a dropped
frame the copies alone. -/
def Dev.finishVerdict (d : Dev) (bytes : Bytes) (v : Verdict) (receiving : Bool) : Dev :=
  let r := Dev.spireCopies v.info v.spire d
  if v.dropped then r.2.enqueueDropped bytes (frameLen bytes) v.info r.1 v.mirror
  else
    let d1 := if v.copies.isEmpty then r.2 else r.2.count 3 (if receiving then 3072 else 3073)
    d1.enqueue bytes (frameLen bytes) v.info (v.copies ++ r.1) v.mirror receiving

/-- No copy to P91 is made of the frame. -/
def Dev.noSpireCopy (d : Dev) (v : Verdict) : Bool := v.spire == 0 || decide (spireTokensNow d < 1000000000)

/-- The six tables on one frame: the verdict, the learning its valid end makes, and the state with what takes effect at
once (R124, R125). -/
def Dev.lauterRun (d : Dev) (a : Arrived) (g : Grist) (handle : Nat) : Verdict × Option Learn × Dev :=
  let r0 := l0 d a g
  let d1 := if r0.2 then d.count 4 6229 else d
  let d1 := if a.second.isSome then d1.count 4 6224 else d1
  let genBad := match a.second with | some s => s.gen != d.lauter.gen | none => false
  let c0 := if genBad then { r0.1 with disp := 2, reason := 11 } else r0.1
  let c1 := l1Source d1 g (l1Dest d1 g c0)
  let r2 := l2 d1 g c1
  let d2 := match r2.1 with | some i => d1.count 4 i | none => d1
  let c2 := r2.2
  let r3 := if c2.disp == 2 || c2.bypass || !c2.single then (c2, d2) else l3l4 d2 g c2
  let c3 := r3.1
  let pr := tabGet profile0 d.lauter.bank.profiles c3.profile
  let c4 := if bit pr.tc 7 then { c3 with tc := bits pr.tc 0 3 } else c3
  let c5 := if c4.second && c4.disp != 2 && c4.dest == 92 then c4.drop 10 else c4
  let slice := if a.second.isSome then 8 else sliceOf a.port
  let yellow := match a.second with | some s => s.yellow | none => false
  let fc := forwardCopies r3.2 g c5 slice
  let d4 := countReason fc.2 (if c5.disp == 2 then c5.reason else 0)
  let d5 := if c5.disp == 2 && c5.reason == 2 then d4.postLimited 0x0403 c5.port c5.port g.sa else d4
  let d6 := if genBad then ((d5.faultF1 0x0402 c5.port 0).post 0x0405 c5.port 1) else d5
  let info : FrameInfo :=
    { inPort := c5.port, time := a.time, tc := c5.tc, handle := handle, zone := c5.zone, gen := d.lauter.gen, vid := c5.vid,
      metaWord := c5.metaWord, pcp := c5.pcp, ts := a.ts, arrival := a.arrival, yellow := yellow }
  let v : Verdict :=
    { info := info, copies := fc.1.map (fun k => { k with tag := yellowTag yellow g k.tag }),
      mirror := if bit pr.mirror 7 && !genBad then some (bits pr.mirror 0 3) else none,
      policer := if bit pr.policer 15 && c5.disp != 2 then some (bits pr.policer 0 10) else none,
      dropped := c5.disp == 2,
      spire := if genBad then 0 else b2n pr.copySpire + b2n c5.copyDenied }
  let learn : Learn := { fid := c5.fid, sa := g.sa, port := c5.port, dest := d.sourceDest c5.port, zone := c5.zone }
  (v, if c5.second then none else some learn, d6)

/-! ## The valid end (R125) -/

/-- Learning and the age bit (R132 to R134). -/
def Dev.learnNow (d : Dev) (l : Learn) (vid : Nat) : Dev :=
  let learns := bit (d.lauter.bank.port l.port).flags 1 && bit (vlanFlags d vid) 1
  match d.fdbFind l.fid l.sa with
  | some (i, e) =>
    if e.isStatic then d.putFdb (tabPut d.lauter.fdb i { e with age := true })
    else if learns && (e.dest != l.dest || e.zone != l.zone) then
      (d.putFdb (tabPut d.lauter.fdb i { e with dest := l.dest, zone := l.zone, age := true })).count 4 6209
    else d.putFdb (tabPut d.lauter.fdb i { e with age := true })
  | none =>
    if !learns then d
    else
      let limit := (d.lauter.bank.port l.port).learnLimit
      if limit != 0 && decide (limit ≤ d.dynamicOf l.dest) then d.count 4 6212
      else
        let b := fdbBucket l.fid l.sa
        match freeWay d.lauter.fdb b with
        | some i =>
          (d.putFdb (tabPut d.lauter.fdb i
            { mac := l.sa, fid := l.fid, dest := l.dest, zone := l.zone, isStatic := false, age := true })).count 4 6208
        | none => (d.count 4 6211).postLimited 0x0401 0 b (l.sa + l.fid * 2 ^ 48)

/-- A policer colours and charges a frame (R147): green, the class it leaves in, and whether it is dropped. -/
def Dev.police (d : Dev) (q len : Nat) (v : Verdict) : Verdict × Dev :=
  match tabFind d.lauter.bank.policers q with
  | none => (v, d)
  | some p =>
    let full := p.cbs * creditUnit
    let old := tabGet (full, d.uptime) d.lauter.credits q
    let have_ := min (old.1 + p.cir * (d.uptime - old.2)) full
    let need := len * creditUnit
    let put := fun (c : Nat) => { d with lauter := { d.lauter with credits := tabPut d.lauter.credits q (c, d.uptime) } }
    if need ≤ have_ then (v, (put (have_ - need)).count 4 (4096 + 2 * q))
    else
      let d1 := (put have_).count 4 (4097 + 2 * q)
      if p.mode == 0 then ({ v with dropped := true, copies := [] }, d1)
      else
        ({ v with
          info := { v.info with tc := p.redTc },
          copies := v.copies.map (fun k => { k with tc := p.redTc }) }, d1)

/-- A frame that the policer and the limits have let through takes its verdict. -/
def Dev.settleVerdict (d : Dev) (bytes : Bytes) (v : Verdict) : Dev :=
  match v.policer with
  | none => d.finishVerdict bytes v false
  | some q =>
    let r := d.police q (frameLen bytes) v
    r.2.finishVerdict bytes r.1 false

/-- A policed stream's frame is yellow (R163): its copies, now and on a second pass, carry the mark. -/
def Verdict.markYellow (v : Verdict) (yellow : Bool) (g : Grist) : Verdict :=
  { v with
    info := { v.info with yellow := yellow }
    copies := v.copies.map (fun k => { k with tag := yellowTag yellow g k.tag }) }

/-- A stream's frame at its valid end (R154, R161): the filter of the entry it matched, then its scheduled copies, or Lauter with its
handle. -/
def Dev.streamEnd (d : Dev) (a : Arrived) (g : Grist) (h : Nat) (e : Stream) : Dev :=
  let f := d.filter h (d.streamNow h e) g (frameLen a.bytes) a.time
  match f.1 with
  | none => f.2
  | some p =>
    if e.kind == 1 then
      let info : FrameInfo :=
        { inPort := a.port, time := a.time, tc := e.tc, handle := h, zone := 0, gen := f.2.lauter.gen, vid := g.outerVid,
          metaWord := 0, pcp := g.outerPcp, ts := a.ts, arrival := a.arrival }
      (f.2.count 3 3073).enqueue a.bytes (frameLen a.bytes) info (scheduledCopies e g (sliceOf a.port) p) none false
    else
      let r := f.2.lauterRun a g h
      let d1 := match r.2.1 with | some l => r.2.2.learnNow l r.1.info.vid | none => r.2.2
      d1.settleVerdict a.bytes (r.1.markYellow p.yellow g)

/-- L0 is closed to first-pass frames: a bank switch is under way (R150). -/
def Dev.l0Closed (d : Dev) : Bool :=
  match d.txn.committing with
  | some c => c.rules.isSome
  | none => false

/-- A policed stream's frame is held at L0 while L0 is closed (R150, R152). -/
def PendEnd.heldAtL0 (p : PendEnd) (d : Dev) : Bool :=
  d.l0Closed && (match p.stream with | some (_, e) => e.kind != 1 | none => false)

/-- FRAME_VALID_END (R125, R161): everything that waited for the frame's end. -/
def validEnd (id : Nat) (d : Dev) : Dev :=
  match d.lauter.ends.find? (fun p => p.id == id && !p.receiving && !p.heldAtL0 d) with
  | none => d
  | some p =>
    let d1 := { d with lauter := { d.lauter with ends := d.lauter.ends.filter (fun q => q.id != id) } }
    let g := grist p.frame.bytes
    match p.stream with
    | some (h, e) => d1.streamEnd p.frame g h e
    | none =>
      let vid := match p.verdict with | some v => v.info.vid | none => 0
      let d2 := match p.learn with | some l => d1.learnNow l (if p.verdict.isSome then vid else (l0 d1 p.frame g).1.vid) | none => d1
      match p.verdict with
      | some v => d2.settleVerdict p.frame.bytes { v with info := { v.info with arrival := p.frame.arrival } }
      | none => d2

/-- FRAME_VALID_END. -/
def execFrameValidEnd (id : Nat) (s : State) : Out := onDev (validEnd id) s

/-! ## Classification (R123, R124, R153) -/

/-- Append a classified frame whose valid end is due. -/
def Dev.addEnd (d : Dev) (a : Arrived) (stream : Option (Nat × Stream)) (v : Option Verdict) (l : Option Learn) (receiving : Bool) : Dev :=
  let p : PendEnd := { id := d.lauter.nextEnd, frame := a, stream := stream, verdict := v, learn := l, receiving := receiving }
  { d with lauter := { d.lauter with ends := d.lauter.ends ++ [p], nextEnd := d.lauter.nextEnd + 1 } }

/-- The frame belongs to P91's firmware ahead of Lauter: an in-band management frame, or a slow-protocol frame on a member
of a LAG with LACP (R123). -/
def forFirmware (d : Dev) (a : Arrived) (g : Grist) : Bool :=
  (g.etype == 0x88B5 && g.lysSubtype == 1 && g.da == Config.baseMac) ||
  (g.etype == 0x8809 && (match d.lagOf a.port with
    | some x => (match tabFind d.fabric.lags x with
      | some l => bit l.lacp 0
      | none => false)
    | none => false))

/-- The frame leaves the pipeline for the time unit or the Twin Link journal (R123). -/
def leavesPipeline (g : Grist) : Bool := g.etype == 0x88F7 || (g.etype == 0x88B5 && g.lysSubtype == 4)

/-- A Twin Link frame off P9, or while twin mode is disabled: it is dropped and counted (R123, R375). -/
def strayTwin (d : Dev) (port : Nat) (g : Grist) : Bool := g.etype == 0x88B5 && g.lysSubtype == 4 && (port != 9 || !d.twin.enable)

/-- A frame from P9 in twin mode that is no Twin Link frame: P9 carries none, so it is discarded, uncounted here (R10, log 81). -/
def barredOnTwin (d : Dev) (port : Nat) (g : Grist) : Bool :=
  port == 9 && d.twin.enable && !(g.etype == 0x88B5 && g.lysSubtype == 4)

/-- A frame of a slice FIFO or of P92 through Grist, stream identification and Lauter. -/
def Dev.classify (d : Dev) (a : Arrived) : Dev :=
  let g := grist a.bytes
  let d0 := if g.truncated && a.second.isNone then d.count 4 6228 else d
  if a.second.isNone && barredOnTwin d a.port g then d0
  else if a.second.isNone && forFirmware d a g then
    let info : FrameInfo :=
      { inPort := a.port, time := a.time, tc := 5, handle := 0xFFFF, zone := 0, gen := d.lauter.gen, vid := g.outerVid,
        metaWord := 0, pcp := g.outerPcp, arrival := a.arrival }
    d0.enqueue a.bytes (frameLen a.bytes) info [copyTo 91 91 5 (sliceOf a.port) none] none false
  else if a.second.isNone && leavesPipeline g then (if strayTwin d a.port g then d0.count 13 9 else d0)
  else
    match (if a.second.isNone then d.identify g a.port else none) with
    | some (h, e) => (d0.count 5 (4 * h)).addEnd a (some (h, e)) none none false
    | none =>
      let r := d0.lauterRun a g (match a.second with | some s => s.handle | none => 0xFFFF)
      if r.1.policer.isSome then r.2.2.addEnd a none (some r.1) r.2.1 false
      else
        let d1 := r.2.2.finishVerdict a.bytes r.1 false
        match r.2.1 with
        | some l => d1.addEnd a none none (some l) false
        | none => d1

/-- The frame is one that a closed L0 does not hold: second-pass, or it leaves the pipeline before L0, or a scheduled
stream's (R123, R152). -/
def passesClosed (d : Dev) (a : Arrived) : Bool :=
  let g := grist a.bytes
  a.second.isSome || forFirmware d a g || leavesPipeline g ||
  (match d.identify g a.port with
   | some (_, e) => e.kind == 1
   | none => false)

/-- The next frame a slice FIFO gives the pipeline, with the frames it leaves (R152). -/
def Dev.fifoNext (d : Dev) (sl : Nat) : Option (Arrived × List Arrived) :=
  match tabGet [] d.fabric.fifos sl with
  | [] => none
  | a :: rest =>
    if !d.l0Closed then some (a, rest)
    else
      let l := a :: rest
      match l.findIdx? (passesClosed d) with
      | some i => match l[i]? with
        | some b => some (b, l.eraseIdx i)
        | none => none
      | none => none

/-- R104 for the copies a frame got: an enabled ingress, exactly one egress copy (none to P91 beside it), to an Ethernet port that is up,
no faster and idle. -/
def Dev.cutThroughOk (d : Dev) (inPort : Nat) (v : Verdict) : Bool :=
  match v.copies with
  | [k] =>
    d.noSpireCopy v && decide (inPort < 50) && bit d.fabric.ctMask inPort && decide (k.dest < 50) && (d.port k.dest).up &&
    decide (speedMbps (d.port k.dest).speed ≤ speedMbps (d.port inPort).speed) && !d.portSleeping k.dest &&
    d.fabric.frames.all (fun f => f.copies.all (fun j => j.port != k.port)) && !tabHas d.fabric.sending k.dest && !tabHas d.fabric.preempted k.dest
  | _ => false

/-- The bytes received so far do not classify the frame yet, or another rule takes it once it has ended: its port is already classifying
one, or is down or asleep, it fails the MAC's tests, its headers are not complete, or it does not enter L0 (R120, R123, R150). -/
def Dev.notArriving (d : Dev) (f : RxFrame) (a : Arrived) (g : Grist) : Bool :=
  d.lauter.ends.any (fun p => p.receiving && p.frame.port == f.port) || !(d.port f.port).up || d.portSleeping f.port || isMacControl f.bytes ||
  !filterPasses (d.port f.port) f.bytes || decide ((d.port f.port).maxFrame < f.bytes.length + 4) ||
  (g.truncated && decide (f.bytes.length < 256)) || barredOnTwin d f.port g || forFirmware d a g || leavesPipeline g ||
  (d.l0Closed && !passesClosed d a)

/-- A frame still being received is classified (R124): what L3 does to the connection table stands however the frame ends (R125). It is
enqueued for cut-through if R104 allows; otherwise its verdict, or its stream, waits for its end (R125, R161). -/
def classifyArriving (f : RxFrame) (d : Dev) : Dev :=
  let a : Arrived :=
    { port := f.port, bytes := f.bytes, time := d.ingressOf f, ring := 0, second := none, arrival := d.uptime }
  let g := grist f.bytes
  if d.notArriving f a g then d
  else
    let d0 := if g.truncated then d.count 4 6228 else d
    match d.identify g f.port with
    | some (h, e) => (d0.count 5 (4 * h)).addEnd a (some (h, e)) none none true
    | none =>
      let r := d0.lauterRun a g 0xFFFF
      if r.1.policer.isNone && !r.1.dropped && r.2.2.cutThroughOk f.port r.1 then
        let id := r.2.2.fabric.nextId
        let d1 := r.2.2.finishVerdict f.bytes r.1 true
        let d2 := d1.addEnd a none none r.2.1 true
        if (d1.stored id).isSome then { d2 with fabric := { d2.fabric with cutting := tabPut d2.fabric.cutting f.port id } } else d2
      else r.2.2.addEnd a none (some r.1) r.2.1 true

/-- FRAME_CLASSIFY (R124). -/
def frameClassify (src : ClassifySrc) (d : Dev) : Dev :=
  match src with
  | .fifo sl =>
    match d.fifoNext sl with
    | none => d
    | some (a, rest) => ({ d with fabric := { d.fabric with fifos := tabPut d.fabric.fifos sl rest } }).classify a
  | .arriving f => classifyArriving f d

/-- FRAME_CLASSIFY. -/
def execFrameClassify (src : ClassifySrc) (s : State) : Out := onDev (frameClassify src) s

/-! ## Recirculation (R149) -/

/-- The next frame the reader takes: slices in rotation, within a slice TC5 down to TC0. -/
def recircNext (fs : List Stored) (ptr : Nat) : Option (Stored × Copy × Nat) :=
  (List.range 9).findSome? (fun k =>
    let s := (ptr + k) % 9
    [5, 4, 3, 2, 1, 0].findSome? (fun c => (voqHead fs s 92 c).map (fun h => (h.1, h.2, s))))

/-- A frame wholly moved leaves P92's queue and enters slice S8's FIFO for its second pass (R148). -/
def Dev.recircDone (d : Dev) (f : Stored) : Dev :=
  let a : Arrived :=
    { port := 92, bytes := f.bytes, time := f.info.time, ring := f.info.pcp,
      second := some
        { gen := f.info.gen, metaWord := f.info.metaWord, zone := f.info.zone, inPort := f.info.inPort, pcp := f.info.pcp,
          handle := f.info.handle, yellow := f.info.yellow }
      ts := f.info.ts, arrival := f.info.arrival }
  let d1 := (d.modStored f.id (fun g => { g with copies := g.copies.eraseP (fun (k : Copy) => k.port == 92) })).settleFabric
  match d1.fifoPut 8 a with
  | some d2 => d2
  | none => d1.count 2 (92 * 64 + 9)

/-- RECIRC_READER_MOVE: one cell of a P92 frame moves into slice S8. -/
def recircMove (d : Dev) : Dev :=
  match d.fabric.recirc with
  | some (id, n) =>
    match d.stored id with
    | none => { d with fabric := { d.fabric with recirc := none } }
    | some f =>
      if f.cells ≤ n + 1 then ({ d with fabric := { d.fabric with recirc := none } }).recircDone f
      else { d with fabric := { d.fabric with recirc := some (id, n + 1) } }
  | none =>
    match recircNext d.fabric.frames d.fabric.recircPtr with
    | none => d
    | some (f, _, s) =>
      let begin := fun (k : Copy) => { k with started := true }
      let d1 := d.modStored f.id (fun g => { g with copies := modFirst (fun (k : Copy) => k.port == 92) begin g.copies })
      let d2 := { d1 with fabric := { d1.fabric with recircPtr := (s + 1) % 9 } }
      if f.cells ≤ 1 then d2.recircDone f else { d2 with fabric := { d2.fabric with recirc := some (f.id, 1) } }

/-- RECIRC_READER_MOVE. -/
def execRecircReaderMove (s : State) : Out := onDev recircMove s

/-! ## Scanners -/

/-- FDB_AGE_SCAN (R134): once every AGE_TIME, entries whose age bit is clear go, and the others' bits are cleared. -/
def fdbAgeScan (d : Dev) : Dev :=
  if !d.over (d.lauter.lastAge + sec d.lauter.ageTime) then d
  else
    let gone := d.lauter.fdb.filter (fun e => !e.2.isStatic && !e.2.age)
    let kept := (d.lauter.fdb.filter (fun e => e.2.isStatic || e.2.age)).map (fun e =>
      if e.2.isStatic then e else (e.1, { e.2 with age := false }))
    let d1 := { d with lauter := { d.lauter with fdb := kept, lastAge := d.lauter.lastAge + sec d.lauter.ageTime } }
    d1.countN 4 6210 gone.length

/-- FDB_AGE_SCAN. -/
def execFdbAgeScan (s : State) : Out := onDev fdbAgeScan s

/-- The timeout of a connection state, in s (R141): SYN_SENT and SYN_RECV have their own entries of TIMEOUT[s]. -/
def ctTimeout (d : Dev) (st : Nat) : Nat := d.lauter.timeouts.getD (st - 1) 0

/-- CT_AGE_SCAN (R141): every 100 ms, connections idle for their state's timeout at the scan's tick go. The scan takes effect after its
tick, so a frame of that tick has refreshed its entry first (R7). -/
def ctAgeScan (d : Dev) : Dev :=
  if !d.over (d.lauter.lastCtScan + ms 100) then d
  else
    let idle := fun (e : Nat × Conn) => decide (e.2.last + sec (ctTimeout d e.2.state) ≤ d.lauter.lastCtScan + ms 100)
    let gone := d.lauter.conns.filter idle
    let d1 := { d with lauter := { d.lauter with
        conns := d.lauter.conns.filter (fun e => !idle e), lastCtScan := d.lauter.lastCtScan + ms 100 } }
    d1.countN 4 6218 gone.length

/-- CT_AGE_SCAN. -/
def execCtAgeScan (s : State) : Out := onDev ctAgeScan s

/-- The entry records the zone on either side. -/
def Conn.hasZone (c : Conn) (z : Nat) : Bool := c.loZone == z || c.hiZone == z

/-- BINDING_CT_PURGE (R130): a cleared binding's zone goes from the connection table. -/
def bindingPurge (zone : Nat) (d : Dev) : Dev :=
  if !d.lauter.purges.contains zone then d
  else { d with lauter := { d.lauter with
      conns := d.lauter.conns.filter (fun e => !e.2.hasZone zone), purges := d.lauter.purges.filter (fun z => z != zone) } }

/-- BINDING_CT_PURGE. -/
def execBindingCtPurge (zone : Nat) (s : State) : Out := onDev (bindingPurge zone) s

/-- Write a session zone binding (R128). -/
def Dev.bindZone (d : Dev) (session : Nat) (b : Binding) : Dev :=
  { d with lauter := { d.lauter with bindings := tabPut d.lauter.bindings session b } }

/-- Clear a session zone binding; its connections are to go within 1 ms (R130). -/
def Dev.unbindZone (d : Dev) (session : Nat) : Dev :=
  match tabFind d.lauter.bindings session with
  | none => d
  | some b => { d with lauter := { d.lauter with
      bindings := tabDel d.lauter.bindings session, purges := d.lauter.purges ++ [b.zone] } }

/-- Remove the dynamic FDB entries of a flushed port, and those of its LAG while no member of it distributes (R135). -/
def Dev.fdbFlushPort (d : Dev) (p : Nat) : Dev :=
  let lagGone := match d.lagOf p with
    | some g => (match tabFind d.fabric.lags g with
      | some l => if l.dist.isEmpty then some (0x400 + g) else none
      | none => none)
    | none => none
  d.putFdb (d.lauter.fdb.filter (fun e => e.2.isStatic || !(e.2.dest == p || lagGone == some e.2.dest)))

end Sys2Proof.Machine
end

