-- ==== Sys2Proof/Machine/Ports.lean ====
section
/-! DEFINITION. Ports and links (chapter 03): received frames, link changes and the link-flap hold, rate stepping, PLCA, and
the port commands. -/

namespace Sys2Proof.Machine

open Sys2Proof

/-! ## Received frames (R69, R72 to R79, R444) -/

/-- A violation of a declared bus (R203): counted, and posted at most once per second and port. -/
def Dev.busViolation (d : Dev) (p ident reason : Nat) : Dev :=
  (d.count 6 p).postLimited 0x0602 p p (ident % 2 ^ 32 + reason * 2 ^ 32)

/-- An entry of a bus declaration: KEY, MAX_BYTES, FRAMES, MIN_INTERVAL_NS. -/
def busEntry (bs : Bytes) (e : Nat) : Nat × Nat × Nat × Nat :=
  (le bs (0x10 + 16 * e) 4, le bs (0x14 + 16 * e) 2, le bs (0x16 + 16 * e) 2, le bs (0x18 + 16 * e) 4)

/-- The entries of a bus declaration. -/
def busEntries (bs : Bytes) : List (Nat × Nat × Nat × Nat) := (List.range (le bs 2 2)).map (busEntry bs)

/-- A TS frame against its port's declaration (R203). -/
def Dev.watchSegment (d : Dev) (f : RxFrame) : Dev :=
  match tabFind d.adm.buses f.port with
  | none => d
  | some b =>
    match (busEntries b.data).find? (fun e => e.1 == f.node) with
    | none => d
    | some e =>
      let d1 := if e.2.1 < f.bytes.length + 4 then d.busViolation f.port f.node 3 else d
      if e.2.2.1 < f.nth then d1.busViolation f.port f.node 4 else d1

/-- An Ethernet frame is a keep-alive of a domain (R342). -/
def isFrameKeepAlive (m : Domain) (bs : Bytes) : Bool :=
  m.kaKind == 0 || (m.kaKind == 2 && frameDa bs == m.kaDa && (m.kaEtype == 0 || (grist bs).etype == m.kaEtype))

/-- A keep-alive received on a member port. -/
def Dev.frameKeepAlive (d : Dev) (p : Nat) (bs : Bytes) : Dev :=
  match d.domainOf p with
  | none => d
  | some n =>
    match tabFind d.lantern.domains n with
    | some m => if isFrameKeepAlive m bs then d.keepAlive n else d
    | none => d

/-- An XG or GE port's wake is enabled: unless PWR_WAKE_CFG disables it, and in DOZE where DOZE_WAKE is set (R349, R351). -/
def Dev.frameWakes (d : Dev) (p : Nat) : Bool :=
  decide (p < 34) &&
  (match tabFind d.lantern.wake p with
   | some w => w.enable && (!d.deviceAsleep || bit w.mode 0)
   | none => !d.deviceAsleep)

/-- A valid frame on a sleeping port (R351, R354): the device asleep loses it; in PARTIAL it wakes its domain and goes on. The
flag says whether it goes on. -/
def Dev.sleepingFrame (d : Dev) (p : Nat) : Bool × Dev :=
  if d.deviceAsleep then
    if d.frameWakes p then
      let d1 := match d.domainOf p with | some n => d.wake n p | none => d
      (false, d1.count 12 258)
    else (false, d)
  else if d.portAsleep p then
    if d.frameWakes p then (match d.domainOf p with | some n => (true, d.wake n p) | none => (true, d)) else (false, d)
  else if d.portSleeping p then (false, d.count 12 258)
  else (true, d)

/-- The size counter of an accepted frame. -/
def sizeOffset (len : Nat) : Nat := if len ≤ 127 then 35 else if len ≤ 1522 then 36 else 37

/-- A frame is accepted. -/
def Dev.countReceived (d : Dev) (p : Nat) (bs : Bytes) : Dev :=
  let len := bs.length + 4
  (((d.count 2 (p * 64)).countN 2 (p * 64 + 1) len).count 2 (p * 64 + 2 + castOffset bs)).count 2 (p * 64 + sizeOffset len)

/-- The limit a frame is judged by: the one in force when its first byte arrived (R76). One earlier limit is kept, so that a frame whose
reception spans two commits is judged by the later of the earlier limits (DESIGN CHOICE, log 84). -/
def rxLimit (q : Port) (firstByte : Nat) : Nat := if firstByte < q.maxSince then q.oldMax else q.maxFrame

/-- The frame's FCS counts as valid: no code violation, no failed reassembly. -/
def rxGood (f : RxFrame) : Bool := f.fcsOk && f.violations == 0 && !f.assyFailed

/-- What a received frame counts besides its outcome: wire time, code violations and fragments. -/
def Dev.rxNotes (d : Dev) (f : RxFrame) : Dev :=
  let d1 := (d.modPort f.port (fun q => { q with rxWire := q.rxWire + f.bytes.length + 24 })).countN 2 (f.port * 64 + 13) f.violations
  if f.port < 34 then
    let b := 31744 + 16 * f.port
    let d2 := (d1.countN 5 (b + 3) f.frags).countN 5 (b + 6) f.smdErr
    if f.assyFailed then d2.count 5 (b + 5) else if 0 < f.frags then d2.count 5 (b + 4) else d2
  else d1

/-- Drop the copies of a frame that are not on the wire, and free it if none is (R73, R106). -/
def Dev.dropWaiting (d : Dev) (id : Nat) : Dev :=
  (d.modStored id (fun g => { g with copies := g.copies.filter (fun k => k.started) })).settleFabric

/-- The arrival of a received frame: the SYS tick of 2 ns in which the last byte of its FCS is registered (R8, R209). -/
def Dev.arrivalOf (d : Dev) (f : RxFrame) : Nat := d.uptime + 2 * b2n f.second

/-- The valid end that waited for a frame classified while it arrived: its bytes and arrival now known, or gone. -/
def Dev.endPending (d : Dev) (id : Nat) (got : Option (Bytes × Nat)) (port : Nat) : Dev :=
  let es := match got with
    | some x => d.lauter.ends.map (fun p =>
        if p.receiving && p.frame.port == port then { p with frame := { p.frame with bytes := x.1, arrival := x.2 }, receiving := false }
        else p)
    | none => d.lauter.ends.filter (fun p => !(p.receiving && p.frame.port == port))
  { d with
    lauter := { d.lauter with ends := es }
    fabric := { d.fabric with cutting := d.fabric.cutting.filter (fun x => x.2 != id) } }

/-- The end of a frame that is being cut through: whole, or stomped at its egress (R106). The cells it did not use are returned when its
last byte is stored (R95). -/
def Dev.endCut (d : Dev) (f : RxFrame) (id : Nat) : Dev :=
  let good := rxGood f
  let done := fun (g : Stored) =>
    { g with
      bytes := f.bytes, len := f.bytes.length + 4, cells := cellsFor (f.bytes.length + 4), receiving := false, bad := !good
      info := { g.info with arrival := d.arrivalOf f } }
  let d1 := (d.modStored id done).endPending id (if good then some (f.bytes, d.arrivalOf f) else none) f.port
  let d2 := if good then ((d1.countReceived f.port f.bytes).frameKeepAlive f.port f.bytes).settleFabric
    else (d1.count 2 (f.port * 64 + 5)).dropWaiting id
  d2.endLost id

/-- The port has a frame that was classified while it arrived. -/
def Dev.classified (d : Dev) (p : Nat) : Bool := d.lauter.ends.any (fun e => e.receiving && e.frame.port == p)

/-- A frame that ends without being accepted leaves nothing of what waited for its end (R125). -/
def Dev.dropPending (d : Dev) (p : Nat) : Dev := d.endPending d.fabric.nextId none p

/-- The link of a receiving port fails under a frame: the frame ends with a violation, so that one being cut through ends stomped and is
counted in RX_FCS_ERR (R106; log 84). -/
def Dev.endReception (d : Dev) (p : Nat) : Dev :=
  match tabFind d.fabric.cutting p with
  | none => d.dropPending p
  | some id =>
    let bad := fun (g : Stored) => { g with receiving := false, bad := true }
    ((((d.modStored id bad).endPending id none p).count 2 (p * 64 + 5)).dropWaiting id).endLost id

/-- A stored-and-forwarded frame's outcome (R444): the counter's offset, or none where the frame is to be accepted. -/
def rxFault (q : Port) (f : RxFrame) : Option Nat :=
  let len := f.bytes.length + 4
  if len < 64 then (if rxGood f then some 6 else some 7)
  else if rxLimit q f.firstByte < len then some 8
  else if !rxGood f then some 5
  else if isMacControl f.bytes then (if be f.bytes 14 2 == 1 || be f.bytes 14 2 == 0x0101 then some 11 else some 12)
  else if !filterPasses q f.bytes then some 10
  else none

/-- A frame that passed every test enters its slice's FIFO, or is dropped whole (R9). -/
def Dev.acceptFrame (d : Dev) (f : RxFrame) : Dev :=
  let a : Arrived :=
    { port := f.port, bytes := f.bytes, time := d.ingressOf f, ring := 0, second := none
      arrival := d.arrivalOf f }
  let d1 := d.frameKeepAlive f.port f.bytes
  match d1.fifoPut (sliceOf f.port) a with
  | some d2 => d2.countReceived f.port f.bytes
  | none => d1.count 2 (f.port * 64 + 9)

/-- The MAC crossed MAX_FRAME while the frame was being cut through (R73): of `bytes`, received up to the crossing, each egress that has
started the frame, also one where it is interrupted, has sent `sent`, and ends it stomped, within its own MAX_FRAME. A copy that has
not started, also one only offered to PLCA, is not sent. -/
def cutOversize (p sent : Nat) (bytes : Bytes) (d : Dev) : Dev :=
  match tabFind d.fabric.cutting p with
  | none => d
  | some id =>
    let fill := fun (g : Stored) => { g with bytes := bytes, receiving := false, bad := true }
    let d1 := ((((d.modStored id fill).count 2 (p * 64 + 8)).endPending id none p).dropWaiting id)
    match d1.stored id with
    | none => d1
    | some g =>
      let on := (d1.fabric.sending ++ d1.fabric.preempted).filter (fun x => x.2.id == id)
      on.foldl (fun e x => (e.sentCopy x.1 x.2).stomp x.1 ((sendingBytesOf g x.2).take (min sent (x.2.maxFrame - 4))) x.2.lost) d1

/-- CUT_THROUGH_OVERSIZE. -/
def execCutThroughOversize (port sent : Nat) (s : State) (bytes : Bytes := []) : Out := onDev (cutOversize port sent bytes) s

/-- The end of a frame that was classified while it arrived, and passed every test: counted as received, or dropped where its slice's FIFO
cannot hold it (R9); what waited for its valid end follows (R125). -/
def Dev.acceptPending (d : Dev) (f : RxFrame) : Dev :=
  let d1 := d.frameKeepAlive f.port f.bytes
  if d1.fifoUsed (sliceOf f.port) + frameLen f.bytes ≤ 32768 then
    (d1.endPending d1.fabric.nextId (some (f.bytes, d1.arrivalOf f)) f.port).countReceived f.port f.bytes
  else (d1.dropPending f.port).count 2 (f.port * 64 + 9)

/-- MAC_FRAME_RECEIVED. -/
def macFrame (f : RxFrame) (d : Dev) : Dev :=
  let q := d.port f.port
  if 50 ≤ f.port ∨ !q.admin ∨ !q.up then d
  else if d.deviceAsleep then (if (rxFault q f).isNone then (d.sleepingFrame f.port).2 else d)
  else if decide (34 ≤ f.port) && d.portAsleep f.port then d
  else
    let d1 := (d.rxNotes f).watchSegment f
    match tabFind d.fabric.cutting f.port with
    | some id =>
      let limit := rxLimit q f.firstByte
      if limit < f.bytes.length + 4 then cutOversize f.port limit (f.bytes.take (limit + 1)) d1 else d1.endCut f id
    | none =>
      match rxFault q f with
      | some o => (d1.dropPending f.port).count 2 (f.port * 64 + o)
      | none =>
        let r := d1.sleepingFrame f.port
        if !r.1 then r.2.dropPending f.port
        else if r.2.classified f.port then r.2.acceptPending f
        else r.2.acceptFrame f

/-- MAC_FRAME_RECEIVED. -/
def execMacFrameReceived (f : RxFrame) (s : State) : Out := onDev (macFrame f) s

/-! ## The link-flap hold (R82 to R85) -/

/-- The hold ends with the port down: its queues are flushed and its FDB entries go (R84, R135). -/
def Dev.holdEnds (d : Dev) (p : Nat) : Dev :=
  let r := d.flushPort p
  ((r.2.modPort p (fun q => { q with hold := none, holdExpired := true })).fdbFlushPort p).post 0x0203 p r.1

/-- A port goes down: what it was sending is lost (R82), and with FLAP_HOLD 0 it is flushed at once (R84). -/
def Dev.goDown (d : Dev) (p cause : Nat) : Dev :=
  let hold := (d.port p).flapHold
  let d1 := ((d.endReception p).loseSending p).modPort p (fun q => { q with
    up := false, hold := if hold == 0 then none else some (d.uptime + ms hold), holdExpired := false, dwell := 0, burstEnd := none })
  let d2 := (((d1.count 2 (p * 64 + 26)).post 0x0202 p cause).preemptLinkDown p).lagPort p
  if hold == 0 then d2.holdEnds p else d2

/-- LINK_DOWN: an Ethernet port that was up. -/
def linkDown (p cause : Nat) (d : Dev) : Dev :=
  if p < 50 ∧ (d.port p).admin ∧ (d.port p).up then d.goDown p cause else d

/-- LINK_DOWN. -/
def execLinkDown (port cause : Nat) (s : State) : Out := onDev (linkDown port cause) s

/-- FLAP_HOLD_EXPIRY. -/
def flapHoldExpiry (p : Nat) (d : Dev) : Dev :=
  if d.overO (d.port p).hold && !(d.port p).up then d.holdEnds p else d

/-- FLAP_HOLD_EXPIRY. -/
def execFlapHoldExpiry (port : Nat) (s : State) : Out := onDev (flapHoldExpiry port) s

/-- A queued frame is past its latest transmit time (R157): a scheduled stream's, with a deadline. -/
def Dev.isLate (d : Dev) (f : Stored) : Bool :=
  match tabFind d.streams.table f.info.handle with
  | some e => e.kind == 1 && e.deadline != 0 && decide (f.info.time + e.deadline < d.now)
  | none => false

/-- At resume within the hold, late scheduled frames are discarded and the recovery counted (R83). -/
def Dev.resumePort (d : Dev) (p : Nat) : Dev :=
  let late := d.fabric.frames.filter (fun f => d.isLate f)
  let n := queuedTo late p
  let keep := fun (f : Stored) =>
    if d.isLate f then { f with copies := f.copies.filter (fun k => !(k.dest == p && !k.started)) } else f
  (((d.putFrames (d.fabric.frames.map keep)).countN 2 (p * 64 + 21) n).settleFabric).count 2 (p * 64 + 27)

/-! ## Rates and links (R65 to R68, R86 to R88) -/

/-- The rates a port's STEP_MASK enables, highest first, in SPEED encoding. -/
def stepRates (p mask : Nat) : List Nat :=
  if p < 10 then (if bit mask 0 then [4] else []) ++ (if bit mask 1 then [3] else [])
  else if p < 34 then (if bit mask 0 then [2] else [])
  else []

/-- The port has a managed PHY. -/
def hasPhy (p : Nat) (q : Port) : Bool := decide (p < 34) && !bit q.phyAddr 7

/-- PORT_PHY_FAULT. -/
def Dev.phyFault (d : Dev) (p reason : Nat) : Dev := (d.count 2 (p * 64 + 31)).post 0x0205 p reason

/-- The rate an XG mode fixes, in SPEED encoding. -/
def modeSpeed (m : Nat) : Nat := match m with | 0 => 6 | 1 => 5 | 2 => 4 | _ => 3

/-- The XG mode of a rate. -/
def speedMode (s : Nat) : Nat := match s with | 6 => 0 | 5 => 1 | 4 => 2 | _ => 3

/-- Something resolves the port's rate and duplex: a GE port's control word, an external PHY, or clause 37 where it is enabled in
1000BASE-X (R65, R66). -/
def negotiates (p : Nat) (q : Port) : Bool := decide (10 ≤ p) || hasPhy p q || (q.mode == 3 && bit q.advert 0)

/-- The rate a port's MODE and ADVERT permit a link to resolve to, or the reason of a PORT_PHY_FAULT (R67, R68). -/
def fullRate (p : Nat) (q : Port) (speed : Nat) : Nat ⊕ Nat :=
  if p < 10 then
    if q.mode == 4 then (if 3 ≤ speed ∧ speed ≤ 6 then .inr speed else .inl 3) else .inr (modeSpeed q.mode)
  else
    let ok := match speed with
      | 3 => if q.mode == 0 then bit q.advert 0 else q.mode == 1
      | 2 => if q.mode == 0 then bit q.advert 1 else q.mode == 2
      | 1 => if q.mode == 0 then bit q.advert 2 else q.mode == 3
      | _ => false
    if ok then .inr speed else .inl 3

/-- The rate a link resolves to at a step level, or the reason of a PORT_PHY_FAULT (R65, R67, R68). A level that a committed STEP_MASK no
longer enables resolves as the full rate does (DESIGN CHOICE, log 84). -/
def resolveLink (p : Nat) (q : Port) (level : Nat) (i : LinkInfo) : Nat ⊕ Nat :=
  if 34 ≤ p then .inr 1
  else if negotiates p q && !i.fullDuplex then .inl 1
  else match (if level == 0 then none else (stepRates p q.stepMask)[level - 1]?) with
    | some r => if r == i.speed then .inr r else .inl 3
    | none => fullRate p q i.speed

/-! ## External PHYs (R66, R68, R70) -/

/-- The firmware queues MDIO accesses for a port's managed PHY, of 25.6 us each under clause 22 and 51.2 us under clause 45 (R70). -/
def Dev.mdioQueue (d : Dev) (p kind : Nat) : Dev :=
  if !hasPhy p (d.port p) then d
  else
    let each := if bit (d.port p).phyAddr 6 then 51200 else 25600
    let left := d.fabric.mdio.filter (fun t => decide (d.uptime < t))
    let free := left.getLastD d.uptime
    { d with fabric := { d.fabric with mdio := left ++ (List.range (Config.mdioAccesses kind)).map (fun i => free + (i + 1) * each) } }

/-- The firmware acts on a port's managed PHY. -/
def Dev.phyAct (d : Dev) (p kind : Nat) (a : PhyAction) : Dev :=
  if hasPhy p (d.port p) then (d.emit (.phy p a)).mdioQueue p kind else d

/-- The PHY's identifier registers (2 and 3, of MMD 1 under clause 45), as a 32-bit number: a free value. -/
def Dev.readPhyId (d : Dev) (p : Nat) : Nat :=
  let a := (d.port p).phyAddr
  let dev := if bit a 6 then some 1 else none
  (Config.phyRegister d.freeIx (a % 32) dev 2).toNat * 65536 + (Config.phyRegister (d.freeIx + 1) (a % 32) dev 3).toNat

/-- An enabled port's PHY is identified and set up, or clause 37 on its lane; an identifier of all ones is a fault and holds the port down
(03, External PHY management). -/
def Dev.phySetup (d : Dev) (p : Nat) : Dev :=
  let q := d.port p
  let d1 := if decide (p < 10) && q.mode == 3 && bit q.advert 0 then d.emit (.phy p .clause37) else d
  if !hasPhy p q then d1
  else
    let ident := d1.readPhyId p
    let d2 := ({ d1 with freeIx := d1.freeIx + 2 }).modPort p (fun q => { q with phyId := ident })
    if ident == 0xFFFFFFFF then (d2.mdioQueue p 0).phyFault p 2 else d2.phyAct p 0 (.setup q.mode q.advert)

/-- The PHY's identifier was all ones when the port was enabled: the port stays down. -/
def phyMissing (p : Nat) (q : Port) : Bool := hasPhy p q && q.phyId == 0xFFFFFFFF

/-- The advertisement of a step level: restricted to its rate, or the full one. -/
def Dev.phyRestrict (d : Dev) (p level : Nat) : Dev :=
  let q := d.port p
  match (if level == 0 then none else (stepRates p q.stepMask)[level - 1]?) with
  | some r => d.phyAct p 3 (.restrict r)
  | none => d.phyAct p 3 (.setup q.mode q.advert)

/-- Begin a planned step to a level: a planned link-down with a retrain (R88). -/
def Dev.stepTo_ (d : Dev) (p level : Nat) : Dev :=
  let d1 := if (d.port p).up then d.goDown p 2 else d
  (d1.modPort p (fun q => { q with retrain := some (level, d.uptime + sec 5), dwell := 0 })).phyRestrict p level

/-- A completed step is counted and posted (R88). -/
def Dev.stepDone (d : Dev) (p old new level : Nat) : Dev :=
  let q := d.port p
  if level == q.stepLevel then d.modPort p (fun q => { q with retrain := none })
  else
    let off := if q.stepLevel < level then 28 else 29
    (((d.modPort p (fun q => { q with retrain := none, stepLevel := level })).count 2 (p * 64 + off)).post 0x0204 p (old + new * 2 ^ 8))

/-- A port comes up at a rate (R83, R85): within the hold it resumes; a planned step is complete; the dwell starts afresh. -/
def Dev.goUp (d : Dev) (p speed : Nat) : Dev :=
  let q := d.port p
  let d1 := d.modPort p (fun q => { q with
    up := true, speed := speed, lineMode := if p < 10 then speedMode speed else 0, hold := none, holdExpired := false, dwell := 0,
    intervalEnd := d.uptime + ms 100, rxWire := 0, txWire := 0, collisions := 0 })
  let d2 := d1.post 0x0201 p speed
  let d3 := if q.hold.isSome then d2.resumePort p else d2
  let d4 := match q.retrain with
    | some (level, _) => d3.stepDone p q.speed speed level
    | none => d3
  let d5 := (d4.preemptLinkUp p).lagPort p
  if q.stepUpPending then
    let d6 := d5.modPort p (fun q => { q with stepUpPending := false })
    if 0 < (d6.port p).stepLevel then d6.stepTo_ p 0 else d6
  else d5

/-- The level a link that comes up is at: the retrain's target, else the present one. -/
def linkLevel (q : Port) : Nat := match q.retrain with | some (l, _) => l | none => q.stepLevel

/-- The port's PHY or SerDes firmware runs: TS ports need PHY, XG and GE ports need SDS (R412). -/
def Dev.portLoaded (d : Dev) (p : Nat) : Bool := if p < 34 then d.boot.sdsLoaded else d.boot.phyLoaded

/-- LINK_UP: of an enabled Ethernet port that is down; a PLCA follower's waits for the beacon (R81). -/
def linkUp (p : Nat) (i : LinkInfo) (d : Dev) : Dev :=
  let q := d.port p
  if 50 ≤ p ∨ !q.admin ∨ q.up ∨ !d.portLoaded p ∨ phyMissing p q then d
  else if decide (34 ≤ p) && q.plcaEn && q.nodeId != 0 && !q.plcaOk then d
  else
    let d0 := d.mdioQueue p 1
    match resolveLink p q (linkLevel q) i with
    | .inl reason => d0.phyFault p reason
    | .inr speed =>
      let d1 := d0.goUp p speed
      if p == 9 && d1.twin.enable then d1.twinPortUp else d1

/-- LINK_UP. -/
def execLinkUp (port : Nat) (i : LinkInfo) (s : State) : Out := onDev (linkUp port i) s

/-- The next lower enabled rate: its level and its SPEED encoding. -/
def lowerStep (p : Nat) (q : Port) : Option (Nat × Nat) :=
  ((stepRates p q.stepMask).zipIdx.find? (fun x => decide (x.1 < q.speed))).map (fun x => (x.2 + 1, x.1))

/-- Utilisation of a number of wire bytes in 100 ms is below a percentage of a rate. -/
def utilBelow (wire pct speed : Nat) : Bool := decide (wire * 8 * 100 < pct * (speedMbps speed * 100000))

/-- Utilisation exceeds a percentage of a rate. -/
def utilAbove (wire pct speed : Nat) : Bool := decide (pct * (speedMbps speed * 100000) < wire * 8 * 100)

/-- UTILISATION_INTERVAL_END (R86, R87). A port that is stepped down when a committed STEP_MASK no longer enables its level stays there
until a step-up condition arises (DESIGN CHOICE, log 84). -/
def utilisationEnd (p : Nat) (d : Dev) : Dev :=
  let q := d.port p
  if 34 ≤ p ∨ !q.up ∨ !d.over q.intervalEnd then d
  else
    let d1 := d.modPort p (fun q => { q with intervalEnd := q.intervalEnd + ms 100, rxWire := 0, txWire := 0 })
    if !hasPhy p q then d1
    else if decide (0 < q.stepLevel) && (utilAbove q.rxWire q.stepUp q.speed || utilAbove q.txWire q.stepUp q.speed) then d1.stepTo_ p 0
    else
      match lowerStep p q with
      | none => d1
      | some (level, rate) =>
        if utilBelow q.rxWire q.stepDown rate && utilBelow q.txWire q.stepDown rate then
          if q.stepDwell * 10 ≤ q.dwell + 1 then d1.stepTo_ p level else d1.modPort p (fun q => { q with dwell := q.dwell + 1 })
        else d1.modPort p (fun q => { q with dwell := 0 })

/-- UTILISATION_INTERVAL_END. -/
def execUtilisationIntervalEnd (port : Nat) (s : State) : Out := onDev (utilisationEnd port) s

/-- Bytes queued for a port. -/
def queuedBytes (fs : List Stored) (p : Nat) : Nat :=
  (fs.map (fun f => (f.copies.filter (fun k => k.port == p && !k.started)).length * f.len)).sum

/-- STEP_UP_QUEUE_THRESHOLD (R87, R88): during the retrain of a step down the step up waits for its end. -/
def stepUpQueue (p : Nat) (d : Dev) : Dev :=
  let q := d.port p
  if 34 ≤ p ∨ queuedBytes d.fabric.frames p ≤ q.stepQueue * 1024 then d
  else match q.retrain with
    | some (level, _) => if q.stepLevel < level then d.modPort p (fun q => { q with stepUpPending := true }) else d
    | none => if 0 < q.stepLevel then d.stepTo_ p 0 else d

/-- STEP_UP_QUEUE_THRESHOLD. -/
def execStepUpQueueThreshold (port : Nat) (s : State) : Out := onDev (stepUpQueue port) s

/-- RETRAIN_FAIL_TIMEOUT (R88): reason 4, and the full rate is restored. -/
def retrainFail (p : Nat) (d : Dev) : Dev :=
  match (d.port p).retrain with
  | some (_, t) => if d.over t && !(d.port p).up then (d.phyFault p 4).stepTo_ p 0 else d
  | none => d

/-- RETRAIN_FAIL_TIMEOUT. -/
def execRetrainFailTimeout (port : Nat) (s : State) : Out := onDev (retrainFail port) s

/-- PHY_STATUS_POLL (03, External PHY management): the enabled ports whose managed PHY reports a fault. -/
def phyPoll (faults : List Nat) (d : Dev) : Dev :=
  let d1 := (List.range 34).foldl (fun e p => if (e.port p).admin then e.mdioQueue p 2 else e) d
  faults.foldl (fun e p => if (e.port p).admin && hasPhy p (e.port p) then e.phyFault p 5 else e) d1

/-- PHY_STATUS_POLL. -/
def execPhyStatusPoll (faults : List Nat) (s : State) : Out := onDev (phyPoll faults) s

/-! ## PLCA (R81, R170, R280) -/

/-- The start of a cycle at a port (R281). -/
def Dev.setPlcaStart (d : Dev) (p : Nat) (t : Option Nat) : Dev :=
  if tabHas d.time.beacons p then d.putBeacon p { d.beacon p with plcaStart := t } else d

/-- PLCA status changes. -/
def Dev.setPlca (d : Dev) (p : Nat) (ok : Bool) : Dev :=
  if (d.port p).plcaOk == ok then d else (d.modPort p (fun q => { q with plcaOk := ok })).post 0x0206 p (b2n ok)

/-- The port follows a PLCA coordinator. -/
def isFollower (p : Nat) (q : Port) : Bool := decide (34 ≤ p) && decide (p < 50) && q.admin && q.plcaEn && q.nodeId != 0

/-- PLCA_BEACON_RECEIVED: a follower that was down comes up. -/
def plcaBeacon (p : Nat) (d : Dev) : Dev :=
  if !isFollower p (d.port p) || d.portAsleep p then d
  else
    let d1 := ((d.count 2 (p * 64 + 32)).setPlcaStart p (some d.now)).setPlca p true
    if (d1.port p).up then d1 else d1.goUp p 1

/-- PLCA_BEACON_RECEIVED. -/
def execPlcaBeaconReceived (port : Nat) (s : State) : Out := onDev (plcaBeacon port) s

/-- PLCA_BEACON_TIMEOUT: the status fails and the port goes down. -/
def plcaTimeout (p : Nat) (d : Dev) : Dev :=
  if !isFollower p (d.port p) || !(d.port p).plcaOk || d.portAsleep p then d
  else
    let d1 := ((d.count 2 (p * 64 + 30)).setPlcaStart p none).setPlca p false
    if (d1.port p).up then d1.goDown p 1 else d1

/-- PLCA_BEACON_TIMEOUT. -/
def execPlcaBeaconTimeout (port : Nat) (s : State) : Out := onDev (plcaTimeout port) s

/-- PLCA_COORDINATOR_BEACON: the coordinator opens a cycle. -/
def plcaCoordinator (p : Nat) (d : Dev) : Dev :=
  let q := d.port p
  if decide (34 ≤ p) && decide (p < 50) && q.admin && q.up && q.plcaEn && q.nodeId == 0 && !d.portSleeping p && d.mayDrive then
    (d.count 2 (p * 64 + 33)).setPlcaStart p (some d.now)
  else d

/-- PLCA_COORDINATOR_BEACON. -/
def execPlcaCoordinatorBeacon (port : Nat) (s : State) : Out := onDev (plcaCoordinator port) s

/-- Frames the opportunity would carry: those waiting, the offered one among them, as far as the burst allows. -/
def Dev.opportunityLoad (d : Dev) (p : Nat) : Nat :=
  (d.fabric.frames.map (fun f => (f.copies.filter (fun k => k.port == p && !k.started)).length)).sum

/-- PLCA_TRANSMIT_OPPORTUNITY: a due beacon goes first where the opportunity has room for it (R280), and the offered frame
starts (R170). -/
def plcaOpportunity (p : Nat) (d : Dev) : Dev :=
  let q := d.port p
  if !(decide (34 ≤ p) && decide (p < 50) && q.plcaEn) || !d.portRuns p || !d.mayDrive then d
  else
    let beacon := (d.beacon p).due && decide (d.opportunityLoad p < 1 + q.burstCount)
    let d1 := d.modPort p (fun q => { q with burst := b2n beacon, burstEnd := none })
    let d2 := if beacon then d1.sendBeacon p else d1
    match tabFind d2.fabric.sending p with
    | some s =>
      if s.offered then (d2.startOffered p s).count 2 (p * 64 + 34) else d2
    | none => if beacon then d2.count 2 (p * 64 + 34) else d2

/-- PLCA_TRANSMIT_OPPORTUNITY. -/
def execPlcaTransmitOpportunity (port : Nat) (s : State) (point : Nat := 0) : Out := onDev (fun d => plcaOpportunity port (d.atPoint point)) s

/-! ## PORT_CFG, PORT_FILTER_SET, PORT_PLCA_CFG -/

/-- PORT_CFG's ranges for its port's type; a field that does not apply is 0. -/
def portCfgOk (bs : Bytes) : Bool :=
  let p := byteAt bs 0
  let mode := byteAt bs 2
  let adv := byteAt bs 3
  let maxFrame := le bs 4 2
  let phy := byteAt bs 8
  let mask := byteAt bs 9
  let steps := decide (1 ≤ byteAt bs 0x0A) && decide (byteAt bs 0x0A ≤ 99) && decide (2 ≤ byteAt bs 0x0B) && decide (byteAt bs 0x0B ≤ 100) &&
    decide (1 ≤ le bs 0x0C 2) && decide (le bs 0x0C 2 ≤ 600) && decide (1 ≤ le bs 0x0E 2) && decide (le bs 0x0E 2 ≤ 4096)
  let noSteps := allZero (slice bs 8 8)
  let eq := le bs 0x10 4
  let common := decide (64 ≤ maxFrame) && decide (maxFrame ≤ 9216) && decide (byteAt bs 6 ≤ 100) && decide (byteAt bs 7 < 4)
  decide (byteAt bs 1 ≤ 1) &&
  (if p < 10 then
    common && steps && decide (mode ≤ 4) && decide (adv < 2) && !bit phy 5 && decide (mask < 4) && eq &&& 0xFFC0E0F0 == 0
   else if p < 34 then
    common && steps && decide (mode ≤ 3) && decide (adv < 8) && (mode == 0 || adv == 0) && !bit phy 5 && !bit phy 7 && decide (mask < 2) &&
      eq == 0 && !(byteAt bs 1 == 1 && mode == 0 && adv == 0)
   else if p < 50 then common && noSteps && mode == 0 && adv == 0 && eq == 0
   else if p < 90 then allZero (bs.drop 2)
   else p == 90 && common && byteAt bs 6 == 0 && byteAt bs 7 == 0 && noSteps && mode == 0 && adv == 0 && eq == 0)

/-- PORT_CFG's checks. -/
def checkPortCfg : Dev → Bytes → Nat := checkLayout 32 [fa 0 0x14] portCfgOk

/-- A port disabled by configuration flushes its queues at the flip, without a hold (R84); its PHY powers down, and Belfry drives it to all
gates open and hold released (R186). -/
def Dev.disablePort (d : Dev) (p : Nat) : Dev :=
  let d1 := if (d.port p).up then
      (((((d.endReception p).loseSending p).modPort p (fun q => { q with up := false })).count 2 (p * 64 + 26)).post 0x0202 p 3).preemptLinkDown p
    else d
  let d2 := (d1.phyAct p 4 .powerDown).modPort p (fun q => { q with
    hold := none, holdExpired := true, retrain := none, stepLevel := 0, plcaOk := false, phyId := 0 })
  (((d2.flushPort p).2.lagPort p).fdbFlushPort p).driveGates p

/-- PORT_CFG in force: a changed ADMIN, MODE, ADVERT or PHY_ADDR takes the link down (cause 3 or 5), and an enabled port's PHY is set
up. -/
def applyPortCfg (bs : Bytes) (d : Dev) : Dev :=
  let p := byteAt bs 0
  let old := d.port p
  let admin := byteAt bs 1 == 1
  let limit := fun (q : Port) (m : Nat) => if q.maxFrame == m then q else { q with maxFrame := m, oldMax := q.maxFrame, maxSince := d.now }
  if p == 90 then d.modPort p (fun q => limit q (le bs 4 2))
  else if 50 ≤ p then d.modPort p (fun q => { q with admin := admin })
  else
    let d1 := d.modPort p (fun q => { limit q (le bs 4 2) with
      admin := admin, mode := byteAt bs 2, advert := byteAt bs 3, flapHold := byteAt bs 6, filterMode := byteAt bs 7,
      phyAddr := byteAt bs 8, stepMask := byteAt bs 9, stepDown := byteAt bs 0x0A, stepUp := byteAt bs 0x0B,
      stepDwell := le bs 0x0C 2, stepQueue := le bs 0x0E 2, txEq := le bs 0x10 4 })
    if old.admin && !admin then d1.disablePort p
    else if !old.admin && admin then (d1.phySetup p).driveGates p
    else if old.admin && (old.mode != byteAt bs 2 || old.advert != byteAt bs 3 || old.phyAddr != byteAt bs 8) then
      let d2 := d1.modPort p (fun q => { q with retrain := none, stepLevel := 0 })
      (if old.up then d2.goDown p 5 else d2).phySetup p
    else d1

/-- PORT_CFG. -/
def execPortCfg (rq : Req) (s : State) : Out := onDev (Dev.serveStaged 0x0201 rq checkPortCfg) s

/-- Filter entry e of PORT_FILTER_SET: ACTION and ADDRESS. -/
def filterEntry (bs : Bytes) (e : Nat) : Nat × Nat := (byteAt bs (4 + 8 * e), be bs (6 + 8 * e) 6)

/-- PORT_FILTER_SET's checks: no two used entries with one ADDRESS (R91). -/
def checkPortFilter : Dev → Bytes → Nat :=
  checkLayout 196
    (fr 0 1 0 49 :: fa 0x84 64 :: (List.range 16).flatMap (fun e => [fr (4 + 8 * e) 1 0 2, fa (6 + 8 * e) 6]))
    (fun bs =>
      let used := ((List.range 16).map (filterEntry bs)).filter (fun x => x.1 != 0)
      decide ((used.map (fun x => x.2)).Nodup))

/-- PORT_FILTER_SET in force (R79). -/
def applyPortFilter (bs : Bytes) (d : Dev) : Dev :=
  d.modPort (byteAt bs 0) (fun q => { q with
    entries := (List.range 16).map (fun e => (e, filterEntry bs e)), hashBins := le bs 0x84 64 })

/-- PORT_FILTER_SET. -/
def execPortFilterSet (rq : Req) (s : State) : Out := onDev (Dev.serveStaged 0x0202 rq checkPortFilter) s

/-- PORT_PLCA_CFG's checks. -/
def checkPortPlca : Dev → Bytes → Nat :=
  checkLayout 8 [fr 0 1 34 49, fr 1 1 0 1, fr 2 1 0 31, fr 3 1 0 32, fr 4 1 1 255, fa 5 1, fa 6 1]
    (fun bs => if byteAt bs 2 == 0 then decide (1 ≤ byteAt bs 3) else byteAt bs 3 == 0)

/-- PORT_PLCA_CFG in force: the device leaves PLCA and rejoins; a new follower's status is not OK until a beacon comes. An up port that
becomes such a follower goes down with cause 1, and PORT_PLCA_STATUS is posted for a beacon's arrival or loss alone, not for a change of
role or a disabling (DESIGN CHOICE, log 84). -/
def applyPortPlca (bs : Bytes) (d : Dev) : Dev :=
  let p := byteAt bs 0
  let follower := byteAt bs 1 == 1 && byteAt bs 2 != 0
  let d1 := d.modPort p (fun q => { q with
    plcaEn := byteAt bs 1 == 1, nodeId := byteAt bs 2, nodeCount := byteAt bs 3, toTimer := byteAt bs 4, burstCount := byteAt bs 5,
    burstTimer := byteAt bs 6, burst := 0, burstEnd := none })
  let d2 := d1.setPlcaStart p none
  if follower && !(d2.port p).plcaOk && (d2.port p).up then d2.goDown p 1 else d2

/-- PORT_PLCA_CFG. -/
def execPortPlcaCfg (rq : Req) (s : State) : Out := onDev (Dev.serveStaged 0x0203 rq checkPortPlca) s

/-! ## PORT_STATUS, PORT_MDIO -/

/-- STATE of PORT_STATUS. -/
def portState (p : Nat) (q : Port) : Nat :=
  if 90 ≤ p then 3
  else if !q.admin then 0
  else if 50 ≤ p ∨ q.up then 3
  else if q.hold.isSome then 2 else 1

/-- PLCA of PORT_STATUS: a coordinator's status is always OK. -/
def plcaField (p : Nat) (q : Port) : Nat :=
  if decide (34 ≤ p) && decide (p < 50) && q.admin && q.plcaEn then b2n (q.nodeId == 0 || q.plcaOk) + 2 * b2n (q.nodeId == 0) else 0

/-- PORT_STATUS. -/
def portStatus (rq : Req) (d : Dev) : Dev :=
  d.serve 0x0204 rq (rspMax 16) (fun d _ bs => withLayout d 4 [fr 0 1 0 95] bs
    (let p := byteAt bs 0
     let q := d.port p
     let up := decide (p < 50) && q.up
     let left := match q.hold with | some t => ceilDiv (t - d.uptime) 1000000 | none => 0
     ansOk d (leb 1 (portState p q) ++ leb 1 (if up then q.speed else 0) ++ leb 1 (if up then q.lineMode else 0) ++ leb 1 (plcaField p q) ++
       leb 2 left ++ leb 1 q.stepLevel ++ zeros 1 ++ leb 4 q.phyId ++ zeros 4)))

/-- PORT_STATUS. -/
def execPortStatus (rq : Req) (s : State) : Out := onDev (portStatus rq) s

/-- A write the device refuses while a port that has the PHY is enabled (R71). -/
def mdioRefused (d : Dev) (op phy devReg addr : Nat) : Bool :=
  let control := (op == 1 && (devReg == 0 || devReg == 4)) || (op == 3 && devReg == 7 && (addr == 0 || addr == 16))
  control && d.ports.any (fun x => x.2.admin && hasPhy x.1 x.2 && x.2.phyAddr % 32 == phy)

/-- The firmware's queued accesses keep the MDIO bus too long for the host's: 16 or more, for over 450 us. -/
def Dev.mdioBusy (d : Dev) : Bool :=
  let left := d.fabric.mdio.filter (fun t => decide (d.uptime < t))
  decide (16 ≤ left.length) && decide (d.uptime + 450000 < left.getLastD 0)

/-- PORT_MDIO: what a PHY's register reads as is the PHY's own (log 25); a write goes out on the bus. -/
def portMdio (rq : Req) (d : Dev) : Dev :=
  d.serve 0x0205 rq (rspMax 4) (fun d _ bs => withLayout d 8 [fr 0 1 0 3, fr 1 1 0 31, fr 2 2 0 31, fa 4 2, fa 6 2] bs
    (let op := byteAt bs 0
     let phy := byteAt bs 1
     let reg := le bs 2 2
     let addr := le bs 4 2
     let data := le bs 6 2
     if (decide (op < 2) && addr != 0) || (op % 2 == 0 && data != 0) then ansErr d stBadParam
     else if mdioRefused d op phy reg addr then ansErr d stNotPermitted
     else if d.mdioBusy then ansErr d stTimeout
     else if op % 2 == 1 then
       ansOk (d.emit (if op == 1 then .mdioWrite phy none reg data else .mdioWrite phy (some reg) addr data)) (leb 2 data ++ zeros 2)
     else
       let v := (if op == 0 then Config.phyRegister d.freeIx phy none reg else Config.phyRegister d.freeIx phy (some reg) addr).toNat
       ansOk { d with freeIx := d.freeIx + 1 } (leb 2 v ++ zeros 2)))

/-- PORT_MDIO. -/
def execPortMdio (rq : Req) (s : State) : Out := onDev (portMdio rq) s

end Sys2Proof.Machine
end

