-- ==== Sys2Proof/Machine/StreamCmds.lean ====
section
/-! DEFINITION. Stream and Belfry commands (chapter 06): staging checks, what a commit puts in force, the conditions a
commit is refused under, and the immediate commands. -/

namespace Sys2Proof.Machine

open Sys2Proof

/-! ## Streams -/

/-- A stream entry of STR_STREAM_SET. -/
def streamOf (bs : Bytes) : Stream :=
  { kind := byteAt bs 3, keyType := byteAt bs 4, inPort := byteAt bs 5, wildcard := le bs 6 2, mac := be bs 8 6
    vid := le bs 0x0E 2, ipSa := be bs 0x10 16, ipDa := be bs 0x20 16, sport := le bs 0x30 2, dport := le bs 0x32 2
    dscp := byteAt bs 0x34, proto := byteAt bs 0x35, tc := byteAt bs 0x36, rtagOut := byteAt bs 0x37
    egressMask := le bs 0x38 12, deadline := le bs 0x44 4, maxLen := le bs 0x48 2, blockOversize := bit (le bs 0x4A 2) 0
    intervalNs := le bs 0x4C 4, maxPer := le bs 0x50 2, meter := le bs 0x52 2, seqgen := le bs 0x54 2
    recovery := le bs 0x56 2, blocked := false, windows := [] }

/-- The fields that KIND and KEY_TYPE do not use are zero, and those they need are not (STR_STREAM_SET). -/
def streamFieldsOk (bs : Bytes) : Bool :=
  let e := streamOf bs
  let port := (decide (e.inPort ≤ 91) || (decide (93 ≤ e.inPort) && decide (e.inPort ≤ 95)) || e.inPort == 0xFF)
  let wild := if e.keyType == 2 then decide (e.wildcard < 256) else e.wildcard == 0 || e.wildcard == 2
  let sa := match e.keyType with
    | 2 => true
    | 3 => e.ipSa % 2 ^ 64 == 0 && e.mac == 0
    | _ => e.ipSa == 0
  let two := e.keyType == 2 ||
    (e.ipDa == 0 && e.sport == 0 && e.dport == 0 && e.dscp == 0 && e.proto == 0)
  let kind :=
    if e.kind == 1 then
      (e.tc == 6 || e.tc == 7) && e.inPort != 0xFF && e.egressMask != 0 && e.intervalNs != 0 && e.maxPer != 0 &&
      bits e.egressMask 50 40 == 0 && !bit e.egressMask 92 && (e.rtagOut != 1 || bit e.seqgen 15)
    else e.tc == 0 && e.rtagOut == 0 && e.egressMask == 0 && e.deadline == 0
  port && wild && sa && two && kind && (e.intervalNs == 0 || decide (1000 ≤ e.intervalNs)) && bits e.meter 12 3 == 0 &&
  bits e.seqgen 10 5 == 0 && bits e.recovery 10 5 == 0

/-- STR_STREAM_SET's checks. -/
def checkStrStream : Dev → Bytes → Nat :=
  checkOp 96 2 [fr 0 2 0 4095]
    [fr 3 1 0 1, fr 4 1 0 3, fa 5 1, fa 6 2, fa 8 6, fr 0x0E 2 0 4095, fa 0x10 16, fa 0x20 16, fa 0x30 2, fa 0x32 2,
     fr 0x34 1 0 63, fa 0x35 1, fa 0x36 1, fr 0x37 1 0 2, fa 0x38 12, fr 0x44 4 0 1000000000, fr 0x48 2 64 9216,
     fr 0x4A 2 0 1, fr 0x4C 4 0 1000000000, fa 0x50 2, fa 0x52 2, fa 0x54 2, fa 0x56 2]
    streamFieldsOk

/-- STR_STREAM_SET in force (R158, R160). -/
def applyStrStream (bs : Bytes) (d : Dev) : Dev :=
  let t := d.streams.table
  { d with streams := { d.streams with
      table := if byteAt bs 2 == 1 then tabDel t (le bs 0 2) else tabPut t (le bs 0 2) (streamOf bs) } }

/-- STR_STREAM_SET. -/
def execStrStreamSet (rq : Req) (s : State) : Out := onDev (Dev.serveStaged 0x0501 rq checkStrStream) s

/-- What a stream compares: two entries with the same are the same key (06, commit-time checks). -/
def streamKey (e : Stream) : List Nat :=
  let on := fun (b v : Nat) => if bit e.wildcard b then 0 else v
  [e.inPort, e.keyType, e.wildcard, on 1 e.vid] ++
  (match e.keyType with
   | 2 => [on 0 e.mac, on 2 e.ipSa, on 3 e.ipDa, on 4 e.dscp, on 5 e.proto, on 6 e.sport, on 7 e.dport]
   | 3 => [e.ipSa]
   | _ => [e.mac])

/-- A staged STR_STREAM_SET of the handle. -/
def setsStream (h : Nat) (c : Staged) : Bool := c.opcode == 0x0501 && le c.data 0 2 == h

/-- Two entries with one key: CONFLICT naming the lower handle. -/
def streamClash (d' : Dev) (b : Batch) : List (Nat × Stream) → Option Refused
  | [] => none
  | (h, e) :: t =>
    match t.find? (fun (x : Nat × Stream) => streamKey x.2 == streamKey e) with
    | some x => conflict 5 h ((b.last (setsStream x.1)).or (b.last (setsStream h)))
    | none => streamClash d' b t

/-- A frame of the stream as it leaves (R155). -/
def leaveLen (e : Stream) : Nat := match e.rtagOut with | 1 => e.maxLen + 6 | 2 => e.maxLen - 6 | _ => e.maxLen

/-- A staged PORT_CFG of the port. -/
def setsPort (p : Nat) (c : Staged) : Bool := c.opcode == 0x0201 && byteAt c.data 0 == p

/-- The first egress port of a scheduled stream whose MAX_FRAME its frames exceed. -/
def streamTooLong (d' : Dev) (e : Stream) : Option Nat :=
  (List.range 96).find? (fun p => bit e.egressMask p && decide ((d'.port p).maxFrame < leaveLen e))

/-- An entry names a meter, a generator or a recovery entry that is not configured: the staging index at fault, where there
is one. -/
def streamNames (d' : Dev) (b : Batch) (h : Nat) (e : Stream) : Option (Option Nat) :=
  let own := b.last (setsStream h)
  let ix := fun (op k i : Nat) => own.or (b.last (fun c =>
    c.opcode == op && le c.data 0 2 == i && (op == 0x0502 || byteAt c.data 2 == k)))
  if bit e.meter 15 && !tabHas d'.streams.meters (bits e.meter 0 12) then some (ix 0x0502 0 (bits e.meter 0 12))
  else if bit e.seqgen 15 && !tabHas d'.streams.seqgens (bits e.seqgen 0 10) then some (ix 0x0507 0 (bits e.seqgen 0 10))
  else if bit e.recovery 15 && !tabHas d'.streams.recoveries (bits e.recovery 0 10) then
    some (ix 0x0507 1 (bits e.recovery 0 10))
  else none

/-- The conflict with twin mode, which owns P9 (R10); its configuration has no object number (log 30). -/
def twinConflict (i : Option Nat) : Option Refused := conflict 0x0D 0 i

/-- The stream conditions a commit is refused under, in the table's order. -/
def commitStreams (d' : Dev) (b : Batch) : Option Refused :=
  let t := d'.streams.table
  let twinP9 := t.find? (fun x => d'.twin.enable && (x.2.inPort == 9 || bit x.2.egressMask 9))
  (streamClash d' b t).or <|
  ((twinP9.bind (fun x => twinConflict (b.last (fun c => setsStream x.1 c || c.opcode == 0x0D06))))).or <|
  (t.findSome? (fun x => (streamTooLong d' x.2).bind (fun p =>
    refuseAt stNoResource ((b.last (setsStream x.1)).or (b.last (setsPort p)))))).or <|
  (t.findSome? (fun x => (streamNames d' b x.1 x.2).bind (fun i => refuseAt stNotFound i)))

/-! ## Meters -/

/-- STR_METER_SET's checks. -/
def checkStrMeter : Dev → Bytes → Nat :=
  checkLayout 24 [fr 0 2 0 4095, fr 2 1 0 31, fr 4 4 0 160000, fr 8 4 0 4194304, fr 0x0C 4 0 160000, fr 0x10 4 0 4194304]
    (fun _ => true)

/-- STR_METER_SET in force: full buckets, unlatched (R164). -/
def applyStrMeter (bs : Bytes) (d : Dev) : Dev :=
  let i := le bs 0 2
  let m : Meter :=
    { flags := byteAt bs 2, cir := le bs 4 4, cbs := le bs 8 4, eir := le bs 0x0C 4, ebs := le bs 0x10 4
      c := le bs 8 4 * creditUnit, e := le bs 0x10 4 * creditUnit, last := d.uptime, latched := false }
  let t := d.streams.meters
  { d with streams := { d.streams with meters := if bit (byteAt bs 2) 0 then tabPut t i m else tabDel t i } }

/-- STR_METER_SET. -/
def execStrMeterSet (rq : Req) (s : State) : Out := onDev (Dev.serveStaged 0x0502 rq checkStrMeter) s

/-! ## Gate lists -/

/-- STR_GATE_CFG's checks. -/
def checkStrGateCfg : Dev → Bytes → Nat :=
  checkLayout 32 [fr 0 1 0 49, fr 1 1 0 1, fr 2 2 0 1024, fr 4 4 0 250000000, fa 8 6, fr 0x0E 4 0 999999999]
    (fun bs =>
      if byteAt bs 1 == 1 then decide (1 ≤ le bs 2 2) && decide (250 ≤ le bs 4 4)
      else le bs 2 2 == 0 && le bs 4 4 == 0 && t80At bs 8 == 0)

/-- STR_GATE_CFG. -/
def execStrGateCfg (rq : Req) (s : State) : Out := onDev (Dev.serveStaged 0x0503 rq checkStrGateCfg) s

/-- A gate list entry: gates, OP, interval. -/
def gateEntry (v : Nat) : Nat × Nat × Nat := (v / 2 ^ 56, bits v 54 2, bits v 0 28)

/-- A gate list entry's fields are in range. -/
def gateEntryOk (v : Nat) : Bool :=
  decide (bits v 54 2 ≤ 2) && bits v 28 26 == 0 && decide (1 ≤ bits v 0 28) && decide (bits v 0 28 ≤ 250000000)

/-- STR_GATE_ENTRIES' checks. -/
def checkStrGateEntries (_ : Dev) (bs : Bytes) : Nat :=
  let n := le bs 4 2
  if bs.length < 16 ∨ bs.length ≠ 16 + 8 * n then stBadLength
  else if layoutOk [fr 0 1 0 49, fr 2 2 0 1023, fr 4 2 1 510] (bs.take 16) && decide (le bs 2 2 + n ≤ 1024) &&
      (List.range n).all (fun i => gateEntryOk (le bs (16 + 8 * i) 8)) then stOk
  else stBadParam

/-- STR_GATE_ENTRIES. -/
def execStrGateEntries (rq : Req) (s : State) : Out := onDev (Dev.serveStaged 0x0504 rq checkStrGateEntries) s

/-- The gate list entries a transaction writes for a port; the write staged last holds (R188). -/
def gateWrites (b : Batch) (p : Nat) : Tab (Nat × Nat × Nat) :=
  (b.filter (fun x => x.2.opcode == 0x0504 && byteAt x.2.data 0 == p)).foldl (fun t x =>
    (List.range (le x.2.data 4 2)).foldl (fun t i =>
      tabPut t (le x.2.data 2 2 + i) (gateEntry (le x.2.data (16 + 8 * i) 8))) t) []

/-- A port's STR_GATE_CFG that holds in a transaction: the last one staged. -/
def gateCfg (b : Batch) (p : Nat) : Option (Nat × Bytes) :=
  ((b.filter (fun x => x.2.opcode == 0x0503 && byteAt x.2.data 0 == p)).getLast?).map (fun x => (x.1, x.2.data))

/-- R188: what a transaction writes of a port's gate list is complete and within it. -/
def commitGates (b : Batch) (p : Nat) : Option Refused :=
  let len := match gateCfg b p with
    | some c => le c.2 2 2
    | none => 0
  let w := gateWrites b p
  let missing := match gateCfg b p with
    | some c => if (List.range len).all (fun i => tabHas w i) then none else refuseAt stNotFound (some c.1)
    | none => none
  missing.or
    ((b.find? (fun x => x.2.opcode == 0x0504 && byteAt x.2.data 0 == p &&
      decide (len < le x.2.data 2 2 + le x.2.data 4 2))).bind (fun x => refuseAt stNotFound (some x.1)))

/-- The admin list a transaction arms on a port: none where it names none, some none where it disables the list. -/
def gateArmed (b : Batch) (p : Nat) : Option (Option GateList) :=
  (gateCfg b p).map (fun c =>
    if byteAt c.2 1 == 0 then none
    else some { entries := (gateWrites b p).map (fun e => e.2), cycle := le c.2 4 4, base := t80At c.2 8 })

/-- COMMIT arms the lists of a transaction (R174 to R176). -/
def armGates (b : Batch) (d : Dev) : Dev :=
  (List.range 50).foldl (fun e p =>
    match gateArmed b p with
    | some l => e.putGates p ((e.gates p).arm l e.now)
    | none => e) d

/-! ## Shapers -/

/-- The rates a port's MODE, ADVERT and STEP_MASK permit, in Mbit/s; TS ports run at 10. -/
def permittedRates (p : Nat) (q : Port) : List Nat :=
  let own :=
    if p < 10 then (if q.mode == 4 then [10000, 5000, 2500, 1000] else [speedMbps (modeSpeed q.mode)])
    else if p < 34 then
      match q.mode with
      | 0 => (if bit q.advert 0 then [1000] else []) ++ (if bit q.advert 1 then [100] else []) ++
          (if bit q.advert 2 || q.advert % 8 == 0 then [10] else [])
      | 1 => [1000]
      | 2 => [100]
      | _ => [10]
    else [10]
  own ++ (stepRates p q.stepMask).map speedMbps

/-- The lowest of them (R89, R182, R192). -/
def lowestRate (p : Nat) (q : Port) : Nat := (permittedRates p q).foldl min 10000

/-- STR_CBS_SET's checks. -/
def checkStrCbs : Dev → Bytes → Nat :=
  checkLayout 16 [fr 0 1 0 49, fr 1 1 1 5, fr 2 1 0 1, fr 4 4 1 10000000] (fun _ => true)

/-- STR_CBS_SET: in force at the next frame start of the class (R182). -/
def applyStrCbs (bs : Bytes) (d : Dev) : Dev :=
  let k := byteAt bs 0 * 8 + byteAt bs 1
  { d with streams := { d.streams with
      cbs := tabMod cbs0 d.streams.cbs k (fun c => { c with next := some (byteAt bs 2 == 1, le bs 4 4) }) } }

/-- STR_CBS_SET. -/
def execStrCbsSet (rq : Req) (s : State) : Out := onDev (Dev.serveStaged 0x0505 rq checkStrCbs) s

/-- The idle slope a shaper has once its committed change is in force. -/
def Cbs.committed (c : Cbs) : Nat :=
  match c.next with
  | some (on, i) => if on then i else 0
  | none => if c.enable then c.idleSlope else 0

/-- R182: idle slopes over the port's lowest rate. -/
def commitCbs (d' : Dev) (b : Batch) (p : Nat) : Option Refused :=
  let sum := ((d'.streams.cbs.filter (fun x => x.1 / 8 == p)).map (fun x => x.2.committed)).sum
  if sum ≤ lowestRate p (d'.port p) * 1000 then none
  else refuseAt stNoResource ((b.last (fun c => c.opcode == 0x0505 && byteAt c.data 0 == p)).or (b.last (setsPort p)))

/-! ## Preemption -/

/-- STR_PREEMPT_CFG's checks. -/
def checkStrPreempt : Dev → Bytes → Nat :=
  checkLayout 8 [fr 0 1 0 33, fr 1 1 0 1, fa 2 1, fr 3 1 0 3, fr 4 1 0 1, fr 6 2 1 128]
    (fun bs => bit (byteAt bs 2) 7 && !bit (byteAt bs 2) 6)

/-- STR_PREEMPT_CFG in force: on a port that is up verification begins, and frames leave whole until it ends. -/
def applyStrPreempt (bs : Bytes) (d : Dev) : Dev :=
  let p := byteAt bs 0
  let q : Preempt :=
    { d.preempt p with
      enable := byteAt bs 1 == 1, expressMask := byteAt bs 2, addFrag := byteAt bs 3, verify := byteAt bs 4 == 1
      verifyMs := le bs 6 2, tries := 0, deadline := none }
  let d1 := { d with streams := { d.streams with preempt := tabPut d.streams.preempt p q } }
  if q.enable && (d.port p).up then d1.preemptLinkUp p else d1.preemptLinkDown p

/-- STR_PREEMPT_CFG. -/
def execStrPreemptCfg (rq : Req) (s : State) : Out := onDev (Dev.serveStaged 0x0506 rq checkStrPreempt) s

/-! ## Replication and elimination -/

/-- STR_FRER_SET's checks. -/
def checkStrFrer : Dev → Bytes → Nat :=
  checkLayout 16 [fr 0 2 0 1023, fr 2 1 0 1, fr 3 1 0 3, fr 4 1 0 64, fr 5 1 0 8, fa 6 2, fa 8 2, fa 0x0A 2]
    (fun bs =>
      if byteAt bs 2 == 0 then allZero (slice bs 4 8)
      else
        decide (2 ≤ byteAt bs 4) && decide (1 ≤ byteAt bs 5) && decide (1 ≤ le bs 6 2) &&
        (le bs 8 2 == 0 || decide (100 ≤ le bs 8 2)))

/-- STR_FRER_SET in force: sequence number 0, or TAKE_ANY. -/
def applyStrFrer (bs : Bytes) (d : Dev) : Dev :=
  let i := le bs 0 2
  let valid := bit (byteAt bs 3) 0
  let r : Recovery :=
    { takeNoSeq := bit (byteAt bs 3) 1, history := byteAt bs 4, paths := byteAt bs 5, resetMs := le bs 6 2
      latentMs := le bs 8 2, latentThreshold := le bs 0x0A 2, takeAny := true, seq := 0, hist := 0, deadline := none
      passed := 0, discarded := 0, periodEnd := d.uptime + ms (le bs 8 2) }
  let s := d.streams
  if byteAt bs 2 == 0 then { d with streams := { s with seqgens := if valid then tabPut s.seqgens i 0 else tabDel s.seqgens i } }
  else { d with streams := { s with recoveries := if valid then tabPut s.recoveries i r else tabDel s.recoveries i } }

/-- STR_FRER_SET. -/
def execStrFrerSet (rq : Req) (s : State) : Out := onDev (Dev.serveStaged 0x0507 rq checkStrFrer) s

/-! ## Observation -/

/-- STR_OBSERVE_CFG's checks. -/
def checkStrObserve : Dev → Bytes → Nat :=
  checkLayout 16 [fr 0 1 0 49, fa 1 1, fr 2 1 0 1, fr 4 4 1 1000000, fa 8 4] (fun _ => true)

/-- STR_OBSERVE_CFG in force; the store keeps its records. -/
def applyStrObserve (bs : Bytes) (d : Dev) : Dev :=
  { d with streams := { d.streams with
      observe := tabMod observe0 d.streams.observe (byteAt bs 0) (fun o => { o with
        tcMask := byteAt bs 1, enable := byteAt bs 2 == 1, periodUs := le bs 4 4, alarmNs := le bs 8 4
        lastSample := d.now }) } }

/-- STR_OBSERVE_CFG. -/
def execStrObserveCfg (rq : Req) (s : State) : Out := onDev (Dev.serveStaged 0x0508 rq checkStrObserve) s

/-- STR_OBSERVE_READ. -/
def strObserveRead (rq : Req) (d : Dev) : Dev :=
  d.serve 0x0509 rq (fun _ bs => 8 + 32 * byteAt bs 1) (fun d _ bs => withLayout d 8 [fr 0 1 0 49, fr 1 1 1 64, fa 4 4] bs
    (let o := tabGet observe0 d.streams.observe (byteAt bs 0)
     let oldest := match o.records.head? with
       | some r => r.1
       | none => o.seq
     let skip := signed 32 (le bs 4 4 + 2 ^ 32 - oldest)
     if skip < 0 then ansErrD d stNotFound oldest
     else
       let got := (o.records.drop skip.toNat).take (byteAt bs 1)
       ansOk d (leb 2 got.length ++ zeros 2 ++ leb 4 oldest ++ got.flatMap (fun r => r.2))))

/-- STR_OBSERVE_READ. -/
def execStrObserveRead (rq : Req) (s : State) : Out := onDev (strObserveRead rq) s

/-! ## Immediate commands -/

/-- STR_GATE_STATUS. -/
def strGateStatus (rq : Req) (d : Dev) : Dev :=
  d.serve 0x050A rq (rspMax 32) (fun d _ bs => withLayout d 4 [fr 0 1 0 49] bs
    (let g := d.gates (byteAt bs 0)
     let pending := match g.pending.head? with
       | some x => x.2
       | none => 0
     let st := if g.oper.isNone then 0 else if g.pending.isEmpty then 1 else 2
     let oper := match g.oper with
       | some (l, s) =>
         let entry := match l.spanAt s d.now with
           | some x => x.2.2.2.2
           | none => 0
         leb 2 entry ++ leb 4 l.cycle ++ t80le s
       | none => zeros 16
     ansOk d (leb 1 st ++ leb 1 (d.gateVector (byteAt bs 0)) ++ oper ++ zeros 2 ++ t80le pending ++ zeros 2)))

/-- STR_GATE_STATUS. -/
def execStrGateStatus (rq : Req) (s : State) : Out := onDev (strGateStatus rq) s

/-- STR_FILTER_RESET (R160, R164, R166). -/
def strFilterReset (rq : Req) (d : Dev) : Dev :=
  d.serve 0x050B rq (rspMax 0) (fun d _ bs => withLayout d 4 [fr 0 1 0 2, fr 2 2 0 4095] bs
    (let i := le bs 2 2
     let s := d.streams
     match byteAt bs 0 with
     | 0 =>
       if tabHas s.table i then
         ansOk { d with streams := { s with table := tabUpd s.table i (fun e => { e with blocked := false }) } } []
       else ansErr d stNotFound
     | 1 =>
       if tabHas s.meters i then
         ansOk { d with streams := { s with meters := tabUpd s.meters i (fun m => { m with latched := false }) } } []
       else ansErr d stNotFound
     | _ =>
       if 1023 < i then ansErr d stBadParam
       else if tabHas s.recoveries i then
         ansOk { d with streams := { s with
           recoveries := tabUpd s.recoveries i (fun r => { r with takeAny := true, deadline := none }) } } []
       else ansErr d stNotFound))

/-- STR_FILTER_RESET. -/
def execStrFilterReset (rq : Req) (s : State) : Out := onDev (strFilterReset rq) s

/-- STR_STREAM_STATUS. -/
def strStreamStatus (rq : Req) (d : Dev) : Dev :=
  d.serve 0x050C rq (rspMax 16) (fun d _ bs => withLayout d 4 [fr 0 2 0 4095] bs
    (match tabFind d.streams.table (le bs 0 2) with
     | none => ansOk d (zeros 16)
     | some e =>
       let m := (if bit e.meter 15 then tabFind d.streams.meters (bits e.meter 0 12) else none).map (fun m => meterFill m d.uptime)
       let r := if bit e.recovery 15 then tabFind d.streams.recoveries (bits e.recovery 0 10) else none
       let flags := 1 + 2 * b2n (e.kind == 1) + 4 * b2n e.blocked + 8 * b2n (m.any (fun m => m.latched)) +
         16 * b2n (r.any (fun r => r.takeAny))
       let n := if e.intervalNs == 0 then 0 else tabGet 0 e.windows (filterWindow e d.now)
       ansOk d (leb 1 flags ++ zeros 1 ++ leb 2 n ++ leb 4 ((m.map (fun m => m.c / creditUnit)).getD 0) ++
         leb 4 ((m.map (fun m => m.e / creditUnit)).getD 0) ++ leb 2 ((r.map (fun r => r.seq)).getD 0) ++ zeros 2)))

/-- STR_STREAM_STATUS. -/
def execStrStreamStatus (rq : Req) (s : State) : Out := onDev (strStreamStatus rq) s

end Sys2Proof.Machine
end

