-- ==== Sys2Proof/Machine/LauterCmds.lean ====
section
/-! DEFINITION. Lauter's commands (chapter 05): staging checks, what a commit writes into the banked tables and the state
tables, the bank switch, and the immediate commands. -/

namespace Sys2Proof.Machine

open Sys2Proof

/-- A destination encoding is one of the allowed. -/
def destOk (v : Nat) : Bool :=
  decide (v < 4096) &&
  (match v / 1024 with
   | 0 => decide (v < 96)
   | 1 => decide (v % 1024 < 8)
   | 2 => true
   | _ => v % 1024 == 0)

/-! ## Banked tables -/

/-- LTR_PORT_CFG's checks. -/
def checkLtrPort : Dev → Bytes → Nat :=
  checkLayout 16 [fa 0 1, fr 1 1 0 2, fr 2 2 1 4094, fr 4 1 0 63, fr 5 1 0 15, fr 6 2 0 32768, fr 8 4 0 (2 ^ 27 - 1)]
    (fun bs =>
      let p := byteAt bs 0
      (decide (p < 50) || p == 90 || p == 91 || p == 94 || p == 95) &&
      (List.range 8).all (fun i => decide (bits (le bs 8 4) (3 * i) 3 ≤ 5)))

/-- LTR_PORT_CFG. -/
def execLtrPortCfg (rq : Req) (s : State) : Out := onDev (Dev.serveStaged 0x0401 rq checkLtrPort) s

/-- LTR_VLAN_SET's checks. -/
def checkLtrVlan : Dev → Bytes → Nat :=
  checkLayout 32 [fr 0 2 1 4094, fr 2 2 0 4095, fr 4 2 0 31, fr 6 1 0 63, fa 8 12, fa 0x14 12] (fun _ => true)

/-- LTR_VLAN_SET. -/
def execLtrVlanSet (rq : Req) (s : State) : Out := onDev (Dev.serveStaged 0x0402 rq checkLtrVlan) s

/-- LTR_ACL_WRITE's checks: no key bit outside the mask, and no key type that no frame has. -/
def checkLtrAcl : Dev → Bytes → Nat :=
  checkOp 96 2 [fr 0 2 0 4095] [fr 4 1 0 2, fa 5 1, fr 6 2 0 4095, fa 8 2, fr 0x0A 2 0 4095, fr 0x0C 2 0 1, fa 0x10 40, fa 0x38 40]
    (fun bs =>
      let key := le bs 0x10 40
      let mask := le bs 0x38 40
      !bit (byteAt bs 5) 6 && bits (le bs 8 2) 12 3 == 0 && destOk (le bs 6 2) && key &&& mask == key &&
      !(bit mask 319 && bit key 319))

/-- LTR_ACL_WRITE. -/
def execLtrAclWrite (rq : Req) (s : State) : Out := onDev (Dev.serveStaged 0x0408 rq checkLtrAcl) s

/-- LTR_PROFILE_SET's checks. -/
def checkLtrProfile : Dev → Bytes → Nat :=
  checkLayout 8 [fr 0 2 0 4095, fa 2 1, fa 3 1, fa 4 2, fr 6 1 0 1]
    (fun bs =>
      bits (byteAt bs 2) 3 4 == 0 && decide (byteAt bs 2 % 8 ≤ 5) && bits (byteAt bs 3) 3 4 == 0 && bits (le bs 4 2) 10 5 == 0)

/-- LTR_PROFILE_SET. -/
def execLtrProfileSet (rq : Req) (s : State) : Out := onDev (Dev.serveStaged 0x0409 rq checkLtrProfile) s

/-- LTR_POLICER_SET's checks. -/
def checkLtrPolicer : Dev → Bytes → Nat :=
  checkLayout 16 [fr 0 2 0 1023, fr 2 1 0 1, fr 3 1 0 5, fr 4 4 1 160000, fr 8 4 64 4194304] (fun _ => true)

/-- LTR_POLICER_SET. -/
def execLtrPolicerSet (rq : Req) (s : State) : Out := onDev (Dev.serveStaged 0x040A rq checkLtrPolicer) s

/-- LTR_ZONE_MATRIX's checks. -/
def checkLtrMatrix : Dev → Bytes → Nat :=
  checkLayout 68 [fr 0 1 0 63, fa 4 64]
    (fun bs => (List.range 64).all (fun i => decide (byteAt bs (4 + i) % 4 ≤ 2) && decide (byteAt bs (4 + i) < 8)))

/-- LTR_ZONE_MATRIX. -/
def execLtrZoneMatrix (rq : Req) (s : State) : Out := onDev (Dev.serveStaged 0x040B rq checkLtrMatrix) s

/-- The banked table commands (R150). -/
def isBanked (op : Nat) : Bool := [0x0401, 0x0402, 0x0408, 0x0409, 0x040A, 0x040B].contains op

/-- A banked command applied to a bank. -/
def applyBank (c : Staged) (b : RuleBank) : RuleBank :=
  let bs := c.data
  match c.opcode with
  | 0x0401 =>
    let e : LPort :=
      { accept := byteAt bs 1, pvid := le bs 2 2, zone := byteAt bs 4, flags := byteAt bs 5, learnLimit := le bs 6 2
        pcpTc := le bs 8 4 }
    { b with ports := tabPut b.ports (byteAt bs 0) e }
  | 0x0402 =>
    let e : Vlan :=
      { fid := le bs 2 2, flags := le bs 4 2, zone := byteAt bs 6, member := le bs 8 12, untag := le bs 0x14 12 }
    { b with vlans := tabPut b.vlans (le bs 0 2) e }
  | 0x0408 =>
    let e : Acl :=
      { disp := byteAt bs 4, zoneSet := byteAt bs 5, dest := le bs 6 2, metaSet := le bs 8 2, profile := le bs 0x0A 2
        bypass := bit (le bs 0x0C 2) 0, key := le bs 0x10 40, mask := le bs 0x38 40 }
    { b with acl := if byteAt bs 2 == 1 then tabDel b.acl (le bs 0 2) else tabPut b.acl (le bs 0 2) e }
  | 0x0409 =>
    let e : Profile := { tc := byteAt bs 2, mirror := byteAt bs 3, policer := le bs 4 2, copySpire := byteAt bs 6 == 1 }
    { b with profiles := tabPut b.profiles (le bs 0 2) e }
  | 0x040A =>
    let e : Policer := { mode := byteAt bs 2, redTc := byteAt bs 3, cir := le bs 4 4, cbs := le bs 8 4 }
    { b with policers := tabPut b.policers (le bs 0 2) e }
  | 0x040B =>
    { b with matrix := (List.range 64).foldl (fun t y => tabPut t (byteAt bs 0 * 64 + y) (byteAt bs (4 + y))) b.matrix }
  | _ => b

/-- A banked command in the configuration a commit evaluates. -/
def applyBanked (c : Staged) (d : Dev) : Dev := { d with lauter := { d.lauter with bank := applyBank c d.lauter.bank } }

/-! ## State tables -/

/-- LTR_FDB_STATIC's checks. -/
def checkLtrStatic : Dev → Bytes → Nat :=
  checkOp 16 0 [fr 2 2 0 4095, fa 4 6] [fr 1 1 0 63, fr 0x0A 2 0 0xBFF] (fun bs => destOk (le bs 0x0A 2))

/-- LTR_FDB_STATIC. -/
def execLtrFdbStatic (rq : Req) (s : State) : Out := onDev (Dev.serveStaged 0x0403 rq checkLtrStatic) s

/-- The way a static entry takes in a full bucket: the lowest dynamic one whose age bit is clear, else the lowest dynamic
one (05, L1). -/
def displaced (t : Tab Fdb) (bucket : Nat) : Option Nat :=
  let ways := t.filter (fun e => e.1 / 4 == bucket && !e.2.isStatic)
  ((ways.find? (fun e => !e.2.age)).or ways.head?).map (fun e => e.1)

/-- LTR_FDB_STATIC on the FDB: the table after it, or the status it fails the commit with. -/
def fdbStatic (bs : Bytes) (t : Tab Fdb) : Nat ⊕ Tab Fdb :=
  let fid := le bs 2 2
  let mac := be bs 4 6
  let b := fdbBucket fid mac
  let here := t.find? (fun e => e.1 / 4 == b && e.2.mac == mac && e.2.fid == fid)
  if byteAt bs 0 == 1 then
    match here with
    | some (i, e) => if e.isStatic then .inr (tabDel t i) else .inl stNotFound
    | none => .inl stNotFound
  else
    let e : Fdb := { mac := mac, fid := fid, dest := le bs 0x0A 2, zone := byteAt bs 1, isStatic := true, age := false }
    match (here.map (fun x => x.1)).or ((freeWay t b).or (displaced t b)) with
    | some i => .inr (tabPut t i e)
    | none => .inl stNoResource

/-- LTR_FDB_STATIC in force. -/
def applyLtrStatic (bs : Bytes) (d : Dev) : Dev :=
  match fdbStatic bs d.lauter.fdb with
  | .inr t => d.putFdb t
  | .inl _ => d

/-- LTR_FDB_CFG's checks. -/
def checkLtrFdbCfg : Dev → Bytes → Nat := checkLayout 8 [fr 0 4 10 1000000] (fun _ => true)

/-- LTR_FDB_CFG in force. -/
def applyLtrFdbCfg (bs : Bytes) (d : Dev) : Dev := { d with lauter := { d.lauter with ageTime := le bs 0 4 } }

/-- LTR_FDB_CFG. -/
def execLtrFdbCfg (rq : Req) (s : State) : Out := onDev (Dev.serveStaged 0x0404 rq checkLtrFdbCfg) s

/-- LTR_MCAST_GROUP's checks. -/
def checkLtrMcast : Dev → Bytes → Nat := checkLayout 16 [fr 0 2 0 1023, fa 4 12] (fun _ => true)

/-- LTR_MCAST_GROUP in force. -/
def applyLtrMcast (bs : Bytes) (d : Dev) : Dev :=
  { d with lauter := { d.lauter with mcast := tabPut d.lauter.mcast (le bs 0 2) (le bs 4 12) } }

/-- LTR_MCAST_GROUP. -/
def execLtrMcastGroup (rq : Req) (s : State) : Out := onDev (Dev.serveStaged 0x0407 rq checkLtrMcast) s

/-- LTR_CT_CFG's checks. -/
def checkLtrCt : Dev → Bytes → Nat :=
  checkLayout 48 ([fa 0 4, fr 4 2 0 1, fr 6 2 1 60000] ++ (List.range 9).map (fun i => fr (8 + 4 * i) 4 1 86400)) (fun _ => true)

/-- LTR_CT_CFG in force: a new SEED empties the connection table, the copy limiter is full (R146). -/
def applyLtrCt (bs : Bytes) (d : Dev) : Dev :=
  let l := d.lauter
  { d with lauter := { l with
      conns := if le bs 0 4 == l.seed then l.conns else []
      seed := le bs 0 4, loose := bit (le bs 4 2) 0, spireRate := le bs 6 2
      timeouts := (List.range 9).map (fun i => le bs (8 + 4 * i) 4), spireTokens := 64000000000, spireLast := d.uptime } }

/-- LTR_CT_CFG. -/
def execLtrCtCfg (rq : Req) (s : State) : Out := onDev (Dev.serveStaged 0x040C rq checkLtrCt) s

/-- The commands that change Lauter's state tables, which a bank switch applies (R150 step 4). -/
def applyLauterState (c : Staged) (d : Dev) : Dev :=
  match c.opcode with
  | 0x0403 => applyLtrStatic c.data d
  | 0x0404 => applyLtrFdbCfg c.data d
  | 0x0407 => applyLtrMcast c.data d
  | 0x040C => applyLtrCt c.data d
  | _ => d

/-! ## The bank switch (R147, R150) -/

/-- Policers whose parameters change start with full credit. -/
def keptCredits (old new : RuleBank) (t : Tab (Nat × Nat)) : Tab (Nat × Nat) :=
  t.filter (fun e => tabFind old.policers e.1 == tabFind new.policers e.1)

/-- Put the other bank in force with a generation, and the staged state-table commands with it. -/
def Dev.flipBanks (d : Dev) (staged : List Staged) (generation pause : Nat) : Dev :=
  let l := d.lauter
  let d1 := { d with lauter := { l with
      gen := !l.gen, bank := l.other, other := l.bank, bankGeneration := generation, lastPause := pause
      maxPause := max l.maxPause pause, credits := keptCredits l.bank l.other l.credits } }
  let d2 := staged.foldl (fun e c => applyLauterState c e) d1
  (d2.count 4 6227).post 0x0404 (b2n (!l.gen)) (pause % 2 ^ 32 + generation * 2 ^ 32)

/-! ## Conditions a commit is refused under -/

/-- A mask or destination names P9. -/
def namesP9 (dest : Nat) : Bool := dest == 9

/-- A Lauter configuration that names P9 in twin mode: the staging index of what names it (R10). -/
def lauterNamesP9 (d' : Dev) : Option (Staged → Bool) :=
  let k := d'.lauter.bank
  let vlan := (k.vlans.find? (fun v => bit v.2.flags 0 && bit v.2.member 9)).map
    (fun v => fun (c : Staged) => c.opcode == 0x0402 && le c.data 0 2 == v.1)
  let acl := (k.acl.find? (fun e => e.2.disp == 1 && namesP9 e.2.dest)).map
    (fun e => fun (c : Staged) => c.opcode == 0x0408 && le c.data 0 2 == e.1)
  let fdb := (d'.lauter.fdb.find? (fun e => e.2.isStatic && namesP9 e.2.dest)).map
    (fun e => fun (c : Staged) => c.opcode == 0x0403 && le c.data 2 2 == e.2.fid && be c.data 4 6 == e.2.mac)
  let mcast := (d'.lauter.mcast.find? (fun g => bit g.2 9)).map
    (fun g => fun (c : Staged) => c.opcode == 0x0407 && le c.data 0 2 == g.1)
  vlan.or (acl.or (fdb.or mcast))

/-- The static entries of a transaction, in its order: the first that fails. -/
def commitStatics : Batch → Tab Fdb → Option Refused
  | [], _ => none
  | (i, c) :: t, f =>
    if c.opcode != 0x0403 then commitStatics t f
    else
      match fdbStatic c.data f with
      | .inl st => refuseAt st (some i)
      | .inr f' => commitStatics t f'

/-- LAG members that differ in DEFAULT_ZONE (R144). -/
def commitLagZones (d' : Dev) (b : Batch) : Option Refused :=
  d'.fabric.lags.findSome? (fun g =>
    let ps := g.2.members.map (fun m => m.2)
    let zs := (ps.map (fun p => (d'.lauter.bank.port p).zone)).eraseDups
    if zs.length ≤ 1 then none
    else refuseAt stNoResource (b.last (fun c =>
      (c.opcode == 0x0305 && byteAt c.data 0 == g.1) || (c.opcode == 0x0401 && ps.contains (byteAt c.data 0)))))

/-- A profile names a policer that is not configured. -/
def commitProfiles (d' : Dev) (b : Batch) : Option Refused :=
  (d'.lauter.bank.profiles.find? (fun p =>
    bit p.2.policer 15 && !tabHas d'.lauter.bank.policers (bits p.2.policer 0 10))).bind (fun p =>
      refuseAt stNotFound (b.last (fun c => c.opcode == 0x0409 && le c.data 0 2 == p.1)))

/-! ## Immediate commands -/

/-- LTR_FDB_FLUSH. -/
def ltrFdbFlush (rq : Req) (d : Dev) : Dev :=
  d.serve 0x0405 rq (rspMax 4) (fun d _ bs => withLayout d 8 [fr 0 1 0 2, fr 2 2 0 4095, fr 4 2 0 4095] bs
    (let goes := fun (e : Nat × Fdb) => !e.2.isStatic &&
       (match byteAt bs 0 with
        | 0 => true
        | 1 => e.2.dest == le bs 4 2
        | _ => e.2.fid == le bs 2 2)
     ansOk (d.putFdb (d.lauter.fdb.filter (fun e => !goes e))) (leb 4 (d.lauter.fdb.filter goes).length)))

/-- LTR_FDB_FLUSH. -/
def execLtrFdbFlush (rq : Req) (s : State) : Out := onDev (ltrFdbFlush rq) s

/-- The header of a table read: COUNT and NEXT, the index of the next entry to read. -/
def readHeader {α : Type} (got rest : List (Nat × α)) : Bytes :=
  leb 2 got.length ++ zeros 2 ++ leb 4 (match rest.head? with
    | some e => e.1
    | none => 0xFFFFFFFF)

/-- An FDB record; its MAC is a little-endian field (R1, log 80). -/
def fdbRecord (e : Nat × Fdb) : Bytes :=
  leb 6 e.2.mac ++ leb 2 e.2.fid ++ leb 2 e.2.dest ++ leb 1 e.2.zone ++ leb 1 (b2n e.2.isStatic + 2 * b2n e.2.age) ++ zeros 4

/-- LTR_FDB_READ. -/
def ltrFdbRead (rq : Req) (d : Dev) : Dev :=
  let cap := if reqBulkRsp rq then 32768 else 255
  d.serve 0x0406 rq (fun _ bs => 8 + 16 * min (le bs 4 2) (32768 - le bs 0 4))
    (fun d _ bs => withLayout d 8 [fr 0 4 0 32767, fr 4 2 1 cap] bs
      (let all := d.lauter.fdb.filter (fun e => decide (le bs 0 4 ≤ e.1))
       let got := all.take (le bs 4 2)
       ansOk d (readHeader got (all.drop (le bs 4 2)) ++ got.flatMap fdbRecord)))

/-- LTR_FDB_READ. -/
def execLtrFdbRead (rq : Req) (s : State) : Out := onDev (ltrFdbRead rq) s

/-- LTR_CT_FLUSH. -/
def ltrCtFlush (rq : Req) (d : Dev) : Dev :=
  d.serve 0x040D rq (rspMax 4) (fun d _ bs => withLayout d 8 [fr 0 1 0 1, fr 1 1 0 63] bs
    (let goes := fun (e : Nat × Conn) => byteAt bs 0 == 0 || e.2.hasZone (byteAt bs 1)
     ansOk (d.putConns (d.lauter.conns.filter (fun e => !goes e))) (leb 4 (d.lauter.conns.filter goes).length)))

/-- LTR_CT_FLUSH. -/
def execLtrCtFlush (rq : Req) (s : State) : Out := onDev (ltrCtFlush rq) s

/-- A connection record. -/
def ctRecord (now : Nat) (e : Nat × Conn) : Bytes :=
  let c := e.2
  beb 16 (c.lo / 65536) ++ beb 16 (c.hi / 65536) ++ leb 2 (c.lo % 65536) ++ leb 2 (c.hi % 65536) ++ leb 1 c.family ++
    leb 1 c.proto ++ leb 1 c.state ++ leb 1 (b2n c.origHi + 2 * b2n c.finLo + 4 * b2n c.finHi) ++ leb 1 c.loZone ++
    leb 1 c.hiZone ++ leb 2 (min ((now - c.last) / 1000000000) 65535) ++ leb 4 e.1

/-- LTR_CT_READ. -/
def ltrCtRead (rq : Req) (d : Dev) : Dev :=
  let cap := if reqBulkRsp rq then 65535 else 85
  d.serve 0x040E rq (fun _ bs => 8 + 48 * min (le bs 4 2) (65536 - le bs 0 4))
    (fun d _ bs => withLayout d 8 [fr 0 4 0 65535, fr 4 2 1 cap] bs
      (let all := d.lauter.conns.filter (fun e => decide (le bs 0 4 ≤ e.1))
       let got := all.take (le bs 4 2)
       ansOk d (readHeader got (all.drop (le bs 4 2)) ++ got.flatMap (ctRecord d.uptime))))

/-- LTR_CT_READ. -/
def execLtrCtRead (rq : Req) (s : State) : Out := onDev (ltrCtRead rq) s

/-- LTR_ZONE_BIND_STATUS. -/
def ltrZoneBindStatus (rq : Req) (d : Dev) : Dev :=
  d.serve 0x040F rq (rspMax 16) (fun d _ bs => withLayout d 4 [fr 0 1 1 63] bs
    (match tabFind d.lauter.bindings (byteAt bs 0) with
     | none => ansOk d (zeros 16)
     | some b => ansOk d (leb 1 b.zone ++ leb 1 b.port ++ leb 2 b.vid ++ leb 6 b.sa ++ leb 2 (1 + 2 * b2n b.wildcard) ++ zeros 4)))

/-- LTR_ZONE_BIND_STATUS. -/
def execLtrZoneBindStatus (rq : Req) (s : State) : Out := onDev (ltrZoneBindStatus rq) s

/-- LTR_GEN_STATUS. -/
def ltrGenStatus (rq : Req) (d : Dev) : Dev :=
  d.serve 0x0410 rq (rspMax 16) (fun d _ bs => withLayout d 0 [] bs
    (let l := d.lauter
     ansOk d (leb 1 (b2n l.gen) ++ zeros 3 ++ leb 4 l.bankGeneration ++ leb 4 l.lastPause ++ leb 4 l.maxPause)))

/-- LTR_GEN_STATUS. -/
def execLtrGenStatus (rq : Req) (s : State) : Out := onDev (ltrGenStatus rq) s

end Sys2Proof.Machine
end

