-- ==== Sys2Proof/Machine/Cupola.lean ====
section
/-! DEFINITION. Power groups and the Cupola (chapter 08): frames at P95, fan-out, fan-in, trips, flattening and the bank
switch, and the Cupola commands. -/

namespace Sys2Proof.Machine

open Sys2Proof

/-! ## A group's configuration -/

/-- PACK_MAC in transmission order: its field is little-endian (R1, log 80). -/
def packMac (cfg : Bytes) : Bytes := (slice cfg 0x0C 6).reverse

/-- UNIT_MAC and UNIT_VID. -/
def unitOf (cfg : Bytes) : Nat × Nat := (be cfg 4 6, le cfg 0x0A 2)

/-- The group is in packed mode. -/
def isPacked (cfg : Bytes) : Bool := bit (byteAt cfg 3) 0

/-- TAG_OFFSET, where a tag is written. -/
def tagOffset (cfg : Bytes) : Option Nat := if le cfg 0x1C 2 == 0xFFFF then none else some (le cfg 0x1C 2)

/-- OUT_FIELD entries in use: offset, SIGNED, SCALE. -/
def outFields (cfg : Bytes) : List (Nat × Bool × Bool) :=
  (List.range (byteAt cfg 0x12)).map (fun i =>
    let v := le cfg (0x20 + 4 * i) 4
    (v % 65536, bit v 16, bit v 17))

/-- IN_FIELD entries in use: offset, OP, SIGNED. -/
def inFields (cfg : Bytes) : List (Nat × Nat × Bool) :=
  (List.range (byteAt cfg 0x13)).map (fun i =>
    let v := le cfg (0x40 + 4 * i) 4
    (v % 65536, bits v 16 3, bit v 19))

/-- ARRIVE_NS. -/
def arriveNs (cfg : Bytes) : Nat := le cfg 0x14 4

/-- The collection window W = ARRIVE_NS + SETTLE_NS. -/
def windowNs (cfg : Bytes) : Nat := arriveNs cfg + le cfg 0x18 4

/-- A 32-bit value in a signedness. -/
def val32 (sg : Bool) (v : Nat) : Int := if sg then signed 32 v else (v % 2 ^ 32 : Nat)

/-- The outer VID of a frame; 0 untagged. -/
def frameVid (bs : Bytes) : Nat := if isTpid (be bs 12 2) then be bs 14 2 % 4096 else 0

/-- A leaf's index in an expansion list. -/
def leafIndex (ls : List Leaf) (mac : Nat) : Option Nat := ls.findIdx? (fun l => l.mac == mac)

/-! ## Flattening (R211) -/

/-- A member entry's fields. -/
def memberIsGroup (m : Member) : Bool := byteAt m 0 == 1
/-- The child group of a group entry. -/
def memberChild (m : Member) : Nat := le m 4 2 % 1024
/-- WEIGHT. -/
def memberWeight (m : Member) : Int := signed 32 (le m 0x0C 4)
/-- OFFSET. -/
def memberOffset (m : Member) : Int := signed 32 (le m 0x10 4)

/-- The expansion list of a group: depth first, in member order, with the combined weight and offset of the path so far
(R211). A group cannot be nested deeper than there are groups. -/
def expand (ms : Nat → List Member) : Nat → Int → Int → Nat → List Leaf
  | 0, _, _, _ => []
  | n + 1, w, o, g => (ms g).flatMap (fun m =>
      let w' := roundDiv (w * memberWeight m) 65536
      let o' := roundDiv (o * memberWeight m) 65536 + memberOffset m
      if memberIsGroup m then expand ms n w' o' (memberChild m)
      else [{ mac := be m 4 6, node := le m 2 2, weight := w', offset := o', min := le m 0x14 4, max := le m 0x18 4 }])

/-- A group's members. -/
def Cupola.membersOf (c : Cupola) (g : Nat) : List Member :=
  match tabFind c.groups g with
  | some x => x.members
  | none => []

/-- Every group's expansion list computed afresh. -/
def Cupola.flatten (c : Cupola) : Cupola :=
  { c with groups := tabMap c.groups (fun g x => { x with leaves := expand c.membersOf 1025 65536 0 g }) }

/-! ## Fan-in: windows and folds (R217 to R222) -/

/-- Replace the Cupola. -/
def Dev.putCupola (d : Dev) (c : Cupola) : Dev := { d with cupola := c }

/-- A frame of the Cupola enters the fabric at P95, with the local time as its ingress timestamp (R210); on a standby twin it emits
nothing (R377). -/
def Dev.cupEmit (d : Dev) (bs : Bytes) : Dev := if d.twin.role = .standby then d else d.injectAt 95 bs d.now 0

/-- Change a configured group. -/
def Dev.modGroup (d : Dev) (g : Nat) (f : Group → Group) : Dev := d.putCupola { d.cupola with groups := tabUpd d.cupola.groups g f }

/-- An operator's starting value. -/
def foldStart (op : Nat) : Int := if op == 3 then 0xFFFFFFFF else 0

/-- One reply's field folded (the operators of Fan-in): `first` where no reply has been folded. -/
def foldStep (op : Nat) (sg first : Bool) (acc : Int) (raw : Nat) : Int :=
  let v := val32 sg raw
  match op with
  | 0 => acc + v
  | 1 => if first then v else min acc v
  | 2 => if first then v else max acc v
  | 3 => ((acc.toNat &&& raw : Nat) : Int)
  | 4 => ((acc.toNat ||| raw : Nat) : Int)
  | _ => if raw == 0 then acc else acc + 1

/-- A fold as it is written, and whether it overflowed (R221). -/
def foldResult (op : Nat) (sg none_ : Bool) (acc : Int) : Nat × Bool :=
  if none_ then (0, false)
  else if op == 0 then
    let lo : Int := if sg then -2147483648 else 0
    let hi : Int := if sg then 2147483647 else 4294967295
    let v := max lo (min hi acc)
    (unsigned 32 v, decide (v ≠ acc))
  else (unsigned 32 acc, false)

/-- The folds of a window: values and whether one overflowed. -/
def Window.folds (w : Window) : List Nat × Bool :=
  let r := ((inFields w.cfg).zip w.acc).map (fun x => foldResult x.1.2.1 x.1.2.2 w.folded.isEmpty x.2)
  (r.map (fun x => x.1), r.any (fun x => x.2))

/-- A record written to the Spire pair. -/
def Dev.toSpire (d : Dev) (r : SpireRecord) : Dev := d.putCupola { d.cupola with spire := d.cupola.spire ++ [r] }

/-- The fold ends (R218, R220, R226): the window closes with a cause (0 its end, 2 superseded, 4 tripped) and its record
goes to the fan-in requester. -/
def Dev.endFold (d : Dev) (g cause : Nat) : Dev :=
  match tabFind d.cupola.windows g with
  | none => d
  | some w =>
    let c := d.cupola
    let v := { w with ended := d.uptime }
    d.putCupola { c with windows := tabDel c.windows g, closed := tabPut c.closed g v, fanIn := c.fanIn ++ [.fold g v cause] }

/-- FOLD_END (R218): at the opening plus W, or when every leaf has been folded. -/
def foldEnd (g : Nat) (d : Dev) : Dev :=
  match tabFind d.cupola.windows g with
  | none => d
  | some w =>
    if d.over (w.opened + windowNs w.cfg) || decide (w.leaves.length ≤ w.folded.length) then d.endFold g 0 else d

/-- FOLD_END. -/
def execFoldEnd (group : Nat) (s : State) : Out := onDev (foldEnd group) s

/-- The status block's flags of a group reply (R221, R222). -/
def replyFlags (w : Window) (cause : Nat) : Nat :=
  b2n (decide (w.folded.length < w.leaves.length)) + cause + 8 * b2n w.folds.2 + 16 * b2n w.folded.isEmpty

/-- The group reply of a window (R219, R221). -/
def groupReply (w : Window) (cause : Nat) : Bytes :=
  let cfg := w.cfg
  let missing := (List.range w.leaves.length).filter (fun i => !w.folded.contains i)
  let map := (missing.map (fun i => if i < 64 then 2 ^ i else 0)).sum
  let rest := (missing.filter (fun i => decide (64 ≤ i))).length
  let status := beb 4 w.tag ++ beb 2 (replyFlags w cause) ++ beb 2 w.folded.length ++ beb 2 rest ++ zeros 2 ++ beb 8 map
  let base := slice cfg 0x80 64 ++ zeros (le cfg 0x72 2 - 64)
  let addressed := if bit (byteAt cfg 3) 1 then patch base 0 (beb 6 w.sender) else base
  let from_ := patch addressed 6 (slice cfg 4 6)
  let filled := w.folds.1.zipIdx.foldl (fun (b : Bytes) (x : Nat × Nat) => patch b (le cfg (0x60 + 2 * x.2) 2) (beb 4 x.1)) from_
  patch filled (le cfg 0x70 2) status

/-- The group reply leaves for P95 ingress (R219, R220, R222). -/
def Dev.sendGroupReply (d : Dev) (g : Nat) (w : Window) (cause : Nat) : Dev :=
  let d0 := (d.cupEmit (groupReply w cause)).count 7 (g * 8 + 3)
  let d1 := if cause == 2 then d0.count 7 (g * 8 + 6) else d0
  let fs := w.folds.1
  let d2 := d1.modGroup g (fun x => { x with lastFolds := fs ++ List.replicate (8 - fs.length) 0 })
  let miss := w.leaves.length - w.folded.length
  if miss == 0 then d2 else (d2.count 7 (g * 8 + 4)).postLimited 0x0702 g g (miss + w.tag * 2 ^ 32)

/-! ## Trips (R223, R224) -/

/-- A trip-enabled group's match on a frame. -/
def tripMatches (t bs : Bytes) : Bool :=
  let off := le t 4 2
  bit (byteAt t 2) 0 && decide (off + 4 ≤ bs.length) && (be bs off 4 &&& le t 8 4) == le t 0x0C 4

/-- The trip-enabled groups a frame matches, by the lists in force (R223, R228): the member index with each. -/
def Dev.tripMatched (d : Dev) (sa : Nat) (bs : Bytes) : List (Nat × Nat) :=
  d.cupola.trips.filterMap (fun t =>
    match tabFind d.cupola.groups t.1 with
    | none => none
    | some x => if tripMatches t.2 bs then (leafIndex x.leaves sa).map (fun i => (t.1, i)) else none)

/-- The group has tripped. -/
def Dev.isTripped (d : Dev) (g : Nat) : Bool := (tabFind d.cupola.groups g).any (fun x => x.tripped)

/-- The groups a frame trips. A group already tripped is not tripped again. -/
def Dev.tripGroups (d : Dev) (sa : Nat) (bs : Bytes) : List (Nat × Nat) := (d.tripMatched sa bs).filter (fun x => !d.isTripped x.1)

/-- The frame is matched by a trip test of some group, tripped or not (R208 step 4). -/
def Dev.tripTested (d : Dev) (sa : Nat) (bs : Bytes) : Bool := !(d.tripMatched sa bs).isEmpty

/-- The match of a frame is noted with each group, for a clear of the same tick (R226). -/
def Dev.noteMatches (d : Dev) (l : List (Nat × Nat)) : Dev :=
  l.foldl (fun e x => e.modGroup x.1 (fun y => { y with matched := some (d.uptime, x.2) })) d

/-- The trip frames of a group (R224). -/
def tripFrames (x : Group) (t : Bytes) : List Bytes :=
  let body := slice t 0x10 (le t 6 2)
  let frame := fun (da : Bytes) => patch (patch body 0 da) 6 (slice x.cfg 4 6)
  if isPacked x.cfg then [frame (packMac x.cfg)] else x.leaves.map (fun l => frame (beb 6 l.mac))

/-- A window that a command ended in this tick, before the match of the same tick was taken: the match comes first, and the window
ends tripped (R226). -/
def tripFirst (g now : Nat) : CupRecord → CupRecord
  | .fold h w cause => if h == g && cause == 2 && w.ended == now then .fold h w 4 else .fold h w cause
  | .trip h m t => .trip h m t

/-- A group trips: its pin goes to its active level, a fan-out in progress stops, its window ends, its frames leave, its record is due
(R223, R224, R226). -/
def Dev.tripGroup (time : Nat) (d : Dev) (gi : Nat × Nat) : Dev :=
  let g := gi.1
  match tabFind d.cupola.groups g, tabFind d.cupola.trips g with
  | some x, some t =>
    let c := d.cupola
    let pins := if byteAt t 3 == 0xFF then c.pins else tabPut c.pins g { pin := byteAt t 3, level := bit (byteAt t 2) 1 }
    let d1 := (d.putCupola { c with pins := pins, emitting := none, fanIn := c.fanIn.map (tripFirst g d.uptime) }).modGroup g
      (fun y => { y with tripped := true, trippedAt := d.uptime })
    let d2 := (d1.endFold g 4).count 7 (g * 8 + 7)
    let d3 := (tripFrames x t).foldl (fun e f => e.cupEmit f) d2
    d3.putCupola { d3.cupola with fanIn := d3.cupola.fanIn ++ [.trip g gi.2 time] }
  | _, _ => d

/-! ## Replies and commands (R208, R214, R217, R220) -/

/-- The requests whose expansion lists are still in use: those of open windows, and of folds whose fan-in step waits (log 73). -/
def Cupola.requestsInUse (c : Cupola) : List (Nat × Window) :=
  c.windows ++ c.fanIn.filterMap (fun r =>
    match r with
    | .fold g w _ => some (g, w)
    | .trip _ _ _ => none)

/-- The group whose unit address a frame bears in the configuration in force. -/
def Dev.unitGroup (d : Dev) (da vid : Nat) : Option Nat :=
  (d.cupola.groups.find? (fun x => unitOf x.2.cfg == (da, vid))).map (fun x => x.1)

/-- The group a frame is a reply to (R208): it bears the group's unit address, and its SA is a leaf in an expansion list of the group that
is still in use. A request issued before a commit runs under its own configuration to its end (R227). -/
def Dev.replyGroup (d : Dev) (da vid sa : Nat) : Option Nat :=
  let c := d.cupola
  let used := c.requestsInUse
  let inForce := c.groups.find? (fun x => unitOf x.2.cfg == (da, vid) &&
    ((leafIndex x.2.leaves sa).isSome || used.any (fun w => w.1 == x.1 && (leafIndex w.2.leaves sa).isSome)))
  (inForce.map (fun x => x.1)).or
    ((used.find? (fun w => unitOf w.2.cfg == (da, vid) && (leafIndex w.2.leaves sa).isSome)).map (fun x => x.1))

/-- A reply that names the open request: discarded as foreign, late (it arrived after the cutoff, or reaches the Cupola after the opening
plus W, where the fold ends) or duplicate, or folded; the fold ends with the last leaf (R217, R218, R220). -/
def Dev.foldReply (d : Dev) (g : Nat) (w : Window) (bs : Bytes) (sa arrival : Nat) : Dev :=
  match leafIndex w.leaves sa with
  | none => d.count 7 8195
  | some i =>
    if w.opened + arriveNs w.cfg < arrival ∨ d.over (w.opened + windowNs w.cfg) then d.count 7 (g * 8 + 5)
    else if w.folded.contains i then d.count 7 8196
    else
      let acc := ((inFields w.cfg).zip w.acc).map (fun x =>
        foldStep x.1.2.1 x.1.2.2 w.folded.isEmpty x.2 (be bs x.1.1 4))
      let w' := { w with folded := w.folded ++ [i], acc := acc }
      let d1 := (d.putCupola { d.cupola with windows := tabPut d.cupola.windows g w' }).modGroup g
        (fun x => { x with received := w'.folded.length })
      if w'.folded.length == w.leaves.length then d1.endFold g 0 else d1

/-- The reply is too short for every IN_FIELD and its tag (R221). -/
def replyShort (cfg bs : Bytes) : Bool :=
  decide (bs.length < le cfg 0x1E 2 + 4) || (inFields cfg).any (fun f => decide (bs.length < f.1 + 4))

/-- A reply to a group. -/
def Dev.reply (d : Dev) (g : Nat) (bs : Bytes) (sa arrival : Nat) : Dev :=
  let open_ := tabFind d.cupola.windows g
  let last := tabFind d.cupola.closed g
  match open_.or last with
  | none => d.count 7 8194
  | some ref =>
    if replyShort ref.cfg bs then d.count 7 8194
    else
      let tag := be bs (le ref.cfg 0x1E 2) 4
      match open_ with
      | some w =>
        if tag == w.tag then d.foldReply g w bs sa arrival
        else if last.any (fun x => x.tag == tag) then d.count 7 (g * 8 + 5)
        else d.count 7 8194
      | none => if ref.tag == tag then d.count 7 (g * 8 + 5) else d.count 7 8194

/-- The command is too short for every OUT_FIELD and the tag (R214). -/
def commandShort (cfg bs : Bytes) : Bool :=
  (outFields cfg).any (fun f => decide (bs.length < f.1 + 4)) ||
  (match tagOffset cfg with
   | some t => decide (bs.length < t + 4)
   | none => false)

/-- A command to a group: dropped, or its fan-out step waits; an open window ends at once (R214, R220). -/
def Dev.command (d : Dev) (g : Nat) (bs : Bytes) : Dev :=
  match tabFind d.cupola.groups g with
  | none => d.count 7 8197
  | some x =>
    if x.tripped then d.count 7 8193
    else if commandShort x.cfg bs then d.count 7 8192
    else
      let d1 := d.endFold g 2
      let c := d1.cupola
      d1.putCupola { c with
        fanOut := c.fanOut ++ [{ group := g, bytes := bs, bank := c.bank, cfg := x.cfg, leaves := x.leaves }] }

/-- A frame dequeued at P95 (R208). -/
def Dev.cupolaFrame (d : Dev) (bs : Bytes) (arrival : Nat) : Dev :=
  let sa := be bs 6 6
  let d1 := (d.tripGroups sa bs).foldl (Dev.tripGroup d.now) (d.noteMatches (d.tripMatched sa bs))
  let da := be bs 0 6
  match d1.replyGroup da (frameVid bs) sa, d1.unitGroup da (frameVid bs) with
  | some g, _ => d1.reply g bs sa arrival
  | none, some g => d1.command g bs
  | none, none => if d.tripTested sa bs then d1 else d1.count 7 8197

/-- CUPOLA_FRAME_DEQUEUE. -/
def cupolaDequeue (d : Dev) : Dev :=
  match d.internalHead 95 with
  | none => d
  | some x =>
    if d.passes 95 x then (d.passOut 95 x).cupolaFrame (egressBytes x.2 x.1.bytes) x.1.info.arrival else d.passOut 95 x

/-- CUPOLA_FRAME_DEQUEUE. -/
def execCupolaFrameDequeue (s : State) : Out := onDev cupolaDequeue s

/-! ## Fan-out (R213 to R216) -/

/-- A member value (R213), and whether the clamp changed it. -/
def memberValue (l : Leaf) (sg : Bool) (raw : Nat) : Nat × Bool :=
  let q := roundDiv (val32 sg raw * l.weight) 65536 + l.offset
  let v := max (val32 sg l.min) (min (val32 sg l.max) q)
  (unsigned 32 v, decide (v ≠ q))

/-- A leaf's values of every OUT_FIELD, and how many the clamp changed. -/
def leafValues (cfg bs : Bytes) (l : Leaf) : List Nat × Nat :=
  let r := (outFields cfg).map (fun f => if f.2.2 then memberValue l f.2.1 (be bs f.1 4) else (be bs f.1 4, false))
  (r.map (fun x => x.1), (r.filter (fun x => x.2)).length)

/-- Write a tag where the group has one. -/
def writeTag (cfg : Bytes) (tag : Nat) (bs : Bytes) : Bytes :=
  match tagOffset cfg with
  | some t => patch bs t (beb 4 tag)
  | none => bs

/-- A member copy. -/
def memberCopy (cfg bs : Bytes) (tag : Nat) (l : Leaf) : Bytes :=
  let addressed := patch (patch bs 0 (beb 6 l.mac)) 6 (slice cfg 4 6)
  writeTag cfg tag
    (((outFields cfg).zip (leafValues cfg bs l).1).foldl (fun b x => if x.1.2.2 then patch b x.1.1 (beb 4 x.2) else b) addressed)

/-- The packed frame. -/
def packedFrame (cfg bs : Bytes) (tag : Nat) (ls : List Leaf) : Bytes :=
  let base := le cfg 0x74 2
  let n := byteAt cfg 0x12
  let head := writeTag cfg tag (slice bs 0 base)
  packMac cfg ++ slice cfg 4 6 ++ slice head 12 (base - 12) ++ beb 2 ls.length ++ beb 1 (4 + 4 * n) ++ zeros 1 ++ beb 4 tag ++
    ls.flatMap (fun l => beb 2 l.node ++ zeros 2 ++ (leafValues cfg bs l).1.flatMap (fun v => beb 4 v))

/-- Member values of a leaf that the clamp changes (R213). -/
def clampedOf (x : FanOut) (l : Leaf) : Nat := (leafValues x.cfg x.bytes l).2

/-- A fan-out step's frames in order, each with the number of member values its clamp changed. -/
def fanFrames (x : FanOut) (tag : Nat) : List (Bytes × Nat) :=
  if isPacked x.cfg then [(packedFrame x.cfg x.bytes tag x.leaves, (x.leaves.map (clampedOf x)).sum)]
  else x.leaves.map (fun l => (memberCopy x.cfg x.bytes tag l, clampedOf x l))

/-- The window a fan-out step opens (R217). -/
def openWindow (x : FanOut) (tag now : Nat) : Window :=
  { tag := tag, bank := x.bank, cfg := x.cfg, leaves := x.leaves, opened := now, sender := be x.bytes 6 6, folded := []
    acc := (inFields x.cfg).map (fun f => foldStart f.2.1) }

/-- The fan-out step in progress emits its next frames, at least one; the rest stay (R215). -/
def Dev.emitCopies (d : Dev) (copies : Nat) (e : Emission) : Dev :=
  let now := e.frames.take (max 1 copies)
  let rest := e.frames.drop (max 1 copies)
  let d1 := (d.countN 7 (e.group * 8 + 1) now.length).countN 7 (e.group * 8 + 2) (now.map (fun x => x.2)).sum
  let d2 := now.foldl (fun a x => a.cupEmit x.1) d1
  d2.putCupola { d2.cupola with emitting := if rest.isEmpty then none else some { e with frames := rest } }

/-- A fan-out step once its transfer has committed: its request record is written, its window opens with the first frame, and it
emits (R213 to R217). -/
def Dev.startFanOut (copies : Nat) (x : FanOut) (d : Dev) : Dev :=
  let g := x.group
  match tabFind d.cupola.groups g with
  | none => d
  | some y =>
    let tag := g * 2 ^ 22 + y.seq
    let d1 := (d.modGroup g (fun z => { z with seq := (z.seq + 1) % 2 ^ 22, lastTag := tag })).count 7 (g * 8)
    let d2 := d1.toSpire (.request x tag)
    let d3 :=
      if arriveNs x.cfg == 0 then d2
      else
        let c := d2.cupola
        (d2.putCupola { c with windows := tabPut c.windows g (openWindow x tag d2.uptime) }).modGroup g
          (fun z => { z with opened := d2.now % 2 ^ 32, received := 0 })
    d3.emitCopies copies { group := g, frames := fanFrames x tag }

/-- A group's superseded reply waits to leave; the new fan-out starts after it (R220). -/
def Cupola.replyWaits (c : Cupola) (g : Nat) : Bool :=
  c.fanIn.any (fun r =>
    match r with
    | .fold h _ cause => h == g && cause == 2
    | .trip _ _ _ => false)

/-- FAN_OUT_STEP (R213 to R216). The step in progress goes on. With none, the oldest waiting command's step starts: a command to a group
that has tripped since is dropped (R214, R226); an open window of its group ends, and its group reply leaves first (R220); then the step
asks for its one transfer. `copies` is how many frames are handed over before something else may happen (log 73). -/
def fanOutStep (copies : Nat) (d : Dev) : Dev :=
  match d.cupola.emitting with
  | some e => d.emitCopies copies e
  | none =>
    match d.cupola.fanOut with
    | [] => d
    | x :: rest =>
      let d0 := d.putCupola { d.cupola with fanOut := rest }
      match tabFind d.cupola.groups x.group with
      | none => d0.count 7 8197
      | some y =>
        if y.tripped then d0.count 7 8193
        else if tabHas d.cupola.windows x.group then d.endFold x.group 2
        else if d.cupola.replyWaits x.group then d
        else d.transfer 2 64 (fun e => (e.putCupola { e.cupola with fanOut := rest }).startFanOut copies x)

/-- FAN_OUT_STEP. -/
def execFanOutStep (s : State) (copies : Nat := 1) : Out := onDev (fanOutStep copies) s

/-! ## Staging checks -/

/-- No two ranges of bytes overlap. -/
def apart : List (Nat × Nat) → Bool
  | [] => true
  | (o, n) :: t => t.all (fun x => decide (o + n ≤ x.1) || decide (x.1 + x.2 ≤ o)) && apart t

/-- CUP_GROUP_SET's fields. -/
def groupOk (bs : Bytes) : Bool :=
  let no := byteAt bs 0x12
  let ni := byteAt bs 0x13
  let packed := isPacked bs
  let arr := arriveNs bs
  let tag := le bs 0x1C 2
  let rtag := le bs 0x1E 2
  let tagOk := tag == 0xFFFF || (decide (12 ≤ tag) && decide (tag ≤ 252))
  let rtagOk := (arr == 0 && rtag == 0) || (decide (12 ≤ rtag) && decide (rtag ≤ 252))
  let off := fun (v : Nat) => decide (12 ≤ v) && decide (v ≤ 252)
  let outs := (List.range 8).all (fun i =>
    let v := le bs (0x20 + 4 * i) 4
    if i < no then off (v % 65536) && decide (v < 2 ^ 18) else v == 0)
  let ins := (List.range 8).all (fun i =>
    let v := le bs (0x40 + 4 * i) 4
    if i < ni then off (v % 65536) && decide (bits v 16 3 ≤ 5) && decide (v < 2 ^ 20) else v == 0)
  let reps := (List.range 8).all (fun i =>
    let v := le bs (0x60 + 2 * i) 2
    if i < ni then off v && decide (v + 4 ≤ le bs 0x72 2) else v == 0)
  let base := le bs 0x74 2
  let pack :=
    if packed then decide (14 ≤ base) && decide (base ≤ 200) && (tag == 0xFFFF || decide (tag + 4 ≤ base))
    else base == 0 && be bs 0x0C 6 == 0
  let cmd := (outFields bs).map (fun f => (f.1, 4)) ++ (if tag == 0xFFFF then [] else [(tag, 4)])
  let rep := (inFields bs).map (fun f => (f.1, 4)) ++ (if rtag == 0 then [] else [(rtag, 4)])
  let grp := (List.range ni).map (fun i => (le bs (0x60 + 2 * i) 2, 4)) ++ [(le bs 0x70 2, 20)]
  (arr == 0 || decide (1000 ≤ arr)) && !bit (byteAt bs 4) 0 && tagOk && rtagOk && outs && ins && reps && pack &&
  decide (le bs 0x70 2 + 20 ≤ le bs 0x72 2) && apart cmd && apart rep && apart grp

/-- CUP_GROUP_SET's checks. -/
def checkCupGroup : Dev → Bytes → Nat :=
  checkOp 192 2 [fr 0 2 0 1023]
    [fr 3 1 0 3, fa 4 6, fr 0x0A 2 0 4095, fa 0x0C 6, fr 0x12 1 0 8, fr 0x13 1 0 8, fr 0x14 4 0 10000000, fr 0x18 4 0 100000,
     fa 0x1C 2, fa 0x1E 2, fa 0x20 32, fa 0x40 32, fa 0x60 16, fr 0x70 2 12 236, fr 0x72 2 64 256, fa 0x74 2, fa 0x80 64]
    groupOk

/-- CUP_GROUP_SET. -/
def execCupGroupSet (rq : Req) (s : State) : Out := onDev (Dev.serveStaged 0x0701 rq checkCupGroup) s

/-- Entry e of CUP_MEMBERS_SET. -/
def memberAt (bs : Bytes) (e : Nat) : Member := slice bs (16 + 32 * e) 32

/-- A member entry's fields. -/
def memberOk (m : Member) : Bool :=
  layoutOk [fr 0 1 0 1, fa 2 2, fa 4 6, fa 0x0C 4, fa 0x10 4, fa 0x14 4, fa 0x18 4] m &&
  (!memberIsGroup m || (le m 2 2 == 0 && decide (le m 4 6 < 1024) && le m 0x14 4 == 0 && le m 0x18 4 == 0))

/-- CUP_MEMBERS_SET's checks. -/
def checkCupMembers (_ : Dev) (bs : Bytes) : Nat :=
  let n := le bs 4 2
  if bs.length < 16 ∨ bs.length ≠ 16 + 32 * n then stBadLength
  else if layoutOk [fr 0 2 0 1023, fr 2 2 0 1023, fr 4 2 1 127, fr 6 2 1 1024] (bs.take 16) &&
      decide (le bs 2 2 + n ≤ le bs 6 2) && (List.range n).all (fun e => memberOk (memberAt bs e)) then stOk
  else stBadParam

/-- CUP_MEMBERS_SET. -/
def execCupMembersSet (rq : Req) (s : State) : Out := onDev (Dev.serveStaged 0x0702 rq checkCupMembers) s

/-- CUP_TRIP_SET's checks. -/
def checkCupTrip : Dev → Bytes → Nat :=
  checkLayout 144 [fr 0 2 0 1023, fr 2 1 0 3, fa 3 1, fr 4 2 12 252, fr 6 2 64 128, fa 8 4, fa 0x0C 4, fa 0x10 128]
    (fun bs =>
      (decide (byteAt bs 3 < 16) || byteAt bs 3 == 0xFF) && (le bs 0x0C 4 &&& le bs 8 4) == le bs 0x0C 4 &&
      allZero (bs.drop (0x10 + le bs 6 2)))

/-- CUP_TRIP_SET. -/
def execCupTripSet (rq : Req) (s : State) : Out := onDev (Dev.serveStaged 0x0703 rq checkCupTrip) s

/-! ## What a commit makes of the groups -/

/-- A group configured for the first time: sequence number 0 (R216). -/
def newGroup (cfg : Bytes) : Group :=
  { cfg := cfg, members := [], leaves := [], seq := 0, tripped := false, lastTag := 0, opened := 0, received := 0
    lastFolds := List.replicate 8 0 }

/-- A staged group or trip command applied. A deleted group's trip goes with it; a pin driven active stays so (R223). -/
def applyCup (c : Cupola) (x : Staged) : Cupola :=
  let g := le x.data 0 2
  match x.opcode with
  | 0x0701 =>
    if byteAt x.data 2 == 1 then
      { c with groups := tabDel c.groups g, trips := tabDel c.trips g }
    else
      let y := match tabFind c.groups g with
        | some y => { y with cfg := x.data }
        | none => newGroup x.data
      { c with groups := tabPut c.groups g y }
  | 0x0703 => { c with trips := tabPut c.trips g x.data }
  | _ => c

/-- The member entries a transaction writes for a group; the last write of an index holds. -/
def memberWrites (b : Batch) (g : Nat) : Tab Member :=
  (b.filter (fun x => x.2.opcode == 0x0702 && le x.2.data 0 2 == g)).foldl (fun t x =>
    (List.range (le x.2.data 4 2)).foldl (fun t e => tabPut t (le x.2.data 2 2 + e) (memberAt x.2.data e)) t) []

/-- The last CUP_MEMBERS_SET of a group in a transaction: its index and LIST_LEN. -/
def membersCfg (b : Batch) (g : Nat) : Option (Nat × Nat) :=
  ((b.filter (fun x => x.2.opcode == 0x0702 && le x.2.data 0 2 == g)).getLast?).map (fun x => (x.1, le x.2.data 6 2))

/-- The Cupola's configuration after a transaction; what runs in it is kept (R216, R227). -/
def Cupola.after (c : Cupola) (b : Batch) : Cupola :=
  let c1 := b.foldl (fun c x => applyCup c x.2) c
  let c2 := { c1 with groups := tabMap c1.groups (fun g x =>
    match membersCfg b g with
    | some (_, n) => { x with members := ((memberWrites b g).filter (fun (m : Nat × Member) => decide (m.1 < n))).map (fun (m : Nat × Member) => m.2) }
    | none => x) }
  c2.flatten

/-- The transaction rewrites groups or members, so the bank switches (R227). -/
def changesGroups (b : Batch) : Bool := b.any (fun x => x.2.opcode == 0x0701 || x.2.opcode == 0x0702)

/-! ### Conditions of the commit-time table, in its order -/

/-- A group's children. -/
def Cupola.children (c : Cupola) (g : Nat) : List Nat := ((c.membersOf g).filter memberIsGroup).map memberChild

/-- Every group reached from a list of groups. -/
def Cupola.closure (c : Cupola) : Nat → List Nat → List Nat
  | 0, l => l
  | n + 1, l =>
    let l' := (l ++ l.flatMap c.children).eraseDups
    if l'.length == l.length then l else Cupola.closure c n l'

/-- A group contains itself. -/
def Cupola.cyclic (c : Cupola) : Bool := c.groups.any (fun x => (c.closure 1025 (c.children x.1)).contains x.1)

/-- The configuration without expansion lists after the first commands of a transaction. -/
def Cupola.partly (c : Cupola) (b : Batch) : Cupola :=
  let c1 := b.foldl (fun c x => applyCup c x.2) c
  { c1 with groups := tabMap c1.groups (fun g x =>
    if (membersCfg b g).isSome then { x with members := (memberWrites b g).map (fun (m : Nat × Member) => m.2) } else x) }

/-- The command that closes the cycle of a transaction whose outcome has one: the last before which there was none. -/
def cycleAt (c : Cupola) (b : Batch) : Option Nat :=
  if !(c.after b).cyclic then none
  else ((b.zipIdx.filter (fun x => !(c.partly (b.take x.2)).cyclic)).getLast?).map (fun x => x.1.1)

/-- A staged command of a group. -/
def setsGroup (g : Nat) (c : Staged) : Bool := (c.opcode == 0x0701 || c.opcode == 0x0702 || c.opcode == 0x0703) && le c.data 0 2 == g

/-- A staged command of a group or of one it contains. -/
def Cupola.setsWithin (c : Cupola) (g : Nat) (s : Staged) : Bool := (c.closure 1025 [g]).any (fun k => setsGroup k s)

/-- Member indices not written, entries that name no group, commands for no group. -/
def cupMissing (c' : Cupola) (b : Batch) : Option Refused :=
  (b.find? (fun x =>
    (x.2.opcode == 0x0702 || x.2.opcode == 0x0703) && !tabHas c'.groups (le x.2.data 0 2))).map (fun x => x.1) |>.or
  ((c'.groups.findSome? (fun x =>
    match membersCfg b x.1 with
    | some (i, n) => if (List.range n).all (fun k => tabHas (memberWrites b x.1) k) then none else some i
    | none => if x.2.members.isEmpty then b.last (setsGroup x.1) else none)).or
  (c'.groups.findSome? (fun x =>
    if (c'.children x.1).all (fun k => tabHas c'.groups k) then none
    else b.last (fun s => setsGroup x.1 s || (s.opcode == 0x0701 && (c'.children x.1).contains (le s.data 0 2)))))) |>.bind
  (fun i => refuseAt stNotFound (some i))

/-- A leaf reached twice. -/
def cupTwice (c' : Cupola) (b : Batch) : Option Refused :=
  c'.groups.findSome? (fun x =>
    let ms := x.2.leaves.map (fun l => l.mac)
    if ms.eraseDups.length == ms.length then none else conflict 7 x.1 (b.last (c'.setsWithin x.1)))

/-- A combined weight or offset out of range. -/
def cupRange (c' : Cupola) (b : Batch) : Option Refused :=
  c'.groups.findSome? (fun x =>
    let out := fun (v : Int) => decide (v < -2147483648) || decide (2147483647 < v)
    if x.2.leaves.any (fun l => out l.weight || out l.offset) then refuseAt stBadParam (b.last (c'.setsWithin x.1)) else none)

/-- The stores are full. -/
def cupFull (c' : Cupola) (b : Batch) : Option Refused :=
  if 8192 < (c'.groups.map (fun x => x.2.members.length)).sum ∨ 8192 < (c'.groups.map (fun x => x.2.leaves.length)).sum then
    refuseAt stNoResource (b.last (fun s => s.opcode == 0x0702 || s.opcode == 0x0701))
  else none

/-- Unit addresses that clash, with each other or with a leaf. -/
def cupUnits (c' : Cupola) (b : Batch) : Option Refused :=
  let macs := c'.groups.flatMap (fun x => x.2.leaves.map (fun l => l.mac))
  (c'.groups.findSome? (fun x =>
    (c'.groups.find? (fun y => decide (x.1 < y.1) && unitOf y.2.cfg == unitOf x.2.cfg)).bind (fun y =>
      conflict 7 x.1 ((b.last (setsGroup y.1)).or (b.last (setsGroup x.1)))))).or
  (c'.groups.findSome? (fun x => if macs.contains (unitOf x.2.cfg).1 then
    conflict 7 x.1 ((b.last (setsGroup x.1)).or (b.last (fun s => s.opcode == 0x0702))) else none))

/-- MIN above MAX in a SCALE field's signedness. -/
def cupLimits (c' : Cupola) (b : Batch) : Option Refused :=
  c'.groups.findSome? (fun x =>
    let bad := (outFields x.2.cfg).any (fun f =>
      f.2.2 && x.2.leaves.any (fun l => decide (val32 f.2.1 l.max < val32 f.2.1 l.min)))
    if bad then refuseAt stBadParam (b.last (c'.setsWithin x.1)) else none)

/-- A packed frame over 9,216 bytes (R6). -/
def cupPacked (c' : Cupola) (b : Batch) : Option Refused :=
  c'.groups.findSome? (fun x =>
    let n := le x.2.cfg 0x74 2 + 8 + x.2.leaves.length * (4 + 4 * byteAt x.2.cfg 0x12) + 4
    if isPacked x.2.cfg && decide (9216 < n) then refuseAt stNoResource (b.last (c'.setsWithin x.1)) else none)

/-- A leaf's trip load (R225), in ns. -/
def tripLoad (c' : Cupola) (mac : Nat) : Nat :=
  (c'.trips.map (fun t =>
    match tabFind c'.groups t.1 with
    | some x =>
      if bit (byteAt t.2 2) 0 && (leafIndex x.leaves mac).isSome then
        (if isPacked x.cfg then 4 else 16) * x.leaves.length
      else 0
    | none => 0)).sum

/-- A trip load over 4,500 ns. -/
def cupLoad (c' : Cupola) (b : Batch) : Option Refused :=
  c'.groups.findSome? (fun x =>
    (x.2.leaves.find? (fun l => decide (4500 < tripLoad c' l.mac))).bind (fun l =>
      let ofLeaf := fun (s : Staged) =>
        c'.groups.any (fun y => setsGroup y.1 s && (leafIndex y.2.leaves l.mac).isSome)
      refuseAt stNoResource (b.last ofLeaf)))

/-- The group conditions a commit is refused under, the first in the table's order. -/
def commitCupola (c : Cupola) (b : Batch) : Option Refused :=
  if !b.any (fun x => x.2.opcode / 256 == 7) then none
  else
    let c' := c.after b
    (cupMissing c' b).or (((cycleAt c b).bind (fun i => refuseAt stBadParam (some i))).or ((cupTwice c' b).or ((cupRange c' b).or
      ((cupFull c' b).or ((cupUnits c' b).or ((cupLimits c' b).or ((cupPacked c' b).or (cupLoad c' b))))))))

/-- No window is open under the bank that is not in force (R227). -/
def Cupola.mayFlip (c : Cupola) : Bool := c.windows.all (fun w => w.2.bank == c.bank)

/-! ## Immediate commands -/

/-- A tripped group returns to service and its pin is released. A group that tripped in this very tick stays tripped, and one that a frame
of this tick matched trips again, for the clear takes effect before the match (R226). -/
def Dev.clearTrip (d : Dev) (g : Nat) (x : Group) : Dev :=
  if x.trippedAt == d.uptime && x.matched.any (fun m => m.1 == d.uptime) then d
  else
    let d1 := (d.putCupola { d.cupola with pins := tabDel d.cupola.pins g }).modGroup g (fun y => { y with tripped := false })
    let d2 := d1.post 0x0703 g 0
    match x.matched with
    | some m => if m.1 == d.uptime then Dev.tripGroup d.now d2 (g, m.2) else d2
    | none => d2

/-- CUP_TRIP_CLEAR (R226). -/
def cupTripClear (rq : Req) (d : Dev) : Dev :=
  d.serve 0x0704 rq (rspMax 0) (fun d _ bs => withLayout d 4 [fr 0 2 0 1023] bs
    (let g := le bs 0 2
     match tabFind d.cupola.groups g with
     | none => ansErr d stNotFound
     | some x =>
       if x.tripped then ansOk (d.clearTrip g x) []
       else ansOk (d.putCupola { d.cupola with pins := tabDel d.cupola.pins g }) []))

/-- CUP_TRIP_CLEAR. -/
def execCupTripClear (rq : Req) (s : State) : Out := onDev (cupTripClear rq) s

/-- CUP_GROUP_STATUS. -/
def cupGroupStatus (rq : Req) (d : Dev) : Dev :=
  d.serve 0x0705 rq (rspMax 48) (fun d _ bs => withLayout d 4 [fr 0 2 0 1023] bs
    (let g := le bs 0 2
     match tabFind d.cupola.groups g with
     | none => ansOk d (leb 1 (2 * b2n (tabHas d.cupola.windows g)) ++ zeros 47)
     | some x =>
       let flags := 1 + 2 * b2n (tabHas d.cupola.windows g) + 4 * b2n x.tripped + 8 * b2n (isPacked x.cfg)
       ansOk d (leb 1 flags ++ zeros 1 ++ leb 2 x.leaves.length ++ leb 4 x.lastTag ++ leb 4 x.opened ++ leb 2 x.received ++
         zeros 2 ++ x.lastFolds.flatMap (fun v => leb 4 v))))

/-- CUP_GROUP_STATUS. -/
def execCupGroupStatus (rq : Req) (s : State) : Out := onDev (cupGroupStatus rq) s

/-- An expansion record. -/
def leafRecord (x : Leaf × Nat) : Bytes :=
  leb 2 x.2 ++ leb 2 x.1.node ++ leb 6 x.1.mac ++ zeros 2 ++ leb 4 (unsigned 32 x.1.weight) ++ leb 4 (unsigned 32 x.1.offset) ++
    leb 4 x.1.min ++ leb 4 x.1.max ++ zeros 4

/-- CUP_EXPANSION_READ. -/
def cupExpansionRead (rq : Req) (d : Dev) : Dev :=
  d.serve 0x0706 rq (fun _ bs => 8 + 32 * byteAt bs 4) (fun d _ bs =>
    withLayout d 8 [fr 0 2 0 1023, fr 2 2 0 1023, fr 4 1 1 127] bs
      (match tabFind d.cupola.groups (le bs 0 2) with
       | none => ansErr d stNotFound
       | some x =>
         let all := x.leaves.zipIdx.drop (le bs 2 2)
         let got := all.take (byteAt bs 4)
         let next := if all.length ≤ byteAt bs 4 then 0xFFFF else le bs 2 2 + byteAt bs 4
         ansOk d (leb 2 got.length ++ leb 2 next ++ zeros 4 ++ got.flatMap leafRecord)))

/-- CUP_EXPANSION_READ. -/
def execCupExpansionRead (rq : Req) (s : State) : Out := onDev (cupExpansionRead rq) s

end Sys2Proof.Machine
end

