-- ==== Sys2Proof/Machine/Gateway.lean ====
section
/-! DEFINITION. The signal gateway engine's PDUs (chapter 09): signal routes, destination sends, CAN transmit buffers, IEEE 1722
tunnel frames, receptions and the step that applies them. -/

namespace Sys2Proof.Machine

open Sys2Proof

/-! ## State access -/

/-- Replace SGE. -/
def Dev.putGateway (d : Dev) (g : Gateway) : Dev := { d with gateway := g }

/-- A CAN channel. -/
def Dev.canCh (d : Dev) (k : Nat) : CanCh := tabGet canCh0 d.gateway.can k

/-- Change a CAN channel. -/
def Dev.modCan (d : Dev) (k : Nat) (f : CanCh → CanCh) : Dev :=
  d.putGateway { d.gateway with can := tabMod canCh0 d.gateway.can k f }

/-- A serial channel. -/
def Dev.serialCh (d : Dev) (s : Nat) : SerialCh := tabGet serialCh0 d.gateway.serial s

/-- Change a serial channel. -/
def Dev.modSerial (d : Dev) (s : Nat) (f : SerialCh → SerialCh) : Dev :=
  d.putGateway { d.gateway with serial := tabMod serialCh0 d.gateway.serial s f }

/-- Change a configured destination PDU. -/
def Dev.modDst (d : Dev) (i : Nat) (f : DstPdu → DstPdu) : Dev := d.putGateway { d.gateway with dsts := tabUpd d.gateway.dsts i f }

/-- Change a configured source PDU. -/
def Dev.modSrc (d : Dev) (i : Nat) (f : SrcPdu → SrcPdu) : Dev := d.putGateway { d.gateway with srcs := tabUpd d.gateway.srcs i f }

/-- A counter of a CAN channel, and one of the device-wide ones from 8,192 on. -/
def Dev.countCan (d : Dev) (k n : Nat) : Dev := d.count 8 (k * 32 + n)

/-- MODE [1:0] of a CAN channel; 0 for one that is not configured. -/
def CanCh.mode (c : CanCh) : Nat := byteAt c.cfg 1 % 4
/-- ONE_SHOT. -/
def CanCh.oneShot (c : CanCh) : Bool := bit (byteAt c.cfg 1) 3

/-- MODE of a serial channel: 0 off, 1 Modbus master, 2 raw. -/
def SerialCh.mode (c : SerialCh) : Nat := byteAt c.cfg 1

/-! ## GW_SRC_PDU_SET -/

/-- KIND of a source PDU. -/
def SrcPdu.kind (q : SrcPdu) : Nat := byteAt q.cfg 3
/-- LEGAL. -/
def SrcPdu.legal (q : SrcPdu) : Bool := bit (byteAt q.cfg 4) 0
/-- CHANNEL. -/
def SrcPdu.channel (q : SrcPdu) : Nat := byteAt q.cfg 5
/-- LENGTH. -/
def SrcPdu.len (q : SrcPdu) : Nat := le q.cfg 6 2
/-- KEY. -/
def SrcPdu.key (q : SrcPdu) : Nat := le q.cfg 8 8
/-- FIRST_ROUTE. -/
def SrcPdu.firstRoute (q : SrcPdu) : Nat := le q.cfg 0x14 4
/-- ROUTES; an ACF_IN PDU has none. -/
def SrcPdu.routes (q : SrcPdu) : Nat := if q.kind == 3 then 0 else le q.cfg 0x18 2
/-- MAX_MSGS of an ACF_IN PDU. -/
def SrcPdu.maxMsgs (q : SrcPdu) : Nat := byteAt q.cfg 0x18
/-- TUNNEL_DST. -/
def SrcPdu.tunnel (q : SrcPdu) : Nat := le q.cfg 0x1A 2
/-- TIMEOUT_US. -/
def SrcPdu.timeoutUs (q : SrcPdu) : Nat := le q.cfg 0x1C 4
/-- BUS_DST of a can_bus_id. -/
def SrcPdu.busDst (q : SrcPdu) (b : Nat) : Nat := le q.cfg (0x20 + 2 * b) 2

/-- The expiry of a source PDU's reception timer started now (R258). -/
def SrcPdu.timerFrom (q : SrcPdu) (up : Nat) : Option Nat := if q.timeoutUs == 0 then none else some (up + q.timeoutUs * 1000)

/-! ## Signals (R253, R255) -/

/-- A signal route's fields. -/
structure Route where
  dst : Nat
  srcStart : Nat
  srcLen : Nat
  srcBig : Bool
  srcSigned : Bool
  dstStart : Nat
  dstLen : Nat
  dstBig : Bool
  dstSigned : Bool
  scale : Nat
  trigger : Bool
  sub : Nat
  deriving DecidableEq, Repr

/-- A signal route entry's 96 bits. -/
def routeOf (v : Nat) : Route :=
  { dst := bits v 82 14, srcStart := bits v 71 11, srcLen := bits v 65 6, srcBig := bit v 64, srcSigned := bit v 63,
    dstStart := bits v 52 11, dstLen := bits v 46 6, dstBig := bit v 45, dstSigned := bit v 44, scale := bits v 31 13,
    trigger := bit v 30, sub := bits v 28 2 }

/-- The walk of a big-endian signal: its bit positions from its most significant bit down. -/
def walkBig : Nat → Nat → List Nat
  | 0, _ => []
  | n + 1, b => b :: walkBig n (if b % 8 == 0 then b + 15 else b - 1)

/-- The positions of a signal's bits in its PDU, from the least significant one (R253). -/
def signalBits (start len : Nat) (big : Bool) : List Nat :=
  if big then (walkBig len start).reverse else (List.range len).map (fun i => start + i)

/-- Bit b of a PDU is bit b mod 8 of byte b / 8. -/
def pduBit (bs : Bytes) (b : Nat) : Bool := bit (byteAt bs (b / 8)) (b % 8)

/-- Set one bit of a PDU. -/
def pduSetBit (bs : Bytes) (b : Nat) (v : Bool) : Bytes :=
  let x := byteAt bs (b / 8)
  patch bs (b / 8) (leb 1 (if v then setBit x (b % 8) else clearBit x (b % 8)))

/-- Read a signal. -/
def signalGet (bs : Bytes) (pos : List Nat) : Nat := (pos.zipIdx.map (fun p => if pduBit bs p.1 then 2 ^ p.2 else 0)).sum

/-- Place a signal. -/
def signalPut (bs : Bytes) (pos : List Nat) (v : Nat) : Bytes := pos.zipIdx.foldl (fun c p => pduSetBit c p.1 (bit v p.2)) bs

/-- The positions of a route's source and destination bits. -/
def Route.srcBits (r : Route) : List Nat := signalBits r.srcStart r.srcLen r.srcBig
/-- The positions of a route's destination bits. -/
def Route.dstBits (r : Route) : List Nat := signalBits r.dstStart r.dstLen r.dstBig

/-- Every position lies within a PDU of n bytes. -/
def bitsWithin (pos : List Nat) (n : Nat) : Bool := pos.all (fun b => decide (b < 8 * n))

/-- Clamp to the range of DST_LEN bits in the signedness of DST_SIGNED. -/
def Route.fit (r : Route) (y : Int) : Int :=
  let lo : Int := if r.dstSigned then - (2 ^ (r.dstLen - 1) : Nat) else 0
  let hi : Int := if r.dstSigned then (2 ^ (r.dstLen - 1) : Nat) - 1 else (2 ^ r.dstLen : Nat) - 1
  max lo (min hi y)

/-- The value a route writes for a raw value, and whether a clamp changed it (R255). -/
def Route.convert (r : Route) (sc : Option Scale) (raw : Nat) : Nat × Bool :=
  let x : Int := if r.srcSigned then signed r.srcLen raw else (raw : Int)
  let y := match sc with
    | some s => roundDiv (x * s.factor) 65536 + s.offset
    | none => x
  let z := match sc with
    | some s => max s.min (min s.max y)
    | none => y
  let w := r.fit z
  (unsigned r.dstLen w, decide (z ≠ y) || decide (w ≠ z))

/-- The scale entry of a route: none for SCALE 0. -/
def Dev.scaleOf (d : Dev) (r : Route) : Option Scale := if r.scale == 0 then none else tabFind d.gateway.scales r.scale

/-! ## CAN frames and transmit buffers (R237, R238) -/

/-- Bit times of a CAN channel, arbitration and data phase, in ps. -/
def canBitPs (cfg : Bytes) : Nat × Nat :=
  (le cfg 2 2 * (1 + le cfg 4 2 + byteAt cfg 6) * 12500, byteAt cfg 8 * (1 + byteAt cfg 9 + byteAt cfg 0x0A) * 12500)

/-- The port of a CAN or serial channel. -/
abbrev canPort (k : Nat) : Nat := 50 + k
/-- The port of a serial channel. -/
abbrev serialPort (s : Nat) : Nat := 82 + s

/-- The arbitration key of a frame (R237). -/
def arbKey (f : CanFrame) : Nat :=
  if f.ext then f.id / 2 ^ 18 % 2 ^ 11 * 2 ^ 19 + 2 ^ 18 + f.id % 2 ^ 18 else f.id % 2 ^ 11 * 2 ^ 19

/-- The identifier with IDE as bit 29, as in KEY fields. -/
def canKey (f : CanFrame) : Nat := f.id % 2 ^ 29 + 2 ^ 29 * b2n f.ext

/-- The buffered frame that leaves first: the lowest key, and of equal keys the one buffered first. -/
def firstTx (l : List CanTx) : Option CanTx :=
  l.foldl (fun b t => match b with
    | none => some t
    | some x => if arbKey t.frame < arbKey x.frame then some t else some x) none

/-- The buffered frame with the highest key, the latest of equal ones. -/
def lastTx (l : List CanTx) : Option CanTx :=
  l.foldl (fun b t => match b with
    | none => some t
    | some x => if arbKey x.frame ≤ arbKey t.frame then some t else some x) none

/-- The last entry of a list that passes a test, changed. -/
def modLast {α : Type} (p : α → Bool) (f : α → α) (l : List α) : List α :=
  match l.reverse.findIdx? p with
  | none => l
  | some i => l.modify (l.length - 1 - i) f

/-- A buffered frame came from a PDU. -/
def CanTx.isOf (pdu : Option Nat) (x : CanTx) : Bool := x.pdu.isSome && x.pdu == pdu

/-- Put a frame into a channel's buffers (R238): that of a CAN PDU replaces the content of the PDU's previous frame while that is buffered.
The 64 buffers hold the frame in transmission too. -/
def Dev.canFill (d : Dev) (k : Nat) (t : CanTx) : Dev :=
  let c := d.canCh k
  if d.portSleeping (canPort k) then d
  else if c.bufs.any (CanTx.isOf t.pdu) then
    (d.modCan k (fun c => { c with bufs := modLast (CanTx.isOf t.pdu) (fun x => { x with frame := t.frame }) c.bufs })).countCan k 6
  else if c.bufs.length + (if c.sending.isSome then 1 else 0) < 64 then
    d.modCan k (fun c => { c with bufs := c.bufs ++ [t] })
  else
    let held := match c.sending with
      | some x => arbKey x.frame
      | none => 0
    match lastTx c.bufs with
    | some x =>
      if arbKey t.frame < arbKey x.frame ∧ held ≤ arbKey x.frame then
        (d.modCan k (fun c => { c with bufs := (c.bufs.reverse.erase x).reverse ++ [t] })).countCan k 4
      else d.countCan k 5
    | none => d.countCan k 5

/-! ## On-demand polls (R250) and holds -/

/-- A poll entry's channel. -/
def PollEntry.channel (e : PollEntry) : Nat := byteAt e.cfg 3

/-- A hold of the port's domain arises: it wakes a sleeping domain, and cancels a sleep before its commit point (R343, R346). -/
def Dev.holdPort (d : Dev) (p : Nat) : Dev :=
  match d.domainOf p with
  | some n => d.wake n 0x204
  | none => d

/-- Queue a poll entry on demand, once (R250). -/
def Dev.queuePoll (d : Dev) (e : Nat) : Dev :=
  match tabFind d.gateway.polls e with
  | none => d
  | some q =>
    if (d.serialCh q.channel).onDemand.contains e then d
    else (d.modSerial q.channel (fun c => { c with onDemand := c.onDemand ++ [e] })).holdPort (serialPort q.channel)

/-! ## IEEE 1722 frames (R242 to R244) -/

/-- An ACF CAN or CAN-brief message of a held frame, as IEEE 1722-2016 lays it out (log 52). -/
def acfMessage (brief : Bool) (m : AcfMsg) : Bytes :=
  let f := m.frame
  let pad := (4 - f.data.length % 4) % 4
  let quads := (if brief then 2 else 4) + (f.data.length + pad) / 4
  let flags := pad * 64 + (if brief then 0 else 32) + 16 * b2n f.rtr + 8 * b2n f.ext + 4 * b2n f.brs + 2 * b2n f.fd + b2n f.esi
  beb 2 ((if brief then 2 else 1) * 512 + quads) ++ beb 1 flags ++ beb 1 (m.bus % 32) ++
    (if brief then [] else beb 8 m.domain) ++ beb 4 (f.id % 2 ^ 29) ++ f.data ++ zeros pad

/-- The AVTP header of an ACF_OUT PDU's frame over n payload bytes (R242). -/
def acfHeader (q : DstPdu) (n : Nat) : Bytes :=
  let stream := beb 8 (le q.cfg 0x20 8)
  if bit (le q.cfg 0x1C 4) 0 then
    beb 1 0x05 ++ beb 1 0x80 ++ beb 1 q.acfSeq ++ zeros 1 ++ stream ++ zeros 8 ++ beb 2 n ++ zeros 2
  else beb 1 0x82 ++ beb 1 (0x80 + n / 256 % 8) ++ beb 1 (n % 256) ++ beb 1 q.acfSeq ++ stream

/-- The frame of an ACF_OUT PDU with some messages. -/
def acfFrame (q : DstPdu) (ms : List AcfMsg) : Bytes :=
  let body := ms.flatMap (acfMessage (bit (le q.cfg 0x1C 4) 1))
  q.template ++ acfHeader q body.length ++ body

/-- MAX_MSGS and ACCUM_US of an ACF_OUT PDU. -/
def DstPdu.acfMax (q : DstPdu) : Nat := bits (le q.cfg 0x1C 4) 2 7
/-- ACCUM_US. -/
def DstPdu.accumUs (q : DstPdu) : Nat := bits (le q.cfg 0x1C 4) 16 16

/-- Note a send of a destination PDU. -/
def Dev.noteSend (d : Dev) (i : Nat) : Dev :=
  (d.modDst i (fun q => { q with
    lastSend := some d.now, lastSendUp := d.uptime, sentContent := q.content, deferred := none })).count 8 8199

/-- The BUS tick of a time in ns: 12.5 ns. SGE's timers are judged by it (R7). -/
def busTick (t : Nat) : Nat := t * 2 / 25

/-- A timer of SGE has expired: the BUS tick in which it ends is over. -/
def Dev.overBus (d : Dev) (t : Nat) : Bool := decide (busTick t < busTick d.uptime)

/-- The end of MIN_GAP_US after the last send (uptime). -/
def DstPdu.gapEnd (q : DstPdu) : Nat := q.lastSendUp + le q.cfg 0x14 4 * 1000

/-- A send now would fall inside MIN_GAP_US. -/
def DstPdu.inGap (q : DstPdu) (up : Nat) : Bool := q.lastSend.isSome && decide (up < q.gapEnd)

/-- A send of a frame that is ready. -/
def Dev.sendUnit (d : Dev) (i : Nat) : PduUnit → Dev
  | .eth bs stamp => (d.noteSend i).injectAt 94 bs stamp 0
  | .can k t => (d.noteSend i).canFill k t

/-- A frame of a PDU of kind ACF_OUT, CAN_PASS or SERIAL_ENC is sent; inside MIN_GAP_US, or behind one that waits, it waits (R257). -/
def Dev.offer (d : Dev) (i : Nat) (u : PduUnit) : Dev :=
  match tabFind d.gateway.dsts i with
  | none => d
  | some q =>
    if q.inGap d.uptime || !q.outbox.isEmpty then
      (d.modDst i (fun q => { q with outbox := q.outbox ++ [u], deferred := some (q.deferred.getD q.gapEnd) })).count 8 8200
    else d.sendUnit i u

/-- The arrival of the earliest message. -/
def earliest : List AcfMsg → Nat
  | [] => 0
  | m :: t => t.foldl (fun a x => min a x.arrival) m.arrival

/-- An ACF_OUT PDU emits the messages it holds, with the arrival of the earliest (R231, R243). -/
def Dev.acfEmit (d : Dev) (i : Nat) : Dev :=
  match tabFind d.gateway.dsts i with
  | none => d
  | some q =>
    if q.held.isEmpty then d
    else
      let d1 := d.modDst i (fun q => { q with held := [], acfSeq := (q.acfSeq + 1) % 256 })
      d1.offer i (.eth (acfFrame q q.held) (earliest q.held))

/-- What an ACF_OUT PDU holds leaves before a message that cannot join it: it would make the frame too long, or arrived after ACCUM_US. -/
def Dev.acfRoom (d : Dev) (i : Nat) (m : AcfMsg) : Dev :=
  match tabFind d.gateway.dsts i with
  | none => d
  | some q =>
    if !q.held.isEmpty &&
        (decide (1518 < (acfFrame q (q.held ++ [m])).length) || decide (busTick q.heldUntil < busTick m.up)) then d.acfEmit i
    else d

/-- An ACF_OUT PDU takes a message (R243). -/
def Dev.acfAdd (d : Dev) (i : Nat) (m : AcfMsg) : Dev :=
  match tabFind d.gateway.dsts i with
  | none => d
  | some q =>
    if q.kind != 2 then d
    else
      let d2 := (d.acfRoom i m).modDst i (fun q => { q with
        held := q.held ++ [m]
        heldUntil := if q.held.isEmpty then m.up + q.accumUs * 1000 else q.heldUntil })
      let full := match tabFind d2.gateway.dsts i with
        | some q => decide (q.acfMax ≤ q.held.length)
        | none => false
      if full || q.accumUs == 0 then d2.acfEmit i else d2

/-- A reception that arrived by the BUS tick of `t` waits for the step that will give its message to an ACF_OUT PDU (R243). -/
def Dev.acfAwaits (d : Dev) (i t : Nat) : Bool :=
  (d.gateway.urgent ++ d.gateway.normal).any (fun r => r.can.isSome && decide (busTick r.up ≤ busTick t) &&
    (match tabFind d.gateway.srcs r.src with
     | some q => q.tunnel == i
     | none => false))

/-- ACF_OUT_ACCUM_EXPIRY (R243). -/
def acfExpiry (i : Nat) (d : Dev) : Dev :=
  match tabFind d.gateway.dsts i with
  | some q => if d.overBus q.heldUntil && !d.acfAwaits i q.heldUntil then d.acfEmit i else d
  | none => d

/-- ACF_OUT_ACCUM_EXPIRY. -/
def execAcfOutAccumExpiry (pdu : Nat) (s : State) : Out := onDev (acfExpiry pdu) s

/-! ## Sends (R231, R257) -/

/-- A content send's destination lies in a sleeping domain: it does not send (R349). -/
def Dev.dstAsleep (d : Dev) (q : DstPdu) : Bool := q.kind == 0 && d.portSleeping (canPort q.channel)

/-- The CAN frame of a destination PDU of kind CAN. -/
def DstPdu.canFrame (q : DstPdu) : CanFrame :=
  { id := q.key % 2 ^ 29, ext := bit q.key 29, fd := bit q.key 30, brs := bit q.key 31 && bit q.key 30, esi := false,
    rtr := false, data := q.content }

/-- One transmission of a destination PDU. A tunnel PDU sends what it holds; the kinds without content or messages of their own
have nothing to send (log 53). -/
def Dev.sendDst (d : Dev) (i stamp : Nat) : Dev :=
  match tabFind d.gateway.dsts i with
  | none => d
  | some q =>
    if d.dstAsleep q then d.modDst i (fun q => { q with deferred := none })
    else
      match q.kind with
      | 0 => (d.noteSend i).canFill q.channel { frame := q.canFrame, pdu := some i, latest := none }
      | 1 => (d.noteSend i).injectAt 94 q.frame stamp 0
      | 2 => d.acfEmit i
      | 4 => (d.noteSend i).queuePoll (q.key % 1024)
      | _ => d.modDst i (fun q => { q with deferred := none })

/-- The frame of an ETH PDU that waits in P94's FIFO and was sent last is changed to what its content has become. -/
def Dev.amendFifo (d : Dev) (old new : Bytes) : Dev :=
  let pad := fun (bs : Bytes) => slice bs 0 (max 60 bs.length)
  { d with fabric := { d.fabric with
      fifos := tabMod [] d.fabric.fifos 8 (modLast (fun a => a.port == 94 && a.bytes == pad old) (fun a => { a with bytes := pad new })) } }

/-- Several sends due in one BUS tick make one transmission (R257): the one already made in this tick carries the content as it is now. -/
def Dev.amendSend (d : Dev) (i : Nat) (q : DstPdu) : Dev :=
  let d1 := d.modDst i (fun q => { q with sentContent := q.content })
  match q.kind with
  | 0 => d1.modCan q.channel (fun c => { c with bufs := modLast (CanTx.isOf (some i)) (fun x => { x with frame := q.canFrame }) c.bufs })
  | 1 => d1.amendFifo ({ q with content := q.sentContent } : DstPdu).frame q.frame
  | _ => d1

/-- A send is wanted: deferred inside MIN_GAP_US, once; sends due in one BUS tick make one transmission (R257). -/
def Dev.wantSend (d : Dev) (i stamp : Nat) : Dev :=
  match tabFind d.gateway.dsts i with
  | none => d
  | some q =>
    if q.kind == 2 then d.acfEmit i
    else if q.inGap d.uptime then
      if q.deferred.isSome || d.dstAsleep q then d
      else (d.modDst i (fun q => { q with deferred := some q.gapEnd })).count 8 8200
    else if q.lastSend.isSome && busTick q.lastSendUp == busTick d.uptime then d.amendSend i q
    else d.sendDst i stamp

/-- DST_PDU_CYCLIC_SEND (R257). -/
def cyclicSend (i : Nat) (d : Dev) : Dev :=
  match tabFind d.gateway.dsts i with
  | none => d
  | some q =>
    match q.cycle with
    | none => d
    | some (c, p) =>
      if d.now < q.nextCycle then d
      else (d.modDst i (fun q => { q with nextCycle := gridFrom p c (d.now + 1) })).wantSend i q.nextCycle

/-- DST_PDU_CYCLIC_SEND. -/
def execDstPduCyclicSend (pdu : Nat) (s : State) : Out := onDev (cyclicSend pdu) s

/-- DST_PDU_DEFERRED_SEND (R257): at the gap's end; of several frames that wait, the oldest. -/
def deferredSend (i : Nat) (d : Dev) : Dev :=
  match tabFind d.gateway.dsts i with
  | none => d
  | some q =>
    match q.deferred with
    | none => d
    | some t =>
      if d.uptime < t then d
      else match q.outbox with
        | [] => d.sendDst i (d.now - (d.uptime - t))
        | u :: rest =>
          let d1 := (d.modDst i (fun q => { q with outbox := rest })).sendUnit i u
          d1.modDst i (fun q => { q with deferred := if rest.isEmpty then none else some q.gapEnd })

/-- DST_PDU_DEFERRED_SEND. -/
def execDstPduDeferredSend (pdu : Nat) (s : State) : Out := onDev (deferredSend pdu) s

/-- A destination PDU's content after a write; the twin journals it (R375). -/
def Dev.putContent (d : Dev) (i : Nat) (c : Bytes) : Dev :=
  let d1 := d.modDst i (fun q => { q with content := c })
  if d1.twin.enable && !d1.twin.changedPdus.contains i then
    { d1 with twin := { d1.twin with changedPdus := d1.twin.changedPdus ++ [i] } }
  else d1

/-! ## Routes applied (R254 to R258) -/

/-- The routes of a source PDU that are written, in index order. -/
def Dev.routesOf (d : Dev) (q : SrcPdu) : List Route :=
  (d.gateway.routes.filter (fun r => decide (q.firstRoute ≤ r.1) && decide (r.1 < q.firstRoute + q.routes))).map (fun r => routeOf r.2)

/-- What applying a reception's routes has come to: the block, and destinations with a TRIGGER write and whether a bit changed. -/
structure Applied where
  dev : Dev
  touched : Tab Bool

/-- One route writes a value. -/
def Applied.write (a : Applied) (r : Route) (q : DstPdu) (v : Nat) : Applied :=
  let old := signalGet q.content r.dstBits
  let d1 := a.dev.putContent r.dst (signalPut q.content r.dstBits v)
  { a with dev := d1, touched := if r.trigger then tabMod false a.touched r.dst (fun c => c || old != v) else a.touched }

/-- One route of a reception. -/
def Applied.route (bs : Bytes) (a : Applied) (r : Route) : Applied :=
  match tabFind a.dev.gateway.dsts r.dst with
  | none => a
  | some q =>
    if !bitsWithin r.srcBits bs.length then a
    else
      let v := r.convert (a.dev.scaleOf r) (signalGet bs r.srcBits)
      let b := a.write r q v.1
      if v.2 then { b with dev := b.dev.count 8 8198 } else b

/-- One route of a source PDU that has timed out, by its SUB_MODE (R258). -/
def Applied.substitute (a : Applied) (r : Route) : Applied :=
  match tabFind a.dev.gateway.dsts r.dst with
  | none => a
  | some q =>
    match r.sub with
    | 0 => a.write r q (signalGet q.content r.dstBits)
    | 1 =>
      let y := match a.dev.scaleOf r with
        | some s => s.subst
        | none => 0
      let w := r.fit y
      let b := a.write r q (unsigned r.dstLen w)
      if w = y then b else { b with dev := b.dev.count 8 8198 }
    | 2 => a.write r q (signalGet q.init r.dstBits)
    | _ => a

/-- The destinations a TRIGGER write reaches send by their modes, in index order (R256, R257). -/
def Applied.sends (a : Applied) (stamp : Nat) : Dev :=
  a.touched.foldl (fun e x =>
    match tabFind e.gateway.dsts x.1 with
    | none => e
    | some q =>
      let m := byteAt q.cfg 4
      if bit m 2 || (bit m 1 && x.2) then e.wantSend x.1 stamp else e) a.dev

/-- SRC_PDU_TIMEOUT (R258). -/
def srcTimeout (i : Nat) (d : Dev) : Dev :=
  match tabFind d.gateway.srcs i with
  | none => d
  | some q =>
    if !q.deadline.any d.overBus then d
    else
      let d1 := (d.modSrc i (fun q => { q with deadline := none, timedOut := true })).count 8 8196
      let a := (d1.routesOf q).foldl Applied.substitute { dev := d1, touched := [] }
      (a.sends d.now).post 0x0802 i 1

/-- SRC_PDU_TIMEOUT. -/
def execSrcPduTimeout (pdu : Nat) (s : State) : Out := onDev (srcTimeout pdu) s

/-! ## Receptions (R256, R258 to R262) -/

/-- A declared path's segments: HANDLE, ENGINE, OBJECT. -/
def pathSegments (bs : Bytes) : List (Nat × Nat × Nat) :=
  (List.range (byteAt bs 3)).map (fun i => (le bs (0x10 + 16 * i) 2, byteAt bs (0x12 + 16 * i), le bs (0x14 + 16 * i) 4))

/-- A destination PDU is the OBJECT of a declared path with ENGINE 3. -/
def Dev.onPath (d : Dev) (pdu : Nat) : Bool :=
  d.adm.paths.any (fun p => (pathSegments p.2.data).any (fun s => s.2.1 == 3 && s.2.2 == pdu))

/-- The destinations a source PDU reaches by its routes or BUS_DST. -/
def Dev.reaches (d : Dev) (q : SrcPdu) : List Nat :=
  if q.kind == 3 then ((List.range 32).map q.busDst).filter (fun p => p != noPdu) else (d.routesOf q).map (fun r => r.dst)

/-- The source PDU is urgent (Timing and capacity). -/
def Dev.isUrgent (d : Dev) (q : SrcPdu) : Bool := (d.reaches q).any d.onPath

/-- Receptions in arrival order, those of one BUS tick in source PDU order (R256). -/
def queueIn (r : Reception) : List Reception → List Reception
  | [] => [r]
  | x :: t => if decide (busTick r.up = busTick x.up) && decide (r.src < x.src) then r :: x :: t else x :: queueIn r t

/-- A reception's keep-alives: every domain whose KA_KIND 3 names the source PDU (R342). -/
def Dev.srcKeepAlive (d : Dev) (i : Nat) : Dev :=
  d.lantern.domains.foldl (fun e x => if x.2.kaKind == 3 && x.2.kaId == i then e.keepAlive x.1 else e) d

/-- A source PDU receives: its timer restarts, its mark goes, its step waits (R258, R260, R262). -/
def Dev.receive (d : Dev) (r : Reception) : Dev :=
  match tabFind d.gateway.srcs r.src with
  | none => d
  | some q =>
    let d1 := (d.modSrc r.src (fun q => { q with
      content := r.bytes, time := r.arrival, received := true, timedOut := false, deadline := q.timerFrom d.uptime })).count 8 8194
    let d2 := (if q.timedOut then d1.post 0x0802 r.src 0 else d1).srcKeepAlive r.src
    let g := d2.gateway
    if d2.isUrgent q then
      if g.urgent.any (fun x => x.src == r.src) then
        (d2.putGateway { g with urgent := g.urgent.map (fun x => if x.src == r.src then r else x) }).count 8 8197
      else d2.putGateway { g with urgent := queueIn r g.urgent }
    else if g.normal.length < 4096 then d2.putGateway { g with normal := queueIn r g.normal }
    else
      let n := g.dropped + 1
      let d3 := d2.count 8 8205
      if d3.mayPost 0x0805 0 then (d3.putGateway { d3.gateway with dropped := 0 }).postLimited 0x0805 0 0 n
      else d3.putGateway { d3.gateway with dropped := n }

/-- A reception as it arrives now: its source, bytes and arrival. -/
def Dev.reception (d : Dev) (src : Nat) (bytes : Bytes) (arrival : Nat) : Reception :=
  { src := src, bytes := bytes, arrival := arrival, up := d.uptime, domain := (d.slotTime d.work).toNat, quality := d.qualityNow
    errNs := d.errNs, can := none, msgs := [], latest := none, started := none }

/-! ## Legal deliveries (R259, R293) -/

/-- The legal source PDU of an outlet by METER_SEL (11, Legal parameter block). -/
def meterPdu (params : Bytes) (outlet sel : Nat) : Nat := le params (0x14 + 16 * outlet + 2 * sel) 2

/-- The session waits for a reading of a source PDU and this delivery is its answer: of a MODBUS PDU that of a transaction started
since the attempt began, of a CAN PDU the first arrival after the command's (R293). -/
def sessionTakes (params : Bytes) (x : Session) (pdu up : Nat) (modbus : Bool) (started : Option Nat) : Bool :=
  let waits := match x.wait with
    | .start _ => true
    | .interim => true
    | .stop => true
    | _ => false
  waits && x.delivery.isNone && meterPdu params x.outlet x.meterSel == pdu &&
    (if modbus then (match started with | some t => decide (x.begun ≤ t) | none => false) else decide (x.begun < up))

/-- Deliver to Cask (R259). -/
def Dev.deliverLegal (d : Dev) (pdu up : Nat) (modbus : Bool) (started : Option Nat) (v : Delivery) : Dev :=
  { d with cask := { d.cask with sessions := tabMap d.cask.sessions (fun _ x =>
      if sessionTakes d.cask.params x pdu up modbus started then { x with delivery := some v } else x) } }.count 8 8206

/-- A legal reception's delivery. -/
def Dev.legalStep (d : Dev) (q : SrcPdu) (r : Reception) : Dev :=
  if !q.legal then d
  else d.deliverLegal r.src r.up (q.kind == 1) r.started
    { bytes := r.bytes, arrival := r.arrival, ok := true, quality := r.quality, errNs := r.errNs, committed := d.uptime }

/-! ## The step (R256, R261) -/

/-- Messages of an ACF_IN reception go to their CAN_PASS PDUs' channels (R244). -/
def Dev.passMessage (q : SrcPdu) (latest : Option Nat) (d : Dev) (m : Nat × CanFrame) : Dev :=
  match tabFind d.gateway.dsts (q.busDst m.1) with
  | none => d
  | some p =>
    if p.kind != 3 || d.portSleeping (canPort p.channel) then d
    else d.offer (q.busDst m.1) (.can p.channel { frame := m.2, pdu := none, latest := latest })

/-- A CAN reception is tunnelled through its TUNNEL_DST. -/
def Dev.tunnelStep (d : Dev) (q : SrcPdu) (r : Reception) : Dev :=
  match r.can with
  | some f =>
    if q.tunnel == noPdu then d
    else d.acfAdd q.tunnel { bus := byteAt (d.canCh q.channel).cfg 0x0F, frame := f, arrival := r.arrival, domain := r.domain, up := r.up }
  | none => d

/-- SGE processes one reception: every route, then every send (R256). A remote frame has no payload for routes (R236). -/
def Dev.sgeApply (d : Dev) (r : Reception) : Dev :=
  match tabFind d.gateway.srcs r.src with
  | none => d
  | some q =>
    if q.kind == 3 then r.msgs.foldl (Dev.passMessage q r.latest) d
    else
      let remote := match r.can with
        | some f => f.rtr
        | none => false
      let d1 := d.tunnelStep q r
      if remote then d1
      else
        let d2 := if r.bytes.length < q.len then d1.count 8 8195 else d1
        let a := (d2.routesOf q).foldl (Applied.route r.bytes) { dev := d2, touched := [] }
        a.sends r.arrival

/-- The reception whose step is next: urgent ones ahead of every normal one. -/
def Gateway.head (g : Gateway) : Option Reception := g.urgent.head?.or g.normal.head?

/-- The queues without that reception. -/
def Gateway.pop (g : Gateway) : Gateway := if g.urgent.isEmpty then { g with normal := g.normal.drop 1 } else { g with urgent := g.urgent.drop 1 }

/-- That reception has been delivered to Cask. -/
def Gateway.markHead (g : Gateway) : Gateway :=
  let m := fun (r : Reception) => { r with delivered := true }
  if g.urgent.isEmpty then { g with normal := g.normal.modify 0 m } else { g with urgent := g.urgent.modify 0 m }

/-- The requester of a source PDU's step: 4 towards Ethernet, 5 where it reaches only CAN and serial channels (R261, log 87). -/
def Dev.sgeRequester (d : Dev) (q : SrcPdu) : Nat :=
  let kinds := (d.reaches q).filterMap (fun i => (tabFind d.gateway.dsts i).map DstPdu.kind)
  if kinds.isEmpty || (q.kind == 0 && q.tunnel != noPdu) || kinds.any (fun k => k == 1 || k == 2 || k == 5) then 4 else 5

/-- A legal reception goes to Cask by a transfer of its own, of requester 6 for MODBUS and 4 otherwise (R259). -/
def Dev.legalPhase (d : Dev) (q : SrcPdu) (r : Reception) : Dev :=
  if !q.legal || r.delivered then d
  else d.transfer (if q.kind == 1 then 6 else 4) 64 (fun e => (e.legalStep q r).putGateway (e.legalStep q r).gateway.markHead)

/-- SGE_ROUTE_STEP: the next reception's legal delivery, then its step, each by its own transfer (R259, R261). -/
def sgeStep (d : Dev) : Dev :=
  match d.gateway.head with
  | none => d
  | some r =>
    match tabFind d.gateway.srcs r.src with
    | none => d.putGateway d.gateway.pop
    | some q =>
      let d1 := d.legalPhase q r
      if q.legal && !d1.gateway.head.any (fun x => x.delivered) then d1
      else d1.transfer (d1.sgeRequester q) 64 (fun e => (e.putGateway e.gateway.pop).sgeApply r)

/-- SGE_ROUTE_STEP. -/
def execSgeRouteStep (s : State) : Out := onDev sgeStep s

end Sys2Proof.Machine
end

