-- ==== Sys2Proof/Machine/GatewayCan.lean ====
section
/-! DEFINITION. CAN channels (chapter 09): reception, arbitration, error states and bus-off, and the decoding of IEEE 1722 tunnel
frames. -/

namespace Sys2Proof.Machine

open Sys2Proof

/-! ## Error states (R240) -/

/-- The error state of the counters: 0 active, 1 passive, 2 bus-off. -/
def errorState (tec rec_ : Nat) : Nat := if 255 < tec then 2 else if 127 < tec ∨ 127 < rec_ then 1 else 0

/-- GW_CAN_STATE's DATA. -/
def canStateData (st tec rec_ : Nat) : Nat := st + min tec 255 * 2 ^ 8 + min rec_ 255 * 2 ^ 16

/-- A channel enters bus-off: transmission stops, BOFF_FLUSH discards every buffered frame, BOFF_AUTO starts the delay. -/
def Dev.enterBusOff (d : Dev) (k : Nat) : Dev :=
  let c := d.canCh k
  let m := byteAt c.cfg 1
  let all := (match c.sending with | some t => [t] | none => []) ++ c.bufs
  let kept := if bit m 5 then [] else all
  let d1 := d.modCan k (fun c => { c with
    busOff := true, sending := none, bufs := kept, recovering := false
    boffDeadline := if bit m 4 then some (d.uptime + ms (le c.cfg 0x10 2)) else none })
  (d1.countCan k 14).countN 8 (k * 32 + 5) (all.length - kept.length)

/-- Set a channel's counters; a change of state is posted. Listen-only and restricted channels keep theirs (log 54), and so does every
channel of a twin that does not drive, which is listen-only (R369, drive states). -/
def Dev.setErrors (d : Dev) (k tec rec_ : Nat) : Dev :=
  let c := d.canCh k
  if c.mode != 1 || c.busOff || !d.mayDrive then d
  else
    let st := errorState tec rec_
    let d1 := d.modCan k (fun c => { c with tec := tec, recCnt := rec_, errState := st })
    if st == c.errState then d1
    else
      let d2 := if st == 2 then d1.enterBusOff k else d1
      d2.post 0x0801 k (canStateData st tec rec_)

/-- A frame received without error: REC falls by one, or from above 127 to a value between 119 and 127 that ISO 11898-1 leaves
open. -/
def Dev.recOk (d : Dev) (k : Nat) : Dev :=
  let c := d.canCh k
  if c.recCnt == 0 then d
  else if c.recCnt ≤ 127 then d.setErrors k c.tec (c.recCnt - 1)
  else
    let f := d.free
    f.2.setErrors k c.tec (119 + f.1 % 9)

/-- The channel takes part in its bus: configured, on, awake, not bus-off. -/
def Dev.canOn (d : Dev) (k : Nat) : Bool :=
  decide (k < 32) && (d.canCh k).mode != 0 && !d.portSleeping (canPort k) && !(d.canCh k).busOff

/-- The channel still waits for 11 consecutive recessive bits (R234). -/
def Dev.canWaits (d : Dev) (k : Nat) : Bool := decide (d.uptime < (d.canCh k).quietUntil)

/-- The wait for 11 consecutive recessive bits begins: it takes 11 nominal bit times at least. -/
def CanCh.startWait (c : CanCh) (up : Nat) : CanCh := { c with quietUntil := up + ceilDiv (11 * (canBitPs c.cfg).1) 1000 }

/-- The channel acknowledges a frame it receives without error: MODE 1 and MODE 3 do, listen-only never drives CAN_TX (R234). -/
def Dev.canAcks (d : Dev) (k : Nat) : Dev :=
  if ((d.canCh k).mode == 1 || (d.canCh k).mode == 3) && d.mayDrive then d.emit (.canAck k) else d

/-- The channel signals an error it detects: in MODE 1 only (R234), passively when error-passive. -/
def Dev.canSignals (d : Dev) (k : Nat) : Dev :=
  if (d.canCh k).mode == 1 && d.mayDrive then d.emit (.canErrorFrame k ((d.canCh k).errState == 1)) else d

/-- CAN_PROTOCOL_EXCEPTION (R234): reception ends without an error frame, counters unchanged, and the channel waits. -/
def canException (k : Nat) (d : Dev) : Dev :=
  if d.canOn k && !d.canWaits k then (d.modCan k (fun c => c.startWait d.uptime)).countCan k 15 else d

/-- CAN_PROTOCOL_EXCEPTION. -/
def execCanProtocolException (ch : Nat) (s : State) : Out := onDev (canException ch) s

/-! ## Reception (R234 to R236, R203, R342) -/

/-- An acceptance entry's verdict: none where it does not match. -/
def filterEntryMatches (f : CanFrame) (e : Nat × Nat) : Bool :=
  (e.1 ^^^ canKey f) &&& e.2 &&& (2 ^ 29 - 1) == 0 && (!bit e.2 29 || bit e.1 29 == f.ext)

/-- The acceptance entries accept a frame (R235). -/
def CanCh.accepts (c : CanCh) (f : CanFrame) : Bool :=
  let used := c.filters.filter (fun e => e.2.1 / 2 ^ 30 != 0)
  if used.isEmpty then true
  else match used.find? (fun e => filterEntryMatches f e.2) with
    | some e => e.2.1 / 2 ^ 30 == 1
    | none => false

/-- The device's own identifiers on a channel: those of its destination PDUs of kind CAN. -/
def Dev.ownCanKey (d : Dev) (k key : Nat) : Bool :=
  d.gateway.dsts.any (fun q => q.2.kind == 0 && q.2.channel == k && q.2.key % 2 ^ 30 == key)

/-- A received frame against its port's declaration (R203). -/
def Dev.watchCan (d : Dev) (k : Nat) (f : CanFrame) : Dev :=
  let p := canPort k
  let key := canKey f
  match tabFind d.adm.buses p with
  | none => d
  | some b =>
    match (busEntries b.data).find? (fun e => e.1 == key) with
    | none => if d.ownCanKey k key then d else d.busViolation p key 1
    | some e =>
      let soon := match tabFind b.lastSeen key with
        | some t => decide (t ≤ d.now) && decide (d.now < t + e.2.2.2)
        | none => false
      let d1 := { d with adm := { d.adm with buses := tabPut d.adm.buses p { b with lastSeen := tabPut b.lastSeen key d.now } } }
      if soon then d1.busViolation p key 2 else d1

/-- A CAN frame is a keep-alive of a domain (R342): KIND 0 any, KIND 1 by KA_ID under KA_MASK. -/
def isCanKeepAlive (m : Domain) (f : CanFrame) : Bool :=
  m.kaKind == 0 || (m.kaKind == 1 && ((canKey f ^^^ m.kaId) &&& m.kaMask &&& (2 ^ 30 - 1)) == 0)

/-- A keep-alive received on a member channel. -/
def Dev.canKeepAlive (d : Dev) (k : Nat) (f : CanFrame) : Dev :=
  match d.domainOf (canPort k) with
  | none => d
  | some n =>
    match tabFind d.lantern.domains n with
    | some m => if isCanKeepAlive m f then d.keepAlive n else d
    | none => d

/-- The CAN source PDU of a frame. -/
def Dev.canSource (d : Dev) (k : Nat) (f : CanFrame) : Option (Nat × SrcPdu) :=
  d.gateway.srcs.find? (fun q => q.2.kind == 0 && q.2.channel == k && q.2.key % 2 ^ 30 == canKey f)

/-- An accepted frame: a reception of its source PDU, or DEFAULT_ACTION's (R236). -/
def Dev.canAccepted (d : Dev) (k : Nat) (f : CanFrame) : Dev :=
  let c := d.canCh k
  match d.canSource k f with
  | some (i, q) =>
    let r := d.reception i (if f.rtr then q.content else f.data) d.now
    d.receive { r with can := some f }
  | none =>
    if byteAt c.cfg 0x12 == 1 then
      d.acfAdd (le c.cfg 0x14 2)
        { bus := byteAt c.cfg 0x0F, frame := f, arrival := d.now, domain := (d.slotTime d.work).toNat, up := d.uptime }
    else d.countCan k 2

/-- The domain of a sleeping channel counts a frame it decodes (R348). -/
def Dev.ignoreCan (d : Dev) (k : Nat) : Dev :=
  match d.domainOf (canPort k) with
  | some n => if d.portAsleep (canPort k) && (d.canCh k).mode != 0 then d.count 12 (n * 8 + 7) else d
  | none => d

/-- CAN_FRAME_RECEIVED: an FD frame on a channel without FD is a protocol exception (R234, log 55). -/
def canFrame (k : Nat) (f : CanFrame) (d : Dev) : Dev :=
  if !d.canOn k then d.ignoreCan k
  else if d.canWaits k then d
  else if f.fd && !bit (byteAt (d.canCh k).cfg 1) 2 then canException k d
  else
    let d1 := ((((d.countCan k 0).canAcks k).recOk k).canKeepAlive k f).watchCan k f
    if (d1.canCh k).accepts f then d1.canAccepted k f else d1.countCan k 1

/-- CAN_FRAME_RECEIVED. -/
def execCanFrameReceived (ch : Nat) (f : CanFrame) (s : State) : Out := onDev (canFrame ch f) s

/-! ## Transmission (R233, R237, R239) -/

/-- A buffered frame past its latest transmit time: the BUS tick in which it passes is over (R239). -/
def CanTx.late (now : Nat) (t : CanTx) : Bool :=
  match t.latest with
  | some l => decide (busTick l < busTick now)
  | none => false

/-- Late tunnelled frames that have not begun are removed (R239). -/
def Dev.dropLate (d : Dev) (k : Nat) : Dev :=
  let c := d.canCh k
  let kept := c.bufs.filter (fun t => !t.late d.now)
  (d.modCan k (fun c => { c with bufs := kept })).countN 8 (k * 32 + 7) (c.bufs.length - kept.length)

/-- CAN_TX_LATE. -/
def execCanTxLate (ch : Nat) (s : State) : Out := onDev (fun d => d.dropLate ch) s

/-- A frame that lost arbitration or met an error stays to be retried, at the place it had among equal keys, or is removed under
ONE_SHOT (R237). -/
def Dev.retryTx (d : Dev) (k : Nat) (t : CanTx) : Dev :=
  if (d.canCh k).oneShot then d.countCan k 16 else d.modCan k (fun c => { c with bufs := t :: c.bufs })

/-- The channel may start frames: MODE 1, on, in twin mode with the line (R234, R372). -/
def Dev.canSends (d : Dev) (k : Nat) : Bool := d.canOn k && (d.canCh k).mode == 1 && d.mayDrive

/-- CAN_ARBITRATION_START (R237): the lowest key is offered; it wins and runs, or loses. -/
def canArbitration (k : Nat) (won : Bool) (d : Dev) : Dev :=
  if !d.canSends k || d.canWaits k || (d.canCh k).sending.isSome then d
  else
    let d1 := d.dropLate k
    match firstTx (d1.canCh k).bufs with
    | none => d1
    | some t =>
      if won then
        (d1.modCan k (fun c => { c with bufs := c.bufs.erase t, sending := some t })).emit (.can k t.frame)
      else
        let d2 := d1.countCan k 8
        if (d2.canCh k).oneShot then (d2.modCan k (fun c => { c with bufs := c.bufs.erase t })).countCan k 16 else d2

/-- CAN_ARBITRATION_START. -/
def execCanArbitrationStart (ch : Nat) (won : Bool) (s : State) : Out := onDev (canArbitration ch won) s

/-- An error of a frame this channel transmits: counted by type, TEC up by 8 but for ISO's exceptions, the frame retried. -/
def Dev.txError (d : Dev) (k kind : Nat) (exempt : Bool) : Dev :=
  match (d.canCh k).sending with
  | none => d
  | some t =>
    let d1 := ((d.modCan k (fun c => { c with sending := none })).countCan k (9 + min kind 4)).canSignals k
    let d2 := d1.retryTx k t
    let c := d2.canCh k
    d2.setErrors k (if exempt then c.tec else c.tec + 8) c.recCnt

/-- TDCV of the falling edges seen on CAN_RX, in BUS cycles after the one on CAN_TX: the first that is not earlier than TDCF (R233). Without
one the spec gives no value: it is free. -/
def Dev.loopDelay (d : Dev) (tdcf : Nat) (edges : List Nat) : Nat × Dev :=
  match edges.filter (fun e => decide (tdcf ≤ e)) with
  | e :: t => (t.foldl min e, d)
  | [] =>
    let f := d.free
    (f.1 % 128, f.2)

/-- CAN_TX_COMPLETE: with TDC enabled the loop delay of an FD frame with BRS is measured from `edges`, and a secondary sample point past
127 cycles is a bit error (R233). -/
def canTxComplete (k : Nat) (edges : List Nat) (d : Dev) : Dev :=
  match (d.canCh k).sending with
  | none => d
  | some t =>
    let c := d.canCh k
    let tdc := bit (byteAt c.cfg 0x0C) 0 && t.frame.fd && t.frame.brs
    let m := if tdc then d.loopDelay (byteAt c.cfg 0x0E) edges else (0, d)
    let d1 := if tdc then m.2.modCan k (fun c => { c with tdcv := min m.1 255 }) else d
    if tdc && decide (127 < m.1 + byteAt c.cfg 0x0D) then d1.txError k 0 false
    else
      let d2 := (d1.modCan k (fun c => { c with sending := none })).countCan k 3
      let d3 := d2.setErrors k (c.tec - 1) c.recCnt
      match t.pdu with
      | some p => d3.pduSent p
      | none => d3

/-- CAN_TX_COMPLETE. -/
def execCanTxComplete (ch : Nat) (edges : List Nat) (s : State) : Out := onDev (canTxComplete ch edges) s

/-- CAN_BUS_ERROR (R237, R240). -/
def canError (k : Nat) (e : CanError) (d : Dev) : Dev :=
  if !d.canOn k || d.canWaits k then d
  else if e.transmitting then d.txError k e.kind e.exempt
  else
    let c := d.canCh k
    let up := if c.recCnt > 127 then c.recCnt else c.recCnt + (if e.dominantAfter then 8 else 1)
    ((d.countCan k (9 + min e.kind 4)).canSignals k).setErrors k c.tec up

/-- CAN_BUS_ERROR. -/
def execCanBusError (ch : Nat) (e : CanError) (s : State) : Out := onDev (canError ch e) s

/-- BUS_OFF_DELAY_EXPIRY (R240): the recovery sequence begins. While its domain sleeps the delay stands still (R348). -/
def busOffDelay (k : Nat) (d : Dev) : Dev :=
  if (d.canCh k).busOff && d.overO (d.canCh k).boffDeadline then
    d.modCan k (fun c => { c with boffDeadline := none, recovering := true })
  else d

/-- BUS_OFF_DELAY_EXPIRY. -/
def execBusOffDelayExpiry (ch : Nat) (s : State) : Out := onDev (busOffDelay ch) s

/-- BUS_OFF_RECOVERY_COMPLETE (R240): 128 occurrences of 11 recessive bits have been seen. -/
def busOffRecovered (k : Nat) (d : Dev) : Dev :=
  let c := d.canCh k
  if c.busOff && c.recovering && !d.portSleeping (canPort k) then
    (d.modCan k (fun c => { c with busOff := false, recovering := false, tec := 0, recCnt := 0, errState := 0 })).post 0x0801 k 3
  else d

/-- BUS_OFF_RECOVERY_COMPLETE. -/
def execBusOffRecoveryComplete (ch : Nat) (s : State) : Out := onDev (busOffRecovered ch) s

/-! ## Tunnel frames (R229, R244) -/

/-- The AVTP part of a tunnel frame: sequence_num, stream_id and the ACF messages. -/
structure Avtp where
  seq : Nat
  stream : Nat
  sv : Bool
  body : Bytes

/-- Read an NTSCF or TSCF header (IEEE 1722-2016, log 52); none for another frame. -/
def avtpOf (bs : Bytes) : Option Avtp :=
  let g := gristL2 bs
  let o := g.etypeOff + 2
  if g.etype != 0x22F0 then none
  else if byteAt bs o == 0x82 then
    some { seq := byteAt bs (o + 3), stream := be bs (o + 4) 8, sv := bit (byteAt bs (o + 1)) 7,
           body := (bs.drop (o + 12)).take (byteAt bs (o + 1) % 8 * 256 + byteAt bs (o + 2)) }
  else if byteAt bs o == 0x05 then
    some { seq := byteAt bs (o + 2), stream := be bs (o + 4) 8, sv := bit (byteAt bs (o + 1)) 7,
           body := (bs.drop (o + 24)).take (be bs (o + 20) 2) }
  else none

/-- An ACF message: its type, can_bus_id and CAN frame. -/
structure AcfIn where
  type : Nat
  bus : Nat
  frame : CanFrame

/-- The messages of a payload, as far as they are whole. -/
def acfSplit : Nat → Bytes → List AcfIn
  | 0, _ => []
  | n + 1, b =>
    let w := be b 0 2
    let type := w / 512
    let len := w % 512 * 4
    let head := if type == 1 then 16 else 8
    if b.length < 4 ∨ len = 0 ∨ b.length < len then []
    else
      let fl := byteAt b 2
      let isCan := (type == 1 || type == 2) && decide (head ≤ len)
      let f : CanFrame :=
        { id := be b (head - 4) 4 % 2 ^ 29, ext := bit fl 3, fd := bit fl 1, brs := bit fl 2, esi := bit fl 0, rtr := bit fl 4
          data := (b.drop head).take (len - head - fl / 64) }
      { type := if isCan then type else 0x7F, bus := byteAt b 3 % 32, frame := f } :: acfSplit n (b.drop len)

/-- The messages of a tunnel frame. -/
def Avtp.messages (a : Avtp) : List AcfIn := acfSplit (a.body.length / 4 + 1) a.body

/-- A message that carries a CAN frame. -/
def AcfIn.isCan (m : AcfIn) : Bool := m.type == 1 || m.type == 2

/-- The frame's latest transmit time (R157). -/
def Dev.latestOf (d : Dev) (f : Stored) : Option Nat :=
  match tabFind d.streams.table f.info.handle with
  | some e => if e.kind == 1 && e.deadline != 0 then some (f.info.time + e.deadline) else none
  | none => none

/-- A gap in sequence numbers is counted, and the frame still used (R244). -/
def Dev.seqGap (d : Dev) (prev : Option Nat) (seq : Nat) : Dev :=
  match prev with
  | some p => if seq == (p + 1) % 256 then d else d.count 8 8201
  | none => d

/-- A frame for a CAN channel (R229): every CAN message goes to the channel. -/
def Dev.tunnelToChannel (d : Dev) (k : Nat) (bs : Bytes) (latest : Option Nat) : Dev :=
  match avtpOf bs with
  | none => d.count 8 8192
  | some a =>
    let ms := a.messages
    if !ms.any AcfIn.isCan then d.count 8 8192
    else
      let d1 := (d.seqGap (d.canCh k).acfSeq a.seq).modCan k (fun c => { c with acfSeq := some a.seq })
      ms.foldl (fun e m =>
        if m.isCan then e.canFill k { frame := m.frame, pdu := none, latest := latest } else e.count 8 8202) d1

/-- An ACF_IN PDU's messages that reach a bus: those of another type, without a bus, and beyond MAX_MSGS are discarded and
counted (R244). -/
def Dev.acfDecode (d : Dev) (q : SrcPdu) (ms : List AcfIn) : List (Nat × CanFrame) × Dev :=
  let d1 := d.countN 8 8204 (ms.length - q.maxMsgs)
  (ms.take q.maxMsgs).foldl (fun (a : List (Nat × CanFrame) × Dev) m =>
    if !m.isCan then (a.1, a.2.count 8 8202)
    else if q.busDst m.bus == noPdu then (a.1, a.2.count 8 8203)
    else (a.1 ++ [(m.bus, m.frame)], a.2)) ([], d1)

/-- A frame matched to an ACF_IN source PDU. -/
def Dev.acfReceive (d : Dev) (i : Nat) (q : SrcPdu) (a : Avtp) (f : Stored) : Dev :=
  let d1 := (d.seqGap q.acfSeq a.seq).modSrc i (fun q => { q with acfSeq := some a.seq })
  let r := d1.acfDecode q a.messages
  let rec_ := r.2.reception i [] f.info.time
  r.2.receive { rec_ with msgs := r.1, latest := d.latestOf f }

/-- The frame matches an ETH source PDU: DA, outer VID and ETYPE (R230). -/
def Dev.ethSource (d : Dev) (bs : Bytes) : Option (Nat × SrcPdu) :=
  let g := gristL2 bs
  d.gateway.srcs.find? (fun q =>
    q.2.kind == 2 && q.2.key % 2 ^ 48 == g.da && q.2.key / 2 ^ 48 % 4096 == g.outerVid && le q.2.cfg 0x10 2 == g.etype)

/-- A frame for ACF_IN or ETH source PDUs (R230 steps 2 and 3). -/
def Dev.gatewayFrame (d : Dev) (bs : Bytes) (f : Stored) : Dev :=
  let acf := (avtpOf bs).bind (fun a =>
    if a.sv then (d.gateway.srcs.find? (fun q => q.2.kind == 3 && q.2.key == a.stream)).map (fun q => (q, a)) else none)
  match acf with
  | some ((i, q), a) => d.acfReceive i q a f
  | none =>
    match d.ethSource bs with
    | some (i, q) => d.receive (d.reception i ((bs.drop (le q.cfg 0x12 2)).take q.len) f.info.time)
    | none => d.count 8 8193

end Sys2Proof.Machine
end

