-- ==== Sys2Proof/Machine/GatewaySerial.lean ====
section
/-! DEFINITION. Serial channels and the Modbus RTU poll engine (chapter 09), and the frames SGE takes at P94 (R229, R230). -/

namespace Sys2Proof.Machine

open Sys2Proof

/-! ## Characters (R245, R246) -/

/-- DIV of a BAUD, in sixteenths: 80 MHz / (8 x BAUD) rounded half away from zero. -/
def baudDiv (baud : Nat) : Nat := (roundDiv 160000000 baud).toNat

/-- The bit time of a channel in ps. -/
def SerialCh.bitPs (c : SerialCh) : Nat := baudDiv (le c.cfg 4 4) * 6250

/-- Bits of a character: start, data, parity, stop. -/
def SerialCh.charBits (c : SerialCh) : Nat :=
  let f := byteAt c.cfg 2
  1 + (if bit f 2 then 7 else 8) + (if f % 4 == 0 then 0 else 1) + (if bit f 3 then 2 else 1)

/-- The time of n half characters in ns. -/
def SerialCh.halfChars (c : SerialCh) (n : Nat) : Nat := c.charBits * c.bitPs * n / 2000

/-- The time of n characters in ns. -/
def SerialCh.charsNs (c : SerialCh) (n : Nat) : Nat := c.halfChars (2 * n)

/-- t1.5 and t3.5 in ns: character times up to 19,200 bit/s, fixed above (R249). -/
def SerialCh.t15 (c : SerialCh) : Nat := if le c.cfg 4 4 ≤ 19200 then c.halfChars 3 else 750000
/-- t3.5. -/
def SerialCh.t35 (c : SerialCh) : Nat := if le c.cfg 4 4 ≤ 19200 then c.halfChars 7 else 1750000

/-- RS-485 is set. -/
def SerialCh.rs485 (c : SerialCh) : Bool := bit (byteAt c.cfg 2) 4

/-- SL_DE is high: from DE_LEAD before a transmission's first start bit, when the send begins, to DE_LAG after its last stop bit. The
receiver discards what it reads meanwhile (R246). -/
def SerialCh.driving (c : SerialCh) (up : Nat) : Bool :=
  c.rs485 && decide (up < c.txUntil + byteAt c.cfg 8 * c.bitPs / 1000)

/-- A serial channel's counter. -/
def Dev.countSl (d : Dev) (s n : Nat) : Dev := d.count 8 (1024 + s * 16 + n)

/-- GW_SERIAL_ERROR, at most once per second per channel. -/
def Dev.serialError (d : Dev) (s kind : Nat) : Dev := d.postLimited 0x0804 s s kind

/-- Characters of a message that started at `start` and are still in the transmit FIFO: they have not begun to be shifted out. -/
def SerialCh.inFifo (c : SerialCh) (up : Nat) (m : Nat × Nat) : Nat :=
  if up < m.1 then m.2 else m.2 - ((up - m.1) * 1000 / max 1 (c.charBits * c.bitPs) + 1)

/-- Bytes in the 4 KiB transmit FIFO. -/
def SerialCh.waiting (c : SerialCh) (up : Nat) : Nat := (c.tx.map (c.inFifo up)).sum

/-- Transmit bytes after what is still being sent: first DE_LEAD bit times where the line was idle, and a break of two characters where
asked (R246, R248). -/
def Dev.serialSend (d : Dev) (s : Nat) (bs : Bytes) (brk : Bool) : Dev :=
  let c := d.serialCh s
  let idle := decide (c.txUntil ≤ d.uptime)
  let lead := if c.rs485 && idle then byteAt c.cfg 3 * c.bitPs / 1000 else 0
  let start := max d.uptime c.txUntil + lead + (if brk then c.charsNs 2 else 0)
  let kept := c.tx.filter (fun m => decide (0 < c.inFifo d.uptime m))
  (((d.modSerial s (fun c => { c with txUntil := start + c.charsNs bs.length, tx := kept ++ [(start, bs.length)] })).countN 8
    (1024 + s * 16 + 1) bs.length).countSl s 3).emit (.serial s brk bs)

/-- SERIAL_CHAR_RECEIVED (R245): errors are counted; a raw channel keeps the character, a full FIFO loses it. A break marks the
character that follows it (log 56). -/
def serialChar (s : Nat) (x : SerialChar) (d : Dev) : Dev :=
  let c := d.serialCh s
  if 8 ≤ s || c.mode == 0 || d.portSleeping (serialPort s) || c.driving d.uptime then d
  else if x.brk then ((d.modSerial s (fun c => { c with brk := true })).countSl s 7).serialError s 4
  else
    let d1 := if c.mode == 2 then d.countSl s 0 else d
    let d2 := if x.parity then (d1.countSl s 4).serialError s 1 else d1
    let d3 := if x.framing then (d2.countSl s 5).serialError s 2 else d2
    if c.mode != 2 then d3
    else if 4096 ≤ c.rx.length then ((d3.modSerial s (fun c => { c with lost := true })).countSl s 6).serialError s 3
    else
      let h : HeldChar :=
        { value := x.value, flags := b2n c.brk + 2 * b2n x.parity + 4 * b2n x.framing, start := d.now - c.charsNs 1
          ends := d.uptime }
      d3.modSerial s (fun c => { c with rx := c.rx ++ [h], brk := false })

/-- SERIAL_CHAR_RECEIVED. -/
def execSerialCharReceived (ch : Nat) (c : SerialChar) (s : State) : Out := onDev (serialChar ch c) s

/-! ## Raw messages (R247) -/

/-- A serial encapsulation frame of some held characters. -/
def serialFrame (template : Bytes) (s : Nat) (c : SerialCh) (hs : List HeldChar) (cut : Bool) : Bytes :=
  let any := fun (b : Nat) => hs.any (fun h => bit h.flags b)
  let flags := b2n (any 0) + 2 * b2n (any 1) + 4 * b2n (any 2) + 8 * b2n c.lost + 16 * b2n cut
  let first := match hs with
    | h :: _ => h.start
    | [] => 0
  template ++ beb 1 2 ++ beb 1 1 ++ beb 1 s ++ beb 1 flags ++ beb 2 c.seq ++ t80be first ++ beb 2 hs.length ++
    hs.map (fun h => BitVec.ofNat 8 h.value)

/-- A keep-alive of any kind of reception on a port (KA_KIND 0). -/
def Dev.portKeepAlive (d : Dev) (p : Nat) : Dev :=
  match d.domainOf p with
  | none => d
  | some n =>
    match tabFind d.lantern.domains n with
    | some m => if m.kaKind == 0 then d.keepAlive n else d
    | none => d

/-- A serial reception that answers no poll, on a declared port (R203). -/
def Dev.unsolicited (d : Dev) (s : Nat) : Dev :=
  if tabHas d.adm.buses (serialPort s) then d.busViolation (serialPort s) 0 5 else d

/-- RAW_MESSAGE_CLOSE: after GAP_HALF half characters of idle line, or with MAX_BYTES held. -/
def rawClose (s : Nat) (d : Dev) : Dev :=
  let c := d.serialCh s
  let cap := le c.cfg 0x0A 2
  let hs := c.rx.take cap
  match hs.getLast? with
  | none => d
  | some last =>
    let cut := decide (cap ≤ c.rx.length)
    let gapEnd := last.ends + c.halfChars (byteAt c.cfg 9)
    if c.mode != 2 || (!cut && decide (d.uptime < gapEnd)) then d
    else
      let stamp := d.now - (d.uptime - (if cut then last.ends else gapEnd))
      let d1 := d.modSerial s (fun c => { c with rx := c.rx.drop hs.length, lost := false, seq := (c.seq + 1) % 65536 })
      let d2 := ((d1.countSl s 2).portKeepAlive (serialPort s)).unsolicited s
      let i := le c.cfg 0x10 2
      match tabFind d2.gateway.dsts i with
      | some q => if q.kind == 5 then d2.offer i (.eth (serialFrame q.template s c hs cut) stamp) else d2
      | none => d2

/-- RAW_MESSAGE_CLOSE. -/
def execRawMessageClose (ch : Nat) (s : State) : Out := onDev (rawClose ch) s

/-- A serial encapsulation frame for a channel (R248): VERSION, LENGTH and FLAGS are checked; data for a channel that is not raw,
or over the transmit FIFO, is dropped whole. -/
def Dev.serialToChannel (d : Dev) (s : Nat) (bs : Bytes) : Dev :=
  let o := (gristL2 bs).etypeOff + 2
  let n := be bs (o + 16) 2
  let fits := decide (1 ≤ n) && decide (n ≤ 1400) && (bs.length == o + 18 + n || (bs.length == 60 && decide (o + 18 + n ≤ 60)))
  let fl := byteAt bs (o + 3)
  if byteAt bs (o + 1) != 1 || !fits || decide (2 ≤ fl) then d.count 8 8192
  else
    let c := d.serialCh s
    if c.mode != 2 || d.portSleeping (serialPort s) || !d.mayDrive || decide (4096 < c.waiting d.uptime + n) then d.countSl s 8
    else d.serialSend s (slice bs (o + 18) n) (bit fl 0)

/-- A serial encapsulation frame: ETYPE 0x88B5, SUBTYPE 2. -/
def isSerialFrame (bs : Bytes) : Bool :=
  let g := gristL2 bs
  g.etype == 0x88B5 && byteAt bs (g.etypeOff + 2) == 2

/-- P94_FRAME_TO_CHANNEL (R229). -/
def p94ToChannel (d : Dev) : Dev :=
  match d.internalHead 94 with
  | none => d
  | some x =>
    if 90 ≤ x.2.dest then d
    else
      let bs := egressBytes x.2 x.1.bytes
      let d1 := d.passOut 94 x
      if !d.passes 94 x then d1
      else if x.2.dest < 82 then d1.tunnelToChannel (x.2.dest - 50) bs (d.latestOf x.1)
      else if isSerialFrame bs then d1.serialToChannel (x.2.dest - 82) bs
      else d1.count 8 8192

/-- P94_FRAME_TO_CHANNEL. -/
def execP94FrameToChannel (s : State) : Out := onDev p94ToChannel s

/-- P94_FRAME_TO_GATEWAY (R230): a serial encapsulation frame names its channel; one of no channel is a bad frame. -/
def p94ToGateway (d : Dev) : Dev :=
  match d.internalHead 94 with
  | none => d
  | some x =>
    if x.2.dest < 90 then d
    else
      let bs := egressBytes x.2 x.1.bytes
      let d1 := d.passOut 94 x
      let ch := byteAt bs ((gristL2 bs).etypeOff + 4)
      if !d.passes 94 x then d1
      else if isSerialFrame bs then (if 8 ≤ ch then d1.count 8 8192 else d1.serialToChannel ch bs)
      else d1.gatewayFrame bs x.1

/-- P94_FRAME_TO_GATEWAY. -/
def execP94FrameToGateway (s : State) : Out := onDev p94ToGateway s

/-! ## The poll engine (R249 to R252) -/

/-- GW_POLL_SET's fields. -/
def PollEntry.slave (e : PollEntry) : Nat := byteAt e.cfg 4
/-- FUNCTION. -/
def PollEntry.function (e : PollEntry) : Nat := byteAt e.cfg 5
/-- QUANTITY. -/
def PollEntry.quantity (e : PollEntry) : Nat := le e.cfg 8 2
/-- RETRIES. -/
def PollEntry.retries (e : PollEntry) : Nat := byteAt e.cfg 0x0A
/-- SRC_PDU. -/
def PollEntry.src (e : PollEntry) : Nat := le e.cfg 0x16 2
/-- DATA_DST. -/
def PollEntry.dataDst (e : PollEntry) : Nat := le e.cfg 0x18 2

/-- n bytes of a destination PDU's content; bytes the content does not have are free values, since the spec does not give them
(log 57). -/
def Dev.pollData (d : Dev) (pdu n : Nat) : Bytes × Dev :=
  let c := match tabFind d.gateway.dsts pdu with
    | some q => q.content.take n
    | none => []
  let more := (List.range (n - c.length)).map (fun i => BitVec.ofNat 8 (Config.freeNat (d.freeIx + i)))
  (c ++ more, { d with freeIx := d.freeIx + (n - c.length) })

/-- A request's bytes with its CRC, low byte first (R251, R252). -/
def Dev.pollRequest (d : Dev) (e : PollEntry) : Bytes × Dev :=
  let head := beb 1 e.slave ++ beb 1 e.function ++ beb 2 (le e.cfg 6 2)
  let r := match e.function with
    | 0x06 =>
      let x := d.pollData e.dataDst 2
      (head ++ x.1, x.2)
    | 0x10 =>
      let x := d.pollData e.dataDst (2 * e.quantity)
      (head ++ beb 2 e.quantity ++ beb 1 (2 * e.quantity) ++ x.1, x.2)
    | 0x00 =>
      let x := d.pollData e.dataDst e.quantity
      (beb 1 e.slave ++ x.1, x.2)
    | _ => (head ++ beb 2 e.quantity, d)
  (r.1 ++ leb 2 (crc16 r.1), r.2)

/-- POLL_DUE (R250): a periodic entry falls due; one still waiting is due once, the miss counted. A sleeping channel's due times
only count (R349). -/
def pollDue (e : Nat) (d : Dev) : Dev :=
  match tabFind d.gateway.polls e with
  | none => d
  | some q =>
    match q.period with
    | none => d
    | some (c, p) =>
      if d.now < q.nextDue then d
      else
        let d1 := d.putGateway { d.gateway with
          polls := tabUpd d.gateway.polls e (fun x => { x with nextDue := gridFrom p c (d.now + 1) }) }
        let ch := d.serialCh q.channel
        if ch.mode != 1 then d1
        else if d.portSleeping (serialPort q.channel) || ch.due.any (fun x => x.2 == e) then d1.count 8 8207
        else d1.modSerial q.channel (fun x => { x with due := x.due ++ [(q.nextDue, e)] })

/-- POLL_DUE. -/
def execPollDue (entry : Nat) (s : State) : Out := onDev (pollDue entry) s

/-- The waiting periodic entry that starts next: the earliest due time, of equal ones the lower index. -/
def nextPeriodic (l : List (Nat × Nat)) : Option (Nat × Nat) :=
  l.foldl (fun b x => match b with
    | none => some x
    | some y => if x.1 < y.1 ∨ (x.1 = y.1 ∧ x.2 < y.2) then some x else some y) none

/-- The transaction a channel starts next, and the channel with it taken from its queue: a retry, on-demand entries in request
order, periodic ones by due time (R250, R251). -/
def SerialCh.nextTxn (c : SerialCh) (up : Nat) : Option (PollTxn × SerialCh) :=
  match c.retry with
  | some t => some ({ t with attempt := t.attempt + 1 }, { c with retry := none })
  | none =>
    match c.onDemand with
    | e :: rest => some ({ entry := e, onDemand := true, attempt := 1, deadline := 0, started := up }, { c with onDemand := rest })
    | [] =>
      match nextPeriodic c.due with
      | some x =>
        some ({ entry := x.2, onDemand := false, attempt := 1, deadline := 0, started := up }, { c with due := c.due.erase x })
      | none => none

/-- POLL_TRANSACTION_START (R250, R251): the request is sent, the response timer runs from its last stop bit. -/
def pollStart (s : Nat) (d : Dev) : Dev :=
  let c := d.serialCh s
  if c.mode != 1 || c.txn.isSome || decide (d.uptime < c.readyAt) || d.portSleeping (serialPort s) || !d.mayDrive then d
  else
    match c.nextTxn d.uptime with
    | none => d
    | some (t, c') =>
      let d1 := d.putGateway { d.gateway with serial := tabPut d.gateway.serial s c' }
      match tabFind d1.gateway.polls t.entry with
      | none => d1
      | some e =>
        if e.channel != s then d1
        else
          let r := d1.pollRequest e
          let d2 := r.2.serialSend s r.1 false
          let ends := (d2.serialCh s).txUntil
          (d2.modSerial s (fun c => { c with txn := some { t with deadline := ends + ms (le e.cfg 0x14 2) } })).holdPort (serialPort s)

/-- POLL_TRANSACTION_START. -/
def execPollTransactionStart (ch : Nat) (s : State) : Out := onDev (pollStart ch) s

/-- A channel takes a configuration: one that leaves raw mode drops the characters it holds. -/
def SerialCh.takeCfg (c : SerialCh) (bs : Bytes) : SerialCh :=
  { c with
    cfg := bs, nextCfg := none
    rx := if byteAt bs 1 == 2 then c.rx else []
    brk := if byteAt bs 1 == 2 then c.brk else false
    due := if byteAt bs 1 == 1 then c.due else [] }

/-- A channel's attempt is over; the next starts INTER_POLL_US later. With the transaction's last one a new configuration is taken. -/
def Dev.pollFree (d : Dev) (s : Nat) (retry : Option PollTxn) : Dev :=
  d.modSerial s (fun c =>
    let c1 := { c with txn := none, retry := retry, readyAt := d.uptime + le c.cfg 0x0C 4 * 1000 }
    match retry, c1.nextCfg with
    | none, some bs => c1.takeCfg bs
    | _, _ => c1)

/-- A poll has failed for good: GW_POLL_FAIL, at most once per second per entry; an on-demand poll of a legal PDU reports its
status to Cask (R251, R293). -/
def Dev.pollFail (d : Dev) (t : PollTxn) (e : PollEntry) (why : Nat) : Dev :=
  let d1 := d.postLimited 0x0803 t.entry t.entry why
  match tabFind d1.gateway.srcs e.src with
  | some q =>
    if q.legal && t.onDemand then
      d1.deliverLegal e.src d1.uptime true (some t.started)
        { bytes := [], arrival := d1.now, ok := false, quality := d1.qualityNow, errNs := d1.errNs, committed := d1.uptime }
    else d1
  | none => d1

/-- An attempt has failed by timeout (1) or an invalid reply (2): it is retried up to RETRIES times. -/
def Dev.pollAttemptFailed (d : Dev) (s : Nat) (t : PollTxn) (e : PollEntry) (why : Nat) : Dev :=
  let d1 := d.count 8 (1152 + t.entry * 4 + why)
  if t.attempt ≤ e.retries then d1.pollFree s (some t) else (d1.pollFree s none).pollFail t e why

/-- The bytes a valid reply delivers; none for an invalid one (R251 steps 4 and 7, R252). Of an echo, the four bytes after the
function code (log 58). -/
def replyData (e : PollEntry) (bs : Bytes) : Option Bytes :=
  let n := bs.length
  if e.function == 0 then some ((bs.drop 1).take (n - 3))
  else if byteAt bs 1 != e.function then none
  else if e.function == 3 || e.function == 4 then
    (if n == 5 + 2 * e.quantity && byteAt bs 2 == 2 * e.quantity then some ((bs.drop 3).take (2 * e.quantity)) else none)
  else if n == 8 then some ((bs.drop 2).take 4) else none

/-- The reply is framed well: CRC, slave address, t1.5; all but a RAW one have a function code (R251, R252). -/
def replyFramed (e : PollEntry) (bs : Bytes) (gapError : Bool) : Bool :=
  !gapError && decide ((if e.function == 0 then 3 else 4) ≤ bs.length) && byteAt bs 0 == e.slave &&
  crc16 (bs.take (bs.length - 2)) == le bs (bs.length - 2) 2

/-- A valid reply's reception. -/
def Dev.pollDelivers (d : Dev) (t : PollTxn) (e : PollEntry) (data : Bytes) : Dev :=
  let d1 := d.count 8 (1152 + t.entry * 4)
  if e.src == noPdu then d1
  else d1.receive { d1.reception e.src data d1.now with started := if t.onDemand then some t.started else none }

/-- A character of a Modbus reply: its value, and the silence on the line before it, in ns (R249). -/
structure ReplyChar where
  value : Nat
  idle : Nat
  deriving DecidableEq, Repr

/-- A reply's characters, from their values and the silences before them. -/
def replyChars (bytes : Bytes) (idles : List Nat) : List ReplyChar :=
  bytes.zipIdx.map (fun x => { value := x.1.toNat, idle := idles.getD x.2 0 })

/-- The characters of the frame that a t3.5 silence has just ended: those after the last such silence among them (R249). -/
def lastFrame (t35 : Nat) (l : List ReplyChar) : List ReplyChar :=
  l.foldl (fun acc x => if t35 ≤ x.idle then [x] else acc ++ [x]) []

/-- The characters of a frame whose gap ends at `up` that were not read while SL_DE was high (R246): a character ends as those after it,
their silences and t3.5 before `up`. -/
def SerialCh.heard (c : SerialCh) (up : Nat) : List ReplyChar → List ReplyChar
  | [] => []
  | x :: t =>
    let after := (t.map (fun y => y.idle)).sum + c.charsNs t.length + c.t35
    if c.driving (up - after) then c.heard up t else x :: c.heard up t

/-- A silence longer than t1.5 inside the frame makes it invalid (R249). -/
def SerialCh.gapError (c : SerialCh) (l : List ReplyChar) : Bool := (l.drop 1).any (fun x => decide (c.t15 < x.idle))

/-- POLL_REPLY_RECEIVED: judged in the tick its t3.5 gap completes (R249, R251). A reply to no transaction is unsolicited. -/
def pollReply (s : Nat) (chars : List ReplyChar) (d : Dev) : Dev :=
  let c := d.serialCh s
  let frame := c.heard d.uptime (lastFrame c.t35 chars)
  if 8 ≤ s || c.mode != 1 || d.portSleeping (serialPort s) || frame.isEmpty then d
  else
    let bs := frame.map (fun x => BitVec.ofNat 8 x.value)
    let d1 := ((d.countN 8 (1024 + s * 16) bs.length).countSl s 2).portKeepAlive (serialPort s)
    match c.txn with
    | none => d1.unsolicited s
    | some t =>
      match tabFind d1.gateway.polls t.entry with
      | none => d1.pollFree s none
      | some e =>
        if d.overBus t.deadline || e.slave == 0 then d1.unsolicited s
        else if !replyFramed e bs (c.gapError frame) then d1.pollAttemptFailed s t e 2
        else if e.function != 0 && byteAt bs 1 == e.function + 0x80 && bs.length == 5 then
          ((d1.count 8 (1152 + t.entry * 4 + 3)).pollFree s none).pollFail t e (3 + byteAt bs 2 * 256)
        else match replyData e bs with
          | none => d1.pollAttemptFailed s t e 2
          | some data => (d1.pollFree s none).pollDelivers t e data

/-- POLL_REPLY_RECEIVED. -/
def execPollReplyReceived (ch : Nat) (bytes : Bytes) (idles : List Nat) (s : State) : Out := onDev (pollReply ch (replyChars bytes idles)) s

/-- POLL_RESPONSE_TIMEOUT: a broadcast ends with its timer; any other attempt has timed out. -/
def pollTimeout (s : Nat) (d : Dev) : Dev :=
  match (d.serialCh s).txn with
  | none => d
  | some t =>
    if !d.overBus t.deadline then d
    else match tabFind d.gateway.polls t.entry with
      | none => d.pollFree s none
      | some e => if e.slave == 0 then d.pollFree s none else d.pollAttemptFailed s t e 1

/-- POLL_RESPONSE_TIMEOUT. -/
def execPollResponseTimeout (ch : Nat) (s : State) : Out := onDev (pollTimeout ch) s

end Sys2Proof.Machine
end

