-- ==== Sys2Proof/Machine/GatewayCmds.lean ====
section
/-! DEFINITION. The gateway commands (chapter 09): their staging checks, what COMMIT applies and refuses, and the immediate
commands. -/

namespace Sys2Proof.Machine

open Sys2Proof

/-! ## Legal protection (R259) -/

/-- The device is SEALED. -/
def Dev.sealed (d : Dev) : Bool := d.keep.lifecycle == 3

/-- A legal source PDU satisfies a test. -/
def Dev.legalAny (d : Dev) (f : Nat → SrcPdu → Bool) : Bool := d.gateway.srcs.any (fun q => q.2.legal && f q.1 q.2)

/-- The poll entry feeds a source PDU: it is its key, or the entry names it. -/
def Dev.feeds (d : Dev) (e i : Nat) (q : SrcPdu) : Bool :=
  q.kind == 1 && (q.key % 1024 == e || (match tabFind d.gateway.polls e with | some x => x.src == i | none => false))

/-- A command that R259 reserves to the signed update in SEALED. -/
def Dev.legalReserved (d : Dev) (op : Nat) (bs : Bytes) : Bool :=
  match op with
  | 0x0801 => d.legalAny (fun _ q => q.kind == 0 && q.channel == byteAt bs 0)
  | 0x0803 => d.legalAny (fun i q => d.gateway.polls.any (fun e => e.2.channel == byteAt bs 0 && d.feeds e.1 i q))
  | 0x0804 => d.legalAny (fun i q => d.feeds (le bs 0 2) i q)
  | 0x0805 => bit (byteAt bs 4) 0 || d.legalAny (fun i _ => i == le bs 0 2)
  | 0x0807 => d.legalAny (fun _ q =>
      decide (le bs 0 4 < q.firstRoute + q.routes) && decide (q.firstRoute < le bs 0 4 + le bs 4 2))
  | _ => false

/-- A gateway command's staging check with R259 after its own. -/
def withLegal (op : Nat) (check : Dev → Bytes → Nat) (d : Dev) (bs : Bytes) : Nat :=
  let st := check d bs
  if st == stOk && d.sealed && d.legalReserved op bs then stNotPermitted else st

/-! ## GW_CAN_CFG -/

/-- Timing fields of MODE other than off satisfy R232's checks. -/
def canTimingOk (bs : Bytes) : Bool :=
  let nq := le bs 2 2 * (1 + le bs 4 2 + byteAt bs 6)
  let dq := byteAt bs 8 * (1 + byteAt bs 9 + byteAt bs 0x0A)
  layoutOk [fa 0 2, fr 2 2 1 256, fr 4 2 2 256, fr 6 1 1 128, fr 7 1 1 128, fa 8 24] bs &&
  decide (byteAt bs 7 ≤ byteAt bs 6) && decide (80 ≤ nq) &&
  (if bit (byteAt bs 1) 2 then
    layoutOk [fa 0 8, fr 8 1 1 32, fr 9 1 1 32, fr 0x0A 1 1 16, fr 0x0B 1 1 16, fa 0x0C 20] bs &&
    decide (byteAt bs 0x0B ≤ byteAt bs 0x0A) && decide (10 ≤ dq) && decide (dq ≤ nq)
   else allZero (slice bs 8 4))

/-- A PDU index or none. -/
def pduOrNone (v : Nat) : Bool := decide (v < 16384) || v == noPdu

/-- GW_CAN_CFG's fields. -/
def canCfgOk (bs : Bytes) : Bool :=
  (canTimingOk bs || (byteAt bs 1 % 4 == 0 && allZero (slice bs 2 13))) && pduOrNone (le bs 0x14 2) &&
  (byteAt bs 0x12 == 1 || le bs 0x14 2 == noPdu)

/-- GW_CAN_CFG's checks. -/
def checkCanCfg : Dev → Bytes → Nat :=
  withLegal 0x0801 (checkLayout 32
    [fr 0 1 0 31, fr 1 1 0 63, fa 2 10, fr 0x0C 1 0 1, fr 0x0D 1 0 127, fr 0x0E 1 0 127, fr 0x0F 1 0 31, fa 0x10 2, fr 0x12 1 0 1,
     fa 0x14 2] canCfgOk)

/-- GW_CAN_CFG. -/
def execGwCanCfg (rq : Req) (s : State) : Out := onDev (Dev.serveStaged 0x0801 rq checkCanCfg) s

/-- GW_CAN_CFG applied: on a change of timing or MODE the channel leaves the bus and reintegrates after 11 recessive bits, and its frame
in transmission waits again; bus-off and the error counters outlast the change (log 59). -/
def applyCanCfg (bs : Bytes) (d : Dev) : Dev :=
  d.modCan (byteAt bs 0) (fun c =>
    if slice c.cfg 1 14 == slice bs 1 14 then { c with cfg := bs }
    else
      let c' : CanCh := { c with
        cfg := bs, sending := none
        bufs := (match c.sending with | some t => [t] | none => []) ++ c.bufs }
      c'.startWait d.uptime)

/-! ## GW_CAN_FILTER -/

/-- Entry e of GW_CAN_FILTER: ID and MASK. -/
def canFilterEntry (bs : Bytes) (e : Nat) : Nat × Nat := (le bs (8 + 8 * e) 4, le bs (12 + 8 * e) 4)

/-- GW_CAN_FILTER's checks. -/
def checkCanFilter (_ : Dev) (bs : Bytes) : Nat :=
  let n := byteAt bs 2
  if bs.length < 8 ∨ bs.length ≠ 8 + 8 * n then stBadLength
  else if layoutOk [fr 0 1 0 31, fr 1 1 0 127, fr 2 1 1 128] (bs.take 8) && decide (byteAt bs 1 + n ≤ 128) &&
      (List.range n).all (fun e => decide ((canFilterEntry bs e).1 / 2 ^ 30 < 3) && decide ((canFilterEntry bs e).2 < 2 ^ 30)) then stOk
  else stBadParam

/-- GW_CAN_FILTER. -/
def execGwCanFilter (rq : Req) (s : State) : Out := onDev (Dev.serveStaged 0x0802 rq checkCanFilter) s

/-- GW_CAN_FILTER applied. -/
def applyCanFilter (bs : Bytes) (d : Dev) : Dev :=
  d.modCan (byteAt bs 0) (fun c => { c with
    filters := (List.range (byteAt bs 2)).foldl (fun t e => tabPut t (byteAt bs 1 + e) (canFilterEntry bs e)) c.filters })

/-! ## GW_SERIAL_CFG -/

/-- GW_SERIAL_CFG's checks; what only raw mode reads may be 0 in the others (log 60). -/
def checkSerialCfg : Dev → Bytes → Nat :=
  withLegal 0x0803 (checkLayout 24
    [fr 0 1 0 7, fr 1 1 0 2, fr 2 1 0 31, fr 3 1 0 8, fr 4 4 1200 10000000, fr 8 1 0 8, fa 9 1, fr 0x0A 2 0 1400,
     fr 0x0C 4 0 1000000, fa 0x10 2]
    (fun bs =>
      byteAt bs 2 % 4 != 3 && pduOrNone (le bs 0x10 2) &&
      (if byteAt bs 1 == 2 then decide (3 ≤ byteAt bs 9) && decide (1 ≤ le bs 0x0A 2)
       else byteAt bs 9 == 0 || decide (3 ≤ byteAt bs 9))))

/-- GW_SERIAL_CFG. -/
def execGwSerialCfg (rq : Req) (s : State) : Out := onDev (Dev.serveStaged 0x0803 rq checkSerialCfg) s

/-- GW_SERIAL_CFG applied: after the transaction in progress. -/
def applySerialCfg (bs : Bytes) (d : Dev) : Dev :=
  d.modSerial (byteAt bs 0) (fun c => if c.txn.isSome || c.retry.isSome then { c with nextCfg := some bs } else c.takeCfg bs)

/-! ## GW_POLL_SET -/

/-- GW_POLL_SET's fields on a write. -/
def pollCfgOk (bs : Bytes) : Bool :=
  let f := byteAt bs 5
  let q := le bs 8 2
  let per := le bs 0x0C 4
  let dst := le bs 0x18 2
  let fq :=
    match f with
    | 0x03 => decide (1 ≤ q) && decide (q ≤ 125)
    | 0x04 => decide (1 ≤ q) && decide (q ≤ 125)
    | 0x06 => q == 1
    | 0x10 => decide (1 ≤ q) && decide (q ≤ 123)
    | 0x00 => decide (1 ≤ q) && decide (q ≤ 252)
    | _ => false
  fq && (byteAt bs 4 != 0 || f == 0x06 || f == 0x10) && pduOrNone (le bs 0x16 2) && pduOrNone dst &&
  (f == 3 || f == 4 || dst != noPdu) &&
  (if bit (byteAt bs 0x0B) 0 then decide (1 ≤ per) && decide (per ≤ 3600000) && decide (le bs 0x10 4 < per)
   else decide (per ≤ 3600000) && decide (le bs 0x10 4 ≤ per - 1))

/-- GW_POLL_SET's checks. -/
def checkPollSet : Dev → Bytes → Nat :=
  withLegal 0x0804 (checkOp 32 2 [fr 0 2 0 1023]
    [fr 3 1 0 7, fr 4 1 0 247, fa 5 1, fa 6 2, fa 8 2, fr 0x0A 1 0 3, fr 0x0B 1 0 1, fa 0x0C 4, fa 0x10 4, fr 0x14 2 1 10000, fa 0x16 2,
     fa 0x18 2] pollCfgOk)

/-- GW_POLL_SET. -/
def execGwPollSet (rq : Req) (s : State) : Out := onDev (Dev.serveStaged 0x0804 rq checkPollSet) s

/-- GW_POLL_SET applied. -/
def applyPollSet (bs : Bytes) (d : Dev) : Dev :=
  let i := le bs 0 2
  let e : PollEntry := { cfg := bs, nextDue := 0 }
  let first := match e.period with
    | some (c, p) => gridFrom p c d.now
    | none => 0
  let polls := if byteAt bs 2 == 1 then tabDel d.gateway.polls i else tabPut d.gateway.polls i { e with nextDue := first }
  d.putGateway { d.gateway with polls := polls }

/-! ## GW_SRC_PDU_SET -/

/-- GW_SRC_PDU_SET's fields on a write. -/
def srcCfgOk (bs : Bytes) : Bool :=
  let k := byteAt bs 3
  let len := le bs 6 2
  let key := le bs 8 8
  let to_ := le bs 0x1C 4
  let buses := slice bs 0x20 64
  (to_ == 0 || (decide (100 ≤ to_) && decide (to_ ≤ 60000000))) && (byteAt bs 4 == 0 || decide (k < 2)) &&
  (k == 0 || (byteAt bs 5 == 0 && le bs 0x1A 2 == noPdu)) && (k == 2 || allZero (slice bs 0x10 4)) &&
  (if k == 3 then (List.range 32).all (fun b => pduOrNone (le bs (0x20 + 2 * b) 2)) else allZero buses) &&
  (match k with
   | 0 => decide (1 ≤ len) && decide (len ≤ 64) && decide (key < 2 ^ 30) && (bit key 29 || decide (key < 2 ^ 11)) &&
       pduOrNone (le bs 0x1A 2)
   | 1 => decide (1 ≤ len) && decide (len ≤ 256) && decide (key < 1024)
   | 2 => decide (1 ≤ len) && decide (len ≤ 256) && decide (key < 2 ^ 60) && decide (14 ≤ le bs 0x12 2) && decide (le bs 0x12 2 ≤ 9000)
   | _ => len == 0) &&
  (if k == 3 then decide (1 ≤ le bs 0x18 2) && decide (le bs 0x18 2 ≤ 64) else decide (le bs 0x18 2 ≤ 4096))

/-- GW_SRC_PDU_SET's checks. -/
def checkSrcPdu : Dev → Bytes → Nat :=
  withLegal 0x0805 (checkOp 96 2 [fr 0 2 0 16383]
    [fr 3 1 0 3, fr 4 1 0 1, fr 5 1 0 31, fa 6 2, fa 8 8, fa 0x10 4, fr 0x14 4 0 262143, fa 0x18 8, fa 0x20 64] srcCfgOk)

/-- GW_SRC_PDU_SET. -/
def execGwSrcPduSet (rq : Req) (s : State) : Out := onDev (Dev.serveStaged 0x0805 rq checkSrcPdu) s

/-- The reception timers of the PDUs a transaction has written start at its flip (R258), for those not received since. -/
def startSrcTimers (l : List Staged) (d : Dev) : Dev :=
  l.foldl (fun e c =>
    if c.opcode == 0x0805 then
      e.modSrc (le c.data 0 2) (fun q => if q.received || q.deadline.isSome then q else { q with deadline := q.timerFrom e.uptime })
    else e) d

/-- GW_SRC_PDU_SET applied: the PDU has not been received; its timer starts at the commit's flip. -/
def applySrcPdu (bs : Bytes) (d : Dev) : Dev :=
  let i := le bs 0 2
  let q : SrcPdu :=
    { cfg := bs, content := [], time := 0, received := false, timedOut := false, deadline := none, acfSeq := none }
  let srcs := if byteAt bs 2 == 1 then tabDel d.gateway.srcs i
    else tabPut d.gateway.srcs i q
  d.putGateway { d.gateway with srcs := srcs }

/-! ## GW_DST_PDU_SET -/

/-- A valid CAN data length. -/
def canLen (n : Nat) : Bool := decide (n ≤ 8) || [12, 16, 20, 24, 32, 48, 64].contains n

/-- GW_DST_PDU_SET's fields on a write. -/
def dstCfgOk (bs : Bytes) : Bool :=
  let k := byteAt bs 3
  let ch := byteAt bs 5
  let len := le bs 6 2
  let key := le bs 8 4
  let cyc := le bs 0x0C 4
  let tl := le bs 0x1A 2
  let acf := le bs 0x1C 4
  let templated := k == 1 || k == 2 || k == 5
  (cyc == 0 || (decide (100 ≤ cyc) && decide (cyc ≤ 60000000))) && decide (le bs 0x10 4 < max cyc 1) &&
  (!bit (byteAt bs 4) 0 || cyc != 0) &&
  (if k == 0 || k == 3 then decide (ch ≤ 31) else if k == 5 then decide (ch ≤ 7) else ch == 0) &&
  (match k with
   | 0 => canLen len && (bit key 30 || decide (len ≤ 8)) && (bit key 29 || decide (key % 2 ^ 29 < 2 ^ 11))
   | 1 => decide (1 ≤ len) && decide (len ≤ 256)
   | 4 => decide (1 ≤ len) && decide (len ≤ 252) && decide (key < 1024)
   | _ => len == 0) &&
  (k == 0 || k == 4 || key == 0) &&
  (if k == 1 then decide (14 ≤ le bs 0x18 2) && decide (le bs 0x18 2 ≤ 9000) else le bs 0x18 2 == 0) &&
  (if templated then decide (14 ≤ tl) && decide (tl ≤ 64) else tl == 0) && allZero (slice bs (0x30 + tl) (64 - tl)) &&
  (if k == 2 then decide (1 ≤ bits acf 2 7) && decide (bits acf 2 7 ≤ 64) && bits acf 9 7 == 0
   else acf == 0 && le bs 0x20 8 == 0)

/-- GW_DST_PDU_SET's checks. -/
def checkDstPdu : Dev → Bytes → Nat :=
  checkOp 176 2 [fr 0 2 0 16383]
    [fr 3 1 0 5, fr 4 1 0 7, fa 5 1, fa 6 2, fa 8 4, fa 0x0C 4, fa 0x10 4, fr 0x14 4 0 60000000, fa 0x18 2, fr 0x1A 2 0 64, fa 0x1C 4,
     fa 0x20 8, fa 0x30 64, fa 0x70 64] dstCfgOk

/-- GW_DST_PDU_SET. -/
def execGwDstPduSet (rq : Req) (s : State) : Out := onDev (Dev.serveStaged 0x0806 rq checkDstPdu) s

/-- GW_DST_PDU_SET applied: content restarts from INIT. -/
def applyDstPdu (bs : Bytes) (d : Dev) : Dev :=
  let i := le bs 0 2
  let q : DstPdu :=
    { cfg := bs, content := [], lastSend := none, lastSendUp := 0, sentContent := [], deferred := none, nextCycle := 0, acfSeq := 0
      held := [], heldUntil := 0 }
  let next := match q.cycle with
    | some (c, p) => gridFrom p c d.now
    | none => 0
  let dsts := if byteAt bs 2 == 1 then tabDel d.gateway.dsts i
    else tabPut d.gateway.dsts i { q with content := q.init, nextCycle := next }
  d.putGateway { d.gateway with dsts := dsts }

/-! ## GW_ROUTE_SET and GW_SCALE_SET -/

/-- Route r of GW_ROUTE_SET: 96 bits. -/
def routeAt (bs : Bytes) (r : Nat) : Nat := le bs (8 + 12 * r) 12

/-- A route entry's ranges. -/
def routeOk (v : Nat) : Bool :=
  let r := routeOf v
  v % 2 ^ 28 == 0 && decide (1 ≤ r.srcLen) && decide (r.srcLen ≤ 32) && decide (1 ≤ r.dstLen) && decide (r.dstLen ≤ 32)

/-- GW_ROUTE_SET's checks. -/
def checkRouteSet : Dev → Bytes → Nat :=
  withLegal 0x0807 (fun _ bs =>
    let n := le bs 4 2
    if bs.length < 8 ∨ bs.length ≠ 8 + 12 * n then stBadLength
    else if layoutOk [fr 0 4 0 262143, fr 4 2 1 65535] (bs.take 8) && decide (le bs 0 4 + n ≤ 262144) &&
        (List.range n).all (fun r => routeOk (routeAt bs r)) then stOk
    else stBadParam)

/-- GW_ROUTE_SET. -/
def execGwRouteSet (rq : Req) (s : State) : Out := onDev (Dev.serveStaged 0x0807 rq checkRouteSet) s

/-- GW_ROUTE_SET applied. -/
def applyRouteSet (bs : Bytes) (d : Dev) : Dev :=
  d.putGateway { d.gateway with
    routes := (List.range (le bs 4 2)).foldl (fun t r => tabPut t (le bs 0 4 + r) (routeAt bs r)) d.gateway.routes }

/-- GW_SCALE_SET's checks. -/
def checkScaleSet : Dev → Bytes → Nat :=
  checkLayout 24 [fr 0 2 1 8191, fa 4 4, fa 8 4, fa 0x0C 4, fa 0x10 4, fa 0x14 4]
    (fun bs => decide (signed 32 (le bs 0x0C 4) ≤ signed 32 (le bs 0x10 4)))

/-- GW_SCALE_SET. -/
def execGwScaleSet (rq : Req) (s : State) : Out := onDev (Dev.serveStaged 0x0808 rq checkScaleSet) s

/-- GW_SCALE_SET applied. -/
def applyScaleSet (bs : Bytes) (d : Dev) : Dev :=
  let v := fun (o : Nat) => signed 32 (le bs o 4)
  d.putGateway { d.gateway with
    scales := tabPut d.gateway.scales (le bs 0 2) { factor := v 4, offset := v 8, min := v 0x0C, max := v 0x10, subst := v 0x14 } }

/-- A gateway command applied. -/
def applyGateway (c : Staged) (d : Dev) : Dev :=
  match c.opcode with
  | 0x0801 => applyCanCfg c.data d
  | 0x0802 => applyCanFilter c.data d
  | 0x0803 => applySerialCfg c.data d
  | 0x0804 => applyPollSet c.data d
  | 0x0805 => applySrcPdu c.data d
  | 0x0806 => applyDstPdu c.data d
  | 0x0807 => applyRouteSet c.data d
  | 0x0808 => applyScaleSet c.data d
  | _ => d

/-! ## Commit-time checks, in the table's order -/

/-- A staged command writes an object of an indexed table. -/
def sets (op i : Nat) (c : Staged) : Bool := c.opcode == op && le c.data 0 2 == i

/-- A staged GW_ROUTE_SET writes a route. -/
def setsRoute (r : Nat) (c : Staged) : Bool :=
  c.opcode == 0x0807 && decide (le c.data 0 4 ≤ r) && decide (r < le c.data 0 4 + le c.data 4 2)

/-- Two source PDUs with one kind and key. -/
def gwTwice (g : Gateway) (b : Batch) : Option Refused :=
  g.srcs.findSome? (fun x =>
    (g.srcs.find? (fun y => decide (x.1 < y.1) && y.2.kind == x.2.kind && y.2.key == x.2.key &&
      (x.2.kind != 0 || y.2.channel == x.2.channel))).bind (fun y =>
        conflict 8 x.1 ((b.last (sets 0x0805 y.1)).or (b.last (sets 0x0805 x.1)))))

/-- A destination PDU of a kind (none: of any). -/
def Gateway.dstIs (g : Gateway) (kind : Option Nat) (i : Nat) : Bool :=
  match tabFind g.dsts i with
  | some q => match kind with
    | some k => q.kind == k
    | none => true
  | none => false

/-- A source PDU of a kind. -/
def Gateway.srcIs (g : Gateway) (kind i : Nat) : Bool :=
  match tabFind g.srcs i with
  | some q => q.kind == kind
  | none => false

/-- The staged command that names a missing object, or that deletes it. -/
def namer (b : Batch) (names : Staged → Bool) (op i : Nat) : Option Nat := (b.last names).or (b.last (sets op i))

/-- The routes of a source PDU that are written, with their indices. -/
def Gateway.routesIn (g : Gateway) (q : SrcPdu) : List (Nat × Route) :=
  (g.routes.filter (fun r => decide (q.firstRoute ≤ r.1) && decide (r.1 < q.firstRoute + q.routes))).map
    (fun (r : Nat × Nat) => (r.1, routeOf r.2))

/-- Indices of staged commands at fault because something named is not configured or of another kind. -/
def gwMissing (g : Gateway) (b : Batch) : List Nat :=
  let need := fun (ok : Bool) (names : Staged → Bool) (op i : Nat) => if ok then [] else (namer b names op i).toList
  let cans := g.can.flatMap (fun x =>
    if byteAt x.2.cfg 0x12 == 1 then
      need (g.dstIs (some 2) (le x.2.cfg 0x14 2)) (fun c => c.opcode == 0x0801 && byteAt c.data 0 == x.1) 0x0806 (le x.2.cfg 0x14 2)
    else [])
  let serials := g.serial.flatMap (fun x =>
    let i := le x.2.cfg 0x10 2
    if x.2.cfg == zeros 24 || i == noPdu then []
    else need (g.dstIs (some 5) i) (fun c => c.opcode == 0x0803 && byteAt c.data 0 == x.1) 0x0806 i)
  let polls := g.polls.flatMap (fun x =>
    (if x.2.src == noPdu then [] else need (g.srcIs 1 x.2.src) (sets 0x0804 x.1) 0x0805 x.2.src) ++
    (if x.2.dataDst == noPdu then [] else need (g.dstIs (some 4) x.2.dataDst) (sets 0x0804 x.1) 0x0806 x.2.dataDst))
  let srcs := g.srcs.flatMap (fun x =>
    let q := x.2
    (if q.kind == 1 then need (tabHas g.polls (q.key % 1024)) (sets 0x0805 x.1) 0x0804 (q.key % 1024) else []) ++
    (if q.kind == 0 && q.tunnel != noPdu then need (g.dstIs (some 2) q.tunnel) (sets 0x0805 x.1) 0x0806 q.tunnel else []) ++
    (if q.kind == 3 then (List.range 32).flatMap (fun n =>
      if q.busDst n == noPdu then [] else need (g.dstIs (some 3) (q.busDst n)) (sets 0x0805 x.1) 0x0806 (q.busDst n)) else []) ++
    (g.routesIn q).flatMap (fun r =>
      let names := fun (c : Staged) => setsRoute r.1 c || sets 0x0805 x.1 c
      need (g.dstIs none r.2.dst) names 0x0806 r.2.dst ++
      (if r.2.scale == 0 then [] else need (tabHas g.scales r.2.scale) names 0x0808 r.2.scale)))
  let dsts := g.dsts.flatMap (fun x =>
    if x.2.kind == 4 then need (tabHas g.polls (x.2.key % 1024)) (sets 0x0806 x.1) 0x0804 (x.2.key % 1024) else [])
  cans ++ serials ++ polls ++ srcs ++ dsts

/-- The lowest of some staging indices, as a refusal. -/
def refuseFirst (status : Nat) (l : List Nat) : Option Refused :=
  match l with
  | [] => none
  | i :: t => refuseAt status (some (t.foldl min i))

/-- Routes whose bits leave their PDUs (R254), that substitute from no scale entry, and ranges past the table's end. -/
def gwRoutes (g : Gateway) (b : Batch) (bad : SrcPdu → Route → Bool) : List Nat :=
  g.srcs.flatMap (fun x => (g.routesIn x.2).flatMap (fun r =>
    if bad x.2 r.2 then
      ((b.last (setsRoute r.1)).or ((b.last (sets 0x0805 x.1)).or (b.last (sets 0x0806 r.2.dst)))).toList
    else []))

/-- The bits of a route leave its source or its destination PDU. -/
def routeOutside (g : Gateway) (q : SrcPdu) (r : Route) : Bool :=
  match tabFind g.dsts r.dst with
  | some t => !bitsWithin r.srcBits q.len || !bitsWithin r.dstBits t.len
  | none => false

/-- Urgent cost of a source PDU in ns (R260). -/
def urgentCost (q : SrcPdu) : Nat := if q.kind == 3 then 250 + 100 * q.maxMsgs else 250 + 50 * q.routes

/-- The urgent cost over 4,000 ns (R260). -/
def gwUrgent (d' : Dev) (b : Batch) : Option Refused :=
  let urgent := d'.gateway.srcs.filter (fun x => d'.isUrgent x.2)
  if 4000 < (urgent.map (fun x => urgentCost x.2)).sum then
    refuseAt stNoResource ((b.last (fun c => c.opcode == 0x0805 && urgent.any (fun x => x.1 == le c.data 0 2))).or
      (b.last (fun c => c.opcode == 0x0805 || c.opcode == 0x0806 || c.opcode == 0x0807 || c.opcode == 0x0605)))
  else none

/-- The longest frame of a tunnel or encapsulation PDU, under R6. -/
def DstPdu.longest (g : Gateway) (q : DstPdu) : Nat :=
  if q.kind == 2 then
    let header := if bit (le q.cfg 0x1C 4) 0 then 24 else 12
    let message := if bit (le q.cfg 0x1C 4) 1 then 72 else 80
    max (q.template.length + header + message) (min 1518 (q.template.length + header + message * q.acfMax)) + 4
  else
    let cfg := (tabGet serialCh0 g.serial q.channel).cfg
    q.template.length + 18 + le cfg 0x0A 2 + 4

/-- The egress ports a template's frames are known to take: those of the scheduled stream they belong to, or of their static FDB
entry (log 61). -/
def templatePorts (d' : Dev) (q : DstPdu) : List Nat :=
  let g := gristL2 q.template
  match d'.identify g 94 with
  | some (_, e) => if e.kind == 1 then (List.range 50).filter (fun p => bit e.egressMask p) else []
  | none => []

/-- Tunnel and encapsulation frames over their egress MAX_FRAME. -/
def gwTemplates (d' : Dev) (b : Batch) : Option Refused :=
  d'.gateway.dsts.findSome? (fun x =>
    let q := x.2
    if (q.kind == 2 || q.kind == 5) && (templatePorts d' q).any (fun p => decide ((d'.port p).maxFrame < q.longest d'.gateway)) then
      refuseAt stNoResource ((b.last (sets 0x0806 x.1)).or (b.last (fun c => c.opcode == 0x0201 || c.opcode == 0x0501 || c.opcode == 0x0803)))
    else none)

/-- The gateway conditions a commit is refused under, the first in the table's order. -/
def commitGateway (d' : Dev) (b : Batch) : Option Refused :=
  let g := d'.gateway
  let gw := b.any (fun x => x.2.opcode / 256 == 8)
  let conds :=
    if !gw then none
    else (gwTwice g b).or ((refuseFirst stNotFound (gwMissing g b)).or
      ((refuseFirst stBadParam (gwRoutes g b (routeOutside g))).or
      ((refuseFirst stBadParam (gwRoutes g b (fun _ r => r.sub == 1 && r.scale == 0))).or
      (refuseFirst stBadParam (g.srcs.flatMap (fun x =>
        if 262144 < x.2.firstRoute + x.2.routes then (b.last (sets 0x0805 x.1)).toList else []))))))
  let late := if gw || b.any (fun x => x.2.opcode == 0x0605 || x.2.opcode == 0x0201 || x.2.opcode == 0x0501) then
      (gwUrgent d' b).or (gwTemplates d' b) else none
  conds.or late

/-! ## Immediate commands -/

/-- GW_CAN_RECOVER (R240). -/
def gwCanRecover (rq : Req) (d : Dev) : Dev :=
  d.serve 0x0809 rq (rspMax 0) (fun d _ bs => withLayout d 4 [fr 0 1 0 31] bs
    (let k := byteAt bs 0
     if (d.canCh k).busOff then ansOk (d.modCan k (fun c => { c with boffDeadline := none, recovering := true })) []
     else ansErr d stWrongMode))

/-- GW_CAN_RECOVER. -/
def execGwCanRecover (rq : Req) (s : State) : Out := onDev (gwCanRecover rq) s

/-- GW_CAN_STATUS (R240). -/
def gwCanStatus (rq : Req) (d : Dev) : Dev :=
  d.serve 0x080A rq (rspMax 8) (fun d _ bs => withLayout d 4 [fr 0 1 0 31] bs
    (let c := d.canCh (byteAt bs 0)
     let st := if c.mode == 0 then 3 else if c.busOff then 2 else c.errState
     ansOk d (leb 1 st ++ leb 1 (min c.tec 255) ++ leb 1 (min c.recCnt 255) ++ leb 1 c.tdcv ++
       leb 1 (c.bufs.length + (if c.sending.isSome then 1 else 0)) ++ zeros 3)))

/-- GW_CAN_STATUS. -/
def execGwCanStatus (rq : Req) (s : State) : Out := onDev (gwCanStatus rq) s

/-- GW_SERIAL_STATUS (R245). -/
def gwSerialStatus (rq : Req) (d : Dev) : Dev :=
  d.serve 0x080B rq (rspMax 8) (fun d _ bs => withLayout d 4 [fr 0 1 0 7] bs
    (let c := d.serialCh (byteAt bs 0)
     let div := baudDiv (le c.cfg 4 4)
     let active := match c.txn.or c.retry with
       | some t => t.entry
       | none => 0xFFFF
     ansOk d (leb 4 (if div == 0 then 0 else 160000000 / div) ++ leb 2 active ++ leb 2 (c.onDemand.length + c.due.length))))

/-- GW_SERIAL_STATUS. -/
def execGwSerialStatus (rq : Req) (s : State) : Out := onDev (gwSerialStatus rq) s

/-- LENGTH of the PDU a GW_PDU_READ names. -/
def pduLength (d : Dev) (bs : Bytes) : Nat :=
  if byteAt bs 0 == 0 then (match tabFind d.gateway.srcs (le bs 2 2) with | some q => q.len | none => 0)
  else (match tabFind d.gateway.dsts (le bs 2 2) with | some q => q.len | none => 0)

/-- GW_PDU_READ's response. -/
def pduRecord (flags len time : Nat) (content : Bytes) : Bytes :=
  leb 1 flags ++ zeros 1 ++ leb 2 len ++ t80le time ++ zeros 6 ++ slice content 0 len

/-- GW_PDU_READ (R258). -/
def gwPduRead (rq : Req) (d : Dev) : Dev :=
  d.serve 0x080C rq (fun d bs => 20 + pduLength d bs) (fun d _ bs => withLayout d 4 [fr 0 1 0 1, fr 2 2 0 16383] bs
    (if byteAt bs 0 == 0 then
      (match tabFind d.gateway.srcs (le bs 2 2) with
       | some q => ansOk d (pduRecord (b2n q.timedOut + 2 * b2n q.legal + 4 * b2n (!q.received)) q.len q.time q.content)
       | none => ansErr d stNotFound)
     else
      (match tabFind d.gateway.dsts (le bs 2 2) with
       | some q => ansOk d (pduRecord (4 * b2n q.lastSend.isNone) q.len (q.lastSend.getD 0) q.content)
       | none => ansErr d stNotFound)))

/-- GW_PDU_READ. -/
def execGwPduRead (rq : Req) (s : State) : Out := onDev (gwPduRead rq) s

/-- GW_PDU_SEND (R257): the bytes are written and the PDU is sent in every mode. -/
def gwPduSend (rq : Req) (d : Dev) : Dev :=
  d.serve 0x080D rq (rspMax 0) (fun d _ bs =>
    let n := le bs 4 2
    if bs.length < 8 ∨ bs.length ≠ 8 + n then ansErr d stBadLength
    else if !layoutOk [fr 0 2 0 16383, fa 2 2, fr 4 2 0 256] (bs.take 8) then ansErr d stBadParam
    else
      let i := le bs 0 2
      match tabFind d.gateway.dsts i with
      | none => ansErr d stNotFound
      | some q =>
        if q.len < le bs 2 2 + n then ansErr d stBadParam
        else ansOk ((d.putContent i (patch q.content (le bs 2 2) (bs.drop 8))).wantSend i d.now) [])

/-- GW_PDU_SEND. -/
def execGwPduSend (rq : Req) (s : State) : Out := onDev (gwPduSend rq) s

/-- GW_POLL_NOW (R250). -/
def gwPollNow (rq : Req) (d : Dev) : Dev :=
  d.serve 0x080E rq (rspMax 0) (fun d _ bs => withLayout d 4 [fr 0 2 0 1023] bs
    (let i := le bs 0 2
     match tabFind d.gateway.polls i with
     | none => ansErr d stNotFound
     | some e =>
       if (d.serialCh e.channel).onDemand.contains i then ansErr d stBusy
       else if (d.serialCh e.channel).mode != 1 then ansErr d stWrongMode
       else ansOk (d.queuePoll i) []))

/-- GW_POLL_NOW. -/
def execGwPollNow (rq : Req) (s : State) : Out := onDev (gwPollNow rq) s

end Sys2Proof.Machine
end

