-- ==== Sys2Proof/Machine/Admission.lean ====
section
/-! DEFINITION. Deadline Admission (chapter 07): the bound of every path hop by hop, the report, and the admission commands.
Every term is computed exactly in ps and rounded up to a ns per hop (R193); an absent value has no bound. -/

namespace Sys2Proof.Machine

open Sys2Proof

/-! ## Notation -/

/-- KIND 1 streams by handle. -/
abbrev Scheds := List (Nat × Stream)

/-- The KIND 1 streams of a configuration: with a deadline or without, all of them count in every path (R190). -/
def Dev.scheds (d : Dev) : Scheds := d.streams.table.filter (fun x => x.2.kind == 1)

/-- Those of class c that leave at port p. -/
def schedsAt (ss : Scheds) (p c : Nat) : Scheds := ss.filter (fun (x : Nat × Stream) => x.2.tc == c && bit x.2.egressMask p)

/-- n_s(X): frames of a stream in any interval of X ns. -/
def framesIn (e : Stream) (x : Nat) : Nat := e.maxPer * (ceilDiv x e.intervalNs + 1)

/-- D_s: DEADLINE_NS, 10^9 for a stream without a deadline. -/
def deadlineOr (e : Stream) : Nat := if e.deadline == 0 then 1000000000 else e.deadline

/-- Cells of a stream's largest frame. -/
def schedCells (e : Stream) : Nat := ceilDiv e.maxLen 256

/-- A port's lowest permitted rate (R192). -/
def Dev.admRate (d : Dev) (p : Nat) : Nat := lowestRate p (d.port p)

/-- F_s at port p, in ps. -/
def Dev.schedPs (d : Dev) (p : Nat) (e : Stream) : Nat := wirePs (leaveLen e) (d.admRate p)

/-- The largest value of a list. -/
def largest (l : List Nat) : Nat := l.foldl max 0

/-! ## Belfry windows (R196 to R199) -/

/-- A window: its span in ticks of 4 ns, from where it starts, and the gate vectors of its parts. -/
structure AdmWindow where
  start : Nat
  len : Nat
  gates : List Nat
  deriving DecidableEq, Repr

/-- Maximal spans of a cycle in which gate c is open, the cycle's end not crossed. -/
def openRuns (c : Nat) : List (Nat × Nat × Nat × Nat × Nat) → Option AdmWindow → List AdmWindow
  | [], w => w.toList
  | x :: t, w =>
    if bit x.2.2.1 c then
      match w with
      | some v => openRuns c t (some { v with len := v.len + (x.2.1 - x.1), gates := v.gates ++ [x.2.2.1] })
      | none => openRuns c t (some { start := x.1, len := x.2.1 - x.1, gates := [x.2.2.1] })
    else w.toList ++ openRuns c t none

/-- The windows of class c in a list's cycle, one that crosses the cycle boundary counted as one span (R196). -/
def admWindows (l : GateList) (c : Nat) : List AdmWindow :=
  let runs := openRuns c l.spans none
  match runs, runs.getLast? with
  | r :: (_ :: _), some z =>
    if r.start == 0 && z.start + z.len == l.cycle then
      runs.tail.dropLast ++ [{ start := z.start, len := z.len + r.len, gates := z.gates ++ r.gates }]
    else runs
  | _, _ => runs

/-- A class k's longest non-preemptible transmission against class c at port p, in ps (R196). -/
def Dev.interferes (d : Dev) (ss : Scheds) (p c k : Nat) : Nat :=
  let q := d.preempt p
  if q.enable && !q.verify && bit q.expressMask c && d.isPreemptable p k then bitsPs ((143 + 64 * q.addFrag) * 8) (d.admRate p)
  else if k == 6 then largest ((schedsAt ss p 6).map (fun x => d.schedPs p x.2))
  else wirePs (d.port p).maxFrame (d.admRate p)

/-- I_j for the classes whose gates satisfy a test. -/
def Dev.interference (d : Dev) (ss : Scheds) (p c : Nat) (counts : Nat → Bool) : Nat :=
  largest (((List.range 8).filter (fun k => k != c && !(c == 6 && k == 7) && counts k)).map (d.interferes ss p c))

/-- The sum of n_s(T) x F_s over the streams of a class at a port, in ps. -/
def Dev.loadPs (d : Dev) (ss : Scheds) (p c t : Nat) : Nat :=
  ((schedsAt ss p c).map (fun x => framesIn x.2 t * d.schedPs p x.2)).sum

/-- What the window test finds of one gate list: T in ns, the largest w_j - I_j, U and Q_c in ps, and G_max in ns. -/
structure GateTest where
  t : Nat
  most : Nat
  usable : Nat
  load : Nat
  gap : Nat
  deriving DecidableEq, Repr

/-- The longest gap between the usable windows, cyclically, in ticks; the whole cycle without any. -/
def longestGap (cycle : Nat) (ws : List AdmWindow) : Nat :=
  match ws, ws.getLast? with
  | w :: _, some z =>
    largest (((ws.zip ws.tail).map (fun x => x.2.start - (x.1.start + x.1.len))) ++ [cycle + w.start - (z.start + z.len)])
  | _, _ => cycle

/-- The window test of class c at port p under one list (none: the port has no list in force); R198's reference cycle where
the gate is open throughout. -/
def Dev.gateTest (d : Dev) (ss : Scheds) (p c : Nat) (l : Option GateList) : GateTest :=
  let at_ := schedsAt ss p c
  let fc := largest (at_.map (fun x => d.schedPs p x.2))
  let vectors := match l with
    | none => [0xFF]
    | some x => x.spans.map (fun (y : Nat × Nat × Nat × Nat × Nat) => y.2.2.1)
  if vectors.all (fun v => bit v c) then
    let t := match at_ with
      | [] => 0
      | x :: rest => rest.foldl (fun (m : Nat) (y : Nat × Stream) => min m y.2.intervalNs) x.2.intervalNs
    let i := d.interference ss p c (fun k => vectors.all (fun v => bit v k))
    let x := if c == 6 && vectors.any (fun v => bit v 7) then d.loadPs ss p 7 t else 0
    { t := t, most := t * 1000 - i, usable := t * 1000 - i - x - fc, load := d.loadPs ss p c t, gap := 0 }
  else
    match l with
    | none => { t := 0, most := 0, usable := 0, load := 0, gap := 0 }
    | some y =>
      let t := y.ns
      let w := fun (v : AdmWindow) => v.len * 4000 - gateErrPs p
      let i := fun (v : AdmWindow) => d.interference ss p c (fun k => v.gates.any (fun g => bit g k))
      let q7 := d.loadPs ss p 7 t
      let u := fun (v : AdmWindow) =>
        w v - i v - (if c == 6 && v.gates.any (fun g => bit g 7) then q7 else 0) - fc
      let ws := admWindows y c
      { t := t, most := largest (ws.map (fun v => w v - i v)), usable := (ws.map u).sum, load := d.loadPs ss p c t
        gap := 4 * longestGap y.cycle (ws.filter (fun v => decide (0 < u v))) }

/-- Every list a port's paths are charged for: the one in force and those armed (R199). -/
def Dev.gateLists (d : Dev) (p : Nat) : List (Option GateList) :=
  let g := d.gates p
  (g.oper.map (fun x => x.1)) :: g.pending.map (fun x => x.1)

/-- The window tests of a port and class. -/
def Dev.gateTests (d : Dev) (ss : Scheds) (p c : Nat) : List GateTest := (d.gateLists p).map (d.gateTest ss p c)

/-- A stream fits the test's largest window. -/
def GateTest.fits (g : GateTest) (f : Nat) : Bool := decide (f ≤ g.most)

/-- CAPACITY holds. -/
def GateTest.carries (g : GateTest) : Bool := decide (g.load ≤ g.usable)

/-- The GATE hop in ps: 0 on internal egress, none where a test fails. -/
def Dev.gateHop (d : Dev) (ss : Scheds) (p c : Nat) : Option Nat :=
  if 50 ≤ p then some 0
  else
    let ts := d.gateTests ss p c
    if ts.all (fun g => g.carries && (schedsAt ss p c).all (fun x => g.fits (d.schedPs p x.2))) then
      some ((ts.map (fun g => (g.t + g.gap) * 1000)).sum)
    else none

/-! ## Matching, buffer and egress (R194, R195, R200) -/

/-- MATCHING in ps: the A x B slots of R100, with the slots classes above take. -/
def matchingPs (ss : Scheds) (e : Stream) (p : Nat) : Nat :=
  let c := e.tc
  let own := ss.filter (fun x => x.2.tc == c)
  let slices := ((schedsAt ss p c).map (fun x => sliceOf x.2.inPort)).eraseDups
  let named := fun (s : Nat) => ((List.range 96).filter (fun q =>
    own.any (fun x => sliceOf x.2.inPort == s && bit x.2.egressMask q))).length
  let hi := if c == 6 then
      ((ss.filter (fun x => x.2.tc == 7 && (bit x.2.egressMask p || sliceOf x.2.inPort == sliceOf e.inPort))).map
        (fun x => framesIn x.2 (deadlineOr e))).sum
    else 0
  (slices.length * largest (slices.map named) + hi) * 16000

/-- S_c of R195. -/
def bufferCells (ss : Scheds) (c : Nat) : Nat :=
  ((ss.filter (fun x => x.2.tc == c)).map (fun x => framesIn x.2 (deadlineOr x.2) * schedCells x.2)).sum

/-- The class's share holds its scheduled frames. -/
def Dev.shareHolds (d : Dev) (ss : Scheds) (c : Nat) : Bool := decide (bufferCells ss c ≤ d.fabric.share.getD c 0)

/-- EGRESS in ps. -/
def egressPs (ss : Scheds) (p c : Nat) : Nat :=
  if p < 10 then 320000
  else if p < 34 then 640000
  else if p < 50 then 1200000
  else
    let ahead := ((ss.filter (fun x => decide (c ≤ x.2.tc) && bit x.2.egressMask p)).map
      (fun x => framesIn x.2 (deadlineOr x.2) * schedCells x.2)).sum
    320000 + 8000 * (ahead + 36)

/-! ## Device-scheduled buses (R202, R241) -/

/-- The next valid data length of an FD frame (R241). -/
def fdLen (n : Nat) : Nat := if n ≤ 8 then n else ([12, 16, 20, 24, 32, 48].find? (fun v => decide (n ≤ v))).getD 64

/-- C of R241 for a frame of n bytes, in ps. -/
def canFramePs (cfg : Bytes) (n : Nat) (ext fd brs : Bool) : Nat :=
  let ta := (canBitPs cfg).1
  let td := if brs then (canBitPs cfg).2 else ta
  if fd then
    let v := fdLen n
    (if ext then 57 else 34) * ta + (5 + 8 * v + ceilDiv (5 + 8 * v) 4 + (if v ≤ 16 then 27 else 32)) * td
  else if ext then (67 + 8 * n + (53 + 8 * n) / 4) * ta
  else (47 + 8 * n + (33 + 8 * n) / 4) * ta

/-- C of a declared identifier of up to n bytes: the longest over the formats the channel can carry (log 31). -/
def declaredPs (cfg : Bytes) (n : Nat) (ext : Bool) : Nat :=
  max (if n ≤ 8 then canFramePs cfg n ext false false else 0)
    (if bit (byteAt cfg 1) 2 ∨ 8 < n then canFramePs cfg n ext true false else 0)

/-- The arbitration key of an identifier with IDE as bit 29. -/
def keyRank (key : Nat) : Nat :=
  arbKey { id := key % 2 ^ 29, ext := bit key 29, fd := false, brs := false, esi := false, rtr := false, data := [] }

/-- The spacing admission takes of a CAN destination PDU, in ns (R257): MIN_GAP_US, else CYCLE_US where MODE is CYCLIC alone,
else 0. -/
def DstPdu.spacing (q : DstPdu) : Nat :=
  let gap := le q.cfg 0x14 4 * 1000
  if gap ≠ 0 then gap else if byteAt q.cfg 4 % 8 == 1 then le q.cfg 0x0C 4 * 1000 else 0

/-- The identifiers on a declared channel other than those of key x: rank, C in ps, T in ns. The device's own enter by their
destination PDUs. -/
def Dev.busLoad (d : Dev) (k x : Nat) (data : Bytes) : List (Nat × Nat × Nat) :=
  let cfg := (d.canCh k).cfg
  let own := d.gateway.dsts.filter (fun q => q.2.kind == 0 && q.2.channel == k)
  let mine := (own.filter (fun q => q.2.key % 2 ^ 30 != x)).map (fun q =>
    (keyRank (q.2.key % 2 ^ 30), canFramePs cfg q.2.len (bit q.2.key 29) (bit q.2.key 30) (bit q.2.key 31 && bit q.2.key 30),
      q.2.spacing))
  let others := (busEntries data).filter (fun e => e.1 != x && !own.any (fun q => q.2.key % 2 ^ 30 == e.1))
  mine ++ others.map (fun e => (keyRank e.1, declaredPs cfg e.2.1 (bit e.1 29), e.2.2.2))

/-- One iteration of R202's fixed point. -/
def busIter (hp : List (Nat × Nat × Nat)) (clp tbit w : Nat) : Nat :=
  clp + (hp.map (fun j => ceilDiv (w + tbit) (j.2.2 * 1000) * j.2.1)).sum

/-- R202's iteration, which has no bound once it passes 10^9 ns. Each iteration that is not the last adds a frame of at least
47 us, so that 30,000 of them suffice. -/
def busFix (hp : List (Nat × Nat × Nat)) (clp tbit : Nat) : Nat → Nat → Option Nat
  | 0, _ => none
  | n + 1, w =>
    let v := busIter hp clp tbit w
    if 1000000000000 < v then none else if v = w then some w else busFix hp clp tbit n v

/-- BUS of a CN port for the identifier x, in ps. -/
def Dev.canBusPs (d : Dev) (k x : Nat) (data : Bytes) : Option Nat :=
  let l := d.busLoad k x data
  let hp := l.filter (fun j => decide (j.1 ≤ keyRank x))
  let clp := largest ((l.filter (fun j => decide (keyRank x < j.1))).map (fun j => j.2.1))
  if hp.any (fun j => j.2.2 == 0) then none else busFix hp clp (canBitPs (d.canCh k).cfg).1 30000 clp

/-- NODE_COUNT of a segment: the coordinator's own, or for a follower the highest declared node ID plus 1 (R202). -/
def segmentNodes (q : Port) (data : Bytes) : Nat :=
  if q.nodeId == 0 then q.nodeCount else largest ((busEntries data).map (fun e => e.1)) + 1

/-- BUS of a TS port in ps; none without PLCA, where the segment has no cycle. -/
def Dev.segmentPs (d : Dev) (p : Nat) (data : Bytes) : Option Nat :=
  let q := d.port p
  if !q.plcaEn then none
  else
    let others := ((busEntries data).map (fun e => e.2.2.1 * (e.2.1 + 8) * 8)).sum
    some ((20 + segmentNodes q data * q.toTimer + others + (1 + q.burstCount) * (q.maxFrame + 8) * 8) * 100000)

/-! ## Hops of a path -/

/-- A path's hops: code and value in ps, and the codes not covered. -/
structure Hops where
  hops : List (Nat × Option Nat)
  open_ : List Nat
  deriving DecidableEq, Repr

/-- Hops joined. -/
def Hops.then_ (a b : Hops) : Hops := { hops := a.hops ++ b.hops, open_ := a.open_ ++ b.open_ }

/-- The medium at the end of a path: the TS segment of port p, or the CN or SL port p with a destination PDU. A PDU that is no
CAN PDU of the channel names no identifier of it, and the hop has no bound (DESIGN CHOICE, log 32). -/
def Dev.busHop (d : Dev) (p pdu : Nat) : Hops :=
  match tabFind d.adm.buses p with
  | none => { hops := [], open_ := [7] }
  | some b =>
    let v :=
      if p < 50 then d.segmentPs p b.data
      else if p < 82 then
        match tabFind d.gateway.dsts pdu with
        | some q => if q.kind == 0 && q.channel == p - 50 then d.canBusPs (p - 50) (q.key % 2 ^ 30) b.data else none
        | none => none
      else (busEntries b.data).head?.map (fun e => e.2.2.2 * 1000)
    { hops := [(7, v)], open_ := [] }

/-- The hops of one stream to one egress port (R189). -/
def Dev.streamHops (d : Dev) (ss : Scheds) (e : Stream) (p : Nat) : Hops :=
  let ingress := if e.inPort < 50 then bitsPs ((e.maxLen + 8) * 8) (d.admRate e.inPort) else 0
  let buffer := if d.shareHolds ss e.tc && d.portMax p == 49152 then some 0 else none
  let base : Hops :=
    { hops := [(1, some ingress), (2, some 640000), (3, some (matchingPs ss e p)), (4, buffer), (5, d.gateHop ss p e.tc),
        (6, some (egressPs ss p e.tc))]
      open_ := if p == 90 then [10] else [] }
  if 34 ≤ p ∧ p < 50 then base.then_ (d.busHop p 0) else base

/-! ## Declared paths (R191, R201) -/

/-- The engine port of an ENGINE code. -/
def enginePort (eng : Nat) : Nat := if eng == 3 then 94 else 95

/-- A declared path's SOURCE and EGRESS. -/
def pathSource (bs : Bytes) : Nat := byteAt bs 8
def pathEgress (bs : Bytes) : Nat := byteAt bs 9
/-- Its DEADLINE_NS. -/
def pathDeadline (bs : Bytes) : Nat := le bs 4 4

/-- A stream entry of a handle. -/
def Dev.stream (d : Dev) (h : Nat) : Option Stream := tabFind d.streams.table h

/-- An engine step: ARBITER and ENGINE. -/
def Dev.engineHops (d : Dev) (eng obj requester : Nat) : Hops :=
  let limit := (tabGet requester0 d.arb.reqs requester).limit
  let v :=
    match tabFind d.cupola.groups obj with
    | some g =>
      if eng == 1 then (500 + (if isPacked g.cfg then 4 else 16) * g.leaves.length) * 1000
      else if eng == 2 then (windowNs g.cfg + 500) * 1000
      else 6000000
    | none => 6000000
  { hops := [(8, some ((limit + 1024) * 1250)), (9, some v)], open_ := [] }

/-- The segment at which a chain is malformed, counted from `i` (R191). An ENGINE 0 between two segments has no engine port, so
that no IN_PORT of the next stream is its port. -/
def Dev.chainFault (d : Dev) (egress : Nat) : Nat → List (Nat × Nat × Nat) → Option Nat
  | _, [] => none
  | i, [(h, eng, _)] =>
    let mask := match d.stream h with
      | some e => e.egressMask
      | none => 0
    if eng == 3 then (if decide (50 ≤ egress) && decide (egress < 90) && bit mask 94 then none else some i)
    else if eng == 0 then none
    else some i
  | i, (h, eng, _) :: (h2, e2, o2) :: t =>
    let mask := match d.stream h with
      | some e => e.egressMask
      | none => 0
    let next := match d.stream h2 with
      | some e => e.inPort
      | none => 0
    if eng == 0 || !bit mask (enginePort eng) then some i
    else if next != enginePort eng then some (i + 1)
    else d.chainFault egress (i + 1) ((h2, e2, o2) :: t)

/-- The hops of a chain to one final port; a segment after the first begins with an INGRESS of 0. -/
def Dev.chainHops (d : Dev) (ss : Scheds) (final : Nat) : Bool → List (Nat × Nat × Nat) → Hops
  | _, [] => { hops := [], open_ := [] }
  | first, (h, eng, obj) :: t =>
    match d.stream h with
    | none => { hops := [], open_ := [] }
    | some e =>
      let own := d.streamHops ss e (if t.isEmpty && eng == 0 then final else enginePort eng)
      let seg : Hops := if first then own else { own with hops := (1, some 0) :: own.hops.drop 1 }
      let step :=
        if eng == 0 then { hops := [], open_ := [] }
        else d.engineHops eng obj (if eng == 3 && t.isEmpty then 5 else eng + 1)
      let bus := if t.isEmpty && eng == 3 then d.busHop final obj else { hops := [], open_ := [] }
      ((seg.then_ step).then_ bus).then_ (d.chainHops ss final false t)

/-- The hops of a declared path to a final port, with SGE's step ahead of them where it names a SOURCE. -/
def Dev.pathHops (d : Dev) (ss : Scheds) (bs : Bytes) (final : Nat) : Hops :=
  let chain := d.chainHops ss final true (pathSegments bs)
  if pathSource bs == 0xFF then chain else (d.engineHops 3 0x10000 4).then_ chain

/-! ## Entries (R193, R205) -/

/-- A 32-bit field: all ones where there is no bound. -/
def orNone (v : Option Nat) : Nat := (v.map (fun x => min x 0xFFFFFFFF)).getD 0xFFFFFFFF

/-- A report entry with its sort key. -/
structure AdmEntry where
  kind : Nat
  hop : Nat
  port : Nat
  tc : Nat
  stream : Nat := 0xFFFF
  path : Nat := 0xFFFF
  segment : Nat := 0xFF
  bound : Option Nat := none
  deadline : Nat
  hopNs : Option Nat := none
  a : Nat := 0
  b : Nat := 0
  deriving DecidableEq, Repr

/-- The 32 bytes of an entry. -/
def AdmEntry.bytes (e : AdmEntry) : Bytes :=
  leb 1 e.kind ++ leb 1 e.hop ++ leb 1 e.port ++ leb 1 e.tc ++ leb 2 e.stream ++ leb 2 e.path ++ leb 1 e.segment ++ zeros 3 ++
  leb 4 (orNone e.bound) ++ leb 4 e.deadline ++ leb 4 (orNone e.hopNs) ++ leb 4 e.a ++ leb 4 e.b

/-- The order of R205: STREAM, PATH, PORT, KIND. -/
def AdmEntry.rank (e : AdmEntry) : Nat := ((e.stream * 65536 + e.path) * 256 + e.port) * 256 + e.kind

/-- Entries in order, equal ones as found. -/
def putEntry (e : AdmEntry) : List AdmEntry → List AdmEntry
  | [] => [e]
  | x :: t => if e.rank < x.rank then e :: x :: t else x :: putEntry e t

/-- A hop's value in whole ns (R193). -/
def hopNs (v : Option Nat) : Option Nat := v.map (fun x => ceilDiv x 1000)

/-- A path's bound in ns; none where a hop has none. -/
def Hops.bound (h : Hops) : Option Nat := h.hops.foldl (fun acc x => acc.bind (fun s => (hopNs x.2).map (fun v => s + v))) (some 0)

/-- The hop with the largest value: the first unbounded one, or the first of the largest. -/
def Hops.worst (h : Hops) : Nat × Option Nat :=
  match h.hops.find? (fun x => x.2.isNone) with
  | some x => (x.1, none)
  | none =>
    let m := largest (h.hops.map (fun x => (hopNs x.2).getD 0))
    (((h.hops.find? (fun x => hopNs x.2 == some m)).map (fun x => x.1)).getD 1, some m)

/-- The entries of one path: NOT_COVERED, BOUND and SUMMARY. A path without a bound by WINDOW, CAPACITY or BUFFER has no BOUND
entry of its own; one without a bound by its medium has. -/
def Hops.entries (h : Hops) (stream path port tc deadline : Nat) : List AdmEntry :=
  let b := h.bound
  let w := h.worst
  let open_ : List AdmEntry := h.open_.map (fun c =>
    { kind := 6, hop := c, port := port, tc := tc, stream := stream, path := path, bound := b, deadline := deadline })
  let medium := h.hops.any (fun x => x.2.isNone) && h.hops.all (fun x => x.2.isSome || x.1 == 7)
  let late : Bool := match b with
    | some v => decide (deadline < v)
    | none => medium
  let bound : AdmEntry :=
    { kind := 1, hop := w.1, port := port, tc := tc, stream := stream, path := path, bound := b, deadline := deadline, hopNs := w.2 }
  let slack := match b with
    | some v => unsigned 32 ((deadline : Int) - v)
    | none => 0
  open_ ++ (if late then [bound] else []) ++ [{ bound with kind := 0, a := slack }]

/-- WINDOW and CAPACITY entries of a port and class: one for each stream, from the first list it fails under; one for the
class. -/
def Dev.gateEntries (d : Dev) (ss : Scheds) (p c : Nat) : List AdmEntry :=
  let at_ := schedsAt ss p c
  if 50 ≤ p ∨ at_.isEmpty then []
  else
    let ts := d.gateTests ss p c
    let entry : Nat → Nat × Stream → Nat → Nat → AdmEntry := fun k x a b =>
      { kind := k, hop := 5, port := p, tc := c, stream := x.1, deadline := x.2.deadline
        a := ceilDiv a 1000 % 2 ^ 32, b := b / 1000 % 2 ^ 32 }
    let windows := at_.filterMap (fun x =>
      (ts.find? (fun g => !g.fits (d.schedPs p x.2))).map (fun g => entry 2 x (d.schedPs p x.2) g.most))
    let cap := match ts.find? (fun g => !g.carries), at_ with
      | some g, x :: _ => [entry 3 x g.load g.usable]
      | _, _ => []
    windows ++ cap

/-- The largest cell demand of a class: the lowest handle among equals. -/
def largestDemand : List (Nat × Stream) → Option (Nat × Stream)
  | [] => none
  | x :: t =>
    let cells := fun (y : Nat × Stream) => framesIn y.2 (deadlineOr y.2) * schedCells y.2
    match largestDemand t with
    | some z => if cells x < cells z then some z else some x
    | none => some x

/-- BUFFER entries. -/
def Dev.bufferEntries (d : Dev) (ss : Scheds) : List AdmEntry :=
  let entry : Nat → Nat × Stream → Nat → Nat → AdmEntry := fun p x a b =>
    { kind := 4, hop := 4, port := p, tc := x.2.tc, stream := x.1, deadline := x.2.deadline, a := a % 2 ^ 32, b := b }
  let shares := [6, 7].filterMap (fun c =>
    if d.shareHolds ss c then none
    else (largestDemand (ss.filter (fun x => x.2.tc == c))).map (fun x =>
      entry 0xFF x (bufferCells ss c) (d.fabric.share.getD c 0)))
  let ports := (List.range 96).filterMap (fun p =>
    if d.portMax p == 49152 then none
    else (ss.find? (fun x => bit x.2.egressMask p)).map (fun x => entry p x (d.portMax p) 49152))
  shares ++ ports

/-- The entries of a declared path. `hop` is the HOP of its PATH or RECIRC entry, which the spec does not state. -/
def Dev.pathEntries (d : Dev) (ss : Scheds) (hop i : Nat) (bs : Bytes) : List AdmEntry :=
  let segs := pathSegments bs
  let last := (segs.getLast?).bind (fun x => d.stream x.1)
  let tc := (last.map (fun e => e.tc)).getD 0
  let egress := pathEgress bs
  let bad : Nat → Nat → AdmEntry := fun k seg =>
    { kind := k, hop := hop, port := egress, tc := tc, path := i, segment := seg, deadline := pathDeadline bs }
  let recirc := (segs.zipIdx.filter (fun x => match d.stream x.1.1 with
    | some e => e.kind == 0
    | none => false)).map (fun x => bad 5 x.2)
  let source := decide (pathSource bs ≠ 0xFF) && (match segs.head?.bind (fun x => d.stream x.1) with
    | some e => e.inPort != 94
    | none => true)
  let faults := recirc ++ (match (if source then some 0 else d.chainFault egress 0 segs) with
    | some k => [bad 7 k]
    | none => [])
  if !faults.isEmpty then
    faults ++ [{ kind := 0, hop := hop, port := egress, tc := tc, path := i, deadline := pathDeadline bs }]
  else
    let finals :=
      if egress == 0xFF then (List.range 96).filter (fun p => match last with
        | some e => bit e.egressMask p
        | none => false)
      else [egress]
    let all := finals.map (fun p => (p, d.pathHops ss bs p))
    let rank := fun (x : Nat × Hops) => match x.2.bound with
      | some v => v
      | none => 2 ^ 64
    let worst := largest (all.map rank)
    match all.find? (fun x => rank x == worst) with
    | some x => x.2.entries 0xFFFF i x.1 tc (pathDeadline bs)
    | none => []

/-- The egress ports of a stream. -/
def egressPorts (e : Stream) : List Nat := (List.range 96).filter (fun p => bit e.egressMask p)

/-- The stream paths of R189. -/
def streamPaths (ss : Scheds) : List (Nat × Stream × Nat) :=
  (ss.filter (fun x => x.2.deadline != 0)).flatMap (fun x => (egressPorts x.2).map (fun p => (x.1, x.2, p)))

/-- Every entry of an evaluation, ordered. -/
def Dev.admEntries (d : Dev) (hop : Nat) : List AdmEntry :=
  let ss := d.scheds
  let gates := (List.range 50).flatMap (fun p => d.gateEntries ss p 6 ++ d.gateEntries ss p 7)
  let streams := (streamPaths ss).flatMap (fun x =>
    (d.streamHops ss x.2.1 x.2.2).entries x.1 0xFFFF x.2.2 x.2.1.tc x.2.1.deadline)
  let paths := d.adm.paths.flatMap (fun x => d.pathEntries ss hop x.1 x.2.data)
  (d.bufferEntries ss ++ gates ++ streams ++ paths).foldl (fun l e => putEntry e l) []

/-- KINDs that refuse: 1 to 5 and 7. -/
def refuses (bs : Bytes) : Bool := byteAt bs 0 != 0 && byteAt bs 0 != 6

/-- The evaluation of a configuration against a generation (R192, R205). -/
def Dev.evaluate (d : Dev) (generation hop : Nat) : AdmReport :=
  { paths := (streamPaths d.scheds).length + d.adm.paths.length, generation := generation
    entries := (d.admEntries hop).map AdmEntry.bytes }

/-- The evaluation refuses. -/
def AdmReport.refused (r : AdmReport) : Bool := r.entries.any refuses

/-- The entries of a scope: failures, failures and NOT_COVERED, or summaries. -/
def AdmReport.scope (r : AdmReport) (k : Nat) : List Bytes :=
  r.entries.filter (fun e =>
    if k == 2 then byteAt e 0 == 0 else if k == 1 then byteAt e 0 != 0 else refuses e)

/-- A report's payload: header and the entries from an index, at most so many. -/
def AdmReport.payload (r : AdmReport) (k start most : Nat) : Bytes :=
  let all := r.scope k
  let some_ := (all.drop start).take most
  leb 2 some_.length ++ leb 2 (min all.length 65535) ++ leb 4 r.paths ++ leb 4 r.generation ++ leb 2 0x0100 ++ zeros 2 ++
  some_.flatten

/-- The admission step of a commit (R206): the report of the configuration as it will stand is stored, and a refusal counted. -/
def Dev.judgeAdmission (d d' : Dev) : AdmReport × Dev :=
  let f := d.free
  let r := d'.evaluate d.txn.generation (1 + f.1 % 10)
  let d1 := (f.2.count 6 96)
  let d2 := if r.refused then d1.count 6 97 else d1
  (r, { d2 with adm := { d2.adm with report := some r } })

/-! ## ADM_PATH_SET -/

/-- A segment's fields: HANDLE, ENGINE, OBJECT in the range of its ENGINE. -/
def segmentFields (bs : Bytes) (i : Nat) : List Fld :=
  let o := 0x10 + 16 * i
  let top := match byteAt bs (o + 2) with
    | 0 => 0
    | 3 => 16383
    | _ => 1023
  [fr o 2 0 4095, fr (o + 2) 1 0 3, fr (o + 4) 4 0 top]

/-- ADM_PATH_SET's checks. -/
def checkPathSet (_ : Dev) (bs : Bytes) : Nat :=
  let n := byteAt bs 3
  let del := byteAt bs 2 == 1
  if bs.length ≠ 16 + 16 * n then stBadLength
  else if layoutOk ([fr 0 2 0 1023, fr 2 1 0 1] ++
      (if del then [] else [fr 3 1 1 4, fr 4 4 1 1000000000, fa 8 2] ++ (List.range n).flatMap (segmentFields bs))) bs &&
      (del || ((decide (50 ≤ byteAt bs 8) && decide (byteAt bs 8 < 90)) || byteAt bs 8 == 0xFF) &&
        (decide (byteAt bs 9 < 96) || byteAt bs 9 == 0xFF)) then stOk
  else stBadParam

/-- ADM_PATH_SET. -/
def execAdmPathSet (rq : Req) (s : State) : Out := onDev (Dev.serveStaged 0x0605 rq checkPathSet) s

/-- ADM_PATH_SET in force. -/
def applyPathSet (bs : Bytes) (d : Dev) : Dev :=
  let i := le bs 0 2
  let t := d.adm.paths
  { d with adm := { d.adm with paths := if byteAt bs 2 == 1 then tabDel t i else tabPut t i { data := bs } } }

/-! ## ADM_BUS_DECLARE -/

/-- An entry's ranges on a port. -/
def busEntryOk (d : Dev) (p : Nat) (e : Nat × Nat × Nat × Nat) : Bool :=
  if p < 50 then
    decide (e.1 < 32) && decide (64 ≤ e.2.1) && decide (e.2.1 ≤ 9216) && decide (1 ≤ e.2.2.1) && decide (e.2.2.1 ≤ 256) &&
    e.2.2.2 == 0 && e.1 != (d.port p).nodeId
  else if p < 82 then
    decide (e.1 < 2 ^ 30) && (bit e.1 29 || decide (e.1 < 2 ^ 11)) && decide (e.2.1 ≤ 64) && e.2.2.1 == 1 &&
    decide (1000 ≤ e.2.2.2) && decide (e.2.2.2 ≤ 1000000000)
  else e.1 == 0 && e.2.1 == 0 && e.2.2.1 == 1 && decide (1 ≤ e.2.2.2) && decide (e.2.2.2 ≤ 1000000000)

/-- No KEY is repeated. -/
def keysApart : List (Nat × Nat × Nat × Nat) → Bool
  | [] => true
  | e :: t => !t.any (fun x => x.1 == e.1) && keysApart t

/-- ADM_BUS_DECLARE's checks. -/
def checkBusDeclare (d : Dev) (bs : Bytes) : Nat :=
  let n := le bs 2 2
  let p := byteAt bs 0
  let es := busEntries bs
  if bs.length ≠ 16 + 16 * n then stBadLength
  else if layoutOk ([fr 0 1 34 89, fr 1 1 0 1, fr 2 2 0 (if byteAt bs 1 == 1 then 0 else 2048)] ++
      (List.range n).map (fun i => fa (16 + 16 * i) 12)) bs && (byteAt bs 1 == 1 || decide (p < 82) || n == 1) &&
      es.all (busEntryOk d p) && keysApart es then stOk
  else stBadParam

/-- ADM_BUS_DECLARE. -/
def execAdmBusDeclare (rq : Req) (s : State) : Out := onDev (Dev.serveStaged 0x0606 rq checkBusDeclare) s

/-- ADM_BUS_DECLARE in force. -/
def applyBusDeclare (bs : Bytes) (d : Dev) : Dev :=
  let p := byteAt bs 0
  let t := d.adm.buses
  { d with adm := { d.adm with buses := if byteAt bs 1 == 1 then tabDel t p else tabPut t p { data := bs, lastSeen := [] } } }

/-! ## What a commit refuses -/

/-- A staged ADM_PATH_SET of a path. -/
def setsPath (i : Nat) (c : Staged) : Bool := c.opcode == 0x0605 && le c.data 0 2 == i

/-- A staged ADM_BUS_DECLARE of a port. -/
def setsBus (p : Nat) (c : Staged) : Bool := c.opcode == 0x0606 && byteAt c.data 0 == p

/-- A declared path names something that is not configured. -/
def pathMissing (d' : Dev) (bs : Bytes) : Bool :=
  (pathSegments bs).any (fun x =>
    (d'.stream x.1).isNone ||
    (match x.2.1 with
     | 0 => false
     | 3 => !tabHas d'.gateway.dsts x.2.2
     | _ => !tabHas d'.cupola.groups x.2.2))

/-- A bus declaration lacks a node of its segment, or its channel's bit timing. -/
def busMissing (d' : Dev) (p : Nat) (bs : Bytes) : Bool :=
  let q := d'.port p
  if p < 50 then
    q.plcaEn && (List.range (segmentNodes q bs)).any (fun n => n != q.nodeId && !(busEntries bs).any (fun e => e.1 == n))
  else if p < 82 then (d'.canCh (p - 50)).mode == 0
  else false

/-- The admission conditions a commit is refused under. -/
def commitAdmission (d' : Dev) (b : Batch) : Option Refused :=
  (d'.adm.paths.findSome? (fun x =>
    if pathMissing d' x.2.data then refuseAt stNotFound (b.last (setsPath x.1)) else none)).or
  (d'.adm.buses.findSome? (fun x =>
    if busMissing d' x.1 x.2.data then refuseAt stNotFound (b.last (setsBus x.1)) else none))

/-! ## ADM_REPORT_READ -/

/-- ADM_REPORT_READ (R206). -/
def admReportRead (rq : Req) (d : Dev) : Dev :=
  d.serve 0x0607 rq (fun _ bs => 16 + 32 * le bs 4 2) (fun d _ bs =>
    withLayout d 8 [fr 0 1 0 2, fa 2 2, fr 4 2 1 (if reqBulkRsp rq then 65535 else 127)] bs
      (match d.adm.report with
       | none => ansErr d stNotFound
       | some r => ansOk d (r.payload (byteAt bs 0) (le bs 2 2) (le bs 4 2))))

/-- ADM_REPORT_READ. -/
def execAdmReportRead (rq : Req) (s : State) : Out := onDev (admReportRead rq) s

end Sys2Proof.Machine
end

