-- ==== Sys2Proof/Machine/Host.lean ====
section
/-! DEFINITION. Host attachment (chapter 02): register writes, mailbox channel registers, interrupts, the event ring's
registers, counter reads, function level reset, and the quad SPI slave. -/

namespace Sys2Proof.Machine

open Sys2Proof

/-! ## Registers -/

/-- The host transport serves a register access: the selected one only (R29); PCIe once its endpoint is ready, SPI once boot
step 1 has completed (R30). In DORMANT there is no link, and an SPI transaction during sleep has no effect (R340). -/
def Dev.regsServed (d : Dev) (spi : Bool) : Bool :=
  d.host.spi == spi && decide (d.lantern.power ≠ .dormant) && decide (d.lantern.power ≠ .off) &&
    (if spi then (decide (d.host.stage ≠ .reset) || d.boot.stopped) && decide (d.lantern.power ≠ .doze) else d.host.pcieReady)

/-- A value with its low 12 bits clear: bases are 4 KiB aligned. -/
def pageAligned (v : Nat) : Nat := v / 4096 * 4096

/-- Clear status bits; a source set again in the same tick is set afterwards and raised again (R33). -/
def Dev.irqClear (d : Dev) (val again : Nat) : Dev :=
  let kept := (List.range 27).foldl (fun st b => if bit val b then clearBit st b else st) d.host.irqStatus
  (List.range 27).foldl (fun e b => if bit again b then e.raise b else e) { d with host := { d.host with irqStatus := kept } }

/-- HIF_EVT_CONS: space frees, and a loss is reported first (R51). -/
def Dev.evtConsume (d : Dev) (val : Nat) : Dev := Dev.reportLost { d with host := { d.host with evtCons := val % 8192 } }

/-- Deliver what was kept while ENABLE was 0, oldest first (R417). -/
def Dev.deliverKept (d : Dev) : Dev :=
  d.host.unsent.foldl (fun e x => e.deliver x) (Dev.reportLost { d with host := { d.host with unsent := [] } })

/-- HIF_EVT_CTRL: ENABLE, OVERFLOW written 1 to clear, HOLDOFF. -/
def Dev.evtCtrl (d : Dev) (val : Nat) : Dev :=
  let was := d.host.evtEnable
  let d1 := { d with host := { d.host with
      evtEnable := bit val 0, evtOverflow := d.host.evtOverflow && !bit val 1, evtHoldoff := bits val 16 16 } }
  if bit val 0 && !was then d1.deliverKept else d1

/-- MBX_RSP_CONS: responses consumed, which frees outstanding slots (R38, R40). -/
def Dev.consume (d : Dev) (ch val : Nat) : Dev :=
  let n := (val % 32 + 32 - (d.chan ch).rspCons) % 32
  (d.modChan ch (fun c => { c with rspCons := val % 32, posted := c.posted.drop n })).pullAll ch

/-- Write a bank's record. -/
def Dev.setBank (d : Dev) (comp bank : Nat) (k : Bank) : Dev :=
  ({ d with update := { d.update with banks := tabPut d.update.banks (comp * 2 + bank) k } }).mramWrote 1

/-- A bank becomes INVALID. -/
def Dev.invalidate (d : Dev) (comp bank : Nat) : Dev :=
  d.setBank comp bank { (tabGet bank0 d.update.banks (comp * 2 + bank)) with state := 4 }

/-- The update session ends without its images being put in force: its target banks become INVALID (R385). -/
def Dev.endUpdate (d : Dev) (reason : Nat) : Dev :=
  match d.update.session with
  | none => d
  | some u =>
    let d1 := u.targets.foldl (fun e t => e.invalidate t.1 t.2) { d with update := { d.update with session := none } }
    d1.post 0x0E05 (le u.manifest 4 4) reason

/-- The update session is a channel's. -/
def Dev.ownsUpdate (d : Dev) (ch : Nat) : Bool := match d.update.session with
  | none => false
  | some u => u.owner == ch

/-- The Kiln frame in service on P10 loses its request. -/
def Dev.dropKiln (d : Dev) : Dev := { d with update := { d.update with kilnPeer := none } }

/-- A channel is reset: what has not started is discarded, the response of a command in progress is dropped, the indices
return to zero, an open transaction it owns is aborted, and SYS_CHANNEL_RESET is posted with its reason (R42). -/
def Dev.resetChannel (d : Dev) (ch reason : Nat) : Dev :=
  let d1 := d.modChan ch (fun c => { c with
    reqProd := 0, reqCons := 0, rspProd := 0, rspCons := 0, waiting := [], taken := [], completed := [], posted := []
    dropRunning := c.running.isSome })
  let d2 := if d.ownsTxn ch then d1.endTxn 5 else d1
  let d3 := if d.ownsUpdate ch then d2.endUpdate 4 else d2
  (if ch == 0 then d3.dropKiln else d3).post 0x0104 ch reason

/-- MBX_CHAN_RESET: only 0x5A5A acts. -/
def Dev.chanReset (d : Dev) (ch val : Nat) : Dev := if val == 0x5A5A then d.resetChannel ch 1 else d

/-- MBX_CTRL: ENABLE. -/
def Dev.chanEnable (d : Dev) (ch val : Nat) : Dev := (d.modChan ch (fun c => { c with enable := bit val 0 })).pullAll ch

/-- Change a P90 ring. -/
def Dev.modRing (d : Dev) (tx : Bool) (r : Nat) (f : Ring → Ring) : Dev :=
  if tx then { d with txRings := tabMod ring0 d.txRings r f } else { d with rxRings := tabMod ring0 d.rxRings r f }

/-- A P90 ring. -/
def Dev.ring (d : Dev) (tx : Bool) (r : Nat) : Ring := tabGet ring0 (if tx then d.txRings else d.rxRings) r

/-- CTRL of a P90 ring: a disabled ring signals nothing (R61). -/
def Dev.ringCtrl (d : Dev) (tx : Bool) (r val : Nat) : Dev :=
  if d.host.spi then d
  else d.modRing tx r (fun q => { q with
    enable := bit val 0, holdoff := bits val 16 16
    unsignalled := if bit val 0 then q.unsignalled else 0
    deadline := if bit val 0 then q.deadline else none })

/-- A write within a channel's registers. MBX_REQ_PROD has a row of its own. -/
def Dev.chanWrite (d : Dev) (ch off v : Nat) : Dev :=
  match off with
  | 0x00 => d.modChan ch (fun c => { c with reqBase := c.reqBase / 2 ^ 32 * 2 ^ 32 + pageAligned v })
  | 0x04 => d.modChan ch (fun c => { c with reqBase := c.reqBase % 2 ^ 32 + v * 2 ^ 32 })
  | 0x08 => d.modChan ch (fun c => { c with rspBase := c.rspBase / 2 ^ 32 * 2 ^ 32 + pageAligned v })
  | 0x0C => d.modChan ch (fun c => { c with rspBase := c.rspBase % 2 ^ 32 + v * 2 ^ 32 })
  | 0x1C => d.consume ch v
  | 0x20 => d.chanEnable ch v
  | 0x28 => d.chanReset ch v
  | _ => d

/-- A write within a P90 ring's registers. TAIL has a row of its own. -/
def Dev.ringWrite (d : Dev) (tx : Bool) (r off v : Nat) : Dev :=
  match off with
  | 0x00 => d.modRing tx r (fun q => { q with baseLo := pageAligned v })
  | 0x04 => d.modRing tx r (fun q => { q with baseHi := v })
  | 0x08 => d.modRing tx r (fun q => { q with size := v % 16 })
  | 0x14 => d.ringCtrl tx r v
  | _ => d

/-- A write within the HIF_ general registers. -/
def Dev.hifWrite (d : Dev) (off v : Nat) : Dev :=
  match off with
  | 0x0C => { d with host := { d.host with scratch := v } }
  | 0x10 => d.irqClear v 0
  | 0x14 => { d with host := { d.host with irqEnable := v % 2 ^ 27 } }
  | 0x18 => { d with host := { d.host with evtBaseLo := pageAligned v } }
  | 0x1C => { d with host := { d.host with evtBaseHi := v } }
  | 0x24 => d.evtConsume v
  | 0x28 => d.evtCtrl v
  | _ => d

/-- A 32-bit write at an offset of the BAR0 map. Read-only and reserved space ignores it (R31). -/
def Dev.regWrite (d : Dev) (off v : Nat) : Dev :=
  if off < 0x100 then d.hifWrite off v
  else if off < 0x300 then d.chanWrite ((off - 0x100) / 0x40) (off % 0x40) v
  else if 0x400 ≤ off ∧ off < 0x500 then d.ringWrite false ((off - 0x400) / 0x20) (off % 0x20) v
  else if 0x500 ≤ off ∧ off < 0x600 then d.ringWrite true ((off - 0x500) / 0x20) (off % 0x20) v
  else if 0xE000 ≤ off ∧ off < 0xE200 then { d with host := { d.host with msixTable := tabPut d.host.msixTable (off - 0xE000) v } }
  else d

/-! ### Reads -/

/-- A read within the HIF_ general registers. -/
def Dev.hifRead (d : Dev) (off : Nat) : Nat :=
  let h := d.host
  match off with
  | 0x00 => 0x96630011
  | 0x04 => stageCode h.stage
  | 0x08 => b2n d.faultLow + 2 * b2n d.safeLow + 4 * b2n d.twin.act + 8 * b2n d.twin.strap + 16 * b2n d.safety.split + 256 * d.keep.lifecycle
  | 0x0C => h.scratch
  | 0x10 => h.irqStatus
  | 0x14 => h.irqEnable
  | 0x18 => h.evtBaseLo
  | 0x1C => h.evtBaseHi
  | 0x20 => h.evtProd
  | 0x24 => h.evtCons
  | 0x28 => b2n h.evtEnable + 2 * b2n h.evtOverflow + 65536 * h.evtHoldoff
  | _ => 0

/-- A read within a channel's registers; MBX_CHAN_RESET reads as zero. -/
def Dev.chanRead (d : Dev) (ch off : Nat) : Nat :=
  let c := d.chan ch
  match off with
  | 0x00 => c.reqBase % 2 ^ 32
  | 0x04 => c.reqBase / 2 ^ 32
  | 0x08 => c.rspBase % 2 ^ 32
  | 0x0C => c.rspBase / 2 ^ 32
  | 0x10 => c.reqProd
  | 0x14 => c.reqCons
  | 0x18 => c.rspProd
  | 0x1C => c.rspCons
  | 0x20 => b2n c.enable
  | 0x24 => b2n c.enable + 16 * (if c.inband then 2 else b2n d.host.spi) + 256 * c.outstanding
  | _ => 0

/-- A read within a P90 ring's registers. -/
def Dev.ringRead (d : Dev) (tx : Bool) (r off : Nat) : Nat :=
  let q := d.ring tx r
  match off with
  | 0x00 => q.baseLo
  | 0x04 => q.baseHi
  | 0x08 => q.size
  | 0x0C => q.head
  | 0x10 => q.tail
  | 0x14 => b2n q.enable + 65536 * q.holdoff
  | _ => 0

/-- The 32-bit word at an offset of the BAR0 map; reserved space reads as zero (R31). -/
def Dev.regRead (d : Dev) (off : Nat) : Nat :=
  if off < 0x100 then d.hifRead off
  else if off < 0x300 then d.chanRead ((off - 0x100) / 0x40) (off % 0x40)
  else if 0x400 ≤ off ∧ off < 0x500 then d.ringRead false ((off - 0x400) / 0x20) (off % 0x20)
  else if 0x500 ≤ off ∧ off < 0x600 then d.ringRead true ((off - 0x500) / 0x20) (off % 0x20)
  else if 0xE000 ≤ off ∧ off < 0xE200 then tabGet 0 d.host.msixTable (off - 0xE000)
  else 0

/-- A counter of the live or the snapshot window, by its offset in BAR2. -/
def Dev.windowCounter (d : Dev) (off : Nat) : Nat :=
  let key := counterKey (off / 0x40000 % 16) (off % 0x40000 / 8)
  if off % 0x400000 < 0x40000 then 0
  else if off < 0x400000 then tabGet 0 d.host.counters key
  else if off < 0x800000 then tabGet 0 d.host.snapshot key
  else 0

/-- The capture ring as BAR2 shows it: its control block, then its records (R110). -/
def Dev.captureBytes (d : Dev) (off n : Nat) : Bytes :=
  let c := d.fabric.capture
  let block := leb 4 c.writeOff ++ leb 4 c.readOff ++ leb 4 c.seqNext ++ leb 4 c.wraps ++ leb 8 (d.counter 3 3077) ++ zeros 40
  (List.range n).map (fun i => if off + i < 0x40 then block.getD (off + i) 0 else memRead c.mem (off + i))

/-- The 32-bit word at an offset of the BAR2 map but for the Hopper aperture, whose accesses have a row of their own. -/
def Dev.bar2Word (d : Dev) (off : Nat) : Nat :=
  if off < 0x800000 then d.windowCounter (off / 8 * 8) / 2 ^ (off % 8 * 8) % 2 ^ 32
  else if off < 0x900000 then le (d.captureBytes (off - 0x800000) 4) 0 4
  else 0

/-- An entry of the event ring in the device window as it was written; one that was not is zero. -/
def Dev.ringEntry (d : Dev) (slot : Nat) : Bytes :=
  let phase := if slot < d.host.evtProd % ringSize then !bit d.host.evtProd 12 else bit d.host.evtProd 12
  match tabFind d.host.ring slot with
  | some e => evtBytes e phase
  | none => zeros 32

/-- The 32-bit word at an address of the SPI address space. -/
def Dev.busWord (d : Dev) (addr : Nat) : Nat :=
  if addr < 0x10000 then d.regRead addr
  else if 0x1000000 ≤ addr ∧ addr < 0x2000000 then d.bar2Word (addr - 0x1000000)
  else if 0x2000000 ≤ addr ∧ addr < 0x2020000 then le (d.ringEntry ((addr - 0x2000000) / 32)) (addr % 32) 4
  else 0

/-- A read of a counter (R34): its low half latches the high half, which the next read of the high half at that address by the same
requester returns. The value, and the state after. -/
def Dev.readHalf (d : Dev) (requester off : Nat) : Nat × Dev :=
  let base := off / 8 * 8
  let v := d.windowCounter base
  let others := d.host.latched.filter (fun (x : Nat × Nat × Nat) => !(x.1 == requester && x.2.1 == base))
  let put := fun (l : List (Nat × Nat × Nat)) => { d with host := { d.host with latched := l } }
  if off % 8 == 0 then (v % 2 ^ 32, put (others ++ [(requester, base, v / 2 ^ 32)]))
  else
    match d.host.latched.find? (fun (x : Nat × Nat × Nat) => x.1 == requester && x.2.1 == base) with
    | some x => (x.2.2, put others)
    | none => (v / 2 ^ 32, d)

/-- An address of the BAR2 map lies in a counter window. -/
def inCounters (addr : Nat) : Bool := decide (0x1000000 ≤ addr ∧ addr < 0x1800000)

/-- The words a read returns, and the state after: a 32-bit read of a counter's half is one of R34's halves, by requester 0; an aligned
8-byte read, like every longer one, reads one state and so returns coherent values. -/
def Dev.readWords (d : Dev) (addr n : Nat) : Nat × Dev :=
  if n == 1 && inCounters addr then d.readHalf 0 (addr - 0x1000000)
  else (le ((List.range n).flatMap (fun i => leb 4 (d.busWord (addr + 4 * i)))) 0 (4 * n), d)

/-- The aperture's access at an address of the BAR2 map (R35): pool p from 0x0C0_0000 + p * 0x8_0000. -/
def inAperture (addr : Nat) : Bool := decide (0x1C80000 ≤ addr ∧ addr < 0x1F00000)

/-- An access through the Hopper aperture as its own row makes it. -/
def apertureOf (a : BusAccess) : ApertureAccess :=
  { write := a.write, pool := (a.addr - 0x1C00000) / 0x80000, off := a.addr % 0x80000, width := a.nbits / 8, value := a.value }

/-- An access over SPI breaks R36: it is not whole 32-bit words from an aligned address. -/
def spiMisshapen (addr nbits : Nat) : Bool := nbits == 0 || nbits % 32 != 0 || addr % 4 != 0

/-- A transaction over SPI that breaks R36 has no effect and sets the malformed bit. -/
def Dev.spiMalform (d : Dev) : Dev := { d with host := { d.host with spiMalformed := true } }

/-- An access over SPI (R36). -/
def spiAccess (a : BusAccess) (d : Dev) : Dev :=
  if spiMisshapen a.addr a.nbits then d.spiMalform
  else if inAperture a.addr then apertureStep (apertureOf a) d
  else if a.write then
    (List.range (a.nbits / 32)).foldl (fun e i =>
      if a.addr + 4 * i < 0x10000 then e.regWrite (a.addr + 4 * i) (bits a.value (32 * i) 32) else e) d
  else
    let r := d.readWords a.addr (a.nbits / 32)
    r.2.emit (.spi (leb (a.nbits / 8) r.1))

/-- An access over PCIe: BAR0 takes aligned 32-bit accesses alone (R31); in BAR2 reserved space reads as zero, and nothing but the
aperture takes a write. A read there is of aligned 32-bit or 64-bit words; one of another shape reads zero (DESIGN CHOICE, log 83). -/
def pcieAccess (a : BusAccess) (d : Dev) : Dev :=
  if a.addr < 0x10000 then
    if a.nbits ≠ 32 ∨ a.addr % 4 ≠ 0 then d.emit .unsupported
    else if a.write then d.regWrite a.addr (a.value % 2 ^ 32)
    else d.emit (.readData (d.regRead a.addr))
  else if inAperture a.addr then apertureStep (apertureOf a) d
  else if a.write then d
  else if a.nbits % 32 ≠ 0 ∨ a.addr % (a.nbits / 8) ≠ 0 then d.emit (.readData 0)
  else
    let r := d.readWords a.addr (a.nbits / 32)
    r.2.emit (.readData r.1)

/-- REGISTER_WRITE (R31, R36): a register access of the transport that is served. -/
def registerWrite (a : BusAccess) (d : Dev) : Dev :=
  if !d.regsServed a.spi then d else if a.spi then spiAccess a d else pcieAccess a d

/-- REGISTER_WRITE. -/
def execRegisterWrite (a : BusAccess) (s : State) : Out := onDev (registerWrite a) s

/-! ## Channel registers with rows of their own -/

/-- MBX_REQ_PROD_DOORBELL (R43): the requests from the old index to the new one, read from the host's slots. -/
def doorbell (ch prod : Nat) (reqs : List HostReq) (d : Dev) : Dev :=
  if 8 ≤ ch ∨ !d.regsServed d.host.spi then d
  else
    let n := min 16 ((prod % 32 + 32 - (d.chan ch).reqProd) % 32)
    ((d.modChan ch (fun c => { c with reqProd := prod % 32, waiting := c.waiting ++ reqs.take n })).pullAll ch).drainAll ch

/-- MBX_REQ_PROD_DOORBELL. -/
def execMbxReqProdDoorbell (ch prod : Nat) (reqs : List HostReq) (s : State) : Out := onDev (doorbell ch prod reqs) s

/-- A write of a channel's register, on an existing channel. -/
def onChan (ch : Nat) (f : Dev → Dev) (d : Dev) : Dev := if ch < 8 ∧ d.regsServed d.host.spi then f d else d

/-- MBX_RSP_CONS_WRITE. -/
def execMbxRspConsWrite (ch val : Nat) (s : State) : Out := onDev (onChan ch (fun d => (d.consume ch val).drainAll ch)) s

/-- MBX_CHAN_RESET. -/
def execMbxChanReset (ch val : Nat) (s : State) : Out := onDev (onChan ch (fun d => d.chanReset ch val)) s

/-- MBX_CHANNEL_ENABLE. -/
def execMbxChannelEnable (ch val : Nat) (s : State) : Out := onDev (onChan ch (fun d => (d.chanEnable ch val).drainAll ch)) s

/-! ## Interrupts and events -/

/-- A register access of the host. -/
def onRegs (f : Dev → Dev) (d : Dev) : Dev := if d.regsServed d.host.spi then f d else d

/-- HIF_IRQ_STATUS_CLEAR (R33). -/
def execHifIrqStatusClear (val again : Nat) (s : State) : Out := onDev (onRegs (fun d => d.irqClear val again)) s

/-- HIF_EVT_CONS_WRITE (R51). -/
def execHifEvtConsWrite (val : Nat) (s : State) : Out := onDev (onRegs (fun d => d.evtConsume val)) s

/-- EVT_RING_ENABLE (R417). -/
def execEvtRingEnable (val : Nat) (s : State) : Out := onDev (onRegs (fun d => d.evtCtrl val)) s

/-- EVT_OVERFLOW_CLEAR (R51). -/
def execEvtOverflowClear (val : Nat) (s : State) : Out := onDev (onRegs (fun d => d.evtCtrl val)) s

/-- EVENT_HOLDOFF_EXPIRY (R50). -/
def evtHoldoffEnd (d : Dev) : Dev :=
  if d.overO d.host.evtDeadline then
    Dev.raise { d with host := { d.host with evtDeadline := none, evtNew := 0 } } 0
  else d

/-- EVENT_HOLDOFF_EXPIRY. -/
def execEventHoldoffExpiry (s : State) : Out := onDev evtHoldoffEnd s

/-! ## Counter windows (R34) -/

/-- COUNTER_LOW_HALF_READ: a 32-bit read of a counter's half by a requester; a misaligned one is malformed over SPI (R36). -/
def counterRead (requester off : Nat) (d : Dev) : Dev :=
  if !d.regsServed d.host.spi then d
  else if off % 4 != 0 then (if d.host.spi then d.spiMalform else d)
  else
    let r := d.readHalf requester off
    r.2.emit (.readData r.1)

/-- COUNTER_LOW_HALF_READ. -/
def execCounterLowHalfRead (requester off : Nat) (s : State) : Out := onDev (counterRead requester off) s

/-! ## Function level reset (R32) -/

/-- A channel's BAR0 registers at their reset values. -/
def chanRegs0 (c : Chan) : Chan :=
  { c with reqBase := 0, rspBase := 0, enable := false }

/-- FUNCTION_LEVEL_RESET. -/
def functionReset (d : Dev) : Dev :=
  if d.host.spi || !d.host.pcieReady then d
  else
    let d1 := { d.dropKiln with
      host := { d.host with
        scratch := 0, irqStatus := 0, irqEnable := 0, evtBaseLo := 0, evtBaseHi := 0, evtProd := 0, evtCons := 0
        evtEnable := false, evtOverflow := false, evtHoldoff := 0, evtDeadline := none, evtNew := 0, msixTable := [] }
      rxRings := []
      txRings := [] }
    (List.range 8).foldl (fun e ch =>
      let own := e.ownsTxn ch && !(e.chan ch).inband
      let e1 := e.modChan ch (fun c => chanRegs0 { c with
        reqProd := 0, reqCons := 0, rspProd := 0, rspCons := 0, waiting := [], taken := [], completed := [], posted := []
        dropRunning := c.running.isSome })
      let e2 := if own then e1.endTxn 5 else e1
      (if e.ownsUpdate ch && !(e.chan ch).inband then e2.endUpdate 4 else e2).post 0x0104 ch 2) d1

/-- FUNCTION_LEVEL_RESET. -/
def execFunctionLevelReset (s : State) : Out := onDev functionReset s

/-! ## Quad SPI slave (R36 to R38) -/

/-- A response's header and payload as they lie in a slot. -/
def rspSlot (r : Rsp) : Bytes :=
  leb 2 r.opcode ++ leb 2 r.payload.length ++ leb 2 r.seq ++ leb 2 r.status ++ leb 4 r.detail ++ zeros 4 ++ r.payload

/-- Bytes of the 32 KiB SPI request buffer in use. -/
def Dev.spiHeld (d : Dev) : Nat :=
  ((d.chans.flatMap (fun c => c.2.taken ++ c.2.running.toList)).map (fun t => 16 + t.rq.payload.length)).sum

/-- SPI_WRITE_REQUEST (R37); in stage RESET it only sets the rejected bit (R30). A request to a channel that is not enabled or is bound
in-band, and one of a device that does not serve requests, has no effect and sets no bit (DESIGN CHOICE, log 83). -/
def spiWrite (ch : Nat) (r : HostReq) (d : Dev) : Dev :=
  let rejected := { d with host := { d.host with spiRejected := true } }
  if !d.host.spi || decide (8 ≤ ch) || !d.regsServed true then d
  else if decide (d.host.stage = .reset) then rejected
  else if !d.takesRequests || !(d.chan ch).enable || (d.chan ch).inband then d
  else if d.mayTake ch && decide (d.spiHeld + 16 + r.rq.payload.length ≤ 32768) then
    (d.take { opcode := r.opcode, rq := { r.rq with ch := ch }, origin := none }).drainAll ch
  else
    let busy : Rsp :=
      { opcode := r.opcode, seq := r.rq.seq % 65536, status := stBusy, detail := 0, payload := [], origin := none, rejected := true }
    ((rejected.modChan ch (fun c => { c with completed := c.completed ++ [busy] })).count 1 7).raise 10

/-- SPI_WRITE_REQUEST. -/
def execSpiWriteRequest (ch : Nat) (r : HostReq) (s : State) : Out := onDev (spiWrite ch r) s

/-- SPI_READ_RESPONSE: the oldest unconsumed response from its first header byte. -/
def spiRead (ch : Nat) (d : Dev) : Dev :=
  if !d.host.spi || decide (8 ≤ ch) || !d.regsServed true then d
  else match (d.chan ch).posted with
    | [] => d.emit (.spi [])
    | r :: _ => d.emit (.spi (rspSlot r))

/-- SPI_READ_RESPONSE. -/
def execSpiReadResponse (ch : Nat) (s : State) : Out := onDev (spiRead ch) s

/-- SPI_STATUS_READ: the read clears both bits. -/
def spiStatus (d : Dev) : Dev :=
  if !d.host.spi || !d.regsServed true then d
  else
    Dev.emit { d with host := { d.host with spiMalformed := false, spiRejected := false } }
      (.spi (leb 1 (b2n d.host.spiMalformed + 2 * b2n d.host.spiRejected)))

/-- SPI_STATUS_READ. -/
def execSpiStatusRead (s : State) : Out := onDev spiStatus s

end Sys2Proof.Machine
end

