-- ==== Sys2Proof/Machine/KeepOps.lean ====
section
/-! DEFINITION. Keep's shared operations (chapter 12): roots, the checks and charges of a slot's use, slot writes with their
revocations, monotonic counters, random numbers, and the images in force. -/

namespace Sys2Proof.Machine

open Sys2Proof

/-! ## Counters and random numbers -/

/-- A monotonic counter. -/
def Dev.mono (d : Dev) (i : Nat) : Nat := tabGet 0 d.keep.counters i

/-- Set a monotonic counter; it never decreases (R313). -/
def Dev.setMono (d : Dev) (i v : Nat) : Dev :=
  { d with keep := { d.keep with counters := tabPut d.keep.counters i (max (d.mono i) v) } }

/-- Bytes from the generator, which reseeds after every 2^20 requests (R330). -/
def Dev.draw (d : Dev) (n : Nat) : Bytes × Dev :=
  (slice (Config.random d.keep.rngDraws n) 0 n,
    { d with keep := { d.keep with rngDraws := d.keep.rngDraws + 1, rngRequests := (d.keep.rngRequests + 1) % 2 ^ 20 } })

/-- Bytes hashed are counted in HASH_BYTES. -/
def Dev.hashed (d : Dev) (n : Nat) : Dev := d.countN 11 3 n

/-- An ECC operation is counted in ECC_OPS. -/
def Dev.eccCount (d : Dev) : Dev := d.count 11 2

/-! ## Roots (R310, R311) -/

/-- The root of the keys Cask signs with in a lifecycle state (R302): 1 TEST, 2 OWNER, 3 LEGAL; 0 none. -/
def lifecycleRoot (lc : Nat) : Nat := if lc == 1 ∨ lc == 2 ∨ lc == 3 then lc else 0

/-- The lifecycle state makes the root available (R310's table). -/
def rootOf (lc root : Nat) : Bool :=
  (root == 1 && lc == 1) || (root == 2 && (lc == 2 || lc == 3)) || (root == 3 && lc == 3)

/-- The root is available and unlocked. -/
def Dev.rootReady (d : Dev) (root : Nat) : Bool := d.keep.rootsUnlocked && !d.keep.locked && rootOf d.keep.lifecycle root

/-! ## Slots -/

/-- A key slot. -/
def Dev.keySlot (d : Dev) (i : Nat) : KeySlot := tabGet keySlot0 d.keep.slots i

/-- The two blob records of a slot. -/
def Dev.slotBlobs (d : Dev) (i : Nat) : Blobs := tabGet { a := none, b := none, second := false } d.keep.blobs i

/-- Replace the blob records of a slot. -/
def Dev.putBlobs (d : Dev) (i : Nat) (x : Blobs) : Dev := { d with keep := { d.keep with blobs := tabPut d.keep.blobs i x } }

/-- A blob is written over the older of the slot's two records (R316); one without a key goes over both, so that no key returns. -/
def Blobs.write (x : Blobs) (k : KeySlot) : Blobs :=
  if k.state != 1 then { x with a := some k, b := some k }
  else if x.second then { x with b := some k, second := false }
  else { x with a := some k, second := true }

/-- Write a slot's blob to MRAM. -/
def Dev.writeBlob (d : Dev) (i : Nat) (k : KeySlot) : Dev := (d.putBlobs i ((d.slotBlobs i).write k)).mramWrote 1

/-- Of two records the one with the higher GEN, and then the higher USE_COUNT, is used (R316). -/
def Blobs.newest (x : Blobs) : Option KeySlot :=
  match x.a, x.b with
  | some p, some q => if p.gen < q.gen ∨ (p.gen = q.gen ∧ p.stored < q.stored) then some q else some p
  | some p, none => some p
  | none, q => q

/-- A slot's key as a blob holds it: the material of a private or AES key, of a public one its coordinates. -/
def KeySlot.material (k : KeySlot) : Bytes := if 6 ≤ k.type then k.pub else k.key

/-- A blob's bytes 0x00 to 0x27, its associated data. -/
def blobHead (i : Nat) (k : KeySlot) : Bytes :=
  leb 1 1 ++ leb 1 k.type ++ leb 1 k.root ++ leb 1 k.origin ++ leb 1 i ++ zeros 1 ++ leb 2 k.usage ++ leb 4 k.useLimit ++ leb 4 k.label ++
    slice Config.uid 0 16 ++ leb 2 k.gen ++ zeros 2 ++ leb 4 k.stored

/-- Put a slot's record as it is. -/
def Dev.putSlotRaw (d : Dev) (i : Nat) (k : KeySlot) : Dev := { d with keep := { d.keep with slots := tabPut d.keep.slots i k } }

/-- USE_LIMIT's meaning. -/
def KeySlot.limit (k : KeySlot) : Nat :=
  if k.useLimit == 0 then 2 ^ 28 else if k.useLimit == 0xFFFFFFFF then 2 ^ 32 else k.useLimit

/-- AES types. -/
def isAes (type : Nat) : Bool := decide (1 ≤ type) && decide (type ≤ 3)

/-- Private ECC types. -/
def isPrivate (type : Nat) : Bool := type == 4 || type == 5

/-- Key bytes of a TYPE. -/
def keyLen (type : Nat) : Nat :=
  match type with
  | 1 => 16 | 2 => 24 | 3 => 32 | 4 => 32 | 5 => 48 | 6 => 64 | 7 => 96 | _ => 0

/-- The curve of an ECC type: 1 P-256, 2 P-384. -/
def curveOf (type : Nat) : Nat := if type == 5 || type == 7 then 2 else 1

/-- The usage bits a TYPE permits; HOST and CASK are allowed for every TYPE, but a LEGAL-root slot has HOST clear (R314). -/
def usageAllowed (type root usage : Nat) : Bool :=
  let own := usage % 128
  decide (usage < 512) && !(root == 3 && bit usage 7) &&
  (if isAes type then own &&& 15 == own
   else if isPrivate type then own &&& 0x70 == own
   else own &&& 0x20 == own)

/-- Who names a slot: the host needs HOST, Cask needs CASK, SVC firmware neither (R314, R322). -/
inductive KeyUser where
  | host | cask | firmware
  deriving DecidableEq, Repr

/-- The usage bit a user needs. -/
def KeyUser.permitted (u : KeyUser) (usage : Nat) : Bool :=
  match u with
  | .host => bit usage 7
  | .cask => bit usage 8
  | .firmware => true

/-- The checks of a slot's use in their order (R322, R332): tamper lock, KEY_REVOKED, NOT_PERMITTED, USAGE_EXHAUSTED. -/
def Dev.keyStatus (d : Dev) (u : KeyUser) (i usageBit blocks : Nat) (types : List Nat) : Nat :=
  let k := d.keySlot i
  if d.keep.locked then stTampered
  else if k.state != 1 then stKeyRevoked
  else if !d.rootReady k.root || !types.contains k.type || !bit k.usage usageBit || !u.permitted k.usage ||
      (decide (u = .host) && k.root == 3) then stNotPermitted
  else if k.limit < k.useCount + blocks then stUsageExhausted
  else stOk

/-- A refused use is counted: WITHHELD_REVOKED, USAGE_REFUSED, WITHHELD_TAMPERED. -/
def Dev.keyRefused (d : Dev) (st : Nat) : Dev :=
  if st == stKeyRevoked then d.count 11 6
  else if st == stUsageExhausted then d.count 11 8
  else if st == stTampered then d.count 11 7
  else d

/-- Charge blocks to a slot (R325): USE_COUNT, its stored value after every 2^16 blocks, KEEP_USAGE_LOW once. -/
def Dev.charge (d : Dev) (i n : Nat) : Dev :=
  let k := d.keySlot i
  let c := k.useCount + n
  let left := k.limit - c
  let low := decide (left < k.limit / 16) && !k.lowPosted
  let k1 : KeySlot := { k with
    useCount := c
    stored := if k.stored + 65536 ≤ c then c else k.stored
    lowPosted := k.lowPosted || low }
  let d0 := d.putSlotRaw i k1
  let d1 := if k1.stored == k.stored || k.origin == 3 then d0 else d0.writeBlob i k1
  let d2 := if isAes k.type then d1.countN 11 1 n else d1
  if low then d2.post 0x0B03 i left else d2

/-- An AES-CMAC of SVC firmware (usage bit CMAC), one block charged for each 16 bytes of the message begun; none where Keep
refuses the key. -/
def Dev.firmwareCmac (d : Dev) (i : Nat) (msg : Bytes) : Option Bytes × Dev :=
  let n := max 1 (ceilDiv msg.length 16)
  let st := d.keyStatus .firmware i 2 n [1, 2, 3]
  if st == stOk then (some (cmac (d.keySlot i).key msg), d.charge i n) else (none, d.keyRefused st)

/-- The generation after a write: after 65,535 it continues at 1 (R315). -/
def nextGen (g : Nat) : Nat := if 65535 ≤ g then 1 else g + 1

/-- One level of descent: slots that are VALID and whose parent is in the set. -/
def childrenOf (slots : Tab KeySlot) (set : List Nat) : List Nat :=
  (slots.filter (fun e => e.2.state == 1 && e.2.origin == 3 && set.contains e.2.parent)).map (fun e => e.1)

/-- Every slot whose PARENT chain leads to one of a set, at any depth up to the eight levels there are (R320, R321). -/
def descendants (slots : Tab KeySlot) : Nat → List Nat → List Nat
  | 0, _ => []
  | n + 1, set =>
    let c := childrenOf slots set
    if c.isEmpty then [] else c ++ descendants slots n c

/-- A key of the record signing slot has changed: withheld seals are tried again (R303). -/
def Dev.retrySeals (d : Dev) : Dev :=
  { d with cask := { d.cask with seals := d.cask.seals.map (fun x => { x with retry := x.withheld.isSome }) } }

/-- The change of a set of slots reaches Cask when SIGN_SLOT is among them. -/
def Dev.slotsChanged (d : Dev) (is : List Nat) : Dev :=
  if is.contains (byteAt d.cask.params 4) then d.retrySeals else d

/-- Put a slot's record; a record that has a blob is written to MRAM. -/
def Dev.putKeySlot (d : Dev) (i : Nat) (k : KeySlot) : Dev := if k.origin == 3 then d.putSlotRaw i k else (d.putSlotRaw i k).writeBlob i k

/-- Revoke a slot: STATE REVOKED, GEN one higher (R321). -/
def Dev.revokeSlot (d : Dev) (i : Nat) : Dev :=
  let k := d.keySlot i
  d.putKeySlot i { k with state := 2, gen := nextGen k.gen, key := [] }

/-- Revoke every descendant of a set of slots, with one KEEP_REVOKED naming the number and the cause (R321). -/
def Dev.revokeUnder (d : Dev) (roots : List Nat) (cause : Nat) : Dev :=
  let gone := (descendants d.keep.slots 8 roots).dedup
  let d1 := (gone.foldl (fun e i => e.revokeSlot i) d).slotsChanged gone
  match gone with
  | [] => d1
  | i :: _ => d1.post 0x0B02 i (gone.length + cause * 2 ^ 16)

/-- Write a slot (R315): GEN one higher, USE_COUNT 0; its descendants are revoked in the same tick. -/
def Dev.writeSlot (d : Dev) (i : Nat) (k : KeySlot) : Dev :=
  let g := nextGen (d.keySlot i).gen
  ((d.putKeySlot i { k with gen := g, useCount := 0, stored := 0, lowPosted := false }).revokeUnder [i] 1).slotsChanged [i]

/-- Erase a slot: EMPTY, the key zeroed, GEN one higher (R315). -/
def Dev.eraseSlot (d : Dev) (i : Nat) : Dev :=
  let g := nextGen (d.keySlot i).gen
  ((d.putKeySlot i { keySlot0 with gen := g }).revokeUnder [i] 2).slotsChanged [i]

/-- Destroy the slots of some roots (R311): they are erased and everything beneath them goes in the same way, with one
KEEP_REVOKED. -/
def Dev.destroyRoots (d : Dev) (roots : List Nat) : Dev :=
  let gone := (d.keep.slots.filter (fun e => e.2.state != 0 && roots.contains e.2.root)).map (fun e => e.1)
  let d1 := gone.foldl (fun e i => e.putKeySlot i { keySlot0 with gen := nextGen (e.keySlot i).gen }) d
  match gone with
  | [] => d1
  | i :: _ => (d1.slotsChanged gone).post 0x0B02 i (gone.length + 3 * 2 ^ 16)

/-- A slot record (12, Key slots). -/
def slotRecord (k : KeySlot) : Bytes :=
  leb 1 k.state ++ leb 1 k.type ++ leb 1 k.root ++ leb 1 k.origin ++ leb 2 k.gen ++ leb 1 k.parent ++ leb 1 k.depth ++ leb 2 k.usage ++
    leb 2 k.parentGen ++ leb 4 k.useLimit ++ leb 8 k.useCount ++ leb 4 k.label ++ zeros 4

/-- The public key's bytes of an ECC slot; nothing for AES. -/
def KeySlot.pubBytes (k : KeySlot) : Bytes := if 4 ≤ k.type then slice k.pub 0 (if curveOf k.type == 2 then 96 else 64) else []

/-- KEY_ID of a record (11, The record): root, slot, generation. -/
def Dev.keyId (d : Dev) (i : Nat) : Nat := (d.keySlot i).root * 2 ^ 24 + i % 256 * 2 ^ 16 + (d.keySlot i).gen % 2 ^ 16

/-! ## Images in force -/

/-- A bank of a component, EMPTY where nothing is known of it. -/
def Dev.fwBank (d : Dev) (comp bank : Nat) : Bank := tabGet bank0 d.update.banks (comp * 2 + bank)

/-- Where a bank lies in MRAM (01, MRAM layout), and its size. -/
def bankBase (comp bank : Nat) : Nat :=
  match comp with
  | 1 => bank * 0x180000
  | 2 => 0x300000 + bank * 0x80000
  | 3 => 0x400000 + bank * 0x20000
  | 4 => 0x440000 + bank * 0x40000
  | _ => 0x4C0000 + bank * 0x400000

/-- A bank's size. -/
def bankSize (comp : Nat) : Nat :=
  match comp with
  | 1 => 0x180000 | 2 => 0x80000 | 3 => 0x20000 | 4 => 0x40000 | _ => 0x400000

/-- The bank of a component in force: during a trial the bank on trial, beside which the replaced one stays ACTIVE (R391). -/
def Dev.bankInForce (d : Dev) (comp : Nat) : Option Nat :=
  ([0, 1].find? (fun b => (d.fwBank comp b).state == 3)).or ([0, 1].find? (fun b => (d.fwBank comp b).state == 2))

/-- The record of the bank in force; an EMPTY one where there is none. -/
def Dev.inForce (d : Dev) (comp : Nat) : Bank :=
  match d.bankInForce comp with
  | some b => d.fwBank comp b
  | none => bank0

/-- A bank's image. -/
def Dev.image (d : Dev) (comp bank : Nat) : Bytes := memReadN d.update.mram (bankBase comp bank) (d.fwBank comp bank).length

/-- SHA-256 of the image in force; zero where there is none. -/
def Dev.imageDigest (d : Dev) (comp : Nat) : Bytes :=
  match d.bankInForce comp with
  | some b => slice (Config.sha256 (d.image comp b)) 0 32
  | none => zeros 32

/-! ## The legal event log (R309) -/

/-- Entries not acknowledged. -/
def Dev.logSpan (d : Dev) : Nat := d.cask.logNext - d.cask.logUnacked

/-- The log counts as full. -/
def Dev.logFull (d : Dev) : Bool := decide (1984 ≤ d.logSpan)

/-- The tick of a growth of a ring, with what stood before it: of several in one tick, before the first (R306). -/
def grownIn (last : Option (Nat × Nat)) (up next : Nat) : Option (Nat × Nat) :=
  match last with
  | some x => if x.1 == up then some x else some (up, next)
  | none => some (up, next)

/-- What an acknowledgement is judged against: growth in the same tick comes after it (R306). -/
def ackLimit (last : Option (Nat × Nat)) (up next : Nat) : Nat :=
  match last with
  | some x => if x.1 == up then x.2 else next
  | none => next

/-- Write one entry, hash-chained; all 2,048 occupied, it is lost. -/
def Dev.logWrite (d : Dev) (type session : Nat) (data : Nat) : Dev :=
  let c := d.cask
  if 2048 ≤ d.logSpan then { d with cask := { c with logLost := c.logLost + 1 } }.count 10 8
  else
    let prev := if c.logNext == 0 then slice (Config.fill d.freeIx) 0 32 else slice (Config.sha256 (tabGet (zeros 64) c.log ((c.logNext - 1) % 2048))) 0 32
    let e := leb 4 c.logNext ++ leb 2 type ++ leb 1 session ++ zeros 1 ++ t80le d.now ++ leb 1 d.qualityNow ++ zeros 1 ++ leb 12 data ++ prev
    let c1 := { c with
      log := tabPut c.log (c.logNext % 2048) e, logNext := c.logNext + 1, logged := grownIn c.logged d.uptime c.logNext }
    (({ d with cask := c1, freeIx := d.freeIx + 1 }.hashed 64).count 10 7).post 0x0A05 c.logNext type

/-- LEGAL_LOG_ENTRY: after a loss, the next entry written carries TYPE 13 with the number lost. -/
def Dev.legalLog (d : Dev) (type session : Nat) (data : Nat) : Dev :=
  let lost := d.cask.logLost
  if lost == 0 || decide (2048 ≤ d.logSpan) then d.logWrite type session data
  else ({ d with cask := { d.cask with logLost := 0 } }.logWrite 13 0 lost).logWrite type session data

end Sys2Proof.Machine
end

