-- ==== Sys2Proof/Machine/HostCmds.lean ====
section
/-! DEFINITION. P90's rings (R61 to R64), in-band requests (R46 to R48) and the system commands. -/

namespace Sys2Proof.Machine

open Sys2Proof

/-! ## P90 rings -/

/-- Descriptors of a ring. -/
def Ring.count (q : Ring) : Nat := 2 ^ q.size

/-- A completion of a ring (R61). -/
def Dev.ringComplete (d : Dev) (tx : Bool) (r : Nat) : Dev :=
  let q := d.ring tx r
  let b := (if tx then 19 else 11) + r
  let n := q.unsignalled + 1
  if q.holdoff == 0 || decide (64 ≤ n) then
    (d.modRing tx r (fun q => { q with unsignalled := 0, deadline := none })).raise b
  else
    d.modRing tx r (fun q => { q with
      unsignalled := n, deadline := if n == 1 then some (d.uptime + q.holdoff * 1000) else q.deadline })

/-- The head descriptor is done: its write-back from offset 0x08, then HEAD (R63). -/
def Dev.ringWriteBack (d : Dev) (tx : Bool) (r : Nat) (bytes : Bytes) : Dev :=
  let q := d.ring tx r
  let d1 := d.emit (.hostMem (q.baseLo + q.baseHi * 2 ^ 32 + q.head * 32 + 8) bytes)
  (d1.modRing tx r (fun q => { q with head := (q.head + 1) % q.count, descs := q.descs.drop 1 })).ringComplete tx r

/-- P90_RING_TAIL_WRITE: the descriptors from the old TAIL to the new one. -/
def ringTail (tx : Bool) (r tail : Nat) (ds : List P90Desc) (d : Dev) : Dev :=
  if d.host.spi || !d.regsServed false || decide (8 ≤ r) then d
  else
    let q := d.ring tx r
    let n := (tail % 4096 + q.count - q.tail % q.count) % q.count
    d.modRing tx r (fun q => { q with tail := tail % 4096, descs := q.descs ++ ds.take n })

/-- P90_RING_TAIL_WRITE. -/
def execP90RingTailWrite (tx : Bool) (ring tail : Nat) (ds : List P90Desc) (s : State) : Out := onDev (ringTail tx ring tail ds) s

/-- P90_RING_ENABLE. -/
def ringEnable (tx : Bool) (r val : Nat) (d : Dev) : Dev :=
  if !d.regsServed false || decide (8 ≤ r) then d else d.ringCtrl tx r val

/-- P90_RING_ENABLE. -/
def execP90RingEnable (tx : Bool) (ring val : Nat) (s : State) : Out := onDev (ringEnable tx ring val) s

/-- P90_HOLDOFF_EXPIRY. -/
def ringHoldoff (tx : Bool) (r : Nat) (d : Dev) : Dev :=
  if d.overO (d.ring tx r).deadline then
    (d.modRing tx r (fun q => { q with unsignalled := 0, deadline := none })).raise ((if tx then 19 else 11) + r)
  else d

/-- P90_HOLDOFF_EXPIRY. -/
def execP90HoldoffExpiry (tx : Bool) (ring : Nat) (s : State) : Out := onDev (ringHoldoff tx ring) s

/-- P90's transmit rings, highest first. -/
def ringsDown : List Nat := [7, 6, 5, 4, 3, 2, 1, 0]

/-- P90_TX_FRAME_FETCH: the next frame of the highest enabled ring that holds a descriptor (R62, R64). `dma` is what reading the
frame brought, none where it failed. -/
def p90Fetch (dma : Option (List Byte)) (d : Dev) : Dev :=
  if d.host.spi then d
  else match ringsDown.find? (fun r => (d.ring true r).enable && !(d.ring true r).descs.isEmpty) with
    | none => d
    | some r => match (d.ring true r).descs with
      | [] => d
      | k :: _ =>
        let bad := decide ((d.port 90).maxFrame < k.length + 4) || decide (k.length < 14) || decide (9212 < k.length)
        let done := fun (e : Dev) (status : Nat) =>
          e.ringWriteBack true r (leb 2 k.length ++ leb 2 (k.control / 2 ^ 14 % 2 * 2 ^ 14) ++ leb 2 k.tag ++ zeros 2 ++ leb 1 status ++ zeros 15)
        if bad then done (d.count 1 8) 1
        else match dma with
          | none => done d 2
          | some bs =>
            let ts : Option TsReq := if bit k.control 14 then some { firmware := false, tag := k.tag } else none
            done (d.injectTs 90 (slice bs 0 k.length) d.now r ts) 0

/-- P90_TX_FRAME_FETCH. -/
def execP90TxFrameFetch (dma : Option (List Byte)) (s : State) : Out := onDev (p90Fetch dma) s

/-- REASON of a received frame: forwarded, a mirror copy, or the copy of a sampling session. -/
def rxReason (d : Dev) (k : Copy) : Nat :=
  if k.kind == 0 then 0 else if 1 < (tabGet mirror0 d.fabric.mirrors k.session).sampleN then 2 else 1

/-- P90_RX_DELIVERY: the head frame of the highest class whose ring can take one (R63, R64). -/
def p90Deliver (d : Dev) : Dev :=
  let ready := fun (c : Nat) => (d.ring false c).enable && !(d.ring false c).descs.isEmpty
  if d.host.spi then d
  else match classesDown.findSome? (fun c => if ready c then stageHeadOf d.fabric.frames 90 c else none) with
    | none => d
    | some x =>
      let bytes := egressBytes x.2 x.1.bytes
      let c := x.2.tc
      match (d.ring false c).descs with
      | [] => d
      | k :: _ =>
        if !d.passes 90 x then d.passOut 90 x
        else if k.length < bytes.length then (d.dropCopy x.1.id x.2).count 1 9
        else
          let i := x.1.info
          ((d.passOut 90 x).emit (.hostMem k.addr bytes)).ringWriteBack false c
            (leb 2 bytes.length ++ leb 2 (2 ^ 14) ++ leb 1 i.inPort ++ leb 1 c ++ leb 1 (rxReason d x.2) ++ zeros 1 ++
              t80le i.time ++ leb 2 i.handle ++ zeros 4)

/-- P90_RX_DELIVERY. -/
def execP90RxDelivery (s : State) : Out := onDev p90Deliver s

/-! ## In-band management (R46 to R49) -/

/-- MRAM keeps both replay counters after every 4,096 accepted requests (R48). -/
def Chan.replayStored (c : Chan) : Chan :=
  if c.accepted % 4096 == 0 then { c with mramRx := c.rxReplay, mramTx := c.txReplay } else c

/-- A rejected management frame: its counter, and SYS_MGMT_REJECT at most once per second per port. -/
def Dev.mgmtReject (d : Dev) (port counter reason : Nat) : Dev := (d.count 1 counter).postLimited 0x0103 port port reason

/-- The request a MESSAGE holds (R46): a mailbox slot's bytes. -/
def messageReq (ch : Nat) (m : Bytes) : HostReq :=
  { opcode := le m 0 2
    rq := { ch := ch, length := le m 2 2, seq := le m 4 2, flags := le m 6 2, txn := le m 8 4, resv := le m 12 4
            payload := m.drop 16, bulkReads := [], bulkWriteFail := none } }

/-- IN_BAND_REQUEST_FRAME: the checks of R47, then the request is taken. A frame longer than the port's MAX_FRAME is no message (R49), and
in twin mode P9 carries none (R10). DESIGN CHOICE (log 83): a frame for a channel that is not bound in-band counts in MGMT_NOT_PERMITTED
with reason 1, and the VLAN compared is the outer tag's VID, 0 where the frame is untagged or priority-tagged. -/
def inBandRequest (f : RxFrame) (d : Dev) : Dev :=
  let g := gristL2 f.bytes
  let o := g.etypeOff + 2
  let mine := g.etype == 0x88B5 && byteAt f.bytes o == 1 && g.da == Config.baseMac
  let arrives := decide (f.port < 50) && decide (frameLen f.bytes ≤ (d.port f.port).maxFrame) && !(f.port == 9 && d.twin.enable)
  if !(mine && f.fcsOk && f.violations == 0 && arrives) || !d.takesRequests then d
  else
    let ch := byteAt f.bytes (o + 2)
    let len := le f.bytes (o + 12 + 2) 2
    if byteAt f.bytes (o + 1) ≠ 1 ∨ ch < 1 ∨ 7 < ch then d.mgmtReject f.port 4 2
    else
      let c := d.chan ch
      let vid := if g.vlanCount == 0 then 0 else g.outer % 4096
      if !c.inband || !bit c.portMask f.port || vid != c.vlan || (c.peerMac != 0 && g.sa != c.peerMac) then
        d.mgmtReject f.port 3 1
      else if byteAt f.bytes (o + 3) ≠ 0 ∨ f.bytes.length < o + 12 + 16 + len + 16 then d.mgmtReject f.port 4 2
      else
        let body := slice f.bytes o (12 + 16 + len)
        let mac := slice f.bytes (o + 12 + 16 + len) 16
        let check := d.firmwareCmac c.keySlot body
        let d := check.2
        let replay := be f.bytes (o + 4) 8
        if check.1 ≠ some mac then d.mgmtReject f.port 1 3
        else if replay ≤ c.rxReplay then d.mgmtReject f.port 2 4
        else if 16 ≤ c.outstanding then d
        else
          let r := messageReq ch (slice f.bytes (o + 12) (16 + len))
          let d1 := (d.modChan ch (fun c => Chan.replayStored { c with rxReplay := replay, accepted := c.accepted + 1 })).count 1 0
          (d1.take { opcode := r.opcode, rq := r.rq, origin := some { port := f.port, vlan := vid, sa := g.sa } }).drainAll ch

/-- IN_BAND_REQUEST_FRAME. -/
def execInBandRequestFrame (f : RxFrame) (s : State) : Out := onDev (inBandRequest f) s

/-! ## System commands -/

/-- SYS_IDENTIFY's 64 bytes. -/
def Dev.identity (d : Dev) : Bytes :=
  leb 4 0x9663 ++ leb 1 0x11 ++ leb 1 d.keep.lifecycle ++ leb 1 (stageCode d.host.stage) ++ leb 1 (b2n d.host.spi) ++ slice Config.uid 0 16 ++
    beb 6 Config.baseMac ++ leb 1 (b2n d.safety.split) ++ leb 1 (b2n d.twin.strap + 2 * b2n d.twin.act) ++ leb 2 0x0100 ++ zeros 30

/-- SYS_IDENTIFY. -/
def sysIdentify (rq : Req) (d : Dev) : Dev := d.serve 0x0101 rq (rspMax 64) (fun d _ bs => withLayout d 0 [] bs (ansOk d d.identity))

/-- SYS_IDENTIFY. -/
def execSysIdentify (rq : Req) (s : State) : Out := onDev (sysIdentify rq) s

/-- A version record. -/
def versionRecord (comp bank state version build epoch : Nat) : Bytes :=
  leb 1 comp ++ leb 1 bank ++ leb 1 state ++ zeros 1 ++ leb 4 version ++ leb 4 build ++ leb 4 epoch

/-- SYS_VERSION's 11 records (R382). -/
def Dev.versions (d : Dev) : Bytes :=
  [1, 2, 3, 4, 5].flatMap (fun c => [0, 1].flatMap (fun b =>
    let k := d.fwBank c b
    versionRecord c b k.state k.version k.build k.epoch)) ++
  versionRecord 0 0xFF 2 Config.romVersion Config.romBuild Config.romEpoch

/-- SYS_VERSION. -/
def sysVersion (rq : Req) (d : Dev) : Dev := d.serve 0x0102 rq (rspMax 176) (fun d _ bs => withLayout d 0 [] bs (ansOk d d.versions))

/-- SYS_VERSION. -/
def execSysVersion (rq : Req) (s : State) : Out := onDev (sysVersion rq) s

/-- SYS_RESET: the reset begins at least 100 us after the response; BUSY while a COMMIT runs. -/
def sysReset (rq : Req) (d : Dev) : Dev :=
  d.serve 0x0103 rq (rspMax 0) (fun d _ bs => withLayout d 8 [fr 0 1 1 2, fr 4 4 0x6C797377 0x6C797377] bs
    (if d.txn.committing.isSome then ansErr d stBusy
     else ansOk { d with boot := { d.boot with resetDue := some (d.uptime + 100000, byteAt bs 0, 0) } } []))

/-- SYS_RESET. -/
def execSysReset (rq : Req) (s : State) : Out := onDev (sysReset rq) s

/-- A claim's place in a list: by type and index. -/
def Claim.rank (c : Claim) : Nat := c.type * 65536 + c.index

/-- Claims in order of type and index. -/
def putClaim (c : Claim) : List Claim → List Claim
  | [] => [c]
  | x :: t => if c.rank < x.rank then c :: x :: t else x :: putClaim c t

/-- A TIME_IO or WAKE pin from 8 to 15 is one pin whichever type it is claimed under. -/
def sharedPin (type index : Nat) : Bool := (type == 1 || type == 2) && decide (8 ≤ index) && decide (index < 16)

/-- A claim is listed by a query. -/
def claimListed (type index : Nat) (c : Claim) : Bool :=
  (index == 0xFF || c.index == index) &&
  (type == 0xFF || c.type == type || ((type == 1 || type == 2) && sharedPin c.type c.index))

/-- SYS_CLAIMS_LIST (R26). -/
def sysClaimsList (rq : Req) (d : Dev) : Dev :=
  d.serve 0x0104 rq (rspMax 4008) (fun d _ bs => withLayout d 8 [fa 0 4] bs
    (let ty := byteAt bs 0
     if !(ty == 0xFF || (decide (1 ≤ ty) && decide (ty ≤ 6))) then ansErr d stBadParam
     else
       let all := ((d.claims.foldl (fun l c => putClaim c l) []).filter (claimListed ty (byteAt bs 1))).drop (le bs 2 2)
       let got := all.take 500
       let next := if all.length ≤ 500 then 0xFFFF else le bs 2 2 + 500
       ansOk d (leb 2 got.length ++ leb 2 next ++ zeros 4 ++
         got.flatMap (fun c => leb 1 c.type ++ leb 1 c.index ++ leb 2 c.amount ++ leb 4 c.owner))))

/-- SYS_CLAIMS_LIST. -/
def execSysClaimsList (rq : Req) (s : State) : Out := onDev (sysClaimsList rq) s

/-- The counters of the selected class regions (R58). -/
def Dev.latchCounters (d : Dev) (mask : Nat) : Tab Nat :=
  let inMask := fun (e : Nat × Nat) => bit mask (e.1 / 32768)
  (d.host.counters.filter inMask).foldl (fun t e => tabPut t e.1 e.2) (d.host.snapshot.filter (fun e => !inMask e))

/-- SYS_COUNTER_SNAPSHOT: latch and copy are one step, so that no second one finds it running. -/
def sysCounterSnapshot (rq : Req) (d : Dev) : Dev :=
  d.serve 0x0105 rq (rspMax 12) (fun d _ bs => withLayout d 8 [fa 0 2] bs
    (if bit (byteAt bs 0) 0 then ansErr d stBadParam
     else ansOk { d with host := { d.host with snapshot := d.latchCounters (le bs 0 2) } } (t80le d.now ++ zeros 2)))

/-- SYS_COUNTER_SNAPSHOT. -/
def execSysCounterSnapshot (rq : Req) (s : State) : Out := onDev (sysCounterSnapshot rq) s

/-- SYS_COUNTER_CLEAR (R59). -/
def sysCounterClear (rq : Req) (d : Dev) : Dev :=
  d.serve 0x0106 rq (rspMax 0) (fun d _ bs => withLayout d 8 [fr 0 1 1 15, fr 2 2 0 32767, fr 4 2 1 32768] bs
    (let first := le bs 2 2
     let n := le bs 4 2
     if 32768 < first + n then ansErr d stBadParam
     else
       let lo := counterKey (byteAt bs 0) first
       ansOk { d with host := { d.host with counters := d.host.counters.filter (fun e => !(decide (lo ≤ e.1) && decide (e.1 < lo + n))) } } []))

/-- SYS_COUNTER_CLEAR. -/
def execSysCounterClear (rq : Req) (s : State) : Out := onDev (sysCounterClear rq) s

/-- The SEQNUM of the oldest event of the history; of the next event where there is none. -/
def Dev.oldestSeq (d : Dev) : Nat := match d.host.history with
  | e :: _ => e.seq
  | [] => d.host.evtSeq

/-- SYS_EVENT_FETCH (R52). The PHASE of an entry of the history is open: a free value. -/
def sysEventFetch (rq : Req) (d : Dev) : Dev :=
  d.serve 0x0107 rq (rspMax 2056) (fun d _ bs => withLayout d 8 [fa 0 4, fr 4 2 1 64] bs
    (let old := d.oldestSeq
     let off := signed 32 (le bs 0 4 + 2 ^ 32 - old)
     if off < 0 then ansErrD d stNotFound old
     else
       let got := (d.host.history.drop off.toNat).take (le bs 4 2)
       let d1 := { d with freeIx := d.freeIx + got.length }
       ansOk d1 (leb 2 got.length ++ zeros 2 ++ leb 4 old ++
         (got.zipIdx.flatMap (fun x => evtBytes x.1 (bit (Config.freeNat (d.freeIx + x.2)) 0))))))

/-- SYS_EVENT_FETCH. -/
def execSysEventFetch (rq : Req) (s : State) : Out := onDev (sysEventFetch rq) s

/-- SYS_CHANNEL_CFG's checks. -/
def checkChannelCfg : Dev → Bytes → Nat :=
  checkLayout 24 [fr 0 1 1 7, fr 1 1 0 1, fa 2 1, fr 3 1 0 7, fr 4 2 0 4094, fa 6 6, fr 0x0C 12 0 (2 ^ 90 - 1)] (fun _ => true)

/-- SYS_CHANNEL_CFG. -/
def execSysChannelCfg (rq : Req) (s : State) : Out := onDev (Dev.serveStaged 0x0108 rq checkChannelCfg) s

/-- SYS_CHANNEL_CFG committed: it takes effect by CHANNEL_REBIND (R60). -/
def applyChannelCfg (bs : Bytes) (d : Dev) : Dev := d.modChan (byteAt bs 0) (fun c => { c with rebind := some bs })

/-- The channel whose COMMIT response has not been posted yet: TXN_BEGIN (08) and a rebinding (R60) wait for it. -/
def Dev.unpostedCommit (d : Dev) : Option Nat :=
  (d.chans.find? (fun c => c.2.completed.any (fun r => r.opcode == 0x0602 && r.status == stOk))).map (fun c => c.1)

/-- CHANNEL_REBIND: once the COMMIT's response and those of every command taken on the old binding have been posted (R60). -/
def channelRebind (ch : Nat) (d : Dev) : Dev :=
  let c := d.chan ch
  match c.rebind with
  | none => d
  | some bs =>
    if d.txn.committing.isSome || d.unpostedCommit.isSome || !c.taken.isEmpty || c.running.isSome || !c.completed.isEmpty then d
    else
      (d.modChan ch (fun c => { c with
        rebind := none, inband := byteAt bs 1 == 1, keySlot := byteAt bs 2, tc := byteAt bs 3, vlan := le bs 4 2
        peerMac := le bs 6 6, portMask := le bs 0x0C 12 })).resetChannel ch 3

/-- CHANNEL_REBIND. -/
def execChannelRebind (ch : Nat) (s : State) : Out := onDev (channelRebind ch) s

end Sys2Proof.Machine
end

