-- ==== Sys2Proof/Machine/Ecc.lean ====
section
/-! DEFINITION. The ECC engine (chapter 12, R329): its queue in arrival order, the checks at an operation's start, its completion,
and the attestation statement (R331). -/

namespace Sys2Proof.Machine

open Sys2Proof

/-- An operation on a slot's key: a signature by the host over a digest. -/
def eccSign (ch slot : Nat) (digest : Bytes) : EccOp :=
  { kind := 0, ch := ch, slot := some slot, started := false, gen := 0, cask := false, root := none, curve := 0, pub := [], digest := digest
    sig := [], head := [] }

/-- The checks at an operation's start (R322 for the ECC key register). -/
def Dev.eccStatus (d : Dev) (op : EccOp) : Nat :=
  match op.slot with
  | none => stOk
  | some i =>
    let u : KeyUser := if op.cask then .cask else .host
    let st := if op.kind == 1 then d.keyStatus u i 5 0 [4, 5, 6, 7] else d.keyStatus u i 4 1 (if op.root.isSome then [4] else [4, 5])
    if (st == stOk || st == stUsageExhausted) && (match op.root with | some r => (d.keySlot i).root != r | none => false) then stNotPermitted
    else st

/-- An operation begins: the charge of a signature, the latch of GEN and key. -/
def Dev.eccBegin (d : Dev) (op : EccOp) : EccOp × Dev :=
  match op.slot with
  | none => ({ op with started := true }, d)
  | some i =>
    let k := d.keySlot i
    let op1 : EccOp := { op with started := true, gen := k.gen, curve := curveOf k.type, pub := k.pubBytes }
    if op.kind == 1 then (op1, d)
    else
      let d1 := d.charge i 1
      (op1, { d1 with keep := { d1.keep with eccKey := k.key } })

/-- Replace the queue. -/
def Dev.putEcc (d : Dev) (q : List EccOp) : Dev := { d with keep := { d.keep with eccQueue := q } }

/-- Begin the operation at the head; those that fail their checks are answered, `n` at most. -/
def Dev.eccNext : Nat → Dev → Dev
  | 0, d => d
  | n + 1, d =>
    match d.keep.eccQueue with
    | [] => d
    | op :: t =>
      if op.started then d
      else
        let st := d.eccStatus op
        if st == stOk then
          let b := d.eccBegin op
          b.2.putEcc (b.1 :: t)
        else Dev.eccNext n (((d.putEcc t).keyRefused st).complete op.ch st 0 [])

/-- Submit an operation: its checks are made at once where the engine is free. -/
def Dev.eccSubmit (d : Dev) (op : EccOp) : Ans :=
  if d.keep.eccQueue.isEmpty then
    let st := d.eccStatus op
    if st == stOk then
      let b := d.eccBegin op
      .wait (b.2.putEcc [b.1])
    else ansErr (d.keyRefused st) st
  else .wait (d.putEcc (d.keep.eccQueue ++ [op]))

/-! ## Attestation (R331) -/

/-- The images in force have been selected: from stage LOADING to RUN. -/
def Dev.digestsValid (d : Dev) : Bool :=
  decide (d.host.stage = .loading) || decide (d.host.stage = .admitting) || decide (d.host.stage = .run)

/-- The first 8 bytes of a key's SHA-256; 0 where there is no key. -/
def authId (key : Bytes) : Bytes := if key.isEmpty then zeros 8 else slice (Config.sha256 key) 0 8

/-- The statement's bytes 0x000 to 0x157. -/
def Dev.statement (d : Dev) (nonce : Bytes) : Bytes :=
  let t := d.lantern.tamper
  let valid := d.digestsValid
  let dig := fun (c : Nat) => if valid then d.imageDigest c else zeros 32
  leb 2 0x0100 ++ leb 1 d.keep.lifecycle ++ leb 1 (stageCode d.host.stage) ++ leb 1 0x11 ++
    leb 1 (b2n valid + 2 * b2n (t.latched != 0) + 4 * b2n d.twin.act + 8 * b2n d.safety.split) ++ zeros 2 ++ slice Config.uid 0 16 ++
    slice nonce 0 16 ++ t80le d.now ++ leb 1 d.qualityNow ++ zeros 1 ++ leb 4 t.seq ++ leb 1 t.lastSrc ++ zeros 3 ++ t80le t.lastTime ++ zeros 2 ++
    slice Config.romDigest 0 32 ++ dig 1 ++ dig 2 ++ dig 5 ++ leb 4 (d.inForce 1).version ++ leb 4 (d.inForce 2).version ++
    slice d.cask.params 0 4 ++ leb 4 d.txn.generation ++ authId d.keep.ownerAuth ++ authId d.keep.legalAuth ++ leb 8 (d.mono 1) ++
    leb 8 (d.mono 2) ++ slice Config.transportPub 0 96

/-! ## Completion (R329, R326) -/

/-- The slot as it stands at a release compared with what was latched: OK, KEY_CHANGED or KEY_REVOKED (R326, R327). -/
def Dev.releaseStatus (d : Dev) (i gen : Nat) : Nat :=
  let k := d.keySlot i
  if k.state != 1 then stKeyRevoked else if k.gen != gen then stKeyChanged else stOk

/-- A withheld output is counted: WITHHELD_CHANGED, WITHHELD_REVOKED. -/
def Dev.withheldCount (d : Dev) (st : Nat) : Dev :=
  if st == stKeyChanged then d.count 11 5 else if st == stKeyRevoked then d.count 11 6 else d

/-- ECC_CMP: the command is answered FAULT, and the fault is of class F2 for a LEGAL-root key (R329). -/
def Dev.eccFault (d : Dev) (op : EccOp) : Dev :=
  let root := match op.slot with
    | some i => (d.keySlot i).root
    | none => 0
  (d.complete op.ch stFault (faultDetail 0x0302 (if root == 3 then 2 else 1)) []).count 11 9 |>.fault (root == 3) 0x0302 (op.slot.getD 0xFF) 0

/-- An operation's end: the key register is zeroed; a signature is released only verified and with its slot unchanged. -/
def Dev.eccEnd (d : Dev) (op : EccOp) (ok : Bool) : Dev :=
  if op.kind == 1 then
    d.complete op.ch stOk 0 (leb 1 (if Config.ecdsaVerify op.curve op.pub op.digest op.sig then 0 else 1) ++ zeros 3)
  else if !ok then d.eccFault op
  else if op.kind == 2 then
    let st := d.statement op.head
    (d.hashed st.length).complete op.ch stOk 0 (st ++ slice (Config.attestSign (Config.sha384 st)) 0 96)
  else
    let i := op.slot.getD 0
    let st := d.releaseStatus i op.gen
    if st == stOk then
      d.complete op.ch stOk 0 (op.head ++ slice (Config.ecdsaSign op.curve d.keep.eccKey op.digest) 0 (if op.curve == 2 then 96 else 64))
    else (d.withheldCount st).complete op.ch st 0 []

/-- ECC_OPERATION_COMPLETE: the operation at the head ends; a signature whose verification failed was made once more. -/
def eccComplete (firstOk secondOk : Bool) (d : Dev) : Dev :=
  match d.keep.eccQueue with
  | [] => d
  | op :: t =>
    if !op.started then d
    else
      let d1 := ((d.putEcc t).eccCount).eccEnd op (firstOk || secondOk)
      let d2 := { d1 with keep := { d1.keep with eccKey := [] } }
      Dev.eccNext (d2.keep.eccQueue.length + 1) d2

/-- ECC_OPERATION_COMPLETE. -/
def execEccOperationComplete (firstOk secondOk : Bool) (s : State) : Out := onDev (eccComplete firstOk secondOk) s

end Sys2Proof.Machine
end

