-- ==== Sys2Proof/Machine/Keep.lean ====
section
/-! DEFINITION. Keep (chapter 12): authenticated update messages, the cipher engine, the random number generator, the tamper
sources and the lifecycle reset. -/

namespace Sys2Proof.Machine

open Sys2Proof

/-! ## Authenticated update messages (R317, R318) -/

/-- Header fields. -/
def msgType (m : Bytes) : Nat := byteAt m 0
/-- SIGNER. -/
def msgSigner (m : Bytes) : Nat := byteAt m 2
/-- BODY_LEN. -/
def msgBodyLen (m : Bytes) : Nat := le m 4 4
/-- COUNTER. -/
def msgCounter (m : Bytes) : Nat := le m 0x18 8
/-- The body. -/
def msgBody (m : Bytes) : Bytes := slice m 48 (msgBodyLen m)
/-- The signature. -/
def msgSignature (m : Bytes) : Bytes := m.drop (48 + msgBodyLen m)

/-- BODY_LEN is right for TYPE. -/
def bodyLenOk (m : Bytes) : Bool :=
  let n := msgBodyLen m
  match msgType m with
  | 1 => n == 224 | 2 => n == 16 | 3 => n == 4 | 4 => n == 104 | 5 => n == 8 | 6 => decide (1044 ≤ n) && decide (n ≤ 1048576)
  | _ => decide (4 ≤ n) && decide (n ≤ 1048576)

/-- The root a key message is about: of an erasure, that of the key in the slot. -/
def Dev.msgRoot (d : Dev) (m : Bytes) : Nat :=
  if msgType m == 3 then (if (d.keySlot (byteAt (msgBody m) 0)).state == 0 then 0 else (d.keySlot (byteAt (msgBody m) 0)).root)
  else byteAt (msgBody m) 2

/-- The SIGNER that R317's table gives, none at a dash. -/
def Dev.msgSignerFor (d : Dev) (m : Bytes) : Option Nat :=
  let lc := d.keep.lifecycle
  let new := byteAt (msgBody m) 0
  match msgType m with
  | 4 =>
    if lc == 0 then (if new == 1 then some 1 else none)
    else if lc == 1 then (if new == 2 then some 2 else if new == 4 then some 0 else none)
    else if lc == 2 || lc == 3 then some 2
    else none
  | 5 => if lc ≤ 1 then some 0 else if lc ≤ 3 then some 2 else some 1
  | 6 => if lc == 1 then some 0 else if lc == 2 then some 2 else if lc == 3 then some 3 else none
  | t =>
    if 3 < t then none
    else
      let root := d.msgRoot m
      if lc == 1 && root == 1 then some 0
      else if (lc == 2 || lc == 3) && root == 2 then some 2
      else if lc == 3 && root == 3 then some 3
      else none

/-- The public key of a signer: that of a LIFECYCLE message to OWNED stands in its body. -/
def Dev.signerKey (d : Dev) (m : Bytes) : Bytes :=
  match msgSigner m with
  | 1 => slice Config.lyswinPub 0 96
  | 2 => if d.keep.lifecycle == 1 && msgType m == 4 then slice (msgBody m) 8 96 else d.keep.ownerAuth
  | 3 => d.keep.legalAuth
  | _ => []

/-- The signature holds under R317. -/
def Dev.msgSigned (d : Dev) (m : Bytes) : Bool :=
  d.msgSignerFor m == some (msgSigner m) &&
  (if msgSigner m == 0 then allZero (msgSignature m)
   else
    let k := d.signerKey m
    !k.isEmpty && Config.ecdsaVerify 2 k (Config.sha384 (m.take (48 + msgBodyLen m))) (msgSignature m))

/-- The counter a message is judged by. -/
def msgCounterIndex (m : Bytes) : Nat := if msgSigner m == 3 then 2 else 1

/-- The body's fields lie in their ranges and its reserved fields are zero. -/
def bodyFieldsOk (m : Bytes) : Bool :=
  let b := msgBody m
  match msgType m with
  | 1 =>
    layoutOk [fa 0 1, fr 1 1 1 7, fr 2 1 1 3, fa 4 2, fa 6 2, fa 8 4, fa 0x0C 4, fa 0x10 96, fa 0x70 16, fa 0x80 96] b &&
    le b 6 2 == keyLen (byteAt b 1) && usageAllowed (byteAt b 1) (byteAt b 2) (le b 4 2)
  | 2 =>
    layoutOk [fa 0 1, fr 1 1 1 5, fr 2 1 1 3, fa 4 2, fa 8 4, fa 0x0C 4] b && usageAllowed (byteAt b 1) (byteAt b 2) (le b 4 2)
  | 3 => layoutOk [fa 0 1] b
  | 4 => layoutOk [fr 0 1 0 4, fa 8 96] b && (byteAt b 0 == 2 || byteAt b 0 == 3 || allZero (slice b 8 96))
  | 5 => layoutOk [fa 0 4] b
  | _ => true

/-- The header's fields lie in their ranges. -/
def headerFieldsOk (m : Bytes) : Bool :=
  layoutOk [fr 0 1 1 6, fr 1 1 1 1, fr 2 1 0 3, fa 4 4, fa 8 16, fa 0x18 8] (m.take 48)

/-- The first failure of R318 steps 1 to 4, for a command that takes some TYPEs; the status OK where there is none. -/
def Dev.msgStatus (d : Dev) (takes : List Nat) (m : Bytes) : Nat :=
  if m.length < 148 ∨ m.length ≠ 48 + msgBodyLen m + 96 ∨ bodyLenOk m = false then stBadLength
  else if slice m 8 16 ≠ slice Config.uid 0 16 ∨ d.msgSigned m = false then stAuthFail
  else if msgCounter m ≤ d.mono (msgCounterIndex m) then stStaleCounter
  else if !headerFieldsOk m || !bodyFieldsOk m || !takes.contains (msgType m) then stBadParam
  else stOk

/-- The work a message's check puts on the engines: its hash, and a verification. -/
def Dev.msgWork (d : Dev) (m : Bytes) : Dev :=
  let d1 := d.hashed (48 + msgBodyLen m)
  if msgSigner m == 0 then d1 else d1.eccCount

/-- A message is applied: its counter, UPDATE_OK, KEEP_UPDATE_APPLIED. -/
def Dev.msgApplied (d : Dev) (m : Bytes) (slot : Nat) : Dev :=
  let d1 := (d.setMono (msgCounterIndex m) (msgCounter m)).count 11 10
  d1.post 0x0B05 slot (msgType m + msgCounter m % 2 ^ 56 * 2 ^ 8)

/-- A refused message. -/
def Dev.msgRefused (d : Dev) : Dev := d.count 11 11

/-- The slot holds a key of another root, VALID or REVOKED (R319). -/
def Dev.rootConflict (d : Dev) (slot root : Nat) : Bool := (d.keySlot slot).state != 0 && (d.keySlot slot).root != root

/-- A conflict with a slot: class 0x0B, object the slot. -/
def slotConflict (i : Nat) : Nat := 0x0B * 2 ^ 24 + i

/-- The slot a key message writes. -/
def installedSlot (origin : Nat) (b key : Bytes) (limOff labOff : Nat) : KeySlot :=
  let type := byteAt b 1
  let pub := if 6 ≤ type then key else if 4 ≤ type then Config.ecPublic (curveOf type) key else []
  { keySlot0 with
    state := 1, type := type, root := byteAt b 2, origin := origin, parent := 0xFF, usage := le b 4 2, useLimit := le b limOff 4
    label := le b labOff 4, key := if 6 ≤ type then [] else key, pub := pub }

/-- The response of an update: the slot and its generation. -/
def Dev.updateResponse (d : Dev) (i : Nat) : Bytes := leb 1 i ++ zeros 1 ++ leb 2 (d.keySlot i).gen ++ zeros 4

/-- KEY_INSTALL (R319): the key is opened with the transport key's KDF. -/
def Dev.applyInstall (d : Dev) (m : Bytes) : Ans :=
  let b := msgBody m
  let i := byteAt b 0
  if d.rootConflict i (byteAt b 2) then ansErrD d.msgRefused stConflict (slotConflict i)
  else
    let kdf := Config.transportKdf (slice b 0x10 96) (slice Config.uid 0 16 ++ slice m 0x18 8 ++ [BitVec.ofNat 8 i])
    match Config.sivOpen kdf (m.take (48 + 0x70)) (slice b 0x70 16) (slice b 0x80 96) with
    | none => ansErr d.eccCount.msgRefused stAuthFail
    | some key =>
      let d1 := (d.eccCount.writeSlot i (installedSlot 1 b (slice key 0 (keyLen (byteAt b 1))) 8 0x0C)).msgApplied m i
      ansOk d1 (d1.updateResponse i)

/-- KEY_GENERATE: the key is drawn from the generator; FAULT while that has failed (R330). -/
def Dev.applyGenerate (d : Dev) (m : Bytes) : Ans :=
  let b := msgBody m
  let i := byteAt b 0
  if d.rootConflict i (byteAt b 2) then ansErrD d.msgRefused stConflict (slotConflict i)
  else if d.keep.rngFailed then ansErrD d.msgRefused stFault (faultDetail 0x0303 1)
  else
    let r := d.draw (keyLen (byteAt b 1))
    let d0 := if isPrivate (byteAt b 1) then r.2.eccCount else r.2
    let d1 := (d0.writeSlot i (installedSlot 2 b r.1 8 0x0C)).msgApplied m i
    ansOk d1 (d1.updateResponse i ++ (d1.keySlot i).pubBytes)

/-- KEY_ERASE. -/
def Dev.applyErase (d : Dev) (m : Bytes) : Ans :=
  let i := byteAt (msgBody m) 0
  let d1 := (d.eraseSlot i).msgApplied m i
  ansOk d1 (d1.updateResponse i)

/-- The lifecycle advances only in order; RETIRED from any state except BLANK (R310). -/
def lifecycleStep (old new : Nat) : Bool := (decide (old < 3) && new == old + 1) || (old != 0 && old != 4 && new == 4)

/-- LIFECYCLE (R312): written, and in force from the boot of the reset that follows. The response's SLOT and GEN name no slot:
they are free. -/
def Dev.applyLifecycle (d : Dev) (m : Bytes) : Ans :=
  let b := msgBody m
  if !lifecycleStep d.keep.lifecycle (byteAt b 0) then ansErr d.msgRefused stBadParam
  else
    let d0 := d.mramWrote 1
    let d1 := { d0 with
      keep := { d.keep with lifecycleNext := byteAt b 0, authNext := slice b 8 96 }
      boot := { d.boot with resetDue := some (d.uptime + 100000, 1, 2) }
      freeIx := d.freeIx + 2 }
    ansOk (d1.msgApplied m 0xFF) (leb 1 (Config.freeNat d.freeIx) ++ zeros 1 ++ leb 2 (Config.freeNat (d.freeIx + 1)) ++ zeros 4)

/-- KEEP_UPDATE's checks and effect (R318, R334, R363). -/
def updateBody (d : Dev) (m : Bytes) : Ans :=
  if d.keep.locked then ansErr (d.msgRefused.count 11 7) stTampered
  else if msgType m == 4 && d.safety.split then ansErr d.msgRefused stWrongMode
  else
    let st := d.msgStatus [1, 2, 3, 4] m
    let d1 := if st == stBadLength then d else d.msgWork m
    if st != stOk then ansErr d1.msgRefused st
    else match msgType m with
      | 1 => d1.applyInstall m
      | 2 => d1.applyGenerate m
      | 3 => d1.applyErase m
      | _ => d1.applyLifecycle m

/-! ## The cipher engine (R322 to R328) -/

/-- A register page. -/
def Dev.page (d : Dev) (p : Nat) : Page := tabGet page0 d.keep.pages p

/-- Change a page. -/
def Dev.modPage (d : Dev) (p : Nat) (f : Page → Page) : Dev := { d with keep := { d.keep with pages := tabMod page0 d.keep.pages p f } }

/-- The requester that owns a page: page 1 Cask's, the others the Spire pair's (12, Page owners). -/
def ownsPage (d : Dev) (requester p : Nat) : Bool :=
  if p == 1 then requester == 7 else requester == 0 || (requester == 1 && d.safety.split && decide (9 ≤ p))

/-- CIPHER_PAGE_GO: a foreign access is ignored and counted in PAGE_VIOLATION; a page whose GO is 1 takes no second job. -/
def pageGo (requester p : Nat) (j : PageJob) (d : Dev) : Dev :=
  if 16 ≤ p then d
  else if !ownsPage d requester p then d.count 11 16
  else if (d.page p).go then d
  else d.modPage p (fun _ => { page0 with
    go := true, dir := j.dir % 2, slot := j.slot % 256, nblocks := j.nblocks % 8192, src := j.src, dst := j.dst, lst := j.lst })

/-- CIPHER_PAGE_GO. -/
def execCipherPageGo (requester page : Nat) (j : PageJob) (s : State) : Out := onDev (pageGo requester page j) s

/-- Who names the slot of a page's job. -/
def pageUser (p : Nat) : KeyUser := if p == 1 then .cask else if 2 ≤ p ∧ p ≤ 8 then .host else .firmware

/-- The checks of R322 on a page's job. -/
def Dev.pageStatus (d : Dev) (p : Nat) : Nat :=
  let g := d.page p
  if g.nblocks < 1 ∨ 4096 < g.nblocks then stBadLength else d.keyStatus (pageUser p) g.slot g.dir g.nblocks [1, 2, 3]

/-- A job ends: its STATUS, GO at 0; a host's command is answered. -/
def Dev.endJobD (d : Dev) (p st detail : Nat) (out : Bytes) : Dev :=
  let g := d.page p
  let d1 := d.modPage p (fun g => { g with go := false, status := st, input := [] })
  let d2 := { d1 with keep := { d1.keep with job := if d1.keep.job = some p then none else d1.keep.job } }
  if g.host then d2.complete (p - 1) st detail out else d2

/-- A job ends without a fault. -/
def Dev.endJob (d : Dev) (p st : Nat) (out : Bytes) : Dev := d.endJobD p st 0 out

/-- A job ends by a fault, DETAIL naming it (R367). -/
def Dev.endFault (d : Dev) (p detail : Nat) : Dev := d.endJobD p stFault detail []

/-- The next page in rotation that waits. -/
def Dev.nextPage (d : Dev) : Option Nat :=
  ((List.range 16).map (fun i => (d.keep.lastPage + 1 + i) % 16)).find? (fun p => (d.page p).go)

/-- A checked job starts: its blocks are charged, GEN and key are latched. -/
def Dev.startJob (d : Dev) (p : Nat) (input : Bytes) : Dev :=
  let g := d.page p
  let k := d.keySlot g.slot
  let d1 := (d.charge g.slot g.nblocks).modPage p (fun g => { g with gen := k.gen, done := 0, input := input })
  { d1 with keep := { d1.keep with job := some p, lastPage := p, workingKey := k.key } }

/-- Why the handle is bad: R118's reason. -/
def handleReason (d : Dev) (h : Nat) : Nat := match d.handle h with
  | .inl r => r
  | .inr _ => 2

/-- The Keep DMA of a page moves its blocks in a transfer through requester 8 by the page's latest-service time (R18); the blocks of a
host's job come and go with its command. -/
def Dev.pageTransfer (g : Page) (act : Dev → Dev) (d : Dev) : Dev := if g.host then act d else Dev.transferBy 8 g.nblocks g.lst act d

/-- CIPHER_JOB_START (R322): a job that fails its checks ends with nothing done and nothing charged. -/
def jobStart (d : Dev) : Dev :=
  if d.keep.job.isSome then d
  else match d.nextPage with
    | none => d
    | some p =>
      let g := d.page p
      let st := d.pageStatus p
      let served := fun (e : Dev) => { e with keep := { e.keep with lastPage := p } }
      if st != stOk then ((served d).keyRefused st).endJob p st []
      else if g.host then (served d).startJob p g.input
      else match d.hopperRead g.src (g.nblocks * 16) with
        | some bs => d.pageTransfer g (fun e => (served e).startJob p bs)
        | none => (served d).badHandle 8 g.src (handleReason d g.src)

/-- CIPHER_JOB_START. -/
def execCipherJobStart (s : State) : Out := onDev jobStart s

/-- A job's output, block by block (R322). -/
def cipherBlocks (key : Bytes) (inverse : Bool) (input : Bytes) (n : Nat) : Bytes :=
  (List.range n).flatMap (fun i => slice (Config.aes key inverse (slice input (16 * i) 16)) 0 16)

/-- The output goes to DST, or zeros where it is withheld. -/
def Dev.jobOutput (d : Dev) (g : Page) (bs : Bytes) : Dev :=
  if g.host then d
  else match d.hopperWrite g.dst bs with
    | some e => e
    | none => d.badHandle 8 g.dst (handleReason d g.dst)

/-- The release of page p's job: the inverse transform's verdict first (R324), then the slot against what was latched (R326, R327). -/
def Dev.releaseJob (p : Nat) (inverseOk : Bool) (d : Dev) : Dev :=
  let g := d.page p
  let key := d.keep.workingKey
  let out := cipherBlocks key (g.dir == 1) g.input g.nblocks
  let d1 := (({ d with keep := { d.keep with workingKey := [] } }).modPage p (fun g => { g with done := g.nblocks })).count 11 0
  if !inverseOk then
    let f2 := p == 1 || (d.keySlot g.slot).root == 3
    ((((d1.count 11 9).jobOutput g (zeros out.length)).endFault p (faultDetail 0x0301 (if f2 then 2 else 1)))).fault f2 0x0301 p 0
  else
    let st := d1.releaseStatus g.slot g.gen
    if st == stOk then (d1.jobOutput g out).endJob p stOk out
    else ((d1.withheldCount st).jobOutput g (zeros out.length)).endJob p st []

/-- CIPHER_JOB_RELEASE. -/
def jobRelease (inverseOk : Bool) (d : Dev) : Dev :=
  match d.keep.job with
  | none => d
  | some p => d.pageTransfer (d.page p) (Dev.releaseJob p inverseOk)

/-- CIPHER_JOB_RELEASE. -/
def execCipherJobRelease (inverseOk : Bool) (s : State) : Out := onDev (jobRelease inverseOk) s

/-! ## Random numbers (R330) -/

/-- A health test fails. -/
def Dev.rngFail (d : Dev) (kind : Nat) : Dev :=
  let n := d.keep.rngFailures + 1
  let d1 := { d with keep := { d.keep with rngFailed := true, rngFailures := n, rngStuck := decide (3 ≤ n), rngRetest := d.uptime + sec 1 } }
  ((d1.count 11 14).faultF1 0x0303 0 0).post 0x0B04 0 (kind + n % 256 * 2 ^ 8)

/-- RNG_HEALTH_FAIL. -/
def execRngHealthFail (kind : Nat) (s : State) : Out := onDev (fun d => if d.keep.rngFailed then d else d.rngFail kind) s

/-- RNG_RETEST: one second after the failure the test reruns. -/
def rngRetest (ok : Bool) (d : Dev) : Dev :=
  if !d.keep.rngFailed || d.keep.rngStuck || decide (d.uptime < d.keep.rngRetest) then d
  else if ok then { d with keep := { d.keep with rngFailed := false, rngFailures := 0 } }
  else d.rngFail 3

/-- RNG_RETEST. -/
def execRngRetest (ok : Bool) (s : State) : Out := onDev (rngRetest ok) s

/-! ## Tamper (R332 to R334) -/

/-- An entry of KEEP_TAMPER_CFG: ENABLE, ACTION, FILTER, LEVEL. -/
def tamperEntry (cfg : Bytes) (src : Nat) : Bytes := slice cfg (4 * src) 4

/-- RTC time in ns. -/
def Dev.rtcTime (d : Dev) : Nat := d.lantern.rtcS * 1000000000 + d.lantern.rtcSub * 1000000000 / 32768

/-- Both key registers and every derived slot are zeroed. -/
def Dev.zeroKeys (d : Dev) : Dev :=
  let wipe := fun (_ : Nat) (k : KeySlot) => if k.origin == 3 then { keySlot0 with gen := nextGen k.gen } else k
  { d with keep := { d.keep with workingKey := [], eccKey := [], slots := tabMap d.keep.slots wipe } }

/-- Key operations in progress are aborted with TAMPERED: the cipher engine's job, and the ECC engine's unless it attests. -/
def Dev.abortKeyOps (d : Dev) (src : Nat) : Dev :=
  let d1 := match d.keep.job with
    | some p => ((d.count 11 7).jobOutput (d.page p) (zeros ((d.page p).nblocks * 16))).endJob p stTampered []
    | none => d
  let d2 := match d1.keep.eccQueue with
    | op :: t => if op.started && op.kind != 2 then ((d1.putEcc t).count 11 7).complete op.ch stTampered 0 [] else d1
    | [] => d1
  let busy := d.keep.job.isSome || decide (d2.keep.eccQueue.length ≠ d.keep.eccQueue.length)
  let d3 := if busy && d.boot.legRuns then d2.legalLog 11 0 src else d2
  Dev.eccNext (d3.keep.eccQueue.length + 1) d3

/-- Latch an alarm: the next TAMPER_SEQ, the source and RTC time, an entry of the always-on log, KEEP_TAMPER. -/
def Dev.latchTamper (d : Dev) (src action : Nat) (asleep : Bool) : Dev :=
  let t := d.lantern.tamper
  let seq := (t.seq + 1) % 2 ^ 32
  let d1 := { d with lantern := { d.lantern with tamper := { t with
    seq := seq, latched := setBit t.latched src, lastSrc := src, lastTime := d.rtcTime } } }
  ((d1.aonWrite 2 src seq).count 11 12).post 0x0B01 seq (src + action * 2 ^ 8 + b2n asleep * 2 ^ 16)

/-- An alarm of ACTION LOCK or HOLD. In DOZE and DORMANT the device is woken through its ROM; awake the roots are locked, and HOLD
has the device reset within 5 ms. -/
def Dev.tamperResponse (d : Dev) (src action : Nat) : Dev :=
  let asleep := decide (d.lantern.power = .doze) || decide (d.lantern.power = .dormant)
  let d1 := d.latchTamper src action asleep
  if asleep then (d1.zeroKeys.noteWake 0x202).resetNow 1
  else
    let d2 := ({ d1 with keep := { d1.keep with locked := true } }).abortKeyOps src
    let d3 := d2.zeroKeys
    if action == 2 then
      { d3 with lantern := { d3.lantern with tamper := { d3.lantern.tamper with holdBy := some (d.uptime + ms 5) } } }
    else d3

/-- TAMPER_ALARM: an enabled source has been active for a number of AON cycles, 0 where it is no longer active. Past its filter it
becomes active, and LOG records a notice, LOCK and HOLD raise an alarm. -/
def tamperAlarm (src held : Nat) (d : Dev) : Dev :=
  let t := d.lantern.tamper
  let e := tamperEntry t.cfg src
  let put := fun (e : Dev) (a : Nat) => { e with lantern := { e.lantern with tamper := { e.lantern.tamper with active := a } } }
  if 8 ≤ src ∨ byteAt e 0 = 0 then d
  else if held == 0 then put d (clearBit t.active src)
  else if bit t.active src || (decide (src < 4) && decide (held < byteAt e 2)) then d
  else
    let d1 := put d (setBit t.active src)
    if byteAt e 1 == 0 then (d1.aonWrite 3 src 0).count 11 13 else d1.tamperResponse src (byteAt e 1)

/-- TAMPER_ALARM. -/
def execTamperAlarm (src held : Nat) (s : State) : Out := onDev (tamperAlarm src held) s

/-- TAMPER_HOLD_RESET. -/
def tamperHoldReset (d : Dev) : Dev :=
  match d.lantern.tamper.holdBy with
  | none => d
  | some _ =>
    ({ d with lantern := { d.lantern with tamper := { d.lantern.tamper with holdBy := none } } }).resetNow 1

/-- TAMPER_HOLD_RESET. -/
def execTamperHoldReset (s : State) : Out := onDev tamperHoldReset s

/-- LIFECYCLE_RESET (R312): the reset an accepted LIFECYCLE message asked for, from 100 us after its response. -/
def lifecycleReset (d : Dev) : Dev :=
  match d.boot.resetDue with
  | some r => if r.2.2 == 2 && decide (r.1 ≤ d.uptime) then d.resetNow r.2.1 else d
  | none => d

/-- LIFECYCLE_RESET. -/
def execLifecycleReset (s : State) : Out := onDev lifecycleReset s

end Sys2Proof.Machine
end

