-- ==== Sys2Proof/Machine/KeepCmds.lean ====
section
/-! DEFINITION. The Keep commands (chapter 12). -/

namespace Sys2Proof.Machine

open Sys2Proof

/-- KEEP_SLOT_INFO: an EMPTY slot names nothing to protect; the host names any other only with HOST (R314). -/
def keepSlotInfo (rq : Req) (d : Dev) : Dev :=
  d.serve 0x0B01 rq (rspMax 128) (fun d _ bs => withLayout d 4 [fa 0 1] bs
    (let k := d.keySlot (byteAt bs 0)
     if k.state != 0 && (!bit k.usage 7 || k.root == 3) then ansErr d stNotPermitted
     else ansOk d (slotRecord k ++ k.pubBytes)))

/-- KEEP_SLOT_INFO. -/
def execKeepSlotInfo (rq : Req) (s : State) : Out := onDev (keepSlotInfo rq) s

/-- KEEP_UPDATE. -/
def keepUpdate (rq : Req) (d : Dev) : Dev := d.serve 0x0B02 rq (rspMax 104) (fun d _ bs => updateBody d bs)

/-- KEEP_UPDATE. -/
def execKeepUpdate (rq : Req) (s : State) : Out := onDev (keepUpdate rq) s

/-! ## Derivation (R320) -/

/-- The usage bits a child TYPE permits and its parent's USAGE holds. -/
def childUsageOk (parent : KeySlot) (type usage : Nat) : Bool := usageAllowed type parent.root usage && usage &&& parent.usage == usage

/-- A block of the derivation: CMAC of [i] LABEL 00 CONTEXT UID [bits]. -/
def deriveBlock (key : Bytes) (i : Nat) (label context : Bytes) (bits : Nat) : Bytes :=
  cmac key (beb 4 i ++ label ++ zeros 1 ++ context ++ slice Config.uid 0 16 ++ beb 4 bits)

/-- The 512-bit AES-SIV key of the blobs of a root: R320's derivation with LABEL 0x424C4F42 and a CONTEXT of zeros (R316). -/
def blobKey (root : Nat) : Bytes :=
  (List.range 4).flatMap (fun i => deriveBlock (Config.rootKey root) (i + 1) (beb 4 0x424C4F42) (zeros 32) 512)

/-- A slot's blob as it stands in MRAM (R316): its framing, the synthetic IV and the encrypted key. -/
def blobBytes (i : Nat) (k : KeySlot) : Bytes :=
  blobHead i k ++ slice (Config.sivSeal (blobKey k.root) (blobHead i k) (slice k.material 0 96)) 0 112 ++ zeros 8

/-- Bytes a child needs. -/
def childBytes (type : Nat) : Nat := if type == 4 then 40 else if type == 5 then 56 else keyLen type

/-- The child's key from the derived bytes: of an ECC child the scalar (c mod (n - 1)) + 1. -/
def childKey (type : Nat) (bs : Bytes) : Bytes :=
  if isPrivate type then beb (keyLen type) (be bs 0 bs.length % (Config.curveOrder (curveOf type) - 1) + 1) else bs

/-- The child of a derivation. -/
def derivedSlot (parent : KeySlot) (pi type usage useLimit label : Nat) (key : Bytes) : KeySlot :=
  { keySlot0 with
    state := 1, type := type, root := parent.root, origin := 3, parent := pi, depth := parent.depth + 1, usage := usage
    parentGen := parent.gen, useLimit := useLimit, label := label, key := key
    pub := if isPrivate type then Config.ecPublic (curveOf type) key else [] }

/-- The slot a derivation or an erasure of a derived key names: EMPTY, REVOKED, or derived from the same parent. -/
def Dev.childOk (d : Dev) (child parent : Nat) : Bool :=
  let c := d.keySlot child
  c.state != 1 || (c.origin == 3 && c.parent == parent)

/-- KEEP_DERIVE's OP 0. -/
def deriveBody (d : Dev) (bs : Bytes) : Ans :=
  let pi := byteAt bs 1
  let ci := byteAt bs 2
  let type := byteAt bs 3
  let usage := le bs 4 2
  let n := ceilDiv (childBytes type) 16
  let p := d.keySlot pi
  let st := d.keyStatus .host pi 3 n [1, 2, 3]
  if st != stOk then ansErr (d.keyRefused st) st
  else if !childUsageOk p type usage || decide (7 < p.depth + 1) then ansErr d stBadParam
  else if !d.childOk ci pi then ansErr d stNotPermitted
  else
    let len := childBytes type
    let blocks := (List.range n).flatMap (fun i => deriveBlock p.key (i + 1) (slice bs 0x0C 4) (slice bs 0x10 32) (len * 8))
    let d0 := d.charge pi n
    let d1 := (if isPrivate type then d0.eccCount else d0).writeSlot ci
      (derivedSlot p pi type usage (le bs 8 4) (le bs 0x0C 4) (childKey type (slice blocks 0 len)))
    ansOk d1 (leb 2 (d1.keySlot ci).gen ++ zeros 2 ++ (if isPrivate type then (d1.keySlot ci).pubBytes else []))

/-- KEEP_DERIVE's OP 1: the child of the parent is erased. -/
def eraseChildBody (d : Dev) (bs : Bytes) : Ans :=
  let pi := byteAt bs 1
  let ci := byteAt bs 2
  let st := d.keyStatus .host pi 3 0 [1, 2, 3]
  if st != stOk then ansErr (d.keyRefused st) st
  else if !d.childOk ci pi then ansErr d stNotPermitted
  else
    let d1 := d.eraseSlot ci
    ansOk d1 (leb 2 (d1.keySlot ci).gen ++ zeros 2)

/-- KEEP_DERIVE. -/
def keepDerive (rq : Req) (d : Dev) : Dev :=
  d.serve 0x0B03 rq (rspMax 100) (fun d _ bs =>
    withLayout d 48 [fr 0 1 0 1, fa 1 1, fa 2 1, if byteAt bs 0 == 1 then fa 3 1 else fr 3 1 1 5, fa 4 2, fa 8 4, fa 0x0C 4, fa 0x10 32] bs
      (if byteAt bs 0 == 1 then eraseChildBody d bs else deriveBody d bs))

/-- KEEP_DERIVE. -/
def execKeepDerive (rq : Req) (s : State) : Out := onDev (keepDerive rq) s

/-! ## Cipher, signatures, hashes -/

/-- KEEP_CIPHER (R322, R323): the job of the channel's page. -/
def keepCipher (rq : Req) (d : Dev) : Dev :=
  d.serve 0x0B04 rq (fun _ bs => bs.length - 4) (fun d ch bs =>
    let n := (bs.length - 4) / 16
    if bs.length < 4 ∨ (bs.length - 4) % 16 ≠ 0 ∨ n < 1 ∨ 4096 < n then ansErr d stBadLength
    else if 1 < byteAt bs 1 ∨ le bs 2 2 ≠ 0 then ansErr d stBadParam
    else if decide (256 < n) && !reqBulkRsp rq then ansErrD d stNoResource (n * 16)
    else if (d.page (ch + 1)).go then ansErr d stBusy
    else .wait (d.modPage (ch + 1) (fun _ => { page0 with
      go := true, dir := byteAt bs 1, slot := byteAt bs 0, nblocks := n, host := true, input := bs.drop 4 })))

/-- KEEP_CIPHER. -/
def execKeepCipher (rq : Req) (s : State) : Out := onDev (keepCipher rq) s

/-- The digest a HASH_ALG gives of the data: supplied (32 or 48 bytes), SHA-256 or SHA-384; none for a wrong length. -/
def digestOf (alg : Nat) (bs : Bytes) : Option Bytes :=
  match alg with
  | 0 => if bs.length == 32 || bs.length == 48 then some bs else none
  | 1 => some (slice (Config.sha256 bs) 0 32)
  | _ => some (slice (Config.sha384 bs) 0 48)

/-- Data hashed for a HASH_ALG is counted. -/
def Dev.hashedFor (d : Dev) (alg : Nat) (bs : Bytes) : Dev := if alg == 0 then d else d.hashed bs.length

/-- KEEP_SIGN. -/
def keepSign (rq : Req) (d : Dev) : Dev :=
  d.serve 0x0B05 rq (rspMax 96) (fun d ch bs =>
    if bs.length < 4 then ansErr d stBadLength
    else if 2 < byteAt bs 1 then ansErr d stBadParam
    else match digestOf (byteAt bs 1) (bs.drop 4) with
      | none => ansErr d stBadLength
      | some g =>
        if le bs 2 2 ≠ 0 then ansErr d stBadParam
        else (d.hashedFor (byteAt bs 1) (bs.drop 4)).eccSubmit (eccSign ch (byteAt bs 0) g))

/-- KEEP_SIGN. -/
def execKeepSign (rq : Req) (s : State) : Out := onDev (keepSign rq) s

/-- KEEP_VERIFY: with a slot's public key, or with one supplied inline (SLOT 0xFF). -/
def keepVerify (rq : Req) (d : Dev) : Dev :=
  d.serve 0x0B06 rq (rspMax 4) (fun d ch bs =>
    let slot := byteAt bs 0
    let inl := slot == 0xFF
    let curve := if inl then byteAt bs 1 else curveOf (d.keySlot slot).type
    let w := if curve == 2 then 96 else 64
    let pk := if inl then w else 0
    let data := bs.drop (4 + pk + w)
    if bs.length < 4 then ansErr d stBadLength
    else if (inl && (curve < 1 || 2 < curve)) || decide (2 < byteAt bs 2) || byteAt bs 3 != 0 then ansErr d stBadParam
    else if bs.length < 4 + pk + w then ansErr d stBadLength
    else match digestOf (byteAt bs 2) data with
      | none => ansErr d stBadLength
      | some g =>
        let op := eccSign ch slot g
        (d.hashedFor (byteAt bs 2) data).eccSubmit { op with
          kind := 1, slot := if inl then none else some slot, curve := curve, pub := slice bs 4 pk, sig := slice bs (4 + pk) w })

/-- KEEP_VERIFY. -/
def execKeepVerify (rq : Req) (s : State) : Out := onDev (keepVerify rq) s

/-- KEEP_HASH. -/
def keepHash (rq : Req) (d : Dev) : Dev :=
  d.serve 0x0B07 rq (fun _ bs => if byteAt bs 0 == 2 then 48 else 32) (fun d _ bs =>
    if bs.length < 4 then ansErr d stBadLength
    else if byteAt bs 0 < 1 ∨ 2 < byteAt bs 0 ∨ le bs 1 3 ≠ 0 then ansErr d stBadParam
    else
      let m := bs.drop 4
      ansOk (d.hashed m.length) (slice (digest (byteAt bs 0) m) 0 (if byteAt bs 0 == 2 then 48 else 32)))

/-- KEEP_HASH. -/
def execKeepHash (rq : Req) (s : State) : Out := onDev (keepHash rq) s

/-- KEEP_RANDOM (R330). -/
def keepRandom (rq : Req) (d : Dev) : Dev :=
  d.serve 0x0B08 rq (fun _ bs => le bs 0 2) (fun d _ bs => withLayout d 4 [fr 0 2 1 4096] bs
    (if d.keep.rngFailed then ansErrD d stFault (faultDetail 0x0303 1)
     else
       let r := d.draw (le bs 0 2)
       ansOk (r.2.countN 11 4 (le bs 0 2)) r.1))

/-- KEEP_RANDOM. -/
def execKeepRandom (rq : Req) (s : State) : Out := onDev (keepRandom rq) s

/-! ## Counters, attestation, identity, tamper -/

/-- KEEP_COUNTER_READ. -/
def keepCounterRead (rq : Req) (d : Dev) : Dev :=
  d.serve 0x0B09 rq (rspMax 128) (fun d _ bs => withLayout d 0 [] bs (ansOk d ((List.range 16).flatMap (fun i => leb 8 (d.mono i)))))

/-- KEEP_COUNTER_READ. -/
def execKeepCounterRead (rq : Req) (s : State) : Out := onDev (keepCounterRead rq) s

/-- KEEP_COUNTER_INCREMENT (R313): only the general purpose counters 9 to 15. -/
def keepCounterIncrement (rq : Req) (d : Dev) : Dev :=
  d.serve 0x0B0A rq (rspMax 8) (fun d _ bs => withLayout d 4 [fr 0 1 0 15] bs
    (let i := byteAt bs 0
     if i ≤ 8 then ansErr d stNotPermitted
     else if 2 ^ 64 ≤ d.mono i + 1 then ansErr d stUsageExhausted
     else ansOk (d.setMono i (d.mono i + 1)) (leb 8 (d.mono i + 1))))

/-- KEEP_COUNTER_INCREMENT. -/
def execKeepCounterIncrement (rq : Req) (s : State) : Out := onDev (keepCounterIncrement rq) s

/-- KEEP_ATTEST (R331): the statement is built and signed by the ECC engine. -/
def keepAttest (rq : Req) (d : Dev) : Dev :=
  d.serve 0x0B0B rq (rspMax 440) (fun d ch bs => withLayout d 16 [fa 0 16] bs
    (let op := eccSign ch 0 []
     d.eccSubmit { op with kind := 2, slot := none, head := bs }))

/-- KEEP_ATTEST. -/
def execKeepAttest (rq : Req) (s : State) : Out := onDev (keepAttest rq) s

/-- KEEP_IDENTITY: the certificate, of 1 to 1,024 bytes. -/
def keepIdentity (rq : Req) (d : Dev) : Dev :=
  d.serve 0x0B0C rq (rspMax 1028) (fun d _ bs => withLayout d 0 [] bs
    (let c := Config.certificate.take 1024
     ansOk d (leb 2 c.length ++ zeros 2 ++ c)))

/-- KEEP_IDENTITY. -/
def execKeepIdentity (rq : Req) (s : State) : Out := onDev (keepIdentity rq) s

/-- An entry's ranges: sources 4 to 7 have neither FILTER nor LEVEL and stay enabled, from OWNED on with at least LOCK (R332). -/
def tamperEntryOk (lc src : Nat) (e : Bytes) : Bool :=
  decide (byteAt e 0 ≤ 1) && decide (byteAt e 1 ≤ 2) &&
  (if src < 4 then decide (1 ≤ byteAt e 2) && decide (byteAt e 3 ≤ 1)
   else byteAt e 2 == 0 && byteAt e 3 == 0 && byteAt e 0 == 1 && (decide (lc < 2) || decide (1 ≤ byteAt e 1)))

/-- An entry disables its source or lowers its ACTION. -/
def tamperWeaker (old new : Bytes) : Bool := (byteAt old 0 == 1 && byteAt new 0 == 0) || decide (byteAt new 1 < byteAt old 1)

/-- KEEP_TAMPER_CFG's checks. -/
def checkTamperCfg (d : Dev) (bs : Bytes) : Nat :=
  if bs.length ≠ 32 then stBadLength
  else if !(List.range 8).all (fun i => tamperEntryOk d.keep.lifecycle i (tamperEntry bs i)) then stBadParam
  else if d.keep.lifecycle == 3 &&
      (List.range 8).any (fun i => tamperWeaker (tamperEntry d.lantern.tamper.cfg i) (tamperEntry bs i)) then stNotPermitted
  else stOk

/-- KEEP_TAMPER_CFG. -/
def execKeepTamperCfg (rq : Req) (s : State) : Out := onDev (Dev.serveStaged 0x0B0D rq checkTamperCfg) s

/-- KEEP_TAMPER_CFG applied, and written to the lifecycle region. -/
def applyTamperCfg (bs : Bytes) (d : Dev) : Dev :=
  ({ d with lantern := { d.lantern with tamper := { d.lantern.tamper with cfg := bs } } }).mramWrote 1

/-- KEEP_TAMPER_STATUS. -/
def keepTamperStatus (rq : Req) (d : Dev) : Dev :=
  d.serve 0x0B0E rq (rspMax 16) (fun d _ bs => withLayout d 0 [] bs
    (let t := d.lantern.tamper
     ansOk d (leb 1 t.latched ++ leb 1 t.active ++ zeros 2 ++ leb 4 t.seq ++ leb 1 (b2n d.keep.locked) ++ zeros 7)))

/-- KEEP_TAMPER_STATUS. -/
def execKeepTamperStatus (rq : Req) (s : State) : Out := onDev (keepTamperStatus rq) s

end Sys2Proof.Machine
end

