-- ==== Sys2Proof/Machine/TwinOps.lean ====
section
/-! DEFINITION. Twin Link (chapter 14): journal frames and their sending, the readiness of the standby, and the SESSION record.
The spec names what a record's body holds and not where; the layouts here are the model's (log 40). -/

namespace Sys2Proof.Machine

open Sys2Proof

/-! ## Frames -/

/-- A record: TYPE, reserved, LENGTH, body. -/
def journalRecord (r : Nat × Bytes) : Bytes := leb 1 r.1 ++ zeros 1 ++ beb 2 r.2.length ++ r.2

/-- Bytes padded with zeros to a multiple of 4. -/
def pad4 (bs : Bytes) : Bytes := bs ++ zeros ((4 - bs.length % 4) % 4)

/-- A Twin Link frame (14, Journal). Before a HELLO has named the peer its DA is free (log 40). -/
def Dev.twinFrame (d : Dev) (seq : Nat) (rs : List (Nat × Bytes)) : Bytes :=
  beb 6 (d.twin.peerMac.getD (Config.freeNat d.freeIx)) ++ beb 6 Config.baseMac ++ beb 2 0x88B5 ++ [4, 1] ++ zeros 2 ++ beb 4 seq ++
    beb 4 (d.twin.rxSeq.getD 0) ++ beb 2 rs.length ++ zeros 4 ++ rs.flatMap journalRecord

/-- A SEQ is at or before another: 32-bit sequence numbers compared as R4 compares times. -/
def seqLe (a b : Nat) : Bool := decide (deadlineDiff a b ≤ 0)

/-- The SEQ after one: it is never 0, which marks the frames that carry only ACK or HELLO. -/
def nextTwinSeq (s : Nat) : Nat := if 2 ^ 32 - 1 ≤ s then 1 else s + 1

/-- A frame that carries only ACK or HELLO: SEQ 0, never resent. -/
def Dev.twinPlain (d : Dev) (rs : List (Nat × Bytes)) : Dev := ((d.sendAt 9 5 (d.twinFrame 0 rs)).free.2).count 13 6

/-- A sequenced frame, kept until the peer acknowledges it (R376). -/
def Dev.twinSend (d : Dev) (rs : List (Nat × Bytes)) : Dev :=
  let seq := nextTwinSeq d.twin.txSeq
  let f := d.twinFrame seq rs
  let j : JFrame := { seq := seq, bytes := f, sentAt := d.uptime, resends := 0 }
  ((d.sendAt 9 5 f).modTwin (fun t => { t with txSeq := seq, unacked := t.unacked ++ [j] })).count 13 6

/-- The active journals: with a peer on Twin Link whose versions fit (R374, R396). -/
def Dev.journals (d : Dev) : Bool := decide (d.twin.role = .active) && d.twin.link && d.twin.mismatch == 0

/-- Bytes of records a frame carries, so that it stays within 1,518 bytes with its FCS. -/
def twinRoom : Nat := 1480

/-- Records shared out over frames, in order: `acc` is the frame being filled, `n` bytes of it used. -/
def packRecords : List (Nat × Bytes) → List (Nat × Bytes) → Nat → List (List (Nat × Bytes))
  | [], acc, _ => if acc.isEmpty then [] else [acc]
  | r :: t, acc, n =>
    let m := 4 + r.2.length
    if acc.isEmpty || (n + m ≤ twinRoom && acc.length < 255) then packRecords t (acc ++ [r]) (n + m)
    else acc :: packRecords t [r] m

/-- Journal records, in as many frames as they need. -/
def Dev.journal (d : Dev) (rs : List (Nat × Bytes)) : Dev := (packRecords rs [] 0).foldl (fun e f => e.twinSend f) d

/-- Synchronous records (R377): what answers their command waits up to 5 ms for the acknowledgement of the last frame. -/
def Dev.journalSync (d : Dev) (type : Nat) (rs : List (Nat × Bytes)) : Dev :=
  let d1 := d.journal rs
  let w : SyncWait := { seq := d1.twin.txSeq, type := type, deadline := d.uptime + ms 5 }
  d1.modTwin (fun t => { t with waits := t.waits ++ [w] })

/-! ## SYNC (R377) -/

/-- SYNC becomes ready: on the standby once nothing requested is outstanding, on the active once the resynchronisation and every
frame sent have been acknowledged. -/
def Dev.settleSync (d : Dev) : Dev :=
  let t := d.twin
  let standby := decide (t.role = .standby) && t.link && t.mismatch == 0 && t.needs == 0
  let active := d.journals && t.paired && t.resyncSeq.isNone && t.unacked.isEmpty
  if standby || active then d.setSync true 0 else d

/-! ## SESSION records -/

/-- A reading in a SESSION record: 24 bytes, zero where there is none. -/
def readingBytes (r : Option Reading) : Bytes :=
  match r with
  | none => zeros 24
  | some r => leb 8 r.mwh ++ t80le r.time ++ leb 1 r.quality ++ zeros 1 ++ leb 4 r.errNs

/-- SES_STATUS's encoding of a session's state. -/
def sesCode : SesState → Nat
  | .idle => 0 | .bound => 1 | .active => 2 | .suspended => 3 | .closing => 4 | .sealed => 5

/-- A session context as a SESSION record carries it: 140 bytes. -/
def sessionBody (n : Nat) (x : Session) : Bytes :=
  let marks := b2n x.start.isSome + 2 * b2n x.last.isSome + 4 * b2n x.stop.isSome + 8 * b2n x.startFold.isSome + 16 * b2n x.stopFold.isSome +
    32 * b2n x.degraded + 64 * b2n x.stopMissing
  leb 1 n ++ leb 1 (sesCode x.state) ++ leb 1 x.outlet ++ leb 1 x.meterSel ++ leb 1 x.zone ++ leb 1 x.foldIdx ++ leb 1 x.port ++ leb 1 x.flags ++
    leb 2 x.group ++ leb 2 x.vid ++ leb 2 x.segment ++ leb 2 x.suspendCount ++ leb 6 x.sa ++ leb 2 x.interimCount ++ slice x.hostRef 0 16 ++
    leb 4 x.serial ++ leb 4 x.suspendedMs ++ readingBytes x.start ++ readingBytes x.last ++ readingBytes x.stop ++
    leb 8 (x.startFold.getD 0) ++ leb 8 (x.stopFold.getD 0) ++ leb 4 marks

/-- The state of a code. -/
def sesOfCode : Nat → SesState
  | 1 => .bound | 2 => .active | 3 => .suspended | 4 => .closing | 5 => .sealed | _ => .idle

/-- A reading read back from a SESSION record. -/
def readingAt (bs : Bytes) (off : Nat) (there : Bool) : Option Reading :=
  if there then
    some { mwh := le bs off 8, time := t80At bs (off + 8), quality := byteAt bs (off + 18), errNs := le bs (off + 20) 4 }
  else none

/-- The context a SESSION record carries. -/
def sessionOf (bs : Bytes) : Session :=
  let marks := le bs 136 4
  { session0 with
    state := sesOfCode (byteAt bs 1)
    outlet := byteAt bs 2, meterSel := byteAt bs 3, zone := byteAt bs 4, foldIdx := byteAt bs 5, port := byteAt bs 6, flags := byteAt bs 7
    group := le bs 8 2, vid := le bs 10 2, segment := le bs 12 2, suspendCount := le bs 14 2, sa := le bs 16 6, interimCount := le bs 22 2
    hostRef := slice bs 24 16, serial := le bs 40 4, suspendedMs := le bs 44 4
    start := readingAt bs 48 (bit marks 0), last := readingAt bs 72 (bit marks 1), stop := readingAt bs 96 (bit marks 2)
    startFold := if bit marks 3 then some (le bs 120 8) else none
    stopFold := if bit marks 4 then some (le bs 128 8) else none
    degraded := bit marks 5, stopMissing := bit marks 6 }

/-- A change of a session, or a reading of it, goes to the standby, synchronously (R375, R377). -/
def Dev.journalSession (d : Dev) (n : Nat) : Dev :=
  if d.journals then d.journalSync 3 [(3, sessionBody n (tabGet session0 d.cask.sessions n))] else d

end Sys2Proof.Machine
end

