-- ==== Sys2Proof/Machine/Cask.lean ====
section
/-! DEFINITION. Cask (chapter 11): readings, folds, the sealing of records, recovery after a reset and after a takeover, and the
fan-in step of the Cupola that feeds it (R219). -/

namespace Sys2Proof.Machine

open Sys2Proof

/-! ## Contexts and states (R286) -/

/-- A session context. -/
def Dev.ses (d : Dev) (n : Nat) : Session := tabGet session0 d.cask.sessions n

/-- Change a context. -/
def Dev.modSes (d : Dev) (n : Nat) (f : Session → Session) : Dev :=
  { d with cask := { d.cask with sessions := tabMod session0 d.cask.sessions n f } }

/-- Move a session to a state, with SES_STATE; a twin journals it. -/
def Dev.sesTo (d : Dev) (n : Nat) (st : SesState) : Dev :=
  let old := (d.ses n).state
  if old = st then d
  else ((d.modSes n (fun x => { x with state := st })).post 0x0A01 n (sesCode st + sesCode old * 2 ^ 8)).journalSession n

/-- DETAIL of a command of Cask's that is answered FAULT: CASK_VERIFY is the only fault that ends one (R301, R367). -/
def sealDetail (status : Nat) : Nat := if status == stFault then faultDetail 0x0601 1 else 0

/-- Answer the command in progress of a session, if there is one (R288). -/
def Dev.sesAnswer (d : Dev) (n status : Nat) (payload : Bytes) : Dev :=
  match (d.ses n).cmd with
  | none => d
  | some c => (d.modSes n (fun x => { x with cmd := none })).complete c.1 status (sealDetail status) payload

/-- The context is emptied: IDLE, its zone binding cleared. -/
def Dev.sesFree (d : Dev) (n : Nat) : Dev := ((d.sesTo n .idle).unbindZone n).modSes n (fun _ => session0)

/-- An entered SEALED: the zone binding is cleared (R290); the session is IDLE at once where its last record is acknowledged
already (R287). -/
def Dev.sesSealed (d : Dev) (n : Nat) : Dev :=
  let d1 := (d.sesTo n .sealed).unbindZone n
  if (d1.ses n).lastRecord < d1.cask.unacked then d1.sesFree n else d1

/-! ## Legal parameters -/

/-- READ_TIMEOUT_MS in ns. -/
def Dev.readTimeout (d : Dev) : Nat := ms (le d.cask.params 8 2)

/-- A signed 8-bit exponent as a power of ten times the value: rounding never arises, the exponent being at least 0. -/
def milliWh (raw : Nat) (exp : Nat) : Nat := raw * 10 ^ (signed 8 exp + 3).toNat

/-- An outlet's entry (16 bytes). -/
def outletEntry (params : Bytes) (o : Nat) : Bytes := slice params (0x10 + 16 * o) 16

/-- A session's meter PDU. -/
def Dev.sesPdu (d : Dev) (x : Session) : Nat := meterPdu d.cask.params x.outlet x.meterSel

/-! ## Readings (R293 to R296) -/

/-- The channel port a session's meter PDU receives on. -/
def Dev.meterPort (d : Dev) (x : Session) : Option Nat :=
  match tabFind d.gateway.srcs (d.sesPdu x) with
  | none => none
  | some q =>
    if q.kind == 0 then some (canPort q.channel)
    else if q.kind == 1 then (tabFind d.gateway.polls (q.key % 1024)).map (fun e => serialPort e.channel)
    else none

/-- A session that leaves IDLE, or takes another meter, holds the domains of its dispenser port and of its meter's channel (R337,
R343). -/
def Dev.sesHold (d : Dev) (n : Nat) : Dev :=
  let x := d.ses n
  let d1 := d.holdPort x.port
  match d1.meterPort x with
  | some p => d1.holdPort p
  | none => d1

/-- The meter's channel runs: the source PDU is configured, and of a MODBUS PDU its poll entry. -/
def Dev.meterRuns (d : Dev) (x : Session) : Bool :=
  match tabFind d.gateway.srcs (d.sesPdu x) with
  | none => false
  | some q => if q.kind == 1 then tabHas d.gateway.polls (q.key % 1024) else true

/-- Begin an attempt: a MODBUS PDU's poll entry is queued on demand, and the timer of READ_TIMEOUT_MS starts (R293, R294). -/
def Dev.beginRead (d : Dev) (n : Nat) : Dev :=
  let x := d.ses n
  let d1 := d.modSes n (fun x => { x with
    attempts := x.attempts + 1, begun := d.uptime, deadline := d.uptime + d.readTimeout, delivery := none, due := false })
  match tabFind d1.gateway.srcs (d1.sesPdu x) with
  | some q => if q.kind == 1 then d1.queuePoll (q.key % 1024) else d1
  | none => d1

/-- Wait for a reading of a kind, its first attempt begun now. -/
def Dev.waitRead (d : Dev) (n : Nat) (w : SesWait) : Dev := (d.modSes n (fun x => { x with wait := w, attempts := 0 })).beginRead n

/-- Wait for a reading of a kind, begun once the meter's channel runs (R307). -/
def Dev.waitReadDue (d : Dev) (n : Nat) (w : SesWait) : Dev := d.modSes n (fun x => { x with wait := w, attempts := 0, due := true })

/-- Readings that waited for their meter's channel. -/
def Dev.startDueReads (d : Dev) : Dev :=
  if !d.boot.legRuns then d
  else d.cask.sessions.foldl (fun e x => if x.2.due && e.meterRuns x.2 then e.beginRead x.1 else e) d

/-- The value of a delivery in milliwatt-hours (R295). -/
def readingValue (params bytes : Bytes) (outlet : Nat) : Option Nat :=
  let e := outletEntry params outlet
  let len := byteAt e 1
  let off := byteAt e 2
  if bytes.length < off + len then none
  else
    let raw := if byteAt e 8 == 1 then le bytes off len else be bytes off len
    let v := milliWh raw (byteAt e 3)
    if v < 2 ^ 64 then some v else none

/-- TIME_DEGRADED's qualities. -/
def degradedQuality (q : Nat) : Bool := q == 1 || q == 3 || q == 4

/-- A reading response (32 bytes). -/
def readingResponse (r : Reading) : Bytes := leb 8 r.mwh ++ t80le r.time ++ leb 1 r.quality ++ zeros 1 ++ leb 4 r.errNs ++ zeros 8

/-- The time spent SUSPENDED, a running suspension included, holding at 0xFFFF_FFFF. -/
def Session.suspendedTotal (x : Session) (up : Nat) : Nat :=
  min 0xFFFFFFFF (x.suspendedMs + (if x.state = .suspended then (up - x.suspendedAt) / 1000000 else 0))

/-- Put a record at the end of those that wait for their seal. -/
def Dev.queueSeal (d : Dev) (n : Nat) (cause : Nat) : Dev :=
  let it : SealItem := { session := n, cause := cause, time := d.now, withheld := none, seq := none, retry := false }
  { d with cask := { d.cask with seals := d.cask.seals ++ [it] } }

/-- The segment is ready for its record: it waits for the seal. -/
def Dev.readyToSeal (d : Dev) (n : Nat) : Dev := (d.modSes n (fun x => { x with wait := .seal })).queueSeal n 0

/-- No start reading can be had for a new segment: CLOSING with END_CAUSE 5 and no further record, which leaves every record of
the session sealed (R291, R307). -/
def Dev.noSegment (d : Dev) (n status : Nat) : Dev :=
  let d1 := (d.modSes n (fun x => { x with wait := .none, resume := none, rebind := none, endCause := 5 })).sesTo n .closing
  (d1.sesAnswer n status []).sesSealed n

/-- Every attempt at a reading has failed. -/
def Dev.readFailed (d : Dev) (n : Nat) : Dev :=
  let x := d.ses n
  match x.wait with
  | .start rebind =>
    if rebind then d.noSegment n stTimeout else (d.modSes n (fun x => { x with wait := .none })).sesAnswer n stTimeout []
  | .interim => (d.modSes n (fun x => { x with wait := .none })).sesAnswer n stTimeout []
  | .stop => (d.modSes n (fun x => { x with
      stopMissing := true, stop := x.last, suspendedMs := x.suspendedTotal d.uptime, suspendedAt := d.uptime })).readyToSeal n
  | _ => d

/-- An attempt has failed, with SES_READ_FAIL: of a stop reading there are STOP_RETRIES more (R293). -/
def Dev.attemptFailed (d : Dev) (n why : Nat) : Dev :=
  let d1 := d.post 0x0A06 n why
  if (d.ses n).wait = .stop ∧ (d.ses n).attempts < 1 + byteAt d.cask.params 5 then d1.beginRead n else d1.readFailed n

/-- A new segment runs from its start reading (R291). -/
def Session.newSegment (x : Session) (r : Reading) (up : Nat) : Session :=
  { x with
    start := some r, last := some r, stop := none, startFold := none, stopFold := none, suspendCount := 0, interimCount := 0
    suspendedMs := 0, suspendedAt := up, degraded := degradedQuality r.quality, stopMissing := false, endCause := 0
    startAt := up, wait := .none }

/-- A start reading is taken: the session becomes ACTIVE, or continues in its state with the next segment (R287, R291). -/
def Dev.takeStart (d : Dev) (n : Nat) (rebind : Bool) (r : Reading) : Dev :=
  let d1 := d.modSes n (fun x => x.newSegment r d.uptime)
  if rebind then
    ((d1.modSes n (fun x => { x with segment := (x.segment + 1) % 2 ^ 16, resume := none })).journalSession n).sesAnswer n stOk
      (leb 4 (d1.ses n).lastRecord ++ readingResponse r)
  else (d1.sesTo n .active).sesAnswer n stOk (readingResponse r)

/-- A stop reading is taken: Cask then waits for the stop value of the module fold, where there is a group (R297). -/
def Dev.takeStop (d : Dev) (n : Nat) (r : Reading) : Dev :=
  let d1 := d.modSes n (fun x => { x with
    stop := some r, last := some r, stopAt := d.uptime, suspendedMs := x.suspendedTotal d.uptime, suspendedAt := d.uptime, degraded := x.degraded || degradedQuality r.quality
    wait := .fold, deadline := d.uptime + d.readTimeout })
  let d2 := d1.journalSession n
  if (d2.ses n).group == 0xFFFF then d2.readyToSeal n else d2

/-- An interim reading is taken. -/
def Dev.takeInterim (d : Dev) (n : Nat) (r : Reading) : Dev :=
  let d1 := d.modSes n (fun x => { x with
    last := some r, interimCount := (x.interimCount + 1) % 2 ^ 16, degraded := x.degraded || degradedQuality r.quality
    wait := .none })
  (d1.journalSession n).sesAnswer n stOk (readingResponse r)

/-- A valid reading, used as what the session waits for; a degraded one is logged (R296). -/
def Dev.takeReading (d : Dev) (n : Nat) (r : Reading) : Dev :=
  let d1 := if degradedQuality r.quality then d.legalLog 10 n (r.quality + r.errNs * 2 ^ 32) else d
  match (d.ses n).wait with
  | .start rebind => d1.takeStart n rebind r
  | .interim => d1.takeInterim n r
  | .stop => d1.takeStop n r
  | _ => d

/-- METER_READING_ARRIVAL (R293 to R295): the delivery the session waits for has committed no later than its timer's tick. -/
def meterReading (n : Nat) (d : Dev) : Dev :=
  let x := d.ses n
  match x.delivery with
  | none => d
  | some v =>
    if x.deadline < v.committed ∨ !d.boot.legRuns then d
    else
      let d1 := d.modSes n (fun x => { x with delivery := none })
      if !v.ok then d1.attemptFailed n 3
      else match readingValue d.cask.params v.bytes x.outlet with
        | none => (d1.count 10 5).attemptFailed n 2
        | some w => d1.takeReading n { mwh := w, time := v.arrival, quality := v.quality, errNs := v.errNs }

/-- METER_READING_ARRIVAL. -/
def execMeterReadingArrival (session : Nat) (s : State) : Out := onDev (meterReading session) s

/-- The session waits for a reading that has begun. -/
def Session.reads (x : Session) : Bool :=
  !x.due && (match x.wait with | .start _ => true | .interim => true | .stop => true | _ => false)

/-- READ_ATTEMPT_TIMEOUT (R294): the timer has run out and no delivery came in time. -/
def readTimeoutStep (n : Nat) (d : Dev) : Dev :=
  let x := d.ses n
  let late := match x.delivery with
    | none => true
    | some v => decide (x.deadline < v.committed)
  if x.reads && late && d.over x.deadline && d.boot.legRuns then
    ((d.modSes n (fun x => { x with delivery := none })).count 10 4).attemptFailed n 1
  else d

/-- READ_ATTEMPT_TIMEOUT. -/
def execReadAttemptTimeout (session : Nat) (s : State) : Out := onDev (readTimeoutStep session) s

/-! ## Folds (R219, R297) -/

/-- STOP_FOLD_WAIT_TIMEOUT: the stop value is missing. -/
def foldTimeout (n : Nat) (d : Dev) : Dev :=
  if (d.ses n).wait = .fold ∧ d.over (d.ses n).deadline = true then d.readyToSeal n else d

/-- STOP_FOLD_WAIT_TIMEOUT. -/
def execStopFoldWaitTimeout (session : Nat) (s : State) : Out := onDev (foldTimeout session) s

/-- A usable fold reaches a session bound to the group: it is the start value if none is taken yet, and the stop value of a
session that waits for one, where its window opened at or after the reading's arrival. -/
def Dev.foldTo (d : Dev) (n : Nat) (w : Window) : Dev :=
  let x := d.ses n
  let v := w.folds.1.getD x.foldIdx 0
  let runs := x.start.isSome && decide (x.state = .active ∨ x.state = .suspended ∨ x.state = .closing)
  let d1 := if runs && x.startFold.isNone && decide (x.startAt ≤ w.opened) then d.modSes n (fun x => { x with startFold := some v }) else d
  if x.wait = .fold ∧ x.stopAt ≤ w.opened then (d1.modSes n (fun x => { x with stopFold := some v })).readyToSeal n else d1

/-- A fold record reaches Cask (R219). -/
def Dev.foldToCask (d : Dev) (g : Nat) (w : Window) (flags : Nat) : Dev :=
  if flags % 32 != 0 then d
  else d.cask.sessions.foldl (fun e x => if x.2.group == g then e.foldTo x.1 w else e) d

/-- A record of the fan-in requester once its transfer has committed: written to the Spire pair; a fold goes to Cask and its group reply
leaves, a trip posts CUP_TRIP (R219, R224). -/
def Dev.deliverRecord (d : Dev) (r : CupRecord) : Dev :=
  let d1 := d.toSpire (.result r)
  match r with
  | .fold g w cause => (d1.sendGroupReply g w cause).foldToCask g w (replyFlags w cause)
  | .trip g m time => d1.post 0x0701 g (m + time % 2 ^ 32 * 2 ^ 32)

/-- FAN_IN_STEP: the oldest record asks for its one transfer (R219). -/
def fanInStep (d : Dev) : Dev :=
  match d.cupola.fanIn with
  | [] => d
  | r :: t => d.transfer 3 64 (fun e => (e.putCupola { e.cupola with fanIn := t }).deliverRecord r)

/-- FAN_IN_STEP. -/
def execFanInStep (s : State) : Out := onDev fanInStep s

/-! ## Records (R298 to R305) -/

/-- The unacknowledged span (R305). -/
def Dev.span (d : Dev) : Nat := d.cask.nextSeq - d.cask.unacked

/-- Slots reserved by sessions in BOUND, ACTIVE, SUSPENDED or CLOSING. -/
def Dev.reservations (d : Dev) : Nat :=
  (d.cask.sessions.filter (fun x => decide (x.2.state ≠ .idle ∧ x.2.state ≠ .sealed))).length

/-- The ring is full. -/
def Dev.ringFull (d : Dev) : Bool := decide (4096 ≤ d.span + d.reservations)

/-- SES_RING_LEVEL at its two thresholds. -/
def Dev.ringLevel (d : Dev) : Dev :=
  if d.cask.levelHigh then
    (if d.span < 3072 then ({ d with cask := { d.cask with levelHigh := false } }).post 0x0A04 0 (d.span % 2 ^ 16) else d)
  else if 3584 ≤ d.span then ({ d with cask := { d.cask with levelHigh := true } }).post 0x0A04 0 (d.span % 2 ^ 16 + 2 ^ 16)
  else d

/-- ENERGY_MWH and REGRESSION. -/
def Session.energy (x : Session) : Nat × Bool :=
  let a := (x.start.map (fun r => r.mwh)).getD 0
  let b := (x.stop.map (fun r => r.mwh)).getD 0
  if b < a then (0, true) else (b - a, false)

/-- MODULE_MWH; none where a fold value is missing or their difference is negative (R297). -/
def Session.module (x : Session) (exp : Nat) : Option Nat :=
  match x.startFold, x.stopFold with
  | some a, some b => if b < a then none else some (milliWh (b - a) exp)
  | _, _ => none

/-- PLAUS_RESULT and D (R298). -/
def Session.plausible (x : Session) (params : Bytes) : Nat × Int :=
  match x.module (byteAt params 6) with
  | none => (2, 0)
  | some m =>
    let dd : Int := (m : Int) - x.energy.1
    let tol := le params 0x0C 4
    if -(tol : Int) ≤ dd ∧ dd ≤ ((m * le params 0x0A 2 / 1000 + tol : Nat) : Int) then (0, dd) else (1, dd)

/-- A record's FLAGS, SEQ_GAP apart. -/
def Session.recordFlags (x : Session) (params : Bytes) (lc : Nat) (resealed : Bool) : Nat :=
  b2n ((x.plausible params).1 == 1) + 2 * b2n x.stopMissing + 4 * b2n resealed + 8 * b2n (lc != 3) + 16 * b2n x.degraded +
    32 * b2n x.energy.2 + 64 * b2n x.restart

/-- A reading, or zeros. -/
def orZero (r : Option Reading) : Reading := r.getD { mwh := 0, time := 0, quality := 0, errNs := 0 }

/-- The head of every record, 0x00 to 0x1F, in network order. -/
def recordHead (type flags seq legVersion paramVersion : Nat) : Bytes :=
  beb 2 0x0100 ++ beb 1 type ++ beb 1 flags ++ beb 4 seq ++ slice Config.uid 0 16 ++ beb 4 legVersion ++ beb 4 paramVersion

/-- A session's record, bytes 0x20 to 0x87. -/
def Dev.recordBody (d : Dev) (n : Nat) (x : Session) : Bytes :=
  let a := orZero x.start
  let b := orZero x.stop
  let p := d.cask.params
  beb 1 n ++ beb 1 x.outlet ++ beb 1 x.meterSel ++ beb 1 x.endCause ++ beb 2 (d.sesPdu x) ++ beb 2 x.group ++ beb 4 x.serial ++
    beb 2 x.segment ++ beb 1 x.zone ++ beb 1 (x.plausible p).1 ++ slice x.hostRef 0 16 ++ t80be a.time ++ beb 1 a.quality ++ beb 1 b.quality ++
    beb 4 a.errNs ++ t80be b.time ++ zeros 2 ++ beb 4 b.errNs ++ beb 8 a.mwh ++ beb 8 b.mwh ++ beb 8 x.energy.1 ++
    beb 8 ((x.module (byteAt p 6)).getD 0) ++ beb 2 x.suspendCount ++ beb 2 x.interimCount ++ beb 4 x.suspendedMs

/-- A marker's bytes 0x20 to 0x87: SESSION 0, END_CAUSE and the time of the change; the spec gives no value for the others. -/
def Dev.markerBody (d : Dev) (it : SealItem) : Bytes :=
  let f := slice (Config.fill d.freeIx) 0 104
  patch (patch (patch f 0 [0]) 3 (beb 1 it.cause)) 0x20 (t80be it.time)

/-- PREV_SEQ and PREV_HASH (R300): a chain start marker has neither. Before the device's first record there is none to hash: its
PREV_HASH is free (log 14). -/
def Dev.chainLink (d : Dev) (it : SealItem) (seq : Nat) : Nat × Bytes :=
  match d.cask.lastSeq with
  | some q =>
    if it.session == 0 && it.cause == 16 then (0xFFFFFFFF, zeros 32)
    else (q, slice (Config.sha256 (tabGet (zeros 256) d.cask.records (q % 4096))) 0 32)
  | none =>
    if it.session == 0 && it.cause == 16 then (0xFFFFFFFF, zeros 32) else (seq - 1, slice (Config.fill (d.freeIx + 1)) 0 32)

/-- Bytes 0x00 to 0xBF of a record. -/
def Dev.recordBytes (d : Dev) (it : SealItem) (seq flags : Nat) : Bytes :=
  let x := d.ses it.session
  let slot := byteAt d.cask.params 4
  let link := d.chainLink it seq
  let gap := link.1 != 0xFFFFFFFF && decide (link.1 + 1 ≠ seq)
  let body := if it.session == 0 then d.markerBody it else d.recordBody it.session x
  recordHead (if it.session == 0 then 2 else 1) (flags + 128 * b2n gap) seq (d.inForce 2).version (le d.cask.params 0 4) ++ body ++
    beb 4 (d.keyId slot) ++ beb 4 link.1 ++ zeros 16 ++ link.2

/-- FLAGS of a record but for SEQ_GAP; of a marker NOT_LEGAL and RESEALED. -/
def Dev.sealFlags (d : Dev) (it : SealItem) : Nat :=
  let resealed := it.withheld.isSome
  if it.session == 0 then 4 * b2n resealed + 8 * b2n (d.keep.lifecycle != 3)
  else (d.ses it.session).recordFlags d.cask.params d.keep.lifecycle resealed

/-- The key of R302 and Keep's checks of it: the status, OK where the record may be signed. -/
def Dev.recordKey (d : Dev) : Nat :=
  let i := byteAt d.cask.params 4
  let st := d.keyStatus .cask i 4 1 [4]
  if (st == stOk || st == stUsageExhausted) && (d.keySlot i).root != lifecycleRoot d.keep.lifecycle then stNotPermitted else st

/-- Change the seal at the head of the queue. -/
def Dev.modHeadSeal (d : Dev) (f : SealItem → SealItem) : Dev :=
  match d.cask.seals with
  | [] => d
  | it :: t => { d with cask := { d.cask with seals := f it :: t } }

/-- The record of an item stays unsealed, and the command that waits for it answers with the status (R303). -/
def Dev.answerSeal (d : Dev) (it : SealItem) (status : Nat) : Dev :=
  if it.session == 0 then
    (match d.cask.paramCh with
     | some ch => if it.cause == 17 then ({ d with cask := { d.cask with paramCh := none } }).complete ch status (sealDetail status) [] else d
     | none => d)
  else (d.modSes it.session (fun x => { x with wait := .none })).sesAnswer it.session status []

/-- SEAL_WITHHELD (R303): the item keeps its status and its reserved RECORD_SEQ; the legal log names both. -/
def Dev.withhold (d : Dev) (it : SealItem) (status : Nat) (seq : Option Nat) (logged : Bool) : Dev :=
  let mark := fun (y : SealItem) =>
    if y.session == it.session && y.cause == it.cause && y.time == it.time then { y with withheld := some status, seq := seq, retry := false } else y
  let d1 := { d with cask := { d.cask with seals := d.cask.seals.map mark } }
  let d2 := if logged then (d1.count 10 2).legalLog 5 it.session (status + seq.getD 0 * 2 ^ 32) else d1
  d2.answerSeal it status

/-- RING_WRITE (R304): the record goes to its slot, NEXT_SEQ passes it, SES_RECORD is posted. -/
def Dev.ringWriteRecord (d : Dev) (it : SealItem) (seq : Nat) (rcd : Bytes) : Dev :=
  let c := d.cask
  let d1 := { d with cask := { c with
    records := tabPut c.records (seq % 4096) rcd, nextSeq := seq + 1, lastSeq := some seq, seals := c.seals.drop 1
    voids := c.voids.filter (fun v => decide (seq + 1 ≤ v + 4096)), released := grownIn c.released d.uptime c.nextSeq } }
  (((d1.hashed 448).count 10 1).post 0x0A02 it.session (seq + byteAt rcd 3 * 2 ^ 32)).ringLevel

/-- What a record's release logs: a failed plausibility check, a missing stop reading, a regression, a reset's or takeover's end,
a late seal. -/
def Dev.sealLogs (d : Dev) (it : SealItem) (seq : Nat) : Dev :=
  let n := it.session
  let x := d.ses n
  let p := x.plausible d.cask.params
  let d1 := if p.1 == 1 then (((d.count 10 3).post 0x0A03 n seq).legalLog 7 n (seq + unsigned 32 (roundDiv p.2 1000) * 2 ^ 32)) else d
  let d2 := if x.stopMissing then d1.legalLog 8 n (seq + 2 ^ 32) else d1
  let d3 := if x.energy.2 then d2.legalLog 8 n (seq + 2 * 2 ^ 32) else d2
  if x.restart then d3.legalLog 9 n x.endCause else d3

/-- The session moves on from its record: SEALED, or to its next segment (R287, R291, R307). -/
def Dev.afterRecord (d : Dev) (n seq : Nat) (rcd : Bytes) : Dev :=
  let x := d.ses n
  let d0 := d.modSes n (fun x => { x with lastRecord := seq, wait := .none })
  let d1 := if x.cmd.map (fun c => c.2) = some 0x0A0F then d0.sesAnswer n stOk [] else d0
  match x.resume with
  | some _ =>
    let d2 := (d1.modSes n (fun x =>
      match x.rebind with
      | some r => { x with meterSel := r.1, foldIdx := r.2.1, group := r.2.2, rebind := none }
      | none => x)).sesHold n
    let d3 := d2.modSes n (fun x => { x with start := none, restart := false })
    if x.restart then d3.waitReadDue n (.start true) else d3.waitRead n (.start true)
  | none =>
    (d1.sesAnswer n stOk (leb 4 seq ++ leb 1 (byteAt rcd 3) ++ leb 1 (byteAt rcd 0x2F) ++ zeros 2 ++ leb 8 (be rcd 0x70 8))).sesSealed n

/-- A marker is released; a legal parameter update that waits for it is answered. -/
def Dev.afterMarker (d : Dev) (it : SealItem) (seq : Nat) : Dev :=
  match d.cask.paramCh with
  | some ch =>
    if it.cause == 17 then
      ({ d with cask := { d.cask with paramCh := none } }).complete ch stOk 0 (leb 4 (le d.cask.params 0 4) ++ leb 4 seq)
    else d
  | none => d

/-- CASK_VERIFY, the F1 fault of a session, leaves it CLOSING (R301, R287): a segment that was to go on ends by a fault, with no rebinding
and no next segment (DEDUCED, log 88). -/
def Dev.sealFails (d : Dev) (n : Nat) : Dev :=
  if (d.ses n).state = .active ∨ (d.ses n).state = .suspended then
    (d.modSes n (fun x => { x with resume := none, rebind := none, endCause := 5 })).sesTo n .closing
  else d

/-- The verdicts of the two signings (R301): a second failure is CASK_VERIFY, class F1, and the record stays unsealed. -/
def Dev.signAndRelease (d : Dev) (it : SealItem) (seq : Nat) (ok : Bool) : Dev :=
  let slot := byteAt d.cask.params 4
  let d1 := (d.charge slot 1).eccCount
  if !ok then ((d1.faultF1 0x0601 it.session 0).sealFails it.session).withhold it stFault (some seq) false
  else
    let head := d1.recordBytes it seq (d1.sealFlags it)
    let sig := slice (Config.ecdsaSign 1 (d1.keySlot slot).key (slice (Config.sha256 head) 0 32)) 0 64
    let rcd := head ++ sig
    let d2 := { d1 with freeIx := d1.freeIx + 2 }
    let d3 := if it.session == 0 then d2 else d2.sealLogs it seq
    let d4 := d3.ringWriteRecord it seq rcd
    let d5 := if it.withheld.isSome then d4.legalLog 6 it.session seq else d4
    if it.session == 0 then d5.afterMarker it seq else d5.afterRecord it.session seq rcd

/-- The seal at the head of the queue: the key's root first, then counter 0, then Keep's checks, then the signature (R300 to
R303). -/
def Dev.sealHead (d : Dev) (it : SealItem) (ok : Bool) : Dev :=
  let st := d.recordKey
  if st == stNotPermitted then d.withhold it st it.seq true
  else if it.seq.isNone && decide (0xFFFFFFFF ≤ d.mono 0) then d.withhold it stUsageExhausted none true
  else
    let seq := it.seq.getD (d.mono 0 + 1)
    let d1 := (d.setMono 0 seq).modHeadSeal (fun y => { y with seq := some seq })
    if st == stOk then d1.signAndRelease { it with seq := some seq } seq ok else (d1.keyRefused st).withhold it st (some seq) true

/-- RECORD_SEAL (R301): of the first record that waits; session 0 is a marker. A record behind a withheld one is withheld with it
(R303). -/
def recordSeal (n : Nat) (sigOk retryOk : Bool) (d : Dev) : Dev :=
  if !d.boot.legRuns || d.safety.split || decide (d.twin.role = .standby) then d
  else match d.cask.seals with
    | [] => d
    | it :: t =>
      if it.session == n then
        (if it.withheld.isNone || it.retry then d.sealHead it (sigOk || retryOk) else d)
      else
        match it.withheld, t.find? (fun y => y.session == n && (y.withheld.isNone || y.retry)) with
        | some st, some y => if it.retry then d else d.withhold y (y.withheld.getD st) y.seq y.withheld.isNone
        | _, _ => d

/-- RECORD_SEAL. -/
def execRecordSeal (session : Nat) (sigOk retryOk : Bool) (s : State) : Out := onDev (recordSeal session sigOk retryOk) s

/-! ## After a reset and after a takeover (R307) -/

/-- Sequence values that a reset interrupted become void (R304): those no session context holds. -/
def Dev.voidInterrupted (d : Dev) : Dev :=
  let held := (d.cask.seals.filter (fun x => x.session != 0)).filterMap (fun x => x.seq)
  let lost := ((List.range (d.mono 0 + 1 - d.cask.nextSeq)).map (fun i => d.cask.nextSeq + i)).filter (fun v => !held.contains v)
  let d1 := { d with cask := { d.cask with
    voids := d.cask.voids ++ lost
    seals := d.cask.seals.map (fun x => if x.session == 0 then { x with seq := none } else x) } }
  lost.foldl (fun e v => e.legalLog 14 0 v) d1

/-- A lifecycle change and a new LEG image are logged at the first start after them, with their markers (R312, R300, R392). -/
def Dev.startLogs (d : Dev) : Dev :=
  let d1 := match d.cask.lifecycleLog with
    | none => d
    | some c =>
      let e := ({ d with cask := { d.cask with lifecycleLog := none } }).legalLog 12 0 (c.1 + c.2 * 2 ^ 8)
      if c.2 == 2 || c.2 == 3 then e.queueSeal 0 16 else e
  match d1.cask.legNew with
  | none => d1
  | some v => (({ d1 with cask := { d1.cask with legNew := none } }).legalLog 3 0 v).queueSeal 0 18

/-- A kept context after a reset, or after a fault that stopped LEG. -/
def Dev.recoverSession (d : Dev) (cause n : Nat) : Dev :=
  let x := d.ses n
  let queued := d.cask.seals.any (fun y => y.session == n)
  let end_ := fun (e : Dev) => (e.modSes n (fun x => { x with endCause := cause, restart := true, resume := none, rebind := none }))
  match x.state with
  | .idle => d
  | .sealed => d
  | .bound => d.sesFree n
  | _ =>
    let d1 := end_ d
    if x.start.isNone then d1.noSegment n stTimeout
    else
      let d2 := d1.modSes n (fun x => { x with suspendedMs := x.suspendedTotal d.uptime, suspendedAt := d.uptime })
      let d3 := d2.sesTo n .closing
      if queued then d3.modSes n (fun x => { x with wait := .seal })
      else if x.stop.isSome then d3.readyToSeal n
      else d3.waitReadDue n .stop

/-- The last released record fails its verification: CASK_CHAIN of class F2, and no session starts until a signed update. -/
def Dev.brokenChain (d : Dev) : Dev := ({ d with cask := { d.cask with chainBroken := true } }).faultF2 0x0602 0 0

/-- CASK_RESTART_RECOVERY (R307, R304): once after each start of LEG that follows a reset. A twin that restarts after an F2 fault
seals nothing of its sessions, which the active twin continues (R371). -/
def caskRecovery (chainOk : Bool) (d : Dev) : Dev :=
  if !d.cask.recover || !d.boot.legRuns then d
  else if !chainOk && d.cask.lastSeq.isSome && !d.cask.chainBroken then d.brokenChain
  else
    let cause := if d.cask.faultEnd then 5 else 3
    let mine := if d.cask.twinEnd then d.cask.seals.filter (fun x => x.session == 0) else d.cask.seals
    let d1 := ({ d with cask := { d.cask with recover := false, faultEnd := false, twinEnd := false, seals := mine } }).voidInterrupted.startLogs
    if d.cask.twinEnd then d1
    else (d1.cask.sessions.map (fun x => x.1)).foldl (fun e n => e.recoverSession cause n) d1.retrySeals

/-- CASK_RESTART_RECOVERY. -/
def execCaskRestartRecovery (chainOk : Bool) (s : State) : Out := onDev (caskRecovery chainOk) s

/-- TAKEOVER_SESSION_RESEGMENT (R307): a session that came by the journal, on the twin that took over, once its meter's channel
runs. -/
def takeoverResegment (n : Nat) (d : Dev) : Dev :=
  let x := d.ses n
  if !d.boot.legRuns || decide (d.twin.role = .standby) || !x.restart || decide (x.wait ≠ .none) || d.cask.seals.any (fun y => y.session == n) || !d.meterRuns x then d
  else
    let d1 := d.modSes n (fun x => { x with endCause := 4 })
    match x.state with
    | .active => (d1.modSes n (fun x => { x with resume := some .active })).waitRead n .stop
    | .suspended => (d1.modSes n (fun x => { x with resume := some .suspended })).waitRead n .stop
    | .closing => if x.stop.isSome then d1.readyToSeal n else d1.waitRead n .stop
    | _ => d

/-- TAKEOVER_SESSION_RESEGMENT. -/
def execTakeoverSessionResegment (session : Nat) (s : State) : Out := onDev (takeoverResegment session) s

end Sys2Proof.Machine
end

