-- ==== Sys2Proof/Machine/SesCmds.lean ====
section
/-! DEFINITION. The session commands (chapter 11). SES_LEGAL_PARAM_UPDATE stands with the transactions it uses. -/

namespace Sys2Proof.Machine

open Sys2Proof

/-! ## Bindings (R289) -/

/-- Another session, not IDLE, that satisfies a test. -/
def Dev.otherSession (d : Dev) (n : Nat) (f : Session → Bool) : Option Nat :=
  (d.cask.sessions.find? (fun x => x.1 != n && decide (x.2.state ≠ .idle) && f x.2)).map (fun x => x.1)

/-- A conflict with a session: class 0x0A, object the session. -/
def sesConflict (n : Nat) : Nat := 0x0A * 2 ^ 24 + n

/-- The meter or the group of a binding does not exist (R289). -/
def Dev.bindingMissing (d : Dev) (outlet sel group : Nat) : Bool :=
  let pdu := meterPdu d.cask.params outlet sel
  let legal := match tabFind d.gateway.srcs pdu with
    | some q => q.legal
    | none => false
  !bit (byteAt (outletEntry d.cask.params outlet) 0) 0 || pdu == 0xFFFF || !legal || (group != 0xFFFF && !tabHas d.cupola.groups group)

/-- FOLD names an IN_FIELD whose OP is not SUM, or a group without fan-in (R289). -/
def Dev.foldBad (d : Dev) (group fold : Nat) : Bool :=
  match tabFind d.cupola.groups group with
  | none => false
  | some x =>
    match (inFields x.cfg).getD fold (0, 7, false) with
    | f => f.2.1 != 0

/-- GROUP's range. -/
def sesGroupOk (g : Nat) : Bool := decide (g ≤ 1023) || g == 0xFFFF

/-- The context SES_OPEN takes: the one named, or the lowest IDLE one. -/
def Dev.openContext (d : Dev) (n : Nat) : Option Nat :=
  if n == 0 then (List.range 64).find? (fun i => i != 0 && decide ((d.ses i).state = .idle)) else some n

/-- The zone binding of a request is another session's (R129). -/
def Dev.bindingTwice (d : Dev) (b : Binding) : Option Nat :=
  (d.lauter.bindings.find? (fun x =>
    x.2.port == b.port && x.2.vid == b.vid && x.2.wildcard == b.wildcard && (b.wildcard || x.2.sa == b.sa))).map (fun x => x.1)

/-- SES_OPEN: the failures of R289 in the table's order, then the binding. -/
def openBody (d : Dev) (bs : Bytes) : Ans :=
  let lc := d.keep.lifecycle
  let named := byteAt bs 0
  let outlet := byteAt bs 1
  let zone := byteAt bs 3
  let b : Binding :=
    { zone := zone, port := byteAt bs 8, vid := le bs 0x0A 2, sa := le bs 0x0C 6, wildcard := bit (byteAt bs 9) 0 }
  if lc == 0 || lc == 4 then ansErr d stNotPermitted
  else if d.cask.chainBroken then ansErrD d stFault (faultDetail 0x0602 2)
  else
    match d.openContext named with
    | none => ansErr d stNoResource
    | some n =>
      if d.ringFull || d.logFull then ansErr d stNoResource
      else if (d.ses n).state ≠ .idle then ansErrD d stConflict (sesConflict n)
      else match d.otherSession n (fun x => x.outlet == outlet || x.zone == zone) with
      | some o => ansErrD d stConflict (sesConflict o)
      | none =>
        match d.bindingTwice b with
        | some o => ansErrD d stConflict (sesConflict o)
        | none =>
          if d.bindingMissing outlet (byteAt bs 2) (le bs 4 2) then ansErr d stNotFound
          else if d.foldBad (le bs 4 2) (byteAt bs 6) then ansErr d stBadParam
          else
            let serial := (d.cask.serial + 1) % 2 ^ 32
            let d1 := ({ d with cask := { d.cask with serial := serial } }).modSes n (fun _ => { session0 with
              outlet := outlet, meterSel := byteAt bs 2, zone := zone, group := le bs 4 2, foldIdx := byteAt bs 6, port := b.port
              flags := byteAt bs 9, vid := b.vid, sa := b.sa, hostRef := slice bs 0x14 16, serial := serial })
            ansOk ((((d1.sesTo n .bound).bindZone n b).count 10 0).sesHold n) (leb 1 n ++ zeros 3 ++ leb 4 serial)

/-- SES_OPEN. -/
def sesOpen (rq : Req) (d : Dev) : Dev :=
  d.serve 0x0A01 rq (rspMax 8) (fun d _ bs =>
    withLayout d 36 [fr 0 1 0 63, fr 1 1 0 63, fr 2 1 0 1, fr 3 1 6 63, fa 4 2, fr 6 1 0 7, fr 8 1 0 49, fr 9 1 0 1, fr 0x0A 2 1 4094,
      fa 0x0C 6, fa 0x14 16] bs
      (if !sesGroupOk (le bs 4 2) || (byteAt bs 9 == 1 && le bs 0x0C 6 != 0) then ansErr d stBadParam else openBody d bs))

/-- SES_OPEN. -/
def execSesOpen (rq : Req) (s : State) : Out := onDev (sesOpen rq) s

/-! ## Commands of one session (R287, R288) -/

/-- A command of one session: WRONG_MODE outside the states given, then its own checks, and after them BUSY while the session's
previous command, or a reading or seal, still waits (R39 step 7, R288). -/
def sesBody (states : List SesState) (d : Dev) (n : Nat) (own : Session → Option Ans) (k : Session → Ans) : Ans :=
  let x := d.ses n
  if !states.contains x.state then ansErr d stWrongMode
  else
    match own x, x.cmd with
    | some a, _ => a
    | none, some c => ansErrD d stBusy c.2
    | none, none => if x.wait ≠ .none ∨ (x.resume.isSome = true ∧ x.state ≠ .closing) then ansErr d stBusy else k x

/-- No checks beside the state. -/
def noChecks (_ : Session) : Option Ans := none

/-- The request of a command that names only its session. -/
def withSession (d : Dev) (bs : Bytes) (k : Nat → Ans) : Ans := withLayout d 4 [fr 0 1 1 63] bs (k (byteAt bs 0))

/-- The command in progress of a session. -/
def Dev.sesCmd (d : Dev) (n ch op : Nat) : Dev := d.modSes n (fun x => { x with cmd := some (ch, op) })

/-- SES_START (R287, R293). -/
def sesStart (rq : Req) (d : Dev) : Dev :=
  d.serve 0x0A02 rq (rspMax 32) (fun d ch bs => withSession d bs (fun n => sesBody [.bound] d n
    (fun _ => if d.cask.chainBroken then some (ansErrD d stFault (faultDetail 0x0602 2)) else none)
    (fun _ => .wait ((d.sesCmd n ch 0x0A02).waitRead n (.start false)))))

/-- SES_START. -/
def execSesStart (rq : Req) (s : State) : Out := onDev (sesStart rq) s

/-- SES_SUSPEND. -/
def sesSuspend (rq : Req) (d : Dev) : Dev :=
  d.serve 0x0A03 rq (rspMax 0) (fun d _ bs => withSession d bs (fun n => sesBody [.active] d n noChecks (fun _ =>
    ansOk ((d.modSes n (fun x => { x with suspendCount := (x.suspendCount + 1) % 2 ^ 16, suspendedAt := d.uptime })).sesTo n .suspended) [])))

/-- SES_SUSPEND. -/
def execSesSuspend (rq : Req) (s : State) : Out := onDev (sesSuspend rq) s

/-- SES_RESUME. -/
def sesResume (rq : Req) (d : Dev) : Dev :=
  d.serve 0x0A04 rq (rspMax 0) (fun d _ bs => withSession d bs (fun n => sesBody [.suspended] d n noChecks (fun _ =>
    ansOk ((d.modSes n (fun x => { x with suspendedMs := x.suspendedTotal d.uptime })).sesTo n .active) [])))

/-- SES_RESUME. -/
def execSesResume (rq : Req) (s : State) : Out := onDev (sesResume rq) s

/-- SES_STOP: CLOSING, with a stop reading under way (R287, R293). -/
def sesStop (rq : Req) (d : Dev) : Dev :=
  d.serve 0x0A05 rq (rspMax 16) (fun d ch bs => withSession d bs (fun n => sesBody [.active, .suspended] d n noChecks (fun _ =>
    let d1 := d.modSes n (fun x => { x with suspendedMs := x.suspendedTotal d.uptime, endCause := 1, cmd := some (ch, 0x0A05) })
    .wait ((d1.sesTo n .closing).waitRead n .stop))))

/-- SES_STOP. -/
def execSesStop (rq : Req) (s : State) : Out := onDev (sesStop rq) s

/-- SES_INTERIM. -/
def sesInterim (rq : Req) (d : Dev) : Dev :=
  d.serve 0x0A06 rq (rspMax 32) (fun d ch bs => withSession d bs (fun n => sesBody [.active, .suspended] d n noChecks (fun _ =>
    .wait ((d.sesCmd n ch 0x0A06).waitRead n .interim))))

/-- SES_INTERIM. -/
def execSesInterim (rq : Req) (s : State) : Out := onDev (sesInterim rq) s

/-- What refuses a rebinding (R291): NOT_FOUND, BAD_PARAM, and a full ring where it ends a segment. -/
def rebindChecks (d : Dev) (bs : Bytes) (x : Session) : Option Ans :=
  let group := le bs 4 2
  if d.bindingMissing x.outlet (byteAt bs 1) group then some (ansErr d stNotFound)
  else if d.foldBad group (byteAt bs 2) then some (ansErr d stBadParam)
  else if x.state ≠ .bound ∧ d.ringFull = true then some (ansErr d stNoResource)
  else none

/-- A rebinding of a session (R291): at once from BOUND, else at a record boundary. -/
def rebindBody (d : Dev) (ch n : Nat) (bs : Bytes) (x : Session) : Ans :=
  let sel := byteAt bs 1
  let group := le bs 4 2
  if x.state = .bound then
    ansOk (((d.modSes n (fun x => { x with meterSel := sel, foldIdx := byteAt bs 2, group := group })).sesHold n).journalSession n) (leb 4 0xFFFFFFFF ++ zeros 32)
  else
    .wait ((d.modSes n (fun x => { x with
      resume := some x.state, rebind := some (sel, byteAt bs 2, group), endCause := 2, cmd := some (ch, 0x0A07) })).waitRead n .stop)

/-- SES_REBIND. -/
def sesRebind (rq : Req) (d : Dev) : Dev :=
  d.serve 0x0A07 rq (rspMax 36) (fun d ch bs => withLayout d 8 [fr 0 1 1 63, fr 1 1 0 1, fr 2 1 0 7, fa 4 2] bs
    (if !sesGroupOk (le bs 4 2) then ansErr d stBadParam
     else sesBody [.bound, .active, .suspended] d (byteAt bs 0) (rebindChecks d bs) (rebindBody d ch (byteAt bs 0) bs)))

/-- SES_REBIND. -/
def execSesRebind (rq : Req) (s : State) : Out := onDev (sesRebind rq) s

/-- SES_ABORT (R287, R290). -/
def sesAbort (rq : Req) (d : Dev) : Dev :=
  d.serve 0x0A08 rq (rspMax 0) (fun d _ bs => withSession d bs (fun n => sesBody [.bound] d n noChecks (fun _ => ansOk (d.sesFree n) [])))

/-- SES_ABORT. -/
def execSesAbort (rq : Req) (s : State) : Out := onDev (sesAbort rq) s

/-- A session's seal is withheld. -/
def Dev.sealWithheld (d : Dev) (n : Nat) : Bool := d.cask.seals.any (fun y => y.session == n && y.withheld.isSome)

/-- SES_STATUS's 48 bytes. -/
def Dev.sesStatusBytes (d : Dev) (n : Nat) : Bytes :=
  let x := d.ses n
  let a := orZero x.start
  let l := orZero x.last
  leb 1 (sesCode x.state) ++ leb 1 x.outlet ++ leb 1 x.meterSel ++ leb 1 x.zone ++ leb 2 x.group ++ leb 2 x.segment ++ leb 4 x.serial ++
    leb 1 (b2n x.startFold.isSome + 2 * b2n (d.sealWithheld n) + 4 * b2n (x.reads || x.due)) ++ zeros 3 ++ leb 8 a.mwh ++ leb 8 l.mwh ++
    t80le a.time ++ zeros 6

/-- SES_STATUS: it answers while another command of the session waits. -/
def sesStatus (rq : Req) (d : Dev) : Dev :=
  d.serve 0x0A09 rq (rspMax 48) (fun d _ bs => withSession d bs (fun n => ansOk d (d.sesStatusBytes n)))

/-- SES_STATUS. -/
def execSesStatus (rq : Req) (s : State) : Out := onDev (sesStatus rq) s

/-! ## Export (R304, R306) -/

/-- The oldest readable RECORD_SEQ. -/
def Dev.oldestRecord (d : Dev) : Nat :=
  let low := max 1 (d.cask.nextSeq - 4096)
  (((List.range (d.cask.nextSeq - low)).map (fun i => low + i)).find? (fun q => !d.cask.voids.contains q)).getD d.cask.nextSeq

/-- Records from a RECORD_SEQ on, void values skipped. -/
def Dev.recordsFrom (d : Dev) (q max : Nat) : List Bytes :=
  ((((List.range (d.cask.nextSeq - q)).map (fun i => q + i)).filter (fun v => !d.cask.voids.contains v)).filterMap
    (fun v => tabFind d.cask.records (v % 4096))).take max

/-- The 16-byte header of a read: COUNT, oldest unacknowledged, next. -/
def exportHeader (count oldest next : Nat) : Bytes := leb 2 count ++ zeros 2 ++ leb 4 oldest ++ leb 4 next ++ zeros 4

/-- SES_RECORD_READ. -/
def sesRecordRead (rq : Req) (d : Dev) : Dev :=
  d.serve 0x0A0A rq (fun _ bs => 16 + 256 * byteAt bs 4) (fun d _ bs =>
    withLayout d 8 [fa 0 4, fr 4 1 1 (if reqBulkRsp rq then 255 else 15)] bs
      (let q := le bs 0 4
       if q + 4096 < d.cask.nextSeq then ansErrD d stNotFound d.oldestRecord
       else
         let got := d.recordsFrom q (byteAt bs 4)
         ansOk d (exportHeader got.length d.cask.unacked d.cask.nextSeq ++ got.flatten)))

/-- SES_RECORD_READ. -/
def execSesRecordRead (rq : Req) (s : State) : Out := onDev (sesRecordRead rq) s

/-- Records are acknowledged up to a RECORD_SEQ: SEALED sessions whose last record that covers return to IDLE (R287, R306). -/
def Dev.ackRecords (d : Dev) (upto : Nat) : Dev :=
  let lo := d.cask.unacked
  let n := ((List.range (upto + 1 - lo)).filter (fun i => !d.cask.voids.contains (lo + i))).length
  let d1 := (({ d with cask := { d.cask with unacked := upto + 1 } }).countN 10 6 n).ringLevel
  let done := d1.cask.sessions.filter (fun x => decide (x.2.state = .sealed) && decide (x.2.lastRecord ≤ upto))
  done.foldl (fun e x => e.sesFree x.1) d1

/-- SES_ACK: a record released, or an entry written, in the same tick is not yet there (R306). -/
def sesAck (rq : Req) (d : Dev) : Dev :=
  d.serve 0x0A0B rq (rspMax 4) (fun d _ bs => withLayout d 8 [fr 0 1 0 1, fa 4 4] bs
    (let q := le bs 4 4
     if byteAt bs 0 == 0 then
       (if ackLimit d.cask.released d.uptime d.cask.nextSeq ≤ q then ansErr d stBadParam
        else
          let d1 := if q < d.cask.unacked then d else d.ackRecords q
          ansOk d1 (leb 4 d1.span))
     else if ackLimit d.cask.logged d.uptime d.cask.logNext ≤ q then ansErr d stBadParam
     else
       let d1 := if q < d.cask.logUnacked then d else { d with cask := { d.cask with logUnacked := q + 1 } }
       ansOk d1 (leb 4 d1.logSpan)))

/-- SES_ACK. -/
def execSesAck (rq : Req) (s : State) : Out := onDev (sesAck rq) s

/-! ## Identification and the legal log -/

/-- A signature under the record signing key of R302. -/
def Dev.legalSign (d : Dev) (ch : Nat) (head signed : Bytes) : Ans :=
  let op := eccSign ch (byteAt d.cask.params 4) (slice (Config.sha256 signed) 0 32)
  (d.hashed signed.length).eccSubmit { op with cask := true, root := some (lifecycleRoot d.keep.lifecycle), head := head }

/-- SES_LEGAL_ID's bytes 0x00 to 0x7F. -/
def Dev.legalId (d : Dev) (nonce : Bytes) : Bytes :=
  let leg := d.inForce 2
  slice Config.uid 0 16 ++ leb 4 leg.version ++ leb 4 leg.epoch ++ d.imageDigest 2 ++ slice d.cask.params 0 4 ++ leb 1 d.keep.lifecycle ++
    zeros 3 ++ slice (Config.sha256 d.cask.params) 0 32 ++ leb 4 d.cask.nextSeq ++ leb 4 d.cask.logNext ++ slice nonce 0 16 ++
    leb 4 (d.keyId (byteAt d.cask.params 4)) ++ zeros 4

/-- SES_LEGAL_ID. -/
def sesLegalId (rq : Req) (d : Dev) : Dev :=
  d.serve 0x0A0C rq (rspMax 192) (fun d ch bs => withLayout d 16 [fa 0 16] bs (d.legalSign ch (d.legalId bs) (d.legalId bs)))

/-- SES_LEGAL_ID. -/
def execSesLegalId (rq : Req) (s : State) : Out := onDev (sesLegalId rq) s

/-- Log entries from a SEQ on. -/
def Dev.logFrom (d : Dev) (q max : Nat) : List Bytes :=
  (((List.range (d.cask.logNext - q)).take max).map (fun i => tabGet (zeros 64) d.cask.log ((q + i) % 2048)))

/-- SES_LEGAL_LOG_READ: the last entry returned is signed; with none returned there is nothing to sign, and the signature's bytes
are free. -/
def sesLegalLogRead (rq : Req) (d : Dev) : Dev :=
  d.serve 0x0A0D rq (fun _ bs => 80 + 64 * byteAt bs 4) (fun d ch bs => withLayout d 8 [fa 0 4, fr 4 1 1 60] bs
    (let q := le bs 0 4
     if q + 2048 < d.cask.logNext then ansErrD d stNotFound (d.cask.logNext - 2048)
     else
       let got := d.logFrom q (byteAt bs 4)
       let head := exportHeader got.length d.cask.logUnacked d.cask.logNext ++ got.flatten
       match got.getLast? with
       | some e => d.legalSign ch head e
       | none => ansOk { d with freeIx := d.freeIx + 1 } (head ++ slice (Config.fill d.freeIx) 0 64)))

/-- SES_LEGAL_LOG_READ. -/
def execSesLegalLogRead (rq : Req) (s : State) : Out := onDev (sesLegalLogRead rq) s

/-- SES_RESEAL (R303): a withheld seal is tried again. -/
def sesReseal (rq : Req) (d : Dev) : Dev :=
  d.serve 0x0A0F rq (rspMax 0) (fun d ch bs => withSession d bs (fun n =>
    if !d.sealWithheld n then ansErr d stWrongMode
    else
      match (d.ses n).cmd with
      | some c => ansErrD d stBusy c.2
      | none =>
        let try_ := fun (y : SealItem) => if y.session == n then { y with retry := true } else y
        let d1 := { d with cask := { d.cask with seals := d.cask.seals.map try_ } }
        .wait (d1.modSes n (fun x => { x with wait := .seal, cmd := some (ch, 0x0A0F) }))))

/-- SES_RESEAL. -/
def execSesReseal (rq : Req) (s : State) : Out := onDev (sesReseal rq) s

end Sys2Proof.Machine
end

