-- ==== Sys2Proof/Machine/Power.lean ====
section
/-! DEFINITION. Power states, sleep domains and wakes (chapter 13): holds, the sleep of a domain up to its commit point, entry
into DOZE and DORMANT, wakes, and the power commands. -/

namespace Sys2Proof.Machine

open Sys2Proof

/-! ## Holds (R337, R343) -/

/-- A session in BOUND, ACTIVE, SUSPENDED or CLOSING. -/
def Session.holds (x : Session) : Bool := decide (x.state ≠ .idle) && decide (x.state ≠ .sealed)

/-- A TIME_IO pin keeps the device awake: edges still to drive, or a pending pulse. -/
def TimePin.holds (q : TimePin) : Bool := (q.mode == 2 && (q.count == 0 || decide (q.used < q.count))) || q.pending.isSome

/-- An update is being applied, until its trial ends (R389): a trial, a reset that an activation asked for, or Kiln. -/
def Dev.updateHold (d : Dev) : Bool :=
  decide (d.host.stage = .kiln) || d.update.trial.isSome || (match d.boot.resetDue with | some r => r.2.2 == 3 | none => false)

/-- An enabled XG, GE or TS port in no domain whose link is up. -/
def Dev.portHold (d : Dev) : Bool := (List.range 50).any (fun p => (d.port p).admin && (d.port p).up && (d.domainOf p).isNone)

/-- HOLDS of PWR_STATUS, bit by bit (R337). -/
def Dev.deviceHolds (d : Dev) : Nat :=
  b2n (d.cask.sessions.any (fun x => x.2.holds)) + 2 * b2n (d.txn.txn.isSome || d.txn.committing.isSome) + 4 * b2n d.updateHold +
    8 * b2n (d.time.pins.any (fun x => x.2.holds) || !d.cupola.pins.isEmpty) + 16 * b2n (tabHas d.lantern.holds 32) +
    32 * b2n d.lantern.hostActive + 64 * b2n d.portHold

/-- A serial channel has a transaction or poll in progress or queued. -/
def SerialCh.busy (c : SerialCh) : Bool := c.txn.isSome || c.retry.isSome || !c.onDemand.isEmpty || !c.due.isEmpty

/-- A domain hold exists (R343). -/
def Dev.domainHold (d : Dev) (n : Nat) (m : Domain) : Bool :=
  tabHas d.lantern.holds n ||
  d.cask.sessions.any (fun x => x.2.holds && (bit m.portMask x.2.port ||
    (match d.meterPort x.2 with | some p => bit m.portMask p | none => false))) ||
  d.gateway.serial.any (fun c => bit m.portMask (serialPort c.1) && c.2.busy)

/-! ## The sleep of a domain (R342 to R346) -/

/-- A domain goes to PREPARE and waits PREPARE_MS (R344). -/
def Dev.prepare (d : Dev) (n : Nat) : Dev :=
  (d.setDomain n .prepare 0).modDomain n (fun m => { m with
    prepareEnd := d.uptime + ms m.prepareMs, indSent := 0, indDone := 0, firstRun := none })

/-- KEEP_ALIVE_TIMEOUT: a domain with a hold stays AWAKE until the hold ends (R342). -/
def keepAliveTimeout (n : Nat) (d : Dev) : Dev :=
  match tabFind d.lantern.domains n with
  | none => d
  | some m =>
    if m.state = .awake ∧ m.firstRun.isNone ∧ d.over m.kaDeadline = true ∧ d.domainHold n m = false then d.prepare n else d

/-- KEEP_ALIVE_TIMEOUT. -/
def execKeepAliveTimeout (domain : Nat) (s : State) : Out := onDev (keepAliveTimeout domain) s

/-- NO_TRAFFIC_TIMEOUT: the first run after a class B wake ends without a keep-alive (R351). -/
def noTrafficTimeout (n : Nat) (d : Dev) : Dev :=
  match tabFind d.lantern.domains n with
  | none => d
  | some m =>
    match m.firstRun with
    | none => d
    | some src =>
      if m.state = .awake ∧ d.over m.kaDeadline = true ∧ d.domainHold n m = false then
        ((d.prepare n).count 12 (n * 8 + 3)).post 0x0C03 n src
      else d

/-- NO_TRAFFIC_TIMEOUT. -/
def execNoTrafficTimeout (domain : Nat) (s : State) : Out := onDev (noTrafficTimeout domain) s

/-- CAN frames of a member channel go, its bus-off delay is frozen (R345, R348). -/
def Dev.canToSleep (d : Dev) (n k : Nat) : Dev :=
  match tabFind d.gateway.can k with
  | none => d
  | some c =>
    let lost := c.bufs.length + (if c.sending.isSome then 1 else 0)
    (d.modCan k (fun c => { c with
      bufs := [], sending := none, boffDeadline := none, frozen := c.boffDeadline.map (fun t => t - d.uptime) })).countN 12 (n * 8 + 6) lost

/-- The commit point (R345): ASLEEP; CAN frames still buffered are discarded, queued Ethernet frames are flushed, the CAN_STB pins
go to standby. -/
def Dev.commitSleep (d : Dev) (n : Nat) (m : Domain) : Dev :=
  let members := (List.range 90).filter (fun p => bit m.portMask p)
  let d1 := ((d.setDomain n .asleep 0).count 12 (n * 8)).modDomain n (fun m => { m with commitAt := d.uptime })
  let d2 := members.foldl (fun e p => (e.flushPort p).2) d1
  let d3 := (List.range 32).foldl (fun e k => if bit m.portMask (canPort k) then e.canToSleep n k else e) d2
  d3.driveStb m true

/-- An indication falls due: PREPARE_MS and IND_GAP_MS give when (R344). -/
def Domain.indDue (m : Domain) (k : Nat) : Nat := m.prepareEnd + k * ms m.indGapMs

/-- Send one indication, under GW_PDU_SEND semantics (R344, R257). -/
def Dev.sendIndication (d : Dev) (n : Nat) (m : Domain) : Dev :=
  (d.modDomain n (fun m => { m with indSent := m.indSent + 1 })).wantSend m.indPdu d.now

/-- PREPARE_EXPIRY: the first indication, or with IND_COUNT 0 the commit point, which is the end of PREPARE_MS itself (R345). -/
def prepareExpiry (n : Nat) (d : Dev) : Dev :=
  match tabFind d.lantern.domains n with
  | none => d
  | some m =>
    if m.state = .prepare ∧ m.indSent = 0 ∧ m.prepareEnd ≤ d.uptime then
      (if m.indCount == 0 then d.commitSleep n m else d.sendIndication n m)
    else d

/-- PREPARE_EXPIRY. -/
def execPrepareExpiry (domain : Nat) (s : State) : Out := onDev (prepareExpiry domain) s

/-- SLEEP_INDICATION_SEND: the next indication, IND_GAP_MS after the one before. -/
def indicationSend (n : Nat) (d : Dev) : Dev :=
  match tabFind d.lantern.domains n with
  | none => d
  | some m =>
    if m.state = .prepare ∧ 0 < m.indSent ∧ m.indSent < m.indCount ∧ m.indDue m.indSent ≤ d.uptime then d.sendIndication n m else d

/-- SLEEP_INDICATION_SEND. -/
def execSleepIndicationSend (domain : Nat) (s : State) : Out := onDev (indicationSend domain) s

/-- SLEEP_COMMIT_POINT: the end of the final indication is registered (R345). -/
def sleepCommit (n : Nat) (d : Dev) : Dev :=
  match tabFind d.lantern.domains n with
  | none => d
  | some m => if m.state = .prepare ∧ 0 < m.indCount ∧ m.indCount ≤ m.indDone then d.commitSleep n m else d

/-- SLEEP_COMMIT_POINT. -/
def execSleepCommitPoint (domain : Nat) (s : State) : Out := onDev (sleepCommit domain) s

/-- INDICATION_TIMEOUT: an indication is not complete 100 ms after it fell due (R345). -/
def indicationTimeout (n : Nat) (d : Dev) : Dev :=
  match tabFind d.lantern.domains n with
  | none => d
  | some m =>
    if m.state = .prepare ∧ m.indDone < m.indSent ∧ d.over (m.indDue m.indDone + ms 100) = true then
      (d.count 12 (n * 8 + 5)).commitSleep n m
    else d

/-- INDICATION_TIMEOUT. -/
def execIndicationTimeout (domain : Nat) (s : State) : Out := onDev (indicationTimeout domain) s

/-! ## DOZE and DORMANT (R336, R338, R339) -/

/-- DEVICE_SLEEP_ENTRY: every domain is past its commit point and no device hold exists. -/
def deviceSleepEntry (d : Dev) : Dev :=
  let awake := d.lantern.power = .run ∨ d.lantern.power = .partialRun
  if d.host.stage = .run ∧ awake ∧ d.lantern.entry.isNone ∧ d.lantern.target ≠ 0 ∧
      d.lantern.domains.all (fun x => decide (x.2.state = .asleep)) = true ∧ d.deviceHolds = 0 then
    { d with lantern := { d.lantern with entry := some (if d.lantern.target == 2 then .dormant else .doze, d.uptime) } }
  else d

/-- DEVICE_SLEEP_ENTRY. -/
def execDeviceSleepEntry (s : State) : Out := onDev deviceSleepEntry s

/-- USE_COUNT of every slot is written (R325). -/
def Dev.storeUse (d : Dev) : Dev :=
  let due := d.keep.slots.filter (fun k => k.2.origin != 3 && k.2.stored != k.2.useCount)
  let d1 := { d with keep := { d.keep with slots := tabMap d.keep.slots (fun _ k => { k with stored := k.useCount }) } }
  due.foldl (fun e k => e.writeBlob k.1 (e.keySlot k.1)) d1

/-- Every queue is flushed, engines and FIFOs are emptied; what DOZE does not retain is lost (R335, R338). -/
def Dev.stopEngines (d : Dev) : Dev :=
  let d1 := (List.range 96).foldl (fun e p => (e.flushPort p).2) d
  let f := d1.fabric
  let g := d1.gateway
  let cap := { captureRing0 with enable := f.capture.enable, wrap := f.capture.wrap, snapLen := f.capture.snapLen }
  { d1 with
    fabric := { f with
      frames := [], fifos := [], recirc := none, sending := [], preempted := [], cutting := [], capture := cap
      pools := tabMap f.pools (fun _ q => { q with bufs := [], mem := [], justFreed := [] }) }
    lauter := { d1.lauter with ends := [] }
    cupola := { d1.cupola with fanOut := [], fanIn := [], emitting := none }
    time := { d1.time with fifos := [] }
    gateway := { g with
      urgent := [], normal := [], can := tabMap g.can (fun _ c => { c with bufs := [], sending := none })
      serial := tabMap g.serial (fun _ c => { c with rx := [], tx := [] }) } }

/-- XG and GE ports without DOZE_WAKE power down in DOZE (R349); which of its causes PORT_LINK_DOWN then names is free. -/
def Dev.dozePorts (d : Dev) : Dev :=
  (List.range 34).foldl (fun e p =>
    let keep := match tabFind e.lantern.wake p with | some w => w.enable && bit w.mode 0 | none => false
    if keep then e else
      let c := e.free
      linkDown p (c.1 % 5 + 1) c.2) d

/-- The state is entered: PWR_STATE and an entry of the always-on log. -/
def Dev.enterSleep (d : Dev) (ps : PowerState) : Dev :=
  let d1 := (d.setPower ps 0).aonWrite 4 0 (powerCode ps)
  { d1 with lantern := { d1.lantern with entry := none, dozeSince := d.uptime } }

/-- DOZE_ENTRY_COMPLETE. -/
def dozeComplete (d : Dev) : Dev :=
  match d.lantern.entry with
  | some (.doze, _) => (((d.stopEngines.storeUse).dozePorts).count 12 256).enterSleep .doze
  | _ => d

/-- DOZE_ENTRY_COMPLETE. -/
def execDozeEntryComplete (s : State) : Out := onDev dozeComplete s

/-- The bank of each component in force; 2 where there is none. -/
def Dev.bankSelection (d : Dev) : List Nat := [1, 2, 3, 4, 5].map (fun c => (d.bankInForce c).getD 2)

/-- DORMANT_ENTRY_COMPLETE: everything but Lantern is lost; it keeps the bank selection, the generation and the write count
(R339, R418). The PCIe link goes down. Each persistent slot resumes from the USE_COUNT just written: this loss was planned (R325). -/
def dormantComplete (d : Dev) : Dev :=
  match d.lantern.entry with
  | some (.dormant, _) =>
    let l := d.lantern
    let d1 := (d.storeUse.count 12 257).enterSleep .dormant
    let kept := { d1.lantern with
      keptBanks := d.bankSelection, keptGeneration := d.txn.generation, keptWrites := d1.update.mramWrites, holds := []
      lastRequest := none, hostActive := false, dozeSince := 0 }
    let c := d1.clearVolatile
    { c with
      host := { c.host with pcieReady := false }
      keep := { c.keep with slots := tabMap d1.keep.slots (fun _ k => if k.origin == 3 then resetSlot k else k) }
      lantern := { kept with domains := l.domains }
      boot := { c.boot with resetKind := none }
      twin := { c.twin with act := d.twin.act, enable := d.twin.enable, filterUs := d.twin.filterUs, role := d.twin.role } }
  | _ => d

/-- DORMANT_ENTRY_COMPLETE. -/
def execDormantEntryComplete (s : State) : Out := onDev dormantComplete s

/-- DORMANT_AFTER_EXPIRY (R336). -/
def dormantAfter (d : Dev) : Dev :=
  let l := d.lantern
  if l.power = .doze ∧ l.entry.isNone ∧ l.target = 1 ∧ l.dormantAfterS ≠ 0 ∧ d.over (l.dozeSince + sec l.dormantAfterS) = true then
    { d with lantern := { l with entry := some (.dormant, d.uptime) } }
  else d

/-- DORMANT_AFTER_EXPIRY. -/
def execDormantAfterExpiry (s : State) : Out := onDev dormantAfter s

/-! ## Wakes (R347 to R355) -/

/-- The levels of a source's pattern, phase by phase (R350): dominant and space are low, receive activity is high. -/
def wakeLevels (source : Nat) (w : WakeCfg) : List Bool :=
  if 0x100 ≤ source then [bit w.mode 0]
  else if source < 50 then [true]
  else if source < 82 then (if bit w.mode 0 then [false, true, false] else [false])
  else [false]

/-- A phase lasts its filter time by the 1 MHz oscillator: always from 1.1 x FILTER_US, never up to 0.9 x FILTER_US, and between the two
as the oscillator happens to run, which is free (R350). -/
def phasePasses (filterUs ns draw : Nat) : Bool :=
  if filterUs * 1100 ≤ ns then true else if ns ≤ filterUs * 900 then false else bit (Config.freeNat draw) 0

/-- A pattern of the right levels whose phases all pass; that of a CAN channel in MODE 1 is complete within 6 x FILTER_US of its first
edge, when its last phase has lasted FILTER_US. -/
def wakePasses (source : Nat) (w : WakeCfg) (phases : List (Bool × Nat)) (draw : Nat) : Bool :=
  decide (phases.map (fun x => x.1) = wakeLevels source w) &&
  (phases.zipIdx.all (fun x => phasePasses w.filterUs x.1.2 (draw + x.2))) &&
  decide ((phases.dropLast.map (fun x => x.2)).sum ≤ 5 * w.filterUs * 1000)

/-- WAKE_PATTERN_DETECTED (R350): a class A source, a port while its domain sleeps or a WAKE pin at any time, showed phases of levels
and lengths in ns; the first level of its pattern begins one. -/
def wakePattern (source : Nat) (phases : List (Bool × Nat)) (d : Dev) : Dev :=
  match tabFind d.lantern.wake source with
  | none => d
  | some w =>
    let port := decide (34 ≤ source) && decide (source < 90)
    let pin := decide (0x100 ≤ source) && decide (source < 0x110)
    if !w.enable || !(port || pin) || decide ((phases.map (fun x => x.1)).head? ≠ (wakeLevels source w).head?) then d
    else
      let d1 := { d with freeIx := d.freeIx + phases.length }
      if !wakePasses source w phases d.freeIx then d1.count 12 (if port then 512 + source else 608 + (source - 0x100))
      else if pin then d1.wake w.target source
      else match d1.domainOf source with
        | some n => if d1.portSleeping source then d1.wake n source else d1
        | none => d1

/-- WAKE_PATTERN_DETECTED. -/
def execWakePatternDetected (source : Nat) (phases : List (Bool × Nat)) (s : State) : Out := onDev (wakePattern source phases) s

/-- HOST_WAKE (R340, R351): a doorbell write in DOZE, or HSPI_CS_N falling in DOZE or DORMANT; it makes host activity. -/
def hostWake (spi : Bool) (d : Dev) : Dev :=
  if d.host.spi != spi || !d.deviceAsleep || (!spi && decide (d.lantern.power = .dormant)) then d
  else
    let d1 := { d with lantern := { d.lantern with lastRequest := some d.uptime, hostActive := true } }
    let d2 := if spi then { d1 with host := { d1.host with spiMalformed := true } } else d1
    d2.wake 32 0x200

/-- HOST_WAKE. -/
def execHostWake (spi : Bool) (s : State) : Out := onDev (hostWake spi) s

/-- RTC_ALARM_WAKE (R355): the RTC has reached ALARM_S. -/
def rtcAlarm (d : Dev) : Dev :=
  let l := d.lantern
  if l.alarmS ≠ 0 ∧ l.alarmS ≤ l.rtcS then ({ d with lantern := { l with alarmS := 0 } }).wake l.alarmTarget 0x201 else d

/-- RTC_ALARM_WAKE. -/
def execRtcAlarmWake (s : State) : Out := onDev rtcAlarm s

/-- A latched wake is served: its source and the local time of its condition are noted, its target begins its exit (R347). -/
def Dev.serveLatched (d : Dev) (x : Nat × Nat × Nat) : Dev :=
  let d1 := (d.noteWake x.2.1)
  let d2 := { d1 with lantern := { d1.lantern with lastWakeTime := d.now - (d.uptime - x.2.2) } }
  match tabFind d2.lantern.domains x.1 with
  | some m => if m.state = .asleep then d2.beginWaking x.1 x.2.1 else d2
  | none => d2

/-- LATCHED_WAKE_SERVE: the first tick after the entry in progress completes; every latched target is served at one exit
(R347, R352). DORMANT is left by the warm path. -/
def latchedServe (d : Dev) : Dev :=
  match d.lantern.latched with
  | [] => d
  | x :: t =>
    let preparing := fun (y : Nat × Nat × Nat) => match tabFind d.lantern.domains y.1 with
      | some m => decide (m.state = .prepare)
      | none => false
    if d.lantern.entry.isSome || decide (d.lantern.power = .dormant) || (x :: t).any preparing then d
    else
      let d1 := { d with lantern := { d.lantern with latched := [] } }
      let d2 := if d.lantern.power = .doze then d1.leaveDoze x.2.1 else d1
      (x :: t).foldl (fun e y => e.serveLatched y) d2

/-- LATCHED_WAKE_SERVE. -/
def execLatchedWakeServe (s : State) : Out := onDev latchedServe s

/-- A CAN channel rejoins after 11 recessive bits, with its frozen bus-off delay (R348). -/
def Dev.canRejoin (d : Dev) (k : Nat) : Dev :=
  d.modCan k (fun c => { c.startWait d.uptime with boffDeadline := c.frozen.map (fun t => d.uptime + t), frozen := none })

/-- The domain's ports are in service again. -/
def Dev.domainAwake (d : Dev) (n : Nat) (m : Domain) : Dev :=
  let d1 := (d.driveStb m false).setDomain n .awake m.wakeSource
  (List.range 32).foldl (fun e k => if bit m.portMask (canPort k) && tabHas e.gateway.can k then e.canRejoin k else e) d1

/-- WAKE_EXIT_COMPLETE (R351, R352): not before STB_SETTLE_US where the domain has CAN_STB pins. After a class B wake the timer
runs first for NO_TRAFFIC_MS. -/
def wakeExit (n : Nat) (d : Dev) : Dev :=
  match tabFind d.lantern.domains n with
  | none => d
  | some m =>
    if m.state ≠ .waking ∨ (m.stbMask ≠ 0 ∧ d.uptime < m.wakeAt + m.settleUs * 1000) then d
    else
      let d1 := d.domainAwake n m
      if m.wakeSource < 34 then
        d1.modDomain n (fun m => { m with kaDeadline := d.uptime + ms m.noTrafficMs, firstRun := some m.wakeSource })
      else d1.restartKeepAlive n

/-- WAKE_EXIT_COMPLETE. -/
def execWakeExitComplete (domain : Nat) (s : State) : Out := onDev (wakeExit domain) s

/-! ## Holds that end -/

/-- HOST_IDLE_EXPIRY (R337). -/
def hostIdle (d : Dev) : Dev :=
  match d.lantern.lastRequest with
  | some t =>
    if d.lantern.hostActive && d.over (t + ms d.lantern.hostIdleMs) then { d with lantern := { d.lantern with hostActive := false } } else d
  | none => d

/-- HOST_IDLE_EXPIRY. -/
def execHostIdleExpiry (s : State) : Out := onDev hostIdle s

/-- PWR_HOLD_TIMEOUT. -/
def holdTimeout (scope : Nat) (d : Dev) : Dev :=
  match tabFind d.lantern.holds scope with
  | some h =>
    if d.overO h.deadline then ({ d with lantern := { d.lantern with holds := tabDel d.lantern.holds scope } }).post 0x0C04 scope 0 else d
  | none => d

/-- PWR_HOLD_TIMEOUT. -/
def execPwrHoldTimeout (scope : Nat) (s : State) : Out := onDev (holdTimeout scope) s

/-! ## Configuration -/

/-- The conditions among PWR_DOMAIN_CFG's fields. -/
def domainFieldsOk (bs : Bytes) : Bool :=
  let kind := byteAt bs 0x22
  let id := le bs 0x24 4
  let mask := le bs 0x28 4
  (if byteAt bs 0x1E == 0 then le bs 0x20 2 == 0xFFFF else decide (le bs 0x20 2 ≤ 16383)) &&
  (match kind with
   | 1 => decide (id < 2 ^ 30) && decide (mask < 2 ^ 30)
   | 3 => decide (id ≤ 16383) && mask == 0
   | _ => id == 0 && mask == 0) &&
  (kind == 2 || (le bs 0x2C 2 == 0 && be bs 0x2E 6 == 0))

/-- PWR_DOMAIN_CFG's checks. -/
def checkDomainCfg : Dev → Bytes → Nat :=
  checkOp 64 1 [fr 0 1 0 31]
    [fr 2 1 0 3, fr 3 1 0 31, fr 4 12 0 (2 ^ 90 - 1), fa 0x10 1, fr 0x12 2 0 1000, fr 0x14 4 100 3600000, fr 0x18 4 100 600000,
      fr 0x1C 2 0 10000, fr 0x1E 1 0 8, fr 0x1F 1 1 255, fa 0x20 2, fr 0x22 1 0 3, fa 0x24 4, fa 0x28 4, fa 0x2C 2, fa 0x2E 6]
    domainFieldsOk

/-- PWR_DOMAIN_CFG. -/
def execPwrDomainCfg (rq : Req) (s : State) : Out := onDev (Dev.serveStaged 0x0C01 rq checkDomainCfg) s

/-- A domain as configured: AWAKE, its timer at KA_TIMEOUT_MS (R357). -/
def domainOf (bs : Bytes) (up : Nat) : Domain :=
  { flags := byteAt bs 2, timer := byteAt bs 3, portMask := le bs 4 12, stbMask := byteAt bs 0x10, settleUs := le bs 0x12 2
    kaTimeoutMs := le bs 0x14 4, noTrafficMs := le bs 0x18 4, prepareMs := le bs 0x1C 2, indCount := byteAt bs 0x1E
    indGapMs := byteAt bs 0x1F, indPdu := le bs 0x20 2, kaKind := byteAt bs 0x22, kaId := le bs 0x24 4, kaMask := le bs 0x28 4
    kaEtype := le bs 0x2C 2, kaDa := be bs 0x2E 6, state := .awake, kaDeadline := up + ms (le bs 0x14 4), firstRun := none
    prepareEnd := 0, indSent := 0, indDone := 0, commitAt := 0, wakeSource := 0, wakeAt := 0 }

/-- A domain that slept wakes first (R357). -/
def Dev.wakeFirst (d : Dev) (n : Nat) : Dev :=
  match tabFind d.lantern.domains n with
  | some m => if m.state = .awake then d else d.domainAwake n m
  | none => d

/-- PWR_DOMAIN_CFG applied (R357). -/
def applyDomainCfg (bs : Bytes) (d : Dev) : Dev :=
  let n := byteAt bs 0
  let d1 := d.wakeFirst n
  if byteAt bs 1 == 1 then
    ({ d1 with lantern := { d1.lantern with domains := tabDel d1.lantern.domains n, holds := tabDel d1.lantern.holds n } }).settlePower
  else
    let m := domainOf bs d.uptime
    let d2 := { d1 with lantern := { d1.lantern with domains := tabPut d1.lantern.domains n m } }
    (d2.driveStb m false).settlePower

/-- PWR_WAKE_CFG's checks: what TARGET, FILTER_US and MODE mean depends on SOURCE. -/
def checkWakeCfg : Dev → Bytes → Nat :=
  checkLayout 16 [fa 0 2, fr 2 1 0 1, fa 3 1, fa 4 2, fr 6 1 0 1] (fun bs =>
    let src := le bs 0 2
    let classA := decide (1 ≤ le bs 4 2) && decide (le bs 4 2 ≤ 1000)
    if src < 34 then byteAt bs 3 == 0xFF && le bs 4 2 == 0
    else if src < 90 then byteAt bs 3 == 0xFF && classA && (byteAt bs 6 == 0 || (decide (50 ≤ src) && decide (src < 82)))
    else decide (0x100 ≤ src) && decide (src < 0x110) && decide (byteAt bs 3 ≤ 32) && classA)

/-- PWR_WAKE_CFG. -/
def execPwrWakeCfg (rq : Req) (s : State) : Out := onDev (Dev.serveStaged 0x0C02 rq checkWakeCfg) s

/-- PWR_WAKE_CFG applied. -/
def applyWakeCfg (bs : Bytes) (d : Dev) : Dev :=
  let w : WakeCfg := { enable := byteAt bs 2 == 1, target := byteAt bs 3, filterUs := le bs 4 2, mode := byteAt bs 6 }
  { d with lantern := { d.lantern with wake := tabPut d.lantern.wake (le bs 0 2) w } }

/-- PWR_POLICY_CFG's checks. -/
def checkPolicyCfg : Dev → Bytes → Nat :=
  checkLayout 16 [fr 0 1 0 2, fr 2 2 100 60000, fr 4 4 0 86400] (fun _ => true)

/-- PWR_POLICY_CFG. -/
def execPwrPolicyCfg (rq : Req) (s : State) : Out := onDev (Dev.serveStaged 0x0C03 rq checkPolicyCfg) s

/-- PWR_POLICY_CFG applied. -/
def applyPolicyCfg (bs : Bytes) (d : Dev) : Dev :=
  { d with lantern := { d.lantern with target := byteAt bs 0, hostIdleMs := le bs 2 2, dormantAfterS := le bs 4 4 } }

/-- A PWR_DOMAIN_CFG write of a domain. -/
def setsDomain (n : Nat) (c : Staged) : Bool := c.opcode == 0x0C01 && byteAt c.data 0 == n && byteAt c.data 1 == 0

/-- Two domains share a port: the lower one owns it (R341). -/
def pwrOverlap (ds : Tab Domain) (b : Batch) : Option Refused :=
  ds.findSome? (fun x => ds.findSome? (fun y =>
    if x.1 < y.1 ∧ x.2.portMask &&& y.2.portMask ≠ 0 then
      conflict 0x0C x.1 (b.last (fun c => setsDomain x.1 c || setsDomain y.1 c))
    else none))

/-- The indication's destination PDU does not send on a member port (R341): a CAN PDU on a member channel, an ETH or SERIAL_ENC
PDU whose frames are known to take another port (log 61). -/
def indPduBad (d' : Dev) (m : Domain) : Bool :=
  m.indCount != 0 &&
  (match tabFind d'.gateway.dsts m.indPdu with
   | none => true
   | some q =>
     match q.kind with
     | 0 => !bit m.portMask (canPort q.channel)
     | 1 => decide ((templatePorts d' q) ≠ []) && (templatePorts d' q).all (fun p => !bit m.portMask p)
     | 5 => decide ((templatePorts d' q) ≠ []) && (templatePorts d' q).all (fun p => !bit m.portMask p)
     | _ => true)

/-- The power conditions a commit is refused under (R341, PWR_WAKE_CFG), in the order of the table. -/
def commitPower (d' : Dev) (b : Batch) : Option Refused :=
  let ds := d'.lantern.domains
  let ours := b.any (fun x => x.2.opcode / 256 == 0x0C)
  let p9 := ds.findSome? (fun x =>
    if d'.twin.enable && bit x.2.portMask 9 then conflict 0x0D 0 ((b.last (setsDomain x.1)).or (b.last (fun c => c.opcode == 0x0D06))) else none)
  let ind := ds.findSome? (fun x => if indPduBad d' x.2 then refuseAt stBadParam (b.last (setsDomain x.1)) else none)
  let ka := ds.findSome? (fun x =>
    if x.2.kaKind == 3 && !tabHas d'.gateway.srcs x.2.kaId then refuseAt stNotFound (b.last (setsDomain x.1)) else none)
  let wake := b.findSome? (fun x =>
    if x.2.opcode == 0x0C02 && decide (le x.2.data 0 2 < 90) && (d'.domainOf (le x.2.data 0 2)).isNone then
      refuseAt stNotFound (some x.1)
    else none)
  if !ours then p9 else (pwrOverlap ds b).or (p9.or (ind.or (ka.or wake)))

/-! ## Immediate commands -/

/-- PWR_HOLD (R343). -/
def pwrHold (rq : Req) (d : Dev) : Dev :=
  d.serve 0x0C04 rq (rspMax 0) (fun d _ bs => withLayout d 8 [fr 0 1 0 32, fr 1 1 0 1, fa 2 2] bs
    (let n := byteAt bs 0
     if n < 32 ∧ tabHas d.lantern.domains n = false then ansErr d stNotFound
     else if byteAt bs 1 == 0 then ansOk { d with lantern := { d.lantern with holds := tabDel d.lantern.holds n } } []
     else
       let h : Hold := { deadline := if le bs 2 2 == 0 then none else some (d.uptime + sec (le bs 2 2)) }
       let d1 := { d with lantern := { d.lantern with holds := tabPut d.lantern.holds n h } }
       ansOk (if n < 32 then d1.wake n 0x204 else d1) []))

/-- PWR_HOLD. -/
def execPwrHold (rq : Req) (s : State) : Out := onDev (pwrHold rq) s

/-- PWR_STATUS's 64 bytes. -/
def Dev.powerStatus (d : Dev) : Bytes :=
  let l := d.lantern
  leb 1 (powerCode l.power) ++ zeros 1 ++ leb 2 d.deviceHolds ++ leb 2 l.lastWakeSrc ++ zeros 2 ++ t80le l.lastWakeTime ++ zeros 2 ++
    (List.range 32).flatMap (fun n => leb 1 (match tabFind l.domains n with | some m => domainCode m.state | none => 0xFF)) ++ zeros 12

/-- PWR_STATUS. -/
def pwrStatus (rq : Req) (d : Dev) : Dev :=
  d.serve 0x0C05 rq (rspMax 64) (fun d _ bs => withLayout d 0 [] bs (ansOk d d.powerStatus))

/-- PWR_STATUS. -/
def execPwrStatus (rq : Req) (s : State) : Out := onDev (pwrStatus rq) s

/-- An entry of the always-on log. -/
def aonBytes (e : AonEntry) : Bytes :=
  leb 1 e.type ++ zeros 1 ++ leb 2 e.source ++ leb 4 e.rtcS ++ leb 2 e.rtcSub ++ leb 2 e.seq ++ leb 4 e.data

/-- PWR_AON_LOG_READ (R356). -/
def pwrAonLogRead (rq : Req) (d : Dev) : Dev :=
  d.serve 0x0C06 rq (rspMax 260) (fun d _ bs => withLayout d 0 [] bs
    (let l := d.lantern.aonLog
     ansOk d (leb 1 l.length ++ zeros 3 ++ slice (l.flatMap aonBytes) 0 256)))

/-- PWR_AON_LOG_READ. -/
def execPwrAonLogRead (rq : Req) (s : State) : Out := onDev (pwrAonLogRead rq) s

/-- PWR_RTC_ALARM (R355). -/
def pwrRtcAlarm (rq : Req) (d : Dev) : Dev :=
  d.serve 0x0C07 rq (rspMax 0) (fun d _ bs => withLayout d 8 [fa 0 6, fr 6 1 0 32] bs
    (let t := le bs 0 6
     if t ≠ 0 ∧ t ≤ d.lantern.rtcS then ansErr d stBadParam
     else ansOk { d with lantern := { d.lantern with alarmS := t, alarmTarget := byteAt bs 6 } } []))

/-- PWR_RTC_ALARM. -/
def execPwrRtcAlarm (rq : Req) (s : State) : Out := onDev (pwrRtcAlarm rq) s

end Sys2Proof.Machine
end

