-- ==== Sys2Proof/Machine/SafetyCmds.lean ====
section
/-! DEFINITION. Lockstep and faults (chapter 14): the comparator's and the watchdog's findings, the restart from FAULT_HOLD, the
Spire pair's mode, and the safety commands but SAFE_TWIN_HANDOVER. -/

namespace Sys2Proof.Machine

open Sys2Proof

/-! ## The Spire pair (R358 to R362) -/

/-- The Spire pair runs: awake, past stage RESET, not in the stop of R408. -/
def Dev.spireRuns (d : Dev) : Bool :=
  decide (d.host.stage ≠ .reset) && !d.boot.stopped &&
  (decide (d.lantern.power = .run) || decide (d.lantern.power = .partialRun) || decide (d.lantern.power = .tamperHold))

/-- The SVC firmware runs: stages LOADING to RUN. -/
def Dev.firmwareRuns (d : Dev) : Bool := d.spireRuns && d.digestsValid

/-- LOCK_CMP (R358): in LOCKED, a mismatch or an invalid code. -/
def lockCmp (lanes : Nat) (d : Dev) : Dev := if d.spireRuns && !d.safety.split then d.faultF2 0x0101 0 lanes else d

/-- LOCK_CMP. -/
def execLockCmp (lanes : Nat) (s : State) : Out := onDev (lockCmp lanes) s

/-- LOCK_INFRA (R361): F2 in LOCKED; in SPLIT F1, and the return to LOCKED is refused until the next reset. -/
def Dev.lockInfra (d : Dev) (object : Nat) : Dev :=
  if d.safety.split then ({ d with safety := { d.safety with noReturn := true } }).faultF1 0x0102 object 0 else d.faultF2 0x0102 object 0

/-- DELAY_PARITY_ERROR (R359): OBJECT 1 names the input delay register, 2 the output one. -/
def delayParity (output : Bool) (d : Dev) : Dev := if d.spireRuns then d.lockInfra (if output then 2 else 1) else d

/-- DELAY_PARITY_ERROR. -/
def execDelayParityError (output : Bool) (s : State) : Out := onDev (delayParity output) s

/-- COMPARATOR_SELF_TEST (R360): every 1 ms, in either mode. -/
def selfTest (detected : Bool) (d : Dev) : Dev :=
  if !d.spireRuns || decide (d.uptime < d.safety.selfTestAt + ms 1) then d
  else if detected then ({ d with safety := { d.safety with selfTestAt := d.uptime } }).count 13 3
  else d.lockInfra 0

/-- COMPARATOR_SELF_TEST. -/
def execComparatorSelfTest (detected : Bool) (s : State) : Out := onDev (selfTest detected) s

/-- STATE_DIGEST_PASS (R362): every 10 ms, in LOCKED. -/
def digestPass (a b : Nat) (d : Dev) : Dev :=
  if !d.firmwareRuns || d.safety.split || decide (d.uptime < d.safety.digestAt + ms 10) then d
  else
    let d1 := ({ d with safety := { d.safety with digestAt := d.uptime } }).count 13 4
    if a == b then d1 else d1.faultF2 0x0103 0 0

/-- STATE_DIGEST_PASS. -/
def execStateDigestPass (digestA digestB : Nat) (s : State) : Out := onDev (digestPass digestA digestB) s

/-- WATCHDOG_EXPIRY: the firmware has not served the watchdog for WDT_MS since its last service, at the uptime `servedAt`; a service in the
tick in which WDT_MS expires is in time (R7, R367). -/
def watchdog (servedAt : Nat) (d : Dev) : Dev :=
  if d.firmwareRuns && d.over (servedAt + ms d.safety.wdtMs) then d.faultF2 0x0104 0 0 else d

/-- WATCHDOG_EXPIRY. -/
def execWatchdogExpiry (s : State) (servedAt : Nat := 0) : Out := onDev (watchdog servedAt) s

/-- R370 restarts in the last 3,600 s. -/
def Dev.recentRestarts (d : Dev) : List Nat := d.safety.restarts.filter (fun t => decide (d.uptime ≤ t + sec 3600))

/-- FAULT_HOLD_RESTART (R370): with F2_ACTION 1, RESTART_DELAY_MS after entry, while the hour's limit allows. -/
def faultHoldRestart (d : Dev) : Dev :=
  match d.safety.holdSince with
  | none => d
  | some t =>
    if decide (d.host.stage ≠ .faultHold) || d.safety.f2Action != 1 || !d.over (t + ms d.safety.restartDelayMs) ||
        decide (d.safety.restartsPerHour ≤ d.recentRestarts.length) then d
    else (({ d with safety := { d.safety with restarts := d.recentRestarts ++ [d.uptime] } }).systemReset 1).count 13 5

/-- FAULT_HOLD_RESTART. -/
def execFaultHoldRestart (s : State) : Out := onDev faultHoldRestart s

/-! ## Status and the fault log (R366, R368) -/

/-- SAFE_STATUS's 16 bytes. With no record yet, the SEQ of the latest one is free. -/
def Dev.safeStatusBytes (d : Dev) : Bytes :=
  let seq := match d.safety.log.getLast? with
    | some r => r.seq
    | none => Config.freeNat d.freeIx
  leb 1 (b2n d.safety.split) ++ leb 1 (b2n d.faultLow + 2 * b2n d.safeLow + 4 * b2n d.safety.noReturn) ++ leb 2 d.safety.lastCode ++ leb 4 seq ++
    leb 2 (min 65535 ((d.uptime - d.safety.selfTestAt) / 1000)) ++ leb 1 (min 255 ((d.uptime - d.safety.digestAt) / 1000000)) ++
    leb 1 (min 10 d.recentRestarts.length) ++ zeros 4

/-- SAFE_STATUS. -/
def safeStatus (rq : Req) (d : Dev) : Dev :=
  d.serve 0x0D01 rq (rspMax 16) (fun d _ bs => withLayout d 0 [] bs (ansOk d.free.2 d.safeStatusBytes))

/-- SAFE_STATUS. -/
def execSafeStatus (rq : Req) (s : State) : Out := onDev (safeStatus rq) s

/-- A fault log record's 32 bytes. -/
def faultBytes (r : FaultRec) : Bytes :=
  leb 4 r.seq ++ leb 2 r.code ++ leb 1 r.cls ++ leb 1 r.flags ++ t80le r.time ++ zeros 2 ++ leb 4 r.object ++ leb 8 r.data

/-- SEQ of the oldest record of the log; of the next one where there is none. -/
def Dev.oldestFault (d : Dev) : Nat := match d.safety.log with
  | r :: _ => r.seq
  | [] => d.safety.faultSeq

/-- SAFE_FAULT_READ (R368). -/
def safeFaultRead (rq : Req) (d : Dev) : Dev :=
  d.serve 0x0D02 rq (fun _ bs => 8 + 32 * byteAt bs 4) (fun d _ bs => withLayout d 8 [fa 0 4, fr 4 1 1 64] bs
    (let q := le bs 0 4
     let old := d.oldestFault
     if deadlineDiff q old < 0 then ansErrD d stNotFound old
     else
       let got := (d.safety.log.filter (fun r => decide (0 ≤ deadlineDiff r.seq q))).take (byteAt bs 4)
       ansOk d (leb 2 got.length ++ zeros 2 ++ leb 4 old ++ got.flatMap faultBytes)))

/-- SAFE_FAULT_READ. -/
def execSafeFaultRead (rq : Req) (s : State) : Out := onDev (safeFaultRead rq) s

/-- Mark the records up to a SEQ as cleared. -/
def Dev.clearFaults (d : Dev) (upto : Nat) : Dev :=
  let mark := fun (r : FaultRec) => if deadlineDiff r.seq upto ≤ 0 then { r with flags := setBit r.flags 3 } else r
  { d with safety := { d.safety with log := d.safety.log.map mark } }

/-- SAFE_FAULT_CLEAR (R366): FAULT_N rises when no uncleared record remains. -/
def safeFaultClear (rq : Req) (d : Dev) : Dev :=
  d.serve 0x0D03 rq (rspMax 4) (fun d _ bs => withLayout d 4 [fa 0 4] bs
    (let d1 := d.clearFaults (le bs 0 4)
     ansOk d1 (leb 4 d1.uncleared)))

/-- SAFE_FAULT_CLEAR. -/
def execSafeFaultClear (rq : Req) (s : State) : Out := onDev (safeFaultClear rq) s

/-! ## The Spire mode (R363 to R365) -/

/-- A session runs: BOUND, ACTIVE, SUSPENDED or CLOSING. -/
def Dev.sessionHeld (d : Dev) : Bool := d.cask.sessions.any (fun x => decide (x.2.state ≠ .idle ∧ x.2.state ≠ .sealed))

/-- The pause a hand-over took, in us: the spec bounds it and gives no value (R365), so it is free up to its bound. -/
def Dev.modePause (d : Dev) (bound : Nat) : Nat := Config.freePause d.freeIx % (bound + 1)

/-- Into SPLIT: LEG stops, the last digest pass completes, core B runs alone. -/
def Dev.toSplit (d : Dev) : Ans :=
  let us := d.modePause 2000
  let d1 := { d with
    safety := { d.safety with split := true, digestAt := d.uptime }
    boot := { d.boot with legRuns := false }
    freeIx := d.freeIx + 1 }
  ansOk ((d1.count 13 4).post 0x0D02 1 us) (leb 4 us)

/-- Back to LOCKED: one self-test and one digest pass, and LEG restarts. -/
def Dev.toLocked (d : Dev) : Ans :=
  let us := d.modePause 5000
  let d1 := { d with
    safety := { d.safety with split := false, digestAt := d.uptime, selfTestAt := d.uptime }
    boot := { d.boot with legRuns := (d.bankInForce 2).isSome }
    freeIx := d.freeIx + 1 }
  ansOk (((d1.count 13 3).count 13 4).post 0x0D02 0 us) (leb 4 us)

/-- Back to LOCKED with a failure of its step 5: no response is left to come, for the fault that follows restarts the pair (R365). -/
def Dev.returnFails (d : Dev) : Ans := .wait { d with safety := { d.safety with split := false } }

/-- SAFE_MODE_SET's refusals and effect; `passes` tells whether the self-test and the digest pass of a return's step 5 pass. -/
def modeBody (d : Dev) (split passes : Bool) : Ans :=
  if d.safety.split = split then ansOk d (leb 4 0)
  else if split then
    (if d.keep.lifecycle == 3 then ansErr d stNotPermitted
     else if d.twin.enable then ansErr d stWrongMode
     else if d.sessionHeld || d.txn.txn.isSome || d.txn.committing.isSome then ansErr d stBusy
     else d.toSplit)
  else if d.safety.noReturn then ansErr d stWrongMode
  else if passes then d.toLocked
  else d.returnFails

/-- SAFE_MODE_SET served. -/
def serveMode (rq : Req) (passes : Bool) (d : Dev) : Dev :=
  d.serve 0x0D04 rq (rspMax 4) (fun d _ bs =>
    withLayout d 8 [fr 0 1 0 1, fr 4 4 0x73706972 0x73706972] bs (modeBody d (byteAt bs 0 == 1) passes))

/-- SAFE_MODE_SET: a return to LOCKED that fails in step 5 is LOCK_INFRA in LOCKED (R365). -/
def safeModeSet (rq : Req) (passes : Bool) (d : Dev) : Dev :=
  let e := serveMode rq passes d
  if !passes && d.safety.split && !e.safety.split then e.faultF2 0x0102 0 0 else e

/-- SAFE_MODE_SET. -/
def execSafeModeSet (rq : Req) (s : State) (returnPasses : Bool := true) : Out := onDev (safeModeSet rq returnPasses) s

/-! ## Policy and twin configuration -/

/-- SAFE_POLICY_CFG's checks. -/
def checkSafePolicy : Dev → Bytes → Nat := checkLayout 8 [fr 0 1 0 1, fr 1 1 1 10, fr 2 2 10 10000, fr 4 2 10 1000] (fun _ => true)

/-- SAFE_POLICY_CFG applied. -/
def applySafePolicy (bs : Bytes) (d : Dev) : Dev :=
  { d with safety := { d.safety with
      f2Action := byteAt bs 0, f2Set := true, restartsPerHour := byteAt bs 1, restartDelayMs := le bs 2 2, wdtMs := le bs 4 2 } }

/-- SAFE_POLICY_CFG. -/
def execSafePolicyCfg (rq : Req) (s : State) : Out := onDev (Dev.serveStaged 0x0D05 rq checkSafePolicy) s

/-- SAFE_TWIN_CFG's checks: ENABLE 1 in SPLIT answers WRONG_MODE (R363). -/
def checkSafeTwin (d : Dev) (bs : Bytes) : Nat :=
  let st := checkLayout 16 [fr 0 1 0 1, fr 1 1 0 1, fr 2 2 10 1000, fr 4 2 1 100, fr 6 2 2 1000, fr 8 2 0 10000, fr 0x0A 2 0 3600]
    (fun _ => true) d bs
  if st == stOk && byteAt bs 0 == 1 && d.safety.split then stWrongMode else st

/-- Change the twin's role, with TWIN_ROLE and its cause. -/
def Dev.setRole (d : Dev) (r : TwinRole) (cause : Nat) : Dev :=
  if d.twin.role = r then d
  else (d.modTwin (fun t => { t with role := r })).post 0x0D03 (roleCode r) (roleCode d.twin.role + cause % 256 * 2 ^ 8)

/-- A role taken for a reason that TWIN_ROLE has no cause for: the cause is free. -/
def Dev.freeRole (d : Dev) (r : TwinRole) : Dev := if d.twin.role = r then d else d.free.2.setRole r d.free.1

/-- At stage RUN with twin mode enabled the device pairs; with ACT held by Lantern through DORMANT it stays active
(R373, R374). -/
def Dev.startPairing (d : Dev) : Dev := d.freeRole (if d.twin.act then .active else .pairing)

/-- The twin unit with the configuration kept and nothing of a pairing left. -/
def Twin.unpaired (t : Twin) : Twin :=
  { twin0 with
    enable := t.enable, loose := t.loose, filterUs := t.filterUs, journalMs := t.journalMs, linkTimeoutMs := t.linkTimeoutMs
    primaryWaitMs := t.primaryWaitMs, looseS := t.looseS, role := t.role, actInHigh := t.actInHigh, actInHighSince := t.actInHighSince
    strap := t.strap }

/-- P9 leaves the switch as twin mode begins (R10): what is queued to it goes, counted in TX_LINK_FLUSH, and so do the addresses
learned on it (DESIGN CHOICE, log 81). -/
def Dev.twinTakesP9 (d : Dev) : Dev := ((d.flushPort 9).2).fdbFlushPort 9

/-- SAFE_TWIN_CFG applied: twin mode enabled takes P9, and in RUN begins to pair; disabled, ACT_OUT_N is released (R372). -/
def applySafeTwin (bs : Bytes) (d : Dev) : Dev :=
  let on := byteAt bs 0 == 1
  let d0 := if on && !d.twin.enable then d.twinTakesP9 else d
  let d1 := d0.modTwin (fun t => { t with
    enable := on, loose := bit (byteAt bs 1) 0, filterUs := le bs 2 2, journalMs := le bs 4 2, linkTimeoutMs := le bs 6 2
    primaryWaitMs := le bs 8 2, looseS := le bs 0x0A 2 })
  if on && !d.twin.enable && decide (d.host.stage = .run) then d1.startPairing
  else if !on && d.twin.enable then (d1.modTwin Twin.unpaired).freeRole .disabled
  else d1

/-- SAFE_TWIN_CFG. -/
def execSafeTwinCfg (rq : Req) (s : State) : Out := onDev (Dev.serveStaged 0x0D06 rq checkSafeTwin) s

/-- SAFE_TWIN_STATUS's 32 bytes. -/
def Dev.twinStatusBytes (d : Dev) : Bytes :=
  let t := d.twin
  let lag := match t.unacked with
    | j :: _ => (d.uptime - j.sentAt) / 1000
    | [] => 0
  leb 1 (roleCode t.role) ++ leb 1 (b2n t.sync) ++ leb 1 (b2n t.link) ++ leb 1 (b2n t.act + 2 * b2n (!t.actInHigh) + 4 * b2n t.strap) ++
    leb 16 t.peerUid ++ leb 4 t.txSeq ++ leb 4 t.acked ++ leb 4 (min lag (2 ^ 32 - 1))

/-- SAFE_TWIN_STATUS. -/
def safeTwinStatus (rq : Req) (d : Dev) : Dev :=
  d.serve 0x0D07 rq (rspMax 32) (fun d _ bs => withLayout d 0 [] bs (ansOk d d.twinStatusBytes))

/-- SAFE_TWIN_STATUS. -/
def execSafeTwinStatus (rq : Req) (s : State) : Out := onDev (safeTwinStatus rq) s

end Sys2Proof.Machine
end

