-- ==== Sys2Proof/Machine/TimeCmds.lean ====
section
/-! DEFINITION. The time commands (chapter 10): staging checks, what a commit applies, and the immediate commands. -/

namespace Sys2Proof.Machine

open Sys2Proof

/-! ## Staged commands -/

/-- TIME_CLOCK_CFG's checks. -/
def checkTimeClock : Dev → Bytes → Nat :=
  checkLayout 40
    [fr 0 1 0 1, fr 1 1 0 3, fr 2 1 1 255, fr 4 4 1 0x80000, fr 8 4 0 0x80000, fr 0x0C 2 1 100, fr 0x10 4 10 1000000,
      fr 0x14 4 1000 1000000000, fr 0x18 2 1 10000, fr 0x1C 4 1000 100000000, fr 0x20 4 0 1000000000]
    (fun _ => true)

/-- TIME_CLOCK_CFG in force: a changed WORK_SLOT switches (R271). -/
def applyTimeClock (bs : Bytes) (d : Dev) : Dev :=
  let ws := byteAt bs 0
  let d1 := { d with time := { d.time with
      cfgSlot := ws, stepAllow := bit (byteAt bs 1) 0, autoSwitch := bit (byteAt bs 1) 1, lockCount := byteAt bs 2
      kp := le bs 4 4, ki := le bs 8 4, slewPpm := le bs 0x0C 2, lockNs := le bs 0x10 4, stepNs := le bs 0x14 4
      holdoverPpb := le bs 0x18 2, budgetNs := le bs 0x1C 4, switchMax := le bs 0x20 4 } }
  (if ws != d.time.cfgSlot && ws != d.time.workSlot then d1.switchSlot ws 3 else d1).settleQuality

/-- A signed byte lies in a range. -/
def signedIn (v : Nat) (lo hi : Int) : Bool := decide (lo ≤ signed 8 v) && decide (signed 8 v ≤ hi)

/-- TIME_DOMAIN_CFG's checks. -/
def checkTimeDomain : Dev → Bytes → Nat :=
  checkLayout 32
    [fr 0 1 0 1, fr 1 1 0 1, fr 2 1 0 127, fr 3 1 0 3, fa 4 1, fa 5 1, fa 6 1, fa 7 1, fr 8 1 2 255, fr 9 1 2 255, fa 0x0C 12, fa 0x18 1]
    (fun bs =>
      let sp := byteAt bs 0x18
      signedIn (byteAt bs 6) (-7) 3 && signedIn (byteAt bs 7) (-3) 4 &&
      decide (le bs 0x0C 12 % 2 ^ 90 < 2 ^ 34) && decide (le bs 0x0C 12 < 2 ^ 91) &&
      (if bit (byteAt bs 3) 1 then decide (sp ≤ 33) || sp == 90 || sp == 255 else sp == 255))

/-- The slot TIME_DOMAIN_CFG asks for, before it runs. -/
def slotOfCfg (bs : Bytes) : Slot :=
  { slot0 with
    enable := byteAt bs 1 == 1, domain := byteAt bs 2, flags := byteAt bs 3, priority1 := byteAt bs 4, priority2 := byteAt bs 5,
    logSync := signed 8 (byteAt bs 6), logAnnounce := signed 8 (byteAt bs 7), syncTimeout := byteAt bs 8,
    announceTimeout := byteAt bs 9, portMask := le bs 0x0C 12, slavePort := byteAt bs 0x18,
    slave := if bit (byteAt bs 3) 1 then byteAt bs 0x18 else 255 }

/-- The configured part of two slots is the same. -/
def sameSlotCfg (a b : Slot) : Bool :=
  a.enable == b.enable && a.domain == b.domain && a.flags == b.flags && a.priority1 == b.priority1 && a.priority2 == b.priority2 &&
    decide (a.logSync = b.logSync) && decide (a.logAnnounce = b.logAnnounce) && a.syncTimeout == b.syncTimeout &&
    a.announceTimeout == b.announceTimeout && a.portMask == b.portMask && a.slavePort == b.slavePort

/-- TIME_DOMAIN_CFG in force: a changed slot restarts in LISTENING. -/
def applyTimeDomain (bs : Bytes) (d : Dev) : Dev :=
  let i := byteAt bs 0
  let old := d.slot i
  let s := slotOfCfg bs
  if sameSlotCfg old s then d
  else
    let d1 := d.putSlot i { s with state := old.state, gmId := 0, announceDeadline := if s.enable then some (d.uptime + receiptNs s.announceTimeout s.logAnnounce) else none }
    d1.slotState i (if s.enable then .listening else .disabled)

/-- TIME_PORT_CFG's checks: unused rate slots must be 0. -/
def checkTimePort : Dev → Bytes → Nat :=
  checkLayout 48 [fr 0 1 0 90, fr 1 1 0 1, fa 2 1, fr 4 4 1 1000000, fa 8 4, fa 0x10 32]
    (fun bs =>
      let p := byteAt bs 0
      let used := if p < 10 then 4 else if p < 34 then 3 else 1
      (decide (p < 50) || p == 90) && (byteAt bs 1 == 0 || decide (p < 34)) && signedIn (byteAt bs 2) (-3) 5 &&
        allZero ((bs.drop (0x10 + 8 * used)).take (32 - 8 * used)))

/-- TIME_PORT_CFG in force (R277): a frame of 9,216 bytes lasts less than 10 ms at 10 Mbit/s, so older latencies are forgotten. -/
def applyTimePort (bs : Bytes) (d : Dev) : Dev :=
  let p := byteAt bs 0
  let t := tabGet timePort0 d.time.ports p
  let on := bit (byteAt bs 1) 0
  let t' := { t with
    peerDelay := on, logPdelay := signed 8 (byteAt bs 2), thresh := le bs 4 4, asym := signed 32 (le bs 8 4)
    rxLat := (List.range 4).map (fun r => signed 32 (le bs (0x10 + 8 * r) 4))
    txLat := (List.range 4).map (fun r => signed 32 (le bs (0x14 + 8 * r) 4))
    rxPast := t.rxPast.filter (fun x => decide (d.now < x.1 + ms 10)) ++ [(d.now, t.rxLat)]
    reqSent := if on then t.reqSent else none
    missed := if on && t.peerDelay then t.missed else 0
    pdelayLast := if !on then none else if t.peerDelay then t.pdelayLast else some d.uptime }
  let d1 := { d with time := { d.time with ports := tabPut d.time.ports p t' } }
  if on then d1 else d1.setCapable p false

/-- TIME_BEACON_CFG's checks: BEACON_DA is a group address. -/
def checkTimeBeacon : Dev → Bytes → Nat :=
  checkLayout 16 [fr 0 1 34 49, fr 1 1 0 1, fr 2 2 1 1000, fa 4 6, fr 0x0A 2 0 1000] (fun bs => bit (byteAt bs 4) 0)

/-- TIME_BEACON_CFG in force: due at the next multiple of PERIOD_MS. -/
def applyTimeBeacon (bs : Bytes) (d : Dev) : Dev :=
  let p := byteAt bs 0
  let per := le bs 2 2
  let b := { d.beacon p with
    enable := byteAt bs 1 == 1, periodMs := per, da := be bs 4 6, segDelay := le bs 0x0A 2, due := false
    next := (d.now / ms per + 1) * ms per }
  d.putBeacon p b

/-- TIME_IO_CFG's checks: fields its MODE does not use are 0. -/
def checkTimeIo : Dev → Bytes → Nat :=
  checkLayout 32 [fr 0 1 0 15, fr 1 1 0 3, fr 2 1 0 15, fa 3 1, fa 4 10, fa 0x10 4, fa 0x14 4, fa 0x18 4, fa 0x1C 4]
    (fun bs =>
      let flags := byteAt bs 2
      let startZero := allZero (slice bs 4 10)
      let per := le bs 0x10 4
      let w := le bs 0x14 4
      match byteAt bs 1 with
      | 0 => allZero (bs.drop 2)
      | 1 => decide (flags < 2) && byteAt bs 3 == 0 && startZero && per == 0 && le bs 0x18 4 == 0 && decide (4 ≤ w) && decide (w ≤ 1000000000)
      | 2 => decide (flags < 2) && byteAt bs 3 == 0 && decide (le bs 10 4 < 1000000000) && decide (100 ≤ per) &&
          decide (per ≤ 1000000000) && decide (4 ≤ w) && decide (w + 4 ≤ per)
      | _ => !bit flags 0 && startZero && per == 0 && w == 0 && le bs 0x18 4 == 0)

/-- TIME_IO_CFG in force: the pin goes inactive and starts afresh; a START in the past begins at the first edge at least 1 µs
after the flip (R283). MODE 0 releases the pin. -/
def applyTimeIo (bs : Bytes) (d : Dev) : Dev :=
  let n := byteAt bs 0
  if byteAt bs 1 == 0 then { d with time := { d.time with pins := tabDel d.time.pins n } }
  else
    let start := t80At bs 4
    let per := le bs 0x10 4
    let q : TimePin := { timePin0 with
      mode := byteAt bs 1, flags := byteAt bs 2, filter := byteAt bs 3, start := start, period := per, width := le bs 0x14 4
      count := le bs 0x18 4, comp := signed 32 (le bs 0x1C 4)
      k := if byteAt bs 1 == 2 && decide (start < d.now) then ceilDiv (d.now + 1000 - start) per else 0 }
    d.putPin n q

/-! ## Rows that stage -/

/-- TIME_CLOCK_CFG. -/
def execTimeClockCfg (rq : Req) (s : State) : Out := onDev (Dev.serveStaged 0x0901 rq checkTimeClock) s

/-- TIME_DOMAIN_CFG. -/
def execTimeDomainCfg (rq : Req) (s : State) : Out := onDev (Dev.serveStaged 0x0902 rq checkTimeDomain) s

/-- TIME_PORT_CFG. -/
def execTimePortCfg (rq : Req) (s : State) : Out := onDev (Dev.serveStaged 0x0903 rq checkTimePort) s

/-- TIME_BEACON_CFG. -/
def execTimeBeaconCfg (rq : Req) (s : State) : Out := onDev (Dev.serveStaged 0x0904 rq checkTimeBeacon) s

/-- TIME_IO_CFG. -/
def execTimeIoCfg (rq : Req) (s : State) : Out := onDev (Dev.serveStaged 0x0905 rq checkTimeIo) s

/-! ## Immediate commands -/

/-- One slot's 24 bytes of TIME_STATUS. -/
def Dev.slotStatus (d : Dev) (i : Nat) : Bytes :=
  let s := d.slot i
  let hold := if s.state = .holdover then (d.uptime - s.holdoverStart) / 1000000000 else 0
  leb 1 (slotCode s.state) ++ leb 1 s.slave ++ leb 2 s.stepsRemoved ++
    leb 4 (if slotValid s then hold32 (d.slotOffset s) else 0) ++ leb 4 (if slotValid s then hold32 (slotPpb s) else 0) ++
    leb 8 s.gmId ++ leb 4 hold

/-- TIME_STATUS. -/
def timeStatus (rq : Req) (d : Dev) : Dev :=
  d.serve 0x0906 rq (rspMax 64) (fun d _ bs => withLayout d 0 [] bs
    (ansOk d (leb 1 d.time.workSlot ++ leb 1 d.qualityNow ++ zeros 2 ++ leb 4 d.errNs ++ leb 8 d.time.clock.increment ++
      d.slotStatus 0 ++ d.slotStatus 1)))

/-- TIME_STATUS. -/
def execTimeStatus (rq : Req) (s : State) : Out := onDev (timeStatus rq) s

/-- A slot's time as T80, zero while it is not valid. -/
def Dev.slotT80 (d : Dev) (i : Nat) : Bytes :=
  if slotValid (d.slot i) then t80le (d.slotTime (d.slot i)).toNat else zeros 10

/-- TIME_READ: all times of one tick. -/
def timeRead (rq : Req) (d : Dev) : Dev :=
  d.serve 0x0907 rq (rspMax 36) (fun d _ bs => withLayout d 0 [] bs
    (ansOk d (t80le d.now ++ leb 1 d.qualityNow ++ zeros 1 ++ d.slotT80 0 ++
      leb 1 (b2n (slotValid (d.slot 0)) + 2 * b2n (slotValid (d.slot 1))) ++ zeros 1 ++ d.slotT80 1 ++ zeros 2)))

/-- TIME_READ. -/
def execTimeRead (rq : Req) (s : State) : Out := onDev (timeRead rq) s

/-- TIME_SWITCH. -/
def timeSwitch (rq : Req) (d : Dev) : Dev :=
  d.serve 0x0908 rq (rspMax 8) (fun d _ bs => withLayout d 4 [fr 0 1 0 1] bs
    (let i := byteAt bs 0
     let off := d.slotOffset (d.slot i)
     let rsp := leb 4 (hold32 off) ++ leb 4 (ceilDiv off.natAbs d.time.slewPpm)
     if i == d.time.workSlot then ansOk d rsp
     else if (d.slot i).state = .locked then ansOk (d.switchSlot i 1) rsp
     else ansErr d stWrongMode))

/-- TIME_SWITCH. -/
def execTimeSwitch (rq : Req) (s : State) : Out := onDev (timeSwitch rq) s

/-- TIME_SET (R272): QUALITY becomes UNSYNCED. -/
def timeSet (rq : Req) (d : Dev) : Dev :=
  d.serve 0x0909 rq (rspMax 0) (fun d _ bs => withLayout d 12 [fa 0 6, fr 6 4 0 999999999] bs
    (let st := d.work.state
     if st = .disabled ∨ st = .listening ∨ st = .grandmaster then
       let d1 := d.stepTo (t80At bs 0)
       let d2 := { d1 with time := { d1.time with clock := { d1.time.clock with frac := 0 }, clockSet := true } }
       ansOk d2.settleQuality []
     else ansErr d stWrongMode))

/-- TIME_SET. -/
def execTimeSet (rq : Req) (s : State) : Out := onDev (timeSet rq) s

/-- A capture record. -/
def captureBytes (c : Capture) : Bytes := t80le c.time ++ leb 1 c.edge ++ leb 1 c.flags ++ leb 2 c.seq ++ zeros 2

/-- TIME_CAPTURE_READ: the oldest records, which the read removes. -/
def timeCaptureRead (rq : Req) (d : Dev) : Dev :=
  d.serve 0x090A rq (fun _ bs => 4 + 16 * byteAt bs 1) (fun d _ bs => withLayout d 4 [fr 0 1 0 15, fr 1 1 1 16] bs
    (let q := d.pin (byteAt bs 0)
     if q.mode != 3 then ansErr d stWrongMode
     else
       let rs := q.captures.take (byteAt bs 1)
       ansOk (d.putPin (byteAt bs 0) { q with captures := q.captures.drop (byteAt bs 1) })
         (leb 1 rs.length ++ zeros 3 ++ rs.flatMap captureBytes)))

/-- TIME_CAPTURE_READ. -/
def execTimeCaptureRead (rq : Req) (s : State) : Out := onDev (timeCaptureRead rq) s

/-- TIME_PULSE (R284): a pulse due in this tick is driven first. -/
def timePulse (rq : Req) (d : Dev) : Dev :=
  d.serve 0x090B rq (rspMax 0) (fun d _ bs => withLayout d 16 [fr 0 1 0 15, fa 4 6, fr 10 4 0 999999999] bs
    (let n := byteAt bs 0
     if (d.pin n).mode != 1 then ansErr d stWrongMode
     else if t80At bs 4 < d.now + 1000 then ansErr d stBadParam
     else
       let due := match (d.pin n).pending with | some t => decide ((d.pin n).driveAt t ≤ d.now) | none => false
       let d1 := if due then timeIoEdge n d else d
       ansOk (d1.putPin n { d1.pin n with pending := some (t80At bs 4) }) []))

/-- TIME_PULSE. -/
def execTimePulse (rq : Req) (s : State) : Out := onDev (timePulse rq) s

end Sys2Proof.Machine
end

