-- ==== Sys2Proof/Machine/Txn.lean ====
section
/-! DEFINITION. Configuration transactions (chapter 02, R53 to R57): what a staged command is checked against and what it
applies, resource claims (R26 to R28), the conditions a commit is refused under, the commit with its bank switches (R150, R227),
and the transaction commands. -/

namespace Sys2Proof.Machine

open Sys2Proof

/-! ## The staged commands -/

/-- The staging check of a transactional opcode; none for any other. -/
def stagingCheck (op : Nat) : Option (Dev → Bytes → Nat) :=
  match op with
  | 0x0108 => some checkChannelCfg
  | 0x0201 => some checkPortCfg
  | 0x0202 => some checkPortFilter
  | 0x0203 => some checkPortPlca
  | 0x0301 => some checkFabBuffer
  | 0x0302 => some checkFabMirror
  | 0x0303 => some checkFabCapture
  | 0x0305 => some checkFabLag
  | 0x0307 => some checkFabHopper
  | 0x0401 => some checkLtrPort
  | 0x0402 => some checkLtrVlan
  | 0x0403 => some checkLtrStatic
  | 0x0404 => some checkLtrFdbCfg
  | 0x0407 => some checkLtrMcast
  | 0x0408 => some checkLtrAcl
  | 0x0409 => some checkLtrProfile
  | 0x040A => some checkLtrPolicer
  | 0x040B => some checkLtrMatrix
  | 0x040C => some checkLtrCt
  | 0x0501 => some checkStrStream
  | 0x0502 => some checkStrMeter
  | 0x0503 => some checkStrGateCfg
  | 0x0504 => some checkStrGateEntries
  | 0x0505 => some checkStrCbs
  | 0x0506 => some checkStrPreempt
  | 0x0507 => some checkStrFrer
  | 0x0508 => some checkStrObserve
  | 0x0605 => some checkPathSet
  | 0x0606 => some checkBusDeclare
  | 0x0701 => some checkCupGroup
  | 0x0702 => some checkCupMembers
  | 0x0703 => some checkCupTrip
  | 0x0801 => some checkCanCfg
  | 0x0802 => some checkCanFilter
  | 0x0803 => some checkSerialCfg
  | 0x0804 => some checkPollSet
  | 0x0805 => some checkSrcPdu
  | 0x0806 => some checkDstPdu
  | 0x0807 => some checkRouteSet
  | 0x0808 => some checkScaleSet
  | 0x0901 => some checkTimeClock
  | 0x0902 => some checkTimeDomain
  | 0x0903 => some checkTimePort
  | 0x0904 => some checkTimeBeacon
  | 0x0905 => some checkTimeIo
  | 0x0B0D => some checkTamperCfg
  | 0x0C01 => some checkDomainCfg
  | 0x0C02 => some checkWakeCfg
  | 0x0C03 => some checkPolicyCfg
  | 0x0D05 => some checkSafePolicy
  | 0x0D06 => some checkSafeTwin
  | _ => none

/-- What a staged command puts in force, but for Lauter's tables, gate lists and groups, which a commit applies together. -/
def applyPlain (d : Dev) (c : Staged) : Dev :=
  match c.opcode with
  | 0x0108 => applyChannelCfg c.data d
  | 0x0201 => applyPortCfg c.data d
  | 0x0202 => applyPortFilter c.data d
  | 0x0203 => applyPortPlca c.data d
  | 0x0301 => applyFabBuffer c.data d
  | 0x0302 => applyFabMirror c.data d
  | 0x0303 => applyFabCapture c.data d
  | 0x0305 => applyFabLag c.data d
  | 0x0307 => applyFabHopper c.data d
  | 0x0501 => applyStrStream c.data d
  | 0x0502 => applyStrMeter c.data d
  | 0x0505 => applyStrCbs c.data d
  | 0x0506 => applyStrPreempt c.data d
  | 0x0507 => applyStrFrer c.data d
  | 0x0508 => applyStrObserve c.data d
  | 0x0605 => applyPathSet c.data d
  | 0x0606 => applyBusDeclare c.data d
  | 0x0901 => applyTimeClock c.data d
  | 0x0902 => applyTimeDomain c.data d
  | 0x0903 => applyTimePort c.data d
  | 0x0904 => applyTimeBeacon c.data d
  | 0x0905 => applyTimeIo c.data d
  | 0x0B0D => applyTamperCfg c.data d
  | 0x0C01 => applyDomainCfg c.data d
  | 0x0C02 => applyWakeCfg c.data d
  | 0x0C03 => applyPolicyCfg c.data d
  | 0x0D05 => applySafePolicy c.data d
  | 0x0D06 => applySafeTwin c.data d
  | _ => applyGateway c d

/-- The command changes a group, its members or its trip. -/
def isCupola (c : Staged) : Bool := c.opcode / 256 == 7

/-- A transaction's commands without their indices. -/
def Batch.commands (b : Batch) : List Staged := b.map (fun x => x.2)

/-- The commands applied at once, whether or not a bank then switches: all but Lauter's and the Cupola's. A slot that they restart may
switch the working slot (R271). -/
def applyAtOnce (b : Batch) (d : Dev) : Dev :=
  let d1 := armGates b ((b.commands.filter (fun c => c.opcode / 256 != 4 && !isCupola c)).foldl applyPlain d)
  (d1.autoSwitch d).settleQuality

/-- The configuration as it will stand after a transaction: what a commit evaluates. -/
def configAfter (b : Batch) (d : Dev) : Dev :=
  let d1 := applyAtOnce b d
  let d2 := (b.commands.filter (fun c => isBanked c.opcode)).foldl (fun e c => applyBanked c e) d1
  let d3 := b.commands.foldl (fun e c => applyLauterState c e) d2
  if b.commands.any isCupola then { d3 with cupola := d3.cupola.after b } else d3

/-! ## Claims (R26 to R28) -/

/-- A claim a configuration needs, with the commands that make it. -/
abbrev Need := Claim × (Staged → Bool)

/-- An owner in DETAIL's format (R26). -/
def ownerWord (cls object : Nat) : Nat := cls * 2 ^ 24 + object % 2 ^ 20

/-- The claim of one unit of a resource. -/
def oneClaim (type index owner : Nat) : Claim := { type := type, index := index, amount := 1, owner := owner }

/-- TIME_IO pins: of the time unit's modes, then of trip outputs, those still driven active included (R223). -/
def pinNeeds (d : Dev) : List Need :=
  d.time.pins.map (fun x => (oneClaim 1 x.1 (ownerWord 9 x.1), fun c => c.opcode == 0x0905 && byteAt c.data 0 == x.1)) ++
  (d.cupola.trips.filter (fun t => bit (byteAt t.2 2) 0 && byteAt t.2 3 != 0xFF)).map (fun t =>
    (oneClaim 1 (byteAt t.2 3) (ownerWord 7 t.1), fun c => c.opcode == 0x0703 && le c.data 0 2 == t.1)) ++
  (d.cupola.pins.filter (fun x => !(tabFind d.cupola.trips x.1).any (fun t => bit (byteAt t 2) 0 && byteAt t 3 == x.2.pin))).map
    (fun x => (oneClaim 1 x.2.pin (ownerWord 7 x.1), fun c => (c.opcode == 0x0703 || c.opcode == 0x0701) && le c.data 0 2 == x.1))

/-- WAKE pins: of enabled wake inputs, owned by their target. -/
def wakeNeeds (d : Dev) : List Need :=
  (d.lantern.wake.filter (fun w => w.2.enable && decide (0x100 ≤ w.1))).map (fun w =>
    (oneClaim 2 (w.1 - 0x100) (ownerWord 0x0C w.2.target), fun c => c.opcode == 0x0C02 && le c.data 0 2 == w.1))

/-- Event timer units and CAN_STB pins of sleep domains. -/
def domainNeeds (d : Dev) : List Need :=
  d.lantern.domains.flatMap (fun m =>
    (oneClaim 3 m.2.timer (ownerWord 0x0C m.1), setsDomain m.1) ::
    ((List.range 8).filter (fun i => bit m.2.stbMask i)).map (fun i => (oneClaim 4 i (ownerWord 0x0C m.1), setsDomain m.1)))

/-- Hopper reservations, owned by their requester. -/
def hopperNeeds (d : Dev) : List Need :=
  [1, 2, 3, 4, 5].flatMap (fun p => (d.pool p).reserve.map (fun r =>
    ({ type := 5, index := p, amount := r.2, owner := ownerWord 3 r.1 },
      fun (c : Staged) => c.opcode == 0x0307 && byteAt c.data 0 == r.1 && byteAt c.data 1 == p)))

/-- The capture ring, owned by requester 14, which writes it. -/
def captureNeeds (d : Dev) : List Need :=
  if d.fabric.capture.enable then [(oneClaim 6 0 (ownerWord 3 14), fun c => c.opcode == 0x0303)] else []

/-- Every claim a configuration needs. -/
def needs (d : Dev) : List Need := pinNeeds d ++ wakeNeeds d ++ domainNeeds d ++ hopperNeeds d ++ captureNeeds d

/-- Two claims name the same resource; TIME_IO and WAKE share pins 8 to 15. Reservations share their pool. -/
def sameResource (a b : Claim) : Bool :=
  a.index == b.index && a.type != 5 && b.type != 5 && (a.type == b.type || (sharedPin a.type a.index && sharedPin b.type b.index))

/-- The claim stands in a list: the same resource and owner, with no smaller amount. -/
def claimHeld (l : List Claim) (c : Claim) : Bool :=
  l.any (fun x => x.type == c.type && x.index == c.index && x.owner == c.owner && decide (c.amount ≤ x.amount))

/-- The largest reservation of a pool in a list of claims. -/
def largestIn (l : List Claim) (pool : Nat) : Option Claim :=
  l.foldl (fun acc x =>
    if x.type == 5 && x.index == pool then
      (match acc with
       | none => some x
       | some y => if y.amount < x.amount then some x else acc)
    else acc) none

/-- What stands in the way of a new claim: the owner of its resource, or of the largest reservation of a pool it would overfill
(R26, R27). A FAB_HOPPER_CFG that changes an owner's reservation replaces it: the old one is taken as released first (R28), and
counts neither in the sum nor as the largest (DESIGN CHOICE, log 81). -/
def claimBlocked (owned : List Claim) (c : Claim) : Option Claim :=
  if c.type == 5 then
    let others := owned.filter (fun x => x.type == 5 && x.index == c.index && x.owner != c.owner)
    if poolCount c.index < (others.map (fun x => x.amount)).sum + c.amount then (largestIn others c.index).or (some c) else none
  else owned.find? (fun x => sameResource x c && x.owner != c.owner)

/-- The claims of a transaction in staging order, each against those owned before it; the first that is blocked. -/
def takeClaims : List (Nat × Claim) → List Claim → Option Refused
  | [], _ => none
  | (i, c) :: t, owned =>
    match claimBlocked owned c with
    | some x => some { status := stConflict, detail := x.owner, index := some i }
    | none => takeClaims t (owned ++ [c])

/-- Insert by staging index, after those of the same index. -/
def putByIndex (x : Nat × Claim) : List (Nat × Claim) → List (Nat × Claim)
  | [] => [x]
  | y :: t => if x.1 < y.1 then x :: y :: t else y :: putByIndex x t

/-- Step 1 of R55: the releases first, then the claims (R28). -/
def commitClaims (d d' : Dev) (b : Batch) : Option Refused :=
  let ns := needs d'
  let old := (ns.filter (fun n => claimHeld d.claims n.1)).map (fun n => n.1)
  let new := (ns.filter (fun n => !claimHeld d.claims n.1)).map (fun n => ((b.last n.2).getD 0, n.1))
  takeClaims (new.foldl (fun l x => putByIndex x l) []) old

/-! ## Conditions a commit is refused under (step 2 of R55) -/

/-- A failing index. -/
def refuseIx (status : Nat) (i : Nat) : Refused := { status := status, detail := 0, index := some i }

/-- Ports (03): P9 in twin mode, stepping without a managed PHY, R90. -/
def commitPorts (d d' : Dev) (b : Batch) : Option Refused :=
  let cfg := b.filter (fun x => x.2.opcode == 0x0201)
  (((cfg.find? (fun x => d.twin.enable && d'.twin.enable && byteAt x.2.data 0 == 9)).bind (fun x => twinConflict (some x.1))).or
  ((cfg.find? (fun x =>
    let p := byteAt x.2.data 0
    decide (p < 34) && ((byteAt x.2.data 9 != 0 && !hasPhy p (d'.port p)) || decide (byteAt x.2.data 0x0B ≤ byteAt x.2.data 0x0A)))).map
      (fun x => refuseIx stNoResource x.1)))

/-- A command that turns twin mode on. -/
def enablesTwin (c : Staged) : Bool := c.opcode == 0x0D06 && byteAt c.data 0 == 1

/-- R93: the guaranteed shares and, in twin mode, Twin Link's reserve exceed the cells. -/
def commitBuffers (d' : Dev) (b : Batch) : Option Refused :=
  if 49152 < d'.fabric.share.sum + d'.reserve then
    refuseAt stNoResource ((b.last (fun c => c.opcode == 0x0301)).or (b.last enablesTwin))
  else none

/-- P9 as a mirror's destination or source, or as a LAG member, in twin mode (R10). -/
def commitFabricP9 (d' : Dev) (b : Batch) : Option Refused :=
  if !d'.twin.enable then none
  else
    let on := fun (op i : Nat) => (b.last (fun c => c.opcode == op && byteAt c.data 0 == i)).or (b.last enablesTwin)
    ((d'.fabric.mirrors.find? (fun m => m.2.enable && (m.2.dest == 9 || bit m.2.srcMask 9))).bind (fun m => twinConflict (on 0x0302 m.1))).or
    ((d'.fabric.lags.find? (fun g => g.2.members.any (fun m => m.2 == 9))).bind (fun g => twinConflict (on 0x0305 g.1)))

/-- A second LAG membership of a port (R112): the other group owns it. -/
def commitLags (d' : Dev) (b : Batch) : Option Refused :=
  let setsLag := fun (g : Nat) (c : Staged) => c.opcode == 0x0305 && byteAt c.data 0 == g
  let all := d'.fabric.lags.flatMap (fun g => g.2.members.map (fun m => (g.1, m.2)))
  (all.zipIdx.findSome? (fun x => (all.take x.2).find? (fun y => y.2 == x.1.2) |>.map (fun y => (y.1, x.1.1)))).bind (fun z =>
    let a := b.last (setsLag z.1)
    let c := b.last (setsLag z.2)
    match a, c with
    | some i, some j => if i ≤ j then conflict 3 z.1 (some j) else conflict 3 z.2 (some i)
    | some i, none => conflict 3 z.2 (some i)
    | none, j => conflict 3 z.1 j)

/-- P9 named by Lauter in twin mode (R10). -/
def commitLauterP9 (d' : Dev) (b : Batch) : Option Refused :=
  if !d'.twin.enable then none
  else match lauterNamesP9 d' with
    | some f => twinConflict ((b.last f).or (b.last enablesTwin))
    | none => none

/-- Time (10): two enabled slots with one DOMAIN, the slot staged first owning it; P9 in a PORT_MASK in twin mode. -/
def commitTime (d' : Dev) (b : Batch) : Option Refused :=
  let sets := fun (i : Nat) (c : Staged) => c.opcode == 0x0902 && byteAt c.data 0 == i
  let s0 := d'.slot 0
  let s1 := d'.slot 1
  let twice :=
    if s0.enable && s1.enable && s0.domain == s1.domain then
      (match b.last (sets 0), b.last (sets 1) with
       | some i, some j => if i ≤ j then conflict 9 0 (some j) else conflict 9 1 (some i)
       | some i, none => conflict 9 1 (some i)
       | none, j => conflict 9 0 j)
    else none
  let p9 := [0, 1].find? (fun i => d'.twin.enable && bit (d'.slot i).portMask 9)
  twice.or (p9.bind (fun i => twinConflict ((b.last (sets i)).or (b.last enablesTwin))))

/-- Twin mode needs P9 to carry its frames and a reserve for them (14, SAFE_TWIN_CFG). -/
def commitTwin (d' : Dev) (b : Batch) : Option Refused :=
  (b.last enablesTwin).bind (fun i =>
    if d'.twin.enable && (decide ((d'.port 9).maxFrame < 1522) || d'.fabric.twinReserve == 0) then refuseAt stNoResource (some i) else none)

/-- A deleted group bound to a session that is not IDLE (R292). -/
def commitSessions (d d' : Dev) (b : Batch) : Option Refused :=
  (d.cask.sessions.find? (fun x => decide (x.2.state ≠ .idle) && tabHas d.cupola.groups x.2.group && !tabHas d'.cupola.groups x.2.group)).bind
    (fun x => conflict 0x0A x.1 (b.last (fun c => c.opcode == 0x0701 && le c.data 0 2 == x.2.group)))

/-- A channel's key slot needs an AES type with usage CMAC, whatever its binding (R60). The staging index is the payload, which the
spec states for CONFLICT and NO_RESOURCE alone (DESIGN CHOICE, log 83). -/
def commitChannels (d : Dev) (b : Batch) : Option Refused :=
  (b.find? (fun x => x.2.opcode == 0x0108 &&
    !(isAes (d.keySlot (byteAt x.2.data 2)).type && bit (d.keySlot (byteAt x.2.data 2)).usage 2))).map (fun x => refuseIx stNotPermitted x.1)

/-- The gate lists and shapers of every port. -/
def commitPortLists (d' : Dev) (b : Batch) : Option Refused :=
  let shaped := b.commands.any (fun c => c.opcode == 0x0505 || c.opcode == 0x0201)
  ((List.range 50).findSome? (commitGates b)).or (if shaped then (List.range 50).findSome? (commitCbs d' b) else none)

/-- Capacities: the conditions of the chapters' commit-time tables, chapter by chapter. -/
def commitCapacities (d d' : Dev) (b : Batch) : Option Refused :=
  let checks : List (Option Refused) :=
    [commitChannels d b, commitPorts d d' b, commitBuffers d' b, commitFabricP9 d' b, commitLags d' b, commitLauterP9 d' b,
      commitStatics b d.lauter.fdb, commitLagZones d' b, commitProfiles d' b, commitStreams d' b, commitPortLists d' b,
      commitAdmission d' b, commitCupola d.cupola b, commitGateway d' b, commitTime d' b, commitSessions d d' b, commitPower d' b,
      commitTwin d' b]
  checks.findSome? (fun c => c)

/-! ## Evaluation (R55) -/

/-- What an evaluation comes to: the refusal with its payload, or none; and the state, in which the admission report is stored. -/
structure Verdict55 where
  refused : Option (Nat × Nat × Bytes)
  dev : Dev

/-- The payload of a refusal: the failing staging index, where its status carries one. -/
def Refused.payload (r : Refused) : Bytes := match r.index with
  | some i => leb 4 i
  | none => []

/-- Steps 1 to 3 of R55 on a transaction. -/
def Dev.evaluateTxn (d : Dev) (b : Batch) : Verdict55 :=
  let d' := configAfter b d
  match (commitClaims d d' b).or (commitCapacities d d' b) with
  | some r => { refused := some (r.status, r.detail, r.payload), dev := d }
  | none =>
    let a := d.judgeAdmission d'
    if a.1.refused then
      { refused := some (stRefusedDeadline, min 127 (a.1.scope 0).length, a.1.payload 0 0 127), dev := a.2 }
    else { refused := none, dev := a.2 }

/-- Commands with their staging indices. -/
def batchOf (l : List Staged) : Batch := l.zipIdx.map (fun x => (x.2, x.1))

/-! ## Application -/

/-- Stage RUN is reached (16, step 10): SAFE_N rises, SYS_READY is posted, twin mode begins to pair, and the trial of a RESET
activation starts its timer (R366, R374, R393). -/
def Dev.enterRun (d : Dev) : Dev :=
  let start := fun (t : Trial) => if t.deadline.isNone && !t.hot && t.failed.isNone then { t with deadline := some (d.uptime + sec t.confirmS) } else t
  let d1 := { d.setStage .run with
    safety := { d.safety with safe := false }
    boot := { d.boot with admittingAt := none, cfgRefused := false }
    update := { d.update with trial := d.update.trial.map start, trialReset := none } }
  let d2 := d1.post 0x0101 6 0
  if d2.twin.enable then d2.startPairing else d2

/-- The CONFIG record's chunks: generation, part, parts, up to 1,400 bytes of the staged requests (log 40). -/
def configRecords (gen : Nat) (l : List Staged) : List (Nat × Bytes) :=
  let body := l.flatMap (fun c => leb 2 c.opcode ++ zeros 2 ++ leb 4 c.data.length ++ pad4 c.data)
  let n := max 1 (ceilDiv body.length 1400)
  (List.range n).map (fun i => (2, leb 4 gen ++ leb 2 i ++ leb 2 n ++ (body.drop (1400 * i)).take 1400))

/-- The device is in ADMITTING. -/
def Dev.admits (d : Dev) : Bool := match d.host.stage with
  | .admitting => true
  | _ => false

/-- A generation is kept for a later resynchronisation, and journalled (R375). -/
def Dev.journalCommit (d : Dev) (gen : Nat) (l : List Staged) : Dev :=
  let d1 := d.modTwin (fun t => { t with commits := t.commits ++ [(gen, l)] })
  if d1.journals then d1.journalSync 2 (configRecords gen l) else d1

/-- A LEG image has been put in force by a HOT switch: LEG's first start logs it (R392). -/
def Dev.legStarts (d : Dev) : Dev :=
  ({ d with
    cask := { d.cask with legNew := some (d.inForce 2).version }
    boot := { d.boot with legRuns := true } }).startLogs

/-- A fallback carried out as a HOT activation ends, with LEG where the mask names it: counted and posted (R395). -/
def Dev.fallbackEnds (d : Dev) (mask manifestId cause : Nat) : Dev :=
  let d1 := if bit mask 1 && (d.bankInForce 2).isSome then d.legStarts else d
  (d1.count 14 2).post 0x0E04 manifestId cause

/-- The trial timer starts when a HOT activation posts its response (R393). -/
def Dev.startTrial (d : Dev) : Dev :=
  let start := fun (t : Trial) => if t.hot && t.failed.isNone then { t with deadline := some (d.uptime + sec t.confirmS) } else t
  { d with update := { d.update with trial := d.update.trial.map start } }

/-- What follows the flip of a commit. -/
def Dev.commitDone (d : Dev) (c : Commit) : Dev :=
  match c.kind with
  | .txn => d.complete c.owner stOk 0 (leb 4 d.txn.generation ++ leb 4 c.staged.length ++ leb 4 c.pause ++ zeros 4)
  | .boot => d
  | .hot us => d.startTrial.complete c.owner stOk 0 (leb 4 us ++ zeros 4)
  | .back mask id cause => d.fallbackEnds mask id cause

/-- A COMMIT has applied everything: the transaction ends, its generation is journalled, what it belongs to goes on, and in ADMITTING
the device reaches RUN (R55, R414, R375). -/
def Dev.finishCommit (d : Dev) : Dev :=
  match d.txn.committing with
  | none => d
  | some c =>
    if c.rules.isSome || c.cupola then d
    else
      let d1 := startSrcTimers c.staged { d with txn := { d.txn with committing := none } }
      let d2 := d1.post 0x0601 c.id (1 + d1.txn.generation % 2 ^ 32 * 2 ^ 32)
      let d4 := d2.journalCommit d2.txn.generation c.staged
      let d5 := d4.commitDone c
      if d5.admits then d5.enterRun else d5

/-- The pause of a bank switch: the spec bounds it by 2 us and gives no value (R151), so it is free up to its bound. -/
def Dev.switchPause (d : Dev) : Nat := Config.freePause d.freeIx % 2001

/-- Everything of a passed transaction is applied as one generation; a bank switch of Lauter or of the Cupola that it needs is
begun, the others' changes being in force at once (R55, R150, R227). -/
def Dev.applyTxn (d : Dev) (id owner : Nat) (kind : CommitKind) (l : List Staged) : Dev :=
  let b := batchOf l
  let d' := configAfter b d
  let banked := l.any (fun c => isBanked c.opcode)
  let groups := changesGroups b
  let d1 := applyAtOnce b d
  let d2 := if banked then { d1 with lauter := { d1.lauter with other := d'.lauter.bank } } else l.foldl (fun e c => applyLauterState c e) d1
  let d3 := if !groups && l.any isCupola then { d2 with cupola := d2.cupola.after b } else d2
  let c : Commit :=
    { id := id, owner := owner, kind := kind, staged := l, rules := if banked then some d.uptime else none, cupola := groups, since := d.uptime
      pause := if banked then d.switchPause else 0 }
  { d3 with
    claims := (needs d').map (fun n => n.1)
    txn := { d3.txn with generation := (d3.txn.generation + 1) % 2 ^ 32, committing := some c }
    freeIx := d3.freeIx + 1 }

/-! ### The bank switches -/

/-- A frame of the old generation remains (R150 step 3): queued to P92, before its second pass, or short of the L5 exit because its verdict
waits for its end. -/
def Dev.oldGenLeft (d : Dev) : Bool :=
  d.fabric.frames.any (fun f => f.copies.any (fun k => k.port == 92)) ||
  (tabGet [] d.fabric.fifos 8).any (fun a => a.second.isSome) || d.lauter.ends.any (fun p => p.verdict.isSome)

/-- GEN_FLIP (R150, R151): once nothing of the old generation remains, or 2 us after L0 was closed. -/
def genFlip (d : Dev) : Dev :=
  match d.txn.committing with
  | none => d
  | some c =>
    match c.rules with
    | none => d
    | some t =>
      if d.oldGenLeft && decide (d.uptime < t + 2000) then d
      else
        let d1 := d.flipBanks c.staged d.txn.generation c.pause
        Dev.finishCommit { d1 with txn := { d1.txn with committing := some { c with rules := none } } }

/-- GEN_FLIP. -/
def execGenFlip (s : State) : Out := onDev genFlip s

/-- CUPOLA_BANK_FLIP (R227): once no window is open under the bank to be written. -/
def cupolaFlip (d : Dev) : Dev :=
  match d.txn.committing with
  | none => d
  | some c =>
    if !c.cupola || !d.cupola.mayFlip then d
    else
      let k := d.cupola.after (batchOf c.staged)
      let bank := 1 - d.cupola.bank
      let d1 := (d.putCupola { k with bank := bank }).post 0x0704 bank ((d.uptime - c.since) % 2 ^ 32)
      Dev.finishCommit { d1 with txn := { d1.txn with committing := some { c with cupola := false } } }

/-- CUPOLA_BANK_FLIP. -/
def execCupolaBankFlip (s : State) : Out := onDev cupolaFlip s

/-- Both switches at once: how a transaction is applied before anything is forwarded (boot), or on a standby, where no window is open and
CUP_FLIP's wait is 0. -/
def Dev.flipNow (d : Dev) : Dev :=
  match d.txn.committing with
  | none => d
  | some c =>
    let d1 := if c.rules.isSome then d.flipBanks c.staged d.txn.generation c.pause else d
    let bank := 1 - d1.cupola.bank
    let d2 := if c.cupola then (d1.putCupola { d1.cupola.after (batchOf c.staged) with bank := bank }).post 0x0704 bank 0 else d1
    { d2 with txn := { d2.txn with committing := some { c with rules := none, cupola := false } } }

/-! ## The transaction commands -/

/-- The next transaction ID: never 0 (R53). -/
def nextTxnId (id : Nat) : Nat := if 2 ^ 32 - 1 ≤ id then 1 else id + 1

/-- What keeps TXN_BEGIN BUSY: the owner of the open or committing transaction, or of an unposted COMMIT response. -/
def Dev.txnHeldBy (d : Dev) : Option Nat :=
  match d.txn.txn with
  | some t => some t.owner
  | none =>
    match d.txn.committing with
    | some c => some c.owner
    | none => d.unpostedCommit

/-- TXN_BEGIN. -/
def txnBegin (rq : Req) (d : Dev) : Dev :=
  d.serve 0x0601 rq (rspMax 4) (fun d ch bs => withLayout d 4 [fr 0 2 0 3600] bs
    (match d.txnHeldBy with
     | some o => ansErrD d stBusy (o % 16)
     | none =>
       let id := nextTxnId d.txn.lastId
       let idle := (if le bs 0 2 == 0 then 60 else le bs 0 2) * 1000
       let t : OpenTxn := { id := id, owner := ch, idleMs := idle, deadline := d.uptime + ms idle, staged := [] }
       ansOk { d with txn := { d.txn with lastId := id, txn := some t } } (leb 4 id)))

/-- TXN_BEGIN. -/
def execTxnBegin (rq : Req) (s : State) : Out := onDev (txnBegin rq) s

/-- R443: the open transaction that a TXN_COMMIT or TXN_ABORT names from its owner, or the first failure. -/
def Dev.namedTxn (d : Dev) (ch id : Nat) (commit : Bool) : Nat ⊕ OpenTxn :=
  match d.txn.txn with
  | some t =>
    if t.id == id then (if t.owner == ch then .inr t else .inl stNotPermitted)
    else if commit && d.txn.aborted.contains id then .inl stTxnAborted
    else .inl stNotFound
  | none => if commit && d.txn.aborted.contains id then .inl stTxnAborted else .inl stNotFound

/-- TXN_COMMIT's evaluation and effect (R55). -/
def commitBody (d : Dev) (ch : Nat) (dry : Bool) (t : OpenTxn) : Ans :=
  let v := d.evaluateTxn (batchOf t.staged)
  match v.refused with
  | some r => .done r.1 r.2.1 r.2.2 (if dry then v.dev else v.dev.endTxn 4)
  | none =>
    if dry then ansOk v.dev (leb 4 d.txn.generation ++ leb 4 t.staged.length ++ zeros 8)
    else .wait (Dev.applyTxn { v.dev with txn := { v.dev.txn with txn := none } } t.id ch .txn t.staged)

/-- TXN_COMMIT: the TXN field (R443), then the required LENGTH and MODE (R39 steps 5 and 6; bytes a short request lacks read as zero). One
that needs no bank switch is answered at once. -/
def txnCommit (rq : Req) (d : Dev) : Dev :=
  (d.serve 0x0602 rq (rspMax 4080) (fun d ch bs =>
    match d.namedTxn ch (le bs 0 4) true with
    | .inl st => ansErr d st
    | .inr t =>
      if bs.length ≠ 8 then ansErr d stBadLength
      else if 2 ≤ le bs 4 4 then ansErr d stBadParam
      else commitBody d ch (le bs 4 4 == 1) t)).finishCommit

/-- TXN_COMMIT. -/
def execTxnCommit (rq : Req) (s : State) : Out := onDev (txnCommit rq) s

/-- TXN_ABORT: the TXN field (R443), then the required LENGTH. -/
def txnAbort (rq : Req) (d : Dev) : Dev :=
  d.serve 0x0603 rq (rspMax 0) (fun d ch bs =>
    match d.namedTxn ch (le bs 0 4) false with
    | .inl st => ansErr d st
    | .inr _ => if bs.length ≠ 4 then ansErr d stBadLength else ansOk (d.endTxn 2) [])

/-- TXN_ABORT. -/
def execTxnAbort (rq : Req) (s : State) : Out := onDev (txnAbort rq) s

/-- TXN_STATUS's 16 bytes. -/
def Dev.txnStatusBytes (d : Dev) : Bytes :=
  match d.txn.txn, d.txn.committing with
  | some t, _ =>
    leb 4 t.id ++ leb 1 t.owner ++ leb 1 1 ++ zeros 2 ++ leb 4 t.staged.length ++ leb 4 ((t.deadline - d.uptime) / 1000000)
  | none, some c => leb 4 c.id ++ leb 1 c.owner ++ leb 1 2 ++ zeros 2 ++ leb 4 c.staged.length ++ zeros 4
  | none, none => zeros 16

/-- TXN_STATUS. -/
def txnStatus (rq : Req) (d : Dev) : Dev :=
  d.serve 0x0604 rq (rspMax 16) (fun d _ bs => withLayout d 0 [] bs (ansOk d d.txnStatusBytes))

/-- TXN_STATUS. -/
def execTxnStatus (rq : Req) (s : State) : Out := onDev (txnStatus rq) s

/-- The owning channel has a command of the transaction in flight: it was taken before the timeout (R56). -/
def Dev.txnRequestTaken (d : Dev) (ch : Nat) : Bool :=
  ((d.chan ch).taken ++ (d.chan ch).running.toList).any (fun t => isTransactional t.opcode || t.opcode == 0x0602 || t.opcode == 0x0603)

/-- TXN_IDLE_TIMEOUT (R56). -/
def txnIdle (d : Dev) : Dev :=
  match d.txn.txn with
  | none => d
  | some t => if d.over t.deadline && !d.txnRequestTaken t.owner then d.endTxn 3 else d

/-- TXN_IDLE_TIMEOUT. -/
def execTxnIdleTimeout (s : State) : Out := onDev txnIdle s

end Sys2Proof.Machine
end

