-- ==== Sys2Proof/Machine/Posting.lean ====
section
/-! DEFINITION. The posting of mailbox responses (R40, R41, R48, R49), and the update of the legal parameters, which goes through
the transaction rules (R308). -/

namespace Sys2Proof.Machine

open Sys2Proof

/-! ## Posting -/

/-- The response waits for the acknowledgement of its journal records (R377). -/
def Dev.held (d : Dev) (r : Rsp) : Bool := match r.hold with
  | none => false
  | some q => d.twin.waits.any (fun w => seqLe w.seq q)

/-- The response belongs to the open transaction, its idle timeout beginning again (R56): that of the TXN_BEGIN which opened it, and
those of staged commands, COMMIT and ABORT that named it. -/
def Dev.txnAnswered (d : Dev) (ch : Nat) (r : Rsp) : Dev :=
  let named := (r.opcode == 0x0601 && r.status == stOk) ||
    ((isTransactional r.opcode || [0x0602, 0x0603].contains r.opcode) &&
      !(List.contains [stNotInTxn, stTxnAborted, stNotPermitted, stNotFound, stWrongMode, stBadOpcode] r.status))
  match d.txn.txn with
  | none => d
  | some t => if t.owner == ch && named then { d with txn := { d.txn with txn := some { t with deadline := d.uptime + ms t.idleMs } } } else d

/-- A response without its payload, as it goes out where it does not fit (R49). -/
def Rsp.tooLong (r : Rsp) : Rsp := { r with status := stNoResource, detail := r.payload.length, payload := [] }

/-- The encapsulation before SUBTYPE of a frame the device answers with: DA, SA, the tag of a VLAN, EtherType. The tag's priority is
free. -/
def Dev.encapsulation (d : Dev) (o : Origin) : Bytes :=
  let tag := if o.vlan == 0 then [] else beb 2 0x8100 ++ beb 2 (Config.freeNat d.freeIx % 16 * 4096 + o.vlan)
  beb 6 o.sa ++ beb 6 Config.baseMac ++ tag ++ beb 2 0x88B5

/-- An in-band response (R48): the next REPLAY of the channel, and the CMAC of its key. A key that Keep refuses gives no CMAC and
no frame. -/
def Dev.sendInBand (d : Dev) (ch : Nat) (o : Origin) (r : Rsp) : Dev :=
  let c := d.chan ch
  let fits := decide (62 + r.payload.length + (if o.vlan == 0 then 0 else 4) ≤ (d.port o.port).maxFrame)
  let msg := rspSlot (if fits then r else r.tooLong)
  let replay := (c.txReplay + 1) % 2 ^ 64
  let body := [1, 1, BitVec.ofNat 8 ch, 1] ++ beb 8 replay ++ msg
  let head := d.encapsulation o
  let d1 := { (d.modChan ch (fun c => { c with txReplay := replay })) with freeIx := d.freeIx + 1 }
  match d1.firmwareCmac c.keySlot body with
  | (some mac, d2) => d2.sendAt o.port c.tc (head ++ body ++ mac)
  | (none, d2) => d2

/-- A Kiln response (R400): one that exceeds the 1,522-byte limit goes without its payload. -/
def Dev.sendKiln (d : Dev) (o : Origin) (r : Rsp) : Dev :=
  let msg := rspSlot (if 38 + r.payload.length ≤ 1522 then r else r.tooLong)
  let d1 := { d with update := { d.update with kilnPeer := none } }
  let f := d.encapsulation o ++ [5, 1, 1, 0] ++ msg
  d1.emit (.frame 10 (f ++ zeros (60 - f.length)) false)

/-- A response on the host transport: its slot, MBX_RSP_PROD, its interrupt source (R41, R43). -/
def Dev.postHost (d : Dev) (ch : Nat) (r : Rsp) : Dev :=
  let c := d.chan ch
  let d1 := if d.host.spi then d else d.emit (.hostMem (c.rspBase + c.rspProd % 16 * 4352) (rspSlot r))
  (d1.modChan ch (fun c => { c with rspProd := (c.rspProd + 1) % 32, posted := c.posted ++ [r] })).raise (1 + ch)

/-- MAILBOX_RESPONSE_POSTED (R41): the oldest completed response of a channel. An in-band one is consumed as it is sent, so that
the channel's next request can be taken. -/
def responsePosted (ch : Nat) (d : Dev) : Dev :=
  match (d.chan ch).completed with
  | [] => d
  | r :: rest =>
    if d.held r then d
    else
      let d1 := (d.modChan ch (fun c => { c with completed := rest })).txnAnswered ch r
      match r.origin with
      | none => d1.postHost ch r
      | some o => (if ch == 0 then d1.sendKiln o r else d1.sendInBand ch o r).pullAll ch

/-- MAILBOX_RESPONSE_POSTED. -/
def execMailboxResponsePosted (ch : Nat) (s : State) : Out := onDev (responsePosted ch) s

/-! ## SES_LEGAL_PARAM_UPDATE (R308) -/

/-- An outlet entry's fields lie in their ranges and its reserved ones are zero (R2); of an outlet that is not defined only FLAGS and
the reserved fields bind (log 64). -/
def outletOk (e : Bytes) : Bool :=
  let pdu := fun (v : Nat) => decide (v ≤ 16383) || v == 0xFFFF
  let exp := signed 8 (byteAt e 3)
  decide (byteAt e 0 ≤ 1) && allZero (slice e 9 7) &&
  (byteAt e 0 == 0 ||
    ((byteAt e 1 == 4 || byteAt e 1 == 8) && decide (byteAt e 2 ≤ 252) && decide (-3 ≤ exp ∧ exp ≤ 3) && pdu (le e 4 2) && pdu (le e 6 2) &&
      decide (byteAt e 8 ≤ 1)))

/-- The legal parameter block's fields lie in their ranges, and its version exceeds the one in force. -/
def Dev.paramsOk (d : Dev) (p : Bytes) : Bool :=
  let exp := signed 8 (byteAt p 6)
  decide (le d.cask.params 0 4 < le p 0 4) && decide (byteAt p 5 ≤ 5) && decide (-3 ≤ exp ∧ exp ≤ 3) && byteAt p 7 == 0 &&
  decide (100 ≤ le p 8 2 ∧ le p 8 2 ≤ 10000) && decide (le p 0x0A 2 ≤ 500) && (List.range 64).all (fun o => outletOk (outletEntry p o))

/-- The SGE commands of a legal update, `n` of them: none where the list breaks its layout. -/
def sgeCommands : Nat → Bytes → Option (List Staged)
  | 0, bs => if bs.isEmpty then some [] else none
  | n + 1, bs =>
    let len := le bs 2 2
    let size := 16 + (len + 3) / 4 * 4
    if bs.length < size ∨ 4096 < len ∨ byteAt bs 1 ≠ 8 ∨ isTransactional (le bs 0 2) = false ∨ le bs 6 2 ≠ 0 ∨ le bs 8 8 ≠ 0 ∨
        allZero (slice bs (16 + len) (size - 16 - len)) = false then none
    else (sgeCommands n (bs.drop size)).map (fun t => { opcode := le bs 0 2, data := slice bs 16 len } :: t)

/-- The commands a message of TYPE LEGAL_PARAMS carries after its block. -/
def legalCommands (m : Bytes) : Option (List Staged) :=
  let b := msgBody m
  if le b 1042 2 ≠ 0 then none else sgeCommands (le b 1040 2) (b.drop 1044)

/-- The device as the staging checks of a legal update see it: what R259 reserves in SEALED is open to it. -/
def Dev.legalView (d : Dev) : Dev := { d with keep := { d.keep with lifecycle := 2 } }

/-- The first staging failure of a list of commands. -/
def Dev.stagingError (d : Dev) (l : List Staged) : Nat :=
  (l.findSome? (fun c => match stagingCheck c.opcode with
    | some f => if f d c.data == stOk then none else some (f d c.data)
    | none => some stBadParam)).getD stOk

/-- Checks 3 to 5 of R308, after those of the message. A session that holds a reading or a record counts by its state. -/
def legalStatus (d : Dev) (m : Bytes) : Nat :=
  if !d.paramsOk (slice (msgBody m) 0 1040) then stBadParam
  else match legalCommands m with
    | none => stBadParam
    | some l =>
      if d.legalView.stagingError l ≠ stOk then d.legalView.stagingError l
      else if d.cask.sessions.any (fun x => decide (x.2.state = .active ∨ x.2.state = .suspended ∨ x.2.state = .closing)) then stBusy
      else if d.ringFull || d.logFull then stNoResource
      else stOk

/-- A refused update is logged and changes nothing. -/
def refuseLegal (d : Dev) (st detail : Nat) (payload : Bytes) : Ans :=
  .done st detail payload ((d.msgRefused.count 10 10).legalLog 2 0 st)

/-- A generation of staged commands that need no bank switch, applied at once and journalled. -/
def Dev.applyGeneration (d : Dev) (l : List Staged) : Dev :=
  let b := batchOf l
  let d1 := { startSrcTimers b.commands (applyAtOnce b d) with claims := (needs (configAfter b d)).map (fun (n : Need) => n.1) }
  let g := (d.txn.generation + 1) % 2 ^ 32
  let d2 := { d1 with txn := { d1.txn with generation := g } }
  d2.journalCommit g l

/-- BOUND sessions whose outlet's entry has changed return to IDLE. -/
def Dev.dropChanged (d : Dev) (old : Bytes) : Dev :=
  let hit := d.cask.sessions.filter (fun x =>
    decide (x.2.state = .bound) && decide (outletEntry old x.2.outlet ≠ outletEntry d.cask.params x.2.outlet))
  hit.foldl (fun e x => e.sesFree x.1) d

/-- A legal parameter update that passed every check: the block and the commands as one generation, the log entry, the marker,
whose seal ends the command. -/
def applyLegal (d : Dev) (ch : Nat) (m : Bytes) (l : List Staged) : Ans :=
  let old := d.cask.params
  let new := slice (msgBody m) 0 1040
  let d1 := if l.isEmpty then d else d.applyGeneration l
  let d2 := { d1 with cask := { d1.cask with
    params := new, chainBroken := false, paramCh := some ch, sge := d1.cask.sge ++ l.map (fun (c : Staged) => (c.opcode, c.data)) } }
  let d3 := ((d2.msgApplied m 0xFF).count 10 9).legalLog 1 0 (le old 0 4 + le new 0 4 * 2 ^ 32)
  .wait ((d3.retrySeals.dropChanged old).queueSeal 0 17)

/-- SES_LEGAL_PARAM_UPDATE's checks and effect. -/
def legalBody (d : Dev) (ch : Nat) (m : Bytes) : Ans :=
  if d.keep.locked then refuseLegal (d.count 11 7) stTampered 0 []
  else
    let st := d.msgStatus [6] m
    let d1 := if st == stBadLength then d else d.msgWork m
    if st ≠ stOk then refuseLegal d1 st 0 []
    else if legalStatus d1 m ≠ stOk then refuseLegal d1 (legalStatus d1 m) 0 []
    else if d1.cask.paramCh.isSome || d1.txn.committing.isSome then
      refuseLegal d1 stBusy ((d1.txn.committing.map (fun (c : Commit) => c.id)).getD 0) []
    else
      let l := (legalCommands m).getD []
      let v := d1.evaluateTxn (batchOf l)
      match v.refused with
      | some r => refuseLegal v.dev r.1 r.2.1 r.2.2
      | none => applyLegal v.dev ch m l

/-- SES_LEGAL_PARAM_UPDATE. -/
def sesLegalParamUpdate (rq : Req) (d : Dev) : Dev := d.serve 0x0A0E rq (rspMax 8) (fun d ch bs => legalBody d ch bs)

/-- SES_LEGAL_PARAM_UPDATE. -/
def execSesLegalParamUpdate (rq : Req) (s : State) : Out := onDev (sesLegalParamUpdate rq) s

end Sys2Proof.Machine
end

