-- ==== Sys2Proof/Machine/Twin.lean ====
section
/-! DEFINITION. The twin pair (chapter 14): pairing and the interlock, the Twin Link journal on both sides, the switch-over and the
planned handover. The layouts of the records' bodies are the model's (log 40). -/

namespace Sys2Proof.Machine

open Sys2Proof

/-! ## Record bodies -/

/-- A version in force. -/
def Dev.versionOf (d : Dev) (comp : Nat) : Nat := (d.inForce comp).version

/-- HELLO: UID, TWIN_ROLE strap, power state, the SVC, LEG and CFG versions, the configuration generation. -/
def Dev.helloBody (d : Dev) : Bytes :=
  slice Config.uid 0 16 ++ leb 1 (b2n d.twin.strap) ++ leb 1 (powerCode d.lantern.power) ++ zeros 2 ++ leb 4 (d.versionOf 1) ++
    leb 4 (d.versionOf 2) ++ leb 4 (d.versionOf 5) ++ leb 4 d.txn.generation

/-- TIME_ALIGN: local time, set again at the frame's egress (stampAlign), INCREMENT, QUALITY, the working slot. -/
def Dev.alignBody (d : Dev) : Bytes :=
  t80le d.now ++ zeros 2 ++ leb 8 d.time.clock.increment ++ leb 1 d.qualityNow ++ leb 1 d.time.workSlot ++ zeros 2

/-- PDU_CONTENT: index, length, content. -/
def pduBody (i : Nat) (content : Bytes) : Bytes := leb 2 i ++ leb 2 content.length ++ pad4 content

/-- CUPOLA: group, tripped flag, sequence number. -/
def groupBody (g : Nat) (x : Group) : Bytes := leb 2 g ++ leb 1 (b2n x.tripped) ++ zeros 1 ++ leb 4 x.seq

/-- What a hold has left in ms; 0 where there is none, all ones where it has no end. -/
def Dev.holdLeft (d : Dev) (scope : Nat) : Nat :=
  match tabFind d.lantern.holds scope with
  | none => 0
  | some h => match h.deadline with
    | none => 0xFFFFFFFF
    | some t => (t - d.uptime) / 1000000 + 1

/-- SLEEP: target, power state, the 32 domains' states, the 33 holds. -/
def Dev.sleepBody (d : Dev) : Bytes :=
  let domain := fun (n : Nat) => match tabFind d.lantern.domains n with
    | some m => leb 1 (domainCode m.state)
    | none => leb 1 0
  leb 1 d.lantern.target ++ leb 1 (powerCode d.lantern.power) ++ zeros 2 ++ (List.range 32).flatMap domain ++
    (List.range 33).flatMap (fun n => leb 4 (d.holdLeft n))

/-- The record of a TYPE with nothing in it: the end of that TYPE's full state in a resynchronisation (log 40). -/
def endMark (type : Nat) : Nat × Bytes := (type, [])

/-- The full state of a TYPE. -/
def Dev.fullState (d : Dev) (type : Nat) : List (Nat × Bytes) :=
  match type with
  | 2 => d.twin.commits.flatMap (fun c => configRecords c.1 c.2)
  | 3 => (List.range 63).map (fun i => (3, sessionBody (i + 1) (d.ses (i + 1))))
  | 4 => [(4, d.alignBody)]
  | 5 => d.gateway.dsts.map (fun q => (5, pduBody q.1 q.2.content))
  | 6 => d.cupola.groups.map (fun g => (6, groupBody g.1 g.2))
  | 7 => [(7, d.sleepBody)]
  | _ => []

/-- All TYPEs a resynchronisation covers, a bit each. -/
def allTypes : Nat := 0xFC

/-- The length of a body is right for its TYPE; the TYPE is known. -/
def bodyLenFits (type : Nat) (b : Bytes) : Bool :=
  let n := b.length
  match type with
  | 1 => n == 36
  | 2 => n == 0 || decide (8 ≤ n)
  | 3 => n == 0 || n == 140
  | 4 => n == 0 || n == 24
  | 5 => n == 0 || n == (4 + le b 2 2 + 3) / 4 * 4
  | 6 => n == 0 || n == 8
  | 7 => n == 0 || n == 168
  | 8 => n == 4
  | _ => false

/-- The reserved bytes of a body, by TYPE (log 40). -/
def bodyReserved (type : Nat) (b : Bytes) : List Nat :=
  match type with
  | 1 => [18, 19]
  | 3 => [67, 91, 115]
  | 4 => [10, 11, 22, 23]
  | 5 => (List.range b.length).drop (4 + le b 2 2)
  | 6 => [3]
  | 7 => [2, 3]
  | _ => []

/-- A record obeys its layout: a known TYPE, its LENGTH, zeros where it is reserved (R375). -/
def bodyFits (type : Nat) (b : Bytes) : Bool := bodyLenFits type b && (bodyReserved type b).all (fun i => byteAt b i == 0)

/-! ## Applying records on the standby -/

/-- Staged requests read back from a CONFIG record's bytes; `fuel` bounds their number. -/
def stagedFrom : Nat → Bytes → List Staged
  | 0, _ => []
  | n + 1, bs =>
    if bs.length < 8 then []
    else
      let len := le bs 4 4
      { opcode := le bs 0 2, data := slice bs 8 len } :: stagedFrom n (bs.drop (8 + (len + 3) / 4 * 4))

/-- A generation of the active's, applied at once. -/
def Dev.applyJournalled (d : Dev) (gen : Nat) (l : List Staged) : Dev :=
  let d1 := startSrcTimers l (d.applyTxn 0 255 .boot l).flipNow
  ({ d1 with txn := { d1.txn with committing := none, generation := gen } }).modTwin (fun t => { t with commits := t.commits ++ [(gen, l)] })

/-- A part of a CONFIG record: complete, it is applied where its generation is beyond the twin's own. -/
def Dev.takeConfig (d : Dev) (b : Bytes) : Dev :=
  let gen := le b 0 4
  let i := le b 4 2
  let sofar := match d.twin.parts with
    | some p => if p.gen == gen && p.next == i then p.data else []
    | none => []
  let data := sofar ++ b.drop 8
  if i + 1 < le b 6 2 then d.modTwin (fun t => { t with parts := some { gen := gen, next := i + 1, data := data } })
  else
    let d1 := d.modTwin (fun t => { t with parts := none })
    if gen ≤ d.txn.generation then d1 else d1.applyJournalled gen (stagedFrom 16384 data)

/-- The active's local time, INCREMENT, QUALITY and working slot. -/
def Dev.takeAlign (d : Dev) (b : Bytes) : Dev :=
  { d with time := { d.time with
      clock := { sec := le b 0 6, ns := le b 6 4 % 1000000000, frac := 0, increment := le b 12 8 }, quality := byteAt b 20, workSlot := byteAt b 21 % 2 } }

/-- The trip outputs of a group that is tripped or not: its pin is active while it is tripped (R223). -/
def Cupola.pinsFor (c : Cupola) (g : Nat) (tripped : Bool) : Tab TripPin :=
  match tabFind c.trips g with
  | none => c.pins
  | some t =>
    if byteAt t 3 == 0xFF then c.pins
    else if tripped then tabPut c.pins g { pin := byteAt t 3, level := bit (byteAt t 2) 1 }
    else tabDel c.pins g

/-- A group's sequence number and trip. -/
def Dev.takeGroup (d : Dev) (b : Bytes) : Dev :=
  let g := le b 0 2
  let tripped := byteAt b 2 == 1
  d.putCupola { d.cupola with
    groups := tabUpd d.cupola.groups g (fun x => { x with seq := le b 4 4, tripped := tripped })
    pins := d.cupola.pinsFor g tripped }

/-- A domain state of a code. -/
def domainOfCode : Nat → DomainState
  | 1 => .prepare | 2 => .asleep | 3 => .waking | _ => .awake

/-- Domain states, holds and target state; CAN_STB follows the domain states (R369, drive states). -/
def Dev.takeSleep (d : Dev) (b : Bytes) : Dev :=
  let hold := fun (n : Nat) =>
    let left := le b (36 + 4 * n) 4
    if left == 0 then none else some (n, { deadline := if left == 0xFFFFFFFF then none else some (d.uptime + ms left) : Hold })
  let d1 := { d with lantern := { d.lantern with
      target := byteAt b 0, domains := tabMap d.lantern.domains (fun n m => { m with state := domainOfCode (byteAt b (4 + n)) })
      holds := (List.range 33).filterMap hold } }
  d1.lantern.domains.foldl (fun e x => e.driveStb x.2 (decide (x.2.state = .asleep))) d1

/-- A record applied by the standby; an end mark ends the wait for its TYPE. -/
def Dev.applyRecord (d : Dev) (r : Nat × Bytes) : Dev :=
  let b := r.2
  let d1 :=
    if b.isEmpty then d.modTwin (fun t => { t with needs := clearBit t.needs r.1 })
    else match r.1 with
      | 2 => d.takeConfig b
      | 3 => { d with cask := { d.cask with sessions := tabPut d.cask.sessions (byteAt b 0 % 64) (sessionOf b) } }
      | 4 => d.takeAlign b
      | 5 => d.modDst (le b 0 2) (fun q => { q with content := slice b 4 (le b 2 2) })
      | 6 => d.takeGroup b
      | 7 => d.takeSleep b
      | _ => d
  (d1.count 13 8).settleSync

/-! ## Resynchronisation -/

/-- A standby asks for the full state of some TYPEs (R375). -/
def Dev.askResync (d : Dev) (mask : Nat) : Dev :=
  let d1 := d.modTwin (fun t => { t with needs := t.needs ||| mask })
  if d1.twin.link && d1.twin.mismatch == 0 then d1.twinSend [(8, leb 4 mask)] else d1

/-- The active sends the full state of the TYPEs asked for, each followed by its end mark. -/
def Dev.sendFull (d : Dev) (mask : Nat) : Dev :=
  let types := (List.range 8).filter (fun t => bit (mask &&& allTypes) t)
  let d1 := types.foldl (fun e t => e.journal (e.fullState t ++ [endMark t])) (d.setSync false (if mask &&& allTypes == allTypes then 0 else types.headD 0))
  d1.modTwin (fun t => { t with
    resyncSeq := some t.txSeq, owed := 0, paired := t.paired || mask &&& allTypes == allTypes })

/-- A RESYNC_REQ: a twin that is not active yet answers it when it is. -/
def Dev.takeResync (d : Dev) (mask : Nat) : Dev :=
  if d.journals then d.sendFull mask else d.modTwin (fun t => { t with owed := t.owed ||| mask })

/-- A rejected record or frame (R375): counted, on the standby also a fault, SYNC not ready and a request for that TYPE. -/
def Dev.rejectRecord (d : Dev) (type : Nat) : Dev :=
  let d1 := d.count 13 9
  if d1.twin.role = .standby then
    ((d1.faultF1 0x0701 type 0).setSync false type).askResync (if 2 ≤ type ∧ type ≤ 7 then 2 ^ type else allTypes)
  else d1

/-! ## Drive states (R369, R372) -/

/-- The level at TIME_IO[n]: a group's trip output, active while the group is tripped (R223), or what TIME_IO_CFG drives (R282, R283);
none where the pin is high impedance: no output, a twin that does not drive, FAULT_HOLD. -/
def Dev.timeIo (d : Dev) (n : Nat) : Option Bool :=
  if !d.mayDrive || decide (d.host.stage = .faultHold) then none
  else match d.cupola.pins.find? (fun x => x.2.pin == n) with
    | some x => some x.2.level
    | none =>
      match d.cupola.trips.find? (fun t => bit (byteAt t.2 2) 0 && byteAt t.2 3 == n) with
      | some t => some (!bit (byteAt t.2 2) 1)
      | none =>
        match tabFind d.time.pins n with
        | none => none
        | some q => if q.mode == 1 || q.mode == 2 then some (q.activeUntil.isSome != bit q.flags 0) else none

/-! ## Becoming active or standby -/

/-- The twin takes the standby drive state, and asks for everything. -/
def Dev.becomeStandby (d : Dev) (cause : Option Nat) : Dev :=
  let d1 := d.modTwin (fun t => { t with act := false, conflict := false, takingOver := false, settle := none, primaryWait := none, needs := 0 })
  let d2 := match cause with
    | some c => d1.setRole .standby c
    | none => d1.freeRole .standby
  (d2.setSync false 0).askResync allTypes

/-- The CAN channels leave listen-only: each waits for 11 recessive bits before it takes part (R379 step 4). -/
def Dev.rejoinCan (d : Dev) : Dev :=
  d.putGateway { d.gateway with can := tabMap d.gateway.can (fun _ c => if c.mode == 0 then c else c.startWait d.uptime) }

/-- The twin is active: its drive gate opens, and it answers what its peer has asked for in the meantime. -/
def Dev.becomeActive (d : Dev) (cause : Nat) : Dev :=
  let d1 := (d.rejoinCan.modTwin (fun t => { t with act := true, takingOver := false, conflict := false, primaryWait := none, needs := 0 })).setRole .active cause
  let d2 := d1.setSync false 0
  if d2.twin.owed != 0 && d2.journals then d2.sendFull d2.twin.owed else d2

/-- The claim of R374: ACT if ACT_IN_N is high, else the standby's role. -/
def Dev.claimAct (d : Dev) : Dev := if d.twin.actInHigh then d.becomeActive 1 else d.becomeStandby (some 1)

/-- The device pairs and has not claimed. -/
def Dev.mayClaim (d : Dev) : Bool :=
  d.twin.enable && decide (d.twin.role = .pairing) && decide (d.host.stage = .run) && !d.twin.act

/-- ACT_CLAIM_AT_RUN (R374): TWIN_ROLE 0 claims, TWIN_ROLE 1 begins its wait. -/
def actClaim (d : Dev) : Dev :=
  if !d.mayClaim || d.twin.primaryWait.isSome then d
  else if d.twin.strap then d.modTwin (fun t => { t with primaryWait := some (d.uptime + ms t.primaryWaitMs) })
  else d.claimAct

/-- ACT_CLAIM_AT_RUN. -/
def execActClaimAtRun (s : State) : Out := onDev actClaim s

/-- PRIMARY_WAIT_EXPIRY (R374). -/
def primaryWaitEnd (d : Dev) : Dev := if d.mayClaim && d.overO d.twin.primaryWait then d.claimAct else d

/-- PRIMARY_WAIT_EXPIRY. -/
def execPrimaryWaitExpiry (s : State) : Out := onDev primaryWaitEnd s

/-! ## The interlock and the switch-over (R372, R378 to R380) -/

/-- INTERLOCK_CONFLICT (R372): both twins drive ACT_OUT_N low. -/
def interlockConflict (d : Dev) : Dev :=
  let t := d.twin
  if !t.enable || !t.act || t.actInHigh || t.conflict then d
  else (d.modTwin (fun t => { t with conflict := true, settle := some (t.settle.getD (d.uptime + 50000)) })).count 13 12

/-- INTERLOCK_CONFLICT. -/
def execInterlockConflict (s : State) : Out := onDev interlockConflict s

/-- A takeover decided in this very tick: the peer, whose ACT_IN_N is registered low in it, is taken as holding ACT (R378). -/
def Twin.undecided (t : Twin) (now : Nat) : Twin :=
  if t.takingOver && t.settle == some (now + 50000) then { t with act := false, takingOver := false, settle := none } else t

/-- ACT_IN_N_EDGE: the level as registered; its rise wakes a sleeping standby (R373), and starts the filter afresh (R378). -/
def actInEdge (high : Bool) (d : Dev) : Dev :=
  if d.twin.actInHigh = high then d
  else
    let d0 := if high then d else d.modTwin (fun t => t.undecided d.uptime)
    let d1 := d0.modTwin (fun t => { t with actInHigh := high, actInHighSince := if high then d.uptime else t.actInHighSince })
    let asleep := decide (d.lantern.power = .doze) || decide (d.lantern.power = .dormant)
    if high && asleep && decide (d.twin.role = .standby) then d1.wake 32 0x203 else d1

/-- ACT_IN_N_EDGE. -/
def execActInNEdge (high : Bool) (s : State) : Out := onDev (actInEdge high) s

/-- The twin may take over: a standby, or one held in role 4 by a version difference alone (R396). -/
def Twin.mayTake (t : Twin) : Bool := decide (t.role = .standby) || (decide (t.role = .miswired) && t.mismatch == 1)

/-- ACT_TAKEOVER_DECISION (R378): ACT_IN_N has been high throughout FILTER_US; steps 1 and 2 of R379 begin. -/
def takeoverDecision (d : Dev) : Dev :=
  let t := d.twin
  if t.enable && t.mayTake && t.actInHigh && !t.act && !d.deviceAsleep && decide (t.actInHighSince + t.filterUs * 1000 ≤ d.uptime) then
    d.modTwin (fun t => { t with act := true, takingOver := true, settle := some (d.uptime + 50000) })
  else d

/-- ACT_TAKEOVER_DECISION. -/
def execActTakeoverDecision (s : State) : Out := onDev takeoverDecision s

/-- What the new active changes of the state it took over (R380, R307); one held in role 4 took over none (R396). -/
def Dev.takeoverAdjust (d : Dev) (fresh : Bool) : Dev :=
  let group := fun (_ : Nat) (x : Group) => { x with seq := (x.seq + 65536) % 2 ^ 22 }
  let ses := fun (_ : Nat) (x : Session) =>
    if x.state = .active ∨ x.state = .suspended ∨ x.state = .closing then { x with restart := true } else x
  let sessions := if fresh then [] else tabMap d.cask.sessions ses
  let d1 := d.putCupola { d.cupola with groups := tabMap d.cupola.groups group }
  let d2 := { d1 with
    cask := { d1.cask with sessions := sessions }
    lauter := { d1.lauter with fdb := d1.lauter.fdb.filter (fun e => e.2.isStatic) } }
  if d2.twin.loose then d2.modTwin (fun t => { t with looseEnd := some (d.uptime + sec t.looseS) }) else d2

/-! ## Frames from the peer -/

/-- Records of a frame: TYPE, whether the reserved byte is zero, body; none where a LENGTH does not fit. -/
def recordsIn : Nat → Bytes → Option (List (Nat × Bool × Bytes))
  | 0, _ => some []
  | n + 1, bs =>
    let len := be bs 2 2
    if bs.length < 4 + len ∨ len % 4 ≠ 0 then none
    else (recordsIn n (bs.drop (4 + len))).map (fun t => (byteAt bs 0, byteAt bs 1 == 0, slice bs 4 len) :: t)

/-- The frame's records where its head obeys its layout (R375). -/
def twinRecords (f : Bytes) : Option (List (Nat × Bool × Bytes)) :=
  if byteAt f 15 ≠ 1 ∨ be f 16 2 ≠ 0 ∨ be f 28 4 ≠ 0 ∨ 255 < be f 26 2 then none else recordsIn (be f 26 2) (f.drop 32)

/-- The straps, then the versions, of a HELLO against the twin's own (R374). -/
def Dev.helloMismatch (d : Dev) (b : Bytes) : Nat :=
  if byteAt b 16 == b2n d.twin.strap then 2
  else if le b 20 4 != d.versionOf 1 || le b 24 4 != d.versionOf 2 || le b 28 4 != d.versionOf 5 then 1
  else 0

/-- A pairing that does not fit is reported once: a twin that holds ACT keeps it, one that has received the active's state stays
standby, the others hold role 4 (R374). -/
def Dev.misfit (d : Dev) : Dev :=
  let d1 := d.faultF1 0x0703 0 0
  let t := d1.twin
  if t.act || (decide (t.role = .standby) && t.needs != allTypes) then d1
  else (d1.modTwin (fun t => { t with primaryWait := none })).setRole .miswired 6

/-- Twin Link comes up with the first HELLO since it was down: what was not acknowledged is sent again, and a standby asks for
everything. -/
def Dev.twinLinkUp (d : Dev) : Dev :=
  let d1 := (d.modTwin (fun t => { t with
    link := true, rxSeq := none, gap := [], parts := none, unacked := t.unacked.map (fun j => { j with sentAt := d.uptime, resends := 0 }) })).post 0x0D05 1 0
  d1.twin.unacked.foldl (fun e j => (e.sendAt 9 5 j.bytes).count 13 7) d1

/-- A HELLO (R374, R375). -/
def Dev.takeHello (d : Dev) (sa : Nat) (b : Bytes) : Dev :=
  let up := !d.twin.link
  let old := d.twin.mismatch
  let mm := d.helloMismatch b
  let d1 := d.modTwin (fun t => { t with peerMac := some sa, peerUid := le b 0 16, mismatch := mm })
  let d2 := if up then d1.twinLinkUp else d1
  let d3 := if mm != 0 && old == 0 then d2.misfit else d2
  if up && mm == 0 && decide (d3.twin.role = .standby) then (d3.setSync false 0).askResync allTypes else d3

/-- One record: HELLO on either twin, RESYNC_REQ at the active, the others on the standby. While the versions differ only HELLO
counts (R396). -/
def Dev.takeRecord (d : Dev) (sa : Nat) (r : Nat × Bool × Bytes) : Dev :=
  if !r.2.1 || !bodyFits r.1 r.2.2 then d.rejectRecord r.1
  else if r.1 == 1 then d.takeHello sa r.2.2
  else if d.twin.mismatch != 0 then d
  else if r.1 == 8 then d.takeResync (le r.2.2 0 4)
  else if d.twin.role = .standby then d.applyRecord (r.1, r.2.2)
  else d

/-- A frame's records, in order; a frame that breaks its layout is rejected whole. -/
def Dev.takeFrame (d : Dev) (sa : Nat) (f : Bytes) : Dev :=
  match twinRecords f with
  | none => d.rejectRecord 0
  | some rs => rs.foldl (fun e r => e.takeRecord sa r) d

/-- Frames kept after a gap, as far as they now follow in order; `n` of them at most. -/
def Dev.takeGap (sa : Nat) : Nat → Dev → Dev
  | 0, d => d
  | n + 1, d =>
    let next := nextTwinSeq (d.twin.rxSeq.getD 0)
    match tabFind d.twin.gap next with
    | none => d
    | some f => Dev.takeGap sa n ((d.modTwin (fun t => { t with rxSeq := some next, gap := tabDel t.gap next })).takeFrame sa f)

/-- A sequenced frame (R376): in its turn it is applied, and what waited after it; after a gap it waits; one received already is
only acknowledged again. -/
def Dev.takeSequenced (d : Dev) (sa seq : Nat) (f : Bytes) : Dev :=
  let next := match d.twin.rxSeq with
    | none => seq
    | some q => nextTwinSeq q
  let d1 :=
    if seq == next then
      let e := (d.modTwin (fun t => { t with rxSeq := some seq })).takeFrame sa f
      Dev.takeGap sa e.twin.gap.length e
    else if seqLe seq next then d
    else d.modTwin (fun t => { t with gap := tabPut t.gap seq f })
  if d1.twin.mismatch == 0 then d1.twinPlain [] else d1

/-- The planned handover of R381 is due: every record is acknowledged and SYNC is ready. -/
def Dev.settleHandover (d : Dev) : Dev :=
  match d.twin.handover with
  | none => d
  | some h =>
    if d.twin.sync && d.twin.unacked.isEmpty && decide (d.twin.role = .active) then
      let d1 := ((d.modTwin (fun t => { t with handover := none })).count 13 11).becomeStandby (some 3)
      d1.complete h.1 stOk 0 []
    else d

/-- An acknowledgement: of every frame up to ACK_SEQ. -/
def Dev.takeAck (d : Dev) (q : Nat) : Dev :=
  if q == 0 || !seqLe q d.twin.txSeq then d
  else
    let d1 := d.modTwin (fun t => { t with
      acked := if seqLe t.acked q then q else t.acked
      unacked := t.unacked.filter (fun j => !seqLe j.seq q)
      waits := t.waits.filter (fun w => !seqLe w.seq q)
      resyncSeq := match t.resyncSeq with
        | some r => if seqLe r q then none else some r
        | none => none })
    (d1.settleSync).settleHandover

/-- The frame holds a HELLO that may bring Twin Link up. -/
def hasHello (f : Bytes) : Bool := match twinRecords f with
  | none => false
  | some rs => rs.any (fun r => r.1 == 1 && r.2.1 && bodyFits 1 r.2.2)

/-- JOURNAL_FRAME_RECEIVED (R375 to R377): a Twin Link frame on P9 in twin mode, from the peer or, while Twin Link is down, with a
HELLO from the twin that then is the peer. -/
def journalReceived (f : Bytes) (d : Dev) : Dev :=
  if !d.twin.enable || be f 12 2 != 0x88B5 || byteAt f 14 != 4 then d
  else
    let sa := be f 6 6
    let known := if d.twin.link then d.twin.peerMac == some sa else hasHello f
    if !known then d.count 13 9
    else
      let d1 := d.modTwin (fun t => { t with lastRx := d.uptime })
      let seq := be f 18 4
      let d2 := if d.twin.link then d1.takeAck (be f 22 4) else d1
      if seq == 0 then d2.takeFrame sa f else d2.takeSequenced sa seq f

/-- JOURNAL_FRAME_RECEIVED. -/
def execJournalFrameReceived (bytes : List Byte) (s : State) : Out := onDev (journalReceived bytes) s

/-- INTERLOCK_SETTLE_EXPIRY: a standby that takes over keeps ACT only if ACT_IN_N has stayed high, and is then active with every
record received applied (R379, R380); of two twins that both drive ACT the one with TWIN_ROLE 1 releases (R372). -/
def settleExpiry (d : Dev) : Dev :=
  let t := d.twin
  match t.settle with
  | none => d
  | some at_ =>
    if !d.over at_ then d
    else
      let d1 := d.modTwin (fun t => { t with settle := none, conflict := false })
      if t.takingOver then
        (if t.actInHigh && decide (t.actInHighSince + 50000 ≤ at_) && !t.conflict then
          let fresh := decide (t.role = .miswired)
          let d2 := Dev.takeGap (t.peerMac.getD 0) t.gap.length d1
          ((d2.takeoverAdjust fresh).count 13 10).becomeActive 2
        else d1.modTwin (fun t => { t with act := false, takingOver := false }))
      else if t.act && !t.actInHigh && t.strap then d1.becomeStandby none
      else d1

/-- INTERLOCK_SETTLE_EXPIRY. -/
def execInterlockSettleExpiry (s : State) : Out := onDev settleExpiry s

/-- LOOSE_PERIOD_EXPIRY (R380). -/
def loosePeriodEnd (d : Dev) : Dev := if d.overO d.twin.looseEnd then d.modTwin (fun t => { t with looseEnd := none }) else d

/-- LOOSE_PERIOD_EXPIRY. -/
def execLoosePeriodExpiry (s : State) : Out := onDev loosePeriodEnd s

/-! ## Timers of Twin Link (R376, R377) -/

/-- TWIN_LINK_LOST. -/
def Dev.twinLinkLost (d : Dev) : Dev := if d.twin.link then (d.faultF1 0x0702 0 0).twinLinkDown else d

/-- A frame that was not acknowledged is due for another sending. -/
def Dev.resendDue (d : Dev) (j : JFrame) : Bool := d.over (j.sentAt + ms (j.resends + 1))

/-- JOURNAL_RESEND_TIMEOUT (R376): after 8 resends Twin Link is lost. -/
def resendTimeout (d : Dev) : Dev :=
  let due := d.twin.unacked.filter d.resendDue
  if !d.twin.link || due.isEmpty then d
  else if due.any (fun j => decide (8 ≤ j.resends)) then d.twinLinkLost
  else
    let again := fun (j : JFrame) => if d.resendDue j then { j with resends := j.resends + 1 } else j
    d.transfer 11 64 (fun e =>
      due.foldl (fun e j => (e.sendAt 9 5 j.bytes).count 13 7) (e.modTwin (fun t => { t with unacked := t.unacked.map again })))

/-- JOURNAL_RESEND_TIMEOUT. -/
def execJournalResendTimeout (s : State) : Out := onDev resendTimeout s

/-- TWIN_LINK_TIMEOUT (R376). -/
def twinLinkTimeout (d : Dev) : Dev :=
  if d.twin.link && d.over (d.twin.lastRx + ms d.twin.linkTimeoutMs) then d.twinLinkLost else d

/-- TWIN_LINK_TIMEOUT. -/
def execTwinLinkTimeout (s : State) : Out := onDev twinLinkTimeout s

/-- JOURNAL_SYNC_TIMEOUT (R377): the response that waits is released. -/
def journalSyncTimeout (d : Dev) : Dev :=
  match d.twin.waits.find? (fun w => d.over w.deadline) with
  | none => d
  | some w => (d.modTwin (fun t => { t with waits := t.waits.filter (fun w => !d.over w.deadline) })).setSync false w.type

/-- JOURNAL_SYNC_TIMEOUT. -/
def execJournalSyncTimeout (s : State) : Out := onDev journalSyncTimeout s

/-- Twin Link can carry a frame: twin mode in stage RUN, with P9's link up. -/
def Dev.twinSends (d : Dev) : Bool := d.twin.enable && decide (d.host.stage = .run) && (d.port 9).up

/-- HELLO_SEND (R375): at link-up and every 1 ms. A journal frame takes a transfer of requester 11 (14, Journal). -/
def helloSend (d : Dev) : Dev :=
  let due := match d.twin.lastHello with
    | none => true
    | some t => decide (t + ms 1 ≤ d.uptime)
  if d.twinSends && due then
    d.transfer 11 64 (fun e => (e.modTwin (fun t => { t with lastHello := some e.uptime })).twinPlain [(1, e.helloBody)])
  else d

/-- HELLO_SEND. -/
def execHelloSend (s : State) : Out := onDev helloSend s

/-- TIME_ALIGN_SEND (R375): every 125 ms. -/
def alignSend (d : Dev) : Dev :=
  if d.journals && d.twinSends && decide (d.twin.lastAlign + ms 125 ≤ d.uptime) then
    d.transfer 11 64 (fun e => (e.modTwin (fun t => { t with lastAlign := e.uptime })).twinSend [(4, e.alignBody)])
  else d

/-- TIME_ALIGN_SEND. -/
def execTimeAlignSend (s : State) : Out := onDev alignSend s

/-- The records of a batch: the PDUs changed, every group, and SLEEP where it changed. -/
def Dev.batchRecords (d : Dev) : List (Nat × Bytes) :=
  d.twin.changedPdus.filterMap (fun i => (tabFind d.gateway.dsts i).map (fun q => (5, pduBody i q.content))) ++ d.fullState 6 ++
    (if d.twin.sleepDirty then d.fullState 7 else [])

/-- A batch. -/
def Dev.sendBatch (d : Dev) : Dev :=
  (d.journal d.batchRecords).modTwin (fun t => { t with changedPdus := [], sleepDirty := false, lastBatch := d.uptime })

/-- JOURNAL_BATCH_SEND (R375, R377): every JOURNAL_PERIOD_MS. -/
def batchSend (d : Dev) : Dev :=
  if d.journals && d.twinSends && decide (d.twin.lastBatch + ms d.twin.journalMs ≤ d.uptime) then d.transfer 11 64 Dev.sendBatch else d

/-- JOURNAL_BATCH_SEND. -/
def execJournalBatchSend (s : State) : Out := onDev batchSend s

/-! ## SAFE_TWIN_HANDOVER (R381) -/

/-- SAFE_TWIN_HANDOVER: every pending record is sent first; the acknowledgement that makes the standby ready ends the wait. -/
def safeTwinHandover (rq : Req) (d : Dev) : Dev :=
  (d.serve 0x0D08 rq (rspMax 0) (fun d ch bs => withLayout d 8 [fr 0 4 0x73706972 0x73706972, fr 4 2 1 1000] bs
    (if d.twin.role ≠ .active then ansErr d stWrongMode
     else match d.twin.handover with
       | some h => ansErrD d stBusy h.1
       | none =>
         let d1 := if d.journals then d.sendBatch else d
         .wait (d1.modTwin (fun t => { t with handover := some (ch, d.uptime + ms (le bs 4 2)) }))))).settleHandover

/-- SAFE_TWIN_HANDOVER. -/
def execSafeTwinHandover (rq : Req) (s : State) : Out := onDev (safeTwinHandover rq) s

/-- The wait of a handover ends without a ready standby: TIMEOUT, with no change. -/
def Dev.handoverTimeout (d : Dev) : Dev :=
  match d.twin.handover with
  | none => d
  | some h => if d.over h.2 then (d.modTwin (fun t => { t with handover := none })).complete h.1 stTimeout 0 [] else d

end Sys2Proof.Machine
end

