-- ==== Sys2Proof/Machine/Firmware.lean ====
section
/-! DEFINITION. Firmware update and Kiln (chapter 15): manifests, writing and verifying, activation, trials and their fallback, the
CFG image's commands (R414), and the Kiln commands. -/

namespace Sys2Proof.Machine

open Sys2Proof

/-! ## Manifests (R383, R384) -/

/-- COUNT. -/
def manCount (m : Bytes) : Nat := byteAt m 2
/-- MANIFEST_ID. -/
def manId (m : Bytes) : Nat := le m 4 4
/-- CONFIRM_S; 0 selects 600. -/
def manConfirm (m : Bytes) : Nat := if le m 0x1C 2 == 0 then 600 else le m 0x1C 2
/-- A component entry (72 bytes). -/
def manEntry (m : Bytes) (e : Nat) : Bytes := slice m (0x30 + 72 * e) 72
/-- The entries. -/
def manEntries (m : Bytes) : List Bytes := (List.range (manCount m)).map (manEntry m)
/-- An entry's COMPONENT. -/
def entComp (e : Bytes) : Nat := byteAt e 0
/-- An entry's EPOCH. -/
def entEpoch (e : Bytes) : Nat := le e 0x0C 4
/-- An entry's LENGTH. -/
def entLength (e : Bytes) : Nat := le e 0x10 4
/-- An entry's DIGEST. -/
def entDigest (e : Bytes) : Bytes := slice e 0x18 48
/-- A component's entry. -/
def manEntryOf (m : Bytes) (comp : Nat) : Option Bytes := (manEntries m).find? (fun e => entComp e == comp)
/-- The components of a manifest as a mask. -/
def compMask (l : List Nat) : Nat := l.foldl (fun v c => setBit v (c - 1)) 0
/-- Bytes the signature covers. -/
def manSigned (m : Bytes) : Bytes := m.take (48 + 72 * manCount m)

/-- The public key of a manifest's SIGNER; empty where there is none. -/
def Dev.manifestKey (d : Dev) (signer : Nat) : Bytes :=
  match signer with
  | 1 => slice Config.lyswinPub 0 96
  | 2 => d.keep.ownerAuth
  | 3 => d.keep.legalAuth
  | _ => []

/-- The signature verifies with the key of SIGNER. -/
def Dev.manifestSigned (d : Dev) (m : Bytes) : Bool :=
  let k := d.manifestKey (byteAt m 1)
  !k.isEmpty && Config.ecdsaVerify 2 k (Config.sha384 (manSigned m)) (slice m (48 + 72 * manCount m) 96)

/-- The signer R383 gives for a component in a lifecycle state; none at the dash. -/
def signerFor (lc comp : Nat) : Option Nat :=
  if comp == 2 then (if lc ≤ 1 then some 1 else if lc == 2 then some 2 else if lc == 3 then some 3 else none)
  else if lc == 2 || lc == 3 then some 2
  else some 1

/-- SIGNER obeys R383 for every component; in SEALED a manifest that contains LEG contains only LEG. -/
def signerOk (lc : Nat) (m : Bytes) : Bool :=
  let cs := (manEntries m).map entComp
  cs.all (fun c => signerFor lc c == some (byteAt m 1)) && !(lc == 3 && cs.contains 2 && cs.any (fun c => c != 2))

/-- Every field of the manifest lies in its range, no component twice, no ROM too old. -/
def manifestFieldsOk (m : Bytes) : Bool :=
  let cs := (manEntries m).map entComp
  let entryOk := fun (e : Bytes) =>
    layoutOk [fr 0 1 1 5, fa 4 4, fa 8 4, fa 0x0C 4, fr 0x10 4 16 (bankSize (entComp e)), fa 0x18 48] e && entLength e % 16 == 0
  layoutOk [fr 0 1 1 1, fr 1 1 1 3, fr 2 1 1 5, fr 4 4 1 (2 ^ 32 - 1), fa 8 16, fr 0x18 4 0 (Config.romVersion % 2 ^ 32), fr 0x1C 2 0 3600] (m.take 48) &&
  (le m 0x1C 2 == 0 || decide (10 ≤ le m 0x1C 2)) && (manEntries m).all entryOk && decide (cs.Nodup)

/-- The first failure of R384: its status and DETAIL. -/
def Dev.manifestError (d : Dev) (m : Bytes) : Option (Nat × Nat) :=
  let uid := slice m 8 16
  if m.length < 144 ∨ m.length ≠ 48 + 72 * manCount m + 96 then some (stBadLength, 0)
  else if (!allZero uid && uid != slice Config.uid 0 16) || !d.manifestSigned m then some (stAuthFail, 0)
  else if !signerOk d.keep.lifecycle m then some (stNotPermitted, 0)
  else if !manifestFieldsOk m then some (stBadParam, 0)
  else ((manEntries m).find? (fun e => decide (entEpoch e < d.mono (3 + entComp e)))).map (fun e => (stStaleCounter, entComp e))

/-- The target bank of a component (R382): the one not in force; A where none is. -/
def Dev.targetBank (d : Dev) (comp : Nat) : Nat := match d.bankInForce comp with
  | some 0 => 1
  | _ => 0

/-- An accepted manifest opens the update session, every target bank EMPTY. -/
def Dev.openUpdate (d : Dev) (ch : Nat) (m : Bytes) : Dev :=
  let ts := (manEntries m).map (fun e => (entComp e, d.targetBank (entComp e)))
  let u : UpdateSession :=
    { owner := ch, manifest := m, targets := ts, verified := false, written := [], lastWrite := [], deadline := d.uptime + sec 60 }
  let d1 := ts.foldl (fun e t => e.setBank t.1 t.2 bank0) d
  { d1 with update := { d1.update with session := some u } }

/-- FW_BEGIN: BUSY while a session exists or a trial is pending comes after the manifest's own checks (R39). What DETAIL holds
during a trial, which has no owning channel, is free. -/
def fwBeginBody (d : Dev) (ch : Nat) (m : Bytes) : Ans :=
  match d.manifestError m with
  | some e => ansErrD d e.1 e.2
  | none =>
    match d.update.session with
    | some u => ansErrD d stBusy (u.owner % 16)
    | none =>
      if d.update.trial.isSome then ansErrD d.free.2 stBusy (d.free.1 % 16)
      else
        let d1 := d.openUpdate ch m
        let targets := (d1.update.session.map (fun u => u.targets)).getD []
        ansOk ((d1.hashed (manSigned m).length).eccCount)
          (leb 4 (manId m) ++ leb 1 (compMask ((targets.filter (fun t => t.2 == 1)).map (fun t => t.1))) ++ zeros 3)

/-- FW_BEGIN. -/
def fwBegin (rq : Req) (d : Dev) : Dev := d.serve 0x0E01 rq (rspMax 8) fwBeginBody

/-- FW_BEGIN. -/
def execFwBegin (rq : Req) (s : State) : Out := onDev (fwBegin rq) s

/-! ## Writing and verifying (R385 to R388) -/

/-- Bytes written of a component. -/
def UpdateSession.writtenOf (u : UpdateSession) (comp : Nat) : Nat := tabGet 0 u.written comp

/-- The target bank of a component of the session. -/
def UpdateSession.target (u : UpdateSession) (comp : Nat) : Nat := ((u.targets.find? (fun t => t.1 == comp)).map (fun t => t.2)).getD 0

/-- R386's two OFFSETs, and the byte counts it allows. -/
def UpdateSession.writeOk (u : UpdateSession) (comp off n len : Nat) : Bool :=
  (off == u.writtenOf comp || tabFind u.lastWrite comp == some (off, n)) && decide (off + n ≤ len) && (n % 16 == 0 || off + n == len)

/-- A write that breaks R17: refused, and recorded in the legal event log where it targets a LEG bank. -/
def Dev.foreignWrite (d : Dev) (comp off : Nat) : Ans :=
  ansErr (if comp == 2 then d.legalLog 4 0 ((bankBase 2 (d.targetBank 2) + off) % 2 ^ 32) else d) stNotPermitted

/-- The write itself. -/
def Dev.writeImage (d : Dev) (u : UpdateSession) (comp off : Nat) (data : Bytes) : Dev :=
  let u1 : UpdateSession := { u with
    written := tabPut u.written comp (max (u.writtenOf comp) (off + data.length)), lastWrite := tabPut u.lastWrite comp (off, data.length) }
  let m := memWriteN d.update.mram (bankBase comp (u.target comp) + off) data
  ({ d with update := { d.update with mram := m, session := some u1 } }).mramWrote 1

/-- FW_WRITE's checks and effect. -/
def fwWriteBody (d : Dev) (ch : Nat) (bs : Bytes) : Ans :=
  let comp := byteAt bs 0
  let off := le bs 4 4
  if bs.length < 8 then ansErr d stBadLength
  else if le bs 1 3 ≠ 0 ∨ comp < 1 ∨ 5 < comp then ansErr d stBadParam
  else match d.update.session with
    | none => ansErr d stNotFound
    | some u =>
      if u.owner ≠ ch then d.foreignWrite comp off
      else match manEntryOf u.manifest comp with
        | none => ansErr d stNotFound
        | some e =>
          if comp == 2 && !d.boot.legRuns && decide (d.host.stage ≠ .kiln) then d.foreignWrite comp off
          else if !u.writeOk comp off (bs.length - 8) (entLength e) then ansErr d stBadParam
          else
            let d1 := d.writeImage u comp off (bs.drop 8)
            ansOk d1 (leb 4 ((d1.update.session.map (fun u => u.writtenOf comp)).getD 0))

/-- FW_WRITE. -/
def fwWrite (rq : Req) (d : Dev) : Dev := d.serve 0x0E02 rq (rspMax 4) fwWriteBody

/-- FW_WRITE. -/
def execFwWrite (rq : Req) (s : State) : Out := onDev (fwWrite rq) s

/-- The bytes of a target bank. -/
def Dev.targetImage (d : Dev) (u : UpdateSession) (e : Bytes) : Bytes :=
  memReadN d.update.mram (bankBase (entComp e) (u.target (entComp e))) (entLength e)

/-- The image's SHA-384 is its entry's digest. -/
def Dev.digestOk (d : Dev) (u : UpdateSession) (e : Bytes) : Bool := slice (Config.sha384 (d.targetImage u e)) 0 48 == entDigest e

/-- A VALID bank with what its manifest entry says of it. -/
def Dev.verifiedBank (d : Dev) (m e : Bytes) : Bank :=
  { state := 1, version := le e 4 4, build := le e 8 4, epoch := entEpoch e, length := entLength e, manifest := m, lifecycle := d.keep.lifecycle }

/-- FW_VERIFY's effect on complete images (R388). -/
def Dev.verifyAll (d : Dev) (u : UpdateSession) : Ans :=
  let es := manEntries u.manifest
  let bad := es.filter (fun e => !d.digestOk u e)
  let d0 := d.hashed ((es.map entLength).sum)
  match bad with
  | b :: _ =>
    let d1 := bad.foldl (fun e x => (e.invalidate (entComp x) (u.target (entComp x))).count 14 3) d0
    let d2 := { d1 with update := { d1.update with session := none } }
    ansErrD (d2.post 0x0E05 (manId u.manifest) 2) stAuthFail (entComp b)
  | [] =>
    let d1 := es.foldl (fun e x => e.setBank (entComp x) (u.target (entComp x)) (d.verifiedBank u.manifest x)) d0
    let d2 := { d1 with update := { d1.update with session := some { u with verified := true } } }
    ansOk (d2.post 0x0E01 (manId u.manifest) (compMask (es.map entComp))) (leb 4 (manId u.manifest))

/-- FW_VERIFY. -/
def fwVerify (rq : Req) (d : Dev) : Dev :=
  d.serve 0x0E03 rq (rspMax 4) (fun d ch bs => withLayout d 0 [] bs
    (match d.update.session with
     | none => ansErr d stNotFound
     | some u =>
       if u.owner ≠ ch then ansErr d stNotPermitted
       else match (manEntries u.manifest).find? (fun e => decide (u.writtenOf (entComp e) < entLength e)) with
         | some e => ansErrD d stBadLength (entComp e)
         | none => d.verifyAll u))

/-- FW_VERIFY. -/
def execFwVerify (rq : Req) (s : State) : Out := onDev (fwVerify rq) s

/-- FW_ABORT. -/
def fwAbort (rq : Req) (d : Dev) : Dev :=
  d.serve 0x0E07 rq (rspMax 0) (fun d ch bs => withLayout d 0 [] bs
    (match d.update.session with
     | none => ansErr d stNotFound
     | some u => if u.owner ≠ ch then ansErr d stNotPermitted else ansOk (d.endUpdate 3) []))

/-- FW_ABORT. -/
def execFwAbort (rq : Req) (s : State) : Out := onDev (fwAbort rq) s

/-- UPDATE_SESSION_IDLE_TIMEOUT (R385). -/
def updateIdle (d : Dev) : Dev := match d.update.session with
  | none => d
  | some u => if d.over u.deadline then d.endUpdate 1 else d

/-- UPDATE_SESSION_IDLE_TIMEOUT. -/
def execUpdateSessionIdleTimeout (s : State) : Out := onDev updateIdle s

/-! ## The CFG image (R414) -/

/-- What refuses a CFG image: SYS_CFG_REFUSED's OBJECT, the status, DETAIL and payload. -/
structure CfgError where
  object : Nat
  status : Nat
  detail : Nat
  payload : Bytes

/-- A staging failure of the image's request `i`. -/
def cfgFails (i status : Nat) : CfgError := { object := i, status := status, detail := 0, payload := leb 4 i }

/-- A malformed header; its status is the model's (log 62). -/
def cfgMalformed : CfgError := { object := 0xFFFFFFFF, status := stBadParam, detail := 0, payload := [] }

/-- The requests of the image from request `i` on, staged in image order. -/
def Dev.cfgStage (d : Dev) : Nat → Nat → Bytes → CfgError ⊕ List Staged
  | 0, _, bs => if bs.isEmpty then .inr [] else .inl cfgMalformed
  | n + 1, i, bs =>
    let op := le bs 0 2
    let len := le bs 2 2
    let size := 16 + (len + 3) / 4 * 4
    let data := slice bs 16 len
    if bs.length < size then .inl cfgMalformed
    else if 4096 < len then .inl (cfgFails i stBadLength)
    else if !knownOpcode op then .inl (cfgFails i stBadOpcode)
    else if le bs 6 2 ≠ 1 ∨ le bs 8 8 ≠ 0 ∨ allZero (slice bs (16 + len) (size - 16 - len)) = false then .inl (cfgFails i stBadParam)
    else match stagingCheck op with
      | none => .inl (cfgFails i stBadParam)
      | some f =>
        if f d data ≠ stOk then .inl (cfgFails i (f d data))
        else match Dev.cfgStage d n (i + 1) (bs.drop size) with
          | .inl e => .inl e
          | .inr t => .inr ({ opcode := op, data := data } :: t)

/-- The commands of a CFG image. An image's LENGTH is a multiple of 16: zeros may follow its last request. -/
def Dev.cfgCommands (d : Dev) (img : Bytes) : CfgError ⊕ List Staged :=
  let count := le img 8 4
  let sizes := fun (bs : Bytes) => (List.range count).foldl (fun (acc : Nat × Nat) _ =>
    (acc.1 + 16 + (le bs (acc.1 + 2) 2 + 3) / 4 * 4, acc.2 + le bs (acc.1 + 2) 2)) (0, 0)
  let body := img.drop 16
  if img.length < 16 ∨ byteAt img 0 ≠ 1 ∨ byteAt img 1 ≠ 0 ∨ le img 6 2 ≠ 0 ∨ 16384 < count ∨ 2097152 < le img 0x0C 4 then .inl cfgMalformed
  else
    let total := sizes body
    if total.2 ≠ le img 0x0C 4 ∨ body.length < total.1 ∨ allZero (body.drop total.1) = false then .inl cfgMalformed
    else d.cfgStage count 0 (body.take total.1)

/-- The image evaluated as one transaction under R55: what refuses it, or its commands; and the state with the report. -/
def Dev.cfgEvaluate (d : Dev) (img : Bytes) : (CfgError ⊕ List Staged) × Dev :=
  match d.cfgCommands img with
  | .inl e => (.inl e, d)
  | .inr l =>
    let v := d.evaluateTxn (batchOf l)
    match v.refused with
    | none => (.inr l, v.dev)
    | some r =>
      let named := r.1 != stRefusedDeadline && r.2.2.length == 4
      (.inl { object := if named then le r.2.2 0 4 else 0xFFFFFFFE, status := r.1, detail := r.2.1, payload := r.2.2 }, v.dev)

/-- The image's commands as one generation, whose bank switches wait as those of a COMMIT do (R391: the pause of R151 and the Cupola wait
of R227); what follows the flip is `kind`. -/
def Dev.cfgBegin (d : Dev) (owner : Nat) (kind : CommitKind) (l : List Staged) : Dev :=
  let id := nextTxnId d.txn.lastId
  { d with txn := { d.txn with lastId := id } }.applyTxn id owner kind l

/-- The image's commands in force at a start, where nothing is forwarded yet, as a transaction that no channel owns (R414). -/
def Dev.cfgApply (d : Dev) (l : List Staged) : Dev := ((d.cfgBegin 255 .boot l).flipNow).finishCommit

/-! ## Activation (R389 to R392) -/

/-- A component's switch of a HOT activation takes effect (R391, R392): LEG logs its start; PHY takes down the TS ports, SDS the XG
and GE ports. Which cause their PORT_LINK_DOWN names is free. -/
def Dev.hotEffect (d : Dev) (comp : Nat) : Dev :=
  let down := fun (lo hi : Nat) (e : Dev) => (List.range (hi - lo)).foldl (fun (x : Dev) i =>
    let c := x.free
    linkDown (lo + i) (c.1 % 5 + 1) c.2) e
  match comp with
  | 2 => d.legStarts
  | 3 => down 34 50 { d with boot := { d.boot with phyLoaded := true } }
  | 4 => down 0 34 { d with boot := { d.boot with sdsLoaded := true } }
  | _ => d

/-- A bank goes on trial. -/
def Dev.tryBank (d : Dev) (comp bank : Nat) : Dev := d.setBank comp bank { (d.fwBank comp bank) with state := 3 }

/-- The longest pause of a HOT activation in us (R391's table); CFG's is that of R151. -/
def hotPause (comps : List Nat) : Nat :=
  comps.foldl (fun m c => max m (match c with | 1 => 150000 | 2 => 50000 | 3 => 20000 | 4 => 60000 | _ => 2)) 0

/-- An accepted activation: the trial, its count and event. -/
def Dev.beginTrial (d : Dev) (id confirmS : Nat) (banks : List (Nat × Nat)) (hot : Bool) : Dev :=
  let mask := compMask (banks.map (fun b => b.1))
  let t : Trial :=
    { manifestId := id, mask := mask, hot := hot, confirmS := confirmS, deadline := none
      previous := banks.map (fun b => (b.1, (d.bankInForce b.1).getD 2)), current := banks, faultMark := d.safety.faultSeq, failed := none }
  ((({ d with update := { d.update with trial := some t } }).count 14 0).post 0x0E02 id (mask + b2n (!hot) * 2 ^ 8))

/-- The components a HOT activation switches, in R391's order: those before the one whose step fails. -/
def hotSteps (banks : List (Nat × Nat)) (failsAt : Option Nat) : List Nat :=
  ([1, 2, 3, 4, 5].filter (fun c => banks.any (fun b => b.1 == c))).takeWhile (fun c => failsAt != some c)

/-- The switches of a HOT activation, in R391's order; CFG's commands then begin to go in force as one generation, with the response as
what follows. -/
def Dev.hotSwitch (d : Dev) (ch us : Nat) (banks : List (Nat × Nat)) (failsAt : Option Nat) (cfg : List Staged) : Dev :=
  let go := fun (e : Dev) (c : Nat) => match banks.find? (fun b => b.1 == c) with
    | none => e
    | some b =>
      let e1 := (e.tryBank c b.2).hotEffect c
      if c == 5 then e1.cfgBegin ch (.hot us) cfg else e1
  (hotSteps banks failsAt).foldl go d

/-- A reset that an activation or a fallback asks for: at least 100 us after the response (R390). -/
def Dev.activationDue (d : Dev) : Dev := { d with boot := { d.boot with resetDue := some (d.uptime + 100000, 1, 3) } }

/-- The lowest session that keeps LEG from being activated: ACTIVE, SUSPENDED, CLOSING, or with a withheld seal. -/
def Dev.legHeldBy (d : Dev) : Option Nat :=
  (List.range 64).find? (fun n =>
    (n != 0 && decide ((d.ses n).state = .active ∨ (d.ses n).state = .suspended ∨ (d.ses n).state = .closing)) || d.sealWithheld n)

/-- The banks an activation names: the verified manifest's targets, or the VALID banks of the named components. -/
def activationBanks (d : Dev) (ch : Nat) (bs : Bytes) : Nat ⊕ (Nat × Nat × List (Nat × Nat)) :=
  if byteAt bs 1 == 0 then
    (if byteAt bs 2 ≠ 0 then .inl stBadParam
     else match d.update.session with
       | none => .inl stNotFound
       | some u =>
         if u.owner ≠ ch then .inl stNotPermitted
         else if !u.verified then .inl stNotFound
         else .inr (manId u.manifest, manConfirm u.manifest, u.targets))
  else if byteAt bs 2 == 0 then .inl stBadParam
  else
    let cs := [1, 2, 3, 4, 5].filter (fun c => bit (byteAt bs 2) (c - 1))
    let valid := fun (c : Nat) => [0, 1].find? (fun b => (d.fwBank c b).state == 1)
    if cs.any (fun c => (valid c).isNone) then .inl stNotFound
    else .inr (0, 600, cs.map (fun c => (c, (valid c).getD 0)))

/-- The refusals of R389 but the last, in the table's order. -/
def activationRefused (d : Dev) (reset : Bool) (banks : List (Nat × Nat)) : Option (Nat × Nat) :=
  let has := fun (c : Nat) => banks.any (fun b => b.1 == c)
  let txn := match d.txn.txn, d.txn.committing with
    | some t, _ => some t.owner
    | none, some c => some c.owner
    | none, none => none
  if d.update.trial.isSome then some (stBusy, 0)
  else if (has 5 || reset) && txn.isSome then some (stBusy, txn.getD 0 % 16)
  else if has 2 && d.legHeldBy.isSome then some (stBusy, sesConflict (d.legHeldBy.getD 0))
  else if has 2 && d.safety.split then some (stWrongMode, 0)
  else if has 2 && d.keep.lifecycle == 3 && (d.ringFull || d.logFull) then some (stNoResource, 0)
  else if !reset && d.twin.enable then some (stWrongMode, 0)
  else (banks.find? (fun b => decide ((d.fwBank b.1 b.2).epoch < d.mono (3 + b.1)))).map (fun b => (stStaleCounter, b.1))

/-- The CFG image of an activation, evaluated: on the running configuration for HOT, on that of a fresh start for RESET. -/
def activationCfg (d : Dev) (reset : Bool) (banks : List (Nat × Nat)) : CfgError ⊕ List Staged :=
  match banks.find? (fun b => b.1 == 5) with
  | none => .inr []
  | some b => ((if reset then d.systemReset 1 else d).cfgEvaluate (d.image 5 b.2)).1

/-- A step of a HOT activation fails (R391): the trial has failed with cause 5. -/
def Dev.hotStepFails (d : Dev) : Dev :=
  { d with update := { d.update with trial := d.update.trial.map (fun (t : Trial) => { t with failed := some 5 }) } }

/-- FW_ACTIVATE's effect; `failsAt` is the component whose step of a HOT activation fails. A switch of CFG is answered when its generation is
in force. -/
def Dev.activate (d : Dev) (ch : Nat) (reset : Bool) (failsAt : Option Nat) (id confirmS : Nat) (banks : List (Nat × Nat)) (cfg : List Staged)
    (own : Bool) : Ans :=
  let d1 := d.beginTrial id confirmS banks (!reset)
  let d2 := if own then { d1 with update := { d1.update with session := none } } else d1
  if reset then
    let d3 := { d2 with update := { d2.update with trialFlag := true } }
    ansOk (d3.activationDue.mramWrote 1) (zeros 8)
  else
    let us := Config.freePause d2.freeIx % (hotPause (banks.map (fun b => b.1)) + 1)
    let d3 := Dev.hotSwitch { d2 with freeIx := d2.freeIx + 1 } ch us banks failsAt cfg
    if banks.any (fun b => failsAt == some b.1) then .wait d3.hotStepFails
    else if banks.any (fun b => b.1 == 5) then .wait d3
    else ansOk d3.startTrial (leb 4 us ++ zeros 4)

/-- FW_ACTIVATE served. -/
def serveActivate (rq : Req) (failsAt : Option Nat) (d : Dev) : Dev :=
  d.serve 0x0E04 rq (rspMax 4080) (fun d ch bs =>
    withLayout d 8 [fr 0 1 0 1, fr 1 1 0 1, fr 2 1 0 31, fr 4 4 0x6669726D 0x6669726D] bs
      (match activationBanks d ch bs with
       | .inl st => ansErr d st
       | .inr (id, confirmS, banks) =>
         let reset := byteAt bs 0 == 1
         match activationRefused d reset banks with
         | some e => ansErrD d e.1 e.2
         | none =>
           match activationCfg d reset banks with
           | .inl e => .done e.status e.detail e.payload d
           | .inr cfg => d.activate ch reset failsAt id confirmS banks cfg (byteAt bs 1 == 0)))

/-- ACTIVATION_RESET (R390): the reset of an activation, from which the 10 s of R394 run, or of a fallback. -/
def activationReset (d : Dev) : Dev :=
  match d.boot.resetDue with
  | some r =>
    if r.2.2 == 3 && decide (r.1 ≤ d.uptime) then
      let d1 := d.resetNow r.2.1
      if d.update.trialFlag then { d1 with update := { d1.update with trialReset := some d.uptime } } else d1
    else d
  | none => d

/-- ACTIVATION_RESET. -/
def execActivationReset (s : State) : Out := onDev activationReset s

/-! ## Trial, confirmation and fallback (R393 to R395) -/

/-- The trial banks become ACTIVE, those they replaced VALID; the counters rise; VALID banks below them become INVALID. -/
def Dev.confirmBanks (d : Dev) (t : Trial) : Dev :=
  let put := fun (e : Dev) (c : Nat × Nat) =>
    let old := tabGet 2 t.previous c.1
    let e1 := if old < 2 then e.setBank c.1 old { (e.fwBank c.1 old) with state := 1 } else e
    let e2 := e1.setBank c.1 c.2 { (e1.fwBank c.1 c.2) with state := 2 }
    e2.setMono (3 + c.1) (e2.fwBank c.1 c.2).epoch
  let d1 := t.current.foldl put d
  let stale := [1, 2, 3, 4, 5].flatMap (fun c => ([0, 1].filter (fun b =>
    (d1.fwBank c b).state == 1 && decide ((d1.fwBank c b).epoch < d1.mono (3 + c)))).map (fun b => (c, b)))
  stale.foldl (fun e x => e.invalidate x.1 x.2) d1

/-- FAULT's DETAIL for the latest fault: its CODE and CLASS (R367). -/
def Dev.lastFault (d : Dev) : Nat := match d.safety.log.getLast? with
  | some r => faultDetail r.code r.cls
  | none => d.safety.lastCode

/-- FW_CONFIRM (R393). -/
def fwConfirm (rq : Req) (d : Dev) : Dev :=
  d.serve 0x0E05 rq (rspMax 0) (fun d _ bs => withLayout d 4 [fa 0 4] bs
    (match d.update.trial with
     | none => ansErr d stNotFound
     | some t =>
       if le bs 0 4 ≠ t.manifestId then ansErr d stBadParam
       else if d.host.stage ≠ .run ∨ d.boot.cfgRefused = true ∨ t.failed.isSome = true ∨ d.safety.faultSeq ≠ t.faultMark then
         ansErrD d stFault d.lastFault
       else
         let d1 := d.confirmBanks t
         let d2 := { d1 with update := { d1.update with trial := none } }
         ansOk ((d2.count 14 1).post 0x0E03 t.manifestId t.mask) []))

/-- FW_CONFIRM. -/
def execFwConfirm (rq : Req) (s : State) : Out := onDev (fwConfirm rq) s

/-- Every component of the trial returns to the bank it ran before; the trial banks become INVALID. -/
def Dev.revertBanks (d : Dev) (t : Trial) : Dev :=
  t.current.reverse.foldl (fun e c =>
    let old := tabGet 2 t.previous c.1
    let e1 := e.invalidate c.1 c.2
    if old < 2 then e1.setBank c.1 old { (e1.fwBank c.1 old) with state := 2 } else e1) d

/-- A fallback carried out as a HOT activation in reverse order: CFG, LEG and SVC return, of the components `switched`. The previous CFG
image was admitted when it was put in force, so it is not evaluated again; its generation's flip waits as that of a COMMIT, and LEG
follows it. -/
def Dev.fallbackHot (d : Dev) (t : Trial) (switched cause : Nat) : Dev :=
  let d1 := { (d.revertBanks t) with update := { (d.revertBanks t).update with trial := none } }
  let old := match (if bit switched 4 then d1.bankInForce 5 else none) with
    | some b => (match d1.cfgCommands (d1.image 5 b) with
      | .inr l => some l
      | .inl _ => none)
    | none => none
  match old with
  | some l => (d1.cfgBegin 255 (.back switched t.manifestId cause) l).finishCommit
  | none => d1.fallbackEnds switched t.manifestId cause

/-- The trial's fallback is carried out as a HOT activation (R395). -/
def Trial.backHot (t : Trial) : Bool := t.hot && !bit t.mask 2 && !bit t.mask 3

/-- The trial is marked as failed. -/
def Dev.markFailed (d : Dev) (cause : Nat) : Dev :=
  { d with update := { d.update with trial := d.update.trial.map (fun (t : Trial) => { t with failed := some (t.failed.getD cause) }) } }

/-- The trial has failed: a HOT trial without SDS and PHY falls back at once, but for one with CFG while a COMMIT is being applied, which
waits for it (log 91); any other falls back at a system reset (R395). -/
def Dev.failTrial (d : Dev) (t : Trial) (cause : Nat) : Dev :=
  if t.backHot && !(bit t.mask 4 && d.txn.committing.isSome) then d.fallbackHot t t.mask cause else d.markFailed cause

/-- After a step that failed: the fallback, HOT with FW_ACTIVATE answered FAULT (log 91), or at the reset the device performs itself. -/
def Dev.hotFailed (d : Dev) (ch : Nat) (failsAt : Option Nat) : Dev :=
  match d.update.trial with
  | none => d
  | some t =>
    if t.backHot then (d.fallbackHot t (compMask (hotSteps t.current failsAt)) 5).free.2.complete ch stFault (d.free.1 % 2 ^ 18) []
    else d.resetNow 1

/-- FW_ACTIVATE. -/
def fwActivate (rq : Req) (failsAt : Option Nat) (d : Dev) : Dev :=
  let e := (serveActivate rq failsAt d).finishCommit
  if d.update.trial.isNone && e.update.trial.any (fun t => t.failed == some 5) then e.hotFailed rq.ch failsAt else e

/-- FW_ACTIVATE. -/
def execFwActivate (rq : Req) (s : State) (failsAt : Option Nat := none) : Out := onDev (fwActivate rq failsAt) s

/-- FW_FALLBACK: the reset, where one is needed, follows the response. -/
def fwFallback (rq : Req) (d : Dev) : Dev :=
  d.serve 0x0E06 rq (rspMax 0) (fun d _ bs => withLayout d 4 [fr 0 4 0x6669726D 0x6669726D] bs
    (match d.update.trial with
     | none => ansErr d stWrongMode
     | some t =>
       let d1 := d.failTrial t 4
       ansOk (if d1.update.trial.isSome && !t.backHot then { d1.activationDue with update := { d1.update with trialFlag := false } } else d1) []))

/-- FW_FALLBACK. -/
def execFwFallback (rq : Req) (s : State) : Out := onDev (fwFallback rq) s

/-- An FW_CONFIRM that arrived in time waits to be served (R394). -/
def Dev.confirmTaken (d : Dev) : Bool :=
  d.chans.any (fun c => (c.2.taken ++ c.2.running.toList).any (fun t => t.opcode == 0x0E05))

/-- A trial fails with a cause whose reset the device performs itself. -/
def Dev.trialOver (d : Dev) (t : Trial) (cause : Nat) : Dev :=
  let d1 := d.failTrial t cause
  if d1.update.trial.isSome && !t.backHot then d1.resetNow 1 else d1

/-- TRIAL_TIMER_EXPIRY (R394, cause 1); a HOT fallback that waited for a COMMIT is carried out here too. -/
def trialTimer (d : Dev) : Dev := match d.update.trial with
  | none => d
  | some t =>
    match t.failed with
    | some cause => if t.backHot && d.txn.committing.isNone then d.fallbackHot t t.mask cause else d
    | none => if d.overO t.deadline && !d.confirmTaken then d.trialOver t 1 else d

/-- TRIAL_TIMER_EXPIRY. -/
def execTrialTimerExpiry (s : State) : Out := onDev trialTimer s

/-- RUN_NOT_REACHED_TIMEOUT (R394 cause 3, R414): 10 s from a RESET activation's reset, or in ADMITTING. -/
def runNotReached (d : Dev) : Dev := match d.update.trial with
  | none => d
  | some t =>
    let late := d.overO (d.update.trialReset.map (fun x => x + sec 10)) || d.overO (d.boot.admittingAt.map (fun x => x + sec 10))
    if late && !t.hot && t.failed.isNone && decide (d.host.stage ≠ .run) then d.trialOver t 3 else d

/-- RUN_NOT_REACHED_TIMEOUT. -/
def execRunNotReachedTimeout (s : State) : Out := onDev runNotReached s

/-- FW_STATUS's 32 bytes. A trial whose timer has not started has all of CONFIRM_S left. -/
def Dev.fwStatusBytes (d : Dev) : Bytes :=
  let u := d.update.session
  let t := d.update.trial
  let left := match t with
    | none => 0
    | some t => match t.deadline with
      | none => t.confirmS
      | some e => (e - d.uptime) / 1000000000
  let id := match u, t with
    | some u, _ => manId u.manifest
    | none, some t => t.manifestId
    | none, none => 0
  leb 1 (match u with | none => 0 | some u => if u.verified then 2 else 1) ++ leb 1 ((u.map (fun u => u.owner)).getD 0) ++ leb 1 (b2n t.isSome) ++
    leb 1 ((t.map (fun t => t.mask)).getD 0) ++ leb 4 id ++ leb 4 left ++
    [1, 2, 3, 4, 5].flatMap (fun c => leb 4 ((u.map (fun u => u.writtenOf c)).getD 0))

/-- FW_STATUS. -/
def fwStatus (rq : Req) (d : Dev) : Dev :=
  d.serve 0x0E08 rq (rspMax 32) (fun d _ bs => withLayout d 0 [] bs (ansOk d d.fwStatusBytes))

/-- FW_STATUS. -/
def execFwStatus (rq : Req) (s : State) : Out := onDev (fwStatus rq) s

/-! ## Kiln (R397 to R400) -/

/-- A verified manifest as a RESET activation; counter 3 rises by one when it puts an image in force (R399). -/
def Dev.kilnActivate (d : Dev) : Dev := match d.update.session with
  | none => d
  | some u =>
    if !u.verified then d
    else
      let d1 := (d.beginTrial (manId u.manifest) (manConfirm u.manifest) u.targets false).setMono 3 (d.mono 3 + 1)
      ({ d1 with update := { d1.update with trialFlag := true, session := none } }).mramWrote 1

/-- KILN_BOOT. -/
def kilnBoot (rq : Req) (d : Dev) : Dev :=
  d.serve 0x0E09 rq (rspMax 0) (fun d _ bs => withLayout d 8 [fr 0 4 0x6669726D 0x6669726D] bs (ansOk d.kilnActivate.activationDue []))

/-- KILN_BOOT. -/
def execKilnBoot (rq : Req) (s : State) : Out := onDev (kilnBoot rq) s

/-- A source of ACTION LOCK or HOLD is enabled and active. -/
def Dev.tamperActive (d : Dev) : Bool :=
  (List.range 8).any (fun i =>
    let e := tamperEntry d.lantern.tamper.cfg i
    bit d.lantern.tamper.active i && byteAt e 0 == 1 && decide (1 ≤ byteAt e 1))

/-- KILN_UNLOCK's checks and effect (R333, R318): the latch is cleared and the boot goes on at image selection. -/
def unlockBody (d : Dev) (m : Bytes) : Ans :=
  let st := d.msgStatus [5] m
  let d1 := if st == stBadLength then d else d.msgWork m
  if st ≠ stOk then ansErr d1.msgRefused st
  else if le (msgBody m) 0 4 ≠ d.lantern.tamper.seq then ansErr d1.msgRefused stBadParam
  else if d.tamperActive then ansErr d1.msgRefused stTampered
  else
    let d2 := d1.msgApplied m 0xFF
    let d3 := { d2 with lantern := { d2.lantern with power := .run, tamper := { d2.lantern.tamper with latched := 0 } } }
    ansOk (d3.setStage .rom) []

/-- KILN_UNLOCK. -/
def kilnUnlock (rq : Req) (d : Dev) : Dev := d.serve 0x0E0A rq (rspMax 0) (fun d _ bs => unlockBody d bs)

/-- KILN_UNLOCK. -/
def execKilnUnlock (rq : Req) (s : State) : Out := onDev (kilnUnlock rq) s

/-- KILN_IDLE_TIMEOUT (R398). -/
def kilnIdle (d : Dev) : Dev := if d.overO d.update.kilnDeadline && (d.chan 0).taken.isEmpty then d.resetNow 1 else d

/-- KILN_IDLE_TIMEOUT. -/
def execKilnIdleTimeout (s : State) : Out := onDev kilnIdle s

/-- KILN_FRAME_RECEIVED (R400): a Kiln frame on P10 whose request is taken for MB0; one that finds a request in service, or breaks
the layout, is dropped. -/
def kilnFrame (f : Bytes) (d : Dev) : Dev :=
  let len := le f 20 2
  let listens := decide (d.host.stage = .kiln) || decide (d.host.stage = .tamperHold)
  let fits := be f 0 6 == Config.baseMac && be f 12 2 == 0x88B5 && byteAt f 14 == 5 && byteAt f 15 == 1 && byteAt f 16 == 0 && byteAt f 17 == 0 &&
    decide (34 + len ≤ f.length) && decide (f.length ≤ 1518)
  if !listens || !fits || d.update.kilnPeer.isSome then d
  else
    let r := messageReq 0 (slice f 18 (16 + len))
    let d1 := { d with update := { d.update with kilnPeer := some (be f 6 6) } }
    (d1.take { opcode := r.opcode, rq := r.rq, origin := some { port := 10, vlan := 0, sa := be f 6 6 } }).drainAll 0

/-- KILN_FRAME_RECEIVED. -/
def execKilnFrameReceived (bytes : List Byte) (s : State) : Out := onDev (kilnFrame bytes) s

end Sys2Proof.Machine
end

