-- ==== Sys2Proof/Machine/Jtag.lean ====
section
/-! DEFINITION. The JTAG port (R426): its instruction register, IDCODE, the boundary-scan register and the limit in SEALED and RETIRED. No row
of the opcode table clocks the port; what it does in each of its steps is stated here (log 93). -/

namespace Sys2Proof.Machine

open Sys2Proof

/-- The instructions of the port. -/
inductive JtagInstr where
  | extest
  | idcode
  | samplePreload
  | highz
  | clamp
  | bypass
  deriving DecidableEq, Repr

/-- The instruction of a 5-bit code; a code without an instruction acts as BYPASS (R426; IEEE 1149.1, log 93). -/
def jtagDecode : Nat → JtagInstr
  | 0x00 => .extest
  | 0x01 => .idcode
  | 0x02 => .samplePreload
  | 0x03 => .highz
  | 0x04 => .clamp
  | _ => .bypass

/-- IDCODE: the stepping digit, 0x9663, the manufacturer field 0x2A5, and 1. -/
def idCodeOf (stepping : Nat) : Nat := stepping * 2 ^ 28 + 0x9663 * 2 ^ 12 + 0x2A5 * 2 + 1

/-- The instruction in force: in SEALED and RETIRED every code but IDCODE's acts as BYPASS. -/
def Dev.jtagInstr (d : Dev) : JtagInstr :=
  let i := jtagDecode d.jtag.ir
  if 3 ≤ d.keep.lifecycle && decide (i ≠ .idcode) then .bypass else i

/-- The signals the boundary-scan register covers, with their widths: every A33, B and OD signal (R426). Their order is the model's
(log 93). -/
def scanSignals : List (String × Nat) :=
  [("CAN_TX", 32), ("CAN_RX", 32), ("SL_TX", 8), ("SL_RX", 8), ("SL_DE", 8), ("CAN_STB", 8), ("HSPI_CLK", 1), ("HSPI_CS_N", 1),
   ("HSPI_IO", 4), ("HSPI_IRQ_N", 1), ("QSPI_CLK", 1), ("QSPI_CS_N", 1), ("QSPI_IO", 4), ("MDC", 1), ("MDIO", 1), ("I2C_SCL", 1),
   ("I2C_SDA", 1), ("TIME_IO", 16), ("WAKE", 8), ("TAMPER", 4)] ++
  [("ACT_OUT_N", 1), ("ACT_IN_N", 1), ("FAULT_N", 1), ("SAFE_N", 1), ("HOST_IF", 1), ("TWIN_ROLE", 1), ("BOOT_SRC", 2), ("PORST_N", 1),
   ("SYSRST_N", 1), ("VID", 4), ("TCK", 1), ("TMS", 1), ("TDI", 1), ("TDO", 1), ("TRST_N", 1), ("TEST_EN", 1)]

/-- Cells of the boundary-scan register, one a signal. -/
def scanBits : Nat := (scanSignals.map (fun x => x.2)).sum

/-- Exactly `n` cells of a list of levels, false where it has none. -/
def cells (n : Nat) (l : List Bool) : List Bool := (List.range n).map (fun i => l.getD i false)

/-- Update-IR. -/
def Dev.jtagLoad (d : Dev) (code : Nat) : Dev := { d with jtag := { d.jtag with ir := code % 32 } }

/-- Capture-DR: the register the instruction selects, with the levels of the pins in the boundary-scan register; its first element leaves
at TDO first. -/
def Dev.jtagCapture (d : Dev) (pins : List Bool) : List Bool :=
  match d.jtagInstr with
  | .idcode => (List.range 32).map (fun i => bit (idCodeOf 1) i)
  | .extest | .samplePreload => cells scanBits pins
  | .highz | .clamp | .bypass => [false]

/-- Shift-DR by one bit: TDO's level, and the register. -/
def jtagShift (reg : List Bool) (tdi : Bool) : Bool × List Bool := (reg.headD false, reg.drop 1 ++ [tdi])

/-- Update-DR: EXTEST and SAMPLE/PRELOAD load the boundary-scan register's latches. -/
def Dev.jtagUpdate (d : Dev) (reg : List Bool) : Dev :=
  match d.jtagInstr with
  | .extest | .samplePreload => { d with jtag := { d.jtag with latches := cells scanBits reg } }
  | _ => d

/-- What the port makes of the scanned outputs: EXTEST and CLAMP drive the latches' levels, HIGHZ turns the outputs off (the inner none);
the others leave them to the device. -/
def Dev.jtagDrives (d : Dev) : Option (Option (List Bool)) :=
  match d.jtagInstr with
  | .extest | .clamp => some (some d.jtag.latches)
  | .highz => some none
  | _ => none

end Sys2Proof.Machine
end

