-- ==== Sys2Proof/Machine/Startup.lean ====
section
/-! DEFINITION. Resets, the boot ROM and the warm path (chapter 16), memory errors (R16), and the TIME tick. -/

namespace Sys2Proof.Machine

open Sys2Proof

/-! ## Resets (R404 to R406) -/

/-- The pads of bank B for a level of VDDIO_B in mV: 3.3 V or 1.8 V by R422's two windows; outside both, where no board may keep it, free. -/
def padsFor (mv : Nat) (d : Dev) : Bool :=
  if 1710 ≤ mv ∧ mv ≤ 1890 then false else if 3135 ≤ mv ∧ mv ≤ 3465 then true else decide (d.free.1 % 2 = 1)

/-- POWER_ON_RESET: a low pulse on PORST_N of at least 100 ns, with the straps and VDDIO_B's level at its end. -/
def powerOn (pulseNs : Nat) (p : PowerPins) (d : Dev) : Dev :=
  if pulseNs < 100 then d
  else
    let c := d.clearVolatile
    let kept := p.aonKept && d.boot.aon
    let l := if kept then c.lantern else lantern0
    let d1 := { c with
      host := { hostIf0 with spi := p.spi }
      time := timeUnit0 l.rtcS
      lantern := l
      safety := { safety0 with selfTestAt := d.uptime, digestAt := d.uptime }
      twin := { twin0 with strap := p.twinRole, actInHigh := d.twin.actInHigh, actInHighSince := d.twin.actInHighSince }
      boot := { boot0 with pads33 := padsFor p.vddioB d }
      jtag := jtag0
      freeIx := c.freeIx + 1 }
    if d.twin.act then d1.post 0x0D03 (roleCode .disabled) (roleCode d.twin.role + 5 * 2 ^ 8) else d1

/-- POWER_ON_RESET. -/
def execPowerOnReset (pulseNs : Nat) (p : PowerPins) (s : State) : Out := onDev (powerOn pulseNs p) s

/-- The VDD_CORE level in mV that VID[3:0] requests (R403). -/
def Dev.coreMv (d : Dev) : Nat := 720 + 20 * d.boot.vid

/-- A reset of the running device has an effect: power is on, and the boot has not stopped for good (R408). -/
def Dev.resettable (d : Dev) : Bool := decide (d.lantern.power ≠ .off) && !d.boot.stopped

/-- SYSTEM_RESET_INPUT: a low pulse on SYSRST_N of at least 100 ns. -/
def resetInput (pulseNs : Nat) (d : Dev) : Dev := if pulseNs < 100 ∨ d.resettable = false then d else d.resetNow 1

/-- SYSTEM_RESET_INPUT. -/
def execSystemResetInput (pulseNs : Nat) (s : State) : Out := onDev (resetInput pulseNs) s

/-- SYS_RESET_START: the reset SYS_RESET scheduled, at least 100 us after its response. -/
def sysResetStart (d : Dev) : Dev :=
  match d.boot.resetDue with
  | some r => if r.2.2 == 0 && decide (r.1 ≤ d.uptime) && d.resettable then d.resetNow r.2.1 else d
  | none => d

/-- SYS_RESET_START. -/
def execSysResetStart (s : State) : Out := onDev sysResetStart s

/-- VDD_AON_REMOVAL (R402): OFF, with the RTC, the always-on log and the tamper unit lost. -/
def aonRemoval (d : Dev) : Dev :=
  let c := d.clearVolatile
  { c with
    host := { hostIf0 with spi := d.host.spi }
    time := timeUnit0 0
    lantern := { lantern0 with power := .off }
    safety := safety0
    boot := { boot0 with aon := false, resetKind := none, pads33 := d.boot.pads33 } }

/-- VDD_AON_REMOVAL. -/
def execVddAonRemoval (s : State) : Out := onDev aonRemoval s

/-! ## Memory errors (R16) -/

/-- A 64-bit word of the MRAM that holds key or legal data (01, MRAM layout; R17): the LEG banks, the record ring, the key blobs, the
monotonic counters, the lifecycle records, the legal parameters and the legal event log. -/
def mramSecret (word : Nat) : Bool :=
  let a := word * 8
  decide (0x300000 ≤ a ∧ a < 0x400000) || decide (0xCC0000 ≤ a ∧ a < 0xED0000)

/-- The class of an uncorrectable error is F2: gate lists, TCM, ROM, or the MRAM's key and legal data; the memories before them hold
forwarding and engine state (R16). -/
def memoryF2 (e : MemError) : Bool := e.memory == 7 || e.memory == 8 || e.memory == 9 || (e.memory == 10 && mramSecret e.word)

/-- MEMORY_ERROR_DETECTED: a corrected one is written back and counted as F0; others are F1 or F2 by the memory. -/
def memoryError (e : MemError) (d : Dev) : Dev :=
  if 11 ≤ e.memory ∨ d.lantern.power = .dormant ∨ d.resettable = false then d
  else if e.corrected then d.faultF0 0x0501 e.memory
  else d.fault (memoryF2 e) 0x0502 e.memory e.word

/-- MEMORY_ERROR_DETECTED. -/
def execMemoryErrorDetected (e : MemError) (s : State) : Out := onDev (memoryError e) s

/-! ## The ROM: steps 1 to 3 (R407 to R409) -/

/-- Steps 1 and 2: BOOT_SRC is sampled; a failed self-check stops the boot; VID is trimmed. -/
def Dev.selfCheck (d : Dev) (b : BootInfo) : Dev :=
  let d1 := { d with boot := { d.boot with bootSrc := b.bootSrc % 4 } }
  if !b.romDigestOk || !b.comparatorOk then { d1 with boot := { d1.boot with stopped := true, resetKind := none } }
  else
    let d2 := { d1 with
      boot := { d1.boot with vid := min 8 b.vidTrim }
      safety := { d1.safety with selfTestAt := d.uptime } }
    (d2.count 13 3).setStage .rom

/-- The lifecycle record in force is the one last written (R312): its keys, the roots it destroys (R311), and what Cask has to
log. -/
def Dev.takeLifecycle (d : Dev) : Dev :=
  let k := d.keep
  let new := k.lifecycleNext
  if new = k.lifecycle then d
  else
    let d1 := { d with
      keep := { k with
        lifecycle := new
        ownerAuth := if new == 2 then k.authNext else if new == 4 then [] else k.ownerAuth
        legalAuth := if new == 3 then k.authNext else if new == 4 then [] else k.legalAuth
        authNext := [] }
      cask := { d.cask with lifecycleLog := some (k.lifecycle, new) } }
    if new == 2 then d1.destroyRoots [1] else if new == 4 then d1.destroyRoots [2, 3] else d1

/-- Kiln: MB0 and P10 serve, SYS_READY is posted; entered by SYS_RESET with KIND 2 it ends after 600 s without a request (R398). -/
def Dev.enterKiln (d : Dev) (timed : Bool) : Dev :=
  let d1 := { d with
    host := { d.host with stage := .kiln, pcieReady := !d.host.spi }
    boot := { d.boot with resetKind := none }
    update := { d.update with kilnDeadline := if timed then some (d.uptime + sec 600) else none } }
  d1.post 0x0101 (stageCode .kiln) 0

/-- TAMPER_HOLD: until an unlock the boot waits before image selection (R333, R409). -/
def Dev.enterTamperHold (d : Dev) : Dev :=
  let d1 := { d with
    host := { d.host with stage := .tamperHold, pcieReady := !d.host.spi }
    lantern := { d.lantern with power := .tamperHold } }
  d1.post 0x0101 (stageCode .tamperHold) 0

/-! ## Step 4: image selection (R410 to R413, R419) -/

/-- A bank passes its authentication: the signer R383 permitted when it was verified, whose key still exists; the image's digest;
the EPOCH. A factory bank is Lyswin's. -/
def Dev.bankUsable (d : Dev) (b : BootInfo) (comp bank : Nat) : Bool :=
  let k := d.fwBank comp bank
  let signer := byteAt k.manifest 1
  let signed := k.manifest.isEmpty ||
    (signerFor k.lifecycle comp == some signer && !(d.manifestKey signer).isEmpty && (signer == 1 || d.keep.lifecycle != 4))
  signed && !b.badBanks.contains (comp * 2 + bank) && decide (d.mono (3 + comp) ≤ k.epoch)

/-- LEG has been put in force: its first start logs it (R392). -/
def Dev.legChanged (d : Dev) : Dev :=
  if (d.bankInForce 2).isSome then { d with cask := { d.cask with legNew := some (d.versionOf 2) } } else d

/-- A fallback at a reset (R395): the event is delivered with the first ones after it. -/
def Dev.fallbackAtReset (d : Dev) (t : Trial) (cause : Nat) : Dev :=
  let d1 := d.revertBanks t
  let d2 := { d1 with update := { d1.update with trial := none, trialReset := none } }
  let d3 := if bit t.mask 1 then d2.legChanged else d2
  (d3.count 14 2).post 0x0E04 t.manifestId cause

/-- The trial at a boot (R410, R411): with the one-shot flag its banks go on trial if each passes; any other reset is a fallback. -/
def Dev.resolveTrial (d : Dev) (b : BootInfo) : Dev :=
  match d.update.trial with
  | none => d
  | some t =>
    let flag := d.update.trialFlag
    let d0 := if flag then { d with update := { d.update with trialFlag := false } }.mramWrote 1 else d
    if !flag || t.failed.isSome then d0.fallbackAtReset t (t.failed.getD 6)
    else if t.current.all (fun c => d0.bankUsable b c.1 c.2) then
      let d1 := t.current.foldl (fun e c => e.tryBank c.1 c.2) d0
      if bit t.mask 1 then d1.legChanged else d1
    else d0.fallbackAtReset t 3

/-- One component's selection: a bank that fails becomes INVALID, and the other bank, VALID or ACTIVE, takes its place when it
passes. -/
def Dev.selectBank (d : Dev) (b : BootInfo) (comp : Nat) : Dev :=
  match d.bankInForce comp with
  | none => d
  | some i =>
    if d.bankUsable b comp i then d
    else
      let d1 := d.invalidate comp i
      let o := 1 - i
      let k := d1.fwBank comp o
      if k.state == 1 || k.state == 2 then
        (if d1.bankUsable b comp o then
          let d2 := d1.setBank comp o { k with state := 2 }
          if comp == 2 then d2.legChanged else d2
         else d1.invalidate comp o)
      else d1

/-- Where an item of the external store ends, the next begins at the next 4 KiB boundary. -/
def nextPageStart (v : Nat) : Nat := (v + 4095) / 4096 * 4096

/-- The images of the external store with their components, from an offset on. -/
def storeImages (flash : Bytes) : Nat → List Bytes → List (Nat × Bytes)
  | _, [] => []
  | off, e :: t => (entComp e, slice flash off (entLength e)) :: storeImages flash (nextPageStart (off + entLength e)) t

/-- The external store's contents installed as Kiln would install them (R419): whether nothing refuses them, and what is left: a refused
manifest changes nothing, a wrong digest leaves its bank INVALID. -/
def Dev.installStore (d : Dev) (flash : Bytes) : Bool × Dev :=
  let len := le flash 4 4
  let man := slice flash 16 len
  if le flash 0 4 ≠ 0x534B5631 ∨ len < 216 ∨ 504 < len ∨ le flash 8 8 ≠ 0 then (false, d)
  else match fwBeginBody d 0 man with
  | .wait _ => (false, d)
  | .done st _ _ d1 =>
    let put := fun (e : Dev) (x : Nat × Bytes) => match e.update.session with
      | some u => e.writeImage u x.1 0 x.2
      | none => e
    let d2 := (storeImages flash (nextPageStart (16 + len)) (manEntries man)).foldl put d1
    if st ≠ stOk then (false, d1)
    else match d2.update.session with
      | none => (false, d2)
      | some u => match d2.verifyAll u with
        | .done st _ _ d3 => (st == stOk, d3)
        | .wait _ => (false, d2)

/-- No usable SVC bank: Kiln, or with BOOT_SRC 1 the external store, booted as KILN_BOOT does. -/
def Dev.noService (d : Dev) (b : BootInfo) : Dev :=
  if d.boot.bootSrc ≠ 1 then d.enterKiln false
  else match d.installStore b.flash with
    | (false, e) => e.enterKiln false
    | (true, e) =>
      let f := e.kilnActivate.resetNow 1
      { f with update := { f.update with trialReset := some d.uptime } }

/-! ## Step 5: roots and blobs (R311, R316) -/

/-- A slot without a usable blob is EMPTY; its GEN, which its blob held, is free. -/
def Dev.blobInvalid (d : Dev) (i : Nat) : Dev :=
  if (d.keySlot i).state == 0 then d
  else
    let d1 := (d.putKeySlot i { keySlot0 with gen := d.free.1 % 65536 }).free.2
    (((d1.slotsChanged [i]).count 11 15).post 0x0B02 i (1 + 4 * 2 ^ 16))

/-- The records of a slot that the boot finds usable: 2 x slot and 2 x slot + 1 number them. -/
def Blobs.without (x : Blobs) (bad : List Nat) (i : Nat) : Blobs :=
  { x with a := if bad.contains (2 * i) then none else x.a, b := if bad.contains (2 * i + 1) then none else x.b }

/-- A slot with an unusable record takes the other one, or is EMPTY. -/
def Dev.loadSlot (bad : List Nat) (d : Dev) (i : Nat) : Dev :=
  let x := (d.slotBlobs i).without bad i
  let d1 := d.putBlobs i x
  match x.newest with
  | some k => d1.putSlotRaw i (resetSlot k)
  | none => d1.blobInvalid i

/-- The roots of the lifecycle state are unlocked and the blobs loaded. -/
def Dev.loadKeys (d : Dev) (b : BootInfo) : Dev :=
  ((b.badBlobs.filter (fun r => decide (r < 512))).map (fun r => r / 2)).dedup.foldl (Dev.loadSlot b.badBlobs)
    { d with keep := { d.keep with rootsUnlocked := true } }

/-- Steps 4 and 5, with the PCIe endpoint ready and the subsystem IDs of the CFG bank (R413). -/
def Dev.selectImages (d : Dev) (b : BootInfo) : Dev :=
  let d1 := [1, 2, 3, 4, 5].foldl (fun e c => e.selectBank b c) (d.resolveTrial b)
  if (d1.bankInForce 1).isNone then d1.noService b
  else
    let img := match d1.bankInForce 5 with
      | some i => d1.image 5 i
      | none => []
    let d2 := { d1 with host := { d1.host with
      pcieReady := !d1.host.spi, subsysVendor := le img 2 2, subsysId := le img 4 2, stage := .loading } }
    ({ d2 with boot := { d2.boot with resetKind := none } }).loadKeys b

/-- Steps 3 to 5 of the cold boot. -/
def Dev.romSteps (d : Dev) (b : BootInfo) : Dev :=
  if !b.lifecycleReadable then d.faultF2 0x0502 10 b.lifecycleWord
  else
    let d1 := d.takeLifecycle
    if d1.lantern.tamper.latched != 0 || d1.tamperActive then d1.enterTamperHold
    else if d1.keep.lifecycle == 0 || decide (2 ≤ d1.boot.bootSrc) then d1.enterKiln false
    else if d1.boot.resetKind = some 2 then d1.enterKiln true
    else d1.selectImages b

/-! ## Steps 6 to 10 (R412, R414) -/

/-- Steps 6 and 7: what runs is what has a usable bank; LEG recovers its sessions (R307). -/
def Dev.startFirmware (d : Dev) : Dev :=
  let leg := (d.bankInForce 2).isSome
  { d with
    boot := { d.boot with
      legRuns := leg, phyLoaded := (d.bankInForce 3).isSome, sdsLoaded := (d.bankInForce 4).isSome, admittingAt := some d.uptime }
    cask := { d.cask with recover := leg } }

/-- The SGE commands of the legal parameters in force, which no CFG image replaces in SEALED (R259, R308). -/
def Dev.applyLegalSge (d : Dev) : Dev :=
  let l := d.cask.sge.map (fun (x : Nat × Bytes) => ({ opcode := x.1, data := x.2 } : Staged))
  startSrcTimers l (applyAtOnce (batchOf l) d)

/-- The CFG image in force, evaluated; without one an empty configuration (R412). -/
def Dev.cfgInForce (d : Dev) : (CfgError ⊕ List Staged) × Dev :=
  match d.bankInForce 5 with
  | none => (.inr [], d)
  | some i => d.cfgEvaluate (d.image 5 i)

/-- Steps 8 to 10: the image applied, and stage RUN; or its refusal (R414). -/
def Dev.admitCfg (d : Dev) : Dev :=
  let r := d.applyLegalSge.cfgInForce
  match r.1 with
  | .inr l => r.2.cfgApply l
  | .inl e =>
    let d1 := { r.2 with boot := { r.2.boot with cfgRefused := true } }
    (d1.post 0x0105 e.object (e.status % 2 ^ 16)).post 0x0101 (stageCode .admitting) 0

/-- BOOT_SEQUENCE: the next part of the cold boot: self-check; lifecycle, selection and keys; loading; admission. -/
def bootSequence (b : BootInfo) (d : Dev) : Dev :=
  if !d.resettable || decide (d.lantern.power = .dormant) then d
  else match d.host.stage with
    | .reset => if d.boot.resetKind.isSome then d.selfCheck b else d
    | .rom => if d.boot.resetKind.isSome then d.romSteps b else d
    | .loading => d.startFirmware.setStage .admitting
    | .admitting => if d.boot.cfgRefused then d else d.admitCfg
    | _ => d

/-- BOOT_SEQUENCE. -/
def execBootSequence (b : BootInfo) (s : State) : Out := onDev (bootSequence b) s

/-! ## The warm path (R339, R352, R418) -/

/-- RTC_SUB in ns, rounded half away from zero (R339). -/
def rtcSubNs (sub : Nat) : Nat := (roundDiv ((sub * 30517578125 : Nat) : Int) 1000000).toNat

/-- The device leaves DORMANT: the local clock restarts from the RTC, the fault log is clear (R339, R406). -/
def Dev.leaveDormant (d : Dev) (b : BootInfo) : Dev :=
  let t := timeUnit0 d.lantern.rtcS
  let clock := { t.clock with ns := rtcSubNs d.lantern.rtcSub }
  { d with
    time := { t with clock := clock }
    safety := { safety0 with selfTestAt := d.uptime, digestAt := d.uptime }
    lantern := { d.lantern with power := .run }
    boot := { d.boot with bootSrc := b.bootSrc % 4, vid := min 8 b.vidTrim } }

/-- What a short warm start requires (R418). -/
def Dev.warmFits (d : Dev) (b : BootInfo) : Bool :=
  b.bootSrc == 0 && b.comparatorOk && b.lifecycleReadable && d.lantern.tamper.latched == 0 && !d.tamperActive &&
    d.update.mramWrites == d.lantern.keptWrites && d.bankSelection == d.lantern.keptBanks

/-- The CFG image applied without evaluation; the generation Lantern kept stands again. -/
def Dev.applyKept (d : Dev) : Dev :=
  let l := match d.bankInForce 5 with
    | none => []
    | some i => match d.cfgCommands (d.image 5 i) with
      | .inr l => l
      | .inl _ => []
  let d1 := d.applyLegalSge.cfgApply l
  { d1 with txn := { d1.txn with generation := d.lantern.keptGeneration } }

/-- Every domain sleeps on, but those a latched wake names (R352). -/
def Dev.wakeLatched (d : Dev) : Dev :=
  let l := d.lantern
  let asleep := tabMap l.domains (fun _ m => { m with state := .asleep })
  let d1 := { d with lantern := { l with domains := asleep, latched := [], power := .dormant } }
  let src := (l.latched.head?.map (fun x => x.2.1)).getD 0
  let d2 := { d1 with lantern := { d1.lantern with power := awakePower d1.lantern } }
  let d3 := (d2.postDeferred).post 0x0C01 (powerCode d2.lantern.power) (powerCode .dormant + src * 2 ^ 8)
  l.latched.foldl (fun e x => e.serveLatched x) d3

/-- The short warm start. -/
def Dev.warmStart (d : Dev) (b : BootInfo) : Dev :=
  let d1 := d.leaveDormant b
  let d2 := { d1 with host := { d1.host with pcieReady := !d1.host.spi, stage := .admitting } }
  (d2.loadKeys b).startFirmware.applyKept.wakeLatched

/-- A start from DORMANT that fails the conditions runs the cold boot, from step 2. -/
def Dev.coldFromDormant (d : Dev) (b : BootInfo) : Dev :=
  let d1 := d.leaveDormant b
  let d2 := (d1.postDeferred).post 0x0C01 (powerCode .run) (powerCode .dormant + (d.lantern.latched.head?.map (fun x => x.2.1)).getD 0 * 2 ^ 8)
  { d2 with
    host := { d2.host with stage := .reset, pcieReady := false }
    lantern := { d2.lantern with domains := [] }
    boot := { d2.boot with resetKind := some 1 } }

/-- WARM_PATH_BOOT: a latched wake in DORMANT. -/
def warmPath (b : BootInfo) (d : Dev) : Dev :=
  if d.lantern.power ≠ .dormant ∨ d.lantern.latched = [] then d
  else if d.warmFits b then d.warmStart b
  else d.coldFromDormant b

/-- WARM_PATH_BOOT. -/
def execWarmPathBoot (b : BootInfo) (s : State) : Out := onDev (warmPath b) s

/-! ## The TIME tick (log 1) -/

/-- An AON oscillator cycle is 2^-15 s; the RTC carries into its seconds (R355). -/
def Lantern.rtcTick (l : Lantern) : Lantern :=
  let f := l.rtcFrac + 4 * 32768
  if f < 1000000000 then { l with rtcFrac := f }
  else if l.rtcSub + 1 < 32768 then { l with rtcFrac := f - 1000000000, rtcSub := l.rtcSub + 1 }
  else { l with rtcFrac := f - 1000000000, rtcSub := 0, rtcS := l.rtcS + 1 }

/-- One TIME tick of 4 ns: the local clock (not in DORMANT), the RTC (not in OFF), the credit shapers, readings whose meter's
channel runs again, and the end of a handover's wait. -/
def Dev.tick (d : Dev) : Dev :=
  let off := decide (d.lantern.power = .off)
  let runs := decide (d.lantern.power ≠ .dormant) && !off
  let d1 := { d with
    uptime := d.uptime + 4
    time := { d.time with clock := if runs then d.time.clock.tick else d.time.clock }
    lantern := if off then d.lantern else d.lantern.rtcTick }
  d1.shapersTick.startDueReads.handoverTimeout

end Sys2Proof.Machine
end

