-- ==== Sys2Proof/Machine/Dispatch.lean ====
section
/-! DEFINITION. exec: one arm for each command of the table, each a call of its meaning. -/

namespace Sys2Proof.Machine

open Sys2Proof

/-- The effect of a command on everything but the queue. -/
def exec (i : Instr) (s : State) : Host.Outcome State Fault Refusal :=
  match i with
  | .registerWrite a => Sys2Proof.Machine.execRegisterWrite a s
  | .mbxReqProdDoorbell ch prod reqs => Sys2Proof.Machine.execMbxReqProdDoorbell ch prod reqs s
  | .mbxRspConsWrite ch val => Sys2Proof.Machine.execMbxRspConsWrite ch val s
  | .mbxChanReset ch val => Sys2Proof.Machine.execMbxChanReset ch val s
  | .mbxChannelEnable ch val => Sys2Proof.Machine.execMbxChannelEnable ch val s
  | .hifIrqStatusClear val again => Sys2Proof.Machine.execHifIrqStatusClear val again s
  | .hifEvtConsWrite val => Sys2Proof.Machine.execHifEvtConsWrite val s
  | .evtRingEnable val => Sys2Proof.Machine.execEvtRingEnable val s
  | .evtOverflowClear val => Sys2Proof.Machine.execEvtOverflowClear val s
  | .eventHoldoffExpiry => Sys2Proof.Machine.execEventHoldoffExpiry s
  | .counterLowHalfRead requester off => Sys2Proof.Machine.execCounterLowHalfRead requester off s
  | .hopperApertureAccess a => Sys2Proof.Machine.execHopperApertureAccess a s
  | .functionLevelReset => Sys2Proof.Machine.execFunctionLevelReset s
  | .spiWriteRequest ch r => Sys2Proof.Machine.execSpiWriteRequest ch r s
  | .spiReadResponse ch => Sys2Proof.Machine.execSpiReadResponse ch s
  | .spiStatusRead => Sys2Proof.Machine.execSpiStatusRead s
  | .inBandRequestFrame f => Sys2Proof.Machine.execInBandRequestFrame f s
  | .mailboxResponsePosted ch => Sys2Proof.Machine.execMailboxResponsePosted ch s
  | .txnIdleTimeout => Sys2Proof.Machine.execTxnIdleTimeout s
  | .p90RingTailWrite tx ring tail ds => Sys2Proof.Machine.execP90RingTailWrite tx ring tail ds s
  | .p90RingEnable tx ring val => Sys2Proof.Machine.execP90RingEnable tx ring val s
  | .p90TxFrameFetch dma => Sys2Proof.Machine.execP90TxFrameFetch dma s
  | .p90RxDelivery => Sys2Proof.Machine.execP90RxDelivery s
  | .p90HoldoffExpiry tx ring => Sys2Proof.Machine.execP90HoldoffExpiry tx ring s
  | .sysIdentify rq => Sys2Proof.Machine.execSysIdentify rq s
  | .sysVersion rq => Sys2Proof.Machine.execSysVersion rq s
  | .sysReset rq => Sys2Proof.Machine.execSysReset rq s
  | .sysResetStart => Sys2Proof.Machine.execSysResetStart s
  | .sysClaimsList rq => Sys2Proof.Machine.execSysClaimsList rq s
  | .sysCounterSnapshot rq => Sys2Proof.Machine.execSysCounterSnapshot rq s
  | .sysCounterClear rq => Sys2Proof.Machine.execSysCounterClear rq s
  | .sysEventFetch rq => Sys2Proof.Machine.execSysEventFetch rq s
  | .sysChannelCfg rq => Sys2Proof.Machine.execSysChannelCfg rq s
  | .channelRebind ch => Sys2Proof.Machine.execChannelRebind ch s
  | .txnBegin rq => Sys2Proof.Machine.execTxnBegin rq s
  | .txnCommit rq => Sys2Proof.Machine.execTxnCommit rq s
  | .genFlip => Sys2Proof.Machine.execGenFlip s
  | .txnAbort rq => Sys2Proof.Machine.execTxnAbort rq s
  | .txnStatus rq => Sys2Proof.Machine.execTxnStatus rq s
  | .serviceArbiterRound raised => Sys2Proof.Machine.execServiceArbiterRound raised s
  | .fabricTransferCommit => Sys2Proof.Machine.execFabricTransferCommit s
  | .portCfg rq => Sys2Proof.Machine.execPortCfg rq s
  | .portFilterSet rq => Sys2Proof.Machine.execPortFilterSet rq s
  | .portPlcaCfg rq => Sys2Proof.Machine.execPortPlcaCfg rq s
  | .portStatus rq => Sys2Proof.Machine.execPortStatus rq s
  | .portMdio rq => Sys2Proof.Machine.execPortMdio rq s
  | .macFrameReceived f => Sys2Proof.Machine.execMacFrameReceived f s
  | .cutThroughOversize port sent bytes => Sys2Proof.Machine.execCutThroughOversize port sent s bytes
  | .linkDown port cause => Sys2Proof.Machine.execLinkDown port cause s
  | .linkUp port info => Sys2Proof.Machine.execLinkUp port info s
  | .flapHoldExpiry port => Sys2Proof.Machine.execFlapHoldExpiry port s
  | .plcaBeaconReceived port => Sys2Proof.Machine.execPlcaBeaconReceived port s
  | .plcaBeaconTimeout port => Sys2Proof.Machine.execPlcaBeaconTimeout port s
  | .plcaTransmitOpportunity port point => Sys2Proof.Machine.execPlcaTransmitOpportunity port s point
  | .utilisationIntervalEnd port => Sys2Proof.Machine.execUtilisationIntervalEnd port s
  | .stepUpQueueThreshold port => Sys2Proof.Machine.execStepUpQueueThreshold port s
  | .retrainFailTimeout port => Sys2Proof.Machine.execRetrainFailTimeout port s
  | .phyStatusPoll faults => Sys2Proof.Machine.execPhyStatusPoll faults s
  | .frameClassify src => Sys2Proof.Machine.execFrameClassify src s
  | .frameValidEnd id => Sys2Proof.Machine.execFrameValidEnd id s
  | .cutThroughStart port point => Sys2Proof.Machine.execCutThroughStart port s point
  | .matchingSlot => Sys2Proof.Machine.execMatchingSlot s
  | .recircReaderMove => Sys2Proof.Machine.execRecircReaderMove s
  | .captureRecordWrite => Sys2Proof.Machine.execCaptureRecordWrite s
  | .lacpduReceived port distributing => Sys2Proof.Machine.execLacpduReceived port distributing s
  | .fenceTimeout group bucket => Sys2Proof.Machine.execFenceTimeout group bucket s
  | .hopperAlloc owner size => Sys2Proof.Machine.execHopperAlloc owner size s
  | .hopperRefcountIncrement requester handle => Sys2Proof.Machine.execHopperRefcountIncrement requester handle s
  | .hopperRefcountDecrement requester handle => Sys2Proof.Machine.execHopperRefcountDecrement requester handle s
  | .engineRestartRelease owner => Sys2Proof.Machine.execEngineRestartRelease owner s
  | .fabBufferCfg rq => Sys2Proof.Machine.execFabBufferCfg rq s
  | .fabMirrorCfg rq => Sys2Proof.Machine.execFabMirrorCfg rq s
  | .fabCaptureCfg rq => Sys2Proof.Machine.execFabCaptureCfg rq s
  | .fabCaptureAck rq => Sys2Proof.Machine.execFabCaptureAck rq s
  | .fabLagCfg rq => Sys2Proof.Machine.execFabLagCfg rq s
  | .fabLagStatus rq => Sys2Proof.Machine.execFabLagStatus rq s
  | .fabHopperCfg rq => Sys2Proof.Machine.execFabHopperCfg rq s
  | .fabHopperStatus rq => Sys2Proof.Machine.execFabHopperStatus rq s
  | .fabHopperAlloc rq => Sys2Proof.Machine.execFabHopperAlloc rq s
  | .fabHopperFree rq => Sys2Proof.Machine.execFabHopperFree rq s
  | .fabQueueStatus rq => Sys2Proof.Machine.execFabQueueStatus rq s
  | .fdbAgeScan => Sys2Proof.Machine.execFdbAgeScan s
  | .ctAgeScan => Sys2Proof.Machine.execCtAgeScan s
  | .bindingCtPurge zone => Sys2Proof.Machine.execBindingCtPurge zone s
  | .ltrPortCfg rq => Sys2Proof.Machine.execLtrPortCfg rq s
  | .ltrVlanSet rq => Sys2Proof.Machine.execLtrVlanSet rq s
  | .ltrFdbStatic rq => Sys2Proof.Machine.execLtrFdbStatic rq s
  | .ltrFdbCfg rq => Sys2Proof.Machine.execLtrFdbCfg rq s
  | .ltrFdbFlush rq => Sys2Proof.Machine.execLtrFdbFlush rq s
  | .ltrFdbRead rq => Sys2Proof.Machine.execLtrFdbRead rq s
  | .ltrMcastGroup rq => Sys2Proof.Machine.execLtrMcastGroup rq s
  | .ltrAclWrite rq => Sys2Proof.Machine.execLtrAclWrite rq s
  | .ltrProfileSet rq => Sys2Proof.Machine.execLtrProfileSet rq s
  | .ltrPolicerSet rq => Sys2Proof.Machine.execLtrPolicerSet rq s
  | .ltrZoneMatrix rq => Sys2Proof.Machine.execLtrZoneMatrix rq s
  | .ltrCtCfg rq => Sys2Proof.Machine.execLtrCtCfg rq s
  | .ltrCtFlush rq => Sys2Proof.Machine.execLtrCtFlush rq s
  | .ltrCtRead rq => Sys2Proof.Machine.execLtrCtRead rq s
  | .ltrZoneBindStatus rq => Sys2Proof.Machine.execLtrZoneBindStatus rq s
  | .ltrGenStatus rq => Sys2Proof.Machine.execLtrGenStatus rq s
  | .frameTxStart port collision point => Sys2Proof.Machine.execFrameTxStart port collision s point
  | .txFrameComplete port => Sys2Proof.Machine.execTxFrameComplete port s
  | .gateEntryChange port => Sys2Proof.Machine.execGateEntryChange port s
  | .gateListSwitch port => Sys2Proof.Machine.execGateListSwitch port s
  | .preemptVerifyResponse port => Sys2Proof.Machine.execPreemptVerifyResponse port s
  | .preemptVerifyTimeout port => Sys2Proof.Machine.execPreemptVerifyTimeout port s
  | .belfryCmp port mask => Sys2Proof.Machine.execBelfryCmp port mask s
  | .queueObserveSample port => Sys2Proof.Machine.execQueueObserveSample port s
  | .frerResetTimeout entry => Sys2Proof.Machine.execFrerResetTimeout entry s
  | .frerLatentPeriodEnd entry => Sys2Proof.Machine.execFrerLatentPeriodEnd entry s
  | .strStreamSet rq => Sys2Proof.Machine.execStrStreamSet rq s
  | .strMeterSet rq => Sys2Proof.Machine.execStrMeterSet rq s
  | .strGateCfg rq => Sys2Proof.Machine.execStrGateCfg rq s
  | .strGateEntries rq => Sys2Proof.Machine.execStrGateEntries rq s
  | .strCbsSet rq => Sys2Proof.Machine.execStrCbsSet rq s
  | .strPreemptCfg rq => Sys2Proof.Machine.execStrPreemptCfg rq s
  | .strFrerSet rq => Sys2Proof.Machine.execStrFrerSet rq s
  | .strObserveCfg rq => Sys2Proof.Machine.execStrObserveCfg rq s
  | .strObserveRead rq => Sys2Proof.Machine.execStrObserveRead rq s
  | .strGateStatus rq => Sys2Proof.Machine.execStrGateStatus rq s
  | .strFilterReset rq => Sys2Proof.Machine.execStrFilterReset rq s
  | .strStreamStatus rq => Sys2Proof.Machine.execStrStreamStatus rq s
  | .admPathSet rq => Sys2Proof.Machine.execAdmPathSet rq s
  | .admBusDeclare rq => Sys2Proof.Machine.execAdmBusDeclare rq s
  | .admReportRead rq => Sys2Proof.Machine.execAdmReportRead rq s
  | .cupolaFrameDequeue => Sys2Proof.Machine.execCupolaFrameDequeue s
  | .fanOutStep copies => Sys2Proof.Machine.execFanOutStep s copies
  | .foldEnd group => Sys2Proof.Machine.execFoldEnd group s
  | .fanInStep => Sys2Proof.Machine.execFanInStep s
  | .cupolaBankFlip => Sys2Proof.Machine.execCupolaBankFlip s
  | .cupGroupSet rq => Sys2Proof.Machine.execCupGroupSet rq s
  | .cupMembersSet rq => Sys2Proof.Machine.execCupMembersSet rq s
  | .cupTripSet rq => Sys2Proof.Machine.execCupTripSet rq s
  | .cupTripClear rq => Sys2Proof.Machine.execCupTripClear rq s
  | .cupGroupStatus rq => Sys2Proof.Machine.execCupGroupStatus rq s
  | .cupExpansionRead rq => Sys2Proof.Machine.execCupExpansionRead rq s
  | .p94FrameToChannel => Sys2Proof.Machine.execP94FrameToChannel s
  | .p94FrameToGateway => Sys2Proof.Machine.execP94FrameToGateway s
  | .canFrameReceived ch f => Sys2Proof.Machine.execCanFrameReceived ch f s
  | .canProtocolException ch => Sys2Proof.Machine.execCanProtocolException ch s
  | .canArbitrationStart ch won => Sys2Proof.Machine.execCanArbitrationStart ch won s
  | .canTxComplete ch edges => Sys2Proof.Machine.execCanTxComplete ch edges s
  | .canTxLate ch => Sys2Proof.Machine.execCanTxLate ch s
  | .canBusError ch e => Sys2Proof.Machine.execCanBusError ch e s
  | .busOffDelayExpiry ch => Sys2Proof.Machine.execBusOffDelayExpiry ch s
  | .busOffRecoveryComplete ch => Sys2Proof.Machine.execBusOffRecoveryComplete ch s
  | .acfOutAccumExpiry pdu => Sys2Proof.Machine.execAcfOutAccumExpiry pdu s
  | .serialCharReceived ch c => Sys2Proof.Machine.execSerialCharReceived ch c s
  | .rawMessageClose ch => Sys2Proof.Machine.execRawMessageClose ch s
  | .pollDue entry => Sys2Proof.Machine.execPollDue entry s
  | .pollTransactionStart ch => Sys2Proof.Machine.execPollTransactionStart ch s
  | .pollReplyReceived ch bytes idles => Sys2Proof.Machine.execPollReplyReceived ch bytes idles s
  | .pollResponseTimeout ch => Sys2Proof.Machine.execPollResponseTimeout ch s
  | .sgeRouteStep => Sys2Proof.Machine.execSgeRouteStep s
  | .dstPduCyclicSend pdu => Sys2Proof.Machine.execDstPduCyclicSend pdu s
  | .dstPduDeferredSend pdu => Sys2Proof.Machine.execDstPduDeferredSend pdu s
  | .srcPduTimeout pdu => Sys2Proof.Machine.execSrcPduTimeout pdu s
  | .gwCanCfg rq => Sys2Proof.Machine.execGwCanCfg rq s
  | .gwCanFilter rq => Sys2Proof.Machine.execGwCanFilter rq s
  | .gwSerialCfg rq => Sys2Proof.Machine.execGwSerialCfg rq s
  | .gwPollSet rq => Sys2Proof.Machine.execGwPollSet rq s
  | .gwSrcPduSet rq => Sys2Proof.Machine.execGwSrcPduSet rq s
  | .gwDstPduSet rq => Sys2Proof.Machine.execGwDstPduSet rq s
  | .gwRouteSet rq => Sys2Proof.Machine.execGwRouteSet rq s
  | .gwScaleSet rq => Sys2Proof.Machine.execGwScaleSet rq s
  | .gwCanRecover rq => Sys2Proof.Machine.execGwCanRecover rq s
  | .gwCanStatus rq => Sys2Proof.Machine.execGwCanStatus rq s
  | .gwSerialStatus rq => Sys2Proof.Machine.execGwSerialStatus rq s
  | .gwPduRead rq => Sys2Proof.Machine.execGwPduRead rq s
  | .gwPduSend rq => Sys2Proof.Machine.execGwPduSend rq s
  | .gwPollNow rq => Sys2Proof.Machine.execGwPollNow rq s
  | .syncSample slot y => Sys2Proof.Machine.execSyncSample slot y s
  | .syncReceiptTimeout slot => Sys2Proof.Machine.execSyncReceiptTimeout slot s
  | .gptpMessageReceived port m => Sys2Proof.Machine.execGptpMessageReceived port m s
  | .pdelayTimeout port => Sys2Proof.Machine.execPdelayTimeout port s
  | .gptpIntervalSend slot port kind => Sys2Proof.Machine.execGptpIntervalSend slot port kind s
  | .tsFifoDrain => Sys2Proof.Machine.execTsFifoDrain s
  | .beaconDue port => Sys2Proof.Machine.execBeaconDue port s
  | .timeIoEdge pin => Sys2Proof.Machine.execTimeIoEdge pin s
  | .captureEdge pin rising held => Sys2Proof.Machine.execCaptureEdge pin rising held s
  | .rtcSecondSync => Sys2Proof.Machine.execRtcSecondSync s
  | .timeClockCfg rq => Sys2Proof.Machine.execTimeClockCfg rq s
  | .timeDomainCfg rq => Sys2Proof.Machine.execTimeDomainCfg rq s
  | .timePortCfg rq => Sys2Proof.Machine.execTimePortCfg rq s
  | .timeBeaconCfg rq => Sys2Proof.Machine.execTimeBeaconCfg rq s
  | .timeIoCfg rq => Sys2Proof.Machine.execTimeIoCfg rq s
  | .timeStatus rq => Sys2Proof.Machine.execTimeStatus rq s
  | .timeRead rq => Sys2Proof.Machine.execTimeRead rq s
  | .timeSwitch rq => Sys2Proof.Machine.execTimeSwitch rq s
  | .timeSet rq => Sys2Proof.Machine.execTimeSet rq s
  | .timeCaptureRead rq => Sys2Proof.Machine.execTimeCaptureRead rq s
  | .timePulse rq => Sys2Proof.Machine.execTimePulse rq s
  | .meterReadingArrival session => Sys2Proof.Machine.execMeterReadingArrival session s
  | .readAttemptTimeout session => Sys2Proof.Machine.execReadAttemptTimeout session s
  | .stopFoldWaitTimeout session => Sys2Proof.Machine.execStopFoldWaitTimeout session s
  | .recordSeal session sigOk retryOk => Sys2Proof.Machine.execRecordSeal session sigOk retryOk s
  | .caskRestartRecovery chainOk => Sys2Proof.Machine.execCaskRestartRecovery chainOk s
  | .takeoverSessionResegment session => Sys2Proof.Machine.execTakeoverSessionResegment session s
  | .sesOpen rq => Sys2Proof.Machine.execSesOpen rq s
  | .sesStart rq => Sys2Proof.Machine.execSesStart rq s
  | .sesSuspend rq => Sys2Proof.Machine.execSesSuspend rq s
  | .sesResume rq => Sys2Proof.Machine.execSesResume rq s
  | .sesStop rq => Sys2Proof.Machine.execSesStop rq s
  | .sesInterim rq => Sys2Proof.Machine.execSesInterim rq s
  | .sesRebind rq => Sys2Proof.Machine.execSesRebind rq s
  | .sesAbort rq => Sys2Proof.Machine.execSesAbort rq s
  | .sesStatus rq => Sys2Proof.Machine.execSesStatus rq s
  | .sesRecordRead rq => Sys2Proof.Machine.execSesRecordRead rq s
  | .sesAck rq => Sys2Proof.Machine.execSesAck rq s
  | .sesLegalId rq => Sys2Proof.Machine.execSesLegalId rq s
  | .sesLegalLogRead rq => Sys2Proof.Machine.execSesLegalLogRead rq s
  | .sesLegalParamUpdate rq => Sys2Proof.Machine.execSesLegalParamUpdate rq s
  | .sesReseal rq => Sys2Proof.Machine.execSesReseal rq s
  | .cipherPageGo requester page j => Sys2Proof.Machine.execCipherPageGo requester page j s
  | .cipherJobStart => Sys2Proof.Machine.execCipherJobStart s
  | .cipherJobRelease inverseOk => Sys2Proof.Machine.execCipherJobRelease inverseOk s
  | .eccOperationComplete firstOk secondOk => Sys2Proof.Machine.execEccOperationComplete firstOk secondOk s
  | .rngHealthFail kind => Sys2Proof.Machine.execRngHealthFail kind s
  | .rngRetest ok => Sys2Proof.Machine.execRngRetest ok s
  | .tamperAlarm src held => Sys2Proof.Machine.execTamperAlarm src held s
  | .tamperHoldReset => Sys2Proof.Machine.execTamperHoldReset s
  | .lifecycleReset => Sys2Proof.Machine.execLifecycleReset s
  | .keepSlotInfo rq => Sys2Proof.Machine.execKeepSlotInfo rq s
  | .keepUpdate rq => Sys2Proof.Machine.execKeepUpdate rq s
  | .keepDerive rq => Sys2Proof.Machine.execKeepDerive rq s
  | .keepCipher rq => Sys2Proof.Machine.execKeepCipher rq s
  | .keepSign rq => Sys2Proof.Machine.execKeepSign rq s
  | .keepVerify rq => Sys2Proof.Machine.execKeepVerify rq s
  | .keepHash rq => Sys2Proof.Machine.execKeepHash rq s
  | .keepRandom rq => Sys2Proof.Machine.execKeepRandom rq s
  | .keepCounterRead rq => Sys2Proof.Machine.execKeepCounterRead rq s
  | .keepCounterIncrement rq => Sys2Proof.Machine.execKeepCounterIncrement rq s
  | .keepAttest rq => Sys2Proof.Machine.execKeepAttest rq s
  | .keepIdentity rq => Sys2Proof.Machine.execKeepIdentity rq s
  | .keepTamperCfg rq => Sys2Proof.Machine.execKeepTamperCfg rq s
  | .keepTamperStatus rq => Sys2Proof.Machine.execKeepTamperStatus rq s
  | .keepAliveTimeout domain => Sys2Proof.Machine.execKeepAliveTimeout domain s
  | .prepareExpiry domain => Sys2Proof.Machine.execPrepareExpiry domain s
  | .sleepIndicationSend domain => Sys2Proof.Machine.execSleepIndicationSend domain s
  | .sleepCommitPoint domain => Sys2Proof.Machine.execSleepCommitPoint domain s
  | .indicationTimeout domain => Sys2Proof.Machine.execIndicationTimeout domain s
  | .deviceSleepEntry => Sys2Proof.Machine.execDeviceSleepEntry s
  | .dozeEntryComplete => Sys2Proof.Machine.execDozeEntryComplete s
  | .dormantEntryComplete => Sys2Proof.Machine.execDormantEntryComplete s
  | .dormantAfterExpiry => Sys2Proof.Machine.execDormantAfterExpiry s
  | .wakePatternDetected source phases => Sys2Proof.Machine.execWakePatternDetected source phases s
  | .hostWake spi => Sys2Proof.Machine.execHostWake spi s
  | .rtcAlarmWake => Sys2Proof.Machine.execRtcAlarmWake s
  | .latchedWakeServe => Sys2Proof.Machine.execLatchedWakeServe s
  | .wakeExitComplete domain => Sys2Proof.Machine.execWakeExitComplete domain s
  | .noTrafficTimeout domain => Sys2Proof.Machine.execNoTrafficTimeout domain s
  | .hostIdleExpiry => Sys2Proof.Machine.execHostIdleExpiry s
  | .pwrHoldTimeout scope => Sys2Proof.Machine.execPwrHoldTimeout scope s
  | .pwrDomainCfg rq => Sys2Proof.Machine.execPwrDomainCfg rq s
  | .pwrWakeCfg rq => Sys2Proof.Machine.execPwrWakeCfg rq s
  | .pwrPolicyCfg rq => Sys2Proof.Machine.execPwrPolicyCfg rq s
  | .pwrHold rq => Sys2Proof.Machine.execPwrHold rq s
  | .pwrStatus rq => Sys2Proof.Machine.execPwrStatus rq s
  | .pwrAonLogRead rq => Sys2Proof.Machine.execPwrAonLogRead rq s
  | .pwrRtcAlarm rq => Sys2Proof.Machine.execPwrRtcAlarm rq s
  | .lockCmp lanes => Sys2Proof.Machine.execLockCmp lanes s
  | .delayParityError output => Sys2Proof.Machine.execDelayParityError output s
  | .comparatorSelfTest detected => Sys2Proof.Machine.execComparatorSelfTest detected s
  | .stateDigestPass digestA digestB => Sys2Proof.Machine.execStateDigestPass digestA digestB s
  | .watchdogExpiry servedAt => Sys2Proof.Machine.execWatchdogExpiry s servedAt
  | .faultHoldRestart => Sys2Proof.Machine.execFaultHoldRestart s
  | .interlockConflict => Sys2Proof.Machine.execInterlockConflict s
  | .interlockSettleExpiry => Sys2Proof.Machine.execInterlockSettleExpiry s
  | .actClaimAtRun => Sys2Proof.Machine.execActClaimAtRun s
  | .primaryWaitExpiry => Sys2Proof.Machine.execPrimaryWaitExpiry s
  | .actTakeoverDecision => Sys2Proof.Machine.execActTakeoverDecision s
  | .journalFrameReceived bytes => Sys2Proof.Machine.execJournalFrameReceived bytes s
  | .journalResendTimeout => Sys2Proof.Machine.execJournalResendTimeout s
  | .twinLinkTimeout => Sys2Proof.Machine.execTwinLinkTimeout s
  | .journalSyncTimeout => Sys2Proof.Machine.execJournalSyncTimeout s
  | .helloSend => Sys2Proof.Machine.execHelloSend s
  | .timeAlignSend => Sys2Proof.Machine.execTimeAlignSend s
  | .journalBatchSend => Sys2Proof.Machine.execJournalBatchSend s
  | .safeStatus rq => Sys2Proof.Machine.execSafeStatus rq s
  | .safeFaultRead rq => Sys2Proof.Machine.execSafeFaultRead rq s
  | .safeFaultClear rq => Sys2Proof.Machine.execSafeFaultClear rq s
  | .safeModeSet rq returnPasses => Sys2Proof.Machine.execSafeModeSet rq s returnPasses
  | .safePolicyCfg rq => Sys2Proof.Machine.execSafePolicyCfg rq s
  | .safeTwinCfg rq => Sys2Proof.Machine.execSafeTwinCfg rq s
  | .safeTwinStatus rq => Sys2Proof.Machine.execSafeTwinStatus rq s
  | .safeTwinHandover rq => Sys2Proof.Machine.execSafeTwinHandover rq s
  | .fwBegin rq => Sys2Proof.Machine.execFwBegin rq s
  | .fwWrite rq => Sys2Proof.Machine.execFwWrite rq s
  | .fwVerify rq => Sys2Proof.Machine.execFwVerify rq s
  | .fwActivate rq failsAt => Sys2Proof.Machine.execFwActivate rq s failsAt
  | .activationReset => Sys2Proof.Machine.execActivationReset s
  | .fwConfirm rq => Sys2Proof.Machine.execFwConfirm rq s
  | .fwFallback rq => Sys2Proof.Machine.execFwFallback rq s
  | .fwAbort rq => Sys2Proof.Machine.execFwAbort rq s
  | .fwStatus rq => Sys2Proof.Machine.execFwStatus rq s
  | .kilnBoot rq => Sys2Proof.Machine.execKilnBoot rq s
  | .kilnUnlock rq => Sys2Proof.Machine.execKilnUnlock rq s
  | .updateSessionIdleTimeout => Sys2Proof.Machine.execUpdateSessionIdleTimeout s
  | .trialTimerExpiry => Sys2Proof.Machine.execTrialTimerExpiry s
  | .runNotReachedTimeout => Sys2Proof.Machine.execRunNotReachedTimeout s
  | .kilnIdleTimeout => Sys2Proof.Machine.execKilnIdleTimeout s
  | .kilnFrameReceived bytes => Sys2Proof.Machine.execKilnFrameReceived bytes s
  | .powerOnReset pulseNs p => Sys2Proof.Machine.execPowerOnReset pulseNs p s
  | .systemResetInput pulseNs => Sys2Proof.Machine.execSystemResetInput pulseNs s
  | .bootSequence b => Sys2Proof.Machine.execBootSequence b s
  | .warmPathBoot b => Sys2Proof.Machine.execWarmPathBoot b s
  | .vddAonRemoval => Sys2Proof.Machine.execVddAonRemoval s
  | .memoryErrorDetected e => Sys2Proof.Machine.execMemoryErrorDetected e s
  | .holdoverBudgetExceeded => Sys2Proof.Machine.execHoldoverBudgetExceeded s
  | .announceReceiptTimeout slot b => Sys2Proof.Machine.execAnnounceReceiptTimeout slot b s
  | .actInNEdge high => Sys2Proof.Machine.execActInNEdge high s
  | .loosePeriodExpiry => Sys2Proof.Machine.execLoosePeriodExpiry s
  | .lacpPartnerTimeout port => Sys2Proof.Machine.execLacpPartnerTimeout port s
  | .plcaCoordinatorBeacon port => Sys2Proof.Machine.execPlcaCoordinatorBeacon port s

end Sys2Proof.Machine
end

