-- ==== Sys2Proof/WellFormed.lean ====
section
/-! DEFINITION. Well-formed commands: every field within the width or the range the spec gives the register, the header field or the
index it stands for. -/

namespace Sys2Proof

/-- A mailbox request: MB0 to MB7, header fields of their widths (R36). -/
def Req.wf (r : Req) : Bool :=
  decide (r.ch < 8) && decide (r.length < 2 ^ 16) && decide (r.seq < 2 ^ 16) && decide (r.flags < 2 ^ 16) && decide (r.txn < 2 ^ 32) &&
    decide (r.resv < 2 ^ 32)

/-- A request with its OPCODE. -/
def HostReq.wf (r : HostReq) : Bool := decide (r.opcode < 2 ^ 16) && r.rq.wf

/-- A register access: 8, 16, 32 or 64 bits over PCIe, any number of bits over SPI (R36), its value within them; a read carries none. -/
def BusAccess.wf (a : BusAccess) : Bool :=
  (a.spi || [8, 16, 32, 64].contains a.nbits) && decide (a.value < 2 ^ a.nbits) && (a.write || a.value == 0) && decide (a.addr < 2 ^ 32)

/-- An aperture access: pools 1 to 5, 1 to 8 bytes (R35). -/
def ApertureAccess.wf (a : ApertureAccess) : Bool :=
  decide (1 ≤ a.pool ∧ a.pool ≤ 5) && decide (1 ≤ a.width ∧ a.width ≤ 8) && decide (a.value < 2 ^ (8 * a.width))

/-- A received frame: P0 to P49, a place of its TS segment. -/
def RxFrame.wf (f : RxFrame) : Bool := decide (f.port < 50) && decide (f.node < 256)

/-- A P90 descriptor: a 64-bit address, its fields of their widths. -/
def P90Desc.wf (d : P90Desc) : Bool :=
  decide (d.addr < 2 ^ 64) && decide (d.length < 2 ^ 32) && decide (d.control < 2 ^ 32) && decide (d.tag < 2 ^ 32)

/-- A raised request: a latest-service time is 32 bits (R18). -/
def ArbRaise.wf (a : ArbRaise) : Bool := decide (a.lst < 2 ^ 32)

/-- A resolved link: SPEED is a 4-bit code. -/
def LinkInfo.wf (i : LinkInfo) : Bool := decide (i.speed < 16)

/-- What enters the pipeline: a slice S0 to S8, or an arriving frame. -/
def ClassifySrc.wf : ClassifySrc → Bool
  | .fifo slice => decide (slice < 9)
  | .arriving f => f.wf

/-- A CAN frame: an 11-bit or 29-bit identifier, 8 data bytes or with FD 64. -/
def CanFrame.wf (f : CanFrame) : Bool :=
  decide (f.id < (if f.ext then 2 ^ 29 else 2 ^ 11)) && decide (f.data.length ≤ (if f.fd then 64 else 8))

/-- A CAN error of one of the five kinds. -/
def CanError.wf (e : CanError) : Bool := decide (e.kind < 5)

/-- A serial character of at most 9 bits. -/
def SerialChar.wf (c : SerialChar) : Bool := decide (c.value < 2 ^ 9)

/-- A port at which gPTP frames arrive: P0 to P49, or P90. -/
def gptpPort (p : Nat) : Bool := decide (p < 50) || p == 90

/-- A Sync sample: an origin of 80 bits, a signed 64-bit correction, a 64-bit grandmaster, a port at which gPTP frames arrive. -/
def SyncSample.wf (y : SyncSample) : Bool :=
  decide (y.origin < 2 ^ 48 * 1000000000) && decide (-(2 ^ 63) ≤ y.corr ∧ y.corr < 2 ^ 63) && decide (y.gmId < 2 ^ 64) &&
    decide (y.stepsRemoved < 2 ^ 16) && gptpPort y.port

/-- What the best master clock algorithm selects. -/
def BmcaResult.wf (b : BmcaResult) : Bool := decide (b.gmId < 2 ^ 64) && decide (b.stepsRemoved < 2 ^ 16) && (b.self || gptpPort b.port)

/-- A gPTP message of one of the four kinds. -/
def GptpMsg.wf (m : GptpMsg) : Bool := decide (m.domain < 256) && decide (m.kind < 4) && m.bmca.wf

/-- A cipher job: DIR a bit, SLOT a byte, 1 to 4,096 blocks, a 32-bit latest-service time. -/
def PageJob.wf (j : PageJob) : Bool :=
  decide (j.dir < 2) && decide (j.slot < 256) && decide (1 ≤ j.nblocks ∧ j.nblocks ≤ 4096) && decide (j.lst < 2 ^ 32)

/-- What the ROM finds: a 2-bit strap, banks A and B of the components 1 to 5, blob records 0 to 511, a VID code. -/
def BootInfo.wf (b : BootInfo) : Bool :=
  decide (b.bootSrc < 4) && b.badBanks.all (fun k => decide (2 ≤ k ∧ k < 12)) && b.badBlobs.all (fun i => decide (i < 512)) && decide (b.vidTrim ≤ 8)

/-- An error of one of the on-chip memories. -/
def MemError.wf (e : MemError) : Bool := decide (e.memory < 11)

/-- The command's operands lie in the ranges the spec gives them. A request's own data is checked by the command, which answers
BAD_PARAM and its like. -/
def Instr.wellFormed (i : Instr) : Bool :=
  match i with
  | .registerWrite a => a.wf
  | .mbxReqProdDoorbell ch prod reqs => decide (ch < 8) && decide (prod < 2 ^ 32) && reqs.all HostReq.wf
  | .mbxRspConsWrite ch val => decide (ch < 8) && decide (val < 2 ^ 32)
  | .mbxChanReset ch val => decide (ch < 8) && decide (val < 2 ^ 32)
  | .mbxChannelEnable ch val => decide (ch < 8) && decide (val < 2 ^ 32)
  | .hifIrqStatusClear val again => decide (val < 2 ^ 32) && decide (again < 2 ^ 32)
  | .hifEvtConsWrite val => decide (val < 2 ^ 32)
  | .evtRingEnable val => decide (val < 2 ^ 32)
  | .evtOverflowClear val => decide (val < 2 ^ 32)
  | .eventHoldoffExpiry => true
  | .counterLowHalfRead _ off => decide (off < 2 ^ 16)
  | .hopperApertureAccess a => a.wf
  | .functionLevelReset => true
  | .spiWriteRequest ch r => decide (ch < 8) && r.wf
  | .spiReadResponse ch => decide (ch < 8)
  | .spiStatusRead => true
  | .inBandRequestFrame f => f.wf
  | .mailboxResponsePosted ch => decide (ch < 8)
  | .txnIdleTimeout => true
  | .p90RingTailWrite _ ring tail ds => decide (ring < 8) && decide (tail < 2 ^ 16) && ds.all P90Desc.wf
  | .p90RingEnable _ ring val => decide (ring < 8) && decide (val < 2 ^ 32)
  | .p90TxFrameFetch _ => true
  | .p90RxDelivery => true
  | .p90HoldoffExpiry _ ring => decide (ring < 8)
  | .sysIdentify rq => rq.wf
  | .sysVersion rq => rq.wf
  | .sysReset rq => rq.wf
  | .sysResetStart => true
  | .sysClaimsList rq => rq.wf
  | .sysCounterSnapshot rq => rq.wf
  | .sysCounterClear rq => rq.wf
  | .sysEventFetch rq => rq.wf
  | .sysChannelCfg rq => rq.wf
  | .channelRebind ch => decide (ch < 8)
  | .txnBegin rq => rq.wf
  | .txnCommit rq => rq.wf
  | .genFlip => true
  | .txnAbort rq => rq.wf
  | .txnStatus rq => rq.wf
  | .serviceArbiterRound raised => raised.all ArbRaise.wf
  | .fabricTransferCommit => true
  | .portCfg rq => rq.wf
  | .portFilterSet rq => rq.wf
  | .portPlcaCfg rq => rq.wf
  | .portStatus rq => rq.wf
  | .portMdio rq => rq.wf
  | .macFrameReceived f => f.wf
  | .cutThroughOversize port _ _ => decide (port < 50)
  | .linkDown port cause => decide (port < 50) && decide (cause < 6)
  | .linkUp port i => decide (port < 50) && i.wf
  | .flapHoldExpiry port => decide (port < 50)
  | .plcaBeaconReceived port => decide (port < 50)
  | .plcaBeaconTimeout port => decide (port < 50)
  | .plcaTransmitOpportunity port _ => decide (port < 50)
  | .utilisationIntervalEnd port => decide (port < 50)
  | .stepUpQueueThreshold port => decide (port < 50)
  | .retrainFailTimeout port => decide (port < 50)
  | .phyStatusPoll _ => true
  | .frameClassify src => src.wf
  | .frameValidEnd _ => true
  | .cutThroughStart port _ => decide (port < 50)
  | .matchingSlot => true
  | .recircReaderMove => true
  | .captureRecordWrite => true
  | .lacpduReceived port _ => decide (port < 50)
  | .fenceTimeout group bucket => decide (group < 8) && decide (bucket < 256)
  | .hopperAlloc _ _ => true
  | .hopperRefcountIncrement _ handle => decide (handle < 2 ^ 32)
  | .hopperRefcountDecrement _ handle => decide (handle < 2 ^ 32)
  | .engineRestartRelease _ => true
  | .fabBufferCfg rq => rq.wf
  | .fabMirrorCfg rq => rq.wf
  | .fabCaptureCfg rq => rq.wf
  | .fabCaptureAck rq => rq.wf
  | .fabLagCfg rq => rq.wf
  | .fabLagStatus rq => rq.wf
  | .fabHopperCfg rq => rq.wf
  | .fabHopperStatus rq => rq.wf
  | .fabHopperAlloc rq => rq.wf
  | .fabHopperFree rq => rq.wf
  | .fabQueueStatus rq => rq.wf
  | .fdbAgeScan => true
  | .ctAgeScan => true
  | .bindingCtPurge zone => decide (zone < 64)
  | .ltrPortCfg rq => rq.wf
  | .ltrVlanSet rq => rq.wf
  | .ltrFdbStatic rq => rq.wf
  | .ltrFdbCfg rq => rq.wf
  | .ltrFdbFlush rq => rq.wf
  | .ltrFdbRead rq => rq.wf
  | .ltrMcastGroup rq => rq.wf
  | .ltrAclWrite rq => rq.wf
  | .ltrProfileSet rq => rq.wf
  | .ltrPolicerSet rq => rq.wf
  | .ltrZoneMatrix rq => rq.wf
  | .ltrCtCfg rq => rq.wf
  | .ltrCtFlush rq => rq.wf
  | .ltrCtRead rq => rq.wf
  | .ltrZoneBindStatus rq => rq.wf
  | .ltrGenStatus rq => rq.wf
  | .frameTxStart port _ _ => decide (port < 96)
  | .txFrameComplete port => decide (port < 96)
  | .gateEntryChange port => decide (port < 96)
  | .gateListSwitch port => decide (port < 96)
  | .preemptVerifyResponse port => decide (port < 96)
  | .preemptVerifyTimeout port => decide (port < 96)
  | .belfryCmp port mask => decide (port < 50) && decide (mask < 2 ^ 64)
  | .queueObserveSample port => decide (port < 96)
  | .frerResetTimeout entry => decide (entry < 1024)
  | .frerLatentPeriodEnd entry => decide (entry < 1024)
  | .strStreamSet rq => rq.wf
  | .strMeterSet rq => rq.wf
  | .strGateCfg rq => rq.wf
  | .strGateEntries rq => rq.wf
  | .strCbsSet rq => rq.wf
  | .strPreemptCfg rq => rq.wf
  | .strFrerSet rq => rq.wf
  | .strObserveCfg rq => rq.wf
  | .strObserveRead rq => rq.wf
  | .strGateStatus rq => rq.wf
  | .strFilterReset rq => rq.wf
  | .strStreamStatus rq => rq.wf
  | .admPathSet rq => rq.wf
  | .admBusDeclare rq => rq.wf
  | .admReportRead rq => rq.wf
  | .cupolaFrameDequeue => true
  | .fanOutStep copies => decide (1 ≤ copies)
  | .foldEnd group => decide (group < 1024)
  | .fanInStep => true
  | .cupolaBankFlip => true
  | .cupGroupSet rq => rq.wf
  | .cupMembersSet rq => rq.wf
  | .cupTripSet rq => rq.wf
  | .cupTripClear rq => rq.wf
  | .cupGroupStatus rq => rq.wf
  | .cupExpansionRead rq => rq.wf
  | .p94FrameToChannel => true
  | .p94FrameToGateway => true
  | .canFrameReceived ch f => decide (ch < 32) && f.wf
  | .canProtocolException ch => decide (ch < 32)
  | .canArbitrationStart ch _ => decide (ch < 32)
  | .canTxComplete ch _ => decide (ch < 32)
  | .canTxLate ch => decide (ch < 32)
  | .canBusError ch e => decide (ch < 32) && e.wf
  | .busOffDelayExpiry ch => decide (ch < 32)
  | .busOffRecoveryComplete ch => decide (ch < 32)
  | .acfOutAccumExpiry pdu => decide (pdu < 16384)
  | .serialCharReceived ch c => decide (ch < 8) && c.wf
  | .rawMessageClose ch => decide (ch < 8)
  | .pollDue entry => decide (entry < 1024)
  | .pollTransactionStart ch => decide (ch < 8)
  | .pollReplyReceived ch bytes idles => decide (ch < 8) && decide (idles.length = bytes.length)
  | .pollResponseTimeout ch => decide (ch < 8)
  | .sgeRouteStep => true
  | .dstPduCyclicSend pdu => decide (pdu < 16384)
  | .dstPduDeferredSend pdu => decide (pdu < 16384)
  | .srcPduTimeout pdu => decide (pdu < 16384)
  | .gwCanCfg rq => rq.wf
  | .gwCanFilter rq => rq.wf
  | .gwSerialCfg rq => rq.wf
  | .gwPollSet rq => rq.wf
  | .gwSrcPduSet rq => rq.wf
  | .gwDstPduSet rq => rq.wf
  | .gwRouteSet rq => rq.wf
  | .gwScaleSet rq => rq.wf
  | .gwCanRecover rq => rq.wf
  | .gwCanStatus rq => rq.wf
  | .gwSerialStatus rq => rq.wf
  | .gwPduRead rq => rq.wf
  | .gwPduSend rq => rq.wf
  | .gwPollNow rq => rq.wf
  | .syncSample slot y => decide (slot < 2) && y.wf
  | .syncReceiptTimeout slot => decide (slot < 2)
  | .gptpMessageReceived port m => gptpPort port && m.wf
  | .pdelayTimeout port => decide (port < 50)
  | .gptpIntervalSend slot port _ => decide (slot < 2) && gptpPort port
  | .tsFifoDrain => true
  | .beaconDue port => decide (port < 50)
  | .timeIoEdge pin => decide (pin < 16)
  | .captureEdge pin _ _ => decide (pin < 16)
  | .rtcSecondSync => true
  | .timeClockCfg rq => rq.wf
  | .timeDomainCfg rq => rq.wf
  | .timePortCfg rq => rq.wf
  | .timeBeaconCfg rq => rq.wf
  | .timeIoCfg rq => rq.wf
  | .timeStatus rq => rq.wf
  | .timeRead rq => rq.wf
  | .timeSwitch rq => rq.wf
  | .timeSet rq => rq.wf
  | .timeCaptureRead rq => rq.wf
  | .timePulse rq => rq.wf
  | .meterReadingArrival session => decide (session < 64)
  | .readAttemptTimeout session => decide (session < 64)
  | .stopFoldWaitTimeout session => decide (session < 64)
  | .recordSeal session _ _ => decide (session < 64)
  | .caskRestartRecovery _ => true
  | .takeoverSessionResegment session => decide (session < 64)
  | .sesOpen rq => rq.wf
  | .sesStart rq => rq.wf
  | .sesSuspend rq => rq.wf
  | .sesResume rq => rq.wf
  | .sesStop rq => rq.wf
  | .sesInterim rq => rq.wf
  | .sesRebind rq => rq.wf
  | .sesAbort rq => rq.wf
  | .sesStatus rq => rq.wf
  | .sesRecordRead rq => rq.wf
  | .sesAck rq => rq.wf
  | .sesLegalId rq => rq.wf
  | .sesLegalLogRead rq => rq.wf
  | .sesLegalParamUpdate rq => rq.wf
  | .sesReseal rq => rq.wf
  | .cipherPageGo _ page j => decide (page < 16) && j.wf
  | .cipherJobStart => true
  | .cipherJobRelease _ => true
  | .eccOperationComplete _ _ => true
  | .rngHealthFail kind => decide (kind < 4)
  | .rngRetest _ => true
  | .tamperAlarm src _ => decide (src < 8)
  | .tamperHoldReset => true
  | .lifecycleReset => true
  | .keepSlotInfo rq => rq.wf
  | .keepUpdate rq => rq.wf
  | .keepDerive rq => rq.wf
  | .keepCipher rq => rq.wf
  | .keepSign rq => rq.wf
  | .keepVerify rq => rq.wf
  | .keepHash rq => rq.wf
  | .keepRandom rq => rq.wf
  | .keepCounterRead rq => rq.wf
  | .keepCounterIncrement rq => rq.wf
  | .keepAttest rq => rq.wf
  | .keepIdentity rq => rq.wf
  | .keepTamperCfg rq => rq.wf
  | .keepTamperStatus rq => rq.wf
  | .keepAliveTimeout domain => decide (domain < 32)
  | .prepareExpiry domain => decide (domain < 32)
  | .sleepIndicationSend domain => decide (domain < 32)
  | .sleepCommitPoint domain => decide (domain < 32)
  | .indicationTimeout domain => decide (domain < 32)
  | .deviceSleepEntry => true
  | .dozeEntryComplete => true
  | .dormantEntryComplete => true
  | .dormantAfterExpiry => true
  | .wakePatternDetected source _ => decide (source < 2 ^ 16)
  | .hostWake _ => true
  | .rtcAlarmWake => true
  | .latchedWakeServe => true
  | .wakeExitComplete domain => decide (domain < 32)
  | .noTrafficTimeout domain => decide (domain < 32)
  | .hostIdleExpiry => true
  | .pwrHoldTimeout scope => decide (scope < 33)
  | .pwrDomainCfg rq => rq.wf
  | .pwrWakeCfg rq => rq.wf
  | .pwrPolicyCfg rq => rq.wf
  | .pwrHold rq => rq.wf
  | .pwrStatus rq => rq.wf
  | .pwrAonLogRead rq => rq.wf
  | .pwrRtcAlarm rq => rq.wf
  | .lockCmp lanes => decide (lanes < 2 ^ 64)
  | .delayParityError _ => true
  | .comparatorSelfTest _ => true
  | .stateDigestPass _ _ => true
  | .watchdogExpiry _ => true
  | .faultHoldRestart => true
  | .interlockConflict => true
  | .interlockSettleExpiry => true
  | .actClaimAtRun => true
  | .primaryWaitExpiry => true
  | .actTakeoverDecision => true
  | .journalFrameReceived _ => true
  | .journalResendTimeout => true
  | .twinLinkTimeout => true
  | .journalSyncTimeout => true
  | .helloSend => true
  | .timeAlignSend => true
  | .journalBatchSend => true
  | .safeStatus rq => rq.wf
  | .safeFaultRead rq => rq.wf
  | .safeFaultClear rq => rq.wf
  | .safeModeSet rq _ => rq.wf
  | .safePolicyCfg rq => rq.wf
  | .safeTwinCfg rq => rq.wf
  | .safeTwinStatus rq => rq.wf
  | .safeTwinHandover rq => rq.wf
  | .fwBegin rq => rq.wf
  | .fwWrite rq => rq.wf
  | .fwVerify rq => rq.wf
  | .fwActivate rq failsAt => rq.wf && failsAt.all (fun c => decide (1 ≤ c ∧ c ≤ 5))
  | .activationReset => true
  | .fwConfirm rq => rq.wf
  | .fwFallback rq => rq.wf
  | .fwAbort rq => rq.wf
  | .fwStatus rq => rq.wf
  | .kilnBoot rq => rq.wf
  | .kilnUnlock rq => rq.wf
  | .updateSessionIdleTimeout => true
  | .trialTimerExpiry => true
  | .runNotReachedTimeout => true
  | .kilnIdleTimeout => true
  | .kilnFrameReceived _ => true
  | .powerOnReset _ _ => true
  | .systemResetInput _ => true
  | .bootSequence b => b.wf
  | .warmPathBoot b => b.wf
  | .vddAonRemoval => true
  | .memoryErrorDetected e => e.wf
  | .holdoverBudgetExceeded => true
  | .announceReceiptTimeout slot b => decide (slot < 2) && b.wf
  | .actInNEdge _ => true
  | .loosePeriodExpiry => true
  | .lacpPartnerTimeout port => decide (port < 50)
  | .plcaCoordinatorBeacon port => decide (port < 50)

end Sys2Proof
end

