-- ==== Sys2Proof/Safety.lean ====
section
/-! DEFINITION. The terms in which claims about the block are stated: how a mailbox request is admitted and answered, what a
completing command does, and the invariants of the block. -/

namespace Sys2Proof.Machine

open Sys2Proof

/-- The command answers a next state: the block at `d'`, the queue as it was. -/
abbrev Runs (c : Instr) (s : State) (d' : Dev) : Prop := exec c s = .next { s with dev := d' }

/-! ## A mailbox request, from its admission to its answer -/

/-- The request is served now: it has been taken (R40), it passes the checks of R39 steps 1 to 5, its bulk part is read whole
(R44), a response of the greatest size the command can produce fits (R38, R45), and no COMMIT being applied holds the object it
changes (R57). The request as taken, the block as the command's own work finds it, and the request's data. -/
def Dev.admitted (d : Dev) (op : Nat) (rq : Req) (most : Dev → Bytes → Nat) : Option (Taken × Dev × ReqData) :=
  match d.start op rq with
  | none => none
  | some (t, d1) =>
    if (headerError d1 op t.rq).isSome then none
    else
      match requestData d1 t.origin.isSome t.rq with
      | .inl _ => none
      | .inr r =>
        if d1.host.spi && decide (d1.spiRoom < 16 + (if reqBulkRsp t.rq then 4 else most d1 r.data)) then none
        else if reqBulkRsp t.rq && decide (r.room < most d1 r.data) then none
        else if (d1.heldByCommit op r.data).isSome then none
        else some (t, d1, r)

/-- The command is answered OK with its response data, and what waits behind it on its channel is looked at. -/
def Dev.finish (d : Dev) (t : Taken) (r : ReqData) (ch detail : Nat) (payload : Bytes) : Dev :=
  (d.answerData t stOk detail payload r).drainAll ch

/-- The command is answered with a failing status and no payload. -/
def Dev.refuse (d : Dev) (t : Taken) (ch status detail : Nat) : Dev := (d.answer t status detail []).drainAll ch

/-- A request of an immediate command completes: admitted, with data and a block that meet `good`, it is answered OK; what the
command leaves and what it answers meet `result` (block before, request, its data, block after, response data). -/
def Completes (mk : Req → Instr) (op : Nat) (most : Dev → Bytes → Nat) (good : Dev → Req → Bytes → Prop)
    (result : Dev → Req → Bytes → Dev → Bytes → Prop) : Prop :=
  ∀ s rq t d r, s.dev.admitted op rq most = some (t, d, r) → good d rq r.data →
    ∃ d' pl, Runs (mk rq) s (d'.finish t r rq.ch 0 pl) ∧ result d rq r.data d' pl

/-- As `Completes`, of a command whose answer waits for another step: it is then in progress on its channel. -/
def Waits (mk : Req → Instr) (op : Nat) (most : Dev → Bytes → Nat) (good : Dev → Req → Bytes → Prop)
    (result : Dev → Req → Bytes → Dev → Prop) : Prop :=
  ∀ s rq t d r, s.dev.admitted op rq most = some (t, d, r) → good d rq r.data →
    ∃ d', Runs (mk rq) s (d'.modChan rq.ch (fun c => { c with running := some t })) ∧ result d rq r.data d'

/-- A request of an immediate command is refused with a status and DETAIL, and with no effect. -/
def Refuses (mk : Req → Instr) (op : Nat) (most : Dev → Bytes → Nat) (bad : Dev → Req → Bytes → Prop)
    (status : Nat) (detail : Dev → Req → Bytes → Nat) : Prop :=
  ∀ s rq t d r, s.dev.admitted op rq most = some (t, d, r) → bad d rq r.data →
    Runs (mk rq) s (d.refuse t rq.ch status (detail d rq r.data))

/-- The open transaction `x` with one more command at the end. -/
def Dev.withStaged (d : Dev) (x : OpenTxn) (op : Nat) (data : Bytes) : Dev :=
  let y : OpenTxn := { x with staged := x.staged ++ [{ opcode := op, data := data }] }
  { d with txn := { d.txn with txn := some y } }

/-- A transactional command is staged: admitted on the channel that owns the open transaction, its data passing `check`, it
joins the end of the staged commands and is answered with its zero-based index in DETAIL (R53, R54). -/
def Stages (mk : Req → Instr) (op : Nat) (check : Dev → Bytes → Nat) : Prop :=
  ∀ s rq t d r x, s.dev.admitted op rq (rspMax 0) = some (t, d, r) → d.txn.txn = some x → check d r.data = stOk →
    x.staged.length < 16384 → (x.staged.map (fun c => c.data.length)).sum + r.data.length ≤ 2097152 →
    Runs (mk rq) s ((d.withStaged x op r.data).finish t r rq.ch x.staged.length [])

/-! ## Faults -/

/-- The block has answered an F2 fault (R369): stage FAULT_HOLD, SAFE_N low, ACT released, no frame in transmission, and the
record of the fault the latest of the log. -/
structure Dev.tookF2 (d : Dev) (code object data : Nat) : Prop where
  /-- Step 4. -/
  stage : d.host.stage = .faultHold
  /-- Step 3. -/
  safe : d.safety.safe = true
  /-- Step 1. -/
  released : d.twin.act = false
  /-- Step 2. -/
  stopped : d.fabric.sending = []
  /-- The code of the latest fault. -/
  last : d.safety.lastCode = code
  /-- The record. -/
  record : ∃ r, d.safety.log.getLast? = some r ∧ r.code = code ∧ r.cls = 2 ∧ r.object = object ∧ r.data = data

/-! ## Bounds -/

/-- The stores whose size the spec bounds are within it, and the sub-second parts of both clocks within a second. -/
structure Dev.Bounded (d : Dev) : Prop where
  /-- The event history (R52). -/
  history : d.host.history.length ≤ 1024
  /-- Events kept until ENABLE is set (R417). -/
  unsent : d.host.unsent.length ≤ 1024
  /-- The fault log (R368). -/
  faults : d.safety.log.length ≤ 64
  /-- The always-on log (R356). -/
  aon : d.lantern.aonLog.length ≤ 16
  /-- The local clock (R263). -/
  ns : d.time.clock.ns < 1000000000
  /-- The RTC's 2^-15 s cycles (R355). -/
  rtc : d.lantern.rtcSub < 32768
  /-- The image banks' RAM is in its canonical form. -/
  mram : Memory.wf d.update.mram = true
  /-- So is the capture ring's. -/
  capture : Memory.wf d.fabric.capture.mem = true
  /-- And that of every Hopper pool. -/
  pools : ∀ x ∈ d.fabric.pools, Memory.wf x.2.mem = true

end Sys2Proof.Machine
end

