-- ==== Sys2Proof/Certificates/Slice0/Obligations.lean ====
section
/-! DEFINITION. The statements about the block. `Runs`, `Completes`, `Waits`, `Refuses` and `Stages` are those of Safety.lean: a
command that answers a next state, and a mailbox request that is admitted and answered. -/

open Sys2Proof Sys2Proof.Machine

/-- A step runs the command at the front of the queue. For every command c, every rest of the queue and every state of the
block, step on the queue with c in front is exec c on the block with the queue's rest. (The queue itself is the model's own
field.) (spec/INDEX.md, R40) -/
def Obligations.StepRunsFrontCommand : Prop :=
  ∀ (c : Instr) (rest : List Instr) (d : Dev),
    step { dev := d, pending := c :: rest } = exec c { dev := d, pending := rest }

/-- No command stops the block, and none looks at or changes the queue. For every command c and every state d of the block there
is one block state d' such that, whatever commands wait, exec c answers a next state holding d' and the same queue. No
command ends in a fault or a refusal. (R40, spec/opcode_table.json) -/
def Obligations.EveryCommandCompletesAndLeavesTheQueue : Prop :=
  ∀ (c : Instr) (d : Dev), ∃ d' : Dev, ∀ q : List Instr,
    exec c { dev := d, pending := q } = .next { dev := d', pending := q }

/-- On an empty queue the local clock and the guard timers advance by one TIME tick. Model's choice of log entry 1: with no
command waiting, a step lets one TIME tick pass. Uptime, on which guard timers run, advances by 4 ns. Outside DORMANT and
OFF the local clock adds INCREMENT as R263 says: the fraction carries into the nanoseconds, and at 1,000,000,000 ns the
nanoseconds carry into the seconds (48 bits); in DORMANT and OFF it stands still. INCREMENT does not change. (R263,
spec/10_time.md) -/
def Obligations.IdleStepIsOneTick : Prop :=
  ∀ d : Dev, step { dev := d, pending := [] } = .next { dev := d.tick, pending := [] } ∧
    d.tick.uptime = d.uptime + 4 ∧
    (let runs := d.lantern.power ≠ .dormant ∧ d.lantern.power ≠ .off
     let total := d.time.clock.ns * 2 ^ 32 + d.time.clock.frac + d.time.clock.increment
     let c := d.tick.time.clock
     (¬ runs → c = d.time.clock) ∧
     (runs → c.increment = d.time.clock.increment ∧ c.frac = total % 2 ^ 32 ∧
        (total / 2 ^ 32 < 10 ^ 9 → c.ns = total / 2 ^ 32 ∧ c.sec = d.time.clock.sec) ∧
        (10 ^ 9 ≤ total / 2 ^ 32 → c.ns = total / 2 ^ 32 - 10 ^ 9 ∧ c.sec = (d.time.clock.sec + 1) % 2 ^ 48)))

/-- A register write stores its value and a read returns it; a badly sized one is answered Unsupported Request; an SPI one that
breaks R36 has no effect. REGISTER_WRITE, a register access while the register file is served. On PCIe an access to BAR0
that is not an aligned 32-bit word completes with Unsupported Request and changes nothing else; an aligned word is stored in
SCRATCH, IRQ_ENABLE, the event ring's base, a channel's base or an MSI-X table word; a read returns the register and changes
nothing else, HIF_ID being 0x96630011; reserved space ignores writes and reads as zero. An 8-byte read of a counter returns
its 64-bit value. On SPI a transaction that is not whole words from an aligned address has no effect but the malformed bit,
and one of n aligned words of BAR0 reads them. (R31, R36, R34, spec/02_host_interface.md) -/
def Obligations.RegisterWriteStoresOrIsRefused : Prop :=
  (∀ (s : State) (a : BusAccess), s.dev.regsServed false = true → a.spi = false →
    let reserved := (0x2C ≤ a.addr ∧ a.addr < 0x100) ∨ (0x300 ≤ a.addr ∧ a.addr < 0x400) ∨ (0x600 ≤ a.addr ∧ a.addr < 0xE000)
    (a.addr < 0x10000 → a.nbits ≠ 32 ∨ a.addr % 4 ≠ 0 → Runs (.registerWrite a) s (s.dev.emit .unsupported)) ∧
    (a.write = true → a.nbits = 32 → a.value < 2 ^ 32 →
      (a.addr = 0x0C → Runs (.registerWrite a) s { s.dev with host := { s.dev.host with scratch := a.value } }) ∧
      (a.addr = 0x14 → Runs (.registerWrite a) s { s.dev with host := { s.dev.host with irqEnable := a.value % 2 ^ 27 } }) ∧
      (a.addr = 0x18 → Runs (.registerWrite a) s
        { s.dev with host := { s.dev.host with evtBaseLo := a.value / 4096 * 4096 } }) ∧
      (a.addr = 0x1C → Runs (.registerWrite a) s { s.dev with host := { s.dev.host with evtBaseHi := a.value } }) ∧
      (∀ ch, ch < 8 → a.addr = 0x104 + 0x40 * ch → Runs (.registerWrite a) s
        (s.dev.modChan ch (fun c => { c with reqBase := c.reqBase % 2 ^ 32 + a.value * 2 ^ 32 }))) ∧
      (∀ k, k < 128 → a.addr = 0xE000 + 4 * k → Runs (.registerWrite a) s
        { s.dev with host := { s.dev.host with msixTable := tabPut s.dev.host.msixTable (4 * k) a.value } }) ∧
      (a.addr % 4 = 0 → a.addr < 0x0C ∨ a.addr = 0x20 ∨ reserved → Runs (.registerWrite a) s s.dev)) ∧
    (a.write = false → a.nbits = 32 → a.addr % 4 = 0 → a.addr < 0x10000 →
      ∃ v, Runs (.registerWrite a) s (s.dev.emit (.readData v)) ∧
        (a.addr = 0x00 → v = 0x96630011) ∧ (a.addr = 0x0C → v = s.dev.host.scratch) ∧ (a.addr = 0x10 → v = s.dev.host.irqStatus) ∧
        (a.addr = 0x14 → v = s.dev.host.irqEnable) ∧ (a.addr = 0x20 → v = s.dev.host.evtProd) ∧
        (∀ ch, ch < 8 → a.addr = 0x114 + 0x40 * ch → v = (s.dev.chan ch).reqCons) ∧
        (∀ ch, ch < 8 → a.addr = 0x118 + 0x40 * ch → v = (s.dev.chan ch).rspProd) ∧ (reserved → v = 0))) ∧
  (∀ (s : State) (a : BusAccess) (cls k : Nat), s.dev.regsServed false = true → a.spi = false → a.write = false → a.nbits = 64 →
    1 ≤ cls → cls ≤ 15 → k < 32768 → a.addr = 0x1000000 + 0x40000 * cls + 8 * k → s.dev.counter cls k < 2 ^ 64 →
    Runs (.registerWrite a) s (s.dev.emit (.readData (s.dev.counter cls k)))) ∧
  (∀ (s : State) (a : BusAccess), s.dev.regsServed true = true → a.spi = true →
    (a.nbits = 0 ∨ a.nbits % 32 ≠ 0 ∨ a.addr % 4 ≠ 0 →
      Runs (.registerWrite a) s { s.dev with host := { s.dev.host with spiMalformed := true } }) ∧
    (a.nbits = 32 → a.addr % 4 = 0 → a.addr < 0x10000 → a.write = false →
      Runs (.registerWrite a) s (s.dev.emit (.spi (leb 4 (s.dev.regRead a.addr))))) ∧
    (a.nbits = 32 → a.addr = 0x0C → a.write = true → a.value < 2 ^ 32 →
      Runs (.registerWrite a) s { s.dev with host := { s.dev.host with scratch := a.value } }))

/-- Doorbell, response consumer index, channel enable, channel reset and rebinding act on their channel. On an existing channel
while registers are served: a doorbell moves MBX_REQ_PROD and puts the new requests (at most 16) behind those that wait; a
write of MBX_RSP_CONS drops the responses it passes; a write of MBX_CTRL sets ENABLE; each then takes what may be taken in
order. 0x5A5A in MBX_CHAN_RESET resets the channel with reason 1, any other value does nothing. CHANNEL_REBIND puts a
committed binding in force once no COMMIT is being applied or has its response unposted and nothing taken on the old binding
is unanswered, with a channel reset of reason 3; before that nothing changes. (R40, R42, R43, R60, R29) -/
def Obligations.MailboxChannelRegistersAct : Prop :=
  ∀ (s : State) (ch : Nat),
    (ch < 8 → s.dev.regsServed s.dev.host.spi = true →
      (∀ prod reqs, Runs (.mbxReqProdDoorbell ch prod reqs) s
        (((s.dev.modChan ch (fun c => { c with
            reqProd := prod % 32
            waiting := c.waiting ++ reqs.take (min 16 ((prod % 32 + 32 - (s.dev.chan ch).reqProd) % 32)) })).pullAll ch).drainAll ch)) ∧
      (∀ val, Runs (.mbxRspConsWrite ch val) s
        (((s.dev.modChan ch (fun c => { c with
            rspCons := val % 32, posted := c.posted.drop ((val % 32 + 32 - (s.dev.chan ch).rspCons) % 32) })).pullAll ch).drainAll ch)) ∧
      (∀ val, Runs (.mbxChannelEnable ch val) s
        (((s.dev.modChan ch (fun c => { c with enable := bit val 0 })).pullAll ch).drainAll ch)) ∧
      Runs (.mbxChanReset ch 0x5A5A) s (s.dev.resetChannel ch 1) ∧
      (∀ val, val ≠ 0x5A5A → Runs (.mbxChanReset ch val) s s.dev)) ∧
    (∀ bs, (s.dev.chan ch).rebind = some bs → s.dev.txn.committing = none → s.dev.unpostedCommit = none →
      (s.dev.chan ch).taken = [] → (s.dev.chan ch).running = none → (s.dev.chan ch).completed = [] →
      Runs (.channelRebind ch) s
        ((s.dev.modChan ch (fun c => { c with
          rebind := none, inband := byteAt bs 1 == 1, keySlot := byteAt bs 2, tc := byteAt bs 3, vlan := le bs 4 2
          peerMac := le bs 6 6, portMask := le bs 0x0C 12 })).resetChannel ch 3)) ∧
    ((s.dev.chan ch).rebind = none ∨ s.dev.txn.committing.isSome ∨ (s.dev.chan ch).taken ≠ [] ∨ (s.dev.chan ch).running.isSome ∨
      (s.dev.chan ch).completed ≠ [] → Runs (.channelRebind ch) s s.dev)

/-- A channel reset discards what has not started, zeroes the indices and drops the response in progress. After a reset of
channel ch, whatever the state: the four indices of the channel are zero; nothing waits, nothing is taken, completed or
posted on it; a command in progress stays in progress and its response will be dropped; an open transaction that the channel
owns is gone and its ID remembered as aborted, one of another channel stays; the other channels are unchanged. (R42, R40) -/
def Obligations.ChannelResetDiscards : Prop :=
  ∀ (d : Dev) (ch reason : Nat),
    let d' := d.resetChannel ch reason
    let c := d'.chan ch
    (c.reqProd = 0 ∧ c.reqCons = 0 ∧ c.rspProd = 0 ∧ c.rspCons = 0 ∧ c.waiting = [] ∧ c.taken = [] ∧ c.completed = [] ∧
      c.posted = [] ∧ c.running = (d.chan ch).running ∧ c.dropRunning = (d.chan ch).running.isSome) ∧
    (∀ t, d.txn.txn = some t → t.owner = ch → d'.txn.txn = none ∧ d'.txn.aborted = d.txn.aborted ++ [t.id]) ∧
    (∀ t, d.txn.txn = some t → t.owner ≠ ch → d'.txn.txn = some t) ∧
    (∀ k, k ≠ ch → d'.chan k = d.chan k)

/-- A channel takes waiting requests in their order, as many as may be taken, and never holds more than 16 outstanding. For
every state and channel: taking what waits moves some first n of the waiting requests, in their order, to the end of the
taken ones, each on this channel with no in-band origin; it stops only where nothing waits or the channel may take no more;
a channel with at most 16 requests outstanding still has at most 16; MBX_REQ_CONS moves by n; no other channel changes.
(R40, R43) -/
def Obligations.RequestsTakenInOrderAtMostSixteen : Prop :=
  ∀ (d : Dev) (ch : Nat), ∃ n, n ≤ (d.chan ch).waiting.length ∧
    (let c := d.chan ch
     let c' := (d.pullAll ch).chan ch
     c'.waiting = c.waiting.drop n ∧
     c'.taken = c.taken ++ (c.waiting.take n).map (fun r => { opcode := r.opcode, rq := { r.rq with ch := ch }, origin := none }) ∧
     (c'.waiting = [] ∨ (d.pullAll ch).mayTake ch = false) ∧
     (c.reqCons < 32 → c'.reqCons = (c.reqCons + n) % 32) ∧
     c'.completed = c.completed ∧ c'.posted = c.posted ∧ c'.running = c.running ∧
     (c.outstanding ≤ 16 → c'.outstanding ≤ 16)) ∧
    (∀ k, k ≠ ch → (d.pullAll ch).chan k = d.chan k)

/-- The interrupt status, the event consumer index, the event control register and the event holdoff act as R33 and R50 to R52
say. While registers are served: a write of HIF_IRQ_STATUS clears the bits written 1, and a source set again in the same
tick is raised again; a write of HIF_EVT_CONS moves the index and, where space frees after a loss, SYS_EVENTS_LOST is
written first; a write of HIF_EVT_CTRL sets ENABLE and HOLDOFF and clears OVERFLOW where its bit is written 1, and setting
ENABLE delivers what was kept. The holdoff's end raises EVENT; before its end nothing happens. (R33, R50, R51, R417) -/
def Obligations.InterruptAndEventRegistersAct : Prop :=
  ∀ s : State,
    (s.dev.regsServed s.dev.host.spi = true →
      (∀ val, ∃ d', Runs (.hifIrqStatusClear val 0) s d' ∧ d' = { s.dev with host := { s.dev.host with irqStatus := d'.host.irqStatus } } ∧
        ∀ b, b < 27 → bit d'.host.irqStatus b = (bit s.dev.host.irqStatus b && !bit val b)) ∧
      (∀ val b, b < 27 → ∃ d', Runs (.hifIrqStatusClear val (2 ^ b)) s d' ∧ bit d'.host.irqStatus b = true) ∧
      (∀ val, Runs (.hifEvtConsWrite val) s
        (Dev.reportLost { s.dev with host := { s.dev.host with evtCons := val % 8192 } })) ∧
      (∀ val, bit val 0 = false ∨ s.dev.host.evtEnable = true →
        Runs (.evtRingEnable val) s { s.dev with host := { s.dev.host with
          evtEnable := bit val 0, evtOverflow := s.dev.host.evtOverflow && !bit val 1, evtHoldoff := bits val 16 16 } }) ∧
      (∀ val, bit val 0 = true → s.dev.host.evtEnable = false →
        Runs (.evtRingEnable val) s (Dev.deliverKept { s.dev with host := { s.dev.host with
          evtEnable := true, evtOverflow := s.dev.host.evtOverflow && !bit val 1, evtHoldoff := bits val 16 16 } })) ∧
      (∀ val, bit val 1 = true → s.dev.host.evtEnable = true → ∃ d', Runs (.evtOverflowClear val) s d' ∧ d'.host.evtOverflow = false)) ∧
    (∀ t, s.dev.host.evtDeadline = some t →
      (t < s.dev.uptime → Runs .eventHoldoffExpiry s
        (Dev.raise { s.dev with host := { s.dev.host with evtDeadline := none, evtNew := 0 } } 0)) ∧
      (s.dev.uptime ≤ t → Runs .eventHoldoffExpiry s s.dev))

/-- Raising a source sets its status bit and sends its MSI-X vector exactly on an enabled change from 0 to 1. For every state
and every source bit b: after raising it the bit is 1 and every other status bit keeps its value. On PCIe the source's
vector is sent, once, exactly where the bit was 0 and its enable bit is 1 and the source has a vector (SPI_REJECT has none);
otherwise nothing is driven. Nothing else of the block changes. (R33) -/
def Obligations.InterruptRaisedOnlyOnRisingEnabledBit : Prop :=
  ∀ (d : Dev) (b : Nat),
    bit (d.raise b).host.irqStatus b = true ∧
    (∀ k, k ≠ b → bit (d.raise b).host.irqStatus k = bit d.host.irqStatus k) ∧
    (d.raise b).outs = d.outs ++
      (if bit d.host.irqStatus b = false ∧ bit d.host.irqEnable b = true ∧ d.host.spi = false then
        ((irqVector b).map Output.msix).toList else []) ∧
    d.raise b = { d with host := { d.host with irqStatus := (d.raise b).host.irqStatus }, outs := (d.raise b).outs }

/-- A low-half counter read latches the high half; the aperture reaches only the host owner; a function level reset clears the
host function. COUNTER_LOW_HALF_READ of a low half returns the low 32 bits and latches the high half for that requester; its
next read of the high half returns the latched value, not the live one. HOPPER_APERTURE_ACCESS: a disallowed read returns
zero, a disallowed write is discarded, both are counted in APERTURE_VIOLATION. FUNCTION_LEVEL_RESET on PCIe: BAR0 registers
return to reset, every channel is disabled with nothing waiting, taken or posted, P90's rings are off; fabric, Lauter,
streams, Cupola, gateway, time, Cask and Keep are unchanged. (R34, R35, R32) -/
def Obligations.CounterReadApertureAndFunctionReset : Prop :=
  ∀ s : State,
    (∀ rq off, s.dev.regsServed s.dev.host.spi = true → off % 8 = 0 →
      ∃ d', Runs (.counterLowHalfRead rq off) s d' ∧
        d'.outs = s.dev.outs ++ [.readData (s.dev.windowCounter off % 2 ^ 32)] ∧
        (rq, off, s.dev.windowCounter off / 2 ^ 32) ∈ d'.host.latched) ∧
    (∀ rq off x, s.dev.regsServed s.dev.host.spi = true → off % 8 = 4 →
      s.dev.host.latched.find? (fun y => y.1 == rq && y.2.1 == off / 8 * 8) = some x →
      ∃ d', Runs (.counterLowHalfRead rq off) s d' ∧ d'.outs = s.dev.outs ++ [.readData x.2.2]) ∧
    (∀ a : ApertureAccess, apertureOk s.dev a = false →
      Runs (.hopperApertureAccess a) s (if a.write then s.dev.count 1 6 else (s.dev.count 1 6).emit (.readData 0))) ∧
    (∀ a : ApertureAccess, apertureOk s.dev a = true → a.write = false →
      Runs (.hopperApertureAccess a) s
        (s.dev.emit (.readData (le (memReadN (s.dev.pool a.pool).mem a.off a.width) 0 a.width)))) ∧
    (∀ a : ApertureAccess, apertureOk s.dev a = true → a.write = true →
      Runs (.hopperApertureAccess a) s
        (s.dev.putPool a.pool { s.dev.pool a.pool with
          mem := memWriteN (s.dev.pool a.pool).mem a.off (leb a.width a.value) })) ∧
    (s.dev.host.spi = false → s.dev.host.pcieReady = true → ∃ d', Runs .functionLevelReset s d' ∧
      (∀ ch, ch < 8 → let c := d'.chan ch
        c.enable = false ∧ c.waiting = [] ∧ c.taken = [] ∧ c.completed = [] ∧ c.posted = [] ∧ c.reqProd = 0 ∧ c.rspCons = 0 ∧
          c.running = (s.dev.chan ch).running) ∧
      d'.rxRings = [] ∧ d'.txRings = [] ∧ d'.host.scratch = 0 ∧ d'.host.irqEnable = 0 ∧
      d'.fabric = s.dev.fabric ∧ d'.ports = s.dev.ports ∧ d'.lauter = s.dev.lauter ∧ d'.streams = s.dev.streams ∧
      d'.cupola = s.dev.cupola ∧ d'.gateway = s.dev.gateway ∧ d'.time = s.dev.time ∧ d'.cask = s.dev.cask ∧ d'.keep = s.dev.keep)

/-- On SPI a request is taken or answered BUSY, a response read returns the oldest unconsumed one, a STATUS read clears both
bits. While SPI serves registers outside stage RESET on an enabled host channel of an awake device: a request for which the
channel and the request buffer have room is taken; one for which they do not is answered BUSY with its OPCODE and SEQ, sets
SPI_REJECT and the rejected bit and is counted. A response read returns the oldest posted response's header and payload and
changes nothing. A STATUS read returns and clears the malformed and rejected bits. (R37, R38, R30, R36) -/
def Obligations.SpiPortsServe : Prop :=
  ∀ (s : State), s.dev.host.spi = true → s.dev.regsServed true = true →
    (∀ ch (r : HostReq), ch < 8 → s.dev.host.stage ≠ .reset → s.dev.takesRequests = true → (s.dev.chan ch).enable = true →
      (s.dev.chan ch).inband = false →
      ((s.dev.chan ch).outstanding < 16 → s.dev.spiHeld + 16 + r.rq.payload.length ≤ 32768 →
        Runs (.spiWriteRequest ch r) s
          ((s.dev.take { opcode := r.opcode, rq := { r.rq with ch := ch }, origin := none }).drainAll ch)) ∧
      ((16 ≤ (s.dev.chan ch).outstanding ∨ 32768 < s.dev.spiHeld + 16 + r.rq.payload.length) →
        ∃ d', Runs (.spiWriteRequest ch r) s d' ∧ d'.host.spiRejected = true ∧ bit d'.host.irqStatus 10 = true ∧
          d'.counter 1 7 = (s.dev.counter 1 7 + 1) % 2 ^ 64 ∧ (d'.chan ch).taken = (s.dev.chan ch).taken ∧
          ∃ b : Rsp, (d'.chan ch).completed = (s.dev.chan ch).completed ++ [b] ∧ b.opcode = r.opcode ∧ b.seq = r.rq.seq % 65536 ∧
            b.status = stBusy ∧ b.payload = [])) ∧
    (∀ ch x rest, ch < 8 → (s.dev.chan ch).posted = x :: rest → Runs (.spiReadResponse ch) s (s.dev.emit (.spi (rspSlot x)))) ∧
    Runs .spiStatusRead s (Dev.emit { s.dev with host := { s.dev.host with spiMalformed := false, spiRejected := false } }
      (.spi (leb 1 (b2n s.dev.host.spiMalformed + 2 * b2n s.dev.host.spiRejected))))

/-- P90's rings take descriptors, fetch and deliver frames of the highest class that can, and signal completions. On PCIe. A
write of TAIL adds the descriptors it posts; a write of CTRL sets ENABLE and HOLDOFF, a disabled ring signalling nothing. A
fetch takes the head descriptor of the highest enabled ring that has one: a bad LENGTH is written back with STATUS 1 and
counted in HOST_TX_BAD_LEN, a failed read with STATUS 2, else the frame enters the fabric at P90 and STATUS is 0. A delivery
writes the head frame of the highest class whose ring can take it to the descriptor's buffer, and the descriptor back; a
frame longer than BUF_SIZE is dropped, counted in HOST_RX_TOOBIG and leaves the descriptor. A holdoff's end signals. (R61,
R62, R63, R64) -/
def Obligations.P90RingsServe : Prop :=
  ∀ s : State, s.dev.host.spi = false →
    (∀ tx r tail ds, s.dev.regsServed false = true → r < 8 →
      Runs (.p90RingTailWrite tx r tail ds) s (s.dev.modRing tx r (fun q => { q with
        tail := tail % 4096
        descs := q.descs ++ ds.take ((tail % 4096 + (s.dev.ring tx r).count - (s.dev.ring tx r).tail % (s.dev.ring tx r).count) %
          (s.dev.ring tx r).count) }))) ∧
    (∀ tx r val, s.dev.regsServed false = true → r < 8 →
      Runs (.p90RingEnable tx r val) s (s.dev.modRing tx r (fun q => { q with
        enable := bit val 0, holdoff := bits val 16 16
        unsignalled := if bit val 0 then q.unsignalled else 0
        deadline := if bit val 0 then q.deadline else none }))) ∧
    (∀ r k rest, ringsDown.find? (fun r => (s.dev.ring true r).enable && !(s.dev.ring true r).descs.isEmpty) = some r →
      (s.dev.ring true r).descs = k :: rest →
      let back := fun status => leb 2 k.length ++ leb 2 (k.control / 2 ^ 14 % 2 * 2 ^ 14) ++ leb 2 k.tag ++ zeros 2 ++ leb 1 status ++ zeros 15
      let good := k.length + 4 ≤ (s.dev.port 90).maxFrame ∧ 14 ≤ k.length ∧ k.length ≤ 9212
      (¬ good → ∀ dma, Runs (.p90TxFrameFetch dma) s ((s.dev.count 1 8).ringWriteBack true r (back 1))) ∧
      (good → Runs (.p90TxFrameFetch none) s (s.dev.ringWriteBack true r (back 2))) ∧
      (good → ∀ bs, Runs (.p90TxFrameFetch (some bs)) s
        ((s.dev.injectTs 90 (slice bs 0 k.length) s.dev.now r
          (if bit k.control 14 then some { firmware := false, tag := k.tag } else none)).ringWriteBack true r (back 0)))) ∧
    (∀ x k rest, classesDown.findSome? (fun c => if (s.dev.ring false c).enable && !(s.dev.ring false c).descs.isEmpty then
        stageHeadOf s.dev.fabric.frames 90 c else none) = some x →
      (s.dev.ring false x.2.tc).descs = k :: rest → s.dev.passes 90 x = true →
      let bytes := egressBytes x.2 x.1.bytes
      (bytes.length ≤ k.length → Runs .p90RxDelivery s
        (((s.dev.passOut 90 x).emit (.hostMem k.addr bytes)).ringWriteBack false x.2.tc
          (leb 2 bytes.length ++ leb 2 (2 ^ 14) ++ leb 1 x.1.info.inPort ++ leb 1 x.2.tc ++
            leb 1 (rxReason s.dev x.2) ++ zeros 1 ++ t80le x.1.info.time ++ leb 2 x.1.info.handle ++ zeros 4))) ∧
      (k.length < bytes.length → Runs .p90RxDelivery s ((s.dev.dropCopy x.1.id x.2).count 1 9))) ∧
    (∀ tx r t, (s.dev.ring tx r).deadline = some t → t < s.dev.uptime →
      Runs (.p90HoldoffExpiry tx r) s
        ((s.dev.modRing tx r (fun q => { q with unsignalled := 0, deadline := none })).raise ((if tx then 19 else 11) + r)))

/-- The oldest completed response of a channel is posted: written, then its producer index moves and its interrupt source is
raised. MAILBOX_RESPONSE_POSTED on a channel whose oldest completed response r does not wait for an acknowledgement. On the
host transport: r leaves the completed ones and joins the end of the posted ones, MBX_RSP_PROD advances by one modulo 32,
the channel's status bit is 1 and, on PCIe, the slot at the old MBX_RSP_PROD is the first thing driven. An in-band response
of MB1 to MB7 is sent to its requester and leaves the completed ones; one of MB0 in Kiln goes out on P10. Nothing is posted
where nothing has completed. (R40, R41, R43, R48, R49) -/
def Obligations.ResponsesArePostedInOrder : Prop :=
  ∀ (s : State) (ch : Nat),
    ((s.dev.chan ch).completed = [] → Runs (.mailboxResponsePosted ch) s s.dev) ∧
    (∀ r rest, (s.dev.chan ch).completed = r :: rest → s.dev.held r = false → r.origin = none →
      ∃ d' more, Runs (.mailboxResponsePosted ch) s d' ∧ (d'.chan ch).completed = rest ∧
        (d'.chan ch).posted = (s.dev.chan ch).posted ++ [r] ∧ (d'.chan ch).rspProd = ((s.dev.chan ch).rspProd + 1) % 32 ∧
        bit d'.host.irqStatus (1 + ch) = true ∧
        d'.outs = s.dev.outs ++ (if s.dev.host.spi then [] else
          [.hostMem ((s.dev.chan ch).rspBase + (s.dev.chan ch).rspProd % 16 * 4352) (rspSlot r)]) ++ more) ∧
    (∀ r rest o, (s.dev.chan ch).completed = r :: rest → s.dev.held r = false → r.origin = some o →
      let d1 := (s.dev.modChan ch (fun c => { c with completed := rest })).txnAnswered ch r
      Runs (.mailboxResponsePosted ch) s ((if ch = 0 then d1.sendKiln o r else d1.sendInBand ch o r).pullAll ch))

/-- An in-band request is taken only when port, VLAN, peer, direction, CMAC and replay are in order; otherwise it is counted and
dropped. A management frame (EtherType, subtype and BASE_MAC) received whole at a wire port or a T1S port (in twin mode not
P9) while the device takes requests. One longer than the port's MAX_FRAME is no message (R49). With a VERSION other than 1
or a channel outside 1 to 7 it is rejected as malformed. On an in-band channel whose PORT_MASK holds the port, with the
channel's VLAN, an allowed source and DIR 0, of sufficient length (a wrong DIR or a short frame is rejected as malformed): a
CMAC that Keep does not confirm is rejected with reason 3, a REPLAY not above the highest accepted one with reason 4, and
else, with fewer than 16 outstanding, the request is taken, its REPLAY becomes the highest accepted and it is counted.
Frames to others change nothing. (Model's choice of log entry 83: a channel not bound in-band counts as not permitted, and
the VLAN compared is the outer tag's.) (R46, R47, R48, R49) -/
def Obligations.InBandRequestsAreCheckedAndTaken : Prop :=
  ∀ (s : State) (f : RxFrame),
    let g := gristL2 f.bytes
    let o := g.etypeOff + 2
    let ch := byteAt f.bytes (o + 2)
    let c := s.dev.chan ch
    let vid := if g.vlanCount = 0 then 0 else g.outer % 4096
    let len := le f.bytes (o + 14) 2
    let check := s.dev.firmwareCmac c.keySlot (slice f.bytes o (28 + len))
    let mac := slice f.bytes (o + 28 + len) 16
    let replay := be f.bytes (o + 4) 8
    f.fcsOk = true → f.violations = 0 → f.port < 50 → ¬(f.port = 9 ∧ s.dev.twin.enable = true) → s.dev.takesRequests = true →
    ((s.dev.port f.port).maxFrame < frameLen f.bytes → Runs (.inBandRequestFrame f) s s.dev) ∧
    (frameLen f.bytes ≤ (s.dev.port f.port).maxFrame →
    (g.etype ≠ 0x88B5 ∨ byteAt f.bytes o ≠ 1 ∨ g.da ≠ Config.baseMac → Runs (.inBandRequestFrame f) s s.dev) ∧
    (g.etype = 0x88B5 → byteAt f.bytes o = 1 → g.da = Config.baseMac →
      (byteAt f.bytes (o + 1) ≠ 1 ∨ ch < 1 ∨ 7 < ch → Runs (.inBandRequestFrame f) s (s.dev.mgmtReject f.port 4 2)) ∧
      (byteAt f.bytes (o + 1) = 1 → 1 ≤ ch → ch ≤ 7 →
        (c.inband = false ∨ bit c.portMask f.port = false ∨ vid ≠ c.vlan ∨ (c.peerMac ≠ 0 ∧ g.sa ≠ c.peerMac) →
          Runs (.inBandRequestFrame f) s (s.dev.mgmtReject f.port 3 1)) ∧
        (c.inband = true → bit c.portMask f.port = true → vid = c.vlan → (c.peerMac = 0 ∨ g.sa = c.peerMac) →
          byteAt f.bytes (o + 3) ≠ 0 ∨ f.bytes.length < o + 44 + len → Runs (.inBandRequestFrame f) s (s.dev.mgmtReject f.port 4 2)) ∧
        (c.inband = true → bit c.portMask f.port = true → vid = c.vlan → (c.peerMac = 0 ∨ g.sa = c.peerMac) →
          byteAt f.bytes (o + 3) = 0 → o + 44 + len ≤ f.bytes.length →
          (check.1 ≠ some mac → Runs (.inBandRequestFrame f) s (check.2.mgmtReject f.port 1 3)) ∧
          (check.1 = some mac → replay ≤ c.rxReplay → Runs (.inBandRequestFrame f) s (check.2.mgmtReject f.port 2 4)) ∧
          (check.1 = some mac → c.rxReplay < replay → c.outstanding < 16 →
            let r := messageReq ch (slice f.bytes (o + 12) (16 + len))
            Runs (.inBandRequestFrame f) s
              ((((check.2.modChan ch (fun c => Chan.replayStored { c with rxReplay := replay, accepted := c.accepted + 1 })).count 1 0).take
                { opcode := r.opcode, rq := r.rq, origin := some { port := f.port, vlan := vid, sa := g.sa } }).drainAll ch))))))

/-- The system commands complete with the answers chapter 02 gives them. For an admitted request with data of the stated length
and ranges. SYS_IDENTIFY answers 64 bytes beginning with the device ID 0x9663 and the revision, holding lifecycle, HIF_STAGE
and the transport; SYS_VERSION answers its 11 records; both change nothing. SYS_RESET schedules the reset 100 us on, and
SYS_RESET_START performs it no earlier. SYS_CLAIMS_LIST answers the number of claims listed and 8 bytes for each.
SYS_COUNTER_SNAPSHOT answers local time; SYS_COUNTER_CLEAR clears its range. SYS_EVENT_FETCH answers the events of the
history from the SEQNUM on and changes nothing but the index of free values. (R26, R52, R57, R58, R59, R382,
spec/02_host_interface.md) -/
def Obligations.SystemCommandsComplete : Prop :=
  Completes .sysIdentify 0x0101 (rspMax 64) (fun _ _ bs => bs = []) (fun d _ _ d' pl => d' = d ∧ pl.length = 64 ∧
    le pl 0 4 = 0x9663 ∧ byteAt pl 4 = 0x11 ∧ byteAt pl 5 = d.keep.lifecycle % 256 ∧ byteAt pl 6 = stageCode d.host.stage ∧
    byteAt pl 7 = b2n d.host.spi ∧ byteAt pl 30 = b2n d.safety.split ∧ byteAt pl 31 = b2n d.twin.strap + 2 * b2n d.twin.act) ∧
  Completes .sysVersion 0x0102 (rspMax 176) (fun _ _ bs => bs = []) (fun d _ _ d' pl => d' = d ∧ pl = d.versions ∧ pl.length = 176) ∧
  Completes .sysReset 0x0103 (rspMax 0)
    (fun d _ bs => d.txn.committing = none ∧ bs.length = 8 ∧ layoutOk [fr 0 1 1 2, fr 4 4 0x6C797377 0x6C797377] bs = true)
    (fun d _ bs d' pl => pl = [] ∧ d' = { d with boot := { d.boot with resetDue := some (d.uptime + 100000, byteAt bs 0, 0) } }) ∧
  (∀ (s : State) (at_ kind : Nat), s.dev.boot.resetDue = some (at_, kind, 0) →
    (at_ ≤ s.dev.uptime → s.dev.resettable = true → Runs .sysResetStart s (s.dev.resetNow kind)) ∧
    (s.dev.uptime < at_ → Runs .sysResetStart s s.dev)) ∧
  Completes .sysClaimsList 0x0104 (rspMax 4008)
    (fun _ _ bs => bs.length = 8 ∧ layoutOk [fa 0 4] bs = true ∧ (byteAt bs 0 = 0xFF ∨ (1 ≤ byteAt bs 0 ∧ byteAt bs 0 ≤ 6)))
    (fun d _ bs d' pl => d' = d ∧
      let n := min 500 (((d.claims.filter (claimListed (byteAt bs 0) (byteAt bs 1))).length) - le bs 2 2)
      le pl 0 2 = n ∧ pl.length = 8 + 8 * n) ∧
  Completes .sysCounterSnapshot 0x0105 (rspMax 12)
    (fun _ _ bs => bs.length = 8 ∧ layoutOk [fa 0 2] bs = true ∧ bit (byteAt bs 0) 0 = false)
    (fun d _ bs d' pl => pl = t80le d.now ++ zeros 2 ∧
      d' = { d with host := { d.host with snapshot := d.latchCounters (le bs 0 2) } }) ∧
  Completes .sysCounterClear 0x0106 (rspMax 0)
    (fun _ _ bs => bs.length = 8 ∧ layoutOk [fr 0 1 1 15, fr 2 2 0 32767, fr 4 2 1 32768] bs = true ∧ le bs 2 2 + le bs 4 2 ≤ 32768)
    (fun d _ bs d' pl => pl = [] ∧
      (∀ cls i, i < 32768 → d'.counter cls i =
        if cls = byteAt bs 0 ∧ le bs 2 2 ≤ i ∧ i < le bs 2 2 + le bs 4 2 then 0 else d.counter cls i) ∧
      d' = { d with host := { d.host with counters := d'.host.counters } }) ∧
  Completes .sysEventFetch 0x0107 (rspMax 2056)
    (fun d _ bs => bs.length = 8 ∧ layoutOk [fa 0 4, fr 4 2 1 64] bs = true ∧ 0 ≤ signed 32 (le bs 0 4 + 2 ^ 32 - d.oldestSeq))
    (fun d _ bs d' pl =>
      let n := min (le bs 4 2) (d.host.history.length - (signed 32 (le bs 0 4 + 2 ^ 32 - d.oldestSeq)).toNat)
      d' = { d with freeIx := d'.freeIx } ∧ le pl 0 2 = n ∧ le pl 4 4 = d.oldestSeq % 2 ^ 32 ∧ pl.length = 8 + 32 * n)

/-- A system or transaction command that cannot be served is refused with its status and without effect. SYS_RESET while a
COMMIT is being applied is BUSY; SYS_COUNTER_CLEAR past the end of a class and SYS_COUNTER_SNAPSHOT of class 0 are
BAD_PARAM; SYS_EVENT_FETCH of events older than the history is NOT_FOUND with the oldest SEQNUM in DETAIL; TXN_BEGIN while a
transaction is open or being committed is BUSY with the owner in DETAIL; TXN_ABORT of a transaction another channel owns is
NOT_PERMITTED, of one that is not open NOT_FOUND; TXN_COMMIT of another channel's is NOT_PERMITTED, of one that ended
TXN_ABORTED. These come before the length (R39 steps 5 and 6); a request of another length is BAD_LENGTH. (R39, R52, R53,
R57, R443, spec/02_host_interface.md) -/
def Obligations.SystemCommandsRefuse : Prop :=
  Refuses .sysReset 0x0103 (rspMax 0) (fun d _ bs => d.txn.committing.isSome = true ∧ bs.length = 8 ∧
    layoutOk [fr 0 1 1 2, fr 4 4 0x6C797377 0x6C797377] bs = true) stBusy (fun _ _ _ => 0) ∧
  Refuses .sysCounterClear 0x0106 (rspMax 0) (fun _ _ bs => bs.length = 8 ∧ 32768 < le bs 2 2 + le bs 4 2) stBadParam
    (fun _ _ _ => 0) ∧
  Refuses .sysCounterSnapshot 0x0105 (rspMax 12) (fun _ _ bs => bs.length = 8 ∧ bit (byteAt bs 0) 0 = true) stBadParam
    (fun _ _ _ => 0) ∧
  Refuses .sysEventFetch 0x0107 (rspMax 2056) (fun d _ bs => bs.length = 8 ∧ layoutOk [fa 0 4, fr 4 2 1 64] bs = true ∧
    signed 32 (le bs 0 4 + 2 ^ 32 - d.oldestSeq) < 0) stNotFound (fun d _ _ => d.oldestSeq) ∧
  Refuses .txnBegin 0x0601 (rspMax 4) (fun d _ bs => d.txnHeldBy.isSome = true ∧ bs.length = 4 ∧
    layoutOk [fr 0 2 0 3600] bs = true) stBusy (fun d _ _ => d.txnHeldBy.getD 0 % 16) ∧
  Refuses .txnAbort 0x0603 (rspMax 0) (fun d rq bs => ∃ x, d.txn.txn = some x ∧ x.id = le bs 0 4 ∧ x.owner ≠ rq.ch)
    stNotPermitted (fun _ _ _ => 0) ∧
  Refuses .txnAbort 0x0603 (rspMax 0) (fun d _ bs => ∀ x, d.txn.txn = some x → x.id ≠ le bs 0 4)
    stNotFound (fun _ _ _ => 0) ∧
  Refuses .txnCommit 0x0602 (rspMax 4080) (fun d rq bs => d.txn.committing = none ∧
    ∃ x, d.txn.txn = some x ∧ x.id = le bs 0 4 ∧ x.owner ≠ rq.ch) stNotPermitted (fun _ _ _ => 0) ∧
  Refuses .txnCommit 0x0602 (rspMax 4080) (fun d _ bs => d.txn.committing = none ∧ (∀ x, d.txn.txn = some x → x.id ≠ le bs 0 4) ∧
    le bs 0 4 ∈ d.txn.aborted) stTxnAborted (fun _ _ _ => 0) ∧
  Refuses .txnCommit 0x0602 (rspMax 4080) (fun d rq bs => d.txn.committing = none ∧
    (∃ x, d.txn.txn = some x ∧ x.id = le bs 0 4 ∧ x.owner = rq.ch) ∧ bs.length ≠ 8) stBadLength (fun _ _ _ => 0) ∧
  Refuses .sysIdentify 0x0101 (rspMax 64) (fun _ _ bs => bs ≠ []) stBadLength (fun _ _ _ => 0) ∧
  Refuses .txnBegin 0x0601 (rspMax 4) (fun _ _ bs => bs.length ≠ 4) stBadLength (fun _ _ _ => 0)

/-- A snapshot holds every counter of the selected classes as it is, and keeps the others. For a block whose counter and
snapshot tables are in canonical form: after latching the classes of a mask, the snapshot window holds for every class in
the mask exactly the live counter, and for every other class what it held before; the result is again in canonical form.
(R58, R34) -/
def Obligations.SnapshotHoldsSelectedCounters : Prop :=
  ∀ (d : Dev) (mask : Nat), tabSorted d.host.counters = true → tabSorted d.host.snapshot = true →
    tabSorted (d.latchCounters mask) = true ∧
    ∀ cls i, i < 32768 → tabGet 0 (d.latchCounters mask) (counterKey cls i) =
      if bit mask cls then d.counter cls i else tabGet 0 d.host.snapshot (counterKey cls i)

/-- TXN_BEGIN opens, TXN_COMMIT applies or refuses the whole, TXN_ABORT and the idle timeout discard, GEN_FLIP switches the
banks. TXN_BEGIN with none open or being committed answers the next ID, never 0, and the channel owns the open, empty
transaction. TXN_COMMIT by the owner: if the evaluation refuses, its status, DETAIL and payload are answered and (DRY_RUN 0)
the transaction ends with reason 4; if it passes, everything staged is applied, the transaction leaves the open slot and the
answer follows when the bank switches it needs are done (at once where none is); a dry run that passes changes nothing but
the stored admission report. TXN_ABORT by the owner ends it with reason 2. TXN_STATUS changes nothing. The idle timeout ends
it with reason 3 only after its deadline and with none of its commands in flight. GEN_FLIP flips once nothing of the old
generation remains or 2 us have passed. (R53, R55, R56, R150, R151, R227, R443, spec/02_host_interface.md) -/
def Obligations.TransactionCommandsComplete : Prop :=
  Completes .txnBegin 0x0601 (rspMax 4) (fun d _ bs => d.txnHeldBy = none ∧ bs.length = 4 ∧ layoutOk [fr 0 2 0 3600] bs = true)
    (fun d rq bs d' pl => ∃ x : OpenTxn, x.owner = rq.ch ∧ x.staged = [] ∧
      x.id = (if 2 ^ 32 - 1 ≤ d.txn.lastId then 1 else d.txn.lastId + 1) ∧
      x.idleMs = 1000 * (if le bs 0 2 = 0 then 60 else le bs 0 2) ∧ x.deadline = d.uptime + 1000000 * x.idleMs ∧
      pl = leb 4 x.id ∧ d' = { d with txn := { d.txn with lastId := x.id, txn := some x } }) ∧
  (∀ s rq t d r x, s.dev.admitted 0x0602 rq (rspMax 4080) = some (t, d, r) → r.data.length = 8 → d.txn.committing = none →
    d.txn.txn = some x → x.id = le r.data 0 4 → x.owner = rq.ch →
    let v := d.evaluateTxn (batchOf x.staged)
    (∀ why, v.refused = some why → le r.data 4 4 = 0 →
      Runs (.txnCommit rq) s (((v.dev.endTxn 4).answerData t why.1 why.2.1 why.2.2 r).drainAll rq.ch)) ∧
    (v.refused = none → le r.data 4 4 = 0 → Runs (.txnCommit rq) s
      (Dev.finishCommit ((Dev.applyTxn { v.dev with txn := { v.dev.txn with txn := none } } x.id rq.ch .txn x.staged).modChan rq.ch
        (fun c => { c with running := some t })))) ∧
    (v.refused = none → le r.data 4 4 = 1 → Runs (.txnCommit rq) s
      (v.dev.finish t r rq.ch 0 (leb 4 d.txn.generation ++ leb 4 x.staged.length ++ zeros 8)))) ∧
  Completes .txnAbort 0x0603 (rspMax 0)
    (fun d rq bs => bs.length = 4 ∧ ∃ x, d.txn.txn = some x ∧ x.id = le bs 0 4 ∧ x.owner = rq.ch)
    (fun d _ _ d' pl => pl = [] ∧ d' = d.endTxn 2) ∧
  Completes .txnStatus 0x0604 (rspMax 16) (fun _ _ bs => bs = []) (fun d _ _ d' pl => d' = d ∧ pl = d.txnStatusBytes ∧ pl.length = 16) ∧
  (∀ (s : State) x, s.dev.txn.txn = some x →
    (x.deadline < s.dev.uptime → s.dev.txnRequestTaken x.owner = false → Runs .txnIdleTimeout s (s.dev.endTxn 3)) ∧
    (s.dev.uptime ≤ x.deadline ∨ s.dev.txnRequestTaken x.owner = true → Runs .txnIdleTimeout s s.dev)) ∧
  (∀ (s : State) c since, s.dev.txn.committing = some c → c.rules = some since →
    (s.dev.oldGenLeft = false ∨ since + 2000 ≤ s.dev.uptime → ∃ d1, d1 = s.dev.flipBanks c.staged s.dev.txn.generation c.pause ∧
      Runs .genFlip s (Dev.finishCommit { d1 with txn := { d1.txn with committing := some { c with rules := none } } })) ∧
    (s.dev.oldGenLeft = true → s.dev.uptime < since + 2000 → Runs .genFlip s s.dev))

/-- Every transactional command that passes its staging check joins the end of the open transaction and takes no other effect.
For each of the 51 transactional commands: admitted on the channel that owns the open transaction (FLAGS.STAGED with its
TXN), its data passing the command's length, ranges and reserved fields, with room in the staging store (16,384 commands, 2
MiB), it is appended to the staged commands and answered OK with its zero-based index in DETAIL. The block is otherwise the
one the admission left: nothing is put in force before TXN_COMMIT. (R53, R54, R445, spec/02_host_interface.md) -/
def Obligations.TransactionalCommandsAreStaged : Prop :=
  Stages .sysChannelCfg 0x0108 checkChannelCfg ∧ Stages .portCfg 0x0201 checkPortCfg ∧ Stages .portFilterSet 0x0202 checkPortFilter ∧
  Stages .portPlcaCfg 0x0203 checkPortPlca ∧ Stages .fabBufferCfg 0x0301 checkFabBuffer ∧ Stages .fabMirrorCfg 0x0302 checkFabMirror ∧
  Stages .fabCaptureCfg 0x0303 checkFabCapture ∧ Stages .fabLagCfg 0x0305 checkFabLag ∧ Stages .fabHopperCfg 0x0307 checkFabHopper ∧
  Stages .ltrPortCfg 0x0401 checkLtrPort ∧ Stages .ltrVlanSet 0x0402 checkLtrVlan ∧ Stages .ltrFdbStatic 0x0403 checkLtrStatic ∧
  Stages .ltrFdbCfg 0x0404 checkLtrFdbCfg ∧ Stages .ltrMcastGroup 0x0407 checkLtrMcast ∧ Stages .ltrAclWrite 0x0408 checkLtrAcl ∧
  Stages .ltrProfileSet 0x0409 checkLtrProfile ∧ Stages .ltrPolicerSet 0x040A checkLtrPolicer ∧
  Stages .ltrZoneMatrix 0x040B checkLtrMatrix ∧ Stages .ltrCtCfg 0x040C checkLtrCt ∧
  Stages .strStreamSet 0x0501 checkStrStream ∧ Stages .strMeterSet 0x0502 checkStrMeter ∧ Stages .strGateCfg 0x0503 checkStrGateCfg ∧
  Stages .strGateEntries 0x0504 checkStrGateEntries ∧ Stages .strCbsSet 0x0505 checkStrCbs ∧
  Stages .strPreemptCfg 0x0506 checkStrPreempt ∧ Stages .strFrerSet 0x0507 checkStrFrer ∧ Stages .strObserveCfg 0x0508 checkStrObserve ∧
  Stages .admPathSet 0x0605 checkPathSet ∧ Stages .admBusDeclare 0x0606 checkBusDeclare ∧
  Stages .cupGroupSet 0x0701 checkCupGroup ∧ Stages .cupMembersSet 0x0702 checkCupMembers ∧ Stages .cupTripSet 0x0703 checkCupTrip ∧
  Stages .gwCanCfg 0x0801 checkCanCfg ∧ Stages .gwCanFilter 0x0802 checkCanFilter ∧ Stages .gwSerialCfg 0x0803 checkSerialCfg ∧
  Stages .gwPollSet 0x0804 checkPollSet ∧ Stages .gwSrcPduSet 0x0805 checkSrcPdu ∧ Stages .gwDstPduSet 0x0806 checkDstPdu ∧
  Stages .gwRouteSet 0x0807 checkRouteSet ∧ Stages .gwScaleSet 0x0808 checkScaleSet ∧
  Stages .timeClockCfg 0x0901 checkTimeClock ∧ Stages .timeDomainCfg 0x0902 checkTimeDomain ∧ Stages .timePortCfg 0x0903 checkTimePort ∧
  Stages .timeBeaconCfg 0x0904 checkTimeBeacon ∧ Stages .timeIoCfg 0x0905 checkTimeIo ∧
  Stages .keepTamperCfg 0x0B0D checkTamperCfg ∧ Stages .pwrDomainCfg 0x0C01 checkDomainCfg ∧ Stages .pwrWakeCfg 0x0C02 checkWakeCfg ∧
  Stages .pwrPolicyCfg 0x0C03 checkPolicyCfg ∧ Stages .safePolicyCfg 0x0D05 checkSafePolicy ∧ Stages .safeTwinCfg 0x0D06 checkSafeTwin

/-- A transactional request whose FLAGS or TXN do not name the open transaction of its own channel is refused before its data
are looked at. For a known transactional opcode that the stage serves on the channel, in a request of at most 4,096 bytes
with valid FLAGS and no reserved word: without STAGED it is NOT_IN_TXN; naming the open transaction from another channel
NOT_PERMITTED; naming one that ended TXN_ABORTED; naming any other NOT_IN_TXN; and only naming the open transaction from its
owner does the header check pass. (R39, R53, R54) -/
def Obligations.StagedCommandNeedsItsTransaction : Prop :=
  ∀ (d : Dev) (op : Nat) (rq : Req), rq.length ≤ 4096 → knownOpcode op = true → isTransactional op = true →
    d.serves rq.ch op = true → rq.resv = 0 → rq.flags < 8 →
    (reqStaged rq = false → rq.txn = 0 → headerError d op rq = some stNotInTxn) ∧
    (reqStaged rq = false → rq.txn ≠ 0 → headerError d op rq = some stBadParam) ∧
    (reqStaged rq = true →
      (∀ x, d.txn.txn = some x → x.id = rq.txn → x.owner = rq.ch → headerError d op rq = none) ∧
      (∀ x, d.txn.txn = some x → x.id = rq.txn → x.owner ≠ rq.ch → headerError d op rq = some stNotPermitted) ∧
      ((∀ x, d.txn.txn = some x → x.id ≠ rq.txn) → rq.txn ∈ d.txn.aborted → headerError d op rq = some stTxnAborted) ∧
      ((∀ x, d.txn.txn = some x → x.id ≠ rq.txn) → rq.txn ∉ d.txn.aborted → headerError d op rq = some stNotInTxn))

/-- The header of a request is checked in the order of R39 and the first failure is the answer. For every state and request:
longer than 4,096 bytes it is BAD_LENGTH whatever else is wrong; else with an unknown opcode BAD_OPCODE; else with an opcode
the present stage does not serve on its channel WRONG_MODE; else with a reserved word or FLAGS bit set, a TXN without
STAGED, or STAGED on a command that is not transactional BAD_PARAM; an immediate command that fails none of these passes.
(R39, R30, spec/02_host_interface.md) -/
def Obligations.HeaderChecksInOrder : Prop :=
  ∀ (d : Dev) (op : Nat) (rq : Req),
    (4096 < rq.length → headerError d op rq = some stBadLength) ∧
    (rq.length ≤ 4096 → knownOpcode op = false → headerError d op rq = some stBadOpcode) ∧
    (rq.length ≤ 4096 → knownOpcode op = true → d.serves rq.ch op = false → headerError d op rq = some stWrongMode) ∧
    (rq.length ≤ 4096 → knownOpcode op = true → d.serves rq.ch op = true →
      (rq.resv ≠ 0 ∨ 8 ≤ rq.flags ∨ (reqStaged rq = false ∧ rq.txn ≠ 0) ∨ (reqStaged rq = true ∧ isTransactional op = false) →
        headerError d op rq = some stBadParam) ∧
      (rq.resv = 0 → rq.flags < 8 → reqStaged rq = false → rq.txn = 0 → isTransactional op = false → headerError d op rq = none))

/-- A request that arrives on an idle, enabled channel is admitted with its data, and its answer is the channel's newest
completed response. On PCIe, a channel below 8 that is enabled, bound to the host, with nothing waiting, taken or in
progress and fewer than 16 outstanding; an immediate request with a valid header, no flags and no response DETAIL. It is
admitted with the LENGTH bytes of its payload as data; beside the channel only the record of host activity and the update
unit's idle times change, MBX_REQ_CONS and MBX_REQ_PROD advance by one. A command that then answers leaves, behind the
completed responses, one with the request's OPCODE and SEQ, status OK and the payload. (R39, R40, R41, R43, R337) -/
def Obligations.PlainRequestIsAdmittedAndAnswered : Prop :=
  ∀ (s : State) (op : Nat) (rq : Req) (most : Dev → Bytes → Nat),
    let d0 := s.dev
    let c := d0.chan rq.ch
    rq.ch < 8 → d0.host.spi = false → d0.takesRequests = true → c.enable = true → c.inband = false → c.waiting = [] → c.taken = [] →
    c.running = none → c.outstanding < 16 → rq.length ≤ 4096 → knownOpcode op = true → d0.serves rq.ch op = true → rq.resv = 0 →
    rq.flags = 0 → rq.txn = 0 → isTransactional op = false → d0.txn.committing = none →
    ∃ t d r, d0.admitted op rq most = some (t, d, r) ∧ t.opcode = op ∧ t.rq = rq ∧ t.origin = none ∧ r.data = inlineBytes rq ∧
      d = { d0 with chans := d.chans, lantern := { d0.lantern with lastRequest := some d0.uptime, hostActive := true }
                    update := d.update } ∧
      (∀ k, k ≠ rq.ch → d.chan k = d0.chan k) ∧
      d.chan rq.ch = { c with reqCons := (c.reqCons + 1) % 32, reqProd := (c.reqProd + 1) % 32 } ∧
      (∀ (d' : Dev) (detail : Nat) (pl : Bytes), d'.chans = d.chans → ∃ b : Rsp,
        ((d'.finish t r rq.ch detail pl).chan rq.ch).completed = c.completed ++ [b] ∧ b.opcode = op ∧ b.seq = rq.seq % 65536 ∧
        b.status = stOk ∧ b.detail = detail % 2 ^ 32 ∧ b.payload = pl ∧ b.origin = none)

/-- An arbitration round takes what was raised, moves the holder one beat, decides and advances the wait counters; a transfer
commits at its last beat. SERVICE_ARBITER_ROUND answers the arbiter with, in this order, the raised requests entered (R24),
the holder's beat made (which commits at its last, before any revocation, R23), the decision of R19 and R21 taken and the
wait counters of R20 advanced, and changes nothing else. FABRIC_TRANSFER_COMMIT with a holder at its last beat frees the
grant and returns that requester's wait counter to zero (R20, R22); with more beats left it does nothing. (R19, R20, R21,
R22, R23, R24) -/
def Obligations.ArbiterRoundGrantsAndCounts : Prop :=
  (∀ (s : State) raised, Runs (.serviceArbiterRound raised) s
    { s.dev with arb :=
      let a := (raised.foldl Arbiter.raised s.dev.arb).beat
      (a.decide_ s.dev.now).age a.waiting }) ∧
  (∀ (s : State) (h : Holder), s.dev.arb.holder = some h →
    (h.left ≤ 1 → ∃ d', Runs .fabricTransferCommit s d' ∧ d' = { s.dev with arb := d'.arb } ∧ d'.arb.holder = none ∧
      (d'.arb.req h.req).wait = 0 ∧ (d'.arb.req h.req).pending = false ∧
      ∀ k, k ≠ h.req → d'.arb.req k = s.dev.arb.req k) ∧
    (1 < h.left → Runs .fabricTransferCommit s s.dev))

/-- The winner of a round is forced if any waiting request is, has the nearest latest-service time and the lowest number among
equals. For every arbiter whose waiting requests have latest-service times within one 2^31 ns window (so that R4's signed
differences order them): there is a winner exactly where a request waits; the winner waits; if a waiting request is at its
wait limit the winner is at its limit; and every other candidate (forced ones only, where there is one) has a later latest-
service time, or the same and a higher number. (R19, R4) -/
def Obligations.ArbiterWinnerIsNearestDeadline : Prop :=
  ∀ (a : Arbiter) (base : Nat),
    (∀ r, r ∈ a.waiting → (a.req r).lst < 2 ^ 32 ∧ ((a.req r).lst + 2 ^ 32 - base % 2 ^ 32) % 2 ^ 32 < 2 ^ 31) →
    (a.winner = none ↔ a.waiting = []) ∧
    (∀ w, a.winner = some w → w ∈ a.waiting ∧
      ((∃ r, r ∈ a.waiting ∧ (a.req r).forced = true) → (a.req w).forced = true) ∧
      (∀ r, r ∈ a.waiting → r ≠ w →
        ((∃ k, k ∈ a.waiting ∧ (a.req k).forced = true) → (a.req r).forced = true) →
        let off := fun k => ((a.req k).lst + 2 ^ 32 - base % 2 ^ 32) % 2 ^ 32
        off w < off r ∨ (off w = off r ∧ w < r)))

/-- A wait counter rises by one in each round in which its requester waits from the start to the end without the grant, never
above its limit. For every arbiter b as a round begins and a after its decision: after the counters advance, the counter of
a requester that waited in b and still waits in a is one higher or at its limit; any other, a holder revoked in the round
among them, keeps its counter; nothing else of any requester or of the grant changes. (R20) -/
def Obligations.ArbiterWaitCountersSaturate : Prop :=
  ∀ (a b : Arbiter), (∀ r, (a.req r).wait ≤ (a.req r).limit) →
    (a.age b.waiting).holder = a.holder ∧
    ∀ r, (a.age b.waiting).req r = { a.req r with wait :=
      if r ∈ b.waiting ∧ r ∈ a.waiting then (if (a.req r).wait < (a.req r).limit then (a.req r).wait + 1 else (a.req r).limit) else (a.req r).wait }

/-- A forced holder keeps the grant until its transfer commits; any other is revoked only for a forced or a more urgent winner.
For every arbiter and time: the decision of a round leaves a forced holder in place; it replaces an unforced one only by a
waiting requester that is forced, or before whose latest-service time the holder's remaining beats (1.25 ns each) would not
end; and where the grant is free and a request waits, some waiting request gets it with all its beats. (R20, R21, R23) -/
def Obligations.ForcedHolderIsNeverRevoked : Prop :=
  ∀ (a : Arbiter) (now : Nat),
    (∀ h, a.holder = some h → h.forced = true → a.decide_ now = a) ∧
    (∀ h h', a.holder = some h → (a.decide_ now).holder = some h' → h' ≠ h →
      h'.req ∈ a.waiting ∧ ((a.req h'.req).forced = true ∨ holderLate now h.left (a.req h'.req).lst = true)) ∧
    (a.holder = none → a.waiting ≠ [] → ∃ h, (a.decide_ now).holder = some h ∧ h.req ∈ a.waiting ∧ h.left = (a.req h.req).beats) ∧
    (∀ r, (a.decide_ now).req r = a.req r)

/-- A received frame is judged by length, size limit, check sequence, MAC control and filter, in that order. For every port and
frame (bytes from DA to before the FCS; L is their number plus 4): L below 64 counts as undersize with a valid FCS and as a
fragment without; else L above the limit in force when its first byte arrived counts as oversize whatever its FCS; else an
invalid FCS or a code violation counts as an FCS error; else a MAC control frame is discarded (PAUSE and PFC apart from the
others); else the filter may drop it; else it is accepted. (R69, R72, R75, R76, R77, R444) -/
def Obligations.FrameVerdictFollowsR444 : Prop :=
  ∀ (q : Port) (f : RxFrame),
    let len := f.bytes.length + 4
    let good := f.fcsOk = true ∧ f.violations = 0 ∧ f.assyFailed = false
    let limit := if f.firstByte < q.maxSince then q.oldMax else q.maxFrame
    (len < 64 → good → rxFault q f = some 6) ∧ (len < 64 → ¬ good → rxFault q f = some 7) ∧
    (64 ≤ len → limit < len → rxFault q f = some 8) ∧
    (64 ≤ len → len ≤ limit → ¬ good → rxFault q f = some 5) ∧
    (64 ≤ len → len ≤ limit → good →
      (be f.bytes 12 2 = 0x8808 → rxFault q f = if be f.bytes 14 2 = 1 ∨ be f.bytes 14 2 = 0x0101 then some 11 else some 12) ∧
      (be f.bytes 12 2 ≠ 0x8808 → rxFault q f = if filterPasses q f.bytes then none else some 10))

/-- The receive filter: reserved addresses pass, then the exact entry decides, then the mode, the address type and the hash bin.
For every port and frame: a destination 01-80-C2-00-00-0X passes; any other that a used entry names passes exactly where the
first such entry's ACTION is 1; one that no used entry names passes where filtering is off or it is an individual address; a
broadcast by the broadcast setting; any other group address by the bit of its hash bin (CRC-32 of the address, modulo 512).
(R77, R78) -/
def Obligations.ReceiveFilterDecides : Prop :=
  ∀ (q : Port) (bs : Bytes),
    let da := be bs 0 6
    let named := q.entries.find? (fun e => e.2.1 != 0 && e.2.2 == da)
    (da / 16 = 0x0180C200000 → filterPasses q bs = true) ∧
    (da / 16 ≠ 0x0180C200000 →
      (∀ e, named = some e → filterPasses q bs = (e.2.1 == 1)) ∧
      (named = none → (q.filterMode % 2 = 0 → filterPasses q bs = true) ∧
        (da / 2 ^ 40 % 2 = 0 → filterPasses q bs = true) ∧
        (q.filterMode % 2 = 1 → da = 0xFFFFFFFFFFFF → filterPasses q bs = bit q.filterMode 1) ∧
        (q.filterMode % 2 = 1 → da / 2 ^ 40 % 2 = 1 → da ≠ 0xFFFFFFFFFFFF →
          filterPasses q bs = bit q.hashBins (crc32 (beb 6 da) % 512))))

/-- A received frame is counted under its verdict, or enters its slice's FIFO whole or not at all. MAC_FRAME_RECEIVED at an
enabled Ethernet port that is up, on an awake device and an awake port, where no frame of the port is being cut through. A
frame with a fault adds one to that counter of the port, reaches no FIFO and leaves nothing of what waited for its end; an
accepted frame that was not classified while it arrived is put in the FIFO of its port's slice and counted, or, where the
FIFO cannot take it, counted in RX_OVERFLOW. A disabled port or one that is down takes nothing. CUT_THROUGH_OVERSIZE of a
port that cuts nothing through does nothing; where it does, the frame counts as oversize, no copy that has not started
remains of it, and every port that is sending it, or has it interrupted, ends it stomped after the bytes sent, within its
own MAX_FRAME. (R9, R73, R76, R106, R444) -/
def Obligations.ReceivedFramesCountOrEnter : Prop :=
  (∀ (s : State) (f : RxFrame),
    ((s.dev.port f.port).admin = false ∨ (s.dev.port f.port).up = false ∨ 50 ≤ f.port → Runs (.macFrameReceived f) s s.dev) ∧
    (f.port < 50 → (s.dev.port f.port).admin = true → (s.dev.port f.port).up = true → s.dev.deviceAsleep = false →
      s.dev.portAsleep f.port = false → s.dev.portSleeping f.port = false → tabFind s.dev.fabric.cutting f.port = none →
      let d1 := (s.dev.rxNotes f).watchSegment f
      (∀ o, rxFault (s.dev.port f.port) f = some o → Runs (.macFrameReceived f) s ((d1.dropPending f.port).count 2 (f.port * 64 + o))) ∧
      (rxFault (s.dev.port f.port) f = none → s.dev.classified f.port = false →
        let d2 := d1.frameKeepAlive f.port f.bytes
        let a : Arrived := { port := f.port, bytes := f.bytes, time := d1.ingressOf f, ring := 0, second := none,
                             arrival := d1.uptime + 2 * b2n f.second }
        (∀ d3, d2.fifoPut (sliceOf f.port) a = some d3 → Runs (.macFrameReceived f) s (d3.countReceived f.port f.bytes)) ∧
        (d2.fifoPut (sliceOf f.port) a = none → Runs (.macFrameReceived f) s (d2.count 2 (f.port * 64 + 9)))))) ∧
  (∀ (s : State) (p sent : Nat) (bytes : Bytes),
    (tabFind s.dev.fabric.cutting p = none → Runs (.cutThroughOversize p sent bytes) s s.dev) ∧
    (∀ id, tabFind s.dev.fabric.cutting p = some id →
      let d1 := (((s.dev.modStored id (fun g => { g with bytes := bytes, receiving := false, bad := true })).count 2 (p * 64 + 8)).endPending
        id none p).dropWaiting id
      (d1.stored id = none → Runs (.cutThroughOversize p sent bytes) s d1) ∧
      (∀ g, d1.stored id = some g → Runs (.cutThroughOversize p sent bytes) s
        (((d1.fabric.sending ++ d1.fabric.preempted).filter (fun x => x.2.id == id)).foldl (fun e x =>
          (e.sentCopy x.1 x.2).stomp x.1 ((sendingBytesOf g x.2).take (min sent (x.2.maxFrame - 4))) x.2.lost) d1))))

/-- A link goes down with a hold or a flush, the hold's end flushes, a link comes up at the rate it resolves to. For an enabled
Ethernet port. LINK_DOWN of a port that is up: it is down; with FLAP_HOLD above 0 its hold ends that many ms later, with
FLAP_HOLD 0 it has expired at once. FLAP_HOLD_EXPIRY after the hold's end of a port still down ends the hold and leaves no
copy queued to it that has not started; before its end nothing happens. LINK_UP of a port that is down, whose firmware runs,
whose PHY is not missing and that waits for no PLCA beacon: a link that resolves brings it up at that rate, its hold gone;
one that does not is a PORT_PHY_FAULT with the reason and the port stays down. (R67, R82, R83, R84, R85, R81) -/
def Obligations.LinkChangesAndFlapHold : Prop :=
  ∀ (s : State) (p : Nat),
    (∀ cause, p < 50 → (s.dev.port p).admin = true → (s.dev.port p).up = true →
      ∃ d', Runs (.linkDown p cause) s d' ∧ (d'.port p).up = false ∧
        (d'.port p).hold = (if (s.dev.port p).flapHold = 0 then none else some (s.dev.uptime + (s.dev.port p).flapHold * 1000000)) ∧
        (d'.port p).holdExpired = ((s.dev.port p).flapHold == 0) ∧ ∀ k, k ≠ p → d'.port k = s.dev.port k) ∧
    (∀ cause, (s.dev.port p).up = false → Runs (.linkDown p cause) s s.dev) ∧
    (∀ t, (s.dev.port p).hold = some t →
      (t < s.dev.uptime → (s.dev.port p).up = false → ∃ d', Runs (.flapHoldExpiry p) s d' ∧ d' = s.dev.holdEnds p ∧
        (d'.port p).hold = none ∧ (d'.port p).holdExpired = true) ∧
      (s.dev.uptime ≤ t → Runs (.flapHoldExpiry p) s s.dev)) ∧
    (∀ i, p < 50 → (s.dev.port p).admin = true → (s.dev.port p).up = false → s.dev.portLoaded p = true → phyMissing p (s.dev.port p) = false →
      (p < 34 ∨ (s.dev.port p).plcaEn = false ∨ (s.dev.port p).nodeId = 0 ∨ (s.dev.port p).plcaOk = true) →
      (∀ speed, resolveLink p (s.dev.port p) (linkLevel (s.dev.port p)) i = .inr speed → (s.dev.port p).stepUpPending = false →
        ∃ d', Runs (.linkUp p i) s d' ∧ (d'.port p).up = true ∧ (d'.port p).speed = speed ∧ (d'.port p).hold = none) ∧
      (∀ reason, resolveLink p (s.dev.port p) (linkLevel (s.dev.port p)) i = .inl reason →
        Runs (.linkUp p i) s ((s.dev.mdioQueue p 1).phyFault p reason)))

/-- Utilisation intervals, queue thresholds, retrain failures, PHY polls and PLCA cycles act on their port. On a port of the
stated kind and state: the end of a utilisation interval starts the next one 100 ms on with its counts at zero, and at the
full rate without stepping does nothing more; too long a queue at a lower rate steps up to the full rate, during the retrain
of a step down once that has ended; a retrain past its time with the port down is PORT_PHY_FAULT 4 and the full rate is
tried; a PHY poll queues its MDIO accesses and reports each enabled port with a managed PHY that faults. A beacon makes a
follower's PLCA OK and brings a follower that was down up at 10 Mbit/s; its absence ends the status and takes the port down;
a coordinator counts each cycle it opens; a transmit opportunity starts the offered frame. (R81, R86, R87, R88, R170, R280) -/
def Obligations.SteppingAndPlcaEventsAct : Prop :=
  ∀ (s : State) (p : Nat),
    (p < 34 → (s.dev.port p).up = true → (s.dev.port p).intervalEnd < s.dev.uptime → (s.dev.port p).stepMask = 0 →
      (s.dev.port p).stepLevel = 0 →
      Runs (.utilisationIntervalEnd p) s
        (s.dev.modPort p (fun q => { q with intervalEnd := q.intervalEnd + 100000000, rxWire := 0, txWire := 0 }))) ∧
    (p < 34 → (s.dev.port p).stepQueue * 1024 < queuedBytes s.dev.fabric.frames p →
      ((s.dev.port p).retrain = none → 0 < (s.dev.port p).stepLevel → Runs (.stepUpQueueThreshold p) s (s.dev.stepTo_ p 0)) ∧
      (∀ lv t, (s.dev.port p).retrain = some (lv, t) → (s.dev.port p).stepLevel < lv →
        Runs (.stepUpQueueThreshold p) s (s.dev.modPort p (fun q => { q with stepUpPending := true })))) ∧
    (∀ lv t, (s.dev.port p).retrain = some (lv, t) → t < s.dev.uptime → (s.dev.port p).up = false →
      Runs (.retrainFailTimeout p) s ((s.dev.phyFault p 4).stepTo_ p 0)) ∧
    ((s.dev.port p).admin = true → hasPhy p (s.dev.port p) = true → ∃ d', Runs (.phyStatusPoll [p]) s d' ∧
      d' = { s.dev.phyFault p 5 with fabric := { s.dev.fabric with mdio := d'.fabric.mdio } }) ∧
    (34 ≤ p → p < 50 → (s.dev.port p).admin = true → (s.dev.port p).plcaEn = true → s.dev.portAsleep p = false →
      ((s.dev.port p).nodeId ≠ 0 → (s.dev.port p).up = true → ∃ d', Runs (.plcaBeaconReceived p) s d' ∧
        (d'.port p).plcaOk = true ∧ (d'.port p).up = true ∧ d'.counter 2 (p * 64 + 32) = (s.dev.counter 2 (p * 64 + 32) + 1) % 2 ^ 64) ∧
      ((s.dev.port p).nodeId ≠ 0 → (s.dev.port p).up = false → (s.dev.port p).stepUpPending = false →
        ∃ d', Runs (.plcaBeaconReceived p) s d' ∧ (d'.port p).plcaOk = true ∧ (d'.port p).up = true ∧ (d'.port p).speed = 1) ∧
      ((s.dev.port p).nodeId ≠ 0 → (s.dev.port p).plcaOk = true → ∃ d', Runs (.plcaBeaconTimeout p) s d' ∧
        (d'.port p).plcaOk = false ∧ (d'.port p).up = false) ∧
      ((s.dev.port p).nodeId = 0 → (s.dev.port p).up = true → s.dev.portSleeping p = false → s.dev.mayDrive = true →
        Runs (.plcaCoordinatorBeacon p) s ((s.dev.count 2 (p * 64 + 33)).setPlcaStart p (some s.dev.now))) ∧
      (∀ x f k point, s.dev.portRuns p = true → s.dev.mayDrive = true → (s.dev.beacon p).due = false →
        tabFind s.dev.fabric.sending p = some x → x.offered = true →
        s.dev.stored x.id = some f → f.copies.find? x.of = some k → ∃ d' y, Runs (.plcaTransmitOpportunity p point) s d' ∧ tabFind d'.fabric.sending p = some y ∧ y.offered = false ∧
          y.start = s.dev.uptime ∧ y.id = x.id))

/-- PORT_STATUS answers the state of the port, PORT_MDIO writes or reads its PHY register, and a guarded MDIO write is refused.
PORT_STATUS of an existing port answers 16 bytes with STATE (disabled, down, within its hold, up), SPEED of a port that is
up, the step level and the PHY identifier, and changes nothing. PORT_MDIO while the bus is free for the host: a write goes
out on the bus and answers the data written; a read answers two bytes whose value is the PHY's own (a free value, log 25). A
write of a register that controls an enabled port's PHY is NOT_PERMITTED; with 16 or more queued accesses that end more than
450 us on it is TIMEOUT. (R71, spec/03_ports_and_links.md) -/
def Obligations.PortQueriesComplete : Prop :=
  Completes .portStatus 0x0204 (rspMax 16) (fun _ _ bs => bs.length = 4 ∧ layoutOk [fr 0 1 0 95] bs = true)
    (fun d _ bs d' pl => d' = d ∧ pl.length = 16 ∧
      let p := byteAt bs 0
      let q := d.port p
      byteAt pl 0 = (if 90 ≤ p then 3 else if q.admin = false then 0 else if 50 ≤ p ∨ q.up = true then 3 else if q.hold.isSome then 2 else 1) ∧
      (p < 50 → q.up = true → byteAt pl 1 = q.speed % 256) ∧ byteAt pl 6 = q.stepLevel % 256 ∧ le pl 8 4 = q.phyId % 2 ^ 32) ∧
  Completes .portMdio 0x0205 (rspMax 4)
    (fun d _ bs => bs.length = 8 ∧ layoutOk [fr 0 1 0 3, fr 1 1 0 31, fr 2 2 0 31, fa 4 2, fa 6 2] bs = true ∧
      byteAt bs 0 % 2 = 1 ∧ (byteAt bs 0 = 1 → le bs 4 2 = 0) ∧
      mdioRefused d (byteAt bs 0) (byteAt bs 1) (le bs 2 2) (le bs 4 2) = false ∧ d.mdioBusy = false)
    (fun d _ bs d' pl => d' = d.emit (if byteAt bs 0 = 1 then .mdioWrite (byteAt bs 1) none (le bs 2 2) (le bs 6 2)
        else .mdioWrite (byteAt bs 1) (some (le bs 2 2)) (le bs 4 2) (le bs 6 2)) ∧ pl = leb 2 (le bs 6 2) ++ zeros 2) ∧
  Completes .portMdio 0x0205 (rspMax 4)
    (fun d _ bs => bs.length = 8 ∧ layoutOk [fr 0 1 0 3, fr 1 1 0 31, fr 2 2 0 31, fa 4 2, fa 6 2] bs = true ∧
      byteAt bs 0 % 2 = 0 ∧ le bs 6 2 = 0 ∧ (byteAt bs 0 = 0 → le bs 4 2 = 0) ∧ d.mdioBusy = false)
    (fun d _ _ d' pl => d' = { d with freeIx := d.freeIx + 1 } ∧ pl.length = 4 ∧ le pl 2 2 = 0) ∧
  Refuses .portMdio 0x0205 (rspMax 4)
    (fun d _ bs => bs.length = 8 ∧ layoutOk [fr 0 1 0 3, fr 1 1 0 31, fr 2 2 0 31, fa 4 2, fa 6 2] bs = true ∧
      byteAt bs 0 % 2 = 1 ∧ (byteAt bs 0 = 1 → le bs 4 2 = 0) ∧
      mdioRefused d (byteAt bs 0) (byteAt bs 1) (le bs 2 2) (le bs 4 2) = true) stNotPermitted (fun _ _ _ => 0) ∧
  Refuses .portMdio 0x0205 (rspMax 4)
    (fun d _ bs => bs.length = 8 ∧ layoutOk [fr 0 1 0 3, fr 1 1 0 31, fr 2 2 0 31, fa 4 2, fa 6 2] bs = true ∧
      (byteAt bs 0 < 2 → le bs 4 2 = 0) ∧ (byteAt bs 0 % 2 = 0 → le bs 6 2 = 0) ∧
      mdioRefused d (byteAt bs 0) (byteAt bs 1) (le bs 2 2) (le bs 4 2) = false ∧ d.mdioBusy = true) stTimeout (fun _ _ _ => 0)

/-- Hopper allocates a free buffer of the smallest sufficient pool, counts references, frees at zero and answers bad handles
with a fault. HOPPER_ALLOC completes; where it yields a handle, the handle names a buffer that was free, in a pool whose
buffers hold the size and no smaller pool's do, now held by its owner with one reference. With a good handle an increment
adds one reference below 65,535 and counts REFCOUNT_LIMIT at it; a decrement of a buffer with more references takes one, of
the last one frees the buffer. A bad handle is counted, posted and raised as HOPPER_HANDLE, and no reference changes. An
engine's restart releases what it holds. (R116, R117, R118, R119) -/
def Obligations.HopperHandlesAndReferences : Prop :=
  (∀ (s : State) owner size, Runs (.hopperAlloc owner size) s (s.dev.hopperAlloc owner size).2 ∧
    ∀ h, (s.dev.hopperAlloc owner size).1 = some h → ∃ p i b,
      (s.dev.hopperAlloc owner size).2.handle h = .inr (p, i) ∧ tabHas (s.dev.pool p).bufs i = false ∧ i < poolCount p ∧
      size ≤ poolSize p ∧ (∀ k, 1 ≤ k → k < p → poolSize k < size) ∧
      tabFind ((s.dev.hopperAlloc owner size).2.pool p).bufs i = some b ∧ b.owner = owner ∧ b.refs = 1) ∧
  (∀ (s : State) r h p i b, s.dev.handle h = .inr (p, i) → tabFind (s.dev.pool p).bufs i = some b →
    (b.refs < 65535 → ∃ d' b', Runs (.hopperRefcountIncrement r h) s d' ∧ tabFind (d'.pool p).bufs i = some b' ∧ b'.refs = b.refs + 1 ∧
      b'.owner = b.owner) ∧
    (65535 ≤ b.refs → Runs (.hopperRefcountIncrement r h) s (s.dev.count 3 (3091 + (p - 1) * 4))) ∧
    (1 < b.refs → ∃ d' b', Runs (.hopperRefcountDecrement r h) s d' ∧ tabFind (d'.pool p).bufs i = some b' ∧ b'.refs = b.refs - 1 ∧
      b'.owner = b.owner) ∧
    (b.refs ≤ 1 → ∃ d', Runs (.hopperRefcountDecrement r h) s d' ∧ tabFind (d'.pool p).bufs i = none ∧
      d'.handle h = .inl 3)) ∧
  (∀ (s : State) r h why, s.dev.handle h = .inl why →
    Runs (.hopperRefcountIncrement r h) s (s.dev.badHandle r h why) ∧ Runs (.hopperRefcountDecrement r h) s (s.dev.badHandle r h why)) ∧
  (∀ (s : State) owner, Runs (.engineRestartRelease owner) s (s.dev.releaseOwner owner))

/-- The pipeline, the matching, the recirculation reader, the capture writer and the aggregation events each take their frame or
group one step on. FRAME_CLASSIFY takes the next frame its slice's FIFO gives (R152) out of it and classifies it.
FRAME_VALID_END of a frame whose end is due takes it from those waiting, and its verdict, or its stream with the entry it
matched, goes on. A MATCHING_SLOT changes only which copies are staged and the pointers. CUT_THROUGH_START starts the
waiting copy, staged if it was not, where port, fence, gate, window and shaper allow it. The recirculation reader moves one
more cell of its frame, and with the last one hands the frame over. CAPTURE_RECORD_WRITE with the grant of its transfer
places the head frame of P93 in an enabled ring that has room and counts it. LACP events set the member's partner state, and
a fence past its time releases. (R98, R99, R105, R110, R112, R114, R115, R124, R149, R152, R161) -/
def Obligations.FabricEventsMoveFrames : Prop :=
  (∀ (s : State) sl a rest, s.dev.fifoNext sl = some (a, rest) → Runs (.frameClassify (.fifo sl)) s
    (Dev.classify { s.dev with fabric := { s.dev.fabric with fifos := tabPut s.dev.fabric.fifos sl rest } } a)) ∧
  (∀ (s : State) sl, tabGet [] s.dev.fabric.fifos sl = [] → Runs (.frameClassify (.fifo sl)) s s.dev) ∧
  (∀ (s : State) f, Runs (.frameClassify (.arriving f)) s (classifyArriving f s.dev)) ∧
  (∀ (s : State) id p v, s.dev.lauter.ends.find? (fun p => p.id == id && !p.receiving && !p.heldAtL0 s.dev) = some p → p.stream = none →
    p.learn = none → p.verdict = some v → Runs (.frameValidEnd id) s
      (Dev.settleVerdict { s.dev with lauter := { s.dev.lauter with ends := s.dev.lauter.ends.filter (fun q => q.id != id) } }
        p.frame.bytes { v with info := { v.info with arrival := p.frame.arrival } })) ∧
  (∀ (s : State) id p h e, s.dev.lauter.ends.find? (fun p => p.id == id && !p.receiving && !p.heldAtL0 s.dev) = some p →
    p.stream = some (h, e) → Runs (.frameValidEnd id) s
      (Dev.streamEnd { s.dev with lauter := { s.dev.lauter with ends := s.dev.lauter.ends.filter (fun q => q.id != id) } }
        p.frame (grist p.frame.bytes) h e)) ∧
  (∀ (s : State) id, s.dev.lauter.ends.find? (fun p => p.id == id && !p.receiving && !p.heldAtL0 s.dev) = none →
    Runs (.frameValidEnd id) s s.dev) ∧
  (∀ (s : State), ∃ d', Runs .matchingSlot s d' ∧
    d' = { s.dev with fabric := { s.dev.fabric with
      frames := d'.fabric.frames, nextStage := d'.fabric.nextStage, gptr := d'.fabric.gptr, aptr := d'.fabric.aptr } } ∧
    d'.fabric.frames.map (fun f => (f.id, f.bytes, f.cells, f.copies.length)) =
      s.dev.fabric.frames.map (fun f => (f.id, f.bytes, f.cells, f.copies.length))) ∧
  (∀ (s : State) port point id f k,
    let e := s.dev.atPoint point
    tabFind e.fabric.cutting port = some id → e.stored id = some f → f.copies.find? (fun k => k.kind == 0 && !k.started) = some k →
    e.portRuns k.port = true → e.maySend k.port f = true → tabHas e.fabric.sending k.port = false →
    tabHas e.fabric.preempted k.port = false → k.fenced = none → e.preemptActive k.port = false →
    bit (e.gateVector k.port) k.tc = true → e.fitsWindow k.port k.tc (e.egressLen f k) = true → (e.shaper k.port k.tc).enable = false →
    (k.staged = true → Runs (.cutThroughStart port point) s (e.dequeue k.port (f, k))) ∧
    (k.staged = false → ∃ g, (e.stageCut id k).2.stored id = some g ∧
      Runs (.cutThroughStart port point) s ((e.stageCut id k).2.dequeue k.port (g, (e.stageCut id k).1)))) ∧
  (∀ (s : State) id n f, s.dev.fabric.recirc = some (id, n) → s.dev.stored id = some f →
    (n + 1 < f.cells → Runs .recircReaderMove s { s.dev with fabric := { s.dev.fabric with recirc := some (id, n + 1) } }) ∧
    (f.cells ≤ n + 1 → Runs .recircReaderMove s
      (Dev.recircDone { s.dev with fabric := { s.dev.fabric with recirc := none } } f))) ∧
  (∀ (s : State) x c, s.dev.internalHead 93 = some x → s.dev.fabric.capture.enable = true → s.dev.passes 93 x = true →
    s.dev.fabric.capture.place s.dev.uptime (s.dev.captureRecord x.1 x.2) = some c →
    ∀ a, s.dev.free.2.granted 14 64 s.dev.free.1 = some a → ∃ d1, d1 = Dev.passOut { s.dev.free.2 with arb := a } 93 x ∧
    Runs .captureRecordWrite s (Dev.count { d1 with fabric := { d1.fabric with capture := c } } 3 3076)) ∧
  (∀ (s : State) port g l m, s.dev.fabric.lags = [(g, l)] → l.members.find? (fun m => m.2 == port) = some m →
    (∀ dist, bit l.lacp 0 = true → ∃ d' l', Runs (.lacpduReceived port dist) s d' ∧ tabFind d'.fabric.lags g = some l' ∧
      tabGet 7 l'.partner m.1 = b2n dist) ∧
    (∀ t, tabFind l.partnerDeadline m.1 = some t → t < s.dev.uptime → ∃ d' l', Runs (.lacpPartnerTimeout port) s d' ∧
      tabFind d'.fabric.lags g = some l' ∧ tabGet 7 l'.partner m.1 = 0) ∧
    (∀ b e, l.fences.find? (fun f => f.bucket == b && s.dev.over f.deadline) = some e → ∃ d' l', Runs (.fenceTimeout g b) s d' ∧
      tabFind d'.fabric.lags g = some l' ∧ l'.fences = l.fences.filter (fun f => !(f.bucket == b && s.dev.over f.deadline))))

/-- The immediate fabric commands complete with the answers chapter 04 gives them. FAB_CAPTURE_ACK in STOP mode of a record
boundary moves READ_OFF there and changes nothing else but the boundaries left and the ring-full note. FAB_LAG_STATUS,
FAB_HOPPER_STATUS and FAB_QUEUE_STATUS answer 260, 40 and 72 bytes and change nothing; a queue status begins with the port's
cells and the common pool's. FAB_HOPPER_ALLOC answers the handle of a buffer allocated to owner 9; FAB_HOPPER_FREE of a
buffer of owner 9 drops a reference and answers how many are left; of another owner's it is NOT_PERMITTED, of a bad handle
BAD_PARAM, counted and posted but no fault (R118). (R110, R111, R114, R116, R117, R118, spec/04_fabric_and_buffers.md) -/
def Obligations.FabricCommandsComplete : Prop :=
  Completes .fabCaptureAck 0x0304 (rspMax 0)
    (fun d _ bs => bs.length = 4 ∧ d.fabric.capture.enable = true ∧ d.fabric.capture.wrap = false ∧
      (le bs 0 4 = d.fabric.capture.readOff ∨ le bs 0 4 ∈ d.fabric.capture.bounds))
    (fun d _ bs d' pl => pl = [] ∧ ∃ c, d' = { d with fabric := { d.fabric with capture := c } } ∧ c.readOff = le bs 0 4 ∧
      c.writeOff = d.fabric.capture.writeOff ∧ c.mem = d.fabric.capture.mem ∧ c.fullPosted = false) ∧
  Completes .fabLagStatus 0x0306 (rspMax 260) (fun _ _ bs => bs.length = 4 ∧ layoutOk [fr 0 1 0 7] bs = true)
    (fun d _ bs d' pl => d' = d ∧ pl.length = 260 ∧
      let l := tabGet lag0 d.fabric.lags (byteAt bs 0)
      byteAt pl 0 = distMask l l.dist % 256 ∧ le pl 2 2 = l.fences.length % 65536) ∧
  Completes .fabHopperStatus 0x0308 (rspMax 40) (fun _ _ bs => bs = []) (fun d _ _ d' pl => d' = d ∧ pl.length = 40 ∧
    ∀ k, k < 5 → le pl (8 * k) 2 = (poolCount (k + 1) - (d.pool (k + 1)).bufs.length) % 65536) ∧
  Completes .fabHopperAlloc 0x0309 (rspMax 4)
    (fun d _ bs => bs.length = 4 ∧ layoutOk [fr 0 2 1 10240] bs = true ∧ (d.hopperAlloc 9 (le bs 0 2)).1.isSome = true)
    (fun d _ bs d' pl => d' = (d.hopperAlloc 9 (le bs 0 2)).2 ∧ ∃ h, (d.hopperAlloc 9 (le bs 0 2)).1 = some h ∧ pl = leb 4 h) ∧
  Completes .fabHopperFree 0x030A (rspMax 4)
    (fun d _ bs => bs.length = 4 ∧ ∃ p i b, d.handle (le bs 0 4) = .inr (p, i) ∧ tabFind (d.pool p).bufs i = some b ∧ b.owner = 9)
    (fun d _ bs d' pl => ∃ p i b, d.handle (le bs 0 4) = .inr (p, i) ∧ tabFind (d.pool p).bufs i = some b ∧
      d' = d.dropRefs p i 9 1 ∧ le pl 0 2 = (b.refs - 1) % 65536 ∧ pl.length = 4) ∧
  Refuses .fabHopperFree 0x030A (rspMax 4)
    (fun d _ bs => bs.length = 4 ∧ ∃ p i b, d.handle (le bs 0 4) = .inr (p, i) ∧ tabFind (d.pool p).bufs i = some b ∧ b.owner ≠ 9)
    stNotPermitted (fun _ _ _ => 0) ∧
  (∀ s rq t d r why, s.dev.admitted 0x030A rq (rspMax 4) = some (t, d, r) → r.data.length = 4 → d.handle (le r.data 0 4) = .inl why →
    Runs (.fabHopperFree rq) s ((d.noteBadHandle 9 (le r.data 0 4) why).refuse t rq.ch stBadParam 0)) ∧
  Completes .fabQueueStatus 0x030B (rspMax 72) (fun _ _ bs => bs.length = 4 ∧ layoutOk [fr 0 1 0 95] bs = true)
    (fun d _ bs d' pl => d' = d ∧ pl.length = 72 ∧ le pl 0 4 = portCells d.fabric.frames (byteAt bs 0) % 2 ^ 32 ∧
      le pl 4 4 = d.commonUsed d.fabric.frames % 2 ^ 32)

/-- Flushes, reads, binding and bank queries of Lauter, its two ageing scans and the purge of an unbound zone complete as
chapter 05 says. A flush removes exactly the dynamic FDB entries (connections) it selects and answers how many; a read
changes nothing and answers how many entries follow, each 16 (48) bytes, from the index on; a zone binding's query answers
16 bytes, zeros where there is none; the bank query answers the bank, its generation and the two pauses. An FDB scan past
AGE_TIME removes the dynamic entries whose age bit is clear and clears the others'; a connection scan, 100 ms after the one
before, removes those idle for their state's timeout at its tick; the purge removes every connection of the zone. Before
their time they change nothing. (R130, R134, R135, R141, spec/05_classification_and_firewall.md) -/
def Obligations.LauterCommandsAndScansComplete : Prop :=
  Completes .ltrFdbFlush 0x0405 (rspMax 4)
    (fun _ _ bs => bs.length = 8 ∧ layoutOk [fr 0 1 0 2, fr 2 2 0 4095, fr 4 2 0 4095] bs = true)
    (fun d _ bs d' pl => d' = d.putFdb d'.lauter.fdb ∧
      le pl 0 4 = (d.lauter.fdb.length - d'.lauter.fdb.length) % 2 ^ 32 ∧ pl.length = 4 ∧
      ∀ e, e ∈ d'.lauter.fdb ↔ e ∈ d.lauter.fdb ∧ (e.2.isStatic = true ∨
        ¬ (byteAt bs 0 = 0 ∨ (byteAt bs 0 = 1 ∧ e.2.dest = le bs 4 2) ∨ (byteAt bs 0 = 2 ∧ e.2.fid = le bs 2 2)))) ∧
  Completes .ltrCtFlush 0x040D (rspMax 4) (fun _ _ bs => bs.length = 8 ∧ layoutOk [fr 0 1 0 1, fr 1 1 0 63] bs = true)
    (fun d _ bs d' pl => d' = d.putConns d'.lauter.conns ∧
      le pl 0 4 = (d.lauter.conns.length - d'.lauter.conns.length) % 2 ^ 32 ∧
      ∀ e, e ∈ d'.lauter.conns ↔ e ∈ d.lauter.conns ∧ ¬ (byteAt bs 0 = 0 ∨ e.2.hasZone (byteAt bs 1) = true)) ∧
  Completes .ltrFdbRead 0x0406 (fun _ bs => 8 + 16 * min (le bs 4 2) (32768 - le bs 0 4))
    (fun _ rq bs => bs.length = 8 ∧ layoutOk [fr 0 4 0 32767, fr 4 2 1 (if reqBulkRsp rq then 32768 else 255)] bs = true)
    (fun d _ bs d' pl => d' = d ∧
      let n := min (le bs 4 2) (d.lauter.fdb.filter (fun e => decide (le bs 0 4 ≤ e.1))).length
      le pl 0 2 = n ∧ pl.length = 8 + 16 * n) ∧
  Completes .ltrCtRead 0x040E (fun _ bs => 8 + 48 * min (le bs 4 2) (65536 - le bs 0 4))
    (fun _ rq bs => bs.length = 8 ∧ layoutOk [fr 0 4 0 65535, fr 4 2 1 (if reqBulkRsp rq then 65535 else 85)] bs = true)
    (fun d _ bs d' pl => d' = d ∧
      let n := min (le bs 4 2) (d.lauter.conns.filter (fun e => decide (le bs 0 4 ≤ e.1))).length
      le pl 0 2 = n ∧ pl.length = 8 + 48 * n) ∧
  Completes .ltrZoneBindStatus 0x040F (rspMax 16) (fun _ _ bs => bs.length = 4 ∧ layoutOk [fr 0 1 1 63] bs = true)
    (fun d _ bs d' pl => d' = d ∧ pl.length = 16 ∧ (tabFind d.lauter.bindings (byteAt bs 0) = none → pl = zeros 16) ∧
      (∀ b, tabFind d.lauter.bindings (byteAt bs 0) = some b →
        byteAt pl 0 = b.zone % 256 ∧ byteAt pl 1 = b.port % 256 ∧ byteAt pl 10 = 1 + 2 * b2n b.wildcard)) ∧
  Completes .ltrGenStatus 0x0410 (rspMax 16) (fun _ _ bs => bs = []) (fun d _ _ d' pl => d' = d ∧
    pl = leb 1 (b2n d.lauter.gen) ++ zeros 3 ++ leb 4 d.lauter.bankGeneration ++ leb 4 d.lauter.lastPause ++ leb 4 d.lauter.maxPause) ∧
  (∀ s : State,
    (s.dev.lauter.lastAge + s.dev.lauter.ageTime * 1000000000 < s.dev.uptime → ∃ d', Runs .fdbAgeScan s d' ∧
      d'.lauter.fdb = (s.dev.lauter.fdb.filter (fun e => e.2.isStatic || e.2.age)).map
        (fun e => if e.2.isStatic then e else (e.1, { e.2 with age := false })) ∧ d'.lauter.conns = s.dev.lauter.conns) ∧
    (s.dev.uptime ≤ s.dev.lauter.lastAge + s.dev.lauter.ageTime * 1000000000 → Runs .fdbAgeScan s s.dev) ∧
    (s.dev.lauter.lastCtScan + 100000000 < s.dev.uptime → ∃ d', Runs .ctAgeScan s d' ∧ d'.lauter.fdb = s.dev.lauter.fdb ∧
      ∀ e, e ∈ d'.lauter.conns ↔ e ∈ s.dev.lauter.conns ∧ s.dev.lauter.lastCtScan + 100000000 < e.2.last + ctTimeout s.dev e.2.state * 1000000000) ∧
    (s.dev.uptime ≤ s.dev.lauter.lastCtScan + 100000000 → Runs .ctAgeScan s s.dev) ∧
    (∀ z, z ∈ s.dev.lauter.purges → ∃ d', Runs (.bindingCtPurge z) s d' ∧ z ∉ d'.lauter.purges ∧
      ∀ e, e ∈ d'.lauter.conns ↔ e ∈ s.dev.lauter.conns ∧ e.2.loZone ≠ z ∧ e.2.hiZone ≠ z))

/-- A start opportunity dequeues what Belfry selects, and a frame that has been sent whole is counted once and leaves.
FRAME_TX_START (d: the block with the timestamp point's place noted) at an idle running Ethernet port with no interrupted
frame, no beacon due and preemption inactive: the frame that R168 selects from TC7 down among those that may be sent leaves
its queue (a collision on a CSMA/CD segment aside); where none is eligible only GATE_WAIT notes change. With preemption
active an eligible express frame is taken first, and interrupts a preemptable one whose fragment is long enough. P91 takes
the head of its highest class. TX_FRAME_COMPLETE of a frame received whole and good: the port sends nothing more, its bytes
are driven with a good FCS and counted; a frame that ended badly is stomped; a frame that is still being received goes on.
(R73, R74, R105, R106, R168, R170, R184) -/
def Obligations.BelfryStartsAndEndsFrames : Prop :=
  (∀ (s : State) p coll point,
    let d := s.dev.atPoint point
    p < 50 → d.portRuns p = true → (d.beacon p).due = false →
    (tabFind d.fabric.sending p = none → tabFind d.fabric.preempted p = none → d.preemptActive p = false →
      let r := Dev.select p (fun _ f => d.maySend p f) classesDown d
      (r.2 = none → Runs (.frameTxStart p coll point) s r.1) ∧
      (∀ x, r.2 = some x → (coll = false ∨ p < 34 ∨ (d.port p).plcaEn = true) →
        Runs (.frameTxStart p coll point) s (r.1.dequeue p x)) ∧
      (∀ x, r.2 = some x → coll = true → 34 ≤ p → (d.port p).plcaEn = false → Runs (.frameTxStart p coll point) s (r.1.collide p x))) ∧
    (∀ x, d.preemptActive p = true → (d.selectExpress p).2 = some x →
      (tabFind d.fabric.sending p = none → Runs (.frameTxStart p coll point) s ((d.selectExpress p).1.dequeue p x)) ∧
      (∀ y, tabFind d.fabric.sending p = some y → y.preemptable = true → tabHas d.fabric.preempted p = false →
        d.mayInterrupt p y = true →
        Runs (.frameTxStart p coll point) s (((d.selectExpress p).1.interrupt p y).dequeue p x)))) ∧
  (∀ (s : State) coll point x,
    let d := s.dev.atPoint point
    tabHas d.fabric.sending 91 = false → classesDown.findSome? (fun c => stageHeadOf d.fabric.frames 91 c) = some x →
    Runs (.frameTxStart 91 coll point) s (d.dequeue 91 x)) ∧
  (∀ (s : State) p x f, tabFind s.dev.fabric.sending p = some x → x.offered = false → x.lost = false → s.dev.stored x.id = some f →
    let bytes := sendingBytesOf f x
    let d := (s.dev.sentCopy p x).startGap p x.tc
    let fits := x.cutThrough = false ∨ frameLen bytes ≤ x.maxFrame
    (f.receiving = true → Runs (.txFrameComplete p) s s.dev) ∧
    (f.receiving = false → f.bad = true → Runs (.txFrameComplete p) s (d.stomp p bytes false)) ∧
    (f.receiving = false → f.bad = false → ¬ fits → Runs (.txFrameComplete p) s (d.stomp p (bytes.take (x.maxFrame - 4)) false)) ∧
    (f.receiving = false → f.bad = false → fits → p < 50 → Runs (.txFrameComplete p) s
      (((((d.countSent p bytes).emit (.frame p bytes false)).addTxWire p (frameLen bytes)).burstGoesOn p).frameSent p f.info.inPort
        f.bytes)) ∧
    (f.receiving = false → f.bad = false → fits → 50 ≤ p → Runs (.txFrameComplete p) s (d.countSent p bytes)))

/-- Gate switches, preemption verification, the comparison of the two instances, observation and the recovery timers act as
chapter 06 says. At its switch time the pending list becomes oper and is no longer pending; before it nothing happens. The
entry in force is driven; a disabled list, and a port that is not enabled, has every gate open and hold released. A verify
response activates preemption; its absence repeats the verification up to three times and then fails it, counted. A
difference of the instances is fault BELFRY_CMP of class F2 naming port and bits, no difference is nothing. An observation
sample that is due is taken for every class of the port. A recovery entry whose reset timer has run out takes any next
sequence number; the end of a latent period clears the counts and starts the next. (R166, R167, R171, R174, R175, R183,
R186, R187) -/
def Obligations.GatesPreemptionAndObservationAct : Prop :=
  ∀ (s : State) (p : Nat),
    ((s.dev.gates p).oper = none → ∃ d', Runs (.gateEntryChange p) s d' ∧ (d'.gates p).vector = 0xFF ∧ (d'.gates p).hold = false) ∧
    (∀ l at_ x, (s.dev.gates p).oper = some (l, at_) → l.spanAt at_ s.dev.now = some x → s.dev.preemptActive p = false →
      (s.dev.port p).admin = true →
      ∃ d', Runs (.gateEntryChange p) s d' ∧ (d'.gates p).vector = x.2.2.1 ∧ (d'.gates p).hold = (s.dev.gates p).hold) ∧
    ((s.dev.port p).admin = false → ∃ d', Runs (.gateEntryChange p) s d' ∧ (d'.gates p).vector = 0xFF ∧ (d'.gates p).hold = false) ∧
    (∀ l at_ rest, (s.dev.gates p).pending = (l, at_) :: rest →
      (at_ ≤ s.dev.now → ∃ d', Runs (.gateListSwitch p) s d' ∧ (d'.gates p).oper = l.map (fun x => (x, at_)) ∧
        (d'.gates p).pending = rest) ∧
      (s.dev.now < at_ → Runs (.gateListSwitch p) s s.dev)) ∧
    ((s.dev.preempt p).state = 1 → ∃ d', Runs (.preemptVerifyResponse p) s d' ∧ (d'.preempt p).state = 2) ∧
    (∀ t, (s.dev.preempt p).state = 1 → (s.dev.preempt p).deadline = some t →
      (s.dev.uptime ≤ t → Runs (.preemptVerifyTimeout p) s s.dev) ∧
      (t < s.dev.uptime → (s.dev.preempt p).tries < 3 → ∃ d', Runs (.preemptVerifyTimeout p) s d' ∧ (d'.preempt p).state = 1 ∧
        (d'.preempt p).tries = (s.dev.preempt p).tries + 1 ∧
        (d'.preempt p).deadline = some (s.dev.uptime + (s.dev.preempt p).verifyMs * 1000000)) ∧
      (t < s.dev.uptime → 3 ≤ (s.dev.preempt p).tries → ∃ d', Runs (.preemptVerifyTimeout p) s d' ∧ (d'.preempt p).state = 3)) ∧
    (Runs (.belfryCmp p 0) s s.dev ∧ ∀ mask, mask ≠ 0 → Runs (.belfryCmp p mask) s (s.dev.faultF2 0x0201 p mask)) ∧
    (∀ o, tabFind s.dev.streams.observe p = some o → o.enable = true →
      (s.dev.now / (o.periodUs * 1000) ≠ o.lastSample / (o.periodUs * 1000) →
        Runs (.queueObserveSample p) s ((List.range 8).foldl (Dev.observeClass p)
          { s.dev with streams := { s.dev.streams with observe := tabPut s.dev.streams.observe p { o with lastSample := s.dev.now } } })) ∧
      (s.dev.now / (o.periodUs * 1000) = o.lastSample / (o.periodUs * 1000) → Runs (.queueObserveSample p) s s.dev)) ∧
    (∀ e, tabFind s.dev.streams.recoveries p = some e →
      (∀ t, e.deadline = some t → t < s.dev.uptime → Runs (.frerResetTimeout p) s
        { s.dev with streams := { s.dev.streams with
            recoveries := tabPut s.dev.streams.recoveries p { e with takeAny := true, deadline := none } } }) ∧
      (∀ t, e.deadline = some t → s.dev.uptime ≤ t → Runs (.frerResetTimeout p) s s.dev) ∧
      (e.latentMs ≠ 0 → e.periodEnd < s.dev.uptime → ∃ d' e', Runs (.frerLatentPeriodEnd p) s d' ∧
        tabFind d'.streams.recoveries p = some e' ∧ e'.passed = 0 ∧ e'.discarded = 0 ∧
        e'.periodEnd = e.periodEnd + e.latentMs * 1000000 ∧ e'.seq = e.seq ∧ e'.hist = e.hist) ∧
      (e.latentMs = 0 ∨ s.dev.uptime ≤ e.periodEnd → Runs (.frerLatentPeriodEnd p) s s.dev))

/-- A recovery entry passes the first frame of each sequence number within its history and discards the repeats. For every entry
with a HISTORY of 2 to 64 bits and a 16-bit recovered number, and every frame number: in TAKE_ANY the frame passes and its
number becomes the recovered one; a number HISTORY or more away in either direction is rogue and changes nothing; a newer
number within the history passes and becomes the recovered one; an older or equal one passes exactly where its history bit
is clear, which is then set. After a frame with a number has passed within the history, the same number again is discarded.
A frame without an R-TAG follows TAKE_NO_SEQUENCE and changes nothing. (R165) -/
def Obligations.RecoveryEntryEliminates : Prop :=
  ∀ (r : Recovery), 2 ≤ r.history → r.history ≤ 64 → r.seq < 65536 → r.hist % 2 = 1 → r.hist < 2 ^ r.history →
    (recoveryJudge r none = (if r.takeNoSeq then Frer.pass else Frer.discard, r)) ∧
    ∀ q, q < 65536 →
      let dist := signed 16 (q + 65536 - r.seq)
      (r.takeAny = true → recoveryJudge r (some q) = (.pass, { r with takeAny := false, seq := q, hist := 1 })) ∧
      (r.takeAny = false →
        ((r.history ≤ dist ∨ dist ≤ -r.history) → recoveryJudge r (some q) = (.rogue, r)) ∧
        (0 < dist → dist < r.history → (recoveryJudge r (some q)).1 = .pass ∧ (recoveryJudge r (some q)).2.seq = q) ∧
        (dist ≤ 0 → -r.history < dist →
          (recoveryJudge r (some q)).1 = (if bit r.hist (-dist).toNat then .discard else .pass) ∧
          (recoveryJudge r (some q)).2.seq = r.seq)) ∧
      ((recoveryJudge r (some q)).1 = .pass → (recoveryJudge (recoveryJudge r (some q)).2 (some q)).1 = .discard)

/-- A meter colours a frame by its two buckets, charges the one that covers it, and never holds more than its burst sizes. For
every meter, length and time. Filling leaves each bucket at most its burst size and, with time not going back, never less
than before up to that size. An unlatched meter colours green where the committed bucket covers the frame (a yellow frame of
a colour-aware meter excepted), else yellow where the excess bucket does, else red; it charges exactly the bucket that
covered it, and a red frame charges nothing. A latched meter colours every frame red. (R162, R164, R6) -/
def Obligations.MeterColoursByCredit : Prop :=
  ∀ (m : Meter) (len now : Nat) (inYellow : Bool),
    (meterFill m now).c ≤ m.cbs * creditUnit ∧ (meterFill m now).e ≤ m.ebs * creditUnit ∧
    (m.c ≤ m.cbs * creditUnit → m.c ≤ (meterFill m now).c) ∧ (m.e ≤ m.ebs * creditUnit → m.e ≤ (meterFill m now).e) ∧
    (m.latched = true → meterColour m len inYellow = (2, m)) ∧
    (m.latched = false →
      let need := len * creditUnit
      let committed := ¬ (bit m.flags 1 = true ∧ inYellow = true) ∧ need ≤ m.c
      (committed → meterColour m len inYellow = (0, { m with c := m.c - need })) ∧
      (¬ committed → need ≤ m.e → meterColour m len inYellow = (1, { m with e := m.e - need })) ∧
      (¬ committed → m.e < need → meterColour m len inYellow = (2, m)))

/-- The immediate stream commands complete: filters, meters and recovery entries are reset, and status is read without effect.
STR_FILTER_RESET of a configured stream unblocks it, of a meter unlatches it, of a recovery entry puts it into TAKE_ANY with
no reset timer; of one that is not configured it is NOT_FOUND. STR_GATE_STATUS answers 32 bytes: disabled, oper or pending,
and the gates in force. STR_STREAM_STATUS answers 16 bytes, zeros for an entry that is not valid. STR_OBSERVE_READ answers
the records from a sequence number on, and NOT_FOUND with the oldest number in DETAIL for one that is gone. (R160, R164,
R166, R187, spec/06_scheduled_traffic.md) -/
def Obligations.StreamCommandsComplete : Prop :=
  Completes .strFilterReset 0x050B (rspMax 0)
    (fun d _ bs => bs.length = 4 ∧ layoutOk [fr 0 1 0 2, fr 2 2 0 4095] bs = true ∧
      ((byteAt bs 0 = 0 ∧ tabHas d.streams.table (le bs 2 2) = true) ∨ (byteAt bs 0 = 1 ∧ tabHas d.streams.meters (le bs 2 2) = true) ∨
        (byteAt bs 0 = 2 ∧ le bs 2 2 ≤ 1023 ∧ tabHas d.streams.recoveries (le bs 2 2) = true)))
    (fun d _ bs d' pl => pl = [] ∧ d' = { d with streams := d'.streams } ∧
      (byteAt bs 0 = 0 → ∃ e, tabFind d'.streams.table (le bs 2 2) = some e ∧ e.blocked = false) ∧
      (byteAt bs 0 = 1 → ∃ e, tabFind d'.streams.meters (le bs 2 2) = some e ∧ e.latched = false) ∧
      (byteAt bs 0 = 2 → ∃ e, tabFind d'.streams.recoveries (le bs 2 2) = some e ∧ e.takeAny = true ∧ e.deadline = none)) ∧
  Refuses .strFilterReset 0x050B (rspMax 0)
    (fun d _ bs => bs.length = 4 ∧ layoutOk [fr 0 1 0 2, fr 2 2 0 4095] bs = true ∧
      ((byteAt bs 0 = 0 ∧ tabHas d.streams.table (le bs 2 2) = false) ∨ (byteAt bs 0 = 1 ∧ tabHas d.streams.meters (le bs 2 2) = false)))
    stNotFound (fun _ _ _ => 0) ∧
  Completes .strGateStatus 0x050A (rspMax 32) (fun _ _ bs => bs.length = 4 ∧ layoutOk [fr 0 1 0 49] bs = true)
    (fun d _ bs d' pl => d' = d ∧ pl.length = 32 ∧
      let g := d.gates (byteAt bs 0)
      byteAt pl 0 = (if g.oper.isNone then 0 else if g.pending.isEmpty then 1 else 2) ∧ byteAt pl 1 = d.gateVector (byteAt bs 0) % 256) ∧
  Completes .strStreamStatus 0x050C (rspMax 16) (fun _ _ bs => bs.length = 4 ∧ layoutOk [fr 0 2 0 4095] bs = true)
    (fun d _ bs d' pl => d' = d ∧ pl.length = 16 ∧ (tabFind d.streams.table (le bs 0 2) = none → pl = zeros 16) ∧
      (∀ e, tabFind d.streams.table (le bs 0 2) = some e → bit (byteAt pl 0) 0 = true ∧ bit (byteAt pl 0) 2 = e.blocked)) ∧
  Completes .strObserveRead 0x0509 (fun _ bs => 8 + 32 * byteAt bs 1)
    (fun d _ bs => bs.length = 8 ∧ layoutOk [fr 0 1 0 49, fr 1 1 1 64, fa 4 4] bs = true ∧
      ∃ o x rest, tabFind d.streams.observe (byteAt bs 0) = some o ∧ o.records = x :: rest ∧
        0 ≤ signed 32 (le bs 4 4 + 2 ^ 32 - x.1))
    (fun d _ bs d' pl => d' = d ∧ ∃ o x rest, tabFind d.streams.observe (byteAt bs 0) = some o ∧ o.records = x :: rest ∧
      le pl 0 2 = min (byteAt bs 1) (o.records.length - (signed 32 (le bs 4 4 + 2 ^ 32 - x.1)).toNat) ∧ le pl 4 4 = x.1 % 2 ^ 32) ∧
  Refuses .strObserveRead 0x0509 (fun _ bs => 8 + 32 * byteAt bs 1)
    (fun d _ bs => bs.length = 8 ∧ layoutOk [fr 0 1 0 49, fr 1 1 1 64, fa 4 4] bs = true ∧
      ∃ o x rest, tabFind d.streams.observe (byteAt bs 0) = some o ∧ o.records = x :: rest ∧
        signed 32 (le bs 4 4 + 2 ^ 32 - x.1) < 0)
    stNotFound (fun d _ bs => match (tabGet observe0 d.streams.observe (byteAt bs 0)).records.head? with
      | some x => x.1
      | none => 0)

/-- The Cupola sends each member its own value, folds the replies in time, once per leaf, and drops what is tripped, late,
foreign or a duplicate. A frame at P95 for no group, no reply and tested by no trip is counted and gone; one too long for
the port goes uncounted by the Cupola. A command to a tripped group or too short is counted and dropped; else it waits for
its fan-out step, which an open window and its superseded reply precede. With the grant of its transfer (requester 2) the
group takes the next of 2^22 sequence numbers, tag group * 2^22 + number, and, where ARRIVE_NS is not 0, opens a window with
no leaf folded. A member value lies within MIN and MAX of its signedness and is the exact product and offset where that
does. A reply of no leaf, after ARRIVE_NS or the opening plus W, or of a leaf folded before changes no fold and counts one;
another is folded. FOLD_END closes a window when it has run out or every leaf is in, else not. With the grant of its
transfer (requester 3) the oldest fan-in record is written to the Spire pair and its event or group reply leaves; without it
only the arbiter changes. The bank switch waits for windows of the other bank, then exchanges the banks. (R208, R213, R214,
R216, R217, R218, R220, R221, R223, R227) -/
def Obligations.CupolaFansOutAndFoldsIn : Prop :=
  (∀ (s : State) x, s.dev.internalHead 95 = some x →
    (s.dev.passes 95 x = false → Runs .cupolaFrameDequeue s (s.dev.passOut 95 x)) ∧
    (s.dev.passes 95 x = true → let d := s.dev.passOut 95 x
      let bs := egressBytes x.2 x.1.bytes
      d.tripTested (be bs 6 6) bs = false → d.unitGroup (be bs 0 6) (frameVid bs) = none →
        d.replyGroup (be bs 0 6) (frameVid bs) (be bs 6 6) = none →
        Runs .cupolaFrameDequeue s (d.count 7 8197))) ∧
  (∀ (s : State), s.dev.internalHead 95 = none → Runs .cupolaFrameDequeue s s.dev) ∧
  (∀ (d : Dev) g x bs, tabFind d.cupola.groups g = some x →
    (x.tripped = true → d.command g bs = d.count 7 8193) ∧
    (x.tripped = false → commandShort x.cfg bs = true → d.command g bs = d.count 7 8192) ∧
    (x.tripped = false → commandShort x.cfg bs = false → tabFind d.cupola.windows g = none → d.command g bs =
      d.putCupola { d.cupola with fanOut := d.cupola.fanOut ++
        [{ group := g, bytes := bs, bank := d.cupola.bank, cfg := x.cfg, leaves := x.leaves }] })) ∧
  (∀ (s : State) k, s.dev.cupola.emitting = none → s.dev.cupola.fanOut = [] → Runs (.fanOutStep k) s s.dev) ∧
  (∀ (s : State) k e, s.dev.cupola.emitting = some e → Runs (.fanOutStep k) s (s.dev.emitCopies k e)) ∧
  (∀ (s : State) k (x : FanOut) rest (y : Group), s.dev.cupola.emitting = none → s.dev.cupola.fanOut = x :: rest →
    tabFind s.dev.cupola.groups x.group = some y →
    (y.tripped = true → Runs (.fanOutStep k) s ((s.dev.putCupola { s.dev.cupola with fanOut := rest }).count 7 8193)) ∧
    (y.tripped = false → tabHas s.dev.cupola.windows x.group = true → Runs (.fanOutStep k) s (s.dev.endFold x.group 2)) ∧
    (y.tripped = false → tabHas s.dev.cupola.windows x.group = false → s.dev.cupola.replyWaits x.group = false →
      ∀ a, s.dev.free.2.granted 2 64 s.dev.free.1 = some a → ∃ d' z, Runs (.fanOutStep k) s d' ∧ d'.cupola.fanOut = rest ∧
        tabFind d'.cupola.groups x.group = some z ∧
        z.seq = (y.seq + 1) % 2 ^ 22 ∧ z.lastTag = x.group * 2 ^ 22 + y.seq ∧ z.tripped = false ∧
        (arriveNs x.cfg ≠ 0 → ∃ w : Window, tabFind d'.cupola.windows x.group = some w ∧ w.tag = z.lastTag ∧ w.folded = [] ∧
          w.opened = d'.uptime ∧ w.leaves = x.leaves ∧ w.bank = x.bank))) ∧
  (∀ (l : Leaf) (sg : Bool) (raw : Nat), l.min < 2 ^ 32 → l.max < 2 ^ 32 → val32 sg l.min ≤ val32 sg l.max →
    val32 sg l.min ≤ val32 sg (memberValue l sg raw).1 ∧ val32 sg (memberValue l sg raw).1 ≤ val32 sg l.max ∧
    let q := roundDiv (val32 sg raw * l.weight) 65536 + l.offset
    (val32 sg l.min ≤ q → q ≤ val32 sg l.max → val32 sg (memberValue l sg raw).1 = q ∧ (memberValue l sg raw).2 = false)) ∧
  (∀ (d : Dev) g (w : Window) bs sa arrival,
    (leafIndex w.leaves sa = none → d.foldReply g w bs sa arrival = d.count 7 8195) ∧
    (∀ i, leafIndex w.leaves sa = some i →
      (w.opened + arriveNs w.cfg < arrival ∨ w.opened + windowNs w.cfg < d.uptime → d.foldReply g w bs sa arrival = d.count 7 (g * 8 + 5)) ∧
      (arrival ≤ w.opened + arriveNs w.cfg → d.uptime ≤ w.opened + windowNs w.cfg → i ∈ w.folded → d.foldReply g w bs sa arrival = d.count 7 8196) ∧
      (arrival ≤ w.opened + arriveNs w.cfg → d.uptime ≤ w.opened + windowNs w.cfg → i ∉ w.folded →
        w.folded.length + 1 ≠ w.leaves.length →
        ∃ w' : Window, tabFind (d.foldReply g w bs sa arrival).cupola.windows g = some w' ∧ w'.folded = w.folded ++ [i] ∧
          w'.tag = w.tag ∧ w'.opened = w.opened ∧ w'.acc = ((inFields w.cfg).zip w.acc).map (fun (x : (Nat × Nat × Bool) × Int) =>
            foldStep x.1.2.1 x.1.2.2 w.folded.isEmpty x.2 (be bs x.1.1 4))))) ∧
  (∀ (s : State) g (w : Window), tabFind s.dev.cupola.windows g = some w →
    let done := s.dev.uptime > w.opened + windowNs w.cfg ∨ w.leaves.length ≤ w.folded.length
    (done → Runs (.foldEnd g) s (s.dev.putCupola { s.dev.cupola with
      windows := tabDel s.dev.cupola.windows g, closed := tabPut s.dev.cupola.closed g { w with ended := s.dev.uptime }
      fanIn := s.dev.cupola.fanIn ++ [.fold g { w with ended := s.dev.uptime } 0] })) ∧
    (¬ done → Runs (.foldEnd g) s s.dev)) ∧
  (∀ (s : State) r rest, s.dev.cupola.fanIn = r :: rest →
    let e := s.dev.free.2
    (∀ a, e.granted 3 64 s.dev.free.1 = some a →
      let d := (Dev.putCupola { e with arb := a } { s.dev.cupola with fanIn := rest }).toSpire (.result r)
      (∀ g m time, r = .trip g m time → Runs .fanInStep s (d.post 0x0701 g (m + time % 2 ^ 32 * 2 ^ 32))) ∧
      (∀ g w cause, r = .fold g w cause →
        (replyFlags w cause % 32 ≠ 0 → Runs .fanInStep s (d.sendGroupReply g w cause)) ∧
        (replyFlags w cause % 32 = 0 → Runs .fanInStep s ((d.sendGroupReply g w cause).foldToCask g w (replyFlags w cause))))) ∧
    (e.granted 3 64 s.dev.free.1 = none → ∃ arb, Runs .fanInStep s { e with arb := arb })) ∧
  (∀ (s : State) c, s.dev.txn.committing = some c →
    (c.cupola = false ∨ s.dev.cupola.mayFlip = false → Runs .cupolaBankFlip s s.dev) ∧
    (c.cupola = true → s.dev.cupola.mayFlip = true → ∃ d', Runs .cupolaBankFlip s d' ∧ d'.cupola.bank = 1 - s.dev.cupola.bank))

/-- CUP_TRIP_CLEAR clears a trip and its pin; the group, expansion and admission report reads answer without effect.
CUP_TRIP_CLEAR of a group that no frame of this tick matches leaves it not tripped and its pin inactive; of a group that was
not tripped it changes nothing else; a group that a frame tripped in this very tick stays tripped (R226); of no group it is
NOT_FOUND. CUP_GROUP_STATUS answers 48 bytes with flags valid, window open, tripped and packed. CUP_EXPANSION_READ answers
the leaves from an index on, at most as many as asked, and the next index or 0xFFFF. ADM_REPORT_READ answers the records of
one scope, their number and the number of the paths; NOT_FOUND where no report is stored. (R206, R211, R226,
spec/08_power_groups.md, spec/07_admission_check.md) -/
def Obligations.CupolaAndAdmissionQueriesComplete : Prop :=
  Completes .cupTripClear 0x0704 (rspMax 0)
    (fun d _ bs => bs.length = 4 ∧ layoutOk [fr 0 2 0 1023] bs = true ∧ ∃ x, tabFind d.cupola.groups (le bs 0 2) = some x ∧
      ∀ m, x.matched = some m → m.1 ≠ d.uptime)
    (fun d _ bs d' pl => pl = [] ∧ ∃ x y, tabFind d.cupola.groups (le bs 0 2) = some x ∧
      tabFind d'.cupola.groups (le bs 0 2) = some y ∧ y.tripped = false ∧ tabFind d'.cupola.pins (le bs 0 2) = none ∧
      (x.tripped = false → d' = d.putCupola { d.cupola with pins := d'.cupola.pins })) ∧
  Completes .cupTripClear 0x0704 (rspMax 0)
    (fun d _ bs => bs.length = 4 ∧ layoutOk [fr 0 2 0 1023] bs = true ∧ ∃ x, tabFind d.cupola.groups (le bs 0 2) = some x ∧
      x.tripped = true ∧ x.trippedAt = d.uptime ∧ ∃ m, x.matched = some m ∧ m.1 = d.uptime)
    (fun d _ _ d' pl => pl = [] ∧ d' = d) ∧
  Refuses .cupTripClear 0x0704 (rspMax 0)
    (fun d _ bs => bs.length = 4 ∧ layoutOk [fr 0 2 0 1023] bs = true ∧ tabFind d.cupola.groups (le bs 0 2) = none)
    stNotFound (fun _ _ _ => 0) ∧
  Completes .cupGroupStatus 0x0705 (rspMax 48) (fun d _ bs => bs.length = 4 ∧ layoutOk [fr 0 2 0 1023] bs = true ∧
      ∀ x, tabFind d.cupola.groups (le bs 0 2) = some x → x.lastFolds.length = 8)
    (fun d _ bs d' pl => d' = d ∧ pl.length = 48 ∧ bit (byteAt pl 0) 0 = tabHas d.cupola.groups (le bs 0 2) ∧
      bit (byteAt pl 0) 1 = tabHas d.cupola.windows (le bs 0 2) ∧
      (∀ x, tabFind d.cupola.groups (le bs 0 2) = some x → bit (byteAt pl 0) 2 = x.tripped ∧ le pl 4 4 = x.lastTag % 2 ^ 32)) ∧
  Completes .cupExpansionRead 0x0706 (fun _ bs => 8 + 32 * byteAt bs 4)
    (fun d _ bs => bs.length = 8 ∧ layoutOk [fr 0 2 0 1023, fr 2 2 0 1023, fr 4 1 1 127] bs = true ∧
      tabHas d.cupola.groups (le bs 0 2) = true)
    (fun d _ bs d' pl => d' = d ∧ ∃ x, tabFind d.cupola.groups (le bs 0 2) = some x ∧
      le pl 0 2 = min (byteAt bs 4) (x.leaves.length - le bs 2 2) ∧
      (x.leaves.length ≤ le bs 2 2 + byteAt bs 4 → le pl 2 2 = 0xFFFF)) ∧
  Refuses .cupExpansionRead 0x0706 (fun _ bs => 8 + 32 * byteAt bs 4)
    (fun d _ bs => bs.length = 8 ∧ layoutOk [fr 0 2 0 1023, fr 2 2 0 1023, fr 4 1 1 127] bs = true ∧
      tabFind d.cupola.groups (le bs 0 2) = none)
    stNotFound (fun _ _ _ => 0) ∧
  Completes .admReportRead 0x0607 (fun _ bs => 16 + 32 * le bs 4 2)
    (fun d rq bs => bs.length = 8 ∧ layoutOk [fr 0 1 0 2, fa 2 2, fr 4 2 1 (if reqBulkRsp rq then 65535 else 127)] bs = true ∧
      d.adm.report.isSome = true)
    (fun d _ bs d' pl => d' = d ∧ ∃ r, d.adm.report = some r ∧ le pl 4 4 = r.paths % 2 ^ 32 ∧
      le pl 2 2 = min (r.scope (byteAt bs 0)).length 65535 ∧
      le pl 0 2 = min (le bs 4 2) ((r.scope (byteAt bs 0)).length - le bs 2 2)) ∧
  Refuses .admReportRead 0x0607 (fun _ bs => 16 + 32 * le bs 4 2)
    (fun d rq bs => bs.length = 8 ∧ layoutOk [fr 0 1 0 2, fa 2 2, fr 4 2 1 (if reqBulkRsp rq then 65535 else 127)] bs = true ∧
      d.adm.report = none)
    stNotFound (fun _ _ _ => 0)

/-- A CAN channel counts and accepts frames, offers its lowest key first, keeps its error counters, enters and leaves bus-off. A
frame on a channel that is off, asleep or bus-off in no domain does nothing; an FD frame without FD is a protocol exception,
after which the channel takes nothing for 11 bit times; another is counted, acknowledged and accepted or counted as
filtered. The frame offered has the lowest arbitration key of those buffered; winning, it leaves the buffers; losing, it
stays and is counted, but under ONE_SHOT. A completed frame frees the channel. Late frames leave the buffers. New error
counters set the state by 127 and 255, and beyond 255 the channel is bus-off and sends nothing. The delay's expiry starts
the recovery, whose end makes the counters 0. An accumulation whose BUS tick is over, with no reception of it waiting, emits
what is held, once. (R233, R234, R235, R236, R237, R239, R240, R243) -/
def Obligations.CanChannelsActAsRuled : Prop :=
  (∀ (s : State) k f, s.dev.canOn k = false → s.dev.domainOf (canPort k) = none → Runs (.canFrameReceived k f) s s.dev) ∧
  (∀ (s : State) k f, s.dev.canOn k = true → s.dev.canWaits k = true → Runs (.canFrameReceived k f) s s.dev ∧
    (∀ e, Runs (.canBusError k e) s s.dev) ∧ (∀ won, Runs (.canArbitrationStart k won) s s.dev) ∧ Runs (.canProtocolException k) s s.dev) ∧
  (∀ (s : State) k f, s.dev.canOn k = true → s.dev.canWaits k = false →
    (f.fd = true → bit (byteAt (s.dev.canCh k).cfg 1) 2 = false →
      Runs (.canFrameReceived k f) s ((s.dev.modCan k (fun c => c.startWait s.dev.uptime)).countCan k 15)) ∧
    (f.fd = false ∨ bit (byteAt (s.dev.canCh k).cfg 1) 2 = true →
      let d := ((((s.dev.countCan k 0).canAcks k).recOk k).canKeepAlive k f).watchCan k f
      ((d.canCh k).accepts f = false → Runs (.canFrameReceived k f) s (d.countCan k 1)) ∧
      ((d.canCh k).accepts f = true → d.canSource k f = none → byteAt (d.canCh k).cfg 0x12 ≠ 1 →
        Runs (.canFrameReceived k f) s (d.countCan k 2)) ∧
      (∀ i q, (d.canCh k).accepts f = true → d.canSource k f = some (i, q) → ∃ r : Reception,
        Runs (.canFrameReceived k f) s (d.receive r) ∧ r.src = i ∧ r.can = some f ∧ r.arrival = d.now ∧
          (f.rtr = false → r.bytes = f.data)))) ∧
  (∀ (s : State) k, Runs (.canProtocolException k) s
    (if s.dev.canOn k && !s.dev.canWaits k then (s.dev.modCan k (fun c => c.startWait s.dev.uptime)).countCan k 15 else s.dev)) ∧
  (∀ (c : CanCh) up, (c.startWait up).quietUntil = up + ceilDiv (11 * (canBitPs c.cfg).1) 1000) ∧
  (∀ (l : List CanTx) t, firstTx l = some t → t ∈ l ∧ ∀ x ∈ l, arbKey t.frame ≤ arbKey x.frame) ∧
  (∀ (s : State) k won, s.dev.canSends k = false ∨ s.dev.canWaits k = true ∨ (s.dev.canCh k).sending.isSome = true → Runs (.canArbitrationStart k won) s s.dev) ∧
  (∀ (s : State) k t, s.dev.canSends k = true → s.dev.canWaits k = false → (s.dev.canCh k).sending = none →
    firstTx ((s.dev.canCh k).bufs.filter (fun t => !t.late s.dev.now)) = some t →
    (∃ d', Runs (.canArbitrationStart k true) s d' ∧ (d'.canCh k).sending = some t ∧
      (d'.canCh k).bufs = ((s.dev.canCh k).bufs.filter (fun t => !t.late s.dev.now)).erase t ∧
      d'.outs = s.dev.outs ++ [.can k t.frame]) ∧
    ((s.dev.canCh k).oneShot = false → Runs (.canArbitrationStart k false) s ((s.dev.dropLate k).countCan k 8))) ∧
  (∀ (s : State) k edges, (s.dev.canCh k).sending = none → Runs (.canTxComplete k edges) s s.dev) ∧
  (∀ (s : State) k edges t, (s.dev.canCh k).sending = some t → bit (byteAt (s.dev.canCh k).cfg 0x0C) 0 = false →
    (s.dev.canCh k).tec ≤ 256 →
    ∃ d', Runs (.canTxComplete k edges) s d' ∧ (d'.canCh k).sending = none ∧ (d'.canCh k).bufs = (s.dev.canCh k).bufs ∧
      ((s.dev.canCh k).mode = 1 → s.dev.mayDrive = true → (s.dev.canCh k).busOff = false → (d'.canCh k).tec = (s.dev.canCh k).tec - 1)) ∧
  (∀ (s : State) k, ∃ d', Runs (.canTxLate k) s d' ∧ (d'.canCh k).bufs = (s.dev.canCh k).bufs.filter (fun t => !t.late s.dev.now)) ∧
  (∀ (s : State) k e, (s.dev.canOn k = false → Runs (.canBusError k e) s s.dev) ∧
    (s.dev.canOn k = true → s.dev.canWaits k = false → e.transmitting = false → (s.dev.canCh k).recCnt ≤ 127 →
      Runs (.canBusError k e) s (((s.dev.countCan k (9 + min e.kind 4)).canSignals k).setErrors k (s.dev.canCh k).tec
        ((s.dev.canCh k).recCnt + (if e.dominantAfter then 8 else 1)))) ∧
    (s.dev.canOn k = true → s.dev.canWaits k = false → e.transmitting = true → ∃ d', Runs (.canBusError k e) s d' ∧ (d'.canCh k).sending = none)) ∧
  (∀ (d : Dev) k tec rec_, (d.canCh k).mode = 1 → d.mayDrive = true → (d.canCh k).busOff = false → (d.canCh k).errState ≤ 1 →
    let c := (d.setErrors k tec rec_).canCh k
    c.tec = tec ∧ c.recCnt = rec_ ∧ c.errState = errorState tec rec_ ∧ c.busOff = decide (255 < tec) ∧
      (255 < tec → c.sending = none ∧ (bit (byteAt (d.canCh k).cfg 1) 5 = true → c.bufs = []))) ∧
  (∀ (s : State) k, (s.dev.canCh k).busOff = true →
    (∀ t, (s.dev.canCh k).boffDeadline = some t → t < s.dev.uptime → Runs (.busOffDelayExpiry k) s
      (s.dev.modCan k (fun c => { c with boffDeadline := none, recovering := true }))) ∧
    (s.dev.overO (s.dev.canCh k).boffDeadline = false → Runs (.busOffDelayExpiry k) s s.dev) ∧
    ((s.dev.canCh k).recovering = true → s.dev.portSleeping (canPort k) = false →
      ∃ d', Runs (.busOffRecoveryComplete k) s d' ∧ (d'.canCh k).busOff = false ∧ (d'.canCh k).tec = 0 ∧ (d'.canCh k).recCnt = 0) ∧
    ((s.dev.canCh k).recovering = false → Runs (.busOffRecoveryComplete k) s s.dev)) ∧
  (∀ (s : State) i q, tabFind s.dev.gateway.dsts i = some q →
    (s.dev.overBus q.heldUntil = false ∨ s.dev.acfAwaits i q.heldUntil = true → Runs (.acfOutAccumExpiry i) s s.dev) ∧
    (q.held ≠ [] → s.dev.overBus q.heldUntil = true → s.dev.acfAwaits i q.heldUntil = false → ∃ d' q', Runs (.acfOutAccumExpiry i) s d' ∧
      tabFind d'.gateway.dsts i = some q' ∧ q'.held = [] ∧ q'.acfSeq = (q.acfSeq + 1) % 256))

/-- A serial channel keeps characters and closes messages; the poll engine starts, answers, retries and times out one
transaction at a time. A character on a channel that is off, asleep or driving is discarded; on a raw channel it joins its
FIFO with its marks, a full FIFO loses it; a break marks the next. A message closes once its idle gap has run or MAX_BYTES
are held, and its characters leave. A periodic entry that falls due is next due on its grid. A transaction starts only where
none runs, the inter-poll time has passed and the channel is a working Modbus master, retries first, then on-demand entries
in order. A response timer that has run out ends a broadcast and fails another attempt; a frame is what was read after the
last silence of t3.5, outside what the line was driven for; one to no transaction is unsolicited; a badly framed reply, or
one with a silence over t1.5, fails the attempt, an exception reply fails the poll; a good one frees the channel and
delivers its data; a failed attempt is retried up to RETRIES times. (R245, R246, R247, R249, R250, R251, R252) -/
def Obligations.SerialChannelsAndPollsAct : Prop :=
  (∀ (s : State) k x, 8 ≤ k ∨ (s.dev.serialCh k).mode = 0 ∨ s.dev.portSleeping (serialPort k) = true ∨
      (s.dev.serialCh k).driving s.dev.uptime = true → Runs (.serialCharReceived k x) s s.dev) ∧
  (∀ (s : State) k (x : SerialChar), k < 8 → (s.dev.serialCh k).mode ≠ 0 → s.dev.portSleeping (serialPort k) = false →
    (s.dev.serialCh k).driving s.dev.uptime = false →
    let c := s.dev.serialCh k
    (x.brk = true → ∃ d', Runs (.serialCharReceived k x) s d' ∧ (d'.serialCh k).rx = c.rx ∧ (d'.serialCh k).brk = true) ∧
    (x.brk = false → c.mode ≠ 2 → ∃ d', Runs (.serialCharReceived k x) s d' ∧ (d'.serialCh k) = c) ∧
    (x.brk = false → c.mode = 2 → 4096 ≤ c.rx.length → ∃ d', Runs (.serialCharReceived k x) s d' ∧ (d'.serialCh k).rx = c.rx ∧
      (d'.serialCh k).lost = true) ∧
    (x.brk = false → c.mode = 2 → c.rx.length < 4096 → ∃ d', Runs (.serialCharReceived k x) s d' ∧ (d'.serialCh k).brk = false ∧
      (d'.serialCh k).rx = c.rx ++ [HeldChar.mk x.value (b2n c.brk + 2 * b2n x.parity + 4 * b2n x.framing)
        (s.dev.now - c.charsNs 1) s.dev.uptime])) ∧
  (∀ (s : State) k, let c := s.dev.serialCh k
    let cap := le c.cfg 0x0A 2
    (c.rx.take cap = [] → Runs (.rawMessageClose k) s s.dev) ∧
    (∀ last, (c.rx.take cap).getLast? = some last →
      (c.rx.length < cap → s.dev.uptime < last.ends + c.halfChars (byteAt c.cfg 9) → Runs (.rawMessageClose k) s s.dev) ∧
      (c.mode = 2 → (cap ≤ c.rx.length ∨ last.ends + c.halfChars (byteAt c.cfg 9) ≤ s.dev.uptime) → ∃ d', Runs (.rawMessageClose k) s d' ∧
        (d'.serialCh k).rx = c.rx.drop (c.rx.take cap).length ∧ (d'.serialCh k).lost = false ∧
        (d'.serialCh k).seq = (c.seq + 1) % 65536))) ∧
  (∀ (s : State) e, (∀ q, tabFind s.dev.gateway.polls e = some q → q.period = none) → Runs (.pollDue e) s s.dev) ∧
  (∀ (s : State) e q c p, tabFind s.dev.gateway.polls e = some q → q.period = some (c, p) →
    (s.dev.now < q.nextDue → Runs (.pollDue e) s s.dev) ∧
    (q.nextDue ≤ s.dev.now → (s.dev.serialCh q.channel).mode = 1 → s.dev.portSleeping (serialPort q.channel) = false →
      (∀ x ∈ (s.dev.serialCh q.channel).due, x.2 ≠ e) → ∃ d', Runs (.pollDue e) s d' ∧
        (d'.serialCh q.channel).due = (s.dev.serialCh q.channel).due ++ [(q.nextDue, e)]) ∧
    (q.nextDue ≤ s.dev.now → ∃ d' q', Runs (.pollDue e) s d' ∧ tabFind d'.gateway.polls e = some q' ∧
      q'.nextDue = gridFrom p c (s.dev.now + 1))) ∧
  (∀ (s : State) k, let c := s.dev.serialCh k
    (c.mode ≠ 1 ∨ c.txn.isSome = true ∨ s.dev.uptime < c.readyAt ∨ s.dev.portSleeping (serialPort k) = true ∨ s.dev.mayDrive = false ∨
      c.nextTxn s.dev.uptime = none → Runs (.pollTransactionStart k) s s.dev) ∧
    (∀ t c' e, c.mode = 1 → c.txn = none → c.readyAt ≤ s.dev.uptime → s.dev.portSleeping (serialPort k) = false → s.dev.mayDrive = true →
      c.nextTxn s.dev.uptime = some (t, c') → tabFind s.dev.gateway.polls t.entry = some e → e.channel = k → ∃ d1 dl,
        Runs (.pollTransactionStart k) s (Dev.holdPort d1 (serialPort k)) ∧ (d1.serialCh k).txn = some { t with deadline := dl } ∧
          (d1.serialCh k).retry = none ∧ ∃ bytes, d1.outs = s.dev.outs ++ [.serial k false bytes])) ∧
  (∀ (c : SerialCh) up t c', c.nextTxn up = some (t, c') →
    (∀ r, c.retry = some r → t = { r with attempt := r.attempt + 1 }) ∧
    (∀ e rest, c.retry = none → c.onDemand = e :: rest → t.entry = e ∧ t.attempt = 1 ∧ c'.onDemand = rest)) ∧
  (∀ (s : State) k, ((s.dev.serialCh k).txn = none → Runs (.pollResponseTimeout k) s s.dev) ∧
    (∀ t e, (s.dev.serialCh k).txn = some t → tabFind s.dev.gateway.polls t.entry = some e →
      (s.dev.overBus t.deadline = false → Runs (.pollResponseTimeout k) s s.dev) ∧
      (s.dev.overBus t.deadline = true → e.slave = 0 → Runs (.pollResponseTimeout k) s (s.dev.pollFree k none)) ∧
      (s.dev.overBus t.deadline = true → e.slave ≠ 0 → Runs (.pollResponseTimeout k) s (s.dev.pollAttemptFailed k t e 1)))) ∧
  (∀ (s : State) k bytes idles, 8 ≤ k ∨ (s.dev.serialCh k).mode ≠ 1 ∨ s.dev.portSleeping (serialPort k) = true ∨
      (s.dev.serialCh k).heard s.dev.uptime (lastFrame (s.dev.serialCh k).t35 (replyChars bytes idles)) = [] →
    Runs (.pollReplyReceived k bytes idles) s s.dev) ∧
  (∀ (s : State) k bytes idles, k < 8 → (s.dev.serialCh k).mode = 1 → s.dev.portSleeping (serialPort k) = false →
    let c := s.dev.serialCh k
    let frame := c.heard s.dev.uptime (lastFrame c.t35 (replyChars bytes idles))
    let bs : Bytes := frame.map (fun x => BitVec.ofNat 8 x.value)
    let d := ((s.dev.countN 8 (1024 + k * 16) bs.length).countSl k 2).portKeepAlive (serialPort k)
    frame ≠ [] →
    (c.txn = none → Runs (.pollReplyReceived k bytes idles) s (d.unsolicited k)) ∧
    (∀ t e, c.txn = some t → tabFind d.gateway.polls t.entry = some e →
      (d.overBus t.deadline = true ∨ e.slave = 0 → Runs (.pollReplyReceived k bytes idles) s (d.unsolicited k)) ∧
      (d.overBus t.deadline = false → e.slave ≠ 0 →
        (replyFramed e bs (c.gapError frame) = false → Runs (.pollReplyReceived k bytes idles) s (d.pollAttemptFailed k t e 2)) ∧
        (replyFramed e bs (c.gapError frame) = true → e.function ≠ 0 → byteAt bs 1 = e.function + 0x80 → bs.length = 5 →
          Runs (.pollReplyReceived k bytes idles) s
            (((d.count 8 (1152 + t.entry * 4 + 3)).pollFree k none).pollFail t e (3 + byteAt bs 2 * 256))) ∧
        (replyFramed e bs (c.gapError frame) = true → replyData e bs = none → e.function = 0 ∨ byteAt bs 1 ≠ e.function + 0x80 →
          Runs (.pollReplyReceived k bytes idles) s (d.pollAttemptFailed k t e 2)) ∧
        (∀ data, replyFramed e bs (c.gapError frame) = true → replyData e bs = some data → (e.function = 0 ∨ byteAt bs 1 = e.function) →
          Runs (.pollReplyReceived k bytes idles) s ((d.pollFree k none).pollDelivers t e data))))) ∧
  (∀ (c : SerialCh) frame, c.gapError frame = true ↔ ∃ x ∈ frame.drop 1, c.t15 < x.idle) ∧
  (∀ (d : Dev) k t e why, t.attempt ≤ e.retries →
    ((d.pollAttemptFailed k t e why).serialCh k).retry = some t ∧ ((d.pollAttemptFailed k t e why).serialCh k).txn = none)

/-- Signals are placed and converted exactly; receptions, sends, timeouts and the gateway commands act on their PDUs. A value
placed in bits within a PDU is read back, and every other bit stands. A converted value is the exact product and offset,
clamped by the scale entry and the destination's range, flagged where a clamp changed it. The head of the urgent receptions,
else of the normal ones, is applied when its transfer commits, a legal one after its delivery. A cyclic send that is due
moves to its next grid instant; a deferred send goes at the gap's end. A timed-out source PDU is marked once. A frame at P94
longer than its limit is only passed out. GW_CAN_RECOVER starts the recovery of a channel in bus-off, else WRONG_MODE;
GW_POLL_NOW queues an entry once, else BUSY; GW_PDU_SEND writes the bytes; status reads have no effect. (R229, R230, R253,
R255, R256, R257, R258, R240, R245, R250) -/
def Obligations.SignalsAndPdusAreRouted : Prop :=
  (∀ (bs : Bytes) start len big v, bitsWithin (signalBits start len big) bs.length = true → v < 2 ^ len →
    let pos := signalBits start len big
    signalGet (signalPut bs pos v) pos = v ∧ (signalPut bs pos v).length = bs.length ∧
    ∀ b, b ∉ pos → b < 8 * bs.length → pduBit (signalPut bs pos v) b = pduBit bs b) ∧
  (∀ (r : Route) (sc : Option Scale) raw, 1 ≤ r.dstLen → let x : Int := if r.srcSigned then signed r.srcLen raw else (raw : Int)
    let y := match sc with | some c => roundDiv (x * c.factor) 65536 + c.offset | none => x
    let z := match sc with | some c => max c.min (min c.max y) | none => y
    (if r.dstSigned then signed r.dstLen (r.convert sc raw).1 else ((r.convert sc raw).1 : Int)) = r.fit z ∧
    ((r.convert sc raw).2 = true ↔ z ≠ y ∨ r.fit z ≠ z)) ∧
  (∀ (s : State), (s.dev.gateway.urgent = [] → s.dev.gateway.normal = [] → Runs .sgeRouteStep s s.dev) ∧
    (∀ r, s.dev.gateway.head = some r → tabFind s.dev.gateway.srcs r.src = none →
      Runs .sgeRouteStep s (s.dev.putGateway s.dev.gateway.pop)) ∧
    (∀ r q, s.dev.gateway.head = some r → tabFind s.dev.gateway.srcs r.src = some q → q.legal = false ∨ r.delivered = true →
      let f := s.dev.free
      (∀ a, f.2.granted (s.dev.sgeRequester q) 64 f.1 = some a → Runs .sgeRouteStep s
        (({ f.2 with arb := a } : Dev).putGateway s.dev.gateway.pop |>.sgeApply r)) ∧
      (f.2.granted (s.dev.sgeRequester q) 64 f.1 = none → ∃ arb, Runs .sgeRouteStep s { f.2 with arb := arb })) ∧
    (∀ r q, s.dev.gateway.head = some r → tabFind s.dev.gateway.srcs r.src = some q → q.legal = true → r.delivered = false →
      let f := s.dev.free
      f.2.granted (if q.kind = 1 then 6 else 4) 64 f.1 = none → ∃ d', Runs .sgeRouteStep s d' ∧
        d'.gateway = s.dev.gateway ∧ d'.cask = s.dev.cask)) ∧
  (∀ (g : Gateway) r, (g.urgent = [] → g.normal = [] → g.head = none) ∧
    (∀ t, g.urgent = r :: t → g.head = some r ∧ g.pop = { g with urgent := t }) ∧
    (∀ t, g.urgent = [] → g.normal = r :: t → g.head = some r ∧ g.pop = { g with normal := t })) ∧
  (∀ (s : State) i q, tabFind s.dev.gateway.dsts i = some q →
    (∀ c p, q.cycle = some (c, p) →
      (s.dev.now < q.nextCycle → Runs (.dstPduCyclicSend i) s s.dev) ∧
      (q.nextCycle ≤ s.dev.now → ∃ d1, Runs (.dstPduCyclicSend i) s (Dev.wantSend d1 i q.nextCycle) ∧
        tabFind d1.gateway.dsts i = some { q with nextCycle := gridFrom p c (s.dev.now + 1) })) ∧
    (∀ t, q.deferred = some t → (s.dev.uptime < t → Runs (.dstPduDeferredSend i) s s.dev) ∧
      (t ≤ s.dev.uptime → q.outbox = [] → Runs (.dstPduDeferredSend i) s (s.dev.sendDst i (s.dev.now - (s.dev.uptime - t)))))) ∧
  (∀ (s : State) i q, tabFind s.dev.gateway.srcs i = some q →
    (q.deadline.any s.dev.overBus = false → Runs (.srcPduTimeout i) s s.dev) ∧
    (q.deadline.any s.dev.overBus = true → ∃ d' q', Runs (.srcPduTimeout i) s d' ∧ tabFind d'.gateway.srcs i = some q' ∧
      q'.timedOut = true ∧ q'.deadline = none)) ∧
  (∀ (s : State) x, s.dev.internalHead 94 = some x → s.dev.passes 94 x = false →
    (x.2.dest < 90 → Runs .p94FrameToChannel s (s.dev.passOut 94 x)) ∧ (90 ≤ x.2.dest → Runs .p94FrameToGateway s (s.dev.passOut 94 x))) ∧
  (∀ (s : State) x, s.dev.internalHead 94 = some x → s.dev.passes 94 x = true → let bs := egressBytes x.2 x.1.bytes
    let d := s.dev.passOut 94 x
    (x.2.dest < 82 → Runs .p94FrameToChannel s (d.tunnelToChannel (x.2.dest - 50) bs (s.dev.latestOf x.1))) ∧
    (82 ≤ x.2.dest → x.2.dest < 90 → isSerialFrame bs = true → Runs .p94FrameToChannel s (d.serialToChannel (x.2.dest - 82) bs)) ∧
    (82 ≤ x.2.dest → x.2.dest < 90 → isSerialFrame bs = false → Runs .p94FrameToChannel s (d.count 8 8192)) ∧
    (90 ≤ x.2.dest → isSerialFrame bs = true → let ch := byteAt bs ((gristL2 bs).etypeOff + 4)
      (8 ≤ ch → Runs .p94FrameToGateway s (d.count 8 8192)) ∧ (ch < 8 → Runs .p94FrameToGateway s (d.serialToChannel ch bs))) ∧
    (90 ≤ x.2.dest → isSerialFrame bs = false → Runs .p94FrameToGateway s (d.gatewayFrame bs x.1))) ∧
  Completes .gwCanRecover 0x0809 (rspMax 0)
    (fun d _ bs => bs.length = 4 ∧ layoutOk [fr 0 1 0 31] bs = true ∧ (d.canCh (byteAt bs 0)).busOff = true)
    (fun d _ bs d' pl => pl = [] ∧ d' = d.modCan (byteAt bs 0) (fun c => { c with boffDeadline := none, recovering := true })) ∧
  Refuses .gwCanRecover 0x0809 (rspMax 0)
    (fun d _ bs => bs.length = 4 ∧ layoutOk [fr 0 1 0 31] bs = true ∧ (d.canCh (byteAt bs 0)).busOff = false) stWrongMode (fun _ _ _ => 0) ∧
  Completes .gwCanStatus 0x080A (rspMax 8) (fun _ _ bs => bs.length = 4 ∧ layoutOk [fr 0 1 0 31] bs = true)
    (fun d _ bs d' pl => d' = d ∧ pl.length = 8 ∧ ((d.canCh (byteAt bs 0)).mode = 0 → byteAt pl 0 = 3) ∧
      ((d.canCh (byteAt bs 0)).mode ≠ 0 → (d.canCh (byteAt bs 0)).busOff = true → byteAt pl 0 = 2) ∧
      byteAt pl 1 = min (d.canCh (byteAt bs 0)).tec 255 ∧ byteAt pl 2 = min (d.canCh (byteAt bs 0)).recCnt 255) ∧
  Completes .gwSerialStatus 0x080B (rspMax 8) (fun _ _ bs => bs.length = 4 ∧ layoutOk [fr 0 1 0 7] bs = true)
    (fun d _ _ d' pl => d' = d ∧ pl.length = 8) ∧
  Completes .gwPduRead 0x080C (fun d bs => 20 + pduLength d bs)
    (fun d _ bs => bs.length = 4 ∧ layoutOk [fr 0 1 0 1, fr 2 2 0 16383] bs = true ∧
      (byteAt bs 0 = 0 → tabHas d.gateway.srcs (le bs 2 2) = true) ∧ (byteAt bs 0 = 1 → tabHas d.gateway.dsts (le bs 2 2) = true))
    (fun d _ bs d' pl => d' = d ∧ le pl 2 2 = pduLength d bs % 65536 ∧ pl.length = 20 + pduLength d bs) ∧
  Completes .gwPduSend 0x080D (rspMax 0)
    (fun d _ bs => bs.length = 8 + le bs 4 2 ∧ layoutOk [fr 0 2 0 16383, fa 2 2, fr 4 2 0 256] (bs.take 8) = true ∧
      ∃ q, tabFind d.gateway.dsts (le bs 0 2) = some q ∧ le bs 2 2 + le bs 4 2 ≤ q.len)
    (fun d _ bs d' pl => pl = [] ∧ ∃ q, tabFind d.gateway.dsts (le bs 0 2) = some q ∧
      d' = (d.putContent (le bs 0 2) (patch q.content (le bs 2 2) (bs.drop 8))).wantSend (le bs 0 2) d.now) ∧
  Completes .gwPollNow 0x080E (rspMax 0)
    (fun d _ bs => bs.length = 4 ∧ layoutOk [fr 0 2 0 1023] bs = true ∧ ∃ e, tabFind d.gateway.polls (le bs 0 2) = some e ∧
      le bs 0 2 ∉ (d.serialCh e.channel).onDemand ∧ (d.serialCh e.channel).mode = 1)
    (fun d _ bs d' pl => pl = [] ∧ d' = d.queuePoll (le bs 0 2)) ∧
  Refuses .gwPollNow 0x080E (rspMax 0)
    (fun d _ bs => bs.length = 4 ∧ layoutOk [fr 0 2 0 1023] bs = true ∧ ∃ e, tabFind d.gateway.polls (le bs 0 2) = some e ∧
      le bs 0 2 ∈ (d.serialCh e.channel).onDemand) stBusy (fun _ _ _ => 0)

/-- The servo, the receipt timers, capability, beacons, TIME_IO pins and the RTC act as chapter 10 says. A TIME tick adds
INCREMENT, its nanoseconds staying below a second. A sample of a disabled slot, of a grandmaster or from a port that is not
the slot's slave port is none; a rate beyond 200 ppm is counted as rejected; another becomes the slot's sample, restarts its
receipt timer, and steers only the working slot's clock, by the clamped servo sum, without setting the clock; a permitted
step sets it. A receipt timer that has run out sends a LOCKED slot to HOLDOVER and another to LISTENING. A missed quality
change is posted. TS ports are no gPTP ports; a message of no enabled slot's domain is counted; a peer delay request is
answered, a response gives the mean link delay and capability; three intervals without one clear it. A beacon is due on its
period. A pin drives, captures or does nothing. The RTC takes the local seconds. (R263, R265, R266, R267, R268, R269, R272,
R274, R280, R283, R285, R355) -/
def Obligations.TimeStepsActAsRuled : Prop :=
  (∀ (c : Clock), c.tick.ns < 1000000000 ∧ c.tick.frac < 2 ^ 32 ∧ c.tick.increment = c.increment ∧
    ((c.tick.sec * 1000000000 + c.tick.ns) * 2 ^ 32 + c.tick.frac) % (2 ^ 48 * 1000000000 * 2 ^ 32) =
      ((c.sec * 1000000000 + c.ns) * 2 ^ 32 + c.frac + c.increment) % (2 ^ 48 * 1000000000 * 2 ^ 32)) ∧
  (∀ (s : State) i y, 2 ≤ i ∨ (s.dev.slot i).state = .disabled ∨ (s.dev.slot i).state = .grandmaster ∨ (s.dev.slot i).slave ≠ y.port ∨
      bit (s.dev.slot i).portMask y.port = false ∨ s.dev.asCapable y.port = false →
    Runs (.syncSample i y) s (s.dev.gptpHeard y.port)) ∧
  (∀ (s : State) i y, i < 2 → (s.dev.slot i).state ≠ .disabled → (s.dev.slot i).state ≠ .grandmaster →
    s.dev.samplesFrom i y.port = true → rateOk y.rate = false →
    Runs (.syncSample i y) s ((s.dev.gptpHeard y.port).count 9 (1024 + i * 8 + 2))) ∧
  (∀ (s : State) i y, i < 2 → (s.dev.slot i).state = .acquire ∨ (s.dev.slot i).state = .locked → s.dev.samplesFrom i y.port = true →
    rateOk y.rate = true → (s.dev.slot i).gmId = y.gmId → s.dev.time.autoSwitch = false →
    let ingress := if y.port = 90 then y.stamp.sampled else s.dev.ingressTime y.port y.stamp
    let theta := roundQ16 (((ingress : Int) - y.origin) * 65536 - y.corr - s.dev.linkDelay y.port)
    (s.dev.sampleSteps i theta = false → ∃ d', Runs (.syncSample i y) s d' ∧
      (d'.slot i).theta = theta ∧ (d'.slot i).rate = y.rate ∧ (d'.slot i).sampled = true ∧
      (d'.slot i).syncDeadline = some (s.dev.uptime + receiptNs (s.dev.slot i).syncTimeout (s.dev.slot i).logSync) ∧
      (d'.slot i).state = (lockStep s.dev i (s.dev.slot i) (lockError s.dev i (s.dev.slot i) theta)).2.2 ∧
      d'.time.clock.sec = s.dev.time.clock.sec ∧ d'.time.clock.ns = s.dev.time.clock.ns ∧
      d'.time.clock.increment = if i = s.dev.time.workSlot then
        servoIncrement y.rate (servoClamp s.dev (servoRaw s.dev theta ((s.dev.slot i).sumTheta + theta)))
        else s.dev.time.clock.increment) ∧
    (s.dev.sampleSteps i theta = true → ∃ d', Runs (.syncSample i y) s d' ∧ (d'.slot i).theta = 0 ∧
      d'.time.clock.sec = ((s.dev.now : Int) - theta).toNat / 1000000000 % 2 ^ 48 ∧
      d'.time.clock.ns = ((s.dev.now : Int) - theta).toNat % 1000000000)) ∧
  (∀ (s : State) i, (s.dev.overO (s.dev.slot i).syncDeadline = false → Runs (.syncReceiptTimeout i) s s.dev) ∧
    (s.dev.overO (s.dev.slot i).syncDeadline = true → ∃ d', Runs (.syncReceiptTimeout i) s d' ∧ (d'.slot i).syncDeadline = none ∧
      (d'.slot i).state = (if (s.dev.slot i).state = .locked then .holdover else .listening))) ∧
  (∀ (s : State), (s.dev.qualityNow = s.dev.time.quality → Runs .holdoverBudgetExceeded s s.dev) ∧
    ∃ d', Runs .holdoverBudgetExceeded s d' ∧ d'.time.quality = s.dev.qualityNow) ∧
  (∀ (s : State) i b, (s.dev.overO (s.dev.slot i).announceDeadline = false → Runs (.announceReceiptTimeout i b) s s.dev) ∧
    (s.dev.overO (s.dev.slot i).announceDeadline = true → bit (s.dev.slot i).flags 1 = true →
      Runs (.announceReceiptTimeout i b) s (s.dev.putSlot i { s.dev.slot i with announceDeadline := none })) ∧
    (s.dev.overO (s.dev.slot i).announceDeadline = true → bit (s.dev.slot i).flags 1 = false → b.self = false →
      bit (s.dev.slot i).portMask b.port = true → ∃ d', Runs (.announceReceiptTimeout i b) s d' ∧
        (d'.slot i).slave = b.port ∧ (d'.slot i).stepsRemoved = b.stepsRemoved) ∧
    (s.dev.overO (s.dev.slot i).announceDeadline = true → bit (s.dev.slot i).flags 1 = false → b.self = true → ∃ d', Runs (.announceReceiptTimeout i b) s d' ∧
      (d'.slot i).announceDeadline = none ∧ (d'.slot i).slave = 255 ∧
      (d'.slot i).state = (if (s.dev.slot i).gmCapable then .grandmaster else .listening))) ∧
  (∀ (s : State) p (m : GptpMsg), 34 ≤ p → p < 50 → Runs (.gptpMessageReceived p m) s (s.dev.count 9 (p * 8 + 2))) ∧
  (∀ (s : State) p (m : GptpMsg), p < 34 ∨ 50 ≤ p →
    let mine := fun i => (s.dev.slot i).enable = true ∧ (s.dev.slot i).domain = m.domain
    let d := s.dev.gptpHeard p
    let t := tabGet timePort0 s.dev.time.ports p
    (¬ mine 0 → ¬ mine 1 → Runs (.gptpMessageReceived p m) s (d.count 9 1106)) ∧
    (mine 0 ∨ mine 1 → m.kind = 1 ∨ m.kind = 2 → t.peerDelay = false → Runs (.gptpMessageReceived p m) s d) ∧
    (mine 0 ∨ mine 1 → m.kind = 1 → t.peerDelay = true → Runs (.gptpMessageReceived p m) s
      (d.sendGptp p 3 54 m.domain (stampFields 0 (s.dev.gptpStamp p m.stamp)) (some (.pdelayResp m.domain)))) ∧
    (mine 0 ∨ mine 1 → m.kind = 2 → t.peerDelay = true → ∃ d', Runs (.gptpMessageReceived p m) s d' ∧
      let t' := tabGet timePort0 d'.time.ports p
      t'.missed = 0 ∧ t'.pdelayLast = some s.dev.uptime ∧ t'.reqSent = none ∧
      (t.reqSent = none → t'.meanDelay = t.meanDelay ∧ t'.asCapable = t.asCapable) ∧
      (∀ t1, t.reqSent = some t1 →
        t'.meanDelay = roundDiv (((s.dev.gptpStamp p m.stamp : Int) - t1) * 65536 * (2 ^ 41 + m.nrr) - (m.t3 - m.t2) * 2 ^ 41) (2 ^ 42) ∧
        t'.asCapable = decide (t'.meanDelay ≤ (t.thresh : Int) * 65536)))) ∧
  (∀ (s : State) p, let t := tabGet timePort0 s.dev.time.ports p
    (t.pdelayLast = none ∨ t.peerDelay = false → Runs (.pdelayTimeout p) s s.dev) ∧
    (∀ last, t.pdelayLast = some last → t.peerDelay = true → let n := (s.dev.uptime - last) / max 1 (pdelayNs t)
      (n ≤ t.missed → Runs (.pdelayTimeout p) s s.dev) ∧
      (t.missed < n → ∃ d', Runs (.pdelayTimeout p) s d' ∧ (tabGet timePort0 d'.time.ports p).missed = n ∧
        (3 ≤ n → (tabGet timePort0 d'.time.ports p).asCapable = false)))) ∧
  (∀ (s : State) i p, ((tabGet timePort0 s.dev.time.ports p).peerDelay = true → p < 34 → Runs (.gptpIntervalSend i p .pdelayReq) s
      ((({ s.dev with freeIx := s.dev.freeIx + 1 } : Dev).sendTs p 5 (gptpFrame s.dev.freeIx p 2 54 (s.dev.slot i).domain [])
        (some { firmware := true, tag := s.dev.freeIx % 65536, follow := some .pdelayReq : TsReq })).count 9 (p * 8 + 3))) ∧
    ((tabGet timePort0 s.dev.time.ports p).peerDelay = false ∨ 34 ≤ p → Runs (.gptpIntervalSend i p .pdelayReq) s s.dev)) ∧
  (∀ (s : State), (s.dev.now / 250 = s.dev.time.lastDrain / 250 → Runs .tsFifoDrain s s.dev) ∧
    (s.dev.now / 250 ≠ s.dev.time.lastDrain / 250 → ∃ d', Runs .tsFifoDrain s d' ∧ d'.time.lastDrain = s.dev.now)) ∧
  (∀ (s : State) p, ((s.dev.beacon p).enable = false ∨ s.dev.now < (s.dev.beacon p).next → Runs (.beaconDue p) s s.dev) ∧
    ((s.dev.beacon p).enable = true → (s.dev.beacon p).next ≤ s.dev.now → ∃ d', Runs (.beaconDue p) s d' ∧
      (d'.beacon p).due = true ∧ (d'.beacon p).seq = (s.dev.beacon p).seq ∧
      (d'.beacon p).next = (s.dev.now / ms (s.dev.beacon p).periodMs + 1) * ms (s.dev.beacon p).periodMs)) ∧
  (∀ (s : State) n, (tabHas s.dev.time.pins n = false → Runs (.timeIoEdge n) s s.dev) ∧
    (∀ t, tabHas s.dev.time.pins n = true → (s.dev.pin n).mode = 1 → (s.dev.pin n).pending = some t →
      (s.dev.pin n).driveAt t ≤ s.dev.now → ∃ d', Runs (.timeIoEdge n) s d' ∧ (d'.pin n).pending = none ∧
        (d'.pin n).activeUntil = some ((s.dev.pin n).driveAt t + (s.dev.pin n).width))) ∧
  (∀ (s : State) n rising held, let q := s.dev.pin n
    let taken := q.mode = 3 ∧ q.filter ≤ held ∧ bit q.flags (if rising then 1 else 2) = true
    (¬ taken → Runs (.captureEdge n rising held) s s.dev) ∧
    (taken → 16 ≤ q.captures.length → Runs (.captureEdge n rising held) s ((s.dev.putPin n { q with lost := true }).count 9 (1040 + n * 4 + 2))) ∧
    (taken → q.captures.length < 16 → ∃ d' r, Runs (.captureEdge n rising held) s d' ∧ (d'.pin n).captures = q.captures ++ [r] ∧
      (d'.pin n).lost = false ∧ r.edge = (if rising then 0 else 1) ∧ r.seq = q.seq)) ∧
  (∀ (s : State), (s.dev.lantern.power = .dormant ∨ s.dev.lantern.power = .off → Runs .rtcSecondSync s s.dev) ∧
    (s.dev.lantern.power ≠ .dormant → s.dev.lantern.power ≠ .off → ∃ d', Runs .rtcSecondSync s d' ∧
      d'.lantern.rtcS = s.dev.time.clock.sec ∧ d'.lantern.rtcSub = 0))

/-- The immediate time commands complete: reads without effect, the switch and the set under their conditions, captures taken,
pulses armed. TIME_STATUS answers 64 bytes with the working slot and QUALITY, TIME_READ 36 with local time, both without
effect. TIME_SWITCH to the working slot changes nothing, to a LOCKED slot makes it the working one without a step of the
clock, to another is WRONG_MODE. TIME_SET is taken in DISABLED, LISTENING and GRANDMASTER of the working slot: the clock is
the time given, its fraction 0, its quality that of a set clock; else WRONG_MODE. TIME_CAPTURE_READ of a capture pin takes
its oldest records. TIME_PULSE of a pulse pin at least 1 us ahead arms it; earlier it is BAD_PARAM. (R270, R271, R272, R284,
R285, spec/10_time.md) -/
def Obligations.TimeCommandsComplete : Prop :=
  Completes .timeStatus 0x0906 (rspMax 64) (fun _ _ bs => bs = [])
    (fun d _ _ d' pl => d' = d ∧ pl.length = 64 ∧ byteAt pl 0 = d.time.workSlot % 256 ∧ byteAt pl 1 = d.qualityNow) ∧
  Completes .timeRead 0x0907 (rspMax 36) (fun _ _ bs => bs = [])
    (fun d _ _ d' pl => d' = d ∧ pl.length = 36 ∧ pl.take 10 = t80le d.now ∧ byteAt pl 10 = d.qualityNow) ∧
  Completes .timeSwitch 0x0908 (rspMax 8)
    (fun d _ bs => bs.length = 4 ∧ layoutOk [fr 0 1 0 1] bs = true ∧
      (byteAt bs 0 = d.time.workSlot ∨ (d.slot (byteAt bs 0)).state = .locked))
    (fun d _ bs d' pl => pl.length = 8 ∧ le pl 0 4 = hold32 (d.slotOffset (d.slot (byteAt bs 0))) ∧
      d'.time.workSlot = byteAt bs 0 ∧ d'.time.clock = d.time.clock ∧ (byteAt bs 0 = d.time.workSlot → d' = d) ∧
      (byteAt bs 0 ≠ d.time.workSlot → d'.time.slewing = true ∧ (d'.slot (byteAt bs 0)).sumTheta = 0)) ∧
  Refuses .timeSwitch 0x0908 (rspMax 8)
    (fun d _ bs => bs.length = 4 ∧ layoutOk [fr 0 1 0 1] bs = true ∧
      byteAt bs 0 ≠ d.time.workSlot ∧ (d.slot (byteAt bs 0)).state ≠ .locked) stWrongMode (fun _ _ _ => 0) ∧
  Completes .timeSet 0x0909 (rspMax 0)
    (fun d _ bs => bs.length = 12 ∧ layoutOk [fa 0 6, fr 6 4 0 999999999] bs = true ∧
      (d.work.state = .disabled ∨ d.work.state = .listening ∨ d.work.state = .grandmaster))
    (fun _ _ bs d' pl => pl = [] ∧ d'.time.clock.sec = le bs 0 6 ∧ d'.time.clock.ns = le bs 6 4 ∧ d'.time.clock.frac = 0 ∧
      d'.time.clockSet = true ∧ d'.time.quality = 4) ∧
  Refuses .timeSet 0x0909 (rspMax 0)
    (fun d _ bs => bs.length = 12 ∧ layoutOk [fa 0 6, fr 6 4 0 999999999] bs = true ∧
      (d.work.state = .acquire ∨ d.work.state = .locked ∨ d.work.state = .holdover)) stWrongMode (fun _ _ _ => 0) ∧
  Completes .timeCaptureRead 0x090A (fun _ bs => 4 + 16 * byteAt bs 1)
    (fun d _ bs => bs.length = 4 ∧ layoutOk [fr 0 1 0 15, fr 1 1 1 16] bs = true ∧ (d.pin (byteAt bs 0)).mode = 3)
    (fun d _ bs d' pl => byteAt pl 0 = min (byteAt bs 1) (d.pin (byteAt bs 0)).captures.length ∧
      d' = d.putPin (byteAt bs 0) { d.pin (byteAt bs 0) with captures := (d.pin (byteAt bs 0)).captures.drop (byteAt bs 1) }) ∧
  Refuses .timeCaptureRead 0x090A (fun _ bs => 4 + 16 * byteAt bs 1)
    (fun d _ bs => bs.length = 4 ∧ layoutOk [fr 0 1 0 15, fr 1 1 1 16] bs = true ∧ (d.pin (byteAt bs 0)).mode ≠ 3)
    stWrongMode (fun _ _ _ => 0) ∧
  Completes .timePulse 0x090B (rspMax 0)
    (fun d _ bs => bs.length = 16 ∧ layoutOk [fr 0 1 0 15, fa 4 6, fr 10 4 0 999999999] bs = true ∧
      (d.pin (byteAt bs 0)).mode = 1 ∧ d.now + 1000 ≤ t80At bs 4)
    (fun _ _ bs d' pl => pl = [] ∧ (d'.pin (byteAt bs 0)).pending = some (t80At bs 4) ∧ (d'.pin (byteAt bs 0)).mode = 1) ∧
  Refuses .timePulse 0x090B (rspMax 0)
    (fun d _ bs => bs.length = 16 ∧ layoutOk [fr 0 1 0 15, fa 4 6, fr 10 4 0 999999999] bs = true ∧
      (d.pin (byteAt bs 0)).mode = 1 ∧ t80At bs 4 < d.now + 1000) stBadParam (fun _ _ _ => 0)

/-- Readings, their timeouts, folds, seals and recovery move a session and its records as chapter 11 says. A delivery that is
absent, late, or while LEG does not run changes nothing; a good one is the start, interim or stop reading the session waits
for. An attempt that runs out is counted and reported; of a stop reading another begins while retries are left. A session
that waits for a fold past its deadline goes on to its seal. A record is sealed only where LEG runs, in LOCKED, not on a
standby: with a usable key it takes the next value of counter 0 as its RECORD_SEQ, is 256 bytes with that number in it, is
stored in its slot, and the next number follows; with two failed signings it is CASK_VERIFY of class F1, and without a
permitted key it stays, its status kept. Recovery runs once after a start of LEG; a broken chain is CASK_CHAIN of class F2.
A session taken over waits for its stop reading, to resume in its state. (R287, R293, R294, R297, R298, R300, R301, R304,
R307) -/
def Obligations.CaskStepsActAsRuled : Prop :=
  (∀ (s : State) n, (s.dev.ses n).delivery = none ∨ s.dev.boot.legRuns = false → Runs (.meterReadingArrival n) s s.dev) ∧
  (∀ (s : State) n v, (s.dev.ses n).delivery = some v →
    ((s.dev.ses n).deadline < v.committed → Runs (.meterReadingArrival n) s s.dev) ∧
    (∀ w, v.committed ≤ (s.dev.ses n).deadline → s.dev.boot.legRuns = true → v.ok = true →
      readingValue s.dev.cask.params v.bytes (s.dev.ses n).outlet = some w →
      let r : Reading := { mwh := w, time := v.arrival, quality := v.quality, errNs := v.errNs }
      ((s.dev.ses n).wait = .start false → ∃ d', Runs (.meterReadingArrival n) s d' ∧ (d'.ses n).state = .active ∧
        (d'.ses n).start = some r ∧ (d'.ses n).wait = .none) ∧
      ((s.dev.ses n).wait = .interim → ∃ d', Runs (.meterReadingArrival n) s d' ∧ (d'.ses n).last = some r ∧ (d'.ses n).wait = .none ∧
        (d'.ses n).interimCount = ((s.dev.ses n).interimCount + 1) % 2 ^ 16 ∧ (d'.ses n).state = (s.dev.ses n).state) ∧
      ((s.dev.ses n).wait = .stop → ∃ d', Runs (.meterReadingArrival n) s d' ∧ (d'.ses n).stop = some r ∧
        (d'.ses n).stopAt = s.dev.uptime ∧ (d'.ses n).wait = (if (s.dev.ses n).group = 0xFFFF then .seal else .fold)))) ∧
  (∀ (s : State) n, ((s.dev.ses n).reads = false ∨ s.dev.over (s.dev.ses n).deadline = false ∨ s.dev.boot.legRuns = false →
      Runs (.readAttemptTimeout n) s s.dev) ∧
    ((s.dev.ses n).wait = .stop → (s.dev.ses n).due = false → (s.dev.ses n).delivery = none → (s.dev.ses n).deadline < s.dev.uptime →
      s.dev.boot.legRuns = true → (s.dev.ses n).attempts < 1 + byteAt s.dev.cask.params 5 → ∃ d', Runs (.readAttemptTimeout n) s d' ∧
        (d'.ses n).wait = .stop ∧ (d'.ses n).attempts = (s.dev.ses n).attempts + 1 ∧
        (d'.ses n).deadline = s.dev.uptime + s.dev.readTimeout) ∧
    ((s.dev.ses n).wait = .stop → (s.dev.ses n).due = false → (s.dev.ses n).delivery = none → (s.dev.ses n).deadline < s.dev.uptime →
      s.dev.boot.legRuns = true → 1 + byteAt s.dev.cask.params 5 ≤ (s.dev.ses n).attempts → ∃ d', Runs (.readAttemptTimeout n) s d' ∧
        (d'.ses n).wait = .seal ∧ (d'.ses n).stopMissing = true ∧ (d'.ses n).stop = (s.dev.ses n).last)) ∧
  (∀ (s : State) n, ((s.dev.ses n).wait = .fold → (s.dev.ses n).deadline < s.dev.uptime →
      Runs (.stopFoldWaitTimeout n) s (s.dev.readyToSeal n)) ∧
    ((s.dev.ses n).wait ≠ .fold ∨ s.dev.uptime ≤ (s.dev.ses n).deadline → Runs (.stopFoldWaitTimeout n) s s.dev)) ∧
  (∀ (s : State) n a b, s.dev.boot.legRuns = false ∨ s.dev.safety.split = true ∨ s.dev.twin.role = .standby ∨ s.dev.cask.seals = [] →
    Runs (.recordSeal n a b) s s.dev) ∧
  (∀ (s : State) n a b (it : SealItem) rest, s.dev.boot.legRuns = true → s.dev.safety.split = false → s.dev.twin.role ≠ .standby →
    s.dev.cask.seals = it :: rest → it.session = n → it.withheld = none → it.seq = none → (a = true ∨ b = true) →
    s.dev.recordKey = stOk → s.dev.mono 0 < 0xFFFFFFFF → ∃ d' rcd, Runs (.recordSeal n a b) s d' ∧
      d'.cask.nextSeq = s.dev.mono 0 + 2 ∧ d'.cask.lastSeq = some (s.dev.mono 0 + 1) ∧ d'.cask.seals = rest ∧
      tabFind d'.cask.records ((s.dev.mono 0 + 1) % 4096) = some rcd ∧ rcd.length = 256 ∧ be rcd 4 4 = s.dev.mono 0 + 1) ∧
  (∀ (s : State) n (it : SealItem) rest, s.dev.boot.legRuns = true → s.dev.safety.split = false → s.dev.twin.role ≠ .standby →
    s.dev.cask.seals = it :: rest → it.session = n → it.withheld = none →
    (it.seq = none → s.dev.recordKey = stOk → s.dev.mono 0 < 0xFFFFFFFF → ∃ d' it' l, Runs (.recordSeal n false false) s d' ∧
      d'.safety.lastCode = 0x0601 ∧ d'.cask.seals = it' :: l ∧ it'.withheld = some stFault ∧ it'.seq = some (s.dev.mono 0 + 1) ∧
      d'.cask.nextSeq = s.dev.cask.nextSeq) ∧
    (s.dev.recordKey = stNotPermitted → ∀ a b, ∃ d' it' l, Runs (.recordSeal n a b) s d' ∧ d'.cask.seals = it' :: l ∧
      it'.withheld = some stNotPermitted ∧ it'.seq = it.seq ∧ d'.cask.nextSeq = s.dev.cask.nextSeq)) ∧
  (∀ (s : State) ok, (s.dev.cask.recover = false ∨ s.dev.boot.legRuns = false → Runs (.caskRestartRecovery ok) s s.dev) ∧
    (s.dev.cask.recover = true → s.dev.boot.legRuns = true → s.dev.cask.lastSeq.isSome = true → s.dev.cask.chainBroken = false →
      Runs (.caskRestartRecovery false) s (({ s.dev with cask := { s.dev.cask with chainBroken := true } } : Dev).faultF2 0x0602 0 0)) ∧
    (s.dev.cask.recover = true → s.dev.boot.legRuns = true → ∃ d', Runs (.caskRestartRecovery true) s d' ∧ d'.cask.recover = false)) ∧
  (∀ (s : State) n, (s.dev.boot.legRuns = false ∨ (s.dev.ses n).restart = false ∨ (s.dev.ses n).wait ≠ .none →
      Runs (.takeoverSessionResegment n) s s.dev) ∧
    (s.dev.boot.legRuns = true → s.dev.twin.role ≠ .standby → (s.dev.ses n).restart = true → (s.dev.ses n).wait = .none →
      (∀ y ∈ s.dev.cask.seals, y.session ≠ n) → s.dev.meterRuns (s.dev.ses n) = true → (s.dev.ses n).state = .active →
      ∃ d', Runs (.takeoverSessionResegment n) s d' ∧ (d'.ses n).wait = .stop ∧ (d'.ses n).resume = some .active ∧
        (d'.ses n).endCause = 4))

/-- The session commands act only in the states the transition table gives them, and start, complete or wait as chapter 11 says.
In any other state a command of a session is WRONG_MODE and changes nothing. SES_OPEN of an IDLE context with everything in
order makes it BOUND with the next serial number. SES_START, SES_INTERIM and SES_STOP begin a reading and wait, the stop in
CLOSING; SES_SUSPEND and SES_RESUME change the state and the counts; SES_ABORT frees the context; SES_REBIND acts at once in
BOUND and else waits for the segment's stop reading. SES_STATUS and the reads have no effect; SES_ACK of released records
advances the unacknowledged ones. SES_LEGAL_ID and the log read wait for the signature. SES_RESEAL tries a withheld seal
again, else WRONG_MODE. An accepted legal parameter update puts its block in force and waits for its marker. (R287, R288,
R289, R291, R303, R304, R306, R308, spec/11_sessions_and_billing.md) -/
def Obligations.SessionCommandsFollowTheTransitions : Prop :=
  Completes .sesOpen 0x0A01 (rspMax 8)
    (fun d _ bs => bs.length = 36 ∧ layoutOk [fr 0 1 0 63, fr 1 1 0 63, fr 2 1 0 1, fr 3 1 6 63, fa 4 2, fr 6 1 0 7, fr 8 1 0 49, fr 9 1 0 1,
        fr 0x0A 2 1 4094, fa 0x0C 6, fa 0x14 16] bs = true ∧ sesGroupOk (le bs 4 2) = true ∧ (byteAt bs 9 = 1 → le bs 0x0C 6 = 0) ∧
      1 ≤ d.keep.lifecycle ∧ d.keep.lifecycle ≤ 3 ∧ d.cask.chainBroken = false ∧ d.ringFull = false ∧ d.logFull = false ∧
      (∃ n, d.openContext (byteAt bs 0) = some n ∧ (d.ses n).state = .idle ∧
        d.otherSession n (fun x => x.outlet == byteAt bs 1 || x.zone == byteAt bs 3) = none) ∧
      d.bindingTwice { zone := byteAt bs 3, port := byteAt bs 8, vid := le bs 0x0A 2, sa := le bs 0x0C 6, wildcard := bit (byteAt bs 9) 0 } =
        none ∧
      d.bindingMissing (byteAt bs 1) (byteAt bs 2) (le bs 4 2) = false ∧ d.foldBad (le bs 4 2) (byteAt bs 6) = false)
    (fun d _ bs d' pl => ∃ n, d.openContext (byteAt bs 0) = some n ∧ (d'.ses n).state = .bound ∧ (d'.ses n).outlet = byteAt bs 1 ∧
      (d'.ses n).zone = byteAt bs 3 ∧ (d'.ses n).serial = (d.cask.serial + 1) % 2 ^ 32 ∧ d'.cask.serial = (d.cask.serial + 1) % 2 ^ 32 ∧
      pl = leb 1 n ++ zeros 3 ++ leb 4 ((d.cask.serial + 1) % 2 ^ 32)) ∧
  Refuses .sesStart 0x0A02 (rspMax 32)
    (fun d _ bs => bs.length = 4 ∧ layoutOk [fr 0 1 1 63] bs = true ∧ (d.ses (byteAt bs 0)).state ≠ .bound) stWrongMode (fun _ _ _ => 0) ∧
  Refuses .sesSuspend 0x0A03 (rspMax 0)
    (fun d _ bs => bs.length = 4 ∧ layoutOk [fr 0 1 1 63] bs = true ∧ (d.ses (byteAt bs 0)).state ≠ .active) stWrongMode (fun _ _ _ => 0) ∧
  Refuses .sesResume 0x0A04 (rspMax 0)
    (fun d _ bs => bs.length = 4 ∧ layoutOk [fr 0 1 1 63] bs = true ∧ (d.ses (byteAt bs 0)).state ≠ .suspended) stWrongMode (fun _ _ _ => 0) ∧
  Refuses .sesStop 0x0A05 (rspMax 16)
    (fun d _ bs => bs.length = 4 ∧ layoutOk [fr 0 1 1 63] bs = true ∧ (d.ses (byteAt bs 0)).state ≠ .active ∧ (d.ses (byteAt bs 0)).state ≠ .suspended) stWrongMode (fun _ _ _ => 0) ∧
  Refuses .sesInterim 0x0A06 (rspMax 32)
    (fun d _ bs => bs.length = 4 ∧ layoutOk [fr 0 1 1 63] bs = true ∧ (d.ses (byteAt bs 0)).state ≠ .active ∧ (d.ses (byteAt bs 0)).state ≠ .suspended) stWrongMode (fun _ _ _ => 0) ∧
  Refuses .sesAbort 0x0A08 (rspMax 0)
    (fun d _ bs => bs.length = 4 ∧ layoutOk [fr 0 1 1 63] bs = true ∧ (d.ses (byteAt bs 0)).state ≠ .bound) stWrongMode (fun _ _ _ => 0) ∧
  Waits .sesStart 0x0A02 (rspMax 32) (fun d _ bs => bs.length = 4 ∧ layoutOk [fr 0 1 1 63] bs = true ∧ ((d.ses (byteAt bs 0)).state = .bound) ∧
      (d.ses (byteAt bs 0)).cmd = none ∧ (d.ses (byteAt bs 0)).wait = .none ∧ (d.ses (byteAt bs 0)).resume = none ∧ d.cask.chainBroken = false)
    (fun d rq bs d' => (d'.ses (byteAt bs 0)).wait = .start false ∧ (d'.ses (byteAt bs 0)).cmd = some (rq.ch, 0x0A02) ∧
      (d'.ses (byteAt bs 0)).state = .bound ∧ (d'.ses (byteAt bs 0)).deadline = d.uptime + d.readTimeout) ∧
  Completes .sesSuspend 0x0A03 (rspMax 0) (fun d _ bs => bs.length = 4 ∧ layoutOk [fr 0 1 1 63] bs = true ∧ ((d.ses (byteAt bs 0)).state = .active) ∧
      (d.ses (byteAt bs 0)).cmd = none ∧ (d.ses (byteAt bs 0)).wait = .none ∧ (d.ses (byteAt bs 0)).resume = none)
    (fun d _ bs d' pl => pl = [] ∧ (d'.ses (byteAt bs 0)).state = .suspended ∧ (d'.ses (byteAt bs 0)).suspendedAt = d.uptime ∧
      (d'.ses (byteAt bs 0)).suspendCount = ((d.ses (byteAt bs 0)).suspendCount + 1) % 2 ^ 16) ∧
  Completes .sesResume 0x0A04 (rspMax 0) (fun d _ bs => bs.length = 4 ∧ layoutOk [fr 0 1 1 63] bs = true ∧ ((d.ses (byteAt bs 0)).state = .suspended) ∧
      (d.ses (byteAt bs 0)).cmd = none ∧ (d.ses (byteAt bs 0)).wait = .none ∧ (d.ses (byteAt bs 0)).resume = none)
    (fun d _ bs d' pl => pl = [] ∧ (d'.ses (byteAt bs 0)).state = .active ∧
      (d'.ses (byteAt bs 0)).suspendedMs = (d.ses (byteAt bs 0)).suspendedTotal d.uptime) ∧
  Waits .sesStop 0x0A05 (rspMax 16) (fun d _ bs => bs.length = 4 ∧ layoutOk [fr 0 1 1 63] bs = true ∧ ((d.ses (byteAt bs 0)).state = .active ∨ (d.ses (byteAt bs 0)).state = .suspended) ∧
      (d.ses (byteAt bs 0)).cmd = none ∧ (d.ses (byteAt bs 0)).wait = .none ∧ (d.ses (byteAt bs 0)).resume = none)
    (fun _ rq bs d' => (d'.ses (byteAt bs 0)).state = .closing ∧ (d'.ses (byteAt bs 0)).wait = .stop ∧
      (d'.ses (byteAt bs 0)).endCause = 1 ∧ (d'.ses (byteAt bs 0)).cmd = some (rq.ch, 0x0A05)) ∧
  Waits .sesInterim 0x0A06 (rspMax 32) (fun d _ bs => bs.length = 4 ∧ layoutOk [fr 0 1 1 63] bs = true ∧ ((d.ses (byteAt bs 0)).state = .active ∨ (d.ses (byteAt bs 0)).state = .suspended) ∧
      (d.ses (byteAt bs 0)).cmd = none ∧ (d.ses (byteAt bs 0)).wait = .none ∧ (d.ses (byteAt bs 0)).resume = none)
    (fun d rq bs d' => (d'.ses (byteAt bs 0)).state = (d.ses (byteAt bs 0)).state ∧ (d'.ses (byteAt bs 0)).wait = .interim ∧
      (d'.ses (byteAt bs 0)).cmd = some (rq.ch, 0x0A06)) ∧
  Completes .sesRebind 0x0A07 (rspMax 36)
    (fun d _ bs => bs.length = 8 ∧ layoutOk [fr 0 1 1 63, fr 1 1 0 1, fr 2 1 0 7, fa 4 2] bs = true ∧ sesGroupOk (le bs 4 2) = true ∧
      (d.ses (byteAt bs 0)).state = .bound ∧ rebindChecks d bs (d.ses (byteAt bs 0)) = none ∧
      (d.ses (byteAt bs 0)).cmd = none ∧ (d.ses (byteAt bs 0)).wait = .none ∧ (d.ses (byteAt bs 0)).resume = none)
    (fun _ _ bs d' pl => pl.length = 36 ∧ (d'.ses (byteAt bs 0)).meterSel = byteAt bs 1 ∧ (d'.ses (byteAt bs 0)).group = le bs 4 2 ∧
      (d'.ses (byteAt bs 0)).foldIdx = byteAt bs 2) ∧
  Waits .sesRebind 0x0A07 (rspMax 36)
    (fun d _ bs => bs.length = 8 ∧ layoutOk [fr 0 1 1 63, fr 1 1 0 1, fr 2 1 0 7, fa 4 2] bs = true ∧ sesGroupOk (le bs 4 2) = true ∧
      ((d.ses (byteAt bs 0)).state = .active ∨ (d.ses (byteAt bs 0)).state = .suspended) ∧ rebindChecks d bs (d.ses (byteAt bs 0)) = none ∧
      (d.ses (byteAt bs 0)).cmd = none ∧ (d.ses (byteAt bs 0)).wait = .none ∧ (d.ses (byteAt bs 0)).resume = none)
    (fun d _ bs d' => (d'.ses (byteAt bs 0)).wait = .stop ∧ (d'.ses (byteAt bs 0)).endCause = 2 ∧
      (d'.ses (byteAt bs 0)).resume = some (d.ses (byteAt bs 0)).state ∧
      (d'.ses (byteAt bs 0)).rebind = some (byteAt bs 1, byteAt bs 2, le bs 4 2)) ∧
  Completes .sesAbort 0x0A08 (rspMax 0) (fun d _ bs => bs.length = 4 ∧ layoutOk [fr 0 1 1 63] bs = true ∧ ((d.ses (byteAt bs 0)).state = .bound) ∧
      (d.ses (byteAt bs 0)).cmd = none ∧ (d.ses (byteAt bs 0)).wait = .none ∧ (d.ses (byteAt bs 0)).resume = none)
    (fun _ _ bs d' pl => pl = [] ∧ d'.ses (byteAt bs 0) = session0) ∧
  Completes .sesStatus 0x0A09 (rspMax 48) (fun _ _ bs => bs.length = 4 ∧ layoutOk [fr 0 1 1 63] bs = true)
    (fun d _ bs d' pl => d' = d ∧ pl.length = 48 ∧ byteAt pl 0 = sesCode (d.ses (byteAt bs 0)).state) ∧
  Completes .sesRecordRead 0x0A0A (fun _ bs => 16 + 256 * byteAt bs 4)
    (fun d rq bs => bs.length = 8 ∧ layoutOk [fa 0 4, fr 4 1 1 (if reqBulkRsp rq then 255 else 15)] bs = true ∧
      d.cask.nextSeq ≤ le bs 0 4 + 4096)
    (fun d _ bs d' pl => d' = d ∧ le pl 0 2 = (d.recordsFrom (le bs 0 4) (byteAt bs 4)).length ∧ le pl 4 4 = d.cask.unacked % 2 ^ 32 ∧
      le pl 8 4 = d.cask.nextSeq % 2 ^ 32) ∧
  Refuses .sesRecordRead 0x0A0A (fun _ bs => 16 + 256 * byteAt bs 4)
    (fun d rq bs => bs.length = 8 ∧ layoutOk [fa 0 4, fr 4 1 1 (if reqBulkRsp rq then 255 else 15)] bs = true ∧
      le bs 0 4 + 4096 < d.cask.nextSeq) stNotFound (fun d _ _ => d.oldestRecord) ∧
  Completes .sesAck 0x0A0B (rspMax 4)
    (fun d _ bs => bs.length = 8 ∧ layoutOk [fr 0 1 0 1, fa 4 4] bs = true ∧
      (byteAt bs 0 = 0 → le bs 4 4 < ackLimit d.cask.released d.uptime d.cask.nextSeq) ∧
      (byteAt bs 0 = 1 → le bs 4 4 < ackLimit d.cask.logged d.uptime d.cask.logNext))
    (fun d _ bs d' pl => pl.length = 4 ∧ (byteAt bs 0 = 0 → d'.cask.unacked = max d.cask.unacked (le bs 4 4 + 1)) ∧
      (byteAt bs 0 = 1 → d'.cask.logUnacked = max d.cask.logUnacked (le bs 4 4 + 1) ∧ d'.cask.unacked = d.cask.unacked)) ∧
  Waits .sesLegalId 0x0A0C (rspMax 192)
    (fun d _ bs => bs.length = 16 ∧ layoutOk [fa 0 16] bs = true ∧ (d.keep.eccQueue ≠ [] ∨ ∃ g, d.eccStatus
      { eccSign 0 (byteAt d.cask.params 4) g with cask := true, root := some (lifecycleRoot d.keep.lifecycle) } = stOk))
    (fun d rq bs d' => ∃ op, d'.keep.eccQueue = d.keep.eccQueue ++ [op] ∧ op.ch = rq.ch ∧ op.head = d.legalId bs) ∧
  Waits .sesLegalLogRead 0x0A0D (fun _ bs => 80 + 64 * byteAt bs 4)
    (fun d _ bs => bs.length = 8 ∧ layoutOk [fa 0 4, fr 4 1 1 60] bs = true ∧ d.cask.logNext ≤ le bs 0 4 + 2048 ∧
      le bs 0 4 < d.cask.logNext ∧ (d.keep.eccQueue ≠ [] ∨ ∃ g, d.eccStatus
      { eccSign 0 (byteAt d.cask.params 4) g with cask := true, root := some (lifecycleRoot d.keep.lifecycle) } = stOk))
    (fun d rq _ d' => ∃ op, d'.keep.eccQueue = d.keep.eccQueue ++ [op] ∧ op.ch = rq.ch) ∧
  Waits .sesReseal 0x0A0F (rspMax 0)
    (fun d _ bs => bs.length = 4 ∧ layoutOk [fr 0 1 1 63] bs = true ∧ d.sealWithheld (byteAt bs 0) = true ∧ (d.ses (byteAt bs 0)).cmd = none)
    (fun _ rq bs d' => (d'.ses (byteAt bs 0)).cmd = some (rq.ch, 0x0A0F) ∧ ∀ y ∈ d'.cask.seals, y.session = byteAt bs 0 → y.retry = true) ∧
  Refuses .sesReseal 0x0A0F (rspMax 0)
    (fun d _ bs => bs.length = 4 ∧ layoutOk [fr 0 1 1 63] bs = true ∧ d.sealWithheld (byteAt bs 0) = false) stWrongMode (fun _ _ _ => 0) ∧
  Waits .sesLegalParamUpdate 0x0A0E (rspMax 8)
    (fun d _ m => d.keep.locked = false ∧ d.msgStatus [6] m = stOk ∧ legalStatus (d.msgWork m) m = stOk ∧
      (d.msgWork m).cask.paramCh = none ∧ (d.msgWork m).txn.committing = none ∧
      ((d.msgWork m).evaluateTxn (batchOf ((legalCommands m).getD []))).refused = none)
    (fun _ rq m d' => d'.cask.params = slice (msgBody m) 0 1040 ∧ d'.cask.paramCh = some rq.ch)

/-- Cipher jobs, ECC operations, the random number generator and the tamper sources act as chapter 12 says. A page takes a job
from its owner only; a foreign access is counted, a busy page ignores one. A job that passes its checks starts with its key
latched and its blocks charged; one that fails them ends with its status and nothing charged. A job's release zeroes the
working key; its status is OK only where the slot is VALID and of the latched generation. The last ECC operation's end
leaves queue and key register empty. A failed health test fails the generator; its retest a second later clears that or
fails again. A disabled source does nothing, an inactive one is noted, within its filter nothing happens; past it a LOG
source writes a notice, and a LOCK source, awake, with no job in progress, locks the roots, empties both key registers and
every derived slot, and takes the next TAMPER_SEQ. The hold's and the lifecycle's resets follow. (R312, R322, R326, R327,
R329, R330, R332, R334) -/
def Obligations.KeepStepsActAsRuled : Prop :=
  (∀ (s : State) rq p j, (16 ≤ p → Runs (.cipherPageGo rq p j) s s.dev) ∧
    (p < 16 → ownsPage s.dev rq p = false → Runs (.cipherPageGo rq p j) s (s.dev.count 11 16)) ∧
    (p < 16 → ownsPage s.dev rq p = true → (s.dev.page p).go = true → Runs (.cipherPageGo rq p j) s s.dev) ∧
    (p < 16 → ownsPage s.dev rq p = true → (s.dev.page p).go = false → ∃ d', Runs (.cipherPageGo rq p j) s d' ∧ (d'.page p).go = true ∧
      (d'.page p).slot = j.slot % 256 ∧ (d'.page p).nblocks = j.nblocks % 8192)) ∧
  (∀ (s : State), s.dev.keep.job.isSome = true ∨ s.dev.nextPage = none → Runs .cipherJobStart s s.dev) ∧
  (∀ (s : State) p, s.dev.keep.job = none → s.dev.nextPage = some p → let g := s.dev.page p
    (s.dev.pageStatus p = stOk → g.host = true → ∃ d', Runs .cipherJobStart s d' ∧ d'.keep.job = some p ∧ d'.keep.lastPage = p ∧
      d'.keep.workingKey = (s.dev.keySlot g.slot).key ∧ (d'.keySlot g.slot).useCount = (s.dev.keySlot g.slot).useCount + g.nblocks) ∧
    (s.dev.pageStatus p ≠ stOk → ∃ d', Runs .cipherJobStart s d' ∧ (d'.page p).go = false ∧ (d'.page p).status = s.dev.pageStatus p ∧
      (d'.keySlot g.slot).useCount = (s.dev.keySlot g.slot).useCount ∧ d'.keep.job = none)) ∧
  (∀ (s : State) ok, s.dev.keep.job = none → Runs (.cipherJobRelease ok) s s.dev) ∧
  (∀ (s : State) p, s.dev.keep.job = some p → (s.dev.page p).host = true → ∃ d', Runs (.cipherJobRelease true) s d' ∧ d'.keep.job = none ∧
    d'.keep.workingKey = [] ∧ (d'.page p).go = false ∧
    ((d'.page p).status = stOk ↔ (s.dev.keySlot (s.dev.page p).slot).state = 1 ∧
      (s.dev.keySlot (s.dev.page p).slot).gen = (s.dev.page p).gen)) ∧
  (∀ (s : State) a b, s.dev.keep.eccQueue = [] → Runs (.eccOperationComplete a b) s s.dev) ∧
  (∀ (s : State) a b op rest, s.dev.keep.eccQueue = op :: rest →
    (op.started = false → Runs (.eccOperationComplete a b) s s.dev) ∧
    (op.started = true → rest = [] → ∃ d', Runs (.eccOperationComplete a b) s d' ∧ d'.keep.eccQueue = [] ∧ d'.keep.eccKey = [])) ∧
  (∀ (s : State) kind, (s.dev.keep.rngFailed = true → Runs (.rngHealthFail kind) s s.dev) ∧
    (s.dev.keep.rngFailed = false → ∃ d', Runs (.rngHealthFail kind) s d' ∧ d'.keep.rngFailed = true ∧
      d'.keep.rngFailures = s.dev.keep.rngFailures + 1 ∧ d'.keep.rngRetest = s.dev.uptime + sec 1)) ∧
  (∀ (s : State) ok, (s.dev.keep.rngFailed = false ∨ s.dev.keep.rngStuck = true ∨ s.dev.uptime < s.dev.keep.rngRetest →
      Runs (.rngRetest ok) s s.dev) ∧
    (s.dev.keep.rngFailed = true → s.dev.keep.rngStuck = false → s.dev.keep.rngRetest ≤ s.dev.uptime → ∃ d', Runs (.rngRetest ok) s d' ∧
      d'.keep.rngFailed = !ok ∧ (ok = false → d'.keep.rngStuck = decide (3 ≤ s.dev.keep.rngFailures + 1)))) ∧
  (∀ (s : State) src held, let t := s.dev.lantern.tamper
    let e := tamperEntry t.cfg src
    (8 ≤ src ∨ byteAt e 0 = 0 → Runs (.tamperAlarm src held) s s.dev) ∧
    (src < 8 → byteAt e 0 ≠ 0 → held = 0 → ∃ d', Runs (.tamperAlarm src held) s d' ∧ d'.lantern.tamper.active = clearBit t.active src) ∧
    (src < 8 → held ≠ 0 → bit t.active src = true ∨ (src < 4 ∧ held < byteAt e 2) → Runs (.tamperAlarm src held) s s.dev) ∧
    (src < 8 → byteAt e 0 ≠ 0 → held ≠ 0 → bit t.active src = false → (src < 4 → byteAt e 2 ≤ held) →
      (byteAt e 1 = 0 → ∃ d', Runs (.tamperAlarm src held) s d' ∧ d'.keep = s.dev.keep ∧ d'.lantern.tamper.seq = t.seq) ∧
      (byteAt e 1 ≠ 0 → s.dev.keep.job = none → s.dev.lantern.power ≠ .doze → s.dev.lantern.power ≠ .dormant → ∃ d',
        Runs (.tamperAlarm src held) s d' ∧ d'.keep.locked = true ∧ d'.keep.workingKey = [] ∧ d'.keep.eccKey = [] ∧
        (∀ i, (d'.keySlot i).origin ≠ 3) ∧ d'.lantern.tamper.seq = (t.seq + 1) % 2 ^ 32 ∧
        d'.lantern.tamper.latched = setBit t.latched src ∧
        (byteAt e 1 = 2 → d'.lantern.tamper.holdBy = some (s.dev.uptime + ms 5))))) ∧
  (∀ (s : State), (s.dev.lantern.tamper.holdBy = none → Runs .tamperHoldReset s s.dev) ∧
    (s.dev.lantern.tamper.holdBy.isSome = true → Runs .tamperHoldReset s
      (({ s.dev with lantern := { s.dev.lantern with tamper := { s.dev.lantern.tamper with holdBy := none } } } : Dev).resetNow 1))) ∧
  (∀ (s : State), (s.dev.boot.resetDue = none → Runs .lifecycleReset s s.dev) ∧
    (∀ t kind, s.dev.boot.resetDue = some (t, kind, 2) →
      (t ≤ s.dev.uptime → Runs .lifecycleReset s (s.dev.resetNow kind)) ∧ (s.dev.uptime < t → Runs .lifecycleReset s s.dev)))

/-- Every write of a slot increases its GEN by one and sets USE_COUNT to 0, an erasure also empties it, and none is delayed. For
every admitted KEEP_UPDATE and KEEP_DERIVE that passes its own checks, whatever operations use the slot: an installation, a
generation, a derivation, an erasure by message and an erasure of a derived key complete, the slot written has GEN one
higher (below the largest 16-bit value, after which the spec's text has it continue at 1) and USE_COUNT 0, and an erased
slot is EMPTY with no key left. A derivation's parent does not lie beneath the slot it writes, which no run produces. (R315) -/
def Obligations.SlotWritesRaiseTheGeneration : Prop :=
  Completes .keepUpdate 0x0B02 (rspMax 104)
    (fun d _ m => d.keep.locked = false ∧ d.msgStatus [1, 2, 3, 4] m = stOk ∧ msgType m = 1 ∧ d.rootConflict (byteAt (msgBody m) 0) (byteAt (msgBody m) 2) = false ∧
      (Config.sivOpen (Config.transportKdf (slice (msgBody m) 0x10 96)
        (slice Config.uid 0 16 ++ slice m 0x18 8 ++ [BitVec.ofNat 8 (byteAt (msgBody m) 0)])) (m.take (48 + 0x70))
        (slice (msgBody m) 0x70 16) (slice (msgBody m) 0x80 96)).isSome = true)
    (fun d _ m d' _ => (d'.keySlot (byteAt (msgBody m) 0)).useCount = 0 ∧ (d'.keySlot (byteAt (msgBody m) 0)).state = 1 ∧
      ((d.keySlot (byteAt (msgBody m) 0)).gen < 65535 →
        (d'.keySlot (byteAt (msgBody m) 0)).gen = (d.keySlot (byteAt (msgBody m) 0)).gen + 1)) ∧
  Completes .keepUpdate 0x0B02 (rspMax 104)
    (fun d _ m => d.keep.locked = false ∧ d.msgStatus [1, 2, 3, 4] m = stOk ∧ msgType m = 2 ∧ d.rootConflict (byteAt (msgBody m) 0) (byteAt (msgBody m) 2) = false ∧
      d.keep.rngFailed = false)
    (fun d _ m d' _ => (d'.keySlot (byteAt (msgBody m) 0)).useCount = 0 ∧ (d'.keySlot (byteAt (msgBody m) 0)).state = 1 ∧
      ((d.keySlot (byteAt (msgBody m) 0)).gen < 65535 →
        (d'.keySlot (byteAt (msgBody m) 0)).gen = (d.keySlot (byteAt (msgBody m) 0)).gen + 1)) ∧
  Completes .keepUpdate 0x0B02 (rspMax 104)
    (fun d _ m => d.keep.locked = false ∧ d.msgStatus [1, 2, 3, 4] m = stOk ∧ msgType m = 3)
    (fun d _ m d' _ => (d'.keySlot (byteAt (msgBody m) 0)).useCount = 0 ∧ (d'.keySlot (byteAt (msgBody m) 0)).state = 0 ∧
      (d'.keySlot (byteAt (msgBody m) 0)).key = [] ∧ ((d.keySlot (byteAt (msgBody m) 0)).gen < 65535 →
        (d'.keySlot (byteAt (msgBody m) 0)).gen = (d.keySlot (byteAt (msgBody m) 0)).gen + 1)) ∧
  Completes .keepDerive 0x0B03 (rspMax 100)
    (fun d _ bs => bs.length = 48 ∧ layoutOk [fr 0 1 0 1, fa 1 1, fa 2 1, if byteAt bs 0 == 1 then fa 3 1 else fr 3 1 1 5, fa 4 2, fa 8 4, fa 0x0C 4, fa 0x10 32] bs = true ∧ byteAt bs 0 = 0 ∧
      d.keyStatus .host (byteAt bs 1) 3 (ceilDiv (childBytes (byteAt bs 3)) 16) [1, 2, 3] = stOk ∧
      childUsageOk (d.keySlot (byteAt bs 1)) (byteAt bs 3) (le bs 4 2) = true ∧ (d.keySlot (byteAt bs 1)).depth < 7 ∧
      d.childOk (byteAt bs 2) (byteAt bs 1) = true ∧ byteAt bs 1 ≠ byteAt bs 2 ∧
      byteAt bs 1 ∉ descendants d.keep.slots 8 [byteAt bs 2])
    (fun d _ bs d' _ => (d'.keySlot (byteAt bs 2)).useCount = 0 ∧ (d'.keySlot (byteAt bs 2)).state = 1 ∧
      ((d.keySlot (byteAt bs 2)).gen < 65535 → (d'.keySlot (byteAt bs 2)).gen = (d.keySlot (byteAt bs 2)).gen + 1)) ∧
  Completes .keepDerive 0x0B03 (rspMax 100)
    (fun d _ bs => bs.length = 48 ∧ layoutOk [fr 0 1 0 1, fa 1 1, fa 2 1, if byteAt bs 0 == 1 then fa 3 1 else fr 3 1 1 5, fa 4 2, fa 8 4, fa 0x0C 4, fa 0x10 32] bs = true ∧ byteAt bs 0 = 1 ∧ d.keyStatus .host (byteAt bs 1) 3 0 [1, 2, 3] = stOk ∧
      d.childOk (byteAt bs 2) (byteAt bs 1) = true)
    (fun d _ bs d' _ => (d'.keySlot (byteAt bs 2)).useCount = 0 ∧ (d'.keySlot (byteAt bs 2)).state = 0 ∧
      (d'.keySlot (byteAt bs 2)).key = [] ∧
      ((d.keySlot (byteAt bs 2)).gen < 65535 → (d'.keySlot (byteAt bs 2)).gen = (d.keySlot (byteAt bs 2)).gen + 1))

/-- A KEEP_CIPHER whose data is not 1 to 4,096 whole blocks is BAD_LENGTH; another becomes a job of exactly its blocks. For
every admitted KEEP_CIPHER: data whose length is not a multiple of 16, or that covers fewer than 1 or more than 4,096
blocks, is answered BAD_LENGTH with no effect. A request of whole blocks within its ranges, on a page that is free, becomes
its channel's job, of as many blocks of 16 bytes as its data has. A device job starts once the Keep DMA's transfer commits,
and takes exactly 16 bytes for each of its blocks. (R323) -/
def Obligations.CipherJobsAreWholeBlocks : Prop :=
  Refuses .keepCipher 0x0B04 (fun _ bs => bs.length - 4)
    (fun _ _ bs => (bs.length - 4) % 16 ≠ 0 ∨ (bs.length - 4) / 16 < 1 ∨ 4096 < (bs.length - 4) / 16) stBadLength (fun _ _ _ => 0) ∧
  Waits .keepCipher 0x0B04 (fun _ bs => bs.length - 4)
    (fun d rq bs => 20 ≤ bs.length ∧ (bs.length - 4) % 16 = 0 ∧ (bs.length - 4) / 16 ≤ 4096 ∧ byteAt bs 1 ≤ 1 ∧ le bs 2 2 = 0 ∧
      ((bs.length - 4) / 16 ≤ 256 ∨ reqBulkRsp rq = true) ∧ (d.page (rq.ch + 1)).go = false)
    (fun _ rq bs d' => (d'.page (rq.ch + 1)).go = true ∧ (d'.page (rq.ch + 1)).input = bs.drop 4 ∧
      (d'.page (rq.ch + 1)).slot = byteAt bs 0 ∧ 16 * (d'.page (rq.ch + 1)).nblocks = (d'.page (rq.ch + 1)).input.length) ∧
  (∀ (s : State) p bs, s.dev.keep.job = none → s.dev.nextPage = some p → s.dev.pageStatus p = stOk → (s.dev.page p).host = false →
    s.dev.hopperRead (s.dev.page p).src ((s.dev.page p).nblocks * 16) = some bs →
    (∀ a, s.dev.granted 8 (s.dev.page p).nblocks (s.dev.page p).lst = some a → ∃ d', Runs .cipherJobStart s d' ∧
      d'.keep.job = some p ∧ (d'.page p).input = bs ∧ bs.length = 16 * (s.dev.page p).nblocks) ∧
    (s.dev.granted 8 (s.dev.page p).nblocks (s.dev.page p).lst = none → ∃ arb, Runs .cipherJobStart s { s.dev with arb := arb }))

/-- Keep's other commands complete: reads without effect, signatures, verifications and attestations queued, counters raised by
one. KEEP_SLOT_INFO of an EMPTY slot or one the host may name answers its record, of another it is NOT_PERMITTED. KEEP_HASH
and KEEP_RANDOM answer as many bytes as asked, KEEP_RANDOM FAULT while the generator has failed. KEEP_COUNTER_READ answers
the 16 counters. KEEP_COUNTER_INCREMENT raises a counter 9 to 15 by one and answers it, and is NOT_PERMITTED of another.
KEEP_SIGN, KEEP_VERIFY and KEEP_ATTEST join the ECC engine's queue and wait. KEEP_IDENTITY answers the certificate with its
length, KEEP_TAMPER_STATUS the sources and TAMPER_SEQ. (R313, R314, R329, R330, R331, spec/12_keys_and_crypto.md) -/
def Obligations.KeepCommandsComplete : Prop :=
  Completes .keepSlotInfo 0x0B01 (rspMax 128)
    (fun d _ bs => bs.length = 4 ∧ layoutOk [fa 0 1] bs = true ∧
      ((d.keySlot (byteAt bs 0)).state = 0 ∨ (bit (d.keySlot (byteAt bs 0)).usage 7 = true ∧ (d.keySlot (byteAt bs 0)).root ≠ 3)))
    (fun d _ bs d' pl => d' = d ∧ byteAt pl 0 = (d.keySlot (byteAt bs 0)).state % 256 ∧ le pl 4 2 = (d.keySlot (byteAt bs 0)).gen % 65536) ∧
  Refuses .keepSlotInfo 0x0B01 (rspMax 128)
    (fun d _ bs => bs.length = 4 ∧ layoutOk [fa 0 1] bs = true ∧ (d.keySlot (byteAt bs 0)).state ≠ 0 ∧
      (bit (d.keySlot (byteAt bs 0)).usage 7 = false ∨ (d.keySlot (byteAt bs 0)).root = 3)) stNotPermitted (fun _ _ _ => 0) ∧
  Waits .keepSign 0x0B05 (rspMax 96)
    (fun d rq bs => 4 ≤ bs.length ∧ byteAt bs 1 ≤ 2 ∧ le bs 2 2 = 0 ∧ ∃ g, digestOf (byteAt bs 1) (bs.drop 4) = some g ∧
      (d.keep.eccQueue ≠ [] ∨ d.eccStatus (eccSign rq.ch (byteAt bs 0) g) = stOk))
    (fun d rq bs d' => ∃ op, d'.keep.eccQueue = d.keep.eccQueue ++ [op] ∧ op.ch = rq.ch ∧ op.kind = 0 ∧ op.slot = some (byteAt bs 0) ∧
      digestOf (byteAt bs 1) (bs.drop 4) = some op.digest) ∧
  Waits .keepVerify 0x0B06 (rspMax 4)
    (fun _ _ bs => byteAt bs 0 = 0xFF ∧ byteAt bs 1 = 1 ∧ byteAt bs 2 = 1 ∧ byteAt bs 3 = 0 ∧ 132 ≤ bs.length)
    (fun d rq bs d' => ∃ op, d'.keep.eccQueue = d.keep.eccQueue ++ [op] ∧ op.ch = rq.ch ∧ op.kind = 1 ∧ op.slot = none ∧
      op.pub = slice bs 4 64 ∧ op.sig = slice bs 68 64 ∧ op.digest = slice (Config.sha256 (bs.drop 132)) 0 32) ∧
  Waits .keepVerify 0x0B06 (rspMax 4)
    (fun d _ bs => byteAt bs 0 ≠ 0xFF ∧ byteAt bs 2 = 1 ∧ byteAt bs 3 = 0 ∧
      (if curveOf (d.keySlot (byteAt bs 0)).type = 2 then 100 else 68) ≤ bs.length ∧
      (d.keep.eccQueue ≠ [] ∨ d.keyStatus .host (byteAt bs 0) 5 0 [4, 5, 6, 7] = stOk))
    (fun d rq bs d' => ∃ op, d'.keep.eccQueue = d.keep.eccQueue ++ [op] ∧ op.ch = rq.ch ∧ op.kind = 1 ∧ op.slot = some (byteAt bs 0)) ∧
  Completes .keepHash 0x0B07 (fun _ bs => if byteAt bs 0 == 2 then 48 else 32)
    (fun _ _ bs => 4 ≤ bs.length ∧ (byteAt bs 0 = 1 ∨ byteAt bs 0 = 2) ∧ le bs 1 3 = 0)
    (fun d _ bs d' pl => d' = d.hashed (bs.length - 4) ∧ (byteAt bs 0 = 1 → pl = slice (Config.sha256 (bs.drop 4)) 0 32) ∧
      (byteAt bs 0 = 2 → pl = slice (Config.sha384 (bs.drop 4)) 0 48)) ∧
  Completes .keepRandom 0x0B08 (fun _ bs => le bs 0 2)
    (fun d _ bs => bs.length = 4 ∧ layoutOk [fr 0 2 1 4096] bs = true ∧ d.keep.rngFailed = false)
    (fun _ _ bs _ pl => pl.length = le bs 0 2) ∧
  Refuses .keepRandom 0x0B08 (fun _ bs => le bs 0 2)
    (fun d _ bs => bs.length = 4 ∧ layoutOk [fr 0 2 1 4096] bs = true ∧ d.keep.rngFailed = true) stFault (fun _ _ _ => faultDetail 0x0303 1) ∧
  Completes .keepCounterRead 0x0B09 (rspMax 128) (fun _ _ bs => bs = [])
    (fun d _ _ d' pl => d' = d ∧ pl.length = 128 ∧ ∀ i, i < 16 → le pl (8 * i) 8 = d.mono i % 2 ^ 64) ∧
  Completes .keepCounterIncrement 0x0B0A (rspMax 8)
    (fun d _ bs => bs.length = 4 ∧ layoutOk [fr 0 1 0 15] bs = true ∧ 9 ≤ byteAt bs 0 ∧ d.mono (byteAt bs 0) + 1 < 2 ^ 64)
    (fun d _ bs d' pl => d'.mono (byteAt bs 0) = d.mono (byteAt bs 0) + 1 ∧ le pl 0 8 = d.mono (byteAt bs 0) + 1 ∧ pl.length = 8 ∧
      ∀ i, i ≠ byteAt bs 0 → d'.mono i = d.mono i) ∧
  Refuses .keepCounterIncrement 0x0B0A (rspMax 8)
    (fun _ _ bs => bs.length = 4 ∧ layoutOk [fr 0 1 0 15] bs = true ∧ byteAt bs 0 ≤ 8) stNotPermitted (fun _ _ _ => 0) ∧
  Waits .keepAttest 0x0B0B (rspMax 440) (fun _ _ bs => bs.length = 16 ∧ layoutOk [fa 0 16] bs = true)
    (fun d rq bs d' => ∃ op, d'.keep.eccQueue = d.keep.eccQueue ++ [op] ∧ op.ch = rq.ch ∧ op.kind = 2 ∧ op.head = bs) ∧
  Completes .keepIdentity 0x0B0C (rspMax 1028) (fun _ _ bs => bs = [])
    (fun d _ _ d' pl => d' = d ∧ pl = leb 2 (min 1024 Config.certificate.length) ++ zeros 2 ++ Config.certificate.take 1024) ∧
  Completes .keepTamperStatus 0x0B0E (rspMax 16) (fun _ _ bs => bs = [])
    (fun d _ _ d' pl => d' = d ∧ pl.length = 16 ∧ byteAt pl 0 = d.lantern.tamper.latched % 256 ∧
      byteAt pl 1 = d.lantern.tamper.active % 256 ∧ le pl 4 4 = d.lantern.tamper.seq % 2 ^ 32 ∧ byteAt pl 8 = b2n d.keep.locked)

/-- Domains fall asleep and wake, the device enters and leaves DOZE and DORMANT, and the power commands act as chapter 13 says.
A keep-alive timer that has run out prepares a domain without a hold; one with a hold, or in time, stays. Its indications
follow, and at the commit point, or 100 ms after one that does not end, it is ASLEEP. The device enters sleep only with
every domain asleep and no hold; its entry completes into DOZE or DORMANT, where nothing volatile is left. A pattern of a
disabled source does nothing; one of the right levels, each for 1.1 of FILTER_US, wakes, one with a phase of up to 0.9 of it
is counted; a host wake counts only asleep; an alarm that is reached is cleared. A waking domain is AWAKE after its settle
time. Host activity and expired holds end. PWR_HOLD sets or ends a hold, NOT_FOUND for no domain; PWR_RTC_ALARM takes a time
to come, else BAD_PARAM; the two reads have no effect. (R336, R337, R340, R342, R344, R345, R347, R350, R351, R352, R355,
spec/13_sleep_and_wake.md) -/
def Obligations.PowerActsAsRuled : Prop :=
  (∀ (s : State) n m, tabFind s.dev.lantern.domains n = some m →
    (m.state ≠ .awake ∨ m.firstRun.isSome = true ∨ s.dev.uptime ≤ m.kaDeadline ∨ s.dev.domainHold n m = true →
      Runs (.keepAliveTimeout n) s s.dev) ∧
    (m.state = .awake → m.firstRun = none → m.kaDeadline < s.dev.uptime → s.dev.domainHold n m = false → ∃ d' m',
      Runs (.keepAliveTimeout n) s d' ∧ tabFind d'.lantern.domains n = some m' ∧ m'.state = .prepare ∧
        m'.prepareEnd = s.dev.uptime + ms m.prepareMs ∧ m'.indSent = 0) ∧
    (m.firstRun = none → Runs (.noTrafficTimeout n) s s.dev) ∧
    (m.firstRun.isSome = true → m.state = .awake → m.kaDeadline < s.dev.uptime → s.dev.domainHold n m = false → ∃ d' m',
      Runs (.noTrafficTimeout n) s d' ∧ tabFind d'.lantern.domains n = some m' ∧ m'.state = .prepare) ∧
    (m.state ≠ .prepare ∨ m.indSent ≠ 0 ∨ s.dev.uptime < m.prepareEnd → Runs (.prepareExpiry n) s s.dev) ∧
    (m.state = .prepare → m.indSent = 0 → m.prepareEnd ≤ s.dev.uptime →
      (m.indCount = 0 → ∃ d' m', Runs (.prepareExpiry n) s d' ∧ tabFind d'.lantern.domains n = some m' ∧ m'.state = .asleep ∧
        m'.commitAt = s.dev.uptime) ∧
      (m.indCount ≠ 0 → Runs (.prepareExpiry n) s
        ((s.dev.modDomain n (fun m => { m with indSent := m.indSent + 1 })).wantSend m.indPdu s.dev.now))) ∧
    (m.state = .prepare → 0 < m.indSent → m.indSent < m.indCount → m.indDue m.indSent ≤ s.dev.uptime → Runs (.sleepIndicationSend n) s
      ((s.dev.modDomain n (fun m => { m with indSent := m.indSent + 1 })).wantSend m.indPdu s.dev.now)) ∧
    (s.dev.uptime < m.indDue m.indSent → Runs (.sleepIndicationSend n) s s.dev) ∧
    (m.state = .prepare → 0 < m.indCount → m.indCount ≤ m.indDone → ∃ d' m', Runs (.sleepCommitPoint n) s d' ∧
      tabFind d'.lantern.domains n = some m' ∧ m'.state = .asleep ∧ m'.commitAt = s.dev.uptime) ∧
    (m.indDone < m.indCount → Runs (.sleepCommitPoint n) s s.dev) ∧
    (m.state = .prepare → m.indDone < m.indSent → m.indDue m.indDone + ms 100 < s.dev.uptime → ∃ d' m', Runs (.indicationTimeout n) s d' ∧
      tabFind d'.lantern.domains n = some m' ∧ m'.state = .asleep) ∧
    (s.dev.uptime ≤ m.indDue m.indDone + ms 100 → Runs (.indicationTimeout n) s s.dev) ∧
    (m.state ≠ .waking ∨ (m.stbMask ≠ 0 ∧ s.dev.uptime < m.wakeAt + m.settleUs * 1000) → Runs (.wakeExitComplete n) s s.dev) ∧
    (m.state = .waking → (m.stbMask = 0 ∨ m.wakeAt + m.settleUs * 1000 ≤ s.dev.uptime) → ∃ d' m', Runs (.wakeExitComplete n) s d' ∧
      tabFind d'.lantern.domains n = some m' ∧ m'.state = .awake ∧
      m'.kaDeadline = s.dev.uptime + ms (if m.wakeSource < 34 then m.noTrafficMs else m.kaTimeoutMs))) ∧
  (∀ (s : State), let l := s.dev.lantern
    (s.dev.host.stage = .run → (l.power = .run ∨ l.power = .partialRun) → l.entry = none → l.target ≠ 0 →
      (∀ x ∈ l.domains, x.2.state = .asleep) → s.dev.deviceHolds = 0 → ∃ d', Runs .deviceSleepEntry s d' ∧
        d'.lantern.entry = some (if l.target = 2 then .dormant else .doze, s.dev.uptime)) ∧
    (l.target = 0 ∨ s.dev.deviceHolds ≠ 0 ∨ l.entry.isSome = true → Runs .deviceSleepEntry s s.dev) ∧
    (l.entry = none → Runs .dozeEntryComplete s s.dev ∧ Runs .dormantEntryComplete s s.dev) ∧
    (∀ t, l.entry = some (.doze, t) → ∃ d', Runs .dozeEntryComplete s d' ∧ d'.lantern.power = .doze ∧ d'.lantern.entry = none ∧
      d'.lantern.dozeSince = s.dev.uptime) ∧
    (∀ t, l.entry = some (.dormant, t) → ∃ d', Runs .dormantEntryComplete s d' ∧ d'.lantern.power = .dormant ∧ d'.lantern.entry = none ∧
      d'.ports = [] ∧ d'.fabric = fabric0 ∧ d'.lantern.keptGeneration = s.dev.txn.generation) ∧
    (l.power = .doze → l.entry = none → l.target = 1 → l.dormantAfterS ≠ 0 → l.dozeSince + sec l.dormantAfterS < s.dev.uptime →
      Runs .dormantAfterExpiry s { s.dev with lantern := { l with entry := some (.dormant, s.dev.uptime) } }) ∧
    (l.dormantAfterS = 0 ∨ s.dev.uptime ≤ l.dozeSince + sec l.dormantAfterS → Runs .dormantAfterExpiry s s.dev) ∧
    (∀ spi, s.dev.host.spi ≠ spi ∨ s.dev.deviceAsleep = false → Runs (.hostWake spi) s s.dev) ∧
    (s.dev.deviceAsleep = true → s.dev.host.spi = false → l.power ≠ .dormant → Runs (.hostWake false) s
      (({ s.dev with lantern := { l with lastRequest := some s.dev.uptime, hostActive := true } } : Dev).wake 32 0x200)) ∧
    (l.alarmS = 0 ∨ l.rtcS < l.alarmS → Runs .rtcAlarmWake s s.dev) ∧
    (l.alarmS ≠ 0 → l.alarmS ≤ l.rtcS → Runs .rtcAlarmWake s
      (({ s.dev with lantern := { l with alarmS := 0 } } : Dev).wake l.alarmTarget 0x201)) ∧
    (l.latched = [] ∨ l.entry.isSome = true ∨ l.power = .dormant ∨
      (∃ y ∈ l.latched, ∃ m, tabFind l.domains y.1 = some m ∧ m.state = .prepare) → Runs .latchedWakeServe s s.dev) ∧
    (l.latched ≠ [] → l.entry = none → l.power ≠ .dormant → (∀ y ∈ l.latched, ∀ m, tabFind l.domains y.1 = some m → m.state ≠ .prepare) → ∃ d', Runs .latchedWakeServe s d' ∧ d'.lantern.latched = [] ∧
      d'.lantern.power ≠ .doze) ∧
    (∀ t, l.lastRequest = some t → (s.dev.uptime ≤ t + ms l.hostIdleMs → Runs .hostIdleExpiry s s.dev) ∧
      (t + ms l.hostIdleMs < s.dev.uptime → ∃ d', Runs .hostIdleExpiry s d' ∧ d'.lantern.hostActive = false)) ∧
    (∀ n h, tabFind l.holds n = some h → (s.dev.overO h.deadline = false → Runs (.pwrHoldTimeout n) s s.dev) ∧
      (s.dev.overO h.deadline = true → ∃ d', Runs (.pwrHoldTimeout n) s d' ∧ tabFind d'.lantern.holds n = none)) ∧
    (∀ src phases w, tabFind l.wake src = some w → w.enable = false ∨ src < 34 ∨ (phases.map (fun x => x.1)).head? ≠ (wakeLevels src w).head? →
      Runs (.wakePatternDetected src phases) s s.dev) ∧
    (∀ src phases w, tabFind l.wake src = some w → w.enable = true → (34 ≤ src ∧ src < 90) ∨ (0x100 ≤ src ∧ src < 0x110) →
      let levels := phases.map (fun x => x.1)
      let d1 : Dev := { s.dev with freeIx := s.dev.freeIx + phases.length }
      (levels = wakeLevels src w → (∀ x ∈ phases, w.filterUs * 1100 ≤ x.2) →
        (phases.dropLast.map (fun x => x.2)).sum ≤ 5 * w.filterUs * 1000 →
        (0x100 ≤ src → Runs (.wakePatternDetected src phases) s (d1.wake w.target src)) ∧
        (∀ n, src < 90 → s.dev.domainOf src = some n → s.dev.portSleeping src = true →
          Runs (.wakePatternDetected src phases) s (d1.wake n src)) ∧
        (src < 90 → s.dev.portSleeping src = false → Runs (.wakePatternDetected src phases) s d1)) ∧
      (levels.head? = (wakeLevels src w).head? → 0 < w.filterUs → levels ≠ wakeLevels src w ∨ (∃ x ∈ phases, x.2 ≤ w.filterUs * 900) →
        Runs (.wakePatternDetected src phases) s (d1.count 12 (if src < 90 then 512 + src else 608 + (src - 0x100)))))) ∧
  Completes .pwrHold 0x0C04 (rspMax 0)
    (fun d _ bs => bs.length = 8 ∧ layoutOk [fr 0 1 0 32, fr 1 1 0 1, fa 2 2] bs = true ∧
      (byteAt bs 0 = 32 ∨ tabHas d.lantern.domains (byteAt bs 0) = true))
    (fun _ _ bs d' pl => pl = [] ∧ tabHas d'.lantern.holds (byteAt bs 0) = (byteAt bs 1 == 1)) ∧
  Refuses .pwrHold 0x0C04 (rspMax 0)
    (fun d _ bs => bs.length = 8 ∧ layoutOk [fr 0 1 0 32, fr 1 1 0 1, fa 2 2] bs = true ∧ byteAt bs 0 < 32 ∧
      tabHas d.lantern.domains (byteAt bs 0) = false) stNotFound (fun _ _ _ => 0) ∧
  Completes .pwrStatus 0x0C05 (rspMax 64) (fun _ _ bs => bs = [])
    (fun d _ _ d' pl => d' = d ∧ pl.length = 64 ∧ byteAt pl 0 = powerCode d.lantern.power ∧ le pl 2 2 = d.deviceHolds) ∧
  Completes .pwrAonLogRead 0x0C06 (rspMax 260) (fun _ _ bs => bs = [])
    (fun d _ _ d' pl => d' = d ∧ pl.length = 260 ∧ byteAt pl 0 = d.lantern.aonLog.length % 256) ∧
  Completes .pwrRtcAlarm 0x0C07 (rspMax 0)
    (fun d _ bs => bs.length = 8 ∧ layoutOk [fa 0 6, fr 6 1 0 32] bs = true ∧ (le bs 0 6 = 0 ∨ d.lantern.rtcS < le bs 0 6))
    (fun _ _ bs d' pl => pl = [] ∧ d'.lantern.alarmS = le bs 0 6 ∧ d'.lantern.alarmTarget = byteAt bs 6) ∧
  Refuses .pwrRtcAlarm 0x0C07 (rspMax 0)
    (fun d _ bs => bs.length = 8 ∧ layoutOk [fa 0 6, fr 6 1 0 32] bs = true ∧ le bs 0 6 ≠ 0 ∧ le bs 0 6 ≤ d.lantern.rtcS)
    stBadParam (fun _ _ _ => 0)

/-- Lockstep findings, the watchdog, the interlock, Twin Link timers and the safety commands act as chapter 14 says. In LOCKED a
comparator mismatch, a differing state digest, an expired watchdog (WDT_MS over since its service) and an uncorrectable TCM
error take the F2 response: FAULT_HOLD, SAFE_N low, ACT released, the record written; in SPLIT the comparator's finding is
none, and a broken comparator is F1 that bars the return to LOCKED. A restart waits for its delay and policy. A standby
takes over only with ACT_IN_N high for FILTER_US, and holds ACT after the settle time only if it stayed high; of a conflict
the twin with TWIN_ROLE 1 releases. Twin Link's timers act only when due. The safety commands answer their layouts;
SAFE_MODE_SET refuses to enter SPLIT in SEALED and in twin mode, a return whose self-test or digest fails is LOCK_INFRA;
SAFE_TWIN_HANDOVER waits on the active twin and is refused on any other. (R358, R359, R360, R361, R362, R363, R366, R368,
R372, R378, R381, spec/14_safety_and_twin.md) -/
def Obligations.SafetyAndTwinActAsRuled : Prop :=
  (∀ (s : State), s.dev.spireRuns = true → s.dev.host.stage ≠ .faultHold →
    (s.dev.safety.split = false →
      (∀ lanes, ∃ d', Runs (.lockCmp lanes) s d' ∧ d'.tookF2 0x0101 0 lanes) ∧
      (∀ out, ∃ d', Runs (.delayParityError out) s d' ∧ d'.tookF2 0x0102 (if out then 2 else 1) 0) ∧
      (s.dev.safety.selfTestAt + ms 1 ≤ s.dev.uptime → ∃ d', Runs (.comparatorSelfTest false) s d' ∧ d'.tookF2 0x0102 0 0) ∧
      (s.dev.digestsValid = true → s.dev.safety.digestAt + ms 10 ≤ s.dev.uptime → ∀ a b, a ≠ b → ∃ d',
        Runs (.stateDigestPass a b) s d' ∧ d'.tookF2 0x0103 0 0)) ∧
    (s.dev.safety.split = true → (∀ lanes, Runs (.lockCmp lanes) s s.dev) ∧ (∀ out, ∃ d', Runs (.delayParityError out) s d' ∧
      d'.safety.noReturn = true ∧ d'.host.stage = s.dev.host.stage ∧ d'.safety.lastCode = 0x0102) ∧
      (∀ a b, Runs (.stateDigestPass a b) s s.dev)) ∧
    (s.dev.digestsValid = true → ∀ served, (served + ms s.dev.safety.wdtMs < s.dev.uptime → ∃ d', Runs (.watchdogExpiry served) s d' ∧
        d'.tookF2 0x0104 0 0) ∧
      (s.dev.uptime ≤ served + ms s.dev.safety.wdtMs → Runs (.watchdogExpiry served) s s.dev)) ∧
    (∀ e : MemError, e.memory < 11 → s.dev.boot.stopped = false →
      (e.corrected = true → ∃ d', Runs (.memoryErrorDetected e) s d' ∧ d'.safety.log = s.dev.safety.log ∧ d'.host.stage = s.dev.host.stage) ∧
      (e.corrected = false → memoryF2 e = true → ∃ d', Runs (.memoryErrorDetected e) s d' ∧ d'.tookF2 0x0502 e.memory e.word) ∧
      (e.corrected = false → memoryF2 e = false → ∃ d', Runs (.memoryErrorDetected e) s d' ∧ d'.host.stage = s.dev.host.stage ∧
        d'.safety.lastCode = 0x0502))) ∧
  (∀ (s : State) t, s.dev.host.stage = .faultHold → s.dev.safety.holdSince = some t →
    (s.dev.safety.f2Action ≠ 1 ∨ s.dev.uptime ≤ t + ms s.dev.safety.restartDelayMs ∨
      s.dev.safety.restartsPerHour ≤ s.dev.recentRestarts.length → Runs .faultHoldRestart s s.dev) ∧
    (s.dev.safety.f2Action = 1 → t + ms s.dev.safety.restartDelayMs < s.dev.uptime →
      s.dev.recentRestarts.length < s.dev.safety.restartsPerHour → ∃ d', Runs .faultHoldRestart s d' ∧ d'.host.stage = .reset ∧
        d'.boot.resetKind = some 1 ∧ d'.safety.restarts = s.dev.recentRestarts ++ [s.dev.uptime])) ∧
  (∀ (s : State), let t := s.dev.twin
    (t.enable = false ∨ t.act = false ∨ t.actInHigh = true ∨ t.conflict = true → Runs .interlockConflict s s.dev) ∧
    (t.enable = true → t.act = true → t.actInHigh = false → t.conflict = false → ∃ d', Runs .interlockConflict s d' ∧
      d'.twin.conflict = true ∧ d'.twin.settle = some (t.settle.getD (s.dev.uptime + 50000))) ∧
    (∀ e, t.settle = some e → (s.dev.uptime ≤ e → Runs .interlockSettleExpiry s s.dev) ∧
      (e < s.dev.uptime → t.takingOver = true → t.actInHigh = false → ∃ d', Runs .interlockSettleExpiry s d' ∧ d'.twin.act = false ∧
        d'.twin.takingOver = false ∧ d'.twin.role = t.role) ∧
      (e < s.dev.uptime → t.takingOver = false → t.act = true → t.actInHigh = false → t.strap = true → ∃ d',
        Runs .interlockSettleExpiry s d' ∧ d'.twin.act = false ∧ d'.twin.role = .standby) ∧
      (e < s.dev.uptime → t.takingOver = true → t.actInHigh = true → t.actInHighSince + 50000 ≤ e → t.conflict = false → t.gap = [] →
        ∃ d', Runs .interlockSettleExpiry s d' ∧ d'.twin.act = true ∧ d'.twin.role = .active ∧ d'.twin.takingOver = false)) ∧
    (s.dev.mayClaim = false ∨ t.primaryWait.isSome = true → Runs .actClaimAtRun s s.dev) ∧
    (s.dev.mayClaim = true → t.primaryWait = none → t.strap = true → Runs .actClaimAtRun s
      (s.dev.modTwin (fun t => { t with primaryWait := some (s.dev.uptime + ms t.primaryWaitMs) }))) ∧
    (s.dev.mayClaim = true → t.primaryWait = none → t.strap = false → ∃ d', Runs .actClaimAtRun s d' ∧ d'.twin.act = t.actInHigh ∧
      d'.twin.role = if t.actInHigh then .active else .standby) ∧
    (s.dev.overO t.primaryWait = false → Runs .primaryWaitExpiry s s.dev) ∧
    (s.dev.mayClaim = true → s.dev.overO t.primaryWait = true → ∃ d', Runs .primaryWaitExpiry s d' ∧ d'.twin.act = t.actInHigh ∧
      d'.twin.primaryWait = none) ∧
    (t.actInHigh = false ∨ s.dev.uptime < t.actInHighSince + t.filterUs * 1000 → Runs .actTakeoverDecision s s.dev) ∧
    (t.enable = true → t.role = .standby → t.actInHigh = true → t.act = false → s.dev.deviceAsleep = false →
      t.actInHighSince + t.filterUs * 1000 ≤ s.dev.uptime → Runs .actTakeoverDecision s
        (s.dev.modTwin (fun t => { t with act := true, takingOver := true, settle := some (s.dev.uptime + 50000) }))) ∧
    Runs (.actInNEdge t.actInHigh) s s.dev ∧
    (t.actInHigh = true → Runs (.actInNEdge false) s (s.dev.modTwin (fun t => { t with actInHigh := false }))) ∧
    (t.actInHigh = false → s.dev.lantern.power = .run → Runs (.actInNEdge true) s
      (s.dev.modTwin (fun t => { t with actInHigh := true, actInHighSince := s.dev.uptime }))) ∧
    (∀ f, t.enable = false ∨ be f 12 2 ≠ 0x88B5 ∨ byteAt f 14 ≠ 4 → Runs (.journalFrameReceived f) s s.dev) ∧
    (∀ f, t.enable = true → be f 12 2 = 0x88B5 → byteAt f 14 = 4 → t.link = true → t.peerMac ≠ some (be f 6 6) →
      Runs (.journalFrameReceived f) s (s.dev.count 13 9)) ∧
    (t.link = false ∨ (∀ j ∈ t.unacked, s.dev.uptime ≤ j.sentAt + ms (j.resends + 1)) → Runs .journalResendTimeout s s.dev) ∧
    (∀ j ∈ t.unacked, t.link = true → j.sentAt + ms (j.resends + 1) < s.dev.uptime →
      (∀ k ∈ t.unacked, k.sentAt + ms (k.resends + 1) < s.dev.uptime → k.resends < 8) → ∀ a, s.dev.free.2.granted 11 64 s.dev.free.1 = some a →
      ∃ d', Runs .journalResendTimeout s d' ∧ ∃ k ∈ d'.twin.unacked, k.seq = j.seq ∧ k.resends = j.resends + 1) ∧
    (∀ j ∈ t.unacked, t.link = true → j.sentAt + ms (j.resends + 1) < s.dev.uptime → 8 ≤ j.resends → ∃ d',
      Runs .journalResendTimeout s d' ∧ d'.twin.link = false ∧ d'.safety.lastCode = 0x0702) ∧
    ((∀ w ∈ t.waits, s.dev.uptime ≤ w.deadline) → Runs .journalSyncTimeout s s.dev) ∧
    (∀ w ∈ t.waits, w.deadline < s.dev.uptime → ∃ d', Runs .journalSyncTimeout s d' ∧ d'.twin.sync = false ∧
      d'.twin.waits = t.waits.filter (fun w => !s.dev.over w.deadline)) ∧
    (t.link = false ∨ s.dev.uptime ≤ t.lastRx + ms t.linkTimeoutMs → Runs .twinLinkTimeout s s.dev) ∧
    (t.link = true → t.lastRx + ms t.linkTimeoutMs < s.dev.uptime → ∃ d', Runs .twinLinkTimeout s d' ∧ d'.twin.link = false ∧
      d'.twin.sync = false ∧ d'.safety.lastCode = 0x0702) ∧
    (s.dev.twinSends = false → Runs .helloSend s s.dev ∧ Runs .timeAlignSend s s.dev ∧ Runs .journalBatchSend s s.dev) ∧
    (∀ a, s.dev.twinSends = true → s.dev.free.2.granted 11 64 s.dev.free.1 = some a → let e : Dev := { s.dev.free.2 with arb := a }
      (t.lastHello = none → Runs .helloSend s ((e.modTwin (fun t => { t with lastHello := some s.dev.uptime })).twinPlain [(1, e.helloBody)])) ∧
      (s.dev.journals = true → t.lastAlign + ms 125 ≤ s.dev.uptime → Runs .timeAlignSend s
        ((e.modTwin (fun t => { t with lastAlign := s.dev.uptime })).twinSend [(4, e.alignBody)])) ∧
      (s.dev.journals = true → t.lastBatch + ms t.journalMs ≤ s.dev.uptime → ∃ d',
        Runs .journalBatchSend s d' ∧ d'.twin.lastBatch = s.dev.uptime ∧ d'.twin.changedPdus = [] ∧ d'.twin.sleepDirty = false)) ∧
    (s.dev.twinSends = true → s.dev.free.2.granted 11 64 s.dev.free.1 = none →
      (t.lastHello = none → ∃ arb, Runs .helloSend s { s.dev.free.2 with arb := arb }) ∧
      (s.dev.journals = true → t.lastAlign + ms 125 ≤ s.dev.uptime → ∃ arb, Runs .timeAlignSend s { s.dev.free.2 with arb := arb }) ∧
      (s.dev.journals = true → t.lastBatch + ms t.journalMs ≤ s.dev.uptime → ∃ arb,
        Runs .journalBatchSend s { s.dev.free.2 with arb := arb })) ∧
    (s.dev.overO t.looseEnd = false → Runs .loosePeriodExpiry s s.dev) ∧
    (s.dev.overO t.looseEnd = true → Runs .loosePeriodExpiry s (s.dev.modTwin (fun t => { t with looseEnd := none })))) ∧
  Completes .safeStatus 0x0D01 (rspMax 16) (fun _ _ bs => bs = [])
    (fun d _ _ d' pl => d' = d.free.2 ∧ pl.length = 16 ∧ byteAt pl 0 = b2n d.safety.split ∧ le pl 2 2 = d.safety.lastCode % 2 ^ 16) ∧
  Completes .safeFaultRead 0x0D02 (fun _ bs => 8 + 32 * byteAt bs 4)
    (fun d _ bs => bs.length = 8 ∧ layoutOk [fa 0 4, fr 4 1 1 64] bs = true ∧ 0 ≤ deadlineDiff (le bs 0 4) d.oldestFault)
    (fun d _ bs d' pl => d' = d ∧ pl = (let got := (d.safety.log.filter (fun r => decide (0 ≤ deadlineDiff r.seq (le bs 0 4)))).take (byteAt bs 4)
      leb 2 got.length ++ zeros 2 ++ leb 4 d.oldestFault ++ got.flatMap faultBytes)) ∧
  Refuses .safeFaultRead 0x0D02 (fun _ bs => 8 + 32 * byteAt bs 4)
    (fun d _ bs => bs.length = 8 ∧ layoutOk [fa 0 4, fr 4 1 1 64] bs = true ∧ deadlineDiff (le bs 0 4) d.oldestFault < 0)
    stNotFound (fun d _ _ => d.oldestFault) ∧
  Completes .safeFaultClear 0x0D03 (rspMax 4) (fun _ _ bs => bs.length = 4)
    (fun d _ bs d' pl => d' = d.clearFaults (le bs 0 4) ∧ pl = leb 4 d'.uncleared ∧
      (∀ r ∈ d'.safety.log, deadlineDiff r.seq (le bs 0 4) ≤ 0 → bit r.flags 3 = true)) ∧
  Completes (fun rq => .safeModeSet rq true) 0x0D04 (rspMax 4)
    (fun d _ bs => bs.length = 8 ∧ layoutOk [fr 0 1 0 1, fr 4 4 0x73706972 0x73706972] bs = true ∧
      (byteAt bs 0 = 1 → d.keep.lifecycle ≠ 3 ∧ d.twin.enable = false ∧ d.sessionHeld = false ∧ d.txn.txn = none ∧ d.txn.committing = none) ∧
      (byteAt bs 0 = 0 → d.safety.noReturn = false))
    (fun _ _ bs d' pl => pl.length = 4 ∧ d'.safety.split = (byteAt bs 0 == 1)) ∧
  (∀ b, Refuses (fun rq => .safeModeSet rq b) 0x0D04 (rspMax 4)
    (fun d _ bs => bs.length = 8 ∧ layoutOk [fr 0 1 0 1, fr 4 4 0x73706972 0x73706972] bs = true ∧ byteAt bs 0 = 1 ∧
      d.safety.split = false ∧ d.keep.lifecycle = 3) stNotPermitted (fun _ _ _ => 0)) ∧
  (∀ b, Refuses (fun rq => .safeModeSet rq b) 0x0D04 (rspMax 4)
    (fun d _ bs => bs.length = 8 ∧ layoutOk [fr 0 1 0 1, fr 4 4 0x73706972 0x73706972] bs = true ∧ byteAt bs 0 = 1 ∧
      d.safety.split = false ∧ d.keep.lifecycle ≠ 3 ∧ d.twin.enable = true) stWrongMode (fun _ _ _ => 0)) ∧
  (∀ (s : State) rq t d r, s.dev.admitted 0x0D04 rq (rspMax 4) = some (t, d, r) → r.data.length = 8 →
    layoutOk [fr 0 1 0 1, fr 4 4 0x73706972 0x73706972] r.data = true → byteAt r.data 0 = 0 → s.dev.safety.split = true →
    d.safety.split = true → d.safety.noReturn = false → d.host.stage ≠ .faultHold → ∃ d', Runs (.safeModeSet rq false) s d' ∧ d'.tookF2 0x0102 0 0) ∧
  Completes .safeTwinStatus 0x0D07 (rspMax 32) (fun _ _ bs => bs = [])
    (fun d _ _ d' pl => d' = d ∧ pl.length = 32 ∧ byteAt pl 0 = roleCode d.twin.role ∧ byteAt pl 1 = b2n d.twin.sync ∧
      byteAt pl 2 = b2n d.twin.link ∧ le pl 4 16 = d.twin.peerUid % 2 ^ 128 ∧ le pl 20 4 = d.twin.txSeq % 2 ^ 32) ∧
  Waits .safeTwinHandover 0x0D08 (rspMax 0)
    (fun d _ bs => bs.length = 8 ∧ layoutOk [fr 0 4 0x73706972 0x73706972, fr 4 2 1 1000] bs = true ∧ d.twin.role = .active ∧
      d.twin.handover = none ∧ d.twin.sync = false)
    (fun d rq bs d' => d'.twin.handover = some (rq.ch, d.uptime + ms (le bs 4 2)) ∧ d'.twin.role = .active) ∧
  Refuses .safeTwinHandover 0x0D08 (rspMax 0)
    (fun d _ bs => bs.length = 8 ∧ layoutOk [fr 0 4 0x73706972 0x73706972, fr 4 2 1 1000] bs = true ∧ d.twin.role ≠ .active)
    stWrongMode (fun _ _ _ => 0)

/-- An update session is opened, written, verified, put on trial, confirmed or fallen back from as chapter 15 says, and Kiln
acts. An accepted manifest opens a session of the requesting channel whose target banks are EMPTY and not in force. FW_WRITE
puts its bytes at their place of the target bank and changes no other byte. FW_VERIFY makes complete images with the right
digests VALID; one that differs ends the session, AUTH_FAIL. A RESET activation that nothing refuses begins a trial and is
reset no earlier than 100 us later; a HOT one switches at once with a bounded pause, answered, where it switches CFG, when
that generation is in force; a step that fails makes it fall back, HOT or at a reset. FW_CONFIRM ends a trial with its banks
ACTIVE and the counters at their EPOCHs. A fallback fails the trial. A trial whose timer ends unconfirmed, or that does not
reach RUN in 10 s, fails at a reset. Kiln boots a verified image, unlocks, and ends after its idle time. (R382, R385, R386,
R388, R389, R390, R393, R394, R395, R398, R399, spec/15_firmware_update.md) -/
def Obligations.FirmwareUpdateActsAsRuled : Prop :=
  Completes .fwBegin 0x0E01 (rspMax 8)
    (fun d _ bs => d.manifestError bs = none ∧ d.update.session = none ∧ d.update.trial = none)
    (fun d rq bs d' pl => pl.length = 8 ∧ le pl 0 4 = manId bs ∧ ∃ u, d'.update.session = some u ∧ u.owner = rq.ch ∧ u.manifest = bs ∧
      u.verified = false ∧ u.written = [] ∧ u.deadline = d.uptime + sec 60 ∧
      ∀ t ∈ u.targets, d'.fwBank t.1 t.2 = bank0 ∧ d.bankInForce t.1 ≠ some t.2) ∧
  Refuses .fwBegin 0x0E01 (rspMax 8)
    (fun _ _ bs => bs.length < 144) stBadLength (fun _ _ _ => 0) ∧
  Completes .fwWrite 0x0E02 (rspMax 4)
    (fun d rq bs => 8 ≤ bs.length ∧ le bs 1 3 = 0 ∧ 1 ≤ byteAt bs 0 ∧ byteAt bs 0 ≤ 5 ∧
      (byteAt bs 0 = 2 → d.boot.legRuns = true ∨ d.host.stage = .kiln) ∧ ∃ u e, d.update.session = some u ∧ u.owner = rq.ch ∧
      manEntryOf u.manifest (byteAt bs 0) = some e ∧ u.writeOk (byteAt bs 0) (le bs 4 4) (bs.length - 8) (entLength e) = true)
    (fun d _ bs d' pl => ∃ u u', d.update.session = some u ∧ d'.update.session = some u' ∧ u'.manifest = u.manifest ∧
      u'.writtenOf (byteAt bs 0) = max (u.writtenOf (byteAt bs 0)) (le bs 4 4 + (bs.length - 8)) ∧
      pl = leb 4 (u'.writtenOf (byteAt bs 0)) ∧ d'.update.banks = d.update.banks ∧
      ∀ a, memRead d'.update.mram a = (let base := bankBase (byteAt bs 0) (u.target (byteAt bs 0)) + le bs 4 4
        if base ≤ a ∧ a < base + (bs.length - 8) then bs.getD (8 + (a - base)) 0 else memRead d.update.mram a)) ∧
  Refuses .fwWrite 0x0E02 (rspMax 4)
    (fun d rq bs => 8 ≤ bs.length ∧ le bs 1 3 = 0 ∧ 1 ≤ byteAt bs 0 ∧ byteAt bs 0 ≤ 5 ∧
      (byteAt bs 0 = 2 → d.boot.legRuns = true ∨ d.host.stage = .kiln) ∧ ∃ u e, d.update.session = some u ∧ u.owner = rq.ch ∧
      manEntryOf u.manifest (byteAt bs 0) = some e ∧ u.writeOk (byteAt bs 0) (le bs 4 4) (bs.length - 8) (entLength e) = false)
    stBadParam (fun _ _ _ => 0) ∧
  Completes .fwVerify 0x0E03 (rspMax 4)
    (fun d rq bs => bs = [] ∧ ∃ u, d.update.session = some u ∧ u.owner = rq.ch ∧
      ∀ e ∈ manEntries u.manifest, entLength e ≤ u.writtenOf (entComp e) ∧ d.digestOk u e = true)
    (fun d _ _ d' pl => ∃ u, d.update.session = some u ∧ d'.update.session = some { u with verified := true } ∧ pl = leb 4 (manId u.manifest) ∧
      ∀ e ∈ manEntries u.manifest, (d'.fwBank (entComp e) (u.target (entComp e))).state = 1) ∧
  (∀ s rq t d r u, s.dev.admitted 0x0E03 rq (rspMax 4) = some (t, d, r) → r.data = [] → d.update.session = some u → u.owner = rq.ch →
    (∀ e ∈ manEntries u.manifest, entLength e ≤ u.writtenOf (entComp e)) → (∃ e ∈ manEntries u.manifest, d.digestOk u e = false) →
    ∃ (d' : Dev) (comp : Nat), Runs (.fwVerify rq) s (d'.refuse t rq.ch stAuthFail comp) ∧ d'.update.session = none ∧
      (d'.fwBank comp (u.target comp)).state = 4) ∧
  Refuses .fwVerify 0x0E03 (rspMax 4) (fun d _ bs => bs = [] ∧ d.update.session = none) stNotFound (fun _ _ _ => 0) ∧
  (∀ fails, Completes (fun rq => .fwActivate rq fails) 0x0E04 (rspMax 4080)
    (fun d rq bs => bs.length = 8 ∧ layoutOk [fr 0 1 0 1, fr 1 1 0 1, fr 2 1 0 31, fr 4 4 0x6669726D 0x6669726D] bs = true ∧ byteAt bs 0 = 1 ∧
      ∃ id c banks cfg, activationBanks d rq.ch bs = .inr (id, c, banks) ∧ activationRefused d true banks = none ∧
        activationCfg d true banks = .inr cfg)
    (fun d rq bs d' pl => pl = zeros 8 ∧ d'.boot.resetDue = some (d.uptime + 100000, 1, 3) ∧ d'.update.trialFlag = true ∧
      ∃ id c banks t, activationBanks d rq.ch bs = .inr (id, c, banks) ∧ d'.update.trial = some t ∧ t.manifestId = id ∧ t.confirmS = c ∧
        t.current = banks ∧ t.hot = false ∧ t.deadline = none ∧ t.failed = none)) ∧
  (∀ fails, Completes (fun rq => .fwActivate rq fails) 0x0E04 (rspMax 4080)
    (fun d rq bs => bs.length = 8 ∧ layoutOk [fr 0 1 0 1, fr 1 1 0 1, fr 2 1 0 31, fr 4 4 0x6669726D 0x6669726D] bs = true ∧ byteAt bs 0 = 0 ∧
      (∀ c, d.txn.committing = some c → c.rules.isSome = true ∨ c.cupola = true) ∧
      ∃ id c banks cfg, activationBanks d rq.ch bs = .inr (id, c, banks) ∧ activationRefused d false banks = none ∧
        activationCfg d false banks = .inr cfg ∧ ∀ b ∈ banks, b.1 ≠ 5 ∧ fails ≠ some b.1)
    (fun d rq bs d' pl => pl.length = 8 ∧ ∃ id c banks, ∃ x : Dev, activationBanks d rq.ch bs = .inr (id, c, banks) ∧
      le pl 0 4 ≤ hotPause (banks.map (fun b => b.1)) ∧ d' = (x.hotSwitch rq.ch (le pl 0 4) banks fails []).startTrial ∧
      (∃ t, x.update.trial = some t ∧ t.hot = true ∧ t.current = banks ∧ t.confirmS = c ∧ t.failed = none) ∧
      x.update.banks = d.update.banks)) ∧
  (∀ s rq t d r id c banks cfg, s.dev.admitted 0x0E04 rq (rspMax 4080) = some (t, d, r) → r.data.length = 8 →
    layoutOk [fr 0 1 0 1, fr 1 1 0 1, fr 2 1 0 31, fr 4 4 0x6669726D 0x6669726D] r.data = true → byteAt r.data 0 = 0 →
    (∀ c, d.txn.committing = some c → c.rules.isSome = true ∨ c.cupola = true) →
    activationBanks d rq.ch r.data = .inr (id, c, banks) → activationRefused d false banks = none → activationCfg d false banks = .inr cfg →
    ((∃ b ∈ banks, b.1 = 5) → ∃ (x : Dev) (us : Nat), Runs (.fwActivate rq none) s
      (((x.hotSwitch rq.ch us banks none cfg).modChan rq.ch (fun k => { k with running := some t })).finishCommit) ∧
      us ≤ hotPause (banks.map (fun b => b.1)) ∧ x.update.banks = d.update.banks ∧
      (∃ tr, x.update.trial = some tr ∧ tr.hot = true ∧ tr.current = banks ∧ tr.confirmS = c ∧ tr.deadline = none ∧ tr.failed = none) ∧
      (∃ cm, (x.hotSwitch rq.ch us banks none cfg).txn.committing = some cm ∧ cm.owner = rq.ch ∧ cm.kind = .hot us ∧ cm.staged = cfg)) ∧
    (∀ b ∈ banks, ∃ d', Runs (.fwActivate rq (some b.1)) s d' ∧
      ((∀ y ∈ banks, y.1 = 1 ∨ y.1 = 2 ∨ y.1 = 5) → d'.update.trial = none) ∧
      ((∃ y ∈ banks, y.1 = 3 ∨ y.1 = 4) → d'.host.stage = .reset ∧ d'.boot.resetKind = some 1 ∧
        ∃ tr, d'.update.trial = some tr ∧ tr.failed = some 5))) ∧
  (∀ fails, Refuses (fun rq => .fwActivate rq fails) 0x0E04 (rspMax 4080)
    (fun d rq bs => bs.length = 8 ∧ layoutOk [fr 0 1 0 1, fr 1 1 0 1, fr 2 1 0 31, fr 4 4 0x6669726D 0x6669726D] bs = true ∧
      (∀ c, d.txn.committing = some c → c.rules.isSome = true ∨ c.cupola = true) ∧
      (∃ x, activationBanks d rq.ch bs = .inr x) ∧ d.update.trial.isSome = true) stBusy (fun _ _ _ => 0)) ∧
  Completes .fwConfirm 0x0E05 (rspMax 0)
    (fun d _ bs => bs.length = 4 ∧ d.host.stage = .run ∧ d.boot.cfgRefused = false ∧ ∃ t, d.update.trial = some t ∧ t.manifestId = le bs 0 4 ∧
      t.failed = none ∧ t.faultMark = d.safety.faultSeq ∧ (t.current.map (fun c => c.1)).Nodup ∧
      ∀ c ∈ t.current, 1 ≤ c.1 ∧ c.1 ≤ 5 ∧ c.2 < 2 ∧ tabGet 2 t.previous c.1 ≠ c.2)
    (fun d _ _ d' pl => pl = [] ∧ d'.update.trial = none ∧ ∃ t, d.update.trial = some t ∧
      ∀ c ∈ t.current, (d'.fwBank c.1 c.2).state = 2 ∧ (d.fwBank c.1 c.2).epoch ≤ d'.mono (3 + c.1)) ∧
  Refuses .fwConfirm 0x0E05 (rspMax 0) (fun d _ bs => bs.length = 4 ∧ d.update.trial = none) stNotFound (fun _ _ _ => 0) ∧
  Completes .fwFallback 0x0E06 (rspMax 0)
    (fun d _ bs => bs.length = 4 ∧ layoutOk [fr 0 4 0x6669726D 0x6669726D] bs = true ∧ d.update.trial.isSome = true)
    (fun d _ _ d' pl => pl = [] ∧ ∃ t, d.update.trial = some t ∧
      (t.hot = false ∨ bit t.mask 2 = true ∨ bit t.mask 3 = true → d'.boot.resetDue = some (d.uptime + 100000, 1, 3) ∧
        d'.update.trial = some { t with failed := some (t.failed.getD 4) } ∧ d'.update.trialFlag = false) ∧
      (t.hot = true → bit t.mask 2 = false → bit t.mask 3 = false → bit t.mask 4 = false → d'.update.trial = none)) ∧
  Refuses .fwFallback 0x0E06 (rspMax 0)
    (fun d _ bs => bs.length = 4 ∧ layoutOk [fr 0 4 0x6669726D 0x6669726D] bs = true ∧ d.update.trial = none) stWrongMode (fun _ _ _ => 0) ∧
  Completes .fwAbort 0x0E07 (rspMax 0)
    (fun d rq bs => bs = [] ∧ ∃ u, d.update.session = some u ∧ u.owner = rq.ch)
    (fun d _ _ d' pl => pl = [] ∧ d'.update.session = none ∧ ∃ u, d.update.session = some u ∧ ∀ t ∈ u.targets, (d'.fwBank t.1 t.2).state = 4) ∧
  Refuses .fwAbort 0x0E07 (rspMax 0)
    (fun d rq bs => bs = [] ∧ ∃ u, d.update.session = some u ∧ u.owner ≠ rq.ch) stNotPermitted (fun _ _ _ => 0) ∧
  Completes .fwStatus 0x0E08 (rspMax 32) (fun _ _ bs => bs = [])
    (fun d _ _ d' pl => d' = d ∧ pl.length = 32 ∧ byteAt pl 2 = b2n d.update.trial.isSome ∧
      (d.update.session = none → byteAt pl 0 = 0) ∧
      ∀ u, d.update.session = some u → byteAt pl 0 = (if u.verified then 2 else 1) ∧ byteAt pl 1 = u.owner % 256 ∧ le pl 4 4 = manId u.manifest) ∧
  Completes .kilnBoot 0x0E09 (rspMax 0)
    (fun _ _ bs => bs.length = 8 ∧ layoutOk [fr 0 4 0x6669726D 0x6669726D] bs = true)
    (fun d _ _ d' pl => pl = [] ∧ d'.boot.resetDue = some (d.uptime + 100000, 1, 3) ∧
      (∀ u, d.update.session = some u → u.verified = true → (∃ t, d'.update.trial = some t ∧ t.current = u.targets ∧ t.hot = false) ∧
        d'.update.trialFlag = true ∧ d'.mono 3 = d.mono 3 + 1) ∧
      (d.update.session = none → d'.update = d.update ∧ d'.keep = d.keep)) ∧
  Completes .kilnUnlock 0x0E0A (rspMax 0)
    (fun d _ bs => d.msgStatus [5] bs = stOk ∧ le (msgBody bs) 0 4 = d.lantern.tamper.seq ∧ d.tamperActive = false)
    (fun _ _ _ d' pl => pl = [] ∧ d'.host.stage = .rom ∧ d'.lantern.tamper.latched = 0 ∧ d'.lantern.power = .run) ∧
  (∀ s rq t d r, s.dev.admitted 0x0E0A rq (rspMax 0) = some (t, d, r) → d.msgStatus [5] r.data = stOk →
    le (msgBody r.data) 0 4 ≠ d.lantern.tamper.seq → ∃ d' : Dev, Runs (.kilnUnlock rq) s (d'.refuse t rq.ch stBadParam 0) ∧
      d'.lantern = d.lantern ∧ d'.host.stage = d.host.stage) ∧
  (∀ (s : State), let v := s.dev.update
    (s.dev.boot.resetDue = none → Runs .activationReset s s.dev) ∧
    (∀ at_ k c, s.dev.boot.resetDue = some (at_, k, c) → (s.dev.uptime < at_ ∨ c ≠ 3 → Runs .activationReset s s.dev) ∧
      (at_ ≤ s.dev.uptime → c = 3 → ∃ d', Runs .activationReset s d' ∧ d'.host.stage = .reset ∧ d'.boot.resetKind = some k ∧
        d'.update.trial = v.trial ∧ (v.trialFlag = true → d'.update.trialReset = some s.dev.uptime))) ∧
    (v.session = none → Runs .updateSessionIdleTimeout s s.dev) ∧
    (∀ u, v.session = some u → (s.dev.uptime ≤ u.deadline → Runs .updateSessionIdleTimeout s s.dev) ∧
      (u.deadline < s.dev.uptime → ∃ d', Runs .updateSessionIdleTimeout s d' ∧ d'.update.session = none ∧
        ∀ t ∈ u.targets, (d'.fwBank t.1 t.2).state = 4)) ∧
    (v.trial = none → Runs .trialTimerExpiry s s.dev ∧ Runs .runNotReachedTimeout s s.dev) ∧
    (∀ t, v.trial = some t →
      (t.failed = none → s.dev.overO t.deadline = false ∨ s.dev.confirmTaken = true → Runs .trialTimerExpiry s s.dev) ∧
      (t.failed.isSome = true → t.backHot = false ∨ s.dev.txn.committing.isSome = true → Runs .trialTimerExpiry s s.dev) ∧
      (∀ cause, t.failed = some cause → t.backHot = true → s.dev.txn.committing = none →
        Runs .trialTimerExpiry s (s.dev.fallbackHot t t.mask cause)) ∧
      (s.dev.overO t.deadline = true → t.failed = none → s.dev.confirmTaken = false →
        (t.hot = false ∨ bit t.mask 2 = true ∨ bit t.mask 3 = true) → ∃ d', Runs .trialTimerExpiry s d' ∧ d'.host.stage = .reset ∧
        d'.update.trial = some { t with failed := some 1 }) ∧
      (t.hot = true ∨ t.failed.isSome = true ∨ s.dev.host.stage = .run → Runs .runNotReachedTimeout s s.dev) ∧
      (∀ e, v.trialReset = some e → e + sec 10 < s.dev.uptime → t.hot = false → t.failed = none → s.dev.host.stage ≠ .run → ∃ d',
        Runs .runNotReachedTimeout s d' ∧ d'.host.stage = .reset ∧ d'.update.trial = some { t with failed := some 3 })) ∧
    (s.dev.overO v.kilnDeadline = false → Runs .kilnIdleTimeout s s.dev) ∧
    (s.dev.overO v.kilnDeadline = true → (s.dev.chan 0).taken = [] → ∃ d', Runs .kilnIdleTimeout s d' ∧ d'.host.stage = .reset ∧
      d'.boot.resetKind = some 1 ∧ d'.update.kilnDeadline = none) ∧
    (∀ f, (s.dev.host.stage ≠ .kiln ∧ s.dev.host.stage ≠ .tamperHold) ∨ v.kilnPeer.isSome = true ∨ f.length < 34 ∨ 1518 < f.length ∨
      byteAt f 14 ≠ 5 ∨ be f 0 6 ≠ Config.baseMac → Runs (.kilnFrameReceived f) s s.dev) ∧
    (∀ f, s.dev.host.stage = .kiln → v.kilnPeer = none → f.length ≤ 1518 → 34 + le f 20 2 ≤ f.length → be f 0 6 = Config.baseMac →
      be f 12 2 = 0x88B5 → slice f 14 4 = [5, 1, 0, 0] → Runs (.kilnFrameReceived f) s
      ((({ s.dev with update := { v with kilnPeer := some (be f 6 6) } } : Dev).take
        { opcode := (messageReq 0 (slice f 18 (16 + le f 20 2))).opcode, rq := (messageReq 0 (slice f 18 (16 + le f 20 2))).rq,
          origin := some { port := 10, vlan := 0, sa := be f 6 6 } }).drainAll 0)))

/-- Resets clear what chapter 16 lets them clear, and each part of the boot leads to the stage it names. A low pulse of 100 ns
or more on PORST_N clears the block but what MRAM and, with the AON supply kept, Lantern hold, and takes the pads of bank B
for VDDIO_B's level; on SYSRST_N it makes a system reset, at which the clock keeps counting and the fault log stays; a
shorter one does nothing. Removing VDD_AON loses the RTC, the always-on log and the tamper unit. A boot whose ROM digest or
comparator fails stops with SAFE_N and FAULT_N low; one that passes reads the lifecycle record (F2 where it cannot), waits
in TAMPER_HOLD while a source is latched, enters Kiln for BLANK, BOOT_SRC 2 and 3 or KIND 2, and else selects its images and
unlocks the roots. LOADING ends with what has a usable bank running; ADMITTING reaches RUN with an empty configuration, and
stays where the image is refused. A start from DORMANT whose conditions fail is a cold one. (R402, R404, R405, R406, R407,
R408, R409, R410, R412, R414, R418, spec/16_startup.md) -/
def Obligations.ResetsAndBootActAsRuled : Prop :=
  (∀ (s : State) n p, (n < 100 → Runs (.powerOnReset n p) s s.dev ∧ Runs (.systemResetInput n) s s.dev) ∧
    (100 ≤ n → ∃ d', Runs (.powerOnReset n p) s d' ∧ d'.host.stage = .reset ∧ d'.host.spi = p.spi ∧ d'.twin.strap = p.twinRole ∧
      d'.twin.act = false ∧ d'.ports = [] ∧ d'.fabric = fabric0 ∧ d'.txn = txnUnit0 ∧ d'.lauter = lauter0 ∧ d'.cupola = cupola0 ∧
      d'.safety.log = [] ∧ (∃ b, d'.boot = { boot0 with pads33 := b } ∧ (1710 ≤ p.vddioB → p.vddioB ≤ 1890 → b = false) ∧
        (3135 ≤ p.vddioB → p.vddioB ≤ 3465 → b = true)) ∧ d'.jtag = jtag0 ∧ d'.keep.counters = s.dev.keep.counters ∧ d'.update.mram = s.dev.update.mram ∧
      d'.update.banks = s.dev.update.banks ∧ d'.cask.records = s.dev.cask.records ∧
      (p.aonKept = true → s.dev.boot.aon = true → d'.lantern.rtcS = s.dev.lantern.rtcS ∧ d'.lantern.aonLog = s.dev.lantern.aonLog ∧
        d'.lantern.tamper.latched = s.dev.lantern.tamper.latched ∧ d'.time.clock = clock0 s.dev.lantern.rtcS) ∧
      (p.aonKept = false → d'.lantern = lantern0 ∧ d'.lantern.stb = 255)) ∧
    (100 ≤ n → s.dev.resettable = true → ∃ d', Runs (.systemResetInput n) s d' ∧ d'.host.stage = .reset ∧ d'.boot.resetKind = some 1 ∧
      d'.time.clock = s.dev.time.clock ∧ d'.time.quality = 4 ∧ d'.safety.log = s.dev.safety.log ∧ d'.twin.act = false ∧ d'.txn.txn = none ∧
      d'.ports = [] ∧ d'.keep.counters = s.dev.keep.counters ∧ d'.update.mram = s.dev.update.mram ∧
      d'.lantern.aonLog = s.dev.lantern.aonLog) ∧
    (s.dev.resettable = false → Runs (.systemResetInput n) s s.dev)) ∧
  (∀ (s : State), ∃ d', Runs .vddAonRemoval s d' ∧ d'.lantern.power = .off ∧ d'.lantern.rtcS = 0 ∧ d'.lantern.aonLog = [] ∧
    d'.lantern.tamper = tamper0 ∧ d'.host.stage = .reset ∧ d'.boot.resetKind = none ∧ d'.update.mram = s.dev.update.mram) ∧
  (∀ (s : State) b, s.dev.resettable = false ∨ s.dev.lantern.power = .dormant → Runs (.bootSequence b) s s.dev) ∧
  (∀ (s : State) b, s.dev.resettable = true → s.dev.lantern.power ≠ .dormant →
    (s.dev.host.stage = .reset → s.dev.boot.resetKind.isSome = true →
      (b.romDigestOk = false ∨ b.comparatorOk = false → ∃ d', Runs (.bootSequence b) s d' ∧ d'.boot.stopped = true ∧
        d'.host.stage = .reset ∧ d'.safeLow = true ∧ d'.faultLow = true ∧ d'.resettable = false) ∧
      (b.romDigestOk = true → b.comparatorOk = true → ∃ d', Runs (.bootSequence b) s d' ∧ d'.host.stage = .rom ∧
        d'.boot.bootSrc = b.bootSrc % 4 ∧ d'.boot.resetKind = s.dev.boot.resetKind)) ∧
    (s.dev.boot.resetKind = none → s.dev.host.stage = .reset ∨ s.dev.host.stage = .rom → Runs (.bootSequence b) s s.dev) ∧
    (s.dev.host.stage = .rom → s.dev.boot.resetKind.isSome = true →
      (b.lifecycleReadable = false → ∃ d', Runs (.bootSequence b) s d' ∧ d'.tookF2 0x0502 10 b.lifecycleWord) ∧
      (b.lifecycleReadable = true →
        (s.dev.lantern.tamper.latched ≠ 0 ∨ s.dev.tamperActive = true → ∃ d', Runs (.bootSequence b) s d' ∧ d'.host.stage = .tamperHold ∧
          d'.lantern.power = .tamperHold ∧ d'.keep.rootsUnlocked = s.dev.keep.rootsUnlocked) ∧
        (s.dev.lantern.tamper.latched = 0 → s.dev.tamperActive = false →
          (s.dev.keep.lifecycleNext = 0 ∨ 2 ≤ s.dev.boot.bootSrc → ∃ d', Runs (.bootSequence b) s d' ∧ d'.host.stage = .kiln ∧
            d'.update.kilnDeadline = none) ∧
          (s.dev.keep.lifecycleNext ≠ 0 → s.dev.boot.bootSrc < 2 →
            (s.dev.boot.resetKind = some 2 → ∃ d', Runs (.bootSequence b) s d' ∧ d'.host.stage = .kiln ∧
              d'.update.kilnDeadline = some (s.dev.uptime + sec 600)) ∧
            (s.dev.boot.resetKind ≠ some 2 → s.dev.update.trial = none → ∀ i, s.dev.takeLifecycle.bankInForce 1 = some i →
              s.dev.takeLifecycle.bankUsable b 1 i = true → ∃ d', Runs (.bootSequence b) s d' ∧ d'.host.stage = .loading ∧
              d'.keep.rootsUnlocked = true ∧ d'.boot.resetKind = none ∧ d'.bankInForce 1 = some i))))) ∧
    (s.dev.host.stage = .loading → ∃ d', Runs (.bootSequence b) s d' ∧ d'.host.stage = .admitting ∧
      d'.boot.legRuns = (s.dev.bankInForce 2).isSome ∧ d'.boot.phyLoaded = (s.dev.bankInForce 3).isSome ∧
      d'.boot.admittingAt = some s.dev.uptime) ∧
    (s.dev.host.stage = .admitting →
      (s.dev.boot.cfgRefused = true → Runs (.bootSequence b) s s.dev) ∧
      (s.dev.boot.cfgRefused = false → s.dev.bankInForce 5 = none → s.dev.cask.sge = [] → s.dev.twin.link = false → ∃ d',
        Runs (.bootSequence b) s d' ∧ d'.host.stage = .run ∧ d'.safety.safe = false ∧ d'.txn.committing = none) ∧
      (s.dev.boot.cfgRefused = false → ∀ e, s.dev.applyLegalSge.cfgInForce.1 = .inl e → ∃ d', Runs (.bootSequence b) s d' ∧
        d'.boot.cfgRefused = true) ∧
      (s.dev.boot.cfgRefused = false → ∀ l, s.dev.applyLegalSge.cfgInForce.1 = .inr l →
        Runs (.bootSequence b) s (s.dev.applyLegalSge.cfgInForce.2.cfgApply l)))) ∧
  (∀ (s : State) b, (s.dev.lantern.power ≠ .dormant ∨ s.dev.lantern.latched = [] → Runs (.warmPathBoot b) s s.dev) ∧
    (s.dev.lantern.power = .dormant → s.dev.lantern.latched ≠ [] →
      (s.dev.warmFits b = false → ∃ d', Runs (.warmPathBoot b) s d' ∧ d'.host.stage = .reset ∧ d'.boot.resetKind = some 1 ∧
        d'.lantern.power = .run ∧ d'.time.clock.sec = s.dev.lantern.rtcS ∧ d'.safety.log = []) ∧
      (s.dev.warmFits b = true → Runs (.warmPathBoot b) s (s.dev.warmStart b))))

/-- Every step keeps the block's bounded stores within their sizes and its clocks' sub-second parts within a second. In every
state where the event history and the events kept before ENABLE hold at most 1,024 entries, the fault log at most 64, the
always-on log at most 16, the local clock's nanoseconds lie below 10^9 and the RTC's cycles below 32,768, and every
addressed RAM is in its canonical form, a step of any command, or of an empty queue, answers a state where they do so again.
What is kept in each store is what its rule says; this is the whole block's promise that no command outgrows one. (R52, R51,
R417, R356, R368, R263, spec/02_host_interface.md, spec/13_sleep_and_wake.md, spec/14_safety_and_twin.md) -/
def Obligations.StepKeepsBounds : Prop :=
  ∀ s s' : State, s.dev.Bounded → step s = .next s' → s'.dev.Bounded

/-- Right after a power-on reset the bounds hold, no command waits, and the registers the spec gives values hold them. The block
after a power-on reset is in stage RESET with the bounds of StepKeepsBounds; the queue is empty; HIF registers are 0, a P90
ring's SIZE is 6, an arbiter wait limit 64, INCREMENT is nominal with QUALITY UNSYNCED, ACT_OUT_N is released, the VID code
is 4, VLAN 1 exists, external ports are disabled with MAX_FRAME 1,522, no transaction is open, generation 0 is in force and
nothing is claimed; SAFE_N is low, CAN_STB high. JTAG's IDCODE is 0x1966354B, in SEALED and RETIRED every other code is
BYPASS, EXTEST drives what its update latched. That the RAMs list nothing, and every value of State.reset a table of the
spec does not give, is the model's choice (log 2, log 3). (R263, R264, R18, R373, R403, R422, R423, R426,
spec/02_host_interface.md, spec/16_startup.md) -/
def Obligations.ResetMeetsBoundsAndDefaults : Prop :=
  State.reset.dev.Bounded ∧ State.reset.pending = [] ∧
  (let d := State.reset.dev
   d.host.stage = .reset ∧ d.host.scratch = 0 ∧ d.host.irqStatus = 0 ∧ d.host.irqEnable = 0 ∧ d.host.evtEnable = false ∧
   d.host.evtProd = 0 ∧ d.host.evtCons = 0 ∧ (∀ ch, (d.chan ch).enable = false ∧ (d.chan ch).reqProd = 0 ∧ (d.chan ch).rspCons = 0) ∧
   ring0.size = 6 ∧ requester0.limit = 64 ∧ d.time.clock.increment = 0x0400000000 ∧ d.time.quality = 4 ∧ d.twin.act = false ∧
   d.twin.enable = false ∧ d.boot.vid = 4 ∧ tabFind d.lauter.bank.vlans 1 = some vlan1 ∧
   (∀ p, p < 50 → (d.port p).admin = false ∧ (d.port p).maxFrame = 1522) ∧ d.txn.txn = none ∧ d.txn.generation = 0 ∧ d.claims = [] ∧
   d.safety.split = false ∧ d.safety.log = [] ∧ d.safeLow = true ∧ d.lantern.stb = 255 ∧ d.jtag.ir = 1) ∧
  (∀ (d : Dev) pins, d.jtag.ir = 1 → d.jtagCapture pins = (List.range 32).map (fun i => bit 0x1966354B i)) ∧
  (∀ (d : Dev) pins, d.jtag.ir ≠ 1 → 3 ≤ d.keep.lifecycle → d.jtagCapture pins = [false] ∧ d.jtagDrives = none ∧
    ∀ reg, d.jtagUpdate reg = d) ∧
  (∀ (d : Dev) pins, d.jtag.ir = 0 → d.keep.lifecycle < 3 → (d.jtagCapture pins).length = scanBits ∧
    ∀ reg, (d.jtagUpdate reg).jtagDrives = some (some ((d.jtagUpdate reg).jtag.latches)) ∧
      ∀ i, i < scanBits → (d.jtagUpdate reg).jtag.latches.getD i false = reg.getD i false)
end

