-- ==== Sys2Proof/Laws/Arbiter.lean ====
section
/-! SUPPORT. Everything a transfer of an engine's step can do. -/

namespace Sys2Proof.Machine

open Sys2Proof

/-- With the grant a step has its effect, on the block with the arbiter after the transfer. -/
theorem Dev.transferBy_granted {d : Dev} {req beats lst : Nat} {act : Dev → Dev} {a : Arbiter} (h : d.granted req beats lst = some a) :
    Dev.transferBy req beats lst act d = act { d with arb := a } := by
  simp only [Dev.transferBy, h]

/-- Without the grant a step changes the arbiter alone. -/
theorem Dev.transferBy_waits {d : Dev} {req beats lst : Nat} {act : Dev → Dev} (h : d.granted req beats lst = none) :
    Dev.transferBy req beats lst act d = { d with arb := d.arb.round (d.raiseOwn req beats lst) d.now } := by
  simp only [Dev.transferBy, h]

/-- A step that asks for a transfer has its effect on the block with another arbiter, or changes the arbiter alone. -/
theorem Dev.transferBy_cases (d : Dev) (req beats lst : Nat) (act : Dev → Dev) :
    ∃ a, Dev.transferBy req beats lst act d = act { d with arb := a } ∨ Dev.transferBy req beats lst act d = { d with arb := a } := by
  cases h : d.granted req beats lst with
  | some a => exact ⟨a, .inl (Dev.transferBy_granted h)⟩
  | none => exact ⟨_, .inr (Dev.transferBy_waits h)⟩

end Sys2Proof.Machine
end

