-- ==== Sys2Proof/Laws/Frames.lean ====
section
/-! SUPPORT. Everything the shared operations can change: each lemma gives the state after an operation as the state before
with the few fields the operation writes. -/

namespace Sys2Proof.Machine

open Sys2Proof

/-- `d'` is `d` but for the host interface, what was driven to the outside, and events kept for the next wake. -/
def Dev.Posts (d d' : Dev) : Prop :=
  ∃ h l u, d' = { d with host := h, lantern := { d.lantern with deferred := l }, outs := d.outs ++ u }

theorem Dev.Posts.refl (d : Dev) : d.Posts d := ⟨d.host, d.lantern.deferred, [], by simp⟩

theorem Dev.Posts.trans {a b c : Dev} (h1 : a.Posts b) (h2 : b.Posts c) : a.Posts c := by
  obtain ⟨h, l, u, rfl⟩ := h1
  obtain ⟨h', l', u', rfl⟩ := h2
  exact ⟨h', l', u ++ u', by simp⟩

theorem Dev.posts_host (d : Dev) (h : HostIf) : d.Posts { d with host := h } := ⟨h, d.lantern.deferred, [], by simp⟩

theorem Dev.posts_emit (d : Dev) (o : Output) : d.Posts (d.emit o) := ⟨d.host, d.lantern.deferred, [o], rfl⟩

theorem Dev.posts_count (d : Dev) (c i : Nat) : d.Posts (d.count c i) := d.posts_host _

theorem Dev.posts_countN (d : Dev) (c i n : Nat) : d.Posts (d.countN c i n) := d.posts_host _

/-- Raising an interrupt source changes HIF_IRQ_STATUS and may send a vector, nothing else. -/
theorem Dev.posts_raise (d : Dev) (b : Nat) : d.Posts (d.raise b) := by
  unfold Dev.raise
  split
  · exact .refl d
  · dsimp only
    split
    · split
      · exact (d.posts_host _).trans (Dev.posts_emit _ _)
      · exact d.posts_host _
    · exact d.posts_host _

/-- Writing an event entry changes the host interface and may drive outputs, nothing else. -/
theorem Dev.posts_ringPut (d : Dev) (e : Evt) : d.Posts (d.ringPut e) := by
  unfold Dev.ringPut
  extract_lets h slot first d1 d2
  have h2 : d.Posts d2 := by
    simp only [d2]
    split
    · exact d.posts_host _
    · exact (d.posts_host _).trans (Dev.posts_emit _ _)
  repeat' split
  · exact h2.trans (Dev.posts_raise _ _)
  · exact h2
  · exact h2.trans (Dev.posts_host _ _)
  · exact h2
  · exact h2.trans ((Dev.posts_host _ _).trans (Dev.posts_raise _ _))
  · exact h2.trans (Dev.posts_host _ _)

theorem Dev.posts_evtLose (d : Dev) (e : Evt) : d.Posts (d.evtLose e) := d.posts_host _

theorem Dev.posts_deliver (d : Dev) (e : Evt) : d.Posts (d.deliver e) := by
  unfold Dev.deliver
  dsimp only
  repeat' split
  · exact d.posts_host _
  · exact .refl d
  · exact (d.posts_host _).trans (Dev.posts_evtLose _ _)
  · exact d.posts_evtLose e
  · exact d.posts_ringPut e

/-- Generating an event changes the host interface and the events kept for the next wake, and may drive outputs. -/
theorem Dev.posts_postAt (d : Dev) (c o x t : Nat) : d.Posts (d.postAt c o x t) := by
  unfold Dev.postAt
  dsimp only
  split
  · exact ⟨d.host, _, [], by simp; rfl⟩
  · exact (d.posts_host _).trans (Dev.posts_deliver _ _)

theorem Dev.posts_post (d : Dev) (c o x : Nat) : d.Posts (d.post c o x) := d.posts_postAt c o x d.now

theorem Dev.posts_postLimited (d : Dev) (c k o x : Nat) : d.Posts (d.postLimited c k o x) := by
  unfold Dev.postLimited
  dsimp only
  repeat' split
  · exact (d.posts_host _).trans (Dev.posts_post _ _ _ _)
  · exact .refl d
  · exact (d.posts_host _).trans (Dev.posts_post _ _ _ _)

theorem Dev.posts_reportLost (d : Dev) : d.Posts d.reportLost := by
  unfold Dev.reportLost
  split
  · exact (d.posts_host _).trans (Dev.posts_ringPut _ _)
  · exact .refl d

/-- A fault of class F0 is counted and may post an event, nothing else (R366). -/
theorem Dev.posts_faultF0 (d : Dev) (c o : Nat) : d.Posts (d.faultF0 c o) :=
  (d.posts_count _ _).trans (Dev.posts_postLimited _ _ _ _ _)

/-- The block with one more record in the fault log (R368). -/
def Dev.withFault (d : Dev) (r : FaultRec) : Dev :=
  { d with safety := { d.safety with
      log := (d.safety.log ++ [r]).drop ((d.safety.log ++ [r]).length - 64), faultSeq := (d.safety.faultSeq + 1) % 2 ^ 32, lastCode := r.code } }

/-- A record of the fault log, its event and its interrupt source: beside what `Posts` allows, only the log, its next SEQ and
the last code change. -/
theorem Dev.posts_logFault (d : Dev) (cls code object data flags time : Nat) :
    (d.withFault
      { seq := d.safety.faultSeq, code := code, cls := cls, flags := flags, time := time, object := object, data := data }).Posts
      (d.logFault cls code object data flags time) :=
  (Dev.posts_post _ _ _ _).trans (Dev.posts_raise _ _)

/-- What `Posts` leaves alone. -/
theorem Dev.Posts.chans {d d' : Dev} (h : d.Posts d') : d'.chans = d.chans := by obtain ⟨_, _, _, rfl⟩ := h; rfl
theorem Dev.Posts.txn {d d' : Dev} (h : d.Posts d') : d'.txn = d.txn := by obtain ⟨_, _, _, rfl⟩ := h; rfl
theorem Dev.Posts.ports {d d' : Dev} (h : d.Posts d') : d'.ports = d.ports := by obtain ⟨_, _, _, rfl⟩ := h; rfl
theorem Dev.Posts.fabric {d d' : Dev} (h : d.Posts d') : d'.fabric = d.fabric := by obtain ⟨_, _, _, rfl⟩ := h; rfl
theorem Dev.Posts.lauter {d d' : Dev} (h : d.Posts d') : d'.lauter = d.lauter := by obtain ⟨_, _, _, rfl⟩ := h; rfl
theorem Dev.Posts.streams {d d' : Dev} (h : d.Posts d') : d'.streams = d.streams := by obtain ⟨_, _, _, rfl⟩ := h; rfl
theorem Dev.Posts.cupola {d d' : Dev} (h : d.Posts d') : d'.cupola = d.cupola := by obtain ⟨_, _, _, rfl⟩ := h; rfl
theorem Dev.Posts.gateway {d d' : Dev} (h : d.Posts d') : d'.gateway = d.gateway := by obtain ⟨_, _, _, rfl⟩ := h; rfl
theorem Dev.Posts.time {d d' : Dev} (h : d.Posts d') : d'.time = d.time := by obtain ⟨_, _, _, rfl⟩ := h; rfl
theorem Dev.Posts.cask {d d' : Dev} (h : d.Posts d') : d'.cask = d.cask := by obtain ⟨_, _, _, rfl⟩ := h; rfl
theorem Dev.Posts.keep {d d' : Dev} (h : d.Posts d') : d'.keep = d.keep := by obtain ⟨_, _, _, rfl⟩ := h; rfl
theorem Dev.Posts.safety {d d' : Dev} (h : d.Posts d') : d'.safety = d.safety := by obtain ⟨_, _, _, rfl⟩ := h; rfl
theorem Dev.Posts.twin {d d' : Dev} (h : d.Posts d') : d'.twin = d.twin := by obtain ⟨_, _, _, rfl⟩ := h; rfl
theorem Dev.Posts.update {d d' : Dev} (h : d.Posts d') : d'.update = d.update := by obtain ⟨_, _, _, rfl⟩ := h; rfl
theorem Dev.Posts.boot {d d' : Dev} (h : d.Posts d') : d'.boot = d.boot := by obtain ⟨_, _, _, rfl⟩ := h; rfl
theorem Dev.Posts.uptime {d d' : Dev} (h : d.Posts d') : d'.uptime = d.uptime := by obtain ⟨_, _, _, rfl⟩ := h; rfl
theorem Dev.Posts.chan {d d' : Dev} (h : d.Posts d') (ch : Nat) : d'.chan ch = d.chan ch := by unfold Dev.chan; rw [h.chans]
theorem Dev.Posts.port {d d' : Dev} (h : d.Posts d') (p : Nat) : d'.port p = d.port p := by unfold Dev.port; rw [h.ports]

end Sys2Proof.Machine
end

