-- ==== Sys2Proof/Laws/Serve.lean ====
section
/-! SUPPORT. What serving an admitted request comes to, by what the command's own work answers. -/

namespace Sys2Proof.Machine

open Sys2Proof

/-- Everything that an admission says. -/
theorem Dev.admitted_inv {d0 d : Dev} {op : Nat} {rq : Req} {most : Dev → Bytes → Nat} {t : Taken} {r : ReqData}
    (h : d0.admitted op rq most = some (t, d, r)) :
    d0.start op rq = some (t, d) ∧ headerError d op t.rq = none ∧ requestData d t.origin.isSome t.rq = .inr r ∧
    (d.host.spi && decide (d.spiRoom < 16 + (if reqBulkRsp t.rq then 4 else most d r.data))) = false ∧
    (reqBulkRsp t.rq && decide (r.room < most d r.data)) = false ∧ d.heldByCommit op r.data = none := by
  unfold Dev.admitted at h
  cases hs : d0.start op rq with
  | none => rw [hs] at h; cases h
  | some p =>
    obtain ⟨t1, d1⟩ := p
    simp only [hs] at h
    cases he : headerError d1 op t1.rq with
    | some e => simp [he] at h
    | none =>
      simp only [he, Option.isSome_none, Bool.false_eq_true, if_false] at h
      cases hr : requestData d1 t1.origin.isSome t1.rq with
      | inl e => simp [hr] at h
      | inr r1 =>
        simp only [hr] at h
        by_cases h1 : (d1.host.spi && decide (d1.spiRoom < 16 + (if reqBulkRsp t1.rq then 4 else most d1 r1.data))) = true
        · rw [if_pos h1] at h; cases h
        · rw [if_neg h1] at h
          by_cases h2 : (reqBulkRsp t1.rq && decide (r1.room < most d1 r1.data)) = true
          · rw [if_pos h2] at h; cases h
          · rw [if_neg h2] at h
            cases hc : d1.heldByCommit op r1.data with
            | some i => simp [hc] at h
            | none =>
              simp only [hc, Option.isSome_none, Bool.false_eq_true, if_false, Option.some.injEq, Prod.mk.injEq] at h
              obtain ⟨rfl, rfl, rfl⟩ := h
              exact ⟨rfl, he, hr, by simpa using h1, by simpa using h2, hc⟩

theorem Dev.serve_done {d0 d d' : Dev} {op : Nat} {rq : Req} {most : Dev → Bytes → Nat} {t : Taken} {r : ReqData}
    {body : Dev → Nat → Bytes → Ans} {det : Nat} {pl : Bytes}
    (h : d0.admitted op rq most = some (t, d, r)) (hb : body d rq.ch r.data = .done stOk det pl d') :
    d0.serve op rq most body = d'.finish t r rq.ch det pl := by
  obtain ⟨hs, he, hr, h1, h2, hc⟩ := Dev.admitted_inv h
  simp only [Dev.serve, hs, he, hr, hb, hc, h1, h2, Dev.finish, beq_self_eq_true, if_true, Bool.false_and, Bool.false_eq_true,
    if_false]

theorem Dev.serve_refused {d0 d d' : Dev} {op : Nat} {rq : Req} {most : Dev → Bytes → Nat} {t : Taken} {r : ReqData}
    {body : Dev → Nat → Bytes → Ans} {st det : Nat}
    (h : d0.admitted op rq most = some (t, d, r)) (hb : body d rq.ch r.data = .done st det [] d') (hst : st ≠ stOk) :
    d0.serve op rq most body = d'.refuse t rq.ch st det := by
  obtain ⟨hs, he, hr, h1, h2, hc⟩ := Dev.admitted_inv h
  have hst' : (st == stOk) = false := by simpa using hst
  simp only [Dev.serve, hs, he, hr, hb, h1, hst', Dev.refuse, Dev.answerData, Bool.and_false, Bool.false_eq_true, if_false]

theorem Dev.serve_wait {d0 d d' : Dev} {op : Nat} {rq : Req} {most : Dev → Bytes → Nat} {t : Taken} {r : ReqData}
    {body : Dev → Nat → Bytes → Ans}
    (h : d0.admitted op rq most = some (t, d, r)) (hb : body d rq.ch r.data = .wait d') :
    d0.serve op rq most body = d'.modChan rq.ch (fun c => { c with running := some t }) := by
  obtain ⟨hs, he, hr, h1, h2, _⟩ := Dev.admitted_inv h
  simp only [Dev.serve, hs, he, hr, hb, h1, h2, Bool.false_eq_true, if_false]

/-- A transactional row whose meaning is `serveStaged` is staged as `Stages` says. -/
theorem stages_of_serveStaged {d0 d : Dev} {op : Nat} {check : Dev → Bytes → Nat} {rq : Req} {t : Taken} {r : ReqData}
    {x : OpenTxn} (h : d0.admitted op rq (rspMax 0) = some (t, d, r)) (hx : d.txn.txn = some x)
    (hc : check d r.data = stOk) (hn : x.staged.length < 16384)
    (hs : (x.staged.map (fun c => c.data.length)).sum + r.data.length ≤ 2097152) :
    d0.serveStaged op rq check = (d.withStaged x op r.data).finish t r rq.ch x.staged.length [] := by
  refine Dev.serve_done h ?_
  have h1 : ¬ (16384 ≤ x.staged.length ∨ 2097152 < (x.staged.map (fun c => c.data.length)).sum + r.data.length) := by omega
  simp only [hc, beq_self_eq_true, if_true, Dev.stage, hx]
  rw [if_neg h1]; rfl

end Sys2Proof.Machine
end

