-- ==== Sys2Proof/Laws/Tab.lean ====
section
/-! SUPPORT. Sparse tables and addressed RAMs: what a read gives after a write, and that every operation keeps the canonical form. -/

namespace Sys2Proof.Machine

open Sys2Proof

variable {α : Type}

/-! ## Reads after writes -/

@[simp] theorem tabFind_put_same (t : Tab α) (i : Nat) (v : α) : tabFind (tabPut t i v) i = some v := by
  induction t with
  | nil => simp [tabPut, tabFind]
  | cons p t ih =>
    obtain ⟨k, w⟩ := p
    unfold tabPut
    split
    · simp [tabFind]
    · split
      · simp [tabFind]
      · simp [tabFind, *]

theorem tabFind_put_other (t : Tab α) (i j : Nat) (v : α) (h : j ≠ i) : tabFind (tabPut t i v) j = tabFind t j := by
  induction t with
  | nil => simp [tabPut, tabFind, Ne.symm h]
  | cons p t ih =>
    obtain ⟨k, w⟩ := p
    unfold tabPut
    split
    · simp [tabFind, Ne.symm h]
    · split
      · subst_vars; simp [tabFind, Ne.symm h]
      · simp [tabFind, ih]

theorem tabGet_put_same (z : α) (t : Tab α) (i : Nat) (v : α) : tabGet z (tabPut t i v) i = v := by simp [tabGet]

theorem tabGet_put_other (z : α) (t : Tab α) (i j : Nat) (v : α) (h : j ≠ i) : tabGet z (tabPut t i v) j = tabGet z t j := by
  simp [tabGet, tabFind_put_other t i j v h]

theorem tabFind_del_same (t : Tab α) (i : Nat) : tabFind (tabDel t i) i = none := by
  induction t with
  | nil => rfl
  | cons p t ih =>
    obtain ⟨k, w⟩ := p
    by_cases hk : k = i
    · simpa [tabDel, hk] using ih
    · have : tabDel ((k, w) :: t) i = (k, w) :: tabDel t i := by simp [tabDel, hk]
      rw [this]
      simp [tabFind, hk, ih]

theorem tabFind_del_other (t : Tab α) (i j : Nat) (h : j ≠ i) : tabFind (tabDel t i) j = tabFind t j := by
  induction t with
  | nil => rfl
  | cons p t ih =>
    obtain ⟨k, w⟩ := p
    by_cases hk : k = i
    · subst hk
      have : tabDel ((k, w) :: t) k = tabDel t k := by simp [tabDel]
      rw [this, ih]
      simp [tabFind, Ne.symm h]
    · have : tabDel ((k, w) :: t) i = (k, w) :: tabDel t i := by simp [tabDel, hk]
      rw [this]
      simp [tabFind, ih]

/-- A byte written is read back. -/
theorem memRead_write_same (m : Memory) (a : Nat) (b : Byte) : memRead (memWrite m a b) a = b := by
  unfold memRead memWrite
  split
  · rename_i h
    simp [tabGet, tabFind_del_same, h]
  · exact tabGet_put_same 0 m a b

/-- A write leaves every other byte alone. -/
theorem memRead_write_other (m : Memory) (a x : Nat) (b : Byte) (h : x ≠ a) : memRead (memWrite m a b) x = memRead m x := by
  unfold memRead memWrite
  split
  · simp [tabGet, tabFind_del_other m a x h]
  · exact tabGet_put_other 0 m a x b h

/-- What a byte string written from an address leaves at every address. -/
theorem memRead_writeN (bs : Bytes) : ∀ (m : Memory) (a x : Nat),
    memRead (memWriteN m a bs) x = if a ≤ x ∧ x < a + bs.length then bs.getD (x - a) 0 else memRead m x := by
  induction bs with
  | nil =>
    intro m a x
    have : ¬ (a ≤ x ∧ x < a + ([] : Bytes).length) := by simp
    rw [if_neg this]; rfl
  | cons b bs ih =>
    intro m a x
    rw [memWriteN, ih]
    simp only [List.length_cons]
    by_cases hx : x = a
    · subst hx
      have h1 : ¬ (x + 1 ≤ x ∧ x < x + 1 + bs.length) := by omega
      have h2 : x ≤ x ∧ x < x + (bs.length + 1) := by omega
      rw [if_neg h1, if_pos h2, memRead_write_same]
      simp
    · by_cases h1 : a + 1 ≤ x ∧ x < a + 1 + bs.length
      · have h2 : a ≤ x ∧ x < a + (bs.length + 1) := by omega
        rw [if_pos h1, if_pos h2]
        have : x - a = (x - (a + 1)) + 1 := by omega
        rw [this]; simp
      · have h2 : ¬ (a ≤ x ∧ x < a + (bs.length + 1)) := by omega
        rw [if_neg h1, if_neg h2, memRead_write_other m a x b hx]

/-! ## The canonical form -/

/-- The canonical form is that the indices rise pairwise. -/
theorem tabSorted_iff (t : Tab α) : tabSorted t = true ↔ t.Pairwise (fun p q => p.1 < q.1) := by
  induction t with
  | nil => simp [tabSorted]
  | cons p t ih =>
    cases t with
    | nil => simp [tabSorted]
    | cons q t =>
      obtain ⟨i, v⟩ := p
      obtain ⟨j, w⟩ := q
      rw [List.pairwise_cons, ← ih]
      simp only [tabSorted, Bool.and_eq_true, decide_eq_true_eq]
      constructor
      · rintro ⟨h1, h2⟩
        refine ⟨?_, h2⟩
        intro x hx
        rcases List.mem_cons.mp hx with rfl | hx
        · exact h1
        · have := List.pairwise_cons.mp (ih.mp h2)
          exact lt_trans h1 (this.1 x hx)
      · rintro ⟨h1, h2⟩
        exact ⟨h1 _ (List.mem_cons_self ..), h2⟩

theorem mem_tabPut {t : Tab α} {i : Nat} {v : α} {x : Nat × α} (h : x ∈ tabPut t i v) : x = (i, v) ∨ x ∈ t := by
  induction t with
  | nil => simpa [tabPut] using h
  | cons p t ih =>
    obtain ⟨k, w⟩ := p
    unfold tabPut at h
    split at h
    · rcases List.mem_cons.mp h with rfl | h
      · exact .inl rfl
      · exact .inr h
    · split at h
      · rcases List.mem_cons.mp h with rfl | h
        · exact .inl rfl
        · exact .inr (List.mem_cons_of_mem _ h)
      · rcases List.mem_cons.mp h with rfl | h
        · exact .inr (List.mem_cons_self ..)
        · rcases ih h with h | h
          · exact .inl h
          · exact .inr (List.mem_cons_of_mem _ h)

/-- Putting an entry keeps the indices rising. -/
theorem tabSorted_put (t : Tab α) (i : Nat) (v : α) (h : tabSorted t = true) : tabSorted (tabPut t i v) = true := by
  rw [tabSorted_iff] at h ⊢
  induction t with
  | nil => simp [tabPut]
  | cons p t ih =>
    obtain ⟨k, w⟩ := p
    rw [List.pairwise_cons] at h
    unfold tabPut
    split
    · rename_i hlt
      refine List.pairwise_cons.mpr ⟨?_, List.pairwise_cons.mpr h⟩
      intro x hx
      rcases List.mem_cons.mp hx with rfl | hx
      · exact hlt
      · exact lt_trans hlt (h.1 x hx)
    · split
      · subst_vars
        exact List.pairwise_cons.mpr h
      · rename_i h1 h2
        refine List.pairwise_cons.mpr ⟨?_, ih h.2⟩
        intro x hx
        rcases mem_tabPut hx with rfl | hx
        · show k < i; omega
        · exact h.1 x hx

/-- Removing an entry keeps the indices rising. -/
theorem tabSorted_del (t : Tab α) (i : Nat) (h : tabSorted t = true) : tabSorted (tabDel t i) = true := by
  rw [tabSorted_iff] at h ⊢
  exact h.filter _

theorem tabSorted_mod (z : α) (t : Tab α) (i : Nat) (f : α → α) (h : tabSorted t = true) : tabSorted (tabMod z t i f) = true :=
  tabSorted_put t i _ h

/-- Writing one byte keeps a RAM's canonical form. -/
theorem Memory.wf_write (m : Memory) (a : Nat) (b : Byte) (h : Memory.wf m = true) : Memory.wf (memWrite m a b) = true := by
  unfold Memory.wf at h ⊢
  rw [Bool.and_eq_true, List.all_eq_true] at h ⊢
  unfold memWrite
  split
  · refine ⟨tabSorted_del m a h.1, ?_⟩
    intro x hx
    exact h.2 x (List.mem_of_mem_filter hx)
  · rename_i hb
    refine ⟨tabSorted_put m a b h.1, ?_⟩
    intro x hx
    rcases mem_tabPut hx with rfl | hx
    · simpa using hb
    · exact h.2 x hx

/-- Writing a byte string keeps a RAM's canonical form. -/
theorem Memory.wf_writeN (bs : Bytes) : ∀ (m : Memory) (a : Nat), Memory.wf m = true → Memory.wf (memWriteN m a bs) = true := by
  induction bs with
  | nil => intro m a h; exact h
  | cons b bs ih => intro m a h; exact ih _ _ (Memory.wf_write m a b h)

end Sys2Proof.Machine
end

