-- ==== Sys2Proof/Laws/State.lean ====
section
/-! SUPPORT. What each named update of the block leaves in each unit: one equation per unit and update. -/

namespace Sys2Proof.Machine

open Sys2Proof

@[simp] theorem Dev.emit_host (d : Dev) (o : Output) : (d.emit o).host = d.host := rfl
@[simp] theorem Dev.emit_chans (d : Dev) (o : Output) : (d.emit o).chans = d.chans := rfl
@[simp] theorem Dev.emit_rxRings (d : Dev) (o : Output) : (d.emit o).rxRings = d.rxRings := rfl
@[simp] theorem Dev.emit_txRings (d : Dev) (o : Output) : (d.emit o).txRings = d.txRings := rfl
@[simp] theorem Dev.emit_txn (d : Dev) (o : Output) : (d.emit o).txn = d.txn := rfl
@[simp] theorem Dev.emit_arb (d : Dev) (o : Output) : (d.emit o).arb = d.arb := rfl
@[simp] theorem Dev.emit_claims (d : Dev) (o : Output) : (d.emit o).claims = d.claims := rfl
@[simp] theorem Dev.emit_ports (d : Dev) (o : Output) : (d.emit o).ports = d.ports := rfl
@[simp] theorem Dev.emit_fabric (d : Dev) (o : Output) : (d.emit o).fabric = d.fabric := rfl
@[simp] theorem Dev.emit_lauter (d : Dev) (o : Output) : (d.emit o).lauter = d.lauter := rfl
@[simp] theorem Dev.emit_streams (d : Dev) (o : Output) : (d.emit o).streams = d.streams := rfl
@[simp] theorem Dev.emit_adm (d : Dev) (o : Output) : (d.emit o).adm = d.adm := rfl
@[simp] theorem Dev.emit_cupola (d : Dev) (o : Output) : (d.emit o).cupola = d.cupola := rfl
@[simp] theorem Dev.emit_gateway (d : Dev) (o : Output) : (d.emit o).gateway = d.gateway := rfl
@[simp] theorem Dev.emit_time (d : Dev) (o : Output) : (d.emit o).time = d.time := rfl
@[simp] theorem Dev.emit_cask (d : Dev) (o : Output) : (d.emit o).cask = d.cask := rfl
@[simp] theorem Dev.emit_keep (d : Dev) (o : Output) : (d.emit o).keep = d.keep := rfl
@[simp] theorem Dev.emit_lantern (d : Dev) (o : Output) : (d.emit o).lantern = d.lantern := rfl
@[simp] theorem Dev.emit_safety (d : Dev) (o : Output) : (d.emit o).safety = d.safety := rfl
@[simp] theorem Dev.emit_twin (d : Dev) (o : Output) : (d.emit o).twin = d.twin := rfl
@[simp] theorem Dev.emit_update (d : Dev) (o : Output) : (d.emit o).update = d.update := rfl
@[simp] theorem Dev.emit_boot (d : Dev) (o : Output) : (d.emit o).boot = d.boot := rfl
@[simp] theorem Dev.emit_jtag (d : Dev) (o : Output) : (d.emit o).jtag = d.jtag := rfl
@[simp] theorem Dev.emit_uptime (d : Dev) (o : Output) : (d.emit o).uptime = d.uptime := rfl
@[simp] theorem Dev.emit_freeIx (d : Dev) (o : Output) : (d.emit o).freeIx = d.freeIx := rfl
@[simp] theorem Dev.emit_outs (d : Dev) (o : Output) : (d.emit o).outs = d.outs ++ [o] := rfl

@[simp] theorem Dev.countN_chans (d : Dev) (c : Nat) (i : Nat) (n : Nat) : (d.countN c i n).chans = d.chans := rfl
@[simp] theorem Dev.countN_rxRings (d : Dev) (c : Nat) (i : Nat) (n : Nat) : (d.countN c i n).rxRings = d.rxRings := rfl
@[simp] theorem Dev.countN_txRings (d : Dev) (c : Nat) (i : Nat) (n : Nat) : (d.countN c i n).txRings = d.txRings := rfl
@[simp] theorem Dev.countN_txn (d : Dev) (c : Nat) (i : Nat) (n : Nat) : (d.countN c i n).txn = d.txn := rfl
@[simp] theorem Dev.countN_arb (d : Dev) (c : Nat) (i : Nat) (n : Nat) : (d.countN c i n).arb = d.arb := rfl
@[simp] theorem Dev.countN_claims (d : Dev) (c : Nat) (i : Nat) (n : Nat) : (d.countN c i n).claims = d.claims := rfl
@[simp] theorem Dev.countN_ports (d : Dev) (c : Nat) (i : Nat) (n : Nat) : (d.countN c i n).ports = d.ports := rfl
@[simp] theorem Dev.countN_fabric (d : Dev) (c : Nat) (i : Nat) (n : Nat) : (d.countN c i n).fabric = d.fabric := rfl
@[simp] theorem Dev.countN_lauter (d : Dev) (c : Nat) (i : Nat) (n : Nat) : (d.countN c i n).lauter = d.lauter := rfl
@[simp] theorem Dev.countN_streams (d : Dev) (c : Nat) (i : Nat) (n : Nat) : (d.countN c i n).streams = d.streams := rfl
@[simp] theorem Dev.countN_adm (d : Dev) (c : Nat) (i : Nat) (n : Nat) : (d.countN c i n).adm = d.adm := rfl
@[simp] theorem Dev.countN_cupola (d : Dev) (c : Nat) (i : Nat) (n : Nat) : (d.countN c i n).cupola = d.cupola := rfl
@[simp] theorem Dev.countN_gateway (d : Dev) (c : Nat) (i : Nat) (n : Nat) : (d.countN c i n).gateway = d.gateway := rfl
@[simp] theorem Dev.countN_time (d : Dev) (c : Nat) (i : Nat) (n : Nat) : (d.countN c i n).time = d.time := rfl
@[simp] theorem Dev.countN_cask (d : Dev) (c : Nat) (i : Nat) (n : Nat) : (d.countN c i n).cask = d.cask := rfl
@[simp] theorem Dev.countN_keep (d : Dev) (c : Nat) (i : Nat) (n : Nat) : (d.countN c i n).keep = d.keep := rfl
@[simp] theorem Dev.countN_lantern (d : Dev) (c : Nat) (i : Nat) (n : Nat) : (d.countN c i n).lantern = d.lantern := rfl
@[simp] theorem Dev.countN_safety (d : Dev) (c : Nat) (i : Nat) (n : Nat) : (d.countN c i n).safety = d.safety := rfl
@[simp] theorem Dev.countN_twin (d : Dev) (c : Nat) (i : Nat) (n : Nat) : (d.countN c i n).twin = d.twin := rfl
@[simp] theorem Dev.countN_update (d : Dev) (c : Nat) (i : Nat) (n : Nat) : (d.countN c i n).update = d.update := rfl
@[simp] theorem Dev.countN_boot (d : Dev) (c : Nat) (i : Nat) (n : Nat) : (d.countN c i n).boot = d.boot := rfl
@[simp] theorem Dev.countN_jtag (d : Dev) (c : Nat) (i : Nat) (n : Nat) : (d.countN c i n).jtag = d.jtag := rfl
@[simp] theorem Dev.countN_uptime (d : Dev) (c : Nat) (i : Nat) (n : Nat) : (d.countN c i n).uptime = d.uptime := rfl
@[simp] theorem Dev.countN_freeIx (d : Dev) (c : Nat) (i : Nat) (n : Nat) : (d.countN c i n).freeIx = d.freeIx := rfl
@[simp] theorem Dev.countN_outs (d : Dev) (c : Nat) (i : Nat) (n : Nat) : (d.countN c i n).outs = d.outs := rfl

@[simp] theorem Dev.count_chans (d : Dev) (c : Nat) (i : Nat) : (d.count c i).chans = d.chans := rfl
@[simp] theorem Dev.count_rxRings (d : Dev) (c : Nat) (i : Nat) : (d.count c i).rxRings = d.rxRings := rfl
@[simp] theorem Dev.count_txRings (d : Dev) (c : Nat) (i : Nat) : (d.count c i).txRings = d.txRings := rfl
@[simp] theorem Dev.count_txn (d : Dev) (c : Nat) (i : Nat) : (d.count c i).txn = d.txn := rfl
@[simp] theorem Dev.count_arb (d : Dev) (c : Nat) (i : Nat) : (d.count c i).arb = d.arb := rfl
@[simp] theorem Dev.count_claims (d : Dev) (c : Nat) (i : Nat) : (d.count c i).claims = d.claims := rfl
@[simp] theorem Dev.count_ports (d : Dev) (c : Nat) (i : Nat) : (d.count c i).ports = d.ports := rfl
@[simp] theorem Dev.count_fabric (d : Dev) (c : Nat) (i : Nat) : (d.count c i).fabric = d.fabric := rfl
@[simp] theorem Dev.count_lauter (d : Dev) (c : Nat) (i : Nat) : (d.count c i).lauter = d.lauter := rfl
@[simp] theorem Dev.count_streams (d : Dev) (c : Nat) (i : Nat) : (d.count c i).streams = d.streams := rfl
@[simp] theorem Dev.count_adm (d : Dev) (c : Nat) (i : Nat) : (d.count c i).adm = d.adm := rfl
@[simp] theorem Dev.count_cupola (d : Dev) (c : Nat) (i : Nat) : (d.count c i).cupola = d.cupola := rfl
@[simp] theorem Dev.count_gateway (d : Dev) (c : Nat) (i : Nat) : (d.count c i).gateway = d.gateway := rfl
@[simp] theorem Dev.count_time (d : Dev) (c : Nat) (i : Nat) : (d.count c i).time = d.time := rfl
@[simp] theorem Dev.count_cask (d : Dev) (c : Nat) (i : Nat) : (d.count c i).cask = d.cask := rfl
@[simp] theorem Dev.count_keep (d : Dev) (c : Nat) (i : Nat) : (d.count c i).keep = d.keep := rfl
@[simp] theorem Dev.count_lantern (d : Dev) (c : Nat) (i : Nat) : (d.count c i).lantern = d.lantern := rfl
@[simp] theorem Dev.count_safety (d : Dev) (c : Nat) (i : Nat) : (d.count c i).safety = d.safety := rfl
@[simp] theorem Dev.count_twin (d : Dev) (c : Nat) (i : Nat) : (d.count c i).twin = d.twin := rfl
@[simp] theorem Dev.count_update (d : Dev) (c : Nat) (i : Nat) : (d.count c i).update = d.update := rfl
@[simp] theorem Dev.count_boot (d : Dev) (c : Nat) (i : Nat) : (d.count c i).boot = d.boot := rfl
@[simp] theorem Dev.count_jtag (d : Dev) (c : Nat) (i : Nat) : (d.count c i).jtag = d.jtag := rfl
@[simp] theorem Dev.count_uptime (d : Dev) (c : Nat) (i : Nat) : (d.count c i).uptime = d.uptime := rfl
@[simp] theorem Dev.count_freeIx (d : Dev) (c : Nat) (i : Nat) : (d.count c i).freeIx = d.freeIx := rfl
@[simp] theorem Dev.count_outs (d : Dev) (c : Nat) (i : Nat) : (d.count c i).outs = d.outs := rfl

@[simp] theorem Dev.setStage_host (d : Dev) (st : Stage) : (d.setStage st).host = { d.host with stage := st } := rfl
@[simp] theorem Dev.setStage_chans (d : Dev) (st : Stage) : (d.setStage st).chans = d.chans := rfl
@[simp] theorem Dev.setStage_rxRings (d : Dev) (st : Stage) : (d.setStage st).rxRings = d.rxRings := rfl
@[simp] theorem Dev.setStage_txRings (d : Dev) (st : Stage) : (d.setStage st).txRings = d.txRings := rfl
@[simp] theorem Dev.setStage_txn (d : Dev) (st : Stage) : (d.setStage st).txn = d.txn := rfl
@[simp] theorem Dev.setStage_arb (d : Dev) (st : Stage) : (d.setStage st).arb = d.arb := rfl
@[simp] theorem Dev.setStage_claims (d : Dev) (st : Stage) : (d.setStage st).claims = d.claims := rfl
@[simp] theorem Dev.setStage_ports (d : Dev) (st : Stage) : (d.setStage st).ports = d.ports := rfl
@[simp] theorem Dev.setStage_fabric (d : Dev) (st : Stage) : (d.setStage st).fabric = d.fabric := rfl
@[simp] theorem Dev.setStage_lauter (d : Dev) (st : Stage) : (d.setStage st).lauter = d.lauter := rfl
@[simp] theorem Dev.setStage_streams (d : Dev) (st : Stage) : (d.setStage st).streams = d.streams := rfl
@[simp] theorem Dev.setStage_adm (d : Dev) (st : Stage) : (d.setStage st).adm = d.adm := rfl
@[simp] theorem Dev.setStage_cupola (d : Dev) (st : Stage) : (d.setStage st).cupola = d.cupola := rfl
@[simp] theorem Dev.setStage_gateway (d : Dev) (st : Stage) : (d.setStage st).gateway = d.gateway := rfl
@[simp] theorem Dev.setStage_time (d : Dev) (st : Stage) : (d.setStage st).time = d.time := rfl
@[simp] theorem Dev.setStage_cask (d : Dev) (st : Stage) : (d.setStage st).cask = d.cask := rfl
@[simp] theorem Dev.setStage_keep (d : Dev) (st : Stage) : (d.setStage st).keep = d.keep := rfl
@[simp] theorem Dev.setStage_lantern (d : Dev) (st : Stage) : (d.setStage st).lantern = d.lantern := rfl
@[simp] theorem Dev.setStage_safety (d : Dev) (st : Stage) : (d.setStage st).safety = d.safety := rfl
@[simp] theorem Dev.setStage_twin (d : Dev) (st : Stage) : (d.setStage st).twin = d.twin := rfl
@[simp] theorem Dev.setStage_update (d : Dev) (st : Stage) : (d.setStage st).update = d.update := rfl
@[simp] theorem Dev.setStage_boot (d : Dev) (st : Stage) : (d.setStage st).boot = d.boot := rfl
@[simp] theorem Dev.setStage_jtag (d : Dev) (st : Stage) : (d.setStage st).jtag = d.jtag := rfl
@[simp] theorem Dev.setStage_uptime (d : Dev) (st : Stage) : (d.setStage st).uptime = d.uptime := rfl
@[simp] theorem Dev.setStage_freeIx (d : Dev) (st : Stage) : (d.setStage st).freeIx = d.freeIx := rfl
@[simp] theorem Dev.setStage_outs (d : Dev) (st : Stage) : (d.setStage st).outs = d.outs := rfl

@[simp] theorem Dev.modChan_host (d : Dev) (ch : Nat) (f : Chan → Chan) : (d.modChan ch f).host = d.host := rfl
@[simp] theorem Dev.modChan_chans (d : Dev) (ch : Nat) (f : Chan → Chan) : (d.modChan ch f).chans = tabMod chan0 d.chans ch f := rfl
@[simp] theorem Dev.modChan_rxRings (d : Dev) (ch : Nat) (f : Chan → Chan) : (d.modChan ch f).rxRings = d.rxRings := rfl
@[simp] theorem Dev.modChan_txRings (d : Dev) (ch : Nat) (f : Chan → Chan) : (d.modChan ch f).txRings = d.txRings := rfl
@[simp] theorem Dev.modChan_txn (d : Dev) (ch : Nat) (f : Chan → Chan) : (d.modChan ch f).txn = d.txn := rfl
@[simp] theorem Dev.modChan_arb (d : Dev) (ch : Nat) (f : Chan → Chan) : (d.modChan ch f).arb = d.arb := rfl
@[simp] theorem Dev.modChan_claims (d : Dev) (ch : Nat) (f : Chan → Chan) : (d.modChan ch f).claims = d.claims := rfl
@[simp] theorem Dev.modChan_ports (d : Dev) (ch : Nat) (f : Chan → Chan) : (d.modChan ch f).ports = d.ports := rfl
@[simp] theorem Dev.modChan_fabric (d : Dev) (ch : Nat) (f : Chan → Chan) : (d.modChan ch f).fabric = d.fabric := rfl
@[simp] theorem Dev.modChan_lauter (d : Dev) (ch : Nat) (f : Chan → Chan) : (d.modChan ch f).lauter = d.lauter := rfl
@[simp] theorem Dev.modChan_streams (d : Dev) (ch : Nat) (f : Chan → Chan) : (d.modChan ch f).streams = d.streams := rfl
@[simp] theorem Dev.modChan_adm (d : Dev) (ch : Nat) (f : Chan → Chan) : (d.modChan ch f).adm = d.adm := rfl
@[simp] theorem Dev.modChan_cupola (d : Dev) (ch : Nat) (f : Chan → Chan) : (d.modChan ch f).cupola = d.cupola := rfl
@[simp] theorem Dev.modChan_gateway (d : Dev) (ch : Nat) (f : Chan → Chan) : (d.modChan ch f).gateway = d.gateway := rfl
@[simp] theorem Dev.modChan_time (d : Dev) (ch : Nat) (f : Chan → Chan) : (d.modChan ch f).time = d.time := rfl
@[simp] theorem Dev.modChan_cask (d : Dev) (ch : Nat) (f : Chan → Chan) : (d.modChan ch f).cask = d.cask := rfl
@[simp] theorem Dev.modChan_keep (d : Dev) (ch : Nat) (f : Chan → Chan) : (d.modChan ch f).keep = d.keep := rfl
@[simp] theorem Dev.modChan_lantern (d : Dev) (ch : Nat) (f : Chan → Chan) : (d.modChan ch f).lantern = d.lantern := rfl
@[simp] theorem Dev.modChan_safety (d : Dev) (ch : Nat) (f : Chan → Chan) : (d.modChan ch f).safety = d.safety := rfl
@[simp] theorem Dev.modChan_twin (d : Dev) (ch : Nat) (f : Chan → Chan) : (d.modChan ch f).twin = d.twin := rfl
@[simp] theorem Dev.modChan_update (d : Dev) (ch : Nat) (f : Chan → Chan) : (d.modChan ch f).update = d.update := rfl
@[simp] theorem Dev.modChan_boot (d : Dev) (ch : Nat) (f : Chan → Chan) : (d.modChan ch f).boot = d.boot := rfl
@[simp] theorem Dev.modChan_jtag (d : Dev) (ch : Nat) (f : Chan → Chan) : (d.modChan ch f).jtag = d.jtag := rfl
@[simp] theorem Dev.modChan_uptime (d : Dev) (ch : Nat) (f : Chan → Chan) : (d.modChan ch f).uptime = d.uptime := rfl
@[simp] theorem Dev.modChan_freeIx (d : Dev) (ch : Nat) (f : Chan → Chan) : (d.modChan ch f).freeIx = d.freeIx := rfl
@[simp] theorem Dev.modChan_outs (d : Dev) (ch : Nat) (f : Chan → Chan) : (d.modChan ch f).outs = d.outs := rfl

@[simp] theorem Dev.modPort_host (d : Dev) (p : Nat) (f : Port → Port) : (d.modPort p f).host = d.host := rfl
@[simp] theorem Dev.modPort_chans (d : Dev) (p : Nat) (f : Port → Port) : (d.modPort p f).chans = d.chans := rfl
@[simp] theorem Dev.modPort_rxRings (d : Dev) (p : Nat) (f : Port → Port) : (d.modPort p f).rxRings = d.rxRings := rfl
@[simp] theorem Dev.modPort_txRings (d : Dev) (p : Nat) (f : Port → Port) : (d.modPort p f).txRings = d.txRings := rfl
@[simp] theorem Dev.modPort_txn (d : Dev) (p : Nat) (f : Port → Port) : (d.modPort p f).txn = d.txn := rfl
@[simp] theorem Dev.modPort_arb (d : Dev) (p : Nat) (f : Port → Port) : (d.modPort p f).arb = d.arb := rfl
@[simp] theorem Dev.modPort_claims (d : Dev) (p : Nat) (f : Port → Port) : (d.modPort p f).claims = d.claims := rfl
@[simp] theorem Dev.modPort_ports (d : Dev) (p : Nat) (f : Port → Port) : (d.modPort p f).ports = tabMod (port0 p) d.ports p f := rfl
@[simp] theorem Dev.modPort_fabric (d : Dev) (p : Nat) (f : Port → Port) : (d.modPort p f).fabric = d.fabric := rfl
@[simp] theorem Dev.modPort_lauter (d : Dev) (p : Nat) (f : Port → Port) : (d.modPort p f).lauter = d.lauter := rfl
@[simp] theorem Dev.modPort_streams (d : Dev) (p : Nat) (f : Port → Port) : (d.modPort p f).streams = d.streams := rfl
@[simp] theorem Dev.modPort_adm (d : Dev) (p : Nat) (f : Port → Port) : (d.modPort p f).adm = d.adm := rfl
@[simp] theorem Dev.modPort_cupola (d : Dev) (p : Nat) (f : Port → Port) : (d.modPort p f).cupola = d.cupola := rfl
@[simp] theorem Dev.modPort_gateway (d : Dev) (p : Nat) (f : Port → Port) : (d.modPort p f).gateway = d.gateway := rfl
@[simp] theorem Dev.modPort_time (d : Dev) (p : Nat) (f : Port → Port) : (d.modPort p f).time = d.time := rfl
@[simp] theorem Dev.modPort_cask (d : Dev) (p : Nat) (f : Port → Port) : (d.modPort p f).cask = d.cask := rfl
@[simp] theorem Dev.modPort_keep (d : Dev) (p : Nat) (f : Port → Port) : (d.modPort p f).keep = d.keep := rfl
@[simp] theorem Dev.modPort_lantern (d : Dev) (p : Nat) (f : Port → Port) : (d.modPort p f).lantern = d.lantern := rfl
@[simp] theorem Dev.modPort_safety (d : Dev) (p : Nat) (f : Port → Port) : (d.modPort p f).safety = d.safety := rfl
@[simp] theorem Dev.modPort_twin (d : Dev) (p : Nat) (f : Port → Port) : (d.modPort p f).twin = d.twin := rfl
@[simp] theorem Dev.modPort_update (d : Dev) (p : Nat) (f : Port → Port) : (d.modPort p f).update = d.update := rfl
@[simp] theorem Dev.modPort_boot (d : Dev) (p : Nat) (f : Port → Port) : (d.modPort p f).boot = d.boot := rfl
@[simp] theorem Dev.modPort_jtag (d : Dev) (p : Nat) (f : Port → Port) : (d.modPort p f).jtag = d.jtag := rfl
@[simp] theorem Dev.modPort_uptime (d : Dev) (p : Nat) (f : Port → Port) : (d.modPort p f).uptime = d.uptime := rfl
@[simp] theorem Dev.modPort_freeIx (d : Dev) (p : Nat) (f : Port → Port) : (d.modPort p f).freeIx = d.freeIx := rfl
@[simp] theorem Dev.modPort_outs (d : Dev) (p : Nat) (f : Port → Port) : (d.modPort p f).outs = d.outs := rfl

@[simp] theorem Dev.modTwin_host (d : Dev) (f : Twin → Twin) : (d.modTwin f).host = d.host := rfl
@[simp] theorem Dev.modTwin_chans (d : Dev) (f : Twin → Twin) : (d.modTwin f).chans = d.chans := rfl
@[simp] theorem Dev.modTwin_rxRings (d : Dev) (f : Twin → Twin) : (d.modTwin f).rxRings = d.rxRings := rfl
@[simp] theorem Dev.modTwin_txRings (d : Dev) (f : Twin → Twin) : (d.modTwin f).txRings = d.txRings := rfl
@[simp] theorem Dev.modTwin_txn (d : Dev) (f : Twin → Twin) : (d.modTwin f).txn = d.txn := rfl
@[simp] theorem Dev.modTwin_arb (d : Dev) (f : Twin → Twin) : (d.modTwin f).arb = d.arb := rfl
@[simp] theorem Dev.modTwin_claims (d : Dev) (f : Twin → Twin) : (d.modTwin f).claims = d.claims := rfl
@[simp] theorem Dev.modTwin_ports (d : Dev) (f : Twin → Twin) : (d.modTwin f).ports = d.ports := rfl
@[simp] theorem Dev.modTwin_fabric (d : Dev) (f : Twin → Twin) : (d.modTwin f).fabric = d.fabric := rfl
@[simp] theorem Dev.modTwin_lauter (d : Dev) (f : Twin → Twin) : (d.modTwin f).lauter = d.lauter := rfl
@[simp] theorem Dev.modTwin_streams (d : Dev) (f : Twin → Twin) : (d.modTwin f).streams = d.streams := rfl
@[simp] theorem Dev.modTwin_adm (d : Dev) (f : Twin → Twin) : (d.modTwin f).adm = d.adm := rfl
@[simp] theorem Dev.modTwin_cupola (d : Dev) (f : Twin → Twin) : (d.modTwin f).cupola = d.cupola := rfl
@[simp] theorem Dev.modTwin_gateway (d : Dev) (f : Twin → Twin) : (d.modTwin f).gateway = d.gateway := rfl
@[simp] theorem Dev.modTwin_time (d : Dev) (f : Twin → Twin) : (d.modTwin f).time = d.time := rfl
@[simp] theorem Dev.modTwin_cask (d : Dev) (f : Twin → Twin) : (d.modTwin f).cask = d.cask := rfl
@[simp] theorem Dev.modTwin_keep (d : Dev) (f : Twin → Twin) : (d.modTwin f).keep = d.keep := rfl
@[simp] theorem Dev.modTwin_lantern (d : Dev) (f : Twin → Twin) : (d.modTwin f).lantern = d.lantern := rfl
@[simp] theorem Dev.modTwin_safety (d : Dev) (f : Twin → Twin) : (d.modTwin f).safety = d.safety := rfl
@[simp] theorem Dev.modTwin_twin (d : Dev) (f : Twin → Twin) : (d.modTwin f).twin = f d.twin := rfl
@[simp] theorem Dev.modTwin_update (d : Dev) (f : Twin → Twin) : (d.modTwin f).update = d.update := rfl
@[simp] theorem Dev.modTwin_boot (d : Dev) (f : Twin → Twin) : (d.modTwin f).boot = d.boot := rfl
@[simp] theorem Dev.modTwin_jtag (d : Dev) (f : Twin → Twin) : (d.modTwin f).jtag = d.jtag := rfl
@[simp] theorem Dev.modTwin_uptime (d : Dev) (f : Twin → Twin) : (d.modTwin f).uptime = d.uptime := rfl
@[simp] theorem Dev.modTwin_freeIx (d : Dev) (f : Twin → Twin) : (d.modTwin f).freeIx = d.freeIx := rfl
@[simp] theorem Dev.modTwin_outs (d : Dev) (f : Twin → Twin) : (d.modTwin f).outs = d.outs := rfl

@[simp] theorem Dev.mramWrote_host (d : Dev) (n : Nat) : (d.mramWrote n).host = d.host := rfl
@[simp] theorem Dev.mramWrote_chans (d : Dev) (n : Nat) : (d.mramWrote n).chans = d.chans := rfl
@[simp] theorem Dev.mramWrote_rxRings (d : Dev) (n : Nat) : (d.mramWrote n).rxRings = d.rxRings := rfl
@[simp] theorem Dev.mramWrote_txRings (d : Dev) (n : Nat) : (d.mramWrote n).txRings = d.txRings := rfl
@[simp] theorem Dev.mramWrote_txn (d : Dev) (n : Nat) : (d.mramWrote n).txn = d.txn := rfl
@[simp] theorem Dev.mramWrote_arb (d : Dev) (n : Nat) : (d.mramWrote n).arb = d.arb := rfl
@[simp] theorem Dev.mramWrote_claims (d : Dev) (n : Nat) : (d.mramWrote n).claims = d.claims := rfl
@[simp] theorem Dev.mramWrote_ports (d : Dev) (n : Nat) : (d.mramWrote n).ports = d.ports := rfl
@[simp] theorem Dev.mramWrote_fabric (d : Dev) (n : Nat) : (d.mramWrote n).fabric = d.fabric := rfl
@[simp] theorem Dev.mramWrote_lauter (d : Dev) (n : Nat) : (d.mramWrote n).lauter = d.lauter := rfl
@[simp] theorem Dev.mramWrote_streams (d : Dev) (n : Nat) : (d.mramWrote n).streams = d.streams := rfl
@[simp] theorem Dev.mramWrote_adm (d : Dev) (n : Nat) : (d.mramWrote n).adm = d.adm := rfl
@[simp] theorem Dev.mramWrote_cupola (d : Dev) (n : Nat) : (d.mramWrote n).cupola = d.cupola := rfl
@[simp] theorem Dev.mramWrote_gateway (d : Dev) (n : Nat) : (d.mramWrote n).gateway = d.gateway := rfl
@[simp] theorem Dev.mramWrote_time (d : Dev) (n : Nat) : (d.mramWrote n).time = d.time := rfl
@[simp] theorem Dev.mramWrote_cask (d : Dev) (n : Nat) : (d.mramWrote n).cask = d.cask := rfl
@[simp] theorem Dev.mramWrote_keep (d : Dev) (n : Nat) : (d.mramWrote n).keep = d.keep := rfl
@[simp] theorem Dev.mramWrote_lantern (d : Dev) (n : Nat) : (d.mramWrote n).lantern = d.lantern := rfl
@[simp] theorem Dev.mramWrote_safety (d : Dev) (n : Nat) : (d.mramWrote n).safety = d.safety := rfl
@[simp] theorem Dev.mramWrote_twin (d : Dev) (n : Nat) : (d.mramWrote n).twin = d.twin := rfl
@[simp] theorem Dev.mramWrote_update (d : Dev) (n : Nat) : (d.mramWrote n).update = { d.update with mramWrites := (d.update.mramWrites + n) % 2 ^ 64 } := rfl
@[simp] theorem Dev.mramWrote_boot (d : Dev) (n : Nat) : (d.mramWrote n).boot = d.boot := rfl
@[simp] theorem Dev.mramWrote_jtag (d : Dev) (n : Nat) : (d.mramWrote n).jtag = d.jtag := rfl
@[simp] theorem Dev.mramWrote_uptime (d : Dev) (n : Nat) : (d.mramWrote n).uptime = d.uptime := rfl
@[simp] theorem Dev.mramWrote_freeIx (d : Dev) (n : Nat) : (d.mramWrote n).freeIx = d.freeIx := rfl
@[simp] theorem Dev.mramWrote_outs (d : Dev) (n : Nat) : (d.mramWrote n).outs = d.outs := rfl

@[simp] theorem Dev.latchFault_host (d : Dev) (r : FaultRec) : (d.latchFault r).host = d.host := rfl
@[simp] theorem Dev.latchFault_chans (d : Dev) (r : FaultRec) : (d.latchFault r).chans = d.chans := rfl
@[simp] theorem Dev.latchFault_rxRings (d : Dev) (r : FaultRec) : (d.latchFault r).rxRings = d.rxRings := rfl
@[simp] theorem Dev.latchFault_txRings (d : Dev) (r : FaultRec) : (d.latchFault r).txRings = d.txRings := rfl
@[simp] theorem Dev.latchFault_txn (d : Dev) (r : FaultRec) : (d.latchFault r).txn = d.txn := rfl
@[simp] theorem Dev.latchFault_arb (d : Dev) (r : FaultRec) : (d.latchFault r).arb = d.arb := rfl
@[simp] theorem Dev.latchFault_claims (d : Dev) (r : FaultRec) : (d.latchFault r).claims = d.claims := rfl
@[simp] theorem Dev.latchFault_ports (d : Dev) (r : FaultRec) : (d.latchFault r).ports = d.ports := rfl
@[simp] theorem Dev.latchFault_fabric (d : Dev) (r : FaultRec) : (d.latchFault r).fabric = d.fabric := rfl
@[simp] theorem Dev.latchFault_lauter (d : Dev) (r : FaultRec) : (d.latchFault r).lauter = d.lauter := rfl
@[simp] theorem Dev.latchFault_streams (d : Dev) (r : FaultRec) : (d.latchFault r).streams = d.streams := rfl
@[simp] theorem Dev.latchFault_adm (d : Dev) (r : FaultRec) : (d.latchFault r).adm = d.adm := rfl
@[simp] theorem Dev.latchFault_cupola (d : Dev) (r : FaultRec) : (d.latchFault r).cupola = d.cupola := rfl
@[simp] theorem Dev.latchFault_gateway (d : Dev) (r : FaultRec) : (d.latchFault r).gateway = d.gateway := rfl
@[simp] theorem Dev.latchFault_time (d : Dev) (r : FaultRec) : (d.latchFault r).time = d.time := rfl
@[simp] theorem Dev.latchFault_cask (d : Dev) (r : FaultRec) : (d.latchFault r).cask = d.cask := rfl
@[simp] theorem Dev.latchFault_keep (d : Dev) (r : FaultRec) : (d.latchFault r).keep = d.keep := rfl
@[simp] theorem Dev.latchFault_lantern (d : Dev) (r : FaultRec) : (d.latchFault r).lantern = d.lantern := rfl
@[simp] theorem Dev.latchFault_safety (d : Dev) (r : FaultRec) : (d.latchFault r).safety = { d.safety with latched := some r } := rfl
@[simp] theorem Dev.latchFault_twin (d : Dev) (r : FaultRec) : (d.latchFault r).twin = d.twin := rfl
@[simp] theorem Dev.latchFault_update (d : Dev) (r : FaultRec) : (d.latchFault r).update = d.update := rfl
@[simp] theorem Dev.latchFault_boot (d : Dev) (r : FaultRec) : (d.latchFault r).boot = d.boot := rfl
@[simp] theorem Dev.latchFault_jtag (d : Dev) (r : FaultRec) : (d.latchFault r).jtag = d.jtag := rfl
@[simp] theorem Dev.latchFault_uptime (d : Dev) (r : FaultRec) : (d.latchFault r).uptime = d.uptime := rfl
@[simp] theorem Dev.latchFault_freeIx (d : Dev) (r : FaultRec) : (d.latchFault r).freeIx = d.freeIx := rfl
@[simp] theorem Dev.latchFault_outs (d : Dev) (r : FaultRec) : (d.latchFault r).outs = d.outs := rfl

@[simp] theorem Dev.free_host (d : Dev) : (d.free.2).host = d.host := rfl
@[simp] theorem Dev.free_chans (d : Dev) : (d.free.2).chans = d.chans := rfl
@[simp] theorem Dev.free_rxRings (d : Dev) : (d.free.2).rxRings = d.rxRings := rfl
@[simp] theorem Dev.free_txRings (d : Dev) : (d.free.2).txRings = d.txRings := rfl
@[simp] theorem Dev.free_txn (d : Dev) : (d.free.2).txn = d.txn := rfl
@[simp] theorem Dev.free_arb (d : Dev) : (d.free.2).arb = d.arb := rfl
@[simp] theorem Dev.free_claims (d : Dev) : (d.free.2).claims = d.claims := rfl
@[simp] theorem Dev.free_ports (d : Dev) : (d.free.2).ports = d.ports := rfl
@[simp] theorem Dev.free_fabric (d : Dev) : (d.free.2).fabric = d.fabric := rfl
@[simp] theorem Dev.free_lauter (d : Dev) : (d.free.2).lauter = d.lauter := rfl
@[simp] theorem Dev.free_streams (d : Dev) : (d.free.2).streams = d.streams := rfl
@[simp] theorem Dev.free_adm (d : Dev) : (d.free.2).adm = d.adm := rfl
@[simp] theorem Dev.free_cupola (d : Dev) : (d.free.2).cupola = d.cupola := rfl
@[simp] theorem Dev.free_gateway (d : Dev) : (d.free.2).gateway = d.gateway := rfl
@[simp] theorem Dev.free_time (d : Dev) : (d.free.2).time = d.time := rfl
@[simp] theorem Dev.free_cask (d : Dev) : (d.free.2).cask = d.cask := rfl
@[simp] theorem Dev.free_keep (d : Dev) : (d.free.2).keep = d.keep := rfl
@[simp] theorem Dev.free_lantern (d : Dev) : (d.free.2).lantern = d.lantern := rfl
@[simp] theorem Dev.free_safety (d : Dev) : (d.free.2).safety = d.safety := rfl
@[simp] theorem Dev.free_twin (d : Dev) : (d.free.2).twin = d.twin := rfl
@[simp] theorem Dev.free_update (d : Dev) : (d.free.2).update = d.update := rfl
@[simp] theorem Dev.free_boot (d : Dev) : (d.free.2).boot = d.boot := rfl
@[simp] theorem Dev.free_jtag (d : Dev) : (d.free.2).jtag = d.jtag := rfl
@[simp] theorem Dev.free_uptime (d : Dev) : (d.free.2).uptime = d.uptime := rfl
@[simp] theorem Dev.free_freeIx (d : Dev) : (d.free.2).freeIx = d.freeIx + 1 := rfl
@[simp] theorem Dev.free_outs (d : Dev) : (d.free.2).outs = d.outs := rfl

/-- Counting changes the counters alone. -/
theorem Dev.count_eq (d : Dev) (c i : Nat) : d.count c i = { d with host := { d.host with counters := (d.count c i).host.counters } } := rfl

@[simp] theorem Dev.modPort_port (d : Dev) (p : Nat) (f : Port → Port) : (d.modPort p f).port p = f (d.port p) := by
  unfold Dev.port Dev.modPort tabMod
  exact tabGet_put_same (port0 p) d.ports p _

@[simp] theorem Dev.modChan_chan (d : Dev) (ch : Nat) (f : Chan → Chan) : (d.modChan ch f).chan ch = f (d.chan ch) := by
  unfold Dev.chan Dev.modChan tabMod
  exact tabGet_put_same chan0 d.chans ch _

theorem Dev.modChan_chan_other (d : Dev) (ch j : Nat) (f : Chan → Chan) (h : j ≠ ch) : (d.modChan ch f).chan j = d.chan j := by
  unfold Dev.chan Dev.modChan tabMod
  exact tabGet_put_other chan0 d.chans ch j _ h

end Sys2Proof.Machine
end

