-- ==== Sys2Proof/Tests/Slice0.lean ====
section
/-! SUPPORT. Tests of the model. A `test_` theorem shows, of a small block and a command, that the hypotheses of a statement are met
together, and what one step of the command then leaves, as the spec gives it. Where a hypothesis holds a verdict of Config
(a signature, a digest, a code) it is the theorem's own hypothesis. -/

set_option maxRecDepth 100000
set_option exponentiation.threshold 400

namespace Sys2Proof.Tests

open Sys2Proof Sys2Proof.Machine

/-! ## Helpers -/

/-- The block after one command. -/
def after (c : Instr) (d : Dev) : Dev :=
  match exec c { dev := d, pending := [] } with
  | .next s => s.dev
  | _ => d

/-- The block in RUN on PCIe, MB1 enabled. -/
def up : Dev :=
  ({ dev0 with host := { dev0.host with stage := .run, pcieReady := true } } : Dev).modChan 1 (fun c => { c with enable := true })

/-- The same block with the host on SPI. -/
def upSpi : Dev := { up with host := { up.host with spi := true } }

/-- A request on MB1 with inline data. -/
def ask (bs : Bytes) : Req :=
  { ch := 1, length := bs.length, seq := 7, flags := 0, txn := 0, resv := 0, payload := bs, bulkReads := [], bulkWriteFail := none }

/-- A request is admitted and meets a condition on the block, itself and its data. -/
abbrev Met (d : Dev) (op : Nat) (rq : Req) (most : Dev → Bytes → Nat) (good : Dev → Req → Bytes → Prop) : Prop :=
  ∃ x ∈ d.admitted op rq most, good x.2.1 rq x.2.2.data

/-- Status, DETAIL and payload of the latest completed response of MB1. -/
def reply (d : Dev) : Option (Nat × Nat × Bytes) :=
  ((d.chan 1).completed.getLast?).map (fun r => (r.status, r.detail, r.payload))

/-- Status and DETAIL of it, and a number read from its payload. -/
def replyNum (d : Dev) (off n : Nat) : Option (Nat × Nat × Nat) := (reply d).map (fun x => (x.1, x.2.1, le x.2.2 off n))

/-! ## Ill-formed commands -/

theorem test_wf_request : (Instr.sysIdentify (ask [])).wellFormed = true ∧
    (Instr.sysIdentify { ask [] with ch := 8 }).wellFormed = false ∧ (Instr.sysIdentify { ask [] with seq := 65536 }).wellFormed = false ∧
    (Instr.sysIdentify { ask [] with txn := 2 ^ 32 }).wellFormed = false ∧
    (Instr.spiWriteRequest 0 { opcode := 65536, rq := ask [] }).wellFormed = false ∧
    (Instr.mbxReqProdDoorbell 8 0 []).wellFormed = false := by decide

theorem test_wf_register : (Instr.registerWrite { spi := false, write := true, addr := 12, nbits := 24, value := 0 }).wellFormed = false ∧
    (Instr.registerWrite { spi := true, write := false, addr := 12, nbits := 16, value := 1 }).wellFormed = false ∧
    (Instr.registerWrite { spi := false, write := true, addr := 12, nbits := 8, value := 256 }).wellFormed = false ∧
    (Instr.hopperApertureAccess { write := true, pool := 6, off := 0, width := 4, value := 0 }).wellFormed = false ∧
    (Instr.hopperApertureAccess { write := true, pool := 1, off := 0, width := 1, value := 256 }).wellFormed = false ∧
    (Instr.counterLowHalfRead 0 (2 ^ 25)).wellFormed = false ∧ (Instr.hifEvtConsWrite (2 ^ 32)).wellFormed = false := by decide

/-- A received frame of `n` zero bytes. -/
def rx (port n : Nat) : RxFrame :=
  { port := port, bytes := zeros n, fcsOk := true, violations := 0, firstByte := 0, sampled := 0, frags := 0, assyFailed := false,
    smdErr := 0, node := 0, nth := 0 }

/-- A CAN frame without data. -/
def can (id : Nat) : CanFrame := { id := id, ext := false, fd := false, brs := false, esi := false, rtr := false, data := [] }

/-- A boot that finds nothing amiss. -/
def bootOk : BootInfo :=
  { bootSrc := 0, romDigestOk := true, comparatorOk := true, lifecycleReadable := true, lifecycleWord := 0, badBanks := [],
    badBlobs := [], flash := [], vidTrim := 4 }

/-- An ingress timestamp of local time 0. -/
def stamp0 : RxStamp := { began := 0, sampled := 0, point := 0 }

/-- A Sync of grandmaster 7 that arrives at port `port`. -/
def sync7 (port : Nat) : SyncSample :=
  { origin := 0, corr := 0, stamp := stamp0, rate := 0, gmId := 7, stepsRemoved := 1, utcOffset := 37, port := port }

/-- The best master clock algorithm selects the device itself. -/
def selfBest : BmcaResult := { self := true, port := 0, gmId := 0, stepsRemoved := 0 }

theorem test_wf_frames : (Instr.macFrameReceived (rx 50 60)).wellFormed = false ∧
    (Instr.frameClassify (.fifo 9)).wellFormed = false ∧ (Instr.frameClassify (.arriving (rx 50 60))).wellFormed = false ∧
    (Instr.canFrameReceived 0 (can 2048)).wellFormed = false ∧ (Instr.canFrameReceived 32 (can 1)).wellFormed = false ∧
    (Instr.canFrameReceived 0 { can 1 with data := zeros 9 }).wellFormed = false ∧
    (Instr.canBusError 0 { kind := 5, transmitting := false, dominantAfter := false, exempt := false }).wellFormed = false ∧
    (Instr.serialCharReceived 0 { value := 512, parity := false, framing := false, brk := false }).wellFormed = false ∧
    (Instr.p90RingTailWrite true 8 0 []).wellFormed = false ∧
    (Instr.p90RingTailWrite true 0 0 [{ addr := 2 ^ 64, length := 0, control := 0, tag := 0 }]).wellFormed = false := by decide

theorem test_wf_events : (Instr.linkUp 50 { speed := 0, fullDuplex := true }).wellFormed = false ∧
    (Instr.linkUp 0 { speed := 16, fullDuplex := true }).wellFormed = false ∧
    (Instr.serviceArbiterRound [{ requester := 0, beats := 1, lst := 2 ^ 32 }]).wellFormed = false ∧
    (Instr.syncSample 2 (sync7 0)).wellFormed = false ∧ (Instr.syncSample 0 { sync7 0 with gmId := 2 ^ 64 }).wellFormed = false ∧
    (Instr.syncSample 0 (sync7 50)).wellFormed = false ∧ (Instr.syncSample 0 (sync7 90)).wellFormed = true ∧
    (Instr.gptpMessageReceived 0 { domain := 0, kind := 4, stamp := stamp0, t2 := 0, t3 := 0, nrr := 0, bmca := selfBest }).wellFormed = false ∧
    (Instr.announceReceiptTimeout 0 { selfBest with self := false, port := 50 }).wellFormed = false ∧
    (Instr.cipherPageGo 0 16 { dir := 0, slot := 0, nblocks := 1, src := 0, dst := 0, lst := 0 }).wellFormed = false ∧
    (Instr.cipherPageGo 0 0 { dir := 0, slot := 0, nblocks := 4097, src := 0, dst := 0, lst := 0 }).wellFormed = false ∧
    (Instr.bootSequence { bootOk with bootSrc := 4 }).wellFormed = false ∧ (Instr.bootSequence bootOk).wellFormed = true ∧
    (Instr.memoryErrorDetected { memory := 11, corrected := true, word := 0 }).wellFormed = false ∧
    (Instr.tamperAlarm 8 0).wellFormed = false ∧ (Instr.linkDown 0 6).wellFormed = false := by decide

/-! ## Queue and tick -/

theorem test_front_command : step { dev := up, pending := [.spiStatusRead, .matchingSlot] } =
    exec .spiStatusRead { dev := up, pending := [.matchingSlot] } := rfl

theorem test_idle_tick : (up.lantern.power ≠ .dormant ∧ up.lantern.power ≠ .off) ∧ (up.tick.time.clock.ns = 4 ∧ up.tick.uptime = 4) ∧
    (let d : Dev := { up with time := { up.time with clock := { up.time.clock with ns := 999999998 } } }
     d.tick.time.clock.ns = 2 ∧ d.tick.time.clock.sec = 1) ∧
    (let d : Dev := { up with lantern := { up.lantern with power := .dormant } }
     d.tick.time.clock = d.time.clock) := by decide

/-! ## Host attachment -/

theorem test_register_write : up.regsServed false = true ∧
    (after (.registerWrite { spi := false, write := true, addr := 0x0C, nbits := 32, value := 0xDEADBEEF }) up).host.scratch = 0xDEADBEEF ∧
    (after (.registerWrite { spi := false, write := true, addr := 0x14, nbits := 32, value := 0xFFFFFFFF }) up).host.irqEnable = 0x07FFFFFF ∧
    (after (.registerWrite { spi := false, write := true, addr := 0x18, nbits := 32, value := 0x12345FFF }) up).host.evtBaseLo = 0x12345000 ∧
    (after (.registerWrite { spi := false, write := true, addr := 0x1C, nbits := 32, value := 5 }) up).host.evtBaseHi = 5 ∧
    ((after (.registerWrite { spi := false, write := true, addr := 0x104 + 0x40 * 7, nbits := 32, value := 5 }) up).chan 7).reqBase = 5 * 2 ^ 32 ∧
    (after (.registerWrite { spi := false, write := true, addr := 0xE1FC, nbits := 32, value := 5 }) up).host.msixTable = [(0x1FC, 5)] := by
  decide

theorem test_register_write_ignored_or_refused :
    (after (.registerWrite { spi := false, write := true, addr := 0x08, nbits := 32, value := 5 }) up) = up ∧
    (after (.registerWrite { spi := false, write := true, addr := 0xE200, nbits := 32, value := 5 }) up) = up ∧
    (after (.registerWrite { spi := false, write := true, addr := 0x0C, nbits := 16, value := 5 }) up).outs = [.unsupported] ∧
    (after (.registerWrite { spi := false, write := true, addr := 0x0D, nbits := 32, value := 5 }) up).outs = [.unsupported] ∧
    upSpi.regsServed true = true ∧
    (after (.registerWrite { spi := true, write := true, addr := 0x0E, nbits := 32, value := 5 }) upSpi).host.spiMalformed = true ∧
    (after (.registerWrite { spi := true, write := true, addr := 0x0C, nbits := 0, value := 0 }) upSpi).host.spiMalformed = true := by
  decide

theorem test_register_read : up.regsServed false = true ∧
    (after (.registerWrite { spi := false, write := false, addr := 0, nbits := 32, value := 0 }) up).outs = [.readData 0x96630011] ∧
    (after (.registerWrite { spi := false, write := false, addr := 0x300, nbits := 32, value := 0 }) up).outs = [.readData 0] ∧
    (let d : Dev := { up with host := { up.host with scratch := 7, counters := [(counterKey 2 0, 2 ^ 32 + 5)] } }
     d.counter 2 0 < 2 ^ 64 ∧
     (after (.registerWrite { spi := false, write := false, addr := 0x1000000 + 0x40000 * 2, nbits := 64, value := 0 }) d).outs =
       [.readData (2 ^ 32 + 5)] ∧
     (after (.registerWrite { spi := false, write := false, addr := 0x0C, nbits := 32, value := 0 }) d).outs = [.readData 7]) ∧
    (after (.registerWrite { spi := true, write := true, addr := 0x0C, nbits := 32, value := 5 }) upSpi).host.scratch = 5 ∧
    (after (.registerWrite { spi := true, write := false, addr := 0, nbits := 32, value := 0 }) upSpi).outs = [.spi [0x11, 0, 0x63, 0x96]] ∧
    (after (.registerWrite { spi := true, write := false, addr := 0, nbits := 31, value := 0 }) upSpi).host.spiMalformed = true := by
  decide

/-- An unread response. -/
def rsp (op : Nat) : Rsp := { opcode := op, seq := 3, status := 0, detail := 0, payload := [1, 2, 3, 4], origin := none }

theorem test_mailbox_registers : up.regsServed up.host.spi = true ∧
    (let d := after (.mbxReqProdDoorbell 1 2 [{ opcode := 0x0101, rq := ask [] }, { opcode := 0x0102, rq := ask [] }]) up
     (d.chan 1).taken.map (fun t => t.opcode) = [0x0101, 0x0102] ∧ (d.chan 1).reqProd = 2 ∧ (d.chan 1).reqCons = 2) ∧
    ((after (.mbxReqProdDoorbell 7 1 [{ opcode := 0x0101, rq := ask [] }]) up).chan 7).waiting.length = 1 ∧
    (let d := after (.mbxRspConsWrite 1 1) (up.modChan 1 (fun c => { c with posted := [rsp 1, rsp 2], rspProd := 2 }))
     (d.chan 1).posted = [rsp 2] ∧ (d.chan 1).rspCons = 1) ∧
    ((after (.mbxChannelEnable 7 1) up).chan 7).enable = true ∧
    (let d := after (.mbxChanReset 1 0x5A5A) (up.modChan 1 (fun c => { c with posted := [rsp 1], rspProd := 1 }))
     (d.chan 1).posted = [] ∧ (d.chan 1).rspProd = 0 ∧ (d.chan 1).enable = true) ∧ after (.mbxChanReset 1 0x5A5B) up = up := by
  decide

/-- A binding of MB1 to in-band frames. -/
def bind1 : Bytes := [1, 1, 9, 5, 100, 0, 1, 0, 0, 0, 0, 2, 1, 0, 0, 0, 0, 0, 0, 0, 0, 0, 0, 0]

theorem test_channel_rebind : let d := up.modChan 1 (fun c => { c with rebind := some bind1 })
    (d.chan 1).rebind = some bind1 ∧ (d.chan 1).taken = [] ∧ (d.chan 1).running = none ∧ (d.chan 1).completed = [] ∧
    (let c := (after (.channelRebind 1) d).chan 1
     c.inband = true ∧ c.keySlot = 9 ∧ c.tc = 5 ∧ c.vlan = 100 ∧ c.peerMac = 0x020000000001 ∧ c.portMask = 1 ∧ c.rebind = none) ∧
    d.txn.committing = none ∧ d.unpostedCommit = none ∧
    (let e := d.modChan 1 (fun c => { c with completed := [{ opcode := 1, seq := 3, status := 0, detail := 0, payload := [], origin := none }] })
     (e.chan 1).completed ≠ [] ∧ (after (.channelRebind 1) e) = e) := by
  decide

/-- The open transaction 5 of MB1. -/
def txn5 : OpenTxn := { id := 5, owner := 1, idleMs := 60000, deadline := 60000000000, staged := [] }

/-- The block with transaction 5 open. -/
def upTxn : Dev := { up with txn := { up.txn with txn := some txn5, lastId := 5 } }

theorem test_channel_reset_and_transaction : upTxn.txn.txn = some txn5 ∧ txn5.owner = 1 ∧ (upTxn.resetChannel 1 1).txn.txn = none ∧
    (upTxn.resetChannel 1 1).txn.aborted = [5] ∧ (upTxn.resetChannel 2 1).txn.txn = some txn5 := by decide

theorem test_interrupt_status : (up.raise 26).host.irqStatus = 2 ^ 26 ∧
    (after (.hifIrqStatusClear 1 0) { up with host := { up.host with irqStatus := 3 } }).host.irqStatus = 2 ∧
    (after (.hifIrqStatusClear 1 1) { up with host := { up.host with irqStatus := 3 } }).host.irqStatus = 3 ∧
    (({ up with host := { up.host with irqEnable := 1 } } : Dev).raise 0).outs = [.msix 0] ∧ (up.raise 0).outs = [] := by
  decide

theorem test_event_registers : up.host.evtEnable = false ∧ bit 1 0 = true ∧ (after (.evtRingEnable 1) up).host.evtEnable = true ∧
    (after (.hifEvtConsWrite 8193) up).host.evtCons = 1 ∧
    (let d : Dev := { up with host := { up.host with evtEnable := true, evtOverflow := true } }
     (after (.evtOverflowClear 3) d).host.evtOverflow = false ∧ (after (.evtRingEnable (5 * 65536 + 1)) d).host.evtHoldoff = 5) ∧
    (let d : Dev := { up with host := { up.host with evtDeadline := some 8 }, uptime := 9 }
     8 < d.uptime ∧ bit (after .eventHoldoffExpiry d).host.irqStatus 0 = true ∧
     after .eventHoldoffExpiry { d with uptime := 8 } = { d with uptime := 8 }) := by decide

/-- A buffer of pool 1 owned by host DMA (9), two references. -/
def hostBuf : Buf := { owner := 9, refs := 2, holds := [(9, 2)], reserved := false }

/-- The block with that buffer, index 0, of 256 bytes. -/
def upBuf : Dev := up.putPool 1 { pool0 with bufs := [(0, hostBuf)] }

theorem test_counter_read_latches : let d : Dev := { up with host := { up.host with counters := [(counterKey 2 0, 2 ^ 32 + 5)] } }
    let off := 2 * 0x40000
    off % 8 = 0 ∧ (after (.counterLowHalfRead 0 off) d).outs = [.readData 5] ∧
    (after (.counterLowHalfRead 0 (off + 4)) (after (.counterLowHalfRead 0 off) d)).outs = [.readData 5, .readData 1] := by decide

theorem test_aperture : apertureOk up { write := false, pool := 1, off := 0, width := 4, value := 0 } = false ∧
    (after (.hopperApertureAccess { write := false, pool := 1, off := 0, width := 4, value := 0 }) up).outs = [.readData 0] ∧
    (after (.hopperApertureAccess { write := false, pool := 1, off := 0, width := 4, value := 0 }) up).counter 1 6 = 1 ∧
    apertureOk upBuf { write := true, pool := 1, off := 0, width := 4, value := 0x04030201 } = true ∧
    memReadN ((after (.hopperApertureAccess { write := true, pool := 1, off := 0, width := 4, value := 0x04030201 }) upBuf).pool 1).mem 0 4 =
      [1, 2, 3, 4] := by decide

theorem test_function_level_reset : let d := up.modChan 1 (fun c => { c with posted := [rsp 1], rspCons := 3 })
    d.host.spi = false ∧ d.host.pcieReady = true ∧ ((after .functionLevelReset d).chan 1).enable = false ∧
    ((after .functionLevelReset d).chan 1).posted = [] ∧ ((after .functionLevelReset d).chan 1).rspCons = 0 := by decide

theorem test_spi_ports : upSpi.host.spi = true ∧ upSpi.regsServed true = true ∧ upSpi.takesRequests = true ∧
    (upSpi.chan 1).enable = true ∧ (upSpi.chan 1).outstanding < 16 ∧
    ((after (.spiWriteRequest 1 { opcode := 0x0101, rq := ask [] }) upSpi).chan 1).taken.length = 1 ∧
    (let d := upSpi.modChan 1 (fun c => { c with posted := List.replicate 16 (rsp 2) })
     16 ≤ (d.chan 1).outstanding ∧ (after (.spiWriteRequest 1 { opcode := 0x0101, rq := ask [] }) d).host.spiRejected = true ∧
     reply (after (.spiWriteRequest 1 { opcode := 0x0101, rq := ask [] }) d) = some (stBusy, 0, []) ∧
     (after (.spiReadResponse 1) d).outs = [.spi [2, 0, 4, 0, 3, 0, 0, 0, 0, 0, 0, 0, 0, 0, 0, 0, 1, 2, 3, 4]] ∧
     (after .spiStatusRead { d with host := { d.host with spiRejected := true } }).outs = [.spi [2]]) := by decide

/-- A descriptor of 64 bytes. -/
def desc64 : P90Desc := { addr := 4096, length := 64, control := 0, tag := 0 }

/-- The block with an enabled transmit ring of class 3 that holds one descriptor. -/
def upRing : Dev := up.modRing true 3 (fun q => { q with enable := true, descs := [desc64], tail := 1 })

theorem test_p90_transmit : ringsDown.find? (fun r => (upRing.ring true r).enable && !(upRing.ring true r).descs.isEmpty) = some 3 ∧
    (upRing.ring true 3).descs = [desc64] ∧ ((after (.p90TxFrameFetch (some (zeros 64))) upRing).ring true 3).head = 1 ∧
    ((after (.p90TxFrameFetch none) upRing).ring true 3).descs = [] ∧
    (after (.p90TxFrameFetch none) (upRing.modRing true 3 (fun q => { q with descs := [{ desc64 with length := 13 }] }))).counter 1 8 = 1 ∧
    ((after (.p90RingTailWrite false 7 1 [desc64]) up).ring false 7).descs = [desc64] ∧
    ((after (.p90RingEnable false 7 (1 + 9 * 65536)) up).ring false 7).holdoff = 9 ∧
    (let d := upRing.modRing true 3 (fun q => { q with deadline := some 8, unsignalled := 1 })
     (d.ring true 3).deadline = some 8 ∧ (after (.p90HoldoffExpiry true 3) { d with uptime := 9 }).host.irqStatus = 2 ^ 22) := by decide

/-! ## Responses and in-band requests -/

theorem test_response_posted : let d := up.modChan 1 (fun c => { c with completed := [rsp 1, rsp 2] })
    (d.chan 1).completed = [rsp 1, rsp 2] ∧ d.held (rsp 1) = false ∧ (rsp 1).origin = none ∧
    ((after (.mailboxResponsePosted 1) d).chan 1).posted = [rsp 1] ∧ ((after (.mailboxResponsePosted 1) d).chan 1).rspProd = 1 ∧
    (after (.mailboxResponsePosted 1) d).host.irqStatus = 4 ∧
    (after (.mailboxResponsePosted 1) d).outs = [.hostMem 0 [1, 0, 4, 0, 3, 0, 0, 0, 0, 0, 0, 0, 0, 0, 0, 0, 1, 2, 3, 4]] := by decide

/-- Where an in-band request of P0 came from. -/
def origin0 : Origin := { port := 0, vlan := 100, sa := 0x020000000001 }

theorem test_in_band_response_has_an_origin : let d := up.modChan 1 (fun c => { c with completed := [{ rsp 1 with origin := some origin0 }] })
    (d.chan 1).completed = [{ rsp 1 with origin := some origin0 }] ∧ d.held { rsp 1 with origin := some origin0 } = false := by decide

/-- The block with MB1 bound to in-band frames of P0, VLAN 100, peer 02-00-00-00-00-01, a key in slot 9. -/
def upInBand : Dev := up.modChan 1 (fun c => { c with
  inband := true, keySlot := 9, vlan := 100, peerMac := 0x020000000001, portMask := 1 })

/-- A management frame whose DA is six given bytes, on MB1 with a DIR, REPLAY 2^32 and a SYS_IDENTIFY message, with its CMAC. -/
def mgmt (da : Bytes) (version dir : Byte) (mac : Bytes) : Bytes :=
  da ++ [2, 0, 0, 0, 0, 1, 0x81, 0, 0, 100, 0x88, 0xB5, 1, version, 1, dir, 0, 0, 0, 1, 0, 0, 0, 0] ++
    [1, 1, 0, 0, 7, 0, 0, 0, 0, 0, 0, 0, 0, 0, 0, 0] ++ mac

theorem test_management_frame (a b c d e f : Byte) (mac : Bytes) (hm : mac.length = 16) :
    let x := mgmt [a, b, c, d, e, f] 1 0 mac
    let g := gristL2 x
    g.etype = 0x88B5 ∧ byteAt x 18 = 1 ∧ byteAt x 19 = 1 ∧ byteAt x 20 = 1 ∧ byteAt x 21 = 0 ∧ g.vlanCount = 1 ∧ g.outer % 4096 = 100 ∧
    g.sa = 0x020000000001 ∧ g.etypeOff = 16 ∧ g.da = be [a, b, c, d, e, f] 0 6 ∧ be x 22 8 = 2 ^ 32 ∧ le x 32 2 = 0 ∧ 18 + 44 + 0 ≤ x.length ∧
    frameLen x ≤ 1522 ∧ byteAt (mgmt [a, b, c, d, e, f] 1 1 mac) 21 ≠ 0 ∧ (mgmt [a, b, c, d, e, f] 1 0 []).length < 18 + 44 + 0 := by
  simp [mgmt, gristL2, be, le, byteAt, isTpid, hm, frameLen]

theorem test_in_band_channel : upInBand.takesRequests = true ∧ (upInBand.chan 1).inband = true ∧ bit (upInBand.chan 1).portMask 0 = true ∧
    (upInBand.chan 1).vlan = 100 ∧ (upInBand.chan 1).peerMac = 0x020000000001 ∧ (upInBand.chan 1).rxReplay < 2 ^ 32 ∧
    (upInBand.chan 1).outstanding < 16 ∧ 2 ^ 32 ≤ ({ upInBand.chan 1 with rxReplay := 2 ^ 32 } : Chan).rxReplay ∧
    (upInBand.port 0).maxFrame = 1522 ∧ (upInBand.port 0).maxFrame < frameLen (zeros 2000) := by decide

/-! ## System and transaction commands -/

theorem test_identify : Met up 0x0101 (ask []) (rspMax 64) (fun _ _ bs => bs = []) ∧
    replyNum (after (.sysIdentify (ask [])) up) 0 4 = some (0, 0, 0x9663) ∧ replyNum (after (.sysIdentify (ask [])) up) 6 1 = some (0, 0, 6) ∧
    Met up 0x0101 (ask [0]) (rspMax 64) (fun _ _ bs => bs ≠ []) ∧
    reply (after (.sysIdentify (ask [0])) up) = some (stBadLength, 0, []) := by decide

theorem test_version : Met up 0x0102 (ask []) (rspMax 176) (fun _ _ bs => bs = []) ∧
    ((reply (after (.sysVersion (ask [])) up)).map (fun x => x.2.2.length)) = some 176 := by decide

theorem test_reset : let bs := [1, 0, 0, 0] ++ leb 4 0x6C797377
    Met up 0x0103 (ask bs) (rspMax 0) (fun d _ bs => d.txn.committing = none ∧ bs.length = 8 ∧
      layoutOk [fr 0 1 1 2, fr 4 4 0x6C797377 0x6C797377] bs = true) ∧
    (after (.sysReset (ask bs)) up).boot.resetDue = some (100000, 1, 0) ∧
    (let d : Dev := { up with boot := { up.boot with resetDue := some (100000, 1, 0) }, uptime := 100000 }
     100000 ≤ d.uptime ∧ d.resettable = true ∧ (after .sysResetStart d).host.stage = .reset ∧
     after .sysResetStart { d with uptime := 99999 } = { d with uptime := 99999 }) := by decide

/-- A COMMIT of MB2 that waits for the rule banks. -/
def commit2 : Commit := { kind := .txn, id := 4, owner := 2, staged := [], rules := some 0, cupola := false, since := 0, pause := 0 }

/-- The block with that COMMIT being applied. -/
def upCommit : Dev := { up with txn := { up.txn with committing := some commit2 } }

theorem test_reset_and_begin_busy : let bs := [1, 0, 0, 0] ++ leb 4 0x6C797377
    Met upCommit 0x0103 (ask bs) (rspMax 0) (fun d _ bs => d.txn.committing.isSome = true ∧ bs.length = 8 ∧
      layoutOk [fr 0 1 1 2, fr 4 4 0x6C797377 0x6C797377] bs = true) ∧
    reply (after (.sysReset (ask bs)) upCommit) = some (stBusy, 0, []) ∧
    Met upCommit 0x0601 (ask (zeros 4)) (rspMax 4) (fun d _ bs => d.txnHeldBy.isSome = true ∧ bs.length = 4 ∧
      layoutOk [fr 0 2 0 3600] bs = true) ∧
    reply (after (.txnBegin (ask (zeros 4))) upCommit) = some (stBusy, 2, []) ∧
    Met up 0x0601 (ask (zeros 5)) (rspMax 4) (fun _ _ bs => bs.length ≠ 4) ∧
    reply (after (.txnBegin (ask (zeros 5))) up) = some (stBadLength, 0, []) := by decide

theorem test_claims_list : let bs := [0xFF, 0xFF, 0, 0, 0, 0, 0, 0]
    let d : Dev := { up with claims := [{ type := 1, index := 2, amount := 3, owner := 4 }] }
    Met d 0x0104 (ask bs) (rspMax 4008) (fun _ _ bs => bs.length = 8 ∧ layoutOk [fa 0 4] bs = true ∧
      (byteAt bs 0 = 0xFF ∨ (1 ≤ byteAt bs 0 ∧ byteAt bs 0 ≤ 6))) ∧
    ((reply (after (.sysClaimsList (ask bs)) d)).map (fun x => (x.1, x.2.2.length, le x.2.2 0 2))) = some (0, 16, 1) := by decide

theorem test_counters : let d : Dev := { up with host := { up.host with counters := [(counterKey 2 5, 9), (counterKey 2 6, 8)] } }
    Met d 0x0105 (ask [4, 0, 0, 0, 0, 0, 0, 0]) (rspMax 12) (fun _ _ bs => bs.length = 8 ∧ layoutOk [fa 0 2] bs = true ∧
      bit (byteAt bs 0) 0 = false) ∧
    tabGet 0 (after (.sysCounterSnapshot (ask [4, 0, 0, 0, 0, 0, 0, 0])) d).host.snapshot (counterKey 2 5) = 9 ∧
    Met d 0x0105 (ask [1, 0, 0, 0, 0, 0, 0, 0]) (rspMax 12) (fun _ _ bs => bs.length = 8 ∧ bit (byteAt bs 0) 0 = true) ∧
    reply (after (.sysCounterSnapshot (ask [1, 0, 0, 0, 0, 0, 0, 0])) d) = some (stBadParam, 0, []) ∧
    Met d 0x0106 (ask [2, 0, 5, 0, 1, 0, 0, 0]) (rspMax 0) (fun _ _ bs => bs.length = 8 ∧
      layoutOk [fr 0 1 1 15, fr 2 2 0 32767, fr 4 2 1 32768] bs = true ∧ le bs 2 2 + le bs 4 2 ≤ 32768) ∧
    (after (.sysCounterClear (ask [2, 0, 5, 0, 1, 0, 0, 0])) d).host.counters = [(counterKey 2 6, 8)] ∧
    Met d 0x0106 (ask [2, 0, 255, 127, 2, 0, 0, 0]) (rspMax 0) (fun _ _ bs => bs.length = 8 ∧ 32768 < le bs 2 2 + le bs 4 2) ∧
    reply (after (.sysCounterClear (ask [2, 0, 255, 127, 2, 0, 0, 0])) d) = some (stBadParam, 0, []) ∧
    tabSorted d.host.counters = true ∧ tabSorted d.host.snapshot = true := by decide

/-- An event of SEQNUM `n`. -/
def evt (n : Nat) : Evt := { code := 0x0201, seq := n, time := 0, object := 0, data := 0 }

theorem test_event_fetch : let d : Dev := { up with host := { up.host with history := [evt 4, evt 5], evtSeq := 6 } }
    Met d 0x0107 (ask [5, 0, 0, 0, 64, 0, 0, 0]) (rspMax 2056) (fun d _ bs => bs.length = 8 ∧ layoutOk [fa 0 4, fr 4 2 1 64] bs = true ∧
      0 ≤ signed 32 (le bs 0 4 + 2 ^ 32 - d.oldestSeq)) ∧
    ((reply (after (.sysEventFetch (ask [5, 0, 0, 0, 64, 0, 0, 0])) d)).map (fun x => (x.1, x.2.2.length, le x.2.2 0 2, le x.2.2 4 4))) =
      some (0, 40, 1, 4) ∧
    Met d 0x0107 (ask [3, 0, 0, 0, 64, 0, 0, 0]) (rspMax 2056) (fun d _ bs => bs.length = 8 ∧ layoutOk [fa 0 4, fr 4 2 1 64] bs = true ∧
      signed 32 (le bs 0 4 + 2 ^ 32 - d.oldestSeq) < 0) ∧
    reply (after (.sysEventFetch (ask [3, 0, 0, 0, 64, 0, 0, 0])) d) = some (stNotFound, 4, []) := by decide

theorem test_transaction : Met up 0x0601 (ask (zeros 4)) (rspMax 4) (fun d _ bs => d.txnHeldBy = none ∧ bs.length = 4 ∧
      layoutOk [fr 0 2 0 3600] bs = true) ∧
    (after (.txnBegin (ask (zeros 4))) up).txn.txn.map (fun x => (x.id, x.owner, x.idleMs)) = some (1, 1, 60000) ∧
    Met upTxn 0x0603 (ask (leb 4 5)) (rspMax 0) (fun d rq bs => bs.length = 4 ∧ ∃ x ∈ d.txn.txn, x.id = le bs 0 4 ∧ x.owner = rq.ch) ∧
    (after (.txnAbort (ask (leb 4 5))) upTxn).txn.txn = none ∧ (after (.txnAbort (ask (leb 4 5))) upTxn).txn.aborted = [5] ∧
    (let d : Dev := { upTxn with txn := { upTxn.txn with txn := some { txn5 with owner := 2 } } }
     Met d 0x0603 (ask (leb 4 5)) (rspMax 0) (fun d rq bs => bs.length = 4 ∧ ∃ x ∈ d.txn.txn, x.id = le bs 0 4 ∧ x.owner ≠ rq.ch) ∧
     reply (after (.txnAbort (ask (leb 4 5))) d) = some (stNotPermitted, 0, [])) ∧
    Met upTxn 0x0603 (ask (leb 4 6)) (rspMax 0) (fun d _ bs => bs.length = 4 ∧ ∀ x ∈ d.txn.txn, x.id ≠ le bs 0 4) ∧
    reply (after (.txnAbort (ask (leb 4 6))) upTxn) = some (stNotFound, 0, []) ∧
    Met upTxn 0x0604 (ask []) (rspMax 16) (fun _ _ bs => bs = []) ∧ replyNum (after (.txnStatus (ask [])) upTxn) 0 4 = some (0, 0, 5) := by
  decide

/-- PORT_CFG of P0 as power-on sets it. -/
def portCfg0 : Bytes := zeros 4 ++ leb 2 1522 ++ [10, 2, 0x80, 0, 20, 70] ++ leb 2 10 ++ leb 2 64 ++ zeros 16

/-- TXN_COMMIT's data for transaction 5. -/
def commit5 (dry : Nat) : Bytes := leb 4 5 ++ leb 4 dry

theorem test_commit_of_an_empty_transaction : Met upTxn 0x0602 (ask (commit5 0)) (rspMax 4080) (fun d rq bs => bs.length = 8 ∧
      d.txn.committing = none ∧ (∃ x ∈ d.txn.txn, x.id = le bs 0 4 ∧ x.owner = rq.ch ∧ (d.evaluateTxn (batchOf x.staged)).refused = none) ∧
      le bs 4 4 = 0) ∧
    (after (.txnCommit (ask (commit5 0))) upTxn).txn.txn = none ∧ (after (.txnCommit (ask (commit5 0))) upTxn).txn.generation = 1 ∧
    (after (.txnCommit (ask (commit5 1))) upTxn).txn.txn = some txn5 ∧ replyNum (after (.txnCommit (ask (commit5 1))) upTxn) 4 4 = some (0, 0, 0) := by
  decide

/-- A stream filter that names the group of no CUP_GROUP_SET: CUP_TRIP_SET of group 3 alone is refused. -/
def tripAlone : Staged := { opcode := 0x0703, data := leb 2 3 ++ zeros 142 }

theorem test_commit_refused : let d : Dev := { upTxn with txn := { upTxn.txn with txn := some { txn5 with staged := [tripAlone] } } }
    (d.evaluateTxn (batchOf [tripAlone])).refused.isSome = true ∧
    (after (.txnCommit (ask (commit5 0))) d).txn.txn = none ∧ (after (.txnCommit (ask (commit5 0))) d).txn.aborted = [5] := by decide

theorem test_commit_is_the_owners : let e : Dev := { upTxn with txn := { upTxn.txn with txn := some { txn5 with owner := 2 } } }
    Met e 0x0602 (ask (commit5 0)) (rspMax 4080) (fun d rq bs => d.txn.committing = none ∧
      ∃ x ∈ d.txn.txn, x.id = le bs 0 4 ∧ x.owner ≠ rq.ch) ∧
    reply (after (.txnCommit (ask (commit5 0))) e) = some (stNotPermitted, 0, []) ∧
    (let a : Dev := { up with txn := { up.txn with aborted := [5] } }
     Met a 0x0602 (ask (commit5 0)) (rspMax 4080) (fun d _ bs => d.txn.committing = none ∧ (∀ x ∈ d.txn.txn, x.id ≠ le bs 0 4) ∧
       le bs 0 4 ∈ d.txn.aborted) ∧
     reply (after (.txnCommit (ask (commit5 0))) a) = some (stTxnAborted, 0, [])) ∧
    Met upTxn 0x0602 (ask (leb 4 5)) (rspMax 4080) (fun d rq bs => d.txn.committing = none ∧
      (∃ x ∈ d.txn.txn, x.id = le bs 0 4 ∧ x.owner = rq.ch) ∧ bs.length ≠ 8) ∧
    reply (after (.txnCommit (ask (leb 4 5))) upTxn) = some (stBadLength, 0, []) := by decide

theorem test_idle_timeout : upTxn.txn.txn = some txn5 ∧ upTxn.txnRequestTaken 1 = false ∧
    (let d : Dev := { upTxn with uptime := 60000000001 }
     txn5.deadline < d.uptime ∧ (after .txnIdleTimeout d).txn.txn = none) ∧
    (let d : Dev := { upTxn with uptime := 60000000000 }
     after .txnIdleTimeout d = d) := by decide

theorem test_generation_flip : upCommit.txn.committing = some commit2 ∧ commit2.rules = some 0 ∧ upCommit.oldGenLeft = false ∧
    (after .genFlip upCommit).txn.committing = none ∧ (after .genFlip upCommit).lauter.gen = true ∧
    0 + 2000 ≤ ({ upCommit with uptime := 2000 } : Dev).uptime := by decide

/-- A staged request: FLAGS.STAGED and the TXN of transaction 5. -/
def stage5 (bs : Bytes) : Req := { ask bs with flags := 1, txn := 5 }

theorem test_headers : knownOpcode 0x0201 = true ∧ isTransactional 0x0201 = true ∧ upTxn.serves 1 0x0201 = true ∧
    headerError upTxn 0x0201 (stage5 portCfg0) = none ∧ headerError upTxn 0x0201 (ask portCfg0) = some stNotInTxn ∧
    headerError upTxn 0x0201 { stage5 portCfg0 with ch := 2 } = some stNotPermitted ∧
    headerError upTxn 0x0201 { stage5 portCfg0 with txn := 6 } = some stNotInTxn ∧
    headerError { upTxn with txn := { upTxn.txn with aborted := [6] } } 0x0201 { stage5 portCfg0 with txn := 6 } = some stTxnAborted ∧
    headerError up 0x0101 { ask [] with length := 4097 } = some stBadLength ∧ headerError up 0x0199 (ask []) = some stBadOpcode ∧
    headerError up 0x0E09 (ask []) = some stWrongMode ∧ headerError up 0x0101 { ask [] with flags := 8 } = some stBadParam ∧
    headerError up 0x0101 { ask [] with length := 4096 } = none := by decide

theorem test_plain_request : 1 < 8 ∧ up.host.spi = false ∧ up.takesRequests = true ∧ (up.chan 1).enable = true ∧ (up.chan 1).inband = false ∧
    (up.chan 1).waiting = [] ∧ (up.chan 1).taken = [] ∧ (up.chan 1).running = none ∧ (up.chan 1).outstanding < 16 ∧
    knownOpcode 0x0101 = true ∧ up.serves 1 0x0101 = true ∧ isTransactional 0x0101 = false ∧ up.txn.committing = none := by decide

/-! ## Service Arbiter -/

/-- Requesters 0 and 1 wait; 1 is at its wait limit. -/
def arb2 : Arbiter :=
  { reqs := [(0, { requester0 with pending := true, lst := 100, beats := 4 }),
      (1, { requester0 with pending := true, lst := 200, beats := 1, wait := 64 })], holder := none }

theorem test_arbiter : arb2.waiting = [0, 1] ∧ (∀ r ∈ arb2.waiting, (arb2.req r).lst < 2 ^ 32 ∧
      ((arb2.req r).lst + 2 ^ 32 - 0 % 2 ^ 32) % 2 ^ 32 < 2 ^ 31) ∧ (∀ r ∈ [0, 1, 2], (arb2.req r).wait ≤ (arb2.req r).limit) ∧
    (arb2.req 1).forced = true ∧ arb2.winner = some 1 ∧ (arb2.decide_ 0).holder = some { req := 1, forced := true, left := 1 } ∧
    ((arb2.age [0, 1]).req 0).wait = 1 ∧ ((arb2.age [0, 1]).req 1).wait = 64 ∧ ((arb2.age [1]).req 0).wait = 0 := by decide

theorem test_arbiter_round_and_commit : let d : Dev := { up with arb := arb2 }
    (after (.serviceArbiterRound []) d).arb.holder = some { req := 1, forced := true, left := 1 } ∧
    (let e := after (.fabricTransferCommit) { d with arb := { arb2 with holder := some { req := 1, forced := true, left := 1 } } }
     e.arb.holder = none ∧ (e.arb.req 1).wait = 0 ∧ (e.arb.req 1).pending = false) ∧
    after .fabricTransferCommit { d with arb := { arb2 with holder := some { req := 0, forced := false, left := 4 } } } =
      { d with arb := { arb2 with holder := some { req := 0, forced := false, left := 4 } } } := by decide

theorem test_unforced_holder_is_revoked : let a : Arbiter := { arb2 with holder := some { req := 0, forced := false, left := 4 } }
    (a.decide_ 0).holder = some { req := 1, forced := true, left := 1 } := by decide

/-! ## Ports -/

/-- The block with an enabled port that is up at a rate, its firmware loaded. -/
def upPort (p speed : Nat) : Dev :=
  ({ up with boot := { up.boot with sdsLoaded := true, phyLoaded := true } } : Dev).modPort p
    (fun q => { q with admin := true, up := true, speed := speed, filterMode := 0 })

/-- The same port down. -/
def downPort (p : Nat) : Dev := (upPort p 0).modPort p (fun q => { q with up := false })

/-- A frame of `n` bytes from DA, to 02-00-00-00-00-01, of EtherType 0x0800. -/
def frame (n : Nat) : Bytes := [2, 0, 0, 0, 0, 1, 2, 0, 0, 0, 0, 2, 8, 0] ++ zeros (n - 14)

theorem test_verdicts : let q := (upPort 0 6).port 0
    rxFault q { rx 0 60 with bytes := frame 60 } = none ∧ rxFault q (rx 0 59) = some 6 ∧
    rxFault q { rx 0 59 with fcsOk := false } = some 7 ∧ rxFault q (rx 0 1519) = some 8 ∧
    rxFault q { rx 0 1518 with fcsOk := false } = some 5 ∧ rxFault q { rx 0 60 with violations := 1 } = some 5 ∧
    rxFault q { rx 0 60 with bytes := zeros 12 ++ [0x88, 0x08, 0, 1] ++ zeros 44 } = some 11 ∧
    rxFault q { rx 0 60 with bytes := zeros 12 ++ [0x88, 0x08, 0, 2] ++ zeros 44 } = some 12 ∧
    rxFault { q with entries := [(0, 2, 0x020000000001)] } { rx 0 60 with bytes := frame 60 } = some 10 := by decide

theorem test_filter : let q := (upPort 0 6).port 0
    let group : Bytes := [1, 0, 0, 0, 0, 1]
    filterPasses { q with filterMode := 1 } [1, 0x80, 0xC2, 0, 0, 0x0E] = true ∧
    filterPasses { q with filterMode := 1, entries := [(0, 1, 0x010000000001)] } group = true ∧
    filterPasses { q with filterMode := 0 } group = true ∧ filterPasses { q with filterMode := 1 } group = false ∧
    filterPasses { q with filterMode := 1, hashBins := 2 ^ (crc32 group % 512) } group = true ∧
    filterPasses { q with filterMode := 1 } [0xFF, 0xFF, 0xFF, 0xFF, 0xFF, 0xFF] = false ∧
    filterPasses { q with filterMode := 3 } [0xFF, 0xFF, 0xFF, 0xFF, 0xFF, 0xFF] = true ∧
    filterPasses { q with filterMode := 1 } [2, 0, 0, 0, 0, 1] = true := by decide

/-- The check value of CRC-32 (IEEE 802.3) of the nine characters 1 to 9. -/
theorem test_crc32 : crc32 [0x31, 0x32, 0x33, 0x34, 0x35, 0x36, 0x37, 0x38, 0x39] = 0xCBF43926 := by decide

/-- And that of the Modbus CRC-16. -/
theorem test_crc16 : crc16 [0x31, 0x32, 0x33, 0x34, 0x35, 0x36, 0x37, 0x38, 0x39] = 0x4B37 := by decide

theorem test_frame_received : let d := upPort 0 6
    let f := { rx 0 60 with bytes := frame 60 }
    (d.port 0).admin = true ∧ (d.port 0).up = true ∧ d.deviceAsleep = false ∧ d.portAsleep 0 = false ∧ d.portSleeping 0 = false ∧
    tabFind d.fabric.cutting 0 = none ∧ d.classified 0 = false ∧ (tabGet [] (after (.macFrameReceived f) d).fabric.fifos 0).length = 1 ∧
    (after (.macFrameReceived f) d).counter 2 0 = 1 ∧ (after (.macFrameReceived (rx 0 59)) d).counter 2 6 = 1 ∧
    (tabGet [] (after (.macFrameReceived (rx 0 59)) d).fabric.fifos 0) = [] ∧
    (let full : Dev := { d with fabric := { d.fabric with fifos := [(0, List.replicate 500
        { port := 0, bytes := zeros 64, time := 0, ring := 0, second := none })] } }
     (after (.macFrameReceived f) full).counter 2 9 = 1) ∧ after (.macFrameReceived f) (downPort 0) = downPort 0 := by decide

/-- A frame of P0 stored with one copy for P1 in class 3. -/
def stored (id : Nat) : Stored :=
  { id := id, bytes := frame 60, len := 64, cells := 1
    info := { inPort := 0, time := 0, tc := 3, handle := 0xFFFF, zone := 0, gen := false, vid := 1, metaWord := 0, pcp := 3 }
    copies := [copyTo 1 1 3 0 none], receiving := false, bad := false }

/-- A block that holds frames. -/
def holding (d : Dev) (fs : List Stored) : Dev := { d with fabric := { d.fabric with frames := fs, nextId := 100 } }

/-- Being sent: a cut-through frame of id 5 at a port. -/
def sending5 : Sending :=
  { id := 5, tc := 3, bytes := frame 60, start := 0, maxFrame := 1522, cutThrough := true, preemptable := false, sent := 0, offered := false }

theorem test_cut_through_oversize : let f : Stored := { stored 5 with receiving := true, copies := [{ copyTo 1 1 3 0 none with staged := true, started := true }] }
    let d := holding (upPort 1 6) [f]
    let e : Dev := { d with fabric := { d.fabric with cutting := [(0, 5)], sending := [(1, sending5)] } }
    tabFind e.fabric.cutting 0 = some 5 ∧ (after (.cutThroughOversize 0 20 (frame 60)) e).counter 2 8 = 1 ∧
    (after (.cutThroughOversize 0 20 (frame 60)) e).outs = [.frame 1 ((frame 60).take 20) true] ∧
    tabFind (after (.cutThroughOversize 0 20 (frame 60)) e).fabric.sending 1 = none ∧
    (after (.cutThroughOversize 0 20 (frame 60)) e).fabric.frames = [] ∧ after (.cutThroughOversize 1 20 (frame 60)) e = e ∧
    (let i : Dev := { d with fabric := { d.fabric with cutting := [(0, 5)], preempted := [(1, { sending5 with maxFrame := 14 })] } }
     (after (.cutThroughOversize 0 20 (frame 60)) i).outs = [.frame 1 ((frame 60).take 10) true] ∧
     tabFind (after (.cutThroughOversize 0 20 (frame 60)) i).fabric.preempted 1 = none) ∧
    (after (.cutThroughOversize 0 20 (frame 60)) { d with fabric := { d.fabric with cutting := [(0, 6)] } }).counter 2 8 = 1 := by decide

theorem test_link : let d := upPort 0 6
    ((after (.linkDown 0 1) d).port 0).up = false ∧ ((after (.linkDown 0 1) d).port 0).hold = some 10000000 ∧
    (let e := d.modPort 0 (fun q => { q with flapHold := 0 })
     ((after (.linkDown 0 1) e).port 0).hold = none ∧ ((after (.linkDown 0 1) e).port 0).holdExpired = true) ∧
    (let e : Dev := { (after (.linkDown 0 1) (holding d [{ stored 5 with copies := [copyTo 0 0 3 0 none] }])) with uptime := 10000001 }
     (e.port 0).hold = some 10000000 ∧ (e.port 0).up = false ∧ ((after (.flapHoldExpiry 0) e).port 0).hold = none ∧
     (after (.flapHoldExpiry 0) e).fabric.frames = []) ∧
    (let e := downPort 0
     let i : LinkInfo := { speed := 6, fullDuplex := true }
     e.portLoaded 0 = true ∧ resolveLink 0 (e.port 0) (linkLevel (e.port 0)) i = .inr 6 ∧ ((after (.linkUp 0 i) e).port 0).up = true ∧
     ((after (.linkUp 0 i) e).port 0).speed = 6 ∧
     phyMissing 0 (e.port 0) = false ∧
     (let h := downPort 10
      h.portLoaded 10 = true ∧ phyMissing 10 (h.port 10) = false ∧
      resolveLink 10 (h.port 10) (linkLevel (h.port 10)) { i with fullDuplex := false } = .inl 1 ∧
      ((after (.linkUp 10 { i with fullDuplex := false }) h).port 10).up = false)) := by decide

theorem test_stepping : let d := upPort 10 3
    (let e : Dev := { d with uptime := 1 }
     (e.port 10).intervalEnd < e.uptime ∧ (e.port 10).stepMask = 0 ∧ ((after (.utilisationIntervalEnd 10) e).port 10).intervalEnd = 100000000) ∧
    (let e := (holding d [{ stored 5 with len := 2000, copies := [copyTo 10 10 3 0 none] }]).modPort 10
       (fun q => { q with stepQueue := 1, stepLevel := 1 })
     (e.port 10).stepQueue * 1024 < queuedBytes e.fabric.frames 10 ∧ (e.port 10).retrain = none ∧
     ((after (.stepUpQueueThreshold 10) e).port 10).retrain = some (0, 5000000000) ∧
     ((after (.stepUpQueueThreshold 10) (e.modPort 10 (fun q => { q with retrain := some (2, 5) }))).port 10).stepUpPending = true) ∧
    (let e : Dev := { (downPort 10).modPort 10 (fun q => { q with retrain := some (1, 5), stepLevel := 1 }) with uptime := 6 }
     (after (.retrainFailTimeout 10) e).counter 2 (10 * 64 + 31) = 1 ∧
     ((after (.retrainFailTimeout 10) e).port 10).retrain = some (0, 5000000006)) ∧
    hasPhy 10 (d.port 10) = true ∧ (after (.phyStatusPoll [10]) d).counter 2 (10 * 64 + 31) = 1 := by decide

theorem test_plca : let d := (upPort 34 1).modPort 34 (fun q => { q with nodeId := 3 })
    d.portAsleep 34 = false ∧ (d.port 34).plcaEn = true ∧ ((after (.plcaBeaconReceived 34) d).port 34).plcaOk = true ∧
    (after (.plcaBeaconReceived 34) d).counter 2 (34 * 64 + 32) = 1 ∧
    (let e := d.modPort 34 (fun q => { q with up := false, speed := 0 })
     (e.port 34).stepUpPending = false ∧ ((after (.plcaBeaconReceived 34) e).port 34).up = true ∧
     ((after (.plcaBeaconReceived 34) e).port 34).speed = 1) ∧
    (let e := d.modPort 34 (fun q => { q with plcaOk := true })
     ((after (.plcaBeaconTimeout 34) e).port 34).plcaOk = false ∧ ((after (.plcaBeaconTimeout 34) e).port 34).up = false) ∧
    (let e := d.modPort 34 (fun q => { q with nodeId := 0 })
     e.portSleeping 34 = false ∧ e.mayDrive = true ∧ (after (.plcaCoordinatorBeacon 34) e).counter 2 (34 * 64 + 33) = 1) ∧
    (let e : Dev := { holding d [{ stored 5 with copies := [{ copyTo 34 34 3 0 none with staged := true, started := true }] }] with uptime := 9 }
     let e : Dev := { e with fabric := { e.fabric with sending := [(34, { sending5 with offered := true, cutThrough := false })] } }
     e.portRuns 34 = true ∧ e.mayDrive = true ∧ (e.beacon 34).due = false ∧
     ((tabFind (after (.plcaTransmitOpportunity 34 0) e).fabric.sending 34).map (fun y => (y.offered, y.start, y.id))) = some (false, 9, 5)) := by
  decide

theorem test_port_queries : Met (upPort 0 6) 0x0204 (ask (zeros 4)) (rspMax 16) (fun _ _ bs => bs.length = 4 ∧ layoutOk [fr 0 1 0 95] bs = true) ∧
    ((reply (after (.portStatus (ask (zeros 4))) (upPort 0 6))).map (fun x => x.2.2.take 2)) = some [3, 6] ∧
    (let bs : Bytes := [1, 5, 0, 0, 0, 0, 0x34, 0x12]
     let good := fun (v : Bool) (d : Dev) (_ : Req) (bs : Bytes) => bs.length = 8 ∧
       layoutOk [fr 0 1 0 3, fr 1 1 0 31, fr 2 2 0 31, fa 4 2, fa 6 2] bs = true ∧ byteAt bs 0 % 2 = 1 ∧
       (byteAt bs 0 = 1 → le bs 4 2 = 0) ∧ mdioRefused d (byteAt bs 0) (byteAt bs 1) (le bs 2 2) (le bs 4 2) = v ∧ d.mdioBusy = false
     (∃ x ∈ up.admitted 0x0205 (ask bs) (rspMax 4), good false x.2.1 (ask bs) x.2.2.data) ∧
     reply (after (.portMdio (ask bs)) up) = some (0, 0, [0x34, 0x12, 0, 0]) ∧
     (let d := up.modPort 10 (fun q => { q with admin := true, phyAddr := 5 })
      (∃ x ∈ d.admitted 0x0205 (ask bs) (rspMax 4), good true x.2.1 (ask bs) x.2.2.data) ∧
      reply (after (.portMdio (ask bs)) d) = some (stNotPermitted, 0, [])) ∧
     (after (.portMdio (ask bs)) up).outs = [.mdioWrite 5 none 0 0x1234] ∧
     (let d : Dev := { up with fabric := { up.fabric with mdio := (List.range 20).map (fun i => 25600 * (i + 1)) } }
      d.mdioBusy = true ∧ reply (after (.portMdio (ask bs)) d) = some (stTimeout, 0, []))) ∧
    Met up 0x0205 (ask (zeros 8)) (rspMax 4) (fun _ _ bs => bs.length = 8 ∧
      layoutOk [fr 0 1 0 3, fr 1 1 0 31, fr 2 2 0 31, fa 4 2, fa 6 2] bs = true ∧ byteAt bs 0 % 2 = 0 ∧ le bs 6 2 = 0 ∧ (byteAt bs 0 = 0 → le bs 4 2 = 0) ∧ up.mdioBusy = false) := by decide

/-! ## Hopper -/

theorem test_hopper_alloc : (up.hopperAlloc 9 64).1 = some (2 ^ 28) ∧ (up.hopperAlloc 9 65).1 = some (2 * 2 ^ 28) ∧
    (up.hopperAlloc 9 10241).1 = none ∧ ((after (.hopperAlloc 9 64) up).pool 1).bufs.length = 1 ∧
    ((after (.hopperAlloc 9 64) upBuf).handle (2 ^ 28 + 64)) = .inr (1, 1) := by decide

theorem test_hopper_references : let h := 2 ^ 28
    upBuf.handle h = .inr (1, 0) ∧ tabFind (upBuf.pool 1).bufs 0 = some hostBuf ∧
    ((tabFind ((after (.hopperRefcountIncrement 9 h) upBuf).pool 1).bufs 0).map (fun b => (b.owner, b.refs))) = some (9, 3) ∧
    ((tabFind ((after (.hopperRefcountDecrement 9 h) upBuf).pool 1).bufs 0).map (fun b => (b.owner, b.refs))) = some (9, 1) ∧
    (after (.hopperRefcountDecrement 9 h) (after (.hopperRefcountDecrement 9 h) upBuf)).handle h = .inl 3 ∧
    (let d := up.putPool 1 { pool0 with bufs := [(0, { hostBuf with refs := 65535 })] }
     (after (.hopperRefcountIncrement 9 h) d).counter 3 3091 = 1) ∧ up.handle 0 = .inl 1 ∧ up.handle (2 ^ 28 + 1) = .inl 2 ∧
    (after (.hopperRefcountIncrement 1 0) up).counter 3 3081 = 1 ∧ (after (.hopperRefcountDecrement 1 0) up).safety.lastCode = 0x0401 ∧
    ((after (.engineRestartRelease 9) upBuf).pool 1).bufs = [] := by decide

/-! ## The switch core -/

/-- A frame of P0 as its slice's FIFO holds it. -/
def arrived0 : Arrived := { port := 0, bytes := frame 60, time := 0, ring := 0, second := none }

theorem test_classify : let d : Dev := { upPort 0 6 with fabric := { up.fabric with fifos := [(0, [arrived0])] } }
    d.fifoNext 0 = some (arrived0, []) ∧ tabGet [] (after (.frameClassify (.fifo 0)) d).fabric.fifos 0 = [] ∧
    (after (.frameClassify (.fifo 0)) d).lauter.ends.length = 1 ∧ tabGet [] up.fabric.fifos 0 = [] ∧
    after (.frameClassify (.fifo 0)) up = up := by decide

/-- A verdict of one copy for P1. -/
def verdict1 : Verdict := { info := (stored 5).info, copies := (stored 5).copies, mirror := none, policer := none, dropped := false, spire := 0 }

theorem test_valid_end : let p : PendEnd := { id := 3, frame := arrived0, stream := none, verdict := some verdict1, learn := none, receiving := false }
    let d : Dev := { upPort 1 6 with lauter := { up.lauter with ends := [p] } }
    d.lauter.ends.find? (fun p => p.id == 3 && !p.receiving && !p.heldAtL0 d) = some p ∧ (after (.frameValidEnd 3) d).lauter.ends = [] ∧
    (after (.frameValidEnd 3) d).fabric.frames.length = 1 ∧ after (.frameValidEnd 4) d = d := by decide

/-- A stream of kind IDENTIFIED in entry 2. -/
def stream2 : Stream :=
  { kind := 1, keyType := 0, inPort := 0xFF, wildcard := 2, mac := 0x020000000001, vid := 0, ipSa := 0, ipDa := 0, sport := 0, dport := 0, dscp := 0
    proto := 0, tc := 7, rtagOut := 0, egressMask := 2, deadline := 100000, maxLen := 64, blockOversize := true, intervalNs := 0, maxPer := 0
    meter := 0, seqgen := 0, recovery := 0, blocked := false, windows := [] }

theorem test_stream_valid_end : let p : PendEnd := { id := 3, frame := arrived0, stream := some (2, stream2), verdict := none, learn := none, receiving := false }
    let d : Dev := { upPort 1 6 with lauter := { up.lauter with ends := [p] }, streams := { up.streams with table := [(2, stream2)] } }
    d.lauter.ends.find? (fun p => p.id == 3 && !p.receiving && !p.heldAtL0 d) = some p ∧
    (after (.frameValidEnd 3) d).fabric.frames.map (fun f => (f.info.tc, f.copies.map (fun k => k.port))) = [(7, [1])] := by decide

theorem test_matching_slot : let d := after .matchingSlot (holding (upPort 1 6) [stored 5, stored 6])
    d.fabric.frames.map (fun f => f.copies.map (fun k => k.staged)) = [[true], [false]] ∧ tabGet 0 d.fabric.gptr (1 * 8 + 3) = 1 ∧
    tabGet 0 d.fabric.aptr (0 * 8 + 3) = 2 := by decide

theorem test_cut_through_start : let f : Stored := { stored 5 with receiving := true, bytes := frame 128 }
    let d0 := holding (upPort 1 6) [f]
    let d : Dev := { d0 with fabric := { d0.fabric with cutting := [(0, 5)] } }
    let k := copyTo 1 1 3 0 none
    tabFind d.fabric.cutting 0 = some 5 ∧ d.stored 5 = some f ∧ f.copies.find? (fun k => k.kind == 0 && !k.started) = some k ∧
    d.portRuns 1 = true ∧ d.maySend 1 f = true ∧ tabHas d.fabric.sending 1 = false ∧ tabHas d.fabric.preempted 1 = false ∧
    k.fenced = none ∧ k.staged = false ∧ d.preemptActive 1 = false ∧ bit (d.gateVector 1) 3 = true ∧
    d.fitsWindow 1 3 (d.egressLen f k) = true ∧ (d.shaper 1 3).enable = false ∧
    ((tabFind (after (.cutThroughStart 0 0) d).fabric.sending 1).map (fun s => (s.id, s.cutThrough))) = some (5, true) ∧
    (let e : Dev := { d with fabric := { d.fabric with frames := [{ f with copies := [{ k with staged := true }] }] } }
     ((tabFind (after (.cutThroughStart 0 0) e).fabric.sending 1).map (fun s => (s.id, s.cutThrough))) = some (5, true)) ∧
    (let e : Dev := { d with fabric := { d.fabric with frames := [{ f with bytes := frame 127 }] } }
     e.maySend 1 { f with bytes := frame 127 } = false ∧ tabFind (after (.cutThroughStart 0 0) e).fabric.sending 1 = none) := by
  decide

theorem test_recirculation : let f : Stored := { stored 5 with cells := 2, copies := [{ copyTo 92 92 3 0 none with started := true }] }
    let d0 := holding up [f]
    let d : Dev := { d0 with fabric := { d0.fabric with recirc := some (5, 0) } }
    d.stored 5 = some f ∧ (after .recircReaderMove d).fabric.recirc = some (5, 1) ∧
    (tabGet [] (after .recircReaderMove (after .recircReaderMove d)).fabric.fifos 8).length = 1 ∧
    (after .recircReaderMove (after .recircReaderMove d)).fabric.frames = [] := by decide

theorem test_capture : let d0 := holding up [{ stored 5 with copies := [{ copyTo 93 93 3 0 none with staged := true }] }]
    let d : Dev := { d0 with fabric := { d0.fabric with capture := { captureRing0 with enable := true } } }
    d.internalHead 93 = some ({ stored 5 with copies := [{ copyTo 93 93 3 0 none with staged := true }] }, { copyTo 93 93 3 0 none with staged := true }) ∧
    (d.free.2.granted 14 64 d.free.1).isSome = true ∧ (d.internalHead 93).all (fun x => d.passes 93 x) = true ∧
    (after .captureRecordWrite d).fabric.capture.writeOff = 0xA0 ∧ (after .captureRecordWrite d).fabric.capture.bounds = [0xA0] ∧
    (after .captureRecordWrite d).counter 3 3076 = 1 ∧
    Met (after .captureRecordWrite d) 0x0304 (ask (leb 4 0xA0)) (rspMax 0) (fun d _ bs => bs.length = 4 ∧ d.fabric.capture.enable = true ∧
      d.fabric.capture.wrap = false ∧ (le bs 0 4 = d.fabric.capture.readOff ∨ le bs 0 4 ∈ d.fabric.capture.bounds)) ∧
    (after (.fabCaptureAck (ask (leb 4 0xA0))) (after .captureRecordWrite d)).fabric.capture.readOff = 0xA0 := by decide

/-- LAG 2 of P0 and P1 with LACP, one fence of bucket 7. -/
def lag2 : Lag :=
  { lag0 with lacp := 1, members := [(0, 0), (1, 1)], partner := [(0, 1)], partnerDeadline := [(0, 5)], fences := [{ id := 1, bucket := 7, deadline := 5, markers := [] }] }

theorem test_lag : let d : Dev := { upPort 0 6 with fabric := { up.fabric with lags := [(2, lag2)] }, uptime := 6 }
    d.fabric.lags = [(2, lag2)] ∧ lag2.members.find? (fun m => m.2 == 0) = some (0, 0) ∧ bit lag2.lacp 0 = true ∧
    tabFind lag2.partnerDeadline 0 = some 5 ∧
    ((tabFind (after (.lacpduReceived 0 false) d).fabric.lags 2).map (fun l => tabGet 7 l.partner 0)) = some 0 ∧
    ((tabFind (after (.lacpduReceived 0 true) d).fabric.lags 2).map (fun l => (tabGet 7 l.partner 0, l.dist))) = some (1, [0]) ∧
    ((tabFind (after (.lacpPartnerTimeout 0) d).fabric.lags 2).map (fun l => tabGet 7 l.partner 0)) = some 0 ∧
    ((tabFind (after (.fenceTimeout 2 7) d).fabric.lags 2).map (fun l => l.fences)) = some [] ∧
    Met d 0x0306 (ask [2, 0, 0, 0]) (rspMax 260) (fun _ _ bs => bs.length = 4 ∧ layoutOk [fr 0 1 0 7] bs = true) ∧
    ((reply (after (.fabLagStatus (ask [2, 0, 0, 0])) d)).map (fun x => (x.2.2.length, le x.2.2 2 2))) = some (260, 1) := by decide

theorem test_hopper_queries : Met upBuf 0x0308 (ask []) (rspMax 40) (fun _ _ bs => bs = []) ∧
    replyNum (after (.fabHopperStatus (ask [])) upBuf) 0 2 = some (0, 0, 8191) ∧
    Met up 0x0309 (ask [64, 0, 0, 0]) (rspMax 4) (fun d _ bs => bs.length = 4 ∧ layoutOk [fr 0 2 1 10240] bs = true ∧
      (d.hopperAlloc 9 (le bs 0 2)).1.isSome = true) ∧
    replyNum (after (.fabHopperAlloc (ask [64, 0, 0, 0])) up) 0 4 = some (0, 0, 2 ^ 28) ∧
    Met up 0x030B (ask [1, 0, 0, 0]) (rspMax 72) (fun _ _ bs => bs.length = 4 ∧ layoutOk [fr 0 1 0 95] bs = true) ∧
    replyNum (after (.fabQueueStatus (ask [1, 0, 0, 0])) (holding up [stored 5])) 0 4 = some (0, 0, 1) := by decide

/-- The block with a buffer that is not the host's. -/
def upBuf8 : Dev := up.putPool 1 { pool0 with bufs := [(0, { hostBuf with owner := 8 })] }

theorem test_hopper_free : Met upBuf 0x030A (ask (leb 4 (2 ^ 28))) (rspMax 4) (fun d _ bs => bs.length = 4 ∧
      d.handle (le bs 0 4) = Sum.inr (1, 0) ∧ tabFind (d.pool 1).bufs 0 = some hostBuf ∧ hostBuf.owner = 9) ∧
    replyNum (after (.fabHopperFree (ask (leb 4 (2 ^ 28)))) upBuf) 0 2 = some (0, 0, 1) ∧
    Met upBuf8 0x030A (ask (leb 4 (2 ^ 28))) (rspMax 4) (fun d _ bs => bs.length = 4 ∧
      d.handle (le bs 0 4) = Sum.inr (1, 0) ∧ tabFind (d.pool 1).bufs 0 = some { hostBuf with owner := 8 }) ∧
    reply (after (.fabHopperFree (ask (leb 4 (2 ^ 28)))) upBuf8) = some (stNotPermitted, 0, []) := by decide

theorem test_hopper_free_null : Met up 0x030A (ask (zeros 4)) (rspMax 4) (fun d _ bs => bs.length = 4 ∧ d.handle (le bs 0 4) = Sum.inl 1) ∧
    reply (after (.fabHopperFree (ask (zeros 4))) up) = some (stBadParam, 0, []) ∧
    (after (.fabHopperFree (ask (zeros 4))) up).counter 3 3081 = 1 ∧ (after (.fabHopperFree (ask (zeros 4))) up).host.stage = .run := by decide

/-! ## Lauter -/

/-- A dynamic FDB entry, its age bit set. -/
def fdb1 : Fdb := { mac := 0x020000000001, fid := 1, dest := 1, zone := 2, isStatic := false, age := true }

/-- A connection between zones 3 and 4 in state ESTABLISHED. -/
def conn1 : Conn :=
  { lo := 1, hi := 2, family := 4, proto := 6, state := 3, origHi := false, loZone := 3, hiZone := 4, finLo := false, finHi := false, last := 0 }

/-- Three FDB entries and a connection; the purge of zone 4 is due. -/
def upTables : Dev :=
  { up with lauter := { up.lauter with
      fdb := [(4, fdb1), (5, { fdb1 with age := false, dest := 2 }), (6, { fdb1 with isStatic := true, fid := 2 })], conns := [(8, conn1)]
      purges := [4] } }

theorem test_flush_and_read : Met upTables 0x0405 (ask [1, 0, 0, 0, 1, 0, 0, 0]) (rspMax 4) (fun _ _ bs => bs.length = 8 ∧
      layoutOk [fr 0 1 0 2, fr 2 2 0 4095, fr 4 2 0 4095] bs = true) ∧
    (after (.ltrFdbFlush (ask [1, 0, 0, 0, 1, 0, 0, 0])) upTables).lauter.fdb.map (fun e => e.1) = [5, 6] ∧
    replyNum (after (.ltrFdbFlush (ask [1, 0, 0, 0, 1, 0, 0, 0])) upTables) 0 4 = some (0, 0, 1) ∧
    Met upTables 0x040D (ask [1, 4, 0, 0, 0, 0, 0, 0]) (rspMax 4) (fun _ _ bs => bs.length = 8 ∧
      layoutOk [fr 0 1 0 1, fr 1 1 0 63] bs = true) ∧ (after (.ltrCtFlush (ask [1, 4, 0, 0, 0, 0, 0, 0])) upTables).lauter.conns = [] ∧
    Met upTables 0x0406 (ask [5, 0, 0, 0, 255, 0, 0, 0]) (fun _ bs => 8 + 16 * min (le bs 4 2) (32768 - le bs 0 4)) (fun _ rq bs => bs.length = 8 ∧
      layoutOk [fr 0 4 0 32767, fr 4 2 1 (if reqBulkRsp rq then 32768 else 255)] bs = true) ∧
    ((reply (after (.ltrFdbRead (ask [5, 0, 0, 0, 1, 0, 0, 0])) upTables)).map (fun x => (x.2.2.length, le x.2.2 0 2, le x.2.2 4 4))) =
      some (24, 1, 6) ∧
    Met upTables 0x040E (ask [0, 0, 0, 0, 85, 0, 0, 0]) (fun _ bs => 8 + 48 * min (le bs 4 2) (65536 - le bs 0 4)) (fun _ rq bs => bs.length = 8 ∧
      layoutOk [fr 0 4 0 65535, fr 4 2 1 (if reqBulkRsp rq then 65535 else 85)] bs = true) ∧
    ((reply (after (.ltrCtRead (ask [0, 0, 0, 0, 85, 0, 0, 0])) upTables)).map (fun x => (x.2.2.length, le x.2.2 0 2))) = some (56, 1) ∧
    Met upTables 0x040F (ask [1, 0, 0, 0]) (rspMax 16) (fun _ _ bs => bs.length = 4 ∧ layoutOk [fr 0 1 1 63] bs = true) ∧
    reply (after (.ltrZoneBindStatus (ask [1, 0, 0, 0])) upTables) = some (0, 0, zeros 16) ∧
    Met upTables 0x0410 (ask []) (rspMax 16) (fun _ _ bs => bs = []) ∧ replyNum (after (.ltrGenStatus (ask [])) upTables) 0 1 = some (0, 0, 0) := by
  decide

theorem test_scans : let d : Dev := { upTables with uptime := 300000000001 }
    d.lauter.lastAge + d.lauter.ageTime * 1000000000 < d.uptime ∧
    (after .fdbAgeScan d).lauter.fdb = [(4, { fdb1 with age := false }), (6, { fdb1 with isStatic := true, fid := 2 })] ∧
    after .fdbAgeScan { d with uptime := 300000000000 } = { d with uptime := 300000000000 } ∧
    d.lauter.lastCtScan + 100000000 < d.uptime ∧ (after .ctAgeScan d).lauter.conns = [(8, conn1)] ∧
    (after .ctAgeScan { d with uptime := 7200000000000, lauter := { d.lauter with lastCtScan := 7199000000000 } }).lauter.conns = [] ∧
    after .ctAgeScan { d with uptime := 100000000 } = { d with uptime := 100000000 } ∧
    4 ∈ d.lauter.purges ∧ (after (.bindingCtPurge 4) d).lauter.conns = [] ∧ (after (.bindingCtPurge 4) d).lauter.purges = [] := by decide

/-! ## Belfry and the stream unit -/

/-- A staged copy for P1 in class 3. -/
def staged1 : Stored := { stored 5 with copies := [{ copyTo 1 1 3 0 none with staged := true }] }

theorem test_start : let d := holding (upPort 1 6) [staged1]
    d.portRuns 1 = true ∧ tabFind d.fabric.sending 1 = none ∧ tabFind d.fabric.preempted 1 = none ∧ d.preemptActive 1 = false ∧
    (d.beacon 1).due = false ∧ (Dev.select 1 (fun _ f => d.maySend 1 f) classesDown d).2.isSome = true ∧
    ((tabFind (after (.frameTxStart 1 false 0) d).fabric.sending 1).map (fun s => (s.id, s.tc))) = some (5, 3) ∧
    (Dev.select 1 (fun _ f => d.maySend 1 f) classesDown (upPort 1 6)).2 = none ∧
    (let e := (holding (upPort 34 1) [{ staged1 with copies := [{ copyTo 34 34 3 0 none with staged := true }] }]).modPort 34
       (fun q => { q with plcaEn := false })
     (Dev.select 34 (fun _ f => e.maySend 34 f) classesDown e).2.isSome = true ∧ ((after (.frameTxStart 34 true 0) e).port 34).collisions = 1) ∧
    (let e := holding up [{ staged1 with copies := [{ copyTo 91 91 3 0 none with staged := true }] }]
     (classesDown.findSome? (fun c => stageHeadOf e.fabric.frames 91 c)).isSome = true ∧
     tabHas (after (.frameTxStart 91 false 0) e).fabric.sending 91 = true) := by decide

theorem test_express_frame_interrupts : let low : Stored :=
      { stored 5 with bytes := frame 2000, copies := [{ copyTo 1 1 3 0 none with staged := true, started := true }] }
    let high : Stored := { stored 6 with copies := [{ copyTo 1 1 7 0 none with staged := true, stageSeq := 1 }] }
    let d0 := holding (upPort 1 6) [low, high]
    let s : Sending := { sending5 with preemptable := true, cutThrough := false }
    let d : Dev := { d0 with uptime := 1000, streams := { d0.streams with preempt := [(1, { preempt0 with enable := true, state := 2 })] } }
    let e : Dev := { d with fabric := { d.fabric with sending := [(1, s)] } }
    d.portRuns 1 = true ∧ (d.beacon 1).due = false ∧ d.preemptActive 1 = true ∧ (d.selectExpress 1).2.isSome = true ∧
    ((tabFind (after (.frameTxStart 1 false 0) d).fabric.sending 1).map (fun x => x.id)) = some 6 ∧
    e.mayInterrupt 1 s = true ∧ ((tabFind (after (.frameTxStart 1 false 0) e).fabric.sending 1).map (fun x => x.id)) = some 6 ∧
    ((tabFind (after (.frameTxStart 1 false 0) e).fabric.preempted 1).map (fun x => (x.id, x.sent))) = some (5, 993600) ∧
    (let t : Dev := { e with uptime := 50 }
     ((tabFind (after (.frameTxStart 1 false 0) t).fabric.sending 1).map (fun x => x.id)) = some 5) := by decide

theorem test_complete : let f : Stored := { stored 5 with copies := [{ copyTo 1 1 3 0 none with staged := true, started := true }] }
    let d0 := holding (upPort 1 6) [f]
    let d : Dev := { d0 with fabric := { d0.fabric with sending := [(1, { sending5 with cutThrough := false })] } }
    tabFind d.fabric.sending 1 = some { sending5 with cutThrough := false } ∧ d.stored 5 = some f ∧
    (after (.txFrameComplete 1) d).outs = [.frame 1 (frame 60) false] ∧ (after (.txFrameComplete 1) d).counter 2 (64 + 14) = 1 ∧
    (after (.txFrameComplete 1) d).fabric.frames = [] ∧
    (let e : Dev := { d with fabric := { d.fabric with frames := [{ f with bad := true }] } }
     (after (.txFrameComplete 1) e).outs = [.frame 1 (frame 60) true]) ∧
    (let e : Dev := { d with fabric := { d.fabric with frames := [{ f with receiving := true }] } }
     after (.txFrameComplete 1) e = e) ∧
    (let e : Dev := { d with fabric := { d.fabric with sending := [(1, { sending5 with maxFrame := 24 })] } }
     ¬ frameLen (sendingBytesOf f { sending5 with maxFrame := 24 }) ≤ 24 ∧
     (after (.txFrameComplete 1) e).outs = [.frame 1 ((frame 60).take 20) true]) := by decide

/-- A gate list of two entries: TC7 for 1 us, then the others for 1 us. -/
def gateList2 : GateList := { entries := [(0x80, 0, 250), (0x7F, 0, 250)], cycle := 500, base := 1000 }

/-- P1 with that list in force since 1,000 ns, at 2,500 ns. -/
def upGates : Dev :=
  ({ upPort 1 6 with time := { up.time with clock := { up.time.clock with ns := 2500 } } } : Dev).putGates 1
    { gates0 with oper := some (gateList2, 1000), pending := [(none, 3000)] }

theorem test_gates : (upGates.gates 1).oper = some (gateList2, 1000) ∧
    gateList2.spanAt 1000 upGates.now = some (250, 500, 0x7F, 0, 1) ∧ upGates.preemptActive 1 = false ∧
    ((after (.gateEntryChange 1) upGates).gates 1).vector = 0x7F ∧ (upGates.gates 1).pending = [(none, 3000)] ∧
    after (.gateListSwitch 1) upGates = upGates ∧
    (let d : Dev := { upGates with time := { upGates.time with clock := { upGates.time.clock with ns := 3000 } } }
     ((after (.gateListSwitch 1) d).gates 1).oper = none ∧ ((after (.gateListSwitch 1) d).gates 1).vector = 0xFF) ∧
    (let d := upGates.modPort 1 (fun q => { q with admin := false })
     ((after (.gateEntryChange 1) d).gates 1).vector = 0xFF) ∧ (upGates.port 1).admin = true ∧
    (up.gates 1).oper = none ∧ ((after (.gateEntryChange 1) up).gates 1).vector = 0xFF := by decide

/-- P0's preemption in verification. -/
def upVerify (tries : Nat) : Dev :=
  { up with streams := { up.streams with preempt := [(0, { preempt0 with enable := true, state := 1, tries := tries, deadline := some 5 })] }, uptime := 6 }

theorem test_preemption : ((upVerify 1).preempt 0).state = 1 ∧ ((after (.preemptVerifyResponse 0) (upVerify 1)).preempt 0).state = 2 ∧
    ((after (.preemptVerifyTimeout 0) (upVerify 1)).preempt 0).tries = 2 ∧
    ((after (.preemptVerifyTimeout 0) (upVerify 1)).preempt 0).deadline = some 10000006 ∧
    ((after (.preemptVerifyTimeout 0) (upVerify 3)).preempt 0).state = 3 ∧
    after (.preemptVerifyTimeout 0) { upVerify 1 with uptime := 5 } = { upVerify 1 with uptime := 5 } := by decide

theorem test_belfry_compare : after (.belfryCmp 3 0) up = up ∧ (after (.belfryCmp 3 1) up).host.stage = .faultHold ∧
    (after (.belfryCmp 3 1) up).safety.lastCode = 0x0201 := by decide

/-- P1 observed in class 3 every microsecond. -/
def upObserve : Dev :=
  { upGates with streams := { upGates.streams with observe := [(1, { observe0 with enable := true, tcMask := 8, lastSample := 1900 })] } }

theorem test_observation : (tabFind upObserve.streams.observe 1).map (fun o => (o.enable, o.periodUs * 1000)) = some (true, 1000) ∧
    upObserve.now / 1000 ≠ 1900 / 1000 ∧ (tabGet observe0 (after (.queueObserveSample 1) upObserve).streams.observe 1).records.length = 1 ∧
    after (.queueObserveSample 1) (after (.queueObserveSample 1) upObserve) = after (.queueObserveSample 1) upObserve ∧
    (let d := after (.queueObserveSample 1) upObserve
     Met d 0x0509 (ask [1, 64, 0, 0, 0, 0, 0, 0]) (fun _ bs => 8 + 32 * byteAt bs 1) (fun d _ bs => bs.length = 8 ∧
       layoutOk [fr 0 1 0 49, fr 1 1 1 64, fa 4 4] bs = true ∧ ((tabFind d.streams.observe 1).bind (fun o => o.records.head?)).map (fun x => x.1) = some 0 ∧
       0 ≤ signed 32 (le bs 4 4 + 2 ^ 32 - 0)) ∧
     ((reply (after (.strObserveRead (ask [1, 64, 0, 0, 0, 0, 0, 0])) d)).map (fun x => (x.2.2.length, le x.2.2 0 2))) = some (40, 1) ∧
     Met d 0x0509 (ask [1, 64, 0, 0, 255, 255, 255, 255]) (fun _ bs => 8 + 32 * byteAt bs 1) (fun _ _ bs => bs.length = 8 ∧
       layoutOk [fr 0 1 0 49, fr 1 1 1 64, fa 4 4] bs = true ∧ signed 32 (le bs 4 4 + 2 ^ 32 - 0) < 0) ∧
     reply (after (.strObserveRead (ask [1, 64, 0, 0, 255, 255, 255, 255])) d) = some (stNotFound, 0, [])) := by decide

/-- A recovery entry at number 65535 with its own bit set. -/
def recovery1 : Recovery :=
  { takeNoSeq := false, history := 4, paths := 2, resetMs := 10, latentMs := 100, latentThreshold := 5, takeAny := false, seq := 65535, hist := 1
    deadline := some 5, passed := 3, discarded := 1, periodEnd := 5 }

theorem test_recovery : 2 ≤ recovery1.history ∧ recovery1.history ≤ 64 ∧ recovery1.seq < 65536 ∧ recovery1.hist % 2 = 1 ∧
    recovery1.hist < 2 ^ recovery1.history ∧ (recoveryJudge recovery1 (some 2)).1 = .pass ∧ (recoveryJudge recovery1 (some 2)).2.hist = 9 ∧
    (recoveryJudge recovery1 (some 3)).1 = .rogue ∧ (recoveryJudge recovery1 (some 65535)).1 = .discard ∧
    (recoveryJudge recovery1 (some 65532)).1 = .pass ∧ (recoveryJudge recovery1 (some 65531)).1 = .rogue ∧
    (recoveryJudge recovery1 none).1 = .discard ∧ (recoveryJudge { recovery1 with takeAny := true } (some 9)).2.seq = 9 := by decide

theorem test_recovery_timers : let d : Dev := { up with streams := { up.streams with recoveries := [(9, recovery1)] }, uptime := 6 }
    tabFind d.streams.recoveries 9 = some recovery1 ∧ recovery1.latentMs ≠ 0 ∧ recovery1.periodEnd < d.uptime ∧
    ((tabFind (after (.frerResetTimeout 9) d).streams.recoveries 9).map (fun e => (e.takeAny, e.deadline))) = some (true, none) ∧
    ((tabFind (after (.frerLatentPeriodEnd 9) d).streams.recoveries 9).map (fun e => (e.passed, e.periodEnd))) = some (0, 100000005) ∧
    after (.frerResetTimeout 9) { d with uptime := 5 } = { d with uptime := 5 } := by decide

/-- A meter of 1,000 committed and 500 excess bytes, full. -/
def meter1 : Meter :=
  { flags := 0, cir := 1, cbs := 1000, eir := 1, ebs := 500, c := 125000000, e := 62500000, last := 0, latched := false }

theorem test_meter : meter1.c ≤ meter1.cbs * creditUnit ∧ meter1.e ≤ meter1.ebs * creditUnit ∧ (meterColour meter1 1000 false).1 = 0 ∧
    (meterColour meter1 1000 false).2.c = 0 ∧ (meterColour { meter1 with c := 0 } 500 false).1 = 1 ∧
    (meterColour { meter1 with c := 0 } 501 false).1 = 2 ∧ (meterColour { meter1 with flags := 2 } 500 true).1 = 1 ∧
    (meterColour { meter1 with latched := true } 1 false).1 = 2 ∧ (meterFill { meter1 with c := 0 } 125000).c = 125000 := by decide

/-- A blocked stream, a latched meter and a recovery entry, each in entry 9. -/
def upStreams : Dev :=
  { up with streams := { up.streams with
      table := [(9, { stream2 with blocked := true })], meters := [(9, { meter1 with latched := true })], recoveries := [(9, recovery1)] } }

/-- STR_FILTER_RESET's condition. -/
abbrev ResetOk (d : Dev) (bs : Bytes) : Prop :=
  bs.length = 4 ∧ layoutOk [fr 0 1 0 2, fr 2 2 0 4095] bs = true ∧ ((byteAt bs 0 = 0 ∧ tabHas d.streams.table (le bs 2 2) = true) ∨
    (byteAt bs 0 = 1 ∧ tabHas d.streams.meters (le bs 2 2) = true) ∨
    (byteAt bs 0 = 2 ∧ le bs 2 2 ≤ 1023 ∧ tabHas d.streams.recoveries (le bs 2 2) = true))

theorem test_filter_reset : Met upStreams 0x050B (ask [0, 0, 9, 0]) (rspMax 0) (fun d _ bs => ResetOk d bs) ∧
    Met upStreams 0x050B (ask [1, 0, 9, 0]) (rspMax 0) (fun d _ bs => ResetOk d bs) ∧
    Met upStreams 0x050B (ask [2, 0, 9, 0]) (rspMax 0) (fun d _ bs => ResetOk d bs) ∧
    ((tabFind (after (.strFilterReset (ask [0, 0, 9, 0])) upStreams).streams.table 9).map (fun e => e.blocked)) = some false ∧
    ((tabFind (after (.strFilterReset (ask [1, 0, 9, 0])) upStreams).streams.meters 9).map (fun e => e.latched)) = some false ∧
    ((tabFind (after (.strFilterReset (ask [2, 0, 9, 0])) upStreams).streams.recoveries 9).map (fun e => e.takeAny)) = some true := by
  decide

theorem test_filter_reset_not_found : Met up 0x050B (ask [0, 0, 9, 0]) (rspMax 0) (fun d _ bs => bs.length = 4 ∧
      layoutOk [fr 0 1 0 2, fr 2 2 0 4095] bs = true ∧ byteAt bs 0 = 0 ∧ tabHas d.streams.table (le bs 2 2) = false) ∧
    Met up 0x050B (ask [1, 0, 9, 0]) (rspMax 0) (fun d _ bs => bs.length = 4 ∧
      layoutOk [fr 0 1 0 2, fr 2 2 0 4095] bs = true ∧ byteAt bs 0 = 1 ∧ tabHas d.streams.meters (le bs 2 2) = false) ∧
    reply (after (.strFilterReset (ask [0, 0, 9, 0])) up) = some (stNotFound, 0, []) := by decide

theorem test_stream_queries : Met upGates 0x050A (ask [1, 0, 0, 0]) (rspMax 32) (fun _ _ bs => bs.length = 4 ∧ layoutOk [fr 0 1 0 49] bs = true) ∧
    ((reply (after (.strGateStatus (ask [1, 0, 0, 0])) upGates)).map (fun x => x.2.2.take 2)) = some [2, 0x7F] ∧
    Met upStreams 0x050C (ask [9, 0, 0, 0]) (rspMax 16) (fun _ _ bs => bs.length = 4 ∧ layoutOk [fr 0 2 0 4095] bs = true) ∧
    replyNum (after (.strStreamStatus (ask [9, 0, 0, 0])) upStreams) 0 1 = some (0, 0, 7) ∧
    reply (after (.strStreamStatus (ask [8, 0, 0, 0])) upStreams) = some (0, 0, zeros 16) := by decide

/-! ## The Cupola -/

/-- CUP_GROUP_SET of group 3: unit 02-00-00-00-00-33, one scaled OUT_FIELD at 16, one IN_FIELD (sum) at 16, ARRIVE_NS 2,000, SETTLE_NS 100,
tags at 20. -/
def grp3 : Bytes :=
  leb 2 3 ++ [0, 0] ++ [2, 0, 0, 0, 0, 0x33] ++ leb 2 0 ++ zeros 6 ++ [1, 1] ++ leb 4 2000 ++ leb 4 100 ++ leb 2 20 ++ leb 2 20 ++
    leb 4 (16 + 2 ^ 17) ++ zeros 28 ++ leb 4 16 ++ zeros 28 ++ leb 2 16 ++ zeros 14 ++ leb 2 20 ++ leb 2 64 ++ zeros 12 ++ zeros 64

/-- Leaves A and B: half and the whole of a value. -/
def leafA : Leaf := { mac := 0x02000000000A, node := 1, weight := 32768, offset := 1, min := 0, max := 1000 }
/-- The other one. -/
def leafB : Leaf := { leafA with mac := 0x02000000000B, node := 2, weight := 65536, offset := 0 }

/-- Group 3 of both. -/
def group3 : Group := { newGroup grp3 with leaves := [leafA, leafB], seq := 2 ^ 22 - 1 }

/-- The block with it. -/
def upGroup : Dev := { up with cupola := { up.cupola with groups := [(3, group3)] } }

/-- A command of value 100 to it, or a reply of a leaf. -/
def to3 (sa : Byte) (v : Nat) (tag : Nat) : Bytes :=
  [2, 0, 0, 0, 0, 0x33] ++ [2, 0, 0, 0, 0, sa] ++ [8, 0, 0, 0] ++ beb 4 v ++ beb 4 tag ++ zeros 40

/-- Its window of tag 9, opened at 10 ns. -/
def window3 : Window := { tag := 9, bank := 0, cfg := grp3, leaves := [leafA, leafB], opened := 10, sender := 1, folded := [], acc := [0] }

/-- The block with that window. -/
def upWindow : Dev := { upGroup with cupola := { upGroup.cupola with windows := [(3, window3)] } }

/-- A fan-out that waits. -/
def fanOut3 : FanOut := { group := 3, bytes := to3 1 100 0, bank := 0, cfg := grp3, leaves := [leafA, leafB] }

theorem test_group_layout : grp3.length = 192 ∧ checkCupGroup up grp3 = stOk ∧ arriveNs grp3 = 2000 ∧ windowNs grp3 = 2100 ∧
    outFields grp3 = [(16, false, true)] ∧ inFields grp3 = [(16, 0, false)] ∧ unitOf grp3 = (0x020000000033, 0) := by decide

theorem test_fan_out : let f := { stored 5 with bytes := to3 1 100 0, copies := [{ copyTo 95 95 3 0 none with staged := true }] }
    let d := holding upGroup [f]
    let k := { copyTo 95 95 3 0 none with staged := true }
    d.internalHead 95 = some (f, k) ∧ d.passes 95 (f, k) = true ∧ (after .cupolaFrameDequeue d).cupola.fanOut.length = 1 ∧
    (let g : Stored := { f with bytes := frame 60 }
     let e := holding upGroup [g]
     e.internalHead 95 = some (g, k) ∧ e.tripTested (be (frame 60) 6 6) (frame 60) = false ∧ e.unitGroup (be (frame 60) 0 6) (frameVid (frame 60)) = none ∧
     e.replyGroup (be (frame 60) 0 6) (frameVid (frame 60)) (be (frame 60) 6 6) = none ∧
     (after .cupolaFrameDequeue e).counter 7 8197 = 1) ∧
    (let e := d.modPort 95 (fun q => { q with maxFrame := 64 - 1 })
     e.passes 95 (f, k) = false ∧ (after .cupolaFrameDequeue e).cupola.fanOut = [] ∧ (after .cupolaFrameDequeue e).counter 2 (95 * 64 + 20) = 1) ∧
    up.internalHead 95 = none := by decide

theorem test_fan_out_step : let d : Dev := { upGroup with cupola := { upGroup.cupola with fanOut := [fanOut3] } }
    let e := after (.fanOutStep 2) d
    commandShort grp3 (to3 1 100 0) = false ∧ commandShort grp3 (frame 18) = true ∧ tabFind d.cupola.groups 3 = some group3 ∧
    (tabFind e.cupola.groups 3).map (fun z => (z.seq, z.lastTag)) = some (0, 3 * 2 ^ 22 + 2 ^ 22 - 1) ∧
    (tabFind e.cupola.windows 3).map (fun w => (w.tag, w.folded, w.opened)) = some (2 ^ 24 - 1, [], 0) ∧
    (tabGet [] e.fabric.fifos 8).map (fun x => (be x.bytes 0 6, be x.bytes 16 4, be x.bytes 20 4)) =
      [(0x02000000000A, 51, 2 ^ 24 - 1), (0x02000000000B, 100, 2 ^ 24 - 1)] ∧
    (let t : Dev := { d with cupola := { d.cupola with groups := [(3, { group3 with tripped := true })] } }
     (after (.fanOutStep 2) t).counter 7 8193 = 1 ∧ (after (.fanOutStep 2) t).cupola.fanOut = []) ∧ after (.fanOutStep 2) up = up ∧
    (d.free.2.granted 2 64 d.free.1).isSome = true := by decide

theorem test_fan_out_waits : let d : Dev := { upGroup with cupola := { upGroup.cupola with fanOut := [fanOut3] } }
    let e := after (.fanOutStep 1) d
    (e.cupola.emitting.map (fun x => (x.group, x.frames.length)) = some (3, 1) ∧ (tabGet [] e.fabric.fifos 8).length = 1) ∧
    ((after (.fanOutStep 1) e).cupola.emitting = none ∧ (tabGet [] (after (.fanOutStep 1) e).fabric.fifos 8).length = 2) ∧
    (let w : Dev := { d with cupola := { d.cupola with windows := [(3, window3)] } }
     tabHas w.cupola.windows 3 = true ∧ (after (.fanOutStep 1) w).cupola.fanIn.length = 1 ∧ (after (.fanOutStep 1) w).cupola.replyWaits 3 = true) ∧
    (let b : Dev := { d with arb := { d.arb with holder := some { req := 0, forced := true, left := 9 } } }
     (after (.fanOutStep 1) b).cupola = d.cupola ∧ (after (.fanOutStep 1) b).arb.holder = some { req := 0, forced := true, left := 8 }) := by decide

theorem test_member_value : leafA.min < 2 ^ 32 ∧ val32 false leafA.min ≤ val32 false leafA.max ∧ memberValue leafA false 100 = (51, false) ∧
    memberValue leafA false 2 = (2, false) ∧ memberValue leafB false 1001 = (1000, true) ∧
    memberValue { leafB with min := 2 ^ 32 - 5, max := 5 } true (2 ^ 32 - 9) = (2 ^ 32 - 5, true) := by decide

theorem test_fold : leafIndex window3.leaves 1 = none ∧ leafIndex window3.leaves 0x02000000000B = some 1 ∧
    (upWindow.foldReply 3 window3 (to3 1 7 9) 1 10).counter 7 8195 = 1 ∧
    (upWindow.foldReply 3 window3 (to3 0xB 7 9) 0x02000000000B 2011).counter 7 (3 * 8 + 5) = 1 ∧
    (upWindow.foldReply 3 { window3 with folded := [1] } (to3 0xB 7 9) 0x02000000000B 2010).counter 7 8196 = 1 ∧
    (tabFind (upWindow.foldReply 3 window3 (to3 0xB 7 9) 0x02000000000B 2010).cupola.windows 3).map (fun w => (w.folded, w.acc)) = some ([1], [7]) := by
  decide

theorem test_fold_end : let d : Dev := { upWindow with uptime := 2111 }
    tabFind d.cupola.windows 3 = some window3 ∧ (after (.foldEnd 3) d).cupola.windows = [] ∧
    (after (.foldEnd 3) d).cupola.fanIn = [.fold 3 { window3 with ended := 2111 } 0] ∧ after (.foldEnd 3) { d with uptime := 2110 } = { d with uptime := 2110 } ∧
    replyFlags window3 0 = 17 ∧ (after .fanInStep (after (.foldEnd 3) d)).cupola.fanIn = [] ∧
    (after .fanInStep (after (.foldEnd 3) d)).counter 7 (3 * 8 + 4) = 1 ∧
    (let e : Dev := { d with cupola := { d.cupola with fanIn := [.trip 3 1 5] } }
     (after .fanInStep e).cupola.fanIn = [] ∧ (after .fanInStep e).host.history.map (fun x => (x.code, x.object, x.data)) = [(0x0701, 3, 1 + 5 * 2 ^ 32)] ∧
     (e.free.2.granted 3 64 e.free.1).isSome = true ∧
     (let b : Dev := { e with arb := { e.arb with holder := some { req := 0, forced := true, left := 9 } } }
      b.free.2.granted 3 64 b.free.1 = none ∧ (after .fanInStep b).cupola = e.cupola)) := by
  decide

theorem test_bank_flip : let d : Dev := { upWindow with txn := upCommit.txn }
    let c := { commit2 with cupola := true }
    let e : Dev := { upWindow with txn := { up.txn with committing := some c } }
    d.txn.committing = some commit2 ∧ after .cupolaBankFlip d = d ∧ e.txn.committing = some c ∧ e.cupola.mayFlip = true ∧
    (after .cupolaBankFlip e).cupola.bank = 1 ∧
    (let x : Dev := { e with cupola := { e.cupola with windows := [(3, { window3 with bank := 1 })] } }
     x.cupola.mayFlip = false ∧ after .cupolaBankFlip x = x) := by decide

theorem test_trip : let t : Bytes := leb 2 3 ++ [1, 4] ++ leb 2 16 ++ leb 2 64 ++ leb 4 255 ++ leb 4 7 ++ zeros 128
    let d : Dev := { upWindow with cupola := { upWindow.cupola with trips := [(3, t)] } }
    let e := d.cupolaFrame (to3 0xB 7 9) 10
    checkCupTrip up t = stOk ∧ tripMatches t (to3 0xB 7 9) = true ∧ tripMatches t (to3 0xB 6 9) = false ∧ e.cupola.pins.map (fun x => (x.1, x.2.pin)) = [(3, 4)] ∧
    e.cupola.windows = [] ∧ e.cupola.fanIn.length = 2 ∧ (tabGet [] e.fabric.fifos 8).length = 2 ∧ e.counter 7 (3 * 8 + 7) = 1 := by decide

theorem test_trip_clear : let d : Dev := { upGroup with cupola := { upGroup.cupola with groups := [(3, { group3 with tripped := true })], pins := [(3, { pin := 4, level := true })] } }
    Met d 0x0704 (ask [3, 0, 0, 0]) (rspMax 0) (fun d _ bs => bs.length = 4 ∧ layoutOk [fr 0 2 0 1023] bs = true ∧
      tabHas d.cupola.groups (le bs 0 2) = true) ∧
    (after (.cupTripClear (ask [3, 0, 0, 0])) d).cupola.pins = [] ∧
    (tabFind (after (.cupTripClear (ask [3, 0, 0, 0])) d).cupola.groups 3).map (fun x => x.tripped) = some false ∧
    Met d 0x0704 (ask [4, 0, 0, 0]) (rspMax 0) (fun d _ bs => bs.length = 4 ∧ layoutOk [fr 0 2 0 1023] bs = true ∧
      tabFind d.cupola.groups (le bs 0 2) = none) ∧
    reply (after (.cupTripClear (ask [4, 0, 0, 0])) d) = some (stNotFound, 0, []) ∧
    (let t : Dev := { d with cupola := { d.cupola with groups := [(3, { group3 with tripped := true, matched := some (0, 1) })] } }
     (tabFind (after (.cupTripClear (ask [3, 0, 0, 0])) t).cupola.groups 3).map (fun x => x.tripped) = some true) := by decide

theorem test_group_reads : Met upWindow 0x0705 (ask [3, 0, 0, 0]) (rspMax 48) (fun d _ bs => bs.length = 4 ∧ layoutOk [fr 0 2 0 1023] bs = true ∧
      ∃ x ∈ tabFind d.cupola.groups (le bs 0 2), x.lastFolds.length = 8) ∧
    ((reply (after (.cupGroupStatus (ask [3, 0, 0, 0])) upWindow)).map (fun x => (x.2.2.length, x.2.2.take 4))) = some (48, [3, 0, 2, 0]) ∧
    Met upWindow 0x0706 (ask [3, 0, 1, 0, 127, 0, 0, 0]) (fun _ bs => 8 + 32 * byteAt bs 4) (fun d _ bs => bs.length = 8 ∧
      layoutOk [fr 0 2 0 1023, fr 2 2 0 1023, fr 4 1 1 127] bs = true ∧ tabHas d.cupola.groups (le bs 0 2) = true) ∧
    ((reply (after (.cupExpansionRead (ask [3, 0, 1, 0, 127, 0, 0, 0])) upWindow)).map (fun x => (x.2.2.length, x.2.2.take 4))) =
      some (40, [1, 0, 0xFF, 0xFF]) ∧
    reply (after (.cupExpansionRead (ask [4, 0, 1, 0, 127, 0, 0, 0])) upWindow) = some (stNotFound, 0, []) := by decide

theorem test_report_read : let d : Dev := { up with adm := { up.adm with report := some { paths := 5, generation := 2, entries := [] } } }
    Met d 0x0607 (ask [0, 0, 0, 0, 127, 0, 0, 0]) (fun _ bs => 16 + 32 * le bs 4 2) (fun d rq bs => bs.length = 8 ∧
      layoutOk [fr 0 1 0 2, fa 2 2, fr 4 2 1 (if reqBulkRsp rq then 65535 else 127)] bs = true ∧ d.adm.report.isSome = true) ∧
    ((reply (after (.admReportRead (ask [0, 0, 0, 0, 127, 0, 0, 0])) d)).map (fun x => (le x.2.2 0 2, le x.2.2 2 2, le x.2.2 4 4))) = some (0, 0, 5) ∧
    Met up 0x0607 (ask [0, 0, 0, 0, 127, 0, 0, 0]) (fun _ bs => 16 + 32 * le bs 4 2) (fun d rq bs => bs.length = 8 ∧
      layoutOk [fr 0 1 0 2, fa 2 2, fr 4 2 1 (if reqBulkRsp rq then 65535 else 127)] bs = true ∧ d.adm.report = none) ∧
    reply (after (.admReportRead (ask [0, 0, 0, 0, 127, 0, 0, 0])) up) = some (stNotFound, 0, []) := by decide

/-! ## CAN -/

/-- CAN channel 2 in MODE 1 with BOFF_AUTO, BOFF_FLUSH and a delay of 7 ms, its bus error active. -/
def canCh2 : CanCh := { canCh0 with cfg := [2, 0x31] ++ zeros 14 ++ leb 2 7 ++ zeros 14 }

/-- Frames of identifier 5 and 3, buffered. -/
def tx5 : CanTx := { frame := can 5, pdu := none, latest := none }
/-- The one of identifier 3. -/
def tx3 : CanTx := { tx5 with frame := can 3 }

/-- The block with that channel in some state. -/
def onCan (c : CanCh) : Dev := { up with gateway := { up.gateway with can := [(2, c)] } }

/-- A source PDU of kind CAN: index 1, channel 2, KEY 5, LENGTH 8. -/
def src1 : SrcPdu :=
  { cfg := leb 2 1 ++ [0, 0, 0, 2] ++ leb 2 8 ++ leb 8 5 ++ zeros 4 ++ leb 4 0 ++ leb 2 0 ++ leb 2 0xFFFF ++ leb 4 1000 ++ zeros 64, content := zeros 8
    time := 0, received := false, timedOut := false, deadline := some 5, acfSeq := none }

theorem test_can_received : let d := onCan canCh2
    let e : Dev := { d with gateway := { d.gateway with srcs := [(1, src1)] } }
    d.canOn 2 = true ∧ d.canOn 3 = false ∧ d.domainOf (canPort 3) = none ∧ after (.canFrameReceived 3 (can 5)) d = d ∧
    (after (.canFrameReceived 2 { can 5 with fd := true }) d).counter 8 (2 * 32 + 15) = 1 ∧
    (after (.canProtocolException 2) d).counter 8 (2 * 32 + 15) = 1 ∧
    (canCh2.accepts (can 5) = true ∧ d.canSource 2 (can 5) = none ∧ (after (.canFrameReceived 2 (can 5)) d).counter 8 (2 * 32 + 2) = 1) ∧
    ((after (.canFrameReceived 2 (can 5)) (onCan { canCh2 with filters := [(0, 2 ^ 30 + 6, 2 ^ 29 - 1)] })).counter 8 (2 * 32 + 1) = 1) ∧
    e.canSource 2 (can 5) = some (1, src1) ∧
    (let x := (after (.canFrameReceived 2 (can 5)) e).gateway
     (x.urgent ++ x.normal).map (fun r => (r.src, r.bytes)) = [(1, [])]) := by decide

theorem test_can_waits : let d := onCan { canCh2 with quietUntil := 22000 }
    d.canOn 2 = true ∧ d.canWaits 2 = true ∧ after (.canFrameReceived 2 (can 5)) d = d ∧ after (.canProtocolException 2) d = d ∧
    after (.canArbitrationStart 2 true) d = d ∧ { d with uptime := 22000 }.canWaits 2 = false ∧ (onCan canCh2).canWaits 2 = false ∧
    ((after (.canProtocolException 2) (onCan canCh2)).canCh 2).quietUntil = ceilDiv (11 * (canBitPs canCh2.cfg).1) 1000 := by decide

theorem test_can_filters : let c := { canCh0 with filters := [(0, 2 ^ 30 + 5, 2 ^ 29 - 1), (1, 2 ^ 30 + 2 ^ 29 + 6, 2 ^ 30 - 1)] }
    c.accepts (can 5) = true ∧ c.accepts (can 6) = false ∧ c.accepts { can 6 with ext := true } = true ∧
    ({ canCh0 with filters := [(0, 2 * 2 ^ 30 + 5, 2 ^ 29 - 1)] } : CanCh).accepts (can 5) = false := by decide

theorem test_can_arbitration : let d := onCan { canCh2 with bufs := [tx5, tx3] }
    d.canSends 2 = true ∧ firstTx [tx5, tx3] = some tx3 ∧ arbKey (can 3) < arbKey { can 3 with ext := true, id := 3 * 2 ^ 18 } ∧
    (after (.canArbitrationStart 2 true) d).outs = [.can 2 (can 3)] ∧ ((after (.canArbitrationStart 2 true) d).canCh 2).sending = some tx3 ∧
    ((after (.canArbitrationStart 2 true) d).canCh 2).bufs = [tx5] ∧ ((after (.canArbitrationStart 2 false) d).canCh 2).bufs = [tx5, tx3] ∧
    (after (.canArbitrationStart 2 false) d).counter 8 (2 * 32 + 8) = 1 ∧ after (.canArbitrationStart 3 true) d = d ∧
    (let e := onCan { canCh2 with bufs := [{ tx5 with latest := some 4 }, tx3] }
     ((after (.canTxLate 2) ({ e with time := { e.time with clock := { e.time.clock with ns := 13 } } } : Dev)).canCh 2).bufs = [tx3]) := by decide

theorem test_can_complete : let d := onCan { canCh2 with sending := some tx3, bufs := [tx5], tec := 9 }
    (d.canCh 2).sending = some tx3 ∧ bit (byteAt (d.canCh 2).cfg 0x0C) 0 = false ∧ ((after (.canTxComplete 2 []) d).canCh 2).sending = none ∧
    ((after (.canTxComplete 2 []) d).canCh 2).tec = 8 ∧ after (.canTxComplete 3 []) d = d := by decide

theorem test_can_errors : let rxErr : CanError := { kind := 4, transmitting := false, dominantAfter := true, exempt := false }
    let txErr : CanError := { rxErr with transmitting := true }
    let d := onCan { canCh2 with sending := some tx3, bufs := [tx5], tec := 248, errState := 1 }
    ((after (.canBusError 2 rxErr) d).canCh 2).recCnt = 8 ∧ ((after (.canBusError 2 { rxErr with dominantAfter := false }) d).canCh 2).recCnt = 1 ∧
    (let c := (after (.canBusError 2 txErr) d).canCh 2
     c.tec = 256 ∧ c.busOff = true ∧ c.sending = none ∧ c.bufs = [] ∧ c.boffDeadline = some 7000000 ∧ c.errState = 2) ∧
    (after (.canBusError 2 txErr) d).host.history.map (fun x => (x.code, x.object, x.data)) = [(0x0801, 2, 2 + 255 * 256)] ∧
    (let c := (after (.canBusError 2 txErr) (onCan { canCh2 with sending := some tx3, bufs := [tx5], tec := 120 })).canCh 2
     c.tec = 128 ∧ c.errState = 1 ∧ c.busOff = false ∧ c.sending = none ∧ c.bufs = [tx3, tx5]) ∧
    after (.canBusError 3 rxErr) d = d := by decide

theorem test_bus_off : let c := { canCh2 with busOff := true, tec := 256, errState := 2, boffDeadline := some 5 }
    let d : Dev := { onCan c with uptime := 6 }
    (d.canCh 2).busOff = true ∧ ((after (.busOffDelayExpiry 2) d).canCh 2).recovering = true ∧
    after (.busOffDelayExpiry 2) { d with uptime := 5 } = { d with uptime := 5 } ∧
    (let e := after (.busOffDelayExpiry 2) d
     (e.canCh 2).recovering = true ∧ e.portSleeping (canPort 2) = false ∧
     (fun (x : CanCh) => (x.busOff, x.tec, x.recCnt, x.errState)) ((after (.busOffRecoveryComplete 2) e).canCh 2) = (false, 0, 0, 0)) ∧
    after (.busOffRecoveryComplete 2) d = d := by decide

/-! ## PDUs -/

/-- A destination PDU of kind ETH: index 1, CYCLIC every 10 us at 3 us, LENGTH 4, MIN_GAP_US 2, OFFSET 16, no template. -/
def dst1 : DstPdu :=
  { cfg := leb 2 1 ++ [0, 1, 1, 0] ++ leb 2 4 ++ leb 4 0 ++ leb 4 10 ++ leb 4 3 ++ leb 4 2 ++ leb 2 16 ++ leb 2 0 ++ zeros 212, content := [1, 2, 3, 4]
    lastSend := none, lastSendUp := 0, sentContent := [], deferred := none, nextCycle := 3000, acfSeq := 255, held := [], heldUntil := 5 }

/-- The block with it. -/
def onDst (q : DstPdu) : Dev := { up with gateway := { up.gateway with dsts := [(1, q)] } }

theorem test_destination_sends : let d := onDst dst1
    let at_ := fun (n : Nat) (d : Dev) => { d with uptime := n, time := { d.time with clock := { d.time.clock with ns := n } } }
    dst1.cycle = some (10000, 3000) ∧ after (.dstPduCyclicSend 1) (at_ 2999 d) = at_ 2999 d ∧
    (tabFind (after (.dstPduCyclicSend 1) (at_ 3000 d)).gateway.dsts 1).map (fun q => (q.nextCycle, q.lastSendUp)) = some (13000, 3000) ∧
    (tabGet [] (after (.dstPduCyclicSend 1) (at_ 3000 d)).fabric.fifos 8).map (fun x => (slice x.bytes 16 4, x.time)) = [([1, 2, 3, 4], 3000)] ∧
    (let e := at_ 13000 (onDst { dst1 with lastSend := some 12000, lastSendUp := 12000, nextCycle := 13000 })
     (tabFind (after (.dstPduCyclicSend 1) e).gateway.dsts 1).map (fun q => q.deferred) = some (some 14000) ∧
     (tabFind (after (.dstPduDeferredSend 1) (at_ 14000 (after (.dstPduCyclicSend 1) e))).gateway.dsts 1).map (fun q => (q.deferred, q.lastSendUp)) =
       some (none, 14000) ∧
     after (.dstPduDeferredSend 1) (after (.dstPduCyclicSend 1) e) = after (.dstPduCyclicSend 1) e) := by decide

theorem test_acf_out : let m : AcfMsg := { bus := 1, frame := can 5, arrival := 7, domain := 0 }
    let q := { dst1 with cfg := leb 2 1 ++ [0, 2] ++ zeros 256, held := [m] }
    let d : Dev := { onDst q with uptime := 13 }
    tabFind d.gateway.dsts 1 = some q ∧ d.overBus 5 = true ∧ d.acfAwaits 1 5 = false ∧ (tabFind (after (.acfOutAccumExpiry 1) d).gateway.dsts 1).map (fun q => (q.held, q.acfSeq)) = some ([], 0) ∧
    after (.acfOutAccumExpiry 1) { d with uptime := 12 } = { d with uptime := 12 } ∧
    (let r : Reception := { src := 1, bytes := [], arrival := 5, up := 5, domain := 0, quality := 0, errNs := 0, can := some (can 5), msgs := []
                            latest := none, started := none }
     let e : Dev := { d with gateway := { d.gateway with srcs := [(1, { src1 with cfg := patch src1.cfg 0x1A (leb 2 1) })], normal := [r] } }
     e.acfAwaits 1 5 = true ∧ after (.acfOutAccumExpiry 1) e = e) := by decide

theorem test_signal_bits : signalBits 8 12 false = [8, 9, 10, 11, 12, 13, 14, 15, 16, 17, 18, 19] ∧
    signalBits 7 12 true = [12, 13, 14, 15, 0, 1, 2, 3, 4, 5, 6, 7] ∧ bitsWithin (signalBits 7 12 true) 2 = true ∧
    signalPut (zeros 2) (signalBits 7 12 true) 0xABC = [0xAB, 0xC0] ∧ signalGet [0xAB, 0xC0] (signalBits 7 12 true) = 0xABC ∧
    signalPut (zeros 2) (signalBits 0 12 false) 0xABC = [0xBC, 0x0A] := by decide

theorem test_conversion : let r := { routeOf 0 with srcLen := 8, srcSigned := true, dstLen := 8, dstSigned := true }
    let sc : Scale := { factor := 131072, offset := 3, min := -100, max := 100, subst := 0 }
    r.convert none 0xFF = (0xFF, false) ∧ r.convert (some sc) 5 = (13, false) ∧ r.convert (some sc) 0x80 = (156, true) ∧
    r.convert (some { sc with max := 1000 }) 100 = (127, true) ∧ { r with dstSigned := false }.convert none 0xFF = (0, true) := by decide

/-- A route of source PDU 1: its bits 0 to 7 to destination PDU 1's bits 8 to 15, TRIGGER. -/
def route1 : Nat := 1 * 2 ^ 82 + 8 * 2 ^ 65 + 8 * 2 ^ 52 + 8 * 2 ^ 46 + 2 ^ 30

/-- Source PDU 1 of one route, from index 0. -/
def src1r : SrcPdu := { src1 with cfg := patch src1.cfg 0x18 (leb 2 1) }

/-- A reception of source PDU 1. -/
def recep (up : Nat) : Reception :=
  { src := 1, bytes := [0x5A, 0, 0, 0, 0, 0, 0, 0], arrival := 5, up := up, domain := 0, quality := 0, errNs := 0, can := none, msgs := [], latest := none
    started := none }

theorem test_route_step : let d : Dev := { onDst dst1 with gateway := { (onDst dst1).gateway with
      srcs := [(1, src1r)], routes := [(0, route1)], urgent := [recep 4], normal := [recep 5] }, uptime := 9 }
    (after .sgeRouteStep d).gateway.urgent = [] ∧ (after .sgeRouteStep d).gateway.normal = [recep 5] ∧
    (tabFind (after .sgeRouteStep d).gateway.dsts 1).map (fun q => q.content) = some [1, 0x5A, 3, 4] ∧
    (tabFind (d.receive (recep 9)).gateway.srcs 1).map (fun q => (q.content, q.received, q.deadline)) =
      some ([0x5A, 0, 0, 0, 0, 0, 0, 0], true, some 1000009) ∧ after .sgeRouteStep up = up ∧
    d.gateway.head = some (recep 4) ∧ (d.free.2.granted (d.sgeRequester src1r) 64 d.free.1).isSome = true ∧
    (let e : Dev := { d with arb := { d.arb with holder := some { req := 0, forced := true, left := 9 } } }
     (e.free.2.granted (e.sgeRequester src1r) 64 e.free.1).isSome = false ∧ (after .sgeRouteStep e).gateway = d.gateway) ∧
    (let e : Dev := { d with gateway := { d.gateway with srcs := [] } }
     tabFind e.gateway.srcs 1 = none ∧ (after .sgeRouteStep e).gateway.urgent = []) := by decide

theorem test_legal_reception_waits_for_its_transfer : let q := { src1r with cfg := patch src1r.cfg 4 [1] }
    let d : Dev := { up with gateway := { up.gateway with srcs := [(1, q)], urgent := [recep 4] }
                             arb := { up.arb with holder := some { req := 0, forced := true, left := 9 } } }
    d.gateway.head = some (recep 4) ∧ q.legal = true ∧ (recep 4).delivered = false ∧
    (d.free.2.granted (if q.kind = 1 then 6 else 4) 64 d.free.1).isSome = false ∧ (after .sgeRouteStep d).gateway = d.gateway := by decide

theorem test_source_timeout : let d : Dev := { up with gateway := { up.gateway with srcs := [(1, src1)] }, uptime := 13 }
    tabFind d.gateway.srcs 1 = some src1 ∧ src1.deadline.any d.overBus = true ∧
    (tabFind (after (.srcPduTimeout 1) d).gateway.srcs 1).map (fun q => (q.timedOut, q.deadline)) = some (true, none) ∧
    after (.srcPduTimeout 1) { d with uptime := 12 } = { d with uptime := 12 } := by decide

/-- A frame of SGE at P94 for a destination port. -/
def p94 (bs : Bytes) (dest : Nat) : Dev :=
  holding (onCan canCh2) [{ stored 5 with bytes := bs, copies := [{ copyTo 94 dest 3 0 none with staged := true }] }]

/-- A serial encapsulation frame for channel 1 of two bytes. -/
def serial1 : Bytes := [2, 0, 0, 0, 0, 1, 2, 0, 0, 0, 0, 2, 0x88, 0xB5, 2, 1, 1, 0] ++ zeros 12 ++ beb 2 2 ++ [0xAA, 0xBB]

/-- A CAN brief message of identifier 5 in an NTSCF frame. -/
def tunnel5 : Bytes :=
  [2, 0, 0, 0, 0, 1, 2, 0, 0, 0, 0, 2, 0x22, 0xF0, 0x82, 0x80, 12, 0] ++ zeros 8 ++ [4, 3, 0xC0, 0] ++ beb 4 5 ++ [0xAB, 0, 0, 0]

theorem test_p94 : (p94 tunnel5 52).internalHead 94 =
      some ({ stored 5 with bytes := tunnel5, copies := [{ copyTo 94 52 3 0 none with staged := true }] }, { copyTo 94 52 3 0 none with staged := true }) ∧
    (p94 tunnel5 52).passes 94 ({ stored 5 with bytes := tunnel5, copies := [{ copyTo 94 52 3 0 none with staged := true }] },
      { copyTo 94 52 3 0 none with staged := true }) = true ∧
    ((after .p94FrameToChannel (p94 tunnel5 52)).canCh 2).bufs.map (fun t => (t.frame.id, t.frame.data)) = [(5, [0xAB])] ∧
    isSerialFrame serial1 = true ∧ isSerialFrame tunnel5 = false ∧ (after .p94FrameToChannel (p94 tunnel5 83)).counter 8 8192 = 1 ∧
    (after .p94FrameToGateway (p94 tunnel5 94)).counter 8 8193 = 1 := by decide

theorem test_p94_serial : let raw : SerialCh := { serialCh0 with cfg := [1, 2, 0, 0] ++ leb 4 115200 ++ zeros 16 }
    let d := { p94 serial1 83 with gateway := { (p94 serial1 83).gateway with serial := [(1, raw)] } }
    (after .p94FrameToChannel d).outs = [.serial 1 false [0xAA, 0xBB]] ∧ (after .p94FrameToChannel d).counter 8 (1024 + 16 + 1) = 2 ∧
    (let g := holding d [{ stored 5 with bytes := serial1, copies := [{ copyTo 94 94 3 0 none with staged := true }] }]
     (after .p94FrameToGateway g).outs = [.serial 1 false [0xAA, 0xBB]] ∧
     (let w := holding d [{ stored 5 with bytes := patch serial1 16 [8], copies := [{ copyTo 94 94 3 0 none with staged := true }] }]
      isSerialFrame (patch serial1 16 [8]) = true ∧ (after .p94FrameToGateway w).counter 8 8192 = 1)) ∧
    (let e : Dev := d.modPort 94 (fun q => { q with maxFrame := 20 })
     (after .p94FrameToChannel e).outs = [] ∧ (after .p94FrameToChannel e).counter 2 (94 * 64 + 20) = 1) := by decide

/-! ## Serial channels and polls -/

/-- A raw channel of 115,200 Bd, 8N1, GAP_HALF 7, MAX_BYTES 4. -/
def raw1 : SerialCh := { serialCh0 with cfg := [1, 2, 0, 0] ++ leb 4 115200 ++ [0, 7] ++ leb 2 4 ++ zeros 12 }

/-- A poll entry of channel 1: index 3, function 3 of slave 17, address 0x6B, quantity 3, RETRIES 1, periodic every 2 ms from 1 ms,
RESPONSE_MS 9. -/
def poll3 : PollEntry :=
  { cfg := leb 2 3 ++ [0, 1, 17, 3] ++ leb 2 0x6B ++ leb 2 3 ++ [1, 1] ++ leb 4 2 ++ leb 4 1 ++ leb 2 9 ++ leb 2 0xFFFF ++ leb 2 0 ++ zeros 6, nextDue := 1000000 }

/-- A Modbus channel 1 and that entry. -/
def modbus (c : SerialCh) : Dev :=
  { up with gateway := { up.gateway with
      serial := [(1, { c with cfg := [1, 1, 0, 0] ++ leb 4 115200 ++ [0, 0] ++ leb 2 0 ++ leb 4 10 ++ zeros 8 })], polls := [(3, poll3)] } }

/-- A character held. -/
def held1 (v : Nat) : HeldChar := { value := v, flags := 0, start := 0, ends := 0 }

theorem test_serial_char : let on := fun (c : SerialCh) => ({ up with gateway := { up.gateway with serial := [(1, c)] } } : Dev)
    let x : SerialChar := { value := 0x41, parity := false, framing := false, brk := false }
    ((on raw1).serialCh 1).mode = 2 ∧ ((on raw1).serialCh 1).driving 0 = false ∧
    (((after (.serialCharReceived 1 x) (on { raw1 with brk := true })).serialCh 1).rx.map (fun h => (h.value, h.flags))) = [(0x41, 1)] ∧
    ((after (.serialCharReceived 1 x) (on { raw1 with rx := List.replicate 4096 (held1 0) })).serialCh 1).lost = true ∧
    after (.serialCharReceived 2 x) (on raw1) = on raw1 ∧
    ((after (.serialCharReceived 1 { x with brk := true }) (on raw1)).serialCh 1).brk = true ∧
    ((after (.rawMessageClose 1) (on { raw1 with rx := [held1 1, held1 2, held1 3, held1 4, held1 5] })).serialCh 1).rx = [held1 5] ∧
    (let d : Dev := on { raw1 with rx := [held1 1] }
     after (.rawMessageClose 1) d = d ∧ raw1.halfChars 7 = 303843 ∧
     ((after (.rawMessageClose 1) { d with uptime := 303843 }).serialCh 1).rx = [] ∧
     after (.rawMessageClose 1) { d with uptime := 303842 } = { d with uptime := 303842 }) := by decide

theorem test_serial_char_kept_or_not : let on := fun (c : SerialCh) => ({ up with gateway := { up.gateway with serial := [(1, c)] } } : Dev)
    let x : SerialChar := { value := 0x41, parity := false, framing := false, brk := false }
    ((after (.serialCharReceived 1 { x with parity := true }) (on raw1)).serialCh 1).rx.map (fun h => h.flags) = [2] ∧
    (let d := modbus serialCh0
     (d.serialCh 1).mode = 1 ∧ (after (.serialCharReceived 1 x) d).serialCh 1 = d.serialCh 1) ∧
    (let d := on { raw1 with txUntil := 100, cfg := patch raw1.cfg 2 [16] }
     (d.serialCh 1).driving 0 = true ∧ after (.serialCharReceived 1 x) d = d) := by decide

theorem test_poll_due : let d := modbus serialCh0
    let at_ := fun (n : Nat) => ({ d with time := { d.time with clock := { d.time.clock with ns := n } } } : Dev)
    poll3.period = some (2000000, 1000000) ∧ after (.pollDue 3) (at_ 999999) = at_ 999999 ∧
    (tabFind (after (.pollDue 3) (at_ 1000000)).gateway.polls 3).map (fun e => e.nextDue) = some 3000000 ∧
    ((after (.pollDue 3) (at_ 1000000)).serialCh 1).due = [(1000000, 3)] ∧ after (.pollDue 4) d = d ∧
    (let w : Dev := { (at_ 1000000) with gateway := { (modbus { serialCh0 with due := [(1000000, 3)] }).gateway with polls := d.gateway.polls } }
     (after (.pollDue 3) w).counter 8 8207 = 1 ∧ ((after (.pollDue 3) w).serialCh 1).due = [(1000000, 3)]) := by decide

/-- The transaction of entry 3 that runs on channel 1. -/
def ptxn (attempt : Nat) : PollTxn := { entry := 3, onDemand := true, attempt := attempt, deadline := 9000000, started := 0 }

theorem test_poll_start : let d := modbus { serialCh0 with onDemand := [3] }
    let e := after (.pollTransactionStart 1) d
    (d.serialCh 1).mode = 1 ∧ (d.serialCh 1).txn = none ∧ d.mayDrive = true ∧ ((d.serialCh 1).nextTxn 0).isSome = true ∧
    e.outs = [.serial 1 false [0x11, 0x03, 0x00, 0x6B, 0x00, 0x03, 0x76, 0x87]] ∧ (e.serialCh 1).onDemand = [] ∧
    (e.serialCh 1).txn.map (fun t => (t.attempt, t.deadline)) = some (1, (e.serialCh 1).txUntil + 9000000) ∧
    (((modbus { serialCh0 with retry := some (ptxn 1), onDemand := [3] }).serialCh 1).nextTxn 0).map (fun x => x.1.attempt) = some 2 ∧
    after (.pollTransactionStart 1) e = e ∧ after (.pollTransactionStart 2) d = d := by decide

theorem test_poll_end : let run := fun (a : Nat) => modbus { serialCh0 with txn := some (ptxn a) }
    let late := fun (a : Nat) => ({ run a with uptime := 9000013 } : Dev)
    let good := [0x11, 0x03, 6, 1, 2, 3, 4, 5, 6] ++ leb 2 (crc16 [0x11, 0x03, 6, 1, 2, 3, 4, 5, 6])
    after (.pollResponseTimeout 1) (run 1) = run 1 ∧ ((after (.pollResponseTimeout 1) (late 1)).serialCh 1).retry = some (ptxn 1) ∧
    ((after (.pollResponseTimeout 1) (late 2)).serialCh 1).retry = none ∧
    (after (.pollResponseTimeout 1) (late 2)).host.history.map (fun x => (x.code, x.object, x.data)) = [(0x0803, 3, 1)] ∧
    replyFramed poll3 good false = true ∧ replyData poll3 good = some [1, 2, 3, 4, 5, 6] ∧
    ((after (.pollReplyReceived 1 good []) (run 1)).serialCh 1).txn = none ∧
    ((after (.pollReplyReceived 1 good []) (run 1)).serialCh 1).readyAt = 10000 ∧
    (after (.pollReplyReceived 1 good []) (run 1)).counter 8 (1152 + 3 * 4) = 1 ∧ replyFramed poll3 good true = false ∧
    ((after (.pollReplyReceived 1 good [0, 0, 0, 750001]) (run 1)).serialCh 1).retry = some (ptxn 1) ∧ after (.pollReplyReceived 2 good []) (run 1) = run 1 := by
  decide

theorem test_poll_other_replies : let run : Dev := modbus { serialCh0 with txn := some (ptxn 1) }
    let crc := fun (bs : Bytes) => bs ++ leb 2 (crc16 bs)
    ((run.serialCh 1).heard 0 (lastFrame (run.serialCh 1).t35 (replyChars (crc [0x11, 0x83, 2]) []))).length = 5 ∧
    (after (.pollReplyReceived 1 (crc [0x11, 0x83, 2]) []) run).host.history.map (fun x => (x.code, x.object, x.data)) = [(0x0803, 3, 3 + 2 * 256)] ∧
    ((after (.pollReplyReceived 1 (crc [0x12, 3, 2, 0, 0]) []) run).serialCh 1).retry = some (ptxn 1) ∧
    (modbus serialCh0).unsolicited 1 = modbus serialCh0 ∧
    (after (.pollReplyReceived 1 (crc [0x11, 3]) []) (modbus serialCh0)).counter 8 (1024 + 16) = 4 ∧
    ((after (.pollReplyReceived 1 (crc [0x11, 3]) []) { run with uptime := 9000013 }).serialCh 1).txn = some (ptxn 1) := by decide

/-! ## Gateway commands -/

theorem test_gateway_commands : let c := { canCh2 with busOff := true, tec := 256, recCnt := 3 }
    Met (onCan c) 0x0809 (ask [2, 0, 0, 0]) (rspMax 0) (fun d _ bs => bs.length = 4 ∧ layoutOk [fr 0 1 0 31] bs = true ∧
      (d.canCh (byteAt bs 0)).busOff = true) ∧ ((after (.gwCanRecover (ask [2, 0, 0, 0])) (onCan c)).canCh 2).recovering = true ∧
    Met up 0x0809 (ask [2, 0, 0, 0]) (rspMax 0) (fun d _ bs => bs.length = 4 ∧ layoutOk [fr 0 1 0 31] bs = true ∧
      (d.canCh (byteAt bs 0)).busOff = false) ∧ reply (after (.gwCanRecover (ask [2, 0, 0, 0])) up) = some (stWrongMode, 0, []) ∧
    reply (after (.gwCanStatus (ask [2, 0, 0, 0])) (onCan c)) = some (0, 0, [2, 255, 3, 0, 0, 0, 0, 0]) ∧
    reply (after (.gwCanStatus (ask [3, 0, 0, 0])) (onCan c)) = some (0, 0, [3, 0, 0, 0, 0, 0, 0, 0]) ∧
    Met up 0x080B (ask [1, 0, 0, 0]) (rspMax 8) (fun _ _ bs => bs.length = 4 ∧ layoutOk [fr 0 1 0 7] bs = true) ∧
    ((reply (after (.gwSerialStatus (ask [1, 0, 0, 0])) (modbus serialCh0))).map (fun x => x.2.2.drop 4)) = some [255, 255, 0, 0] := by decide

theorem test_pdu_commands : let d := onDst dst1
    Met d 0x080C (ask [1, 0, 1, 0]) (fun d bs => 20 + pduLength d bs) (fun d _ bs => bs.length = 4 ∧ layoutOk [fr 0 1 0 1, fr 2 2 0 16383] bs = true ∧
      byteAt bs 0 = 1 ∧ tabHas d.gateway.dsts (le bs 2 2) = true) ∧
    reply (after (.gwPduRead (ask [1, 0, 1, 0])) d) = some (0, 0, [4, 0, 4, 0] ++ zeros 16 ++ [1, 2, 3, 4]) ∧
    Met d 0x080D (ask [1, 0, 2, 0, 2, 0, 0, 0, 8, 9]) (rspMax 0) (fun d _ bs => bs.length = 8 + le bs 4 2 ∧
      layoutOk [fr 0 2 0 16383, fa 2 2, fr 4 2 0 256] (bs.take 8) = true ∧
      ∃ q ∈ tabFind d.gateway.dsts (le bs 0 2), le bs 2 2 + le bs 4 2 ≤ q.len) ∧
    (tabFind (after (.gwPduSend (ask [1, 0, 2, 0, 2, 0, 0, 0, 8, 9])) d).gateway.dsts 1).map (fun q => (q.content, q.sentContent)) =
      some ([1, 2, 8, 9], [1, 2, 8, 9]) := by decide

theorem test_poll_now : Met (modbus serialCh0) 0x080E (ask [3, 0, 0, 0]) (rspMax 0) (fun d _ bs => bs.length = 4 ∧ layoutOk [fr 0 2 0 1023] bs = true ∧
      ∃ e ∈ tabFind d.gateway.polls (le bs 0 2), le bs 0 2 ∉ (d.serialCh e.channel).onDemand ∧ (d.serialCh e.channel).mode = 1) ∧
    ((after (.gwPollNow (ask [3, 0, 0, 0])) (modbus serialCh0)).serialCh 1).onDemand = [3] ∧
    Met (modbus { serialCh0 with onDemand := [3] }) 0x080E (ask [3, 0, 0, 0]) (rspMax 0) (fun d _ bs => bs.length = 4 ∧
      layoutOk [fr 0 2 0 1023] bs = true ∧ ∃ e ∈ tabFind d.gateway.polls (le bs 0 2), le bs 0 2 ∈ (d.serialCh e.channel).onDemand) ∧
    reply (after (.gwPollNow (ask [3, 0, 0, 0])) (modbus { serialCh0 with onDemand := [3] })) = some (stBusy, 0, []) := by decide

/-! ## Time -/

/-- A sample of the working slot: theta ns, rate 0, grandmaster 7. -/
def sample (theta : Int) : SyncSample :=
  { sync7 0 with origin := 1000000000, corr := -(theta * 65536), stamp := { stamp0 with sampled := 1000000000 } }

/-- Slot 0 in a state, at grandmaster 7. -/
def slotIn (st : SlotState) : Slot := { slot0 with enable := true, state := st, gmId := 7, slave := 0, portMask := 1, announceDeadline := some 5, syncDeadline := some 5 }

/-- The block with slot 0 in a state, at one second. -/
def upTime (s : Slot) : Dev :=
  { up with time := { up.time with slots := [(0, s)], ports := [(0, { timePort0 with asCapable := true })], clock := { up.time.clock with sec := 1 } }, uptime := 6 }

theorem test_clock_tick : let c : Clock := { sec := 2 ^ 48 - 1, ns := 999999996, frac := 2 ^ 32 - 1, increment := 4 * 2 ^ 32 + 1 }
    c.tick.ns = 0 + 1 ∧ c.tick.frac = 0 ∧ c.tick.sec = 0 := by decide

theorem test_sync_sample : let d := upTime (slotIn .acquire)
    let e := after (.syncSample 0 (sample 50)) d
    d.theta (sample 50) = 50 ∧ d.samplesFrom 0 0 = true ∧ d.sampleSteps 0 50 = false ∧ rateOk 0 = true ∧ (d.slot 0).gmId = (sample 50).gmId ∧ d.time.autoSwitch = false ∧
    (e.slot 0).theta = 50 ∧ (e.slot 0).goodRun = 1 ∧ (e.slot 0).syncDeadline = some (6 + 375000000) ∧ e.time.clock.sec = 1 ∧
    e.time.clock.ns = 0 ∧ e.time.clock.increment = servoIncrement 0 (50 * 0xB333 + 50 * 0x0CCD) ∧ e.time.clock.increment < 2 ^ 34 ∧
    rateOk (200 * 2 ^ 41 / 1000000 + 1) = false ∧
    (after (.syncSample 0 { sample 50 with rate := 200 * 2 ^ 41 / 1000000 + 1 }) d).counter 9 (1024 + 2) = 1 ∧
    (after (.syncSample 0 (sample 50)) (upTime (slotIn .grandmaster))) = (upTime (slotIn .grandmaster)).gptpHeard 0 ∧
    after (.syncSample 0 { sample 50 with port := 1 }) d = d.gptpHeard 1 ∧
    after (.syncSample 0 (sample 50)) { d with time := { d.time with ports := [] } } = ({ d with time := { d.time with ports := [] } } : Dev).gptpHeard 0 := by
  decide

theorem test_offset_of_a_sample : let d : Dev := { upTime (slotIn .acquire) with time := { (upTime (slotIn .acquire)).time with
      ports := [(0, { timePort0 with asCapable := true, meanDelay := 65536 * 40, asym := 65536 * 2 })] } }
    d.theta { sample 0 with origin := 999999900, corr := 65536 * 8 + 32768 } = 50 ∧
    d.theta { sample 0 with origin := 999999900, corr := 65536 * 8 + 32769 } = 49 ∧
    d.theta { sync7 90 with origin := 900, stamp := { stamp0 with sampled := 1000 } } = 100 := by decide

theorem test_lock : let s := { slotIn .acquire with goodRun := 7, sampled := true }
    ((after (.syncSample 0 (sample 100)) (upTime s)).slot 0).state = .locked ∧ ((after (.syncSample 0 (sample 101)) (upTime s)).slot 0).state = .acquire ∧
    ((after (.syncSample 0 (sample 401)) (upTime { slotIn .locked with badRun := 2, sampled := true })).slot 0).state = .acquire ∧
    (after (.syncSample 0 (sample 100)) (upTime s)).time.quality = 0 := by decide

theorem test_clock_step : let d := upTime (slotIn .acquire)
    let e := after (.syncSample 0 (sample 1000001)) d
    d.sampleSteps 0 1000001 = true ∧ d.sampleSteps 0 1000000 = false ∧ e.time.clock.sec = 0 ∧ e.time.clock.ns = 998999999 ∧
    (e.slot 0).theta = 0 ∧ e.counter 9 1104 = 1 := by decide

theorem test_receipt_timeouts : let d := upTime (slotIn .locked)
    let best : BmcaResult := selfBest
    d.overO (d.slot 0).syncDeadline = true ∧ ((after (.syncReceiptTimeout 0) d).slot 0).state = .holdover ∧
    (after (.syncReceiptTimeout 0) d).time.quality = 2 ∧ ((after (.syncReceiptTimeout 0) (upTime (slotIn .acquire))).slot 0).state = .listening ∧
    after (.syncReceiptTimeout 0) { d with uptime := 5 } = { d with uptime := 5 } ∧
    ((after (.announceReceiptTimeout 0 best) d).slot 0).state = .listening ∧
    ((after (.announceReceiptTimeout 0 best) (upTime { slotIn .locked with flags := 1 })).slot 0).state = .grandmaster ∧
    after (.announceReceiptTimeout 0 best) { d with uptime := 5 } = { d with uptime := 5 } ∧
    (let x := upTime { slotIn .locked with flags := 2 }
     bit (x.slot 0).flags 1 = true ∧ after (.announceReceiptTimeout 0 best) x = x.putSlot 0 { x.slot 0 with announceDeadline := none }) ∧
    (let other : BmcaResult := { self := false, port := 0, gmId := 9, stepsRemoved := 4 }
     bit (d.slot 0).portMask 0 = true ∧ (fun (z : Slot) => (z.slave, z.stepsRemoved)) ((after (.announceReceiptTimeout 0 other) d).slot 0) = (0, 4)) ∧
    (let e : Dev := { upTime { slotIn .holdover with holdoverStart := 0 } with uptime := 10000001000000000 }
     e.qualityNow = 3 ∧ (after .holdoverBudgetExceeded e).time.quality = 3 ∧
     after .holdoverBudgetExceeded (after .holdoverBudgetExceeded e) = after .holdoverBudgetExceeded e) := by decide

/-- A peer delay response of a mean link delay of `n` ns to a request sent at 1,000 ns. -/
def pdelay (n : Nat) : GptpMsg :=
  { domain := 0, kind := 2, stamp := { stamp0 with sampled := 1000 + 2 * n + 60 }, t2 := 0, t3 := 60 * 65536, nrr := 0, bmca := selfBest }

theorem test_capability : let port := fun (d : Dev) => tabGet timePort0 d.time.ports 0
    let put := fun (t : TimePort) => let d := upTime (slotIn .acquire)
      ({ d with time := { d.time with ports := [(0, t)] } } : Dev)
    let on := put { timePort0 with peerDelay := true, asCapable := true, pdelayLast := some 0, reqSent := some 1000 }
    ((on.slot 0).enable = true ∧ (on.slot 0).domain = (pdelay 800).domain ∧ (port on).reqSent = some 1000) ∧
    (port (after (.gptpMessageReceived 0 (pdelay 800)) on)).meanDelay = 800 * 65536 ∧
    (port (after (.gptpMessageReceived 0 (pdelay 800)) on)).asCapable = true ∧ (port (after (.gptpMessageReceived 0 (pdelay 801)) on)).asCapable = false ∧
    (port (after (.gptpMessageReceived 0 (pdelay 801)) (put { port on with reqSent := none }))).asCapable = true ∧
    after (.gptpMessageReceived 0 (pdelay 800)) (put timePort0) = (put timePort0).gptpHeard 0 ∧
    (after (.gptpMessageReceived 0 { pdelay 0 with kind := 1 }) on).counter 9 3 = 1 ∧
    (after (.gptpMessageReceived 0 { pdelay 0 with kind := 1, domain := 5 }) on).counter 9 1106 = 1 ∧
    (after (.gptpMessageReceived 34 (pdelay 0)) on).counter 9 (34 * 8 + 2) = 1 ∧
    (port (after (.pdelayTimeout 0) { on with uptime := 2000000000 })).missed = 2 ∧
    (port (after (.pdelayTimeout 0) { on with uptime := 2000000000 })).asCapable = true ∧
    (port (after (.pdelayTimeout 0) { on with uptime := 3000000000 })).asCapable = false ∧
    after (.pdelayTimeout 0) { on with uptime := 999999999 } = { on with uptime := 999999999 } ∧
    (after (.gptpIntervalSend 0 0 .pdelayReq) on).counter 9 3 = 1 ∧ after (.gptpIntervalSend 0 0 .pdelayReq) up = up := by decide

theorem test_timestamp_drain : let d : Dev := { up with time := { up.time with
      clock := { up.time.clock with ns := 251 }, fifos := [(0, { entries := [(0, .host 3 77), (1, .host 4 78)], run := none })] }, uptime := 251 }
    d.now / 250 ≠ d.time.lastDrain / 250 ∧ (after .tsFifoDrain d).time.lastDrain = 251 ∧
    (tabGet tsFifo0 (after .tsFifoDrain d).time.fifos 0).entries = [(1, .host 4 78)] ∧
    (after .tsFifoDrain d).host.history.map (fun x => (x.code, x.object, x.time)) = [(0x0906, 3, 77)] ∧
    after .tsFifoDrain (after .tsFifoDrain d) = after .tsFifoDrain d := by decide

theorem test_beacon : let d : Dev := { up with time := { up.time with
      clock := { up.time.clock with ns := 125000001 }, beacons := [(34, { beacon0 with enable := true, next := 125000000, seq := 9 })] } }
    (d.beacon 34).enable = true ∧ (fun (b : Beacon) => (b.due, b.seq, b.next)) ((after (.beaconDue 34) d).beacon 34) = (true, 9, 250000000) ∧
    after (.beaconDue 34) (after (.beaconDue 34) d) = after (.beaconDue 34) d := by decide

/-- The block with TIME_IO pin 3 in some state. -/
def upPin (q : TimePin) : Dev :=
  { up with time := { up.time with pins := [(3, q)], clock := { up.time.clock with ns := 5000 } } }

theorem test_time_io : let pulse : TimePin := { timePin0 with mode := 1, width := 100, pending := some 5000 }
    let capt : TimePin := { timePin0 with mode := 3, flags := 2, filter := 2, seq := 65535, lost := true }
    let c16 : List Capture := List.replicate 16 { time := 0, edge := 0, flags := 0, seq := 0 }
    (after (.timeIoEdge 3) (upPin pulse)).pin 3 = { pulse with pending := none, activeUntil := some 5100 } ∧
    after (.timeIoEdge 3) (upPin { pulse with pending := some 5001 }) = upPin { pulse with pending := some 5001 } ∧
    after (.timeIoEdge 3) up = up ∧
    (after (.timeIoEdge 3) (upPin { timePin0 with mode := 2, start := 4000, period := 1000, width := 4, k := 1 })).pin 3 =
      { timePin0 with mode := 2, start := 4000, period := 1000, width := 4, k := 2, used := 1, activeUntil := some 5004 } ∧
    ((after (.captureEdge 3 true 2) (upPin capt)).pin 3).captures.map (fun r => (r.edge, r.flags, r.seq)) = [(0, 1, 65535)] ∧
    ((after (.captureEdge 3 true 2) (upPin capt)).pin 3).seq = 0 ∧ after (.captureEdge 3 false 2) (upPin capt) = upPin capt ∧
    after (.captureEdge 3 true 1) (upPin capt) = upPin capt ∧
    ((after (.captureEdge 3 true 2) (upPin { capt with captures := c16, lost := false })).pin 3).lost = true := by decide

theorem test_rtc_sync : (after .rtcSecondSync (upTime slot0)).lantern.rtcS = 1 ∧
    (let d : Dev := { upTime slot0 with lantern := { up.lantern with power := .dormant } }
     after .rtcSecondSync d = d) := by decide

theorem test_time_reads : Met up 0x0906 (ask []) (rspMax 64) (fun _ _ bs => bs = []) ∧
    ((reply (after (.timeStatus (ask [])) (upTime (slotIn .locked)))).map (fun x => (x.2.2.length, x.2.2.take 2, byteAt x.2.2 16))) = some (64, [0, 0], 3) ∧
    Met up 0x0907 (ask []) (rspMax 36) (fun _ _ bs => bs = []) ∧
    ((reply (after (.timeRead (ask [])) (upTime slot0))).map (fun x => (x.2.2.length, x.2.2.take 11))) = some (36, [1, 0, 0, 0, 0, 0, 0, 0, 0, 0, 4]) := by
  decide

theorem test_time_switch : let d : Dev := { upTime (slotIn .holdover) with time := { (upTime (slotIn .holdover)).time with
      slots := [(0, slotIn .holdover), (1, { slotIn .locked with sumTheta := 9, theta := -30, sampleLocal := 1000000000 })] } }
    Met d 0x0908 (ask [1, 0, 0, 0]) (rspMax 8) (fun d _ bs => bs.length = 4 ∧ layoutOk [fr 0 1 0 1] bs = true ∧
      (byteAt bs 0 = d.time.workSlot ∨ (d.slot (byteAt bs 0)).state = .locked)) ∧
    ((reply (after (.timeSwitch (ask [1, 0, 0, 0])) d)).map (fun x => (x.1, le x.2.2 0 4, le x.2.2 4 4))) = some (0, 30, 3) ∧
    (after (.timeSwitch (ask [1, 0, 0, 0])) d).time.workSlot = 1 ∧ ((after (.timeSwitch (ask [1, 0, 0, 0])) d).slot 1).sumTheta = 0 ∧
    Met (upTime slot0) 0x0908 (ask [1, 0, 0, 0]) (rspMax 8) (fun d _ bs => bs.length = 4 ∧ layoutOk [fr 0 1 0 1] bs = true ∧
      byteAt bs 0 ≠ d.time.workSlot ∧ (d.slot (byteAt bs 0)).state ≠ .locked) ∧
    reply (after (.timeSwitch (ask [1, 0, 0, 0])) (upTime slot0)) = some (stWrongMode, 0, []) := by decide

theorem test_time_set : let bs : Bytes := leb 6 9 ++ leb 4 8 ++ zeros 2
    Met (upTime slot0) 0x0909 (ask bs) (rspMax 0) (fun d _ bs => bs.length = 12 ∧ layoutOk [fa 0 6, fr 6 4 0 999999999] bs = true ∧
      d.work.state = .disabled) ∧
    (after (.timeSet (ask bs)) (upTime slot0)).time.clock = { sec := 9, ns := 8, frac := 0, increment := 4 * 2 ^ 32 } ∧
    (after (.timeSet (ask bs)) (upTime slot0)).time.clockSet = true ∧
    Met (upTime (slotIn .locked)) 0x0909 (ask bs) (rspMax 0) (fun d _ bs => bs.length = 12 ∧ layoutOk [fa 0 6, fr 6 4 0 999999999] bs = true ∧
      d.work.state = .locked) ∧
    reply (after (.timeSet (ask bs)) (upTime (slotIn .locked))) = some (stWrongMode, 0, []) := by decide

theorem test_capture_read : let c : Capture := { time := 5, edge := 1, flags := 0, seq := 6 }
    let d := upPin { timePin0 with mode := 3, captures := [c, c] }
    Met d 0x090A (ask [3, 1, 0, 0]) (fun _ bs => 4 + 16 * byteAt bs 1) (fun d _ bs => bs.length = 4 ∧
      layoutOk [fr 0 1 0 15, fr 1 1 1 16] bs = true ∧ (d.pin (byteAt bs 0)).mode = 3) ∧
    reply (after (.timeCaptureRead (ask [3, 1, 0, 0])) d) = some (0, 0, [1, 0, 0, 0] ++ zeros 6 ++ [5, 0, 0, 0, 1, 0, 6, 0, 0, 0]) ∧
    ((after (.timeCaptureRead (ask [3, 1, 0, 0])) d).pin 3).captures = [c] ∧
    reply (after (.timeCaptureRead (ask [3, 1, 0, 0])) up) = some (stWrongMode, 0, []) := by decide

theorem test_pulse : let bs (ns : Nat) : Bytes := [3, 0, 0, 0] ++ leb 6 0 ++ leb 4 ns ++ zeros 2
    let d := upPin { timePin0 with mode := 1, width := 100 }
    Met d 0x090B (ask (bs 6000)) (rspMax 0) (fun d _ bs => bs.length = 16 ∧ layoutOk [fr 0 1 0 15, fa 4 6, fr 10 4 0 999999999] bs = true ∧
      (d.pin (byteAt bs 0)).mode = 1 ∧ d.now + 1000 ≤ t80At bs 4) ∧
    ((after (.timePulse (ask (bs 6000))) d).pin 3).pending = some 6000 ∧
    Met d 0x090B (ask (bs 5999)) (rspMax 0) (fun d _ bs => bs.length = 16 ∧ layoutOk [fr 0 1 0 15, fa 4 6, fr 10 4 0 999999999] bs = true ∧
      (d.pin (byteAt bs 0)).mode = 1 ∧ t80At bs 4 < d.now + 1000) ∧
    reply (after (.timePulse (ask (bs 5999))) d) = some (stBadParam, 0, []) := by decide

/-! ## Cask -/

/-- A legal parameter block: version 7, SIGN_SLOT 9, one retry, READ_TIMEOUT_MS 1,000, outlet 2 read from source PDU 1, four bytes, in Wh. -/
def params7 : Bytes :=
  leb 4 7 ++ [9, 1, 0, 0] ++ leb 2 1000 ++ leb 2 100 ++ leb 4 1000 ++ zeros 32 ++ ([1, 4, 0, 0] ++ leb 2 1 ++ leb 2 0xFFFF ++ zeros 8) ++ zeros 976

/-- A reading of 5 Wh. -/
def read5 : Reading := { mwh := 5000, time := 40, quality := 0, errNs := 100 }

/-- Session 1 of outlet 2, its start read. -/
def ses1 (st : SesState) : Session :=
  { session0 with state := st, outlet := 2, zone := 7, serial := 1, start := some read5, last := some read5 }

/-- The block with it and a legal CAN source PDU 1, LEG running. -/
def upSes (x : Session) : Dev :=
  { up with
      cask := { up.cask with sessions := [(1, x)], params := params7, serial := 1 }, boot := { up.boot with legRuns := true }
      gateway := { up.gateway with srcs := [(1, { src1 with cfg := patch src1.cfg 4 [1] })] } }

/-- A delivery of 9 Wh, committed at some time. -/
def deliv (committed : Nat) : Delivery := { bytes := [0, 0, 0, 9], arrival := 44, ok := true, quality := 0, errNs := 100, committed := committed }

theorem test_reading : let at_ := fun (st : SesState) (w : SesWait) (g : Nat) => upSes { ses1 st with wait := w, deadline := 5, delivery := some (deliv 5), group := g }
    let r : Reading := { mwh := 9000, time := 44, quality := 0, errNs := 100 }
    let d := at_ .active .interim 0xFFFF
    readingValue params7 [0, 0, 0, 9] 2 = some 9000 ∧ (d.ses 1).delivery = some (deliv 5) ∧ d.boot.legRuns = true ∧
    (fun (x : Session) => (x.last, x.interimCount, x.wait, x.state)) ((after (.meterReadingArrival 1) d).ses 1) = (some r, 1, .none, .active) ∧
    (fun (x : Session) => (x.start, x.state, x.wait)) ((after (.meterReadingArrival 1) (at_ .bound (.start false) 0xFFFF)).ses 1) = (some r, .active, .none) ∧
    (fun (x : Session) => (x.stop, x.wait)) ((after (.meterReadingArrival 1) (at_ .closing .stop 0xFFFF)).ses 1) = (some r, .seal) ∧
    (fun (x : Session) => (x.stop, x.wait, x.stopAt)) ((after (.meterReadingArrival 1) (at_ .closing .stop 3)).ses 1) = (some r, .fold, 0) := by decide

theorem test_no_reading : let d := upSes { ses1 .active with wait := .interim, deadline := 4, delivery := some (deliv 5) }
    after (.meterReadingArrival 1) d = d ∧ after (.meterReadingArrival 1) (upSes (ses1 .active)) = upSes (ses1 .active) := by decide

theorem test_attempts : let at_ := fun (n : Nat) => ({ upSes { ses1 .closing with wait := .stop, deadline := 5, attempts := n } with uptime := 6 } : Dev)
    (fun (x : Session) => (x.wait, x.attempts, x.deadline)) ((after (.readAttemptTimeout 1) (at_ 1)).ses 1) = (.stop, 2, 1000000006) ∧
    (fun (x : Session) => (x.wait, x.stopMissing, x.stop)) ((after (.readAttemptTimeout 1) (at_ 2)).ses 1) = (.seal, true, some read5) ∧
    after (.readAttemptTimeout 1) { at_ 1 with uptime := 5 } = { at_ 1 with uptime := 5 } := by decide

theorem test_fold_wait : let d : Dev := { upSes { ses1 .closing with wait := .fold, deadline := 5 } with uptime := 6 }
    (d.ses 1).wait = .fold ∧ ((after (.stopFoldWaitTimeout 1) d).ses 1).wait = .seal ∧ (after (.stopFoldWaitTimeout 1) d).cask.seals.length = 1 ∧
    after (.stopFoldWaitTimeout 1) { d with uptime := 5 } = { d with uptime := 5 } := by decide

/-- A VALID signing key of type 4 in slot 9: SIGN (4), CASK (8), owner root or another. -/
def signKey (root : Nat) : KeySlot := { keySlot0 with state := 1, type := 4, root := root, usage := 0x110, useLimit := 100 }

/-- Its record waits; lifecycle TEST. -/
def upSeal (root : Nat) : Dev :=
  { upSes { ses1 .closing with stop := some { read5 with mwh := 9000 }, wait := .seal } with
      cask := { (upSes { ses1 .closing with stop := some { read5 with mwh := 9000 }, wait := .seal }).cask with
        seals := [{ session := 1, cause := 0, time := 0, withheld := none, seq := none, retry := false }] }
      keep := { up.keep with slots := [(9, signKey root)], rootsUnlocked := true } }

/-- And after its seal. -/
def sealed1 : Dev := after (.recordSeal 1 true false) (upSeal (lifecycleRoot 1))

theorem test_seal_key : (upSeal (lifecycleRoot 1)).recordKey = stOk ∧ (upSeal (lifecycleRoot 1)).mono 0 < 0xFFFFFFFF ∧
    after (.recordSeal 2 true true) (upSeal (lifecycleRoot 1)) = upSeal (lifecycleRoot 1) ∧ after (.recordSeal 1 true true) up = up := by decide

theorem test_seal_chain : sealed1.cask.nextSeq = 2 ∧ sealed1.cask.lastSeq = some 1 ∧ sealed1.cask.seals = [] := by decide

theorem test_seal_state : (sealed1.ses 1).state = .sealed := by decide

theorem test_seal_record : (tabFind sealed1.cask.records 1).map (fun r => byteAt r 7) = some 1 := by decide

theorem test_seal_energy : { ses1 .closing with stop := some { read5 with mwh := 9000 } }.energy = (4000, false) ∧
    { ses1 .closing with stop := some { read5 with mwh := 4999 } }.energy = (0, true) := by decide

theorem test_seal_withheld : let d := after (.recordSeal 1 true false) (upSeal 99)
    d.cask.seals.map (fun y => (y.withheld, y.seq)) = [(some stNotPermitted, none)] ∧ d.cask.nextSeq = 1 ∧ d.counter 10 2 = 1 ∧ d.sealWithheld 1 = true ∧
    Met d 0x0A0F (ask [1, 0, 0, 0]) (rspMax 0) (fun d _ bs => bs.length = 4 ∧ layoutOk [fr 0 1 1 63] bs = true ∧
      d.sealWithheld (byteAt bs 0) = true ∧ (d.ses (byteAt bs 0)).cmd = none) ∧
    (after (.sesReseal (ask [1, 0, 0, 0])) d).cask.seals.map (fun y => y.retry) = [true] ∧ ((after (.sesReseal (ask [1, 0, 0, 0])) d).ses 1).wait = .seal ∧
    reply (after (.sesReseal (ask [1, 0, 0, 0])) up) = some (stWrongMode, 0, []) := by decide

theorem test_seal_fails_twice : let d := after (.recordSeal 1 false false) (upSeal (lifecycleRoot 1))
    d.cask.seals.map (fun y => (y.withheld, y.seq)) = [(some stFault, some 1)] ∧ d.cask.nextSeq = 1 ∧ d.safety.lastCode = 0x0601 ∧
    (upSeal 99).recordKey = stNotPermitted := by decide

theorem test_recovery_after_restart : let d0 := upSes { ses1 .active with wait := .interim }
    let d : Dev := { d0 with cask := { d0.cask with recover := true, lastSeq := some 0 } }
    (after (.caskRestartRecovery true) d).cask.recover = false ∧ ((after (.caskRestartRecovery true) d).ses 1).state = .closing ∧
    (fun (x : Session) => (x.endCause, x.restart, x.wait, x.due)) ((after (.caskRestartRecovery true) d).ses 1) = (3, true, .stop, true) ∧
    (after (.caskRestartRecovery false) d).cask.chainBroken = true ∧ (after (.caskRestartRecovery false) d).safety.lastCode = 0x0602 ∧
    after (.caskRestartRecovery true) d0 = d0 := by decide

theorem test_takeover : let d := upSes { ses1 .active with restart := true }
    d.meterRuns (d.ses 1) = true ∧ d.twin.role ≠ .standby ∧
    (fun (x : Session) => (x.wait, x.resume, x.endCause)) ((after (.takeoverSessionResegment 1) d).ses 1) = (.stop, some .active, 4) ∧
    after (.takeoverSessionResegment 1) (upSes (ses1 .active)) = upSes (ses1 .active) := by decide

/-! ## Session commands -/

/-- SES_OPEN of any context: outlet 2, zone 7, no group, port 0, VID 100, a wildcard. -/
def open1 : Bytes := [0, 2, 0, 7] ++ leb 2 0xFFFF ++ [0, 0, 0, 1] ++ leb 2 100 ++ zeros 8 ++ zeros 16

theorem test_open : let d := upSes session0
    Met d 0x0A01 (ask open1) (rspMax 8) (fun d _ bs => bs.length = 36 ∧ layoutOk [fr 0 1 0 63, fr 1 1 0 63, fr 2 1 0 1, fr 3 1 6 63, fa 4 2, fr 6 1 0 7,
        fr 8 1 0 49, fr 9 1 0 1, fr 0x0A 2 1 4094, fa 0x0C 6, fa 0x14 16] bs = true ∧ sesGroupOk (le bs 4 2) = true ∧ le bs 0x0C 6 = 0 ∧
      1 ≤ d.keep.lifecycle ∧ d.keep.lifecycle ≤ 3 ∧ d.cask.chainBroken = false ∧ d.ringFull = false ∧ d.logFull = false ∧
      d.openContext (byteAt bs 0) = some 1 ∧ (d.ses 1).state = .idle ∧ d.otherSession 1 (fun x => x.outlet == byteAt bs 1 || x.zone == byteAt bs 3) = none ∧
      d.bindingTwice { zone := byteAt bs 3, port := byteAt bs 8, vid := le bs 0x0A 2, sa := le bs 0x0C 6, wildcard := bit (byteAt bs 9) 0 } = none ∧
      d.bindingMissing (byteAt bs 1) (byteAt bs 2) (le bs 4 2) = false ∧ d.foldBad (le bs 4 2) (byteAt bs 6) = false) := by decide

theorem test_opened : let d := after (.sesOpen (ask open1)) (upSes session0)
    reply d = some (0, 0, [1, 0, 0, 0, 2, 0, 0, 0]) ∧ (fun (x : Session) => (x.state, x.outlet, x.zone, x.serial)) (d.ses 1) = (.bound, 2, 7, 2) ∧
    d.lauter.bindings.map (fun b => (b.1, b.2.zone, b.2.vid)) = [(1, 7, 100)] := by decide

/-- A command of a session in a state is admitted with its layout. -/
abbrev Of1 (op most : Nat) (st : SesState) : Prop :=
  Met (upSes (ses1 st)) op (ask [1, 0, 0, 0]) (rspMax most) (fun d _ bs => bs.length = 4 ∧ layoutOk [fr 0 1 1 63] bs = true ∧
    (d.ses (byteAt bs 0)).state = st ∧ (d.ses (byteAt bs 0)).cmd = none ∧ (d.ses (byteAt bs 0)).wait = .none ∧ (d.ses (byteAt bs 0)).resume = none ∧
    d.cask.chainBroken = false)

theorem test_session_admitted : Of1 0x0A02 32 .bound ∧ Of1 0x0A03 0 .active ∧ Of1 0x0A04 0 .suspended ∧ Of1 0x0A05 16 .active ∧
    Of1 0x0A05 16 .suspended ∧ Of1 0x0A06 32 .active ∧ Of1 0x0A08 0 .bound ∧ Of1 0x0A09 48 .idle := by decide

theorem test_session_refusals_admitted : Of1 0x0A02 32 .active ∧ Of1 0x0A03 0 .bound ∧ Of1 0x0A04 0 .bound ∧ Of1 0x0A05 16 .bound ∧
    Of1 0x0A06 32 .bound ∧ Of1 0x0A08 0 .active := by decide

theorem test_session_commands : let rq := ask [1, 0, 0, 0]
    let got := fun (c : Instr) (st : SesState) => (fun (x : Session) => (x.state, x.wait, x.cmd)) ((after c (upSes (ses1 st))).ses 1)
    got (.sesStart rq) .bound = (.bound, .start false, some (1, 0x0A02)) ∧ got (.sesSuspend rq) .active = (.suspended, .none, none) ∧
    got (.sesResume rq) .suspended = (.active, .none, none) := by decide

theorem test_session_commands_2 : let rq := ask [1, 0, 0, 0]
    let got := fun (c : Instr) (st : SesState) => (fun (x : Session) => (x.state, x.wait, x.cmd)) ((after c (upSes (ses1 st))).ses 1)
    got (.sesStop rq) .active = (.closing, .stop, some (1, 0x0A05)) ∧
    got (.sesInterim rq) .suspended = (.suspended, .interim, some (1, 0x0A06)) ∧ (after (.sesAbort rq) (upSes (ses1 .bound))).ses 1 = session0 ∧
    ((reply (after (.sesStatus rq) (upSes (ses1 .active)))).map (fun x => (x.2.2.length, x.2.2.take 4))) = some (48, [2, 2, 0, 7]) := by decide

theorem test_session_wrong_mode : let rq := ask [1, 0, 0, 0]
    [Instr.sesSuspend rq, .sesResume rq, .sesStop rq, .sesInterim rq].map (fun c => reply (after c (upSes (ses1 .bound)))) =
      List.replicate 4 (some (stWrongMode, 0, [])) ∧
    [Instr.sesStart rq, .sesAbort rq].map (fun c => reply (after c (upSes (ses1 .active)))) = List.replicate 2 (some (stWrongMode, 0, [])) := by decide

theorem test_suspension_time : let d : Dev := { upSes { ses1 .suspended with suspendedAt := 1000000, suspendedMs := 2 } with uptime := 4999999 }
    ((after (.sesResume (ask [1, 0, 0, 0])) d).ses 1).suspendedMs = 5 := by decide

/-- SES_REBIND of session 1 to FOLD 0 of no group. -/
def rebind1 : Bytes := [1, 0, 0, 0] ++ leb 2 0xFFFF ++ zeros 2

theorem test_rebind : let met := fun (st : SesState) => Met (upSes (ses1 st)) 0x0A07 (ask rebind1) (rspMax 36) (fun d _ bs => bs.length = 8 ∧
      layoutOk [fr 0 1 1 63, fr 1 1 0 1, fr 2 1 0 7, fa 4 2] bs = true ∧ sesGroupOk (le bs 4 2) = true ∧ (d.ses (byteAt bs 0)).state = st ∧
      (rebindChecks d bs (d.ses (byteAt bs 0))).isNone = true ∧ (d.ses (byteAt bs 0)).cmd = none ∧ (d.ses (byteAt bs 0)).wait = .none ∧
      (d.ses (byteAt bs 0)).resume = none)
    met .bound ∧ met .active ∧ met .suspended := by decide

theorem test_rebound : ((reply (after (.sesRebind (ask rebind1)) (upSes (ses1 .bound)))).map (fun x => (x.2.2.length, x.2.2.take 4))) =
      some (36, [255, 255, 255, 255]) ∧
    (fun (x : Session) => (x.wait, x.endCause, x.resume, x.rebind)) ((after (.sesRebind (ask rebind1)) (upSes (ses1 .suspended))).ses 1) =
      (.stop, 2, some .suspended, some (0, 0, 0xFFFF)) := by decide

theorem test_records : let c : Cask := { up.cask with records := [(1, zeros 256), (2, zeros 256)], nextSeq := 3 }
    let d : Dev := { upSes session0 with cask := c }
    Met d 0x0A0A (ask [1, 0, 0, 0, 15, 0, 0, 0]) (fun _ bs => 16 + 256 * byteAt bs 4) (fun d rq bs => bs.length = 8 ∧
      layoutOk [fa 0 4, fr 4 1 1 (if reqBulkRsp rq then 255 else 15)] bs = true ∧ d.cask.nextSeq ≤ le bs 0 4 + 4096) ∧
    ((reply (after (.sesRecordRead (ask [1, 0, 0, 0, 15, 0, 0, 0])) d)).map (fun x => (x.2.2.length, x.2.2.take 12))) =
      some (16 + 512, [2, 0, 0, 0, 1, 0, 0, 0, 3, 0, 0, 0]) ∧
    (let e : Dev := { upSes session0 with cask := { c with nextSeq := 5000 } }
     reply (after (.sesRecordRead (ask [1, 0, 0, 0, 15, 0, 0, 0])) e) = some (stNotFound, 904, [])) ∧
    Met d 0x0A0B (ask [0, 0, 0, 0, 2, 0, 0, 0]) (rspMax 4) (fun d _ bs => bs.length = 8 ∧ layoutOk [fr 0 1 0 1, fa 4 4] bs = true ∧
      byteAt bs 0 = 0 ∧ le bs 4 4 < d.cask.nextSeq) ∧
    (after (.sesAck (ask [0, 0, 0, 0, 2, 0, 0, 0])) d).cask.unacked = 3 ∧
    reply (after (.sesAck (ask [0, 0, 0, 0, 3, 0, 0, 0])) d) = some (stBadParam, 0, []) ∧
    (let e : Dev := { upSes session0 with cask := { c with logNext := 4 } }
     (after (.sesAck (ask [1, 0, 0, 0, 3, 0, 0, 0])) e).cask.logUnacked = 4) := by decide

/-! ## Keep -/

/-- An AES-128 key of type 1 in slot 9, for the host: ENCRYPT, DECRYPT, CMAC, DERIVE, HOST; TEST root. -/
def aesKey : KeySlot := { keySlot0 with state := 1, type := 1, root := 1, usage := 0x8F, gen := 5, key := zeros 16 }

/-- The block with slots, its roots unlocked, in TEST. -/
def upKeep (slots : Tab KeySlot) : Dev := { up with keep := { up.keep with slots := slots, rootsUnlocked := true } }

/-- And a job of page 2, of one block under slot 9. -/
def upJob : Dev :=
  let d := upKeep [(9, aesKey)]
  { d with keep := { d.keep with pages := [(2, { page0 with go := true, slot := 9, nblocks := 1, host := true, input := zeros 16 })] } }

theorem test_page_go : let j : PageJob := { dir := 0, slot := 9, nblocks := 4, src := 1, dst := 2, lst := 0 }
    after (.cipherPageGo 0 16 j) up = up ∧ (after (.cipherPageGo 0 1 j) up).counter 11 16 = 1 ∧ ownsPage up 7 1 = true ∧ ownsPage up 1 9 = false ∧
    (fun (g : Page) => (g.go, g.slot, g.nblocks)) ((after (.cipherPageGo 7 1 j) up).page 1) = (true, 9, 4) ∧
    after (.cipherPageGo 0 2 j) upJob = upJob := by decide

theorem test_job : upJob.keep.job = none ∧ upJob.nextPage = some 2 ∧ upJob.pageStatus 2 = stOk ∧ (upJob.page 2).host = true ∧
    (let d := after .cipherJobStart upJob
     d.keep.job = some 2 ∧ d.keep.workingKey = zeros 16 ∧ (d.keySlot 9).useCount = 1 ∧ (d.page 2).gen = 5 ∧ d.nextPage = some 2) ∧
    after .cipherJobStart up = up ∧ up.nextPage = none := by decide

theorem test_job_refused : let d : Dev := { upJob with keep := { upJob.keep with slots := [(9, { aesKey with usage := 0x8E })] } }
    d.pageStatus 2 = stNotPermitted ∧ (fun (g : Page) => (g.go, g.status)) ((after .cipherJobStart d).page 2) = (false, stNotPermitted) ∧
    ((after .cipherJobStart d).keySlot 9).useCount = 0 ∧ reply (after .cipherJobStart d) = none := by decide

/-- The job runs. -/
def upRunning (slot : KeySlot) : Dev :=
  { upJob with keep := { upJob.keep with
      job := some 2, slots := [(9, slot)], workingKey := zeros 16
      pages := [(2, { page0 with go := true, slot := 9, nblocks := 1, host := true, input := zeros 16, gen := 5 })] } }

/-- What a release leaves of the job. -/
def released (k : KeySlot) : Option Nat × Bytes × Bool × Nat :=
  let d := after (.cipherJobRelease true) (upRunning k)
  (d.keep.job, d.keep.workingKey, (d.page 2).go, (d.page 2).status)

theorem test_release : released aesKey = (none, [], false, stOk) ∧ released { aesKey with gen := 6 } = (none, [], false, stKeyChanged) ∧
    released { aesKey with state := 2 } = (none, [], false, stKeyRevoked) ∧ after (.cipherJobRelease true) up = up := by decide

/-- A verification under a supplied key, begun. -/
def verifyOp (started : Bool) : EccOp := { eccSign 1 0 (zeros 32) with kind := 2, slot := none, started := started, head := zeros 16 }

theorem test_ecc : let d := fun (b : Bool) => ({ up with keep := { up.keep with eccQueue := [verifyOp b], eccKey := zeros 32 } } : Dev)
    (after (.eccOperationComplete true true) (d true)).keep.eccQueue = [] ∧ (after (.eccOperationComplete true true) (d true)).keep.eccKey = [] ∧
    after (.eccOperationComplete true true) (d false) = d false ∧ after (.eccOperationComplete true true) up = up := by decide

theorem test_rng : let d := after (.rngHealthFail 1) up
    (d.keep.rngFailed, d.keep.rngFailures, d.keep.rngRetest, d.keep.rngStuck) = (true, 1, 1000000000, false) ∧ after (.rngHealthFail 2) d = d ∧
    after (.rngRetest true) d = d ∧ (after (.rngRetest true) { d with uptime := 1000000000 }).keep.rngFailed = false ∧
    (let e : Dev := { d with uptime := 1000000000, keep := { d.keep with rngFailures := 2 } }
     (after (.rngRetest false) e).keep.rngStuck = true ∧ (after (.rngRetest false) e).keep.rngFailed = true) := by decide

/-- The block with a derived key in slot 10 and tamper source 2 of some ACTION, filter 3. -/
def upTamper (action : Byte) : Dev :=
  let d := upKeep [(9, aesKey), (10, { aesKey with origin := 3, parent := 9 })]
  { d with
      lantern := { d.lantern with tamper := { d.lantern.tamper with cfg := zeros 8 ++ [1, action, 3, 0] ++ zeros 20, seq := 41 } }
      keep := { d.keep with workingKey := [1], eccKey := [2] } }

theorem test_tamper : let t := fun (d : Dev) => d.lantern.tamper
    after (.tamperAlarm 2 2) (upTamper 1) = upTamper 1 ∧ after (.tamperAlarm 3 9) (upTamper 1) = upTamper 1 ∧ after (.tamperAlarm 8 9) (upTamper 1) = upTamper 1 ∧
    (let d := after (.tamperAlarm 2 3) (upTamper 0)
     ((t d).active, (t d).seq, d.keep.locked, d.keep.workingKey) = (4, 41, false, [1]) ∧ after (.tamperAlarm 2 3) d = d ∧
     (t (after (.tamperAlarm 2 0) d)).active = 0) ∧
    (let d := after (.tamperAlarm 2 3) (upTamper 2)
     ((t d).latched, (t d).seq, (t d).holdBy) = (4, 42, some 5000000) ∧ (d.keep.locked, d.keep.workingKey, d.keep.eccKey) = (true, [], []) ∧
     (d.keySlot 10).state = 0 ∧ (d.keySlot 10).gen = 6 ∧ (d.keySlot 9).state = 1 ∧ (after .tamperHoldReset d).host.stage = .reset) ∧
    after .tamperHoldReset up = up := by decide

theorem test_lifecycle_reset : let d : Dev := { up with boot := { up.boot with resetDue := some (100000, 1, 2) } }
    after .lifecycleReset d = d ∧ (after .lifecycleReset { d with uptime := 100000 }).host.stage = .reset ∧ after .lifecycleReset up = up := by decide

/-! ## Keep's commands -/

/-- A message of a TYPE with its body, for the TEST root: SIGNER 0, COUNTER 1, no signature. -/
def testMsg (type : Byte) (body : Bytes) : Bytes :=
  [type, 1, 0, 0] ++ leb 4 body.length ++ slice Config.uid 0 16 ++ leb 8 1 ++ zeros 16 ++ body ++ zeros 96

/-- KEY_INSTALL, KEY_GENERATE and KEY_ERASE of slot 5. -/
def install5 : Bytes := testMsg 1 ([5, 1, 1, 0] ++ leb 2 0x8F ++ leb 2 16 ++ zeros 8 ++ zeros 96 ++ zeros 16 ++ zeros 96)
/-- The second. -/
def generate5 : Bytes := testMsg 2 ([5, 1, 1, 0] ++ leb 2 0x8F ++ zeros 2 ++ zeros 8)
/-- The third. -/
def erase5 : Bytes := testMsg 3 [5, 0, 0, 0]

/-- The block in TEST with slot 5 holding a key of the TEST root. -/
def upMsg : Dev := upKeep [(5, aesKey)]

theorem msgStatus_ok (d : Dev) (ts : List Nat) (m : Bytes) (h1 : ¬ (m.length < 148 ∨ m.length ≠ 48 + msgBodyLen m + 96 ∨ bodyLenOk m = false))
    (h2 : slice m 8 16 = slice Config.uid 0 16) (h3 : d.msgSigned m = true) (h4 : ¬ msgCounter m ≤ d.mono (msgCounterIndex m))
    (h5 : (!headerFieldsOk m || !bodyFieldsOk m || !(ts.contains (msgType m))) = false) : d.msgStatus ts m = stOk := by
  unfold Dev.msgStatus
  rw [if_neg h1, if_neg (by simp [h2, h3]), if_neg h4, h5]
  rfl

theorem test_install (hu : slice Config.uid 0 16 = zeros 16) : upMsg.msgStatus [1, 2, 3, 4] install5 = stOk ∧ msgType install5 = 1 ∧
    upMsg.rootConflict (byteAt (msgBody install5) 0) (byteAt (msgBody install5) 2) = false := by
  unfold install5 testMsg
  rw [hu]
  exact ⟨msgStatus_ok _ _ _ (by decide) (by rw [hu]; decide) (by decide) (by decide) (by decide), by decide, by decide⟩

theorem test_generate (hu : slice Config.uid 0 16 = zeros 16) : upMsg.msgStatus [1, 2, 3, 4] generate5 = stOk ∧ msgType generate5 = 2 ∧
    upMsg.rootConflict (byteAt (msgBody generate5) 0) (byteAt (msgBody generate5) 2) = false ∧ upMsg.keep.rngFailed = false := by
  unfold generate5 testMsg
  rw [hu]
  exact ⟨msgStatus_ok _ _ _ (by decide) (by rw [hu]; decide) (by decide) (by decide) (by decide), by decide, by decide, by decide⟩

theorem test_erase (hu : slice Config.uid 0 16 = zeros 16) : upMsg.msgStatus [1, 2, 3, 4] erase5 = stOk ∧ msgType erase5 = 3 := by
  unfold erase5 testMsg
  rw [hu]
  exact ⟨msgStatus_ok _ _ _ (by decide) (by rw [hu]; decide) (by decide) (by decide) (by decide), by decide⟩

/-- KEY_ERASE takes effect where it is admitted. -/
theorem test_erased : (fun (k : KeySlot) => (k.state, k.gen, k.useCount, k.key)) ((upMsg.eraseSlot 5).keySlot 5) = (0, 6, 0, []) ∧
    (upMsg.admitted 0x0B02 (ask (zeros 148)) (rspMax 104)).isSome = true := by decide

/-- KEEP_DERIVE of AES-128 child 10 under slot 9, or its erasure. -/
def derive10 (op : Byte) : Bytes := [op, 9, 10, if op = 1 then 0 else 1] ++ leb 2 0x83 ++ zeros 42

theorem test_derive : let d := upKeep [(9, aesKey)]
    Met d 0x0B03 (ask (derive10 0)) (rspMax 100) (fun d _ bs => bs.length = 48 ∧ layoutOk [fr 0 1 0 1, fa 1 1, fa 2 1,
        if byteAt bs 0 == 1 then fa 3 1 else fr 3 1 1 5, fa 4 2, fa 8 4, fa 0x0C 4, fa 0x10 32] bs = true ∧ byteAt bs 0 = 0 ∧
      d.keyStatus .host (byteAt bs 1) 3 (ceilDiv (childBytes (byteAt bs 3)) 16) [1, 2, 3] = stOk ∧
      childUsageOk (d.keySlot (byteAt bs 1)) (byteAt bs 3) (le bs 4 2) = true ∧ (d.keySlot (byteAt bs 1)).depth < 7 ∧
      d.childOk (byteAt bs 2) (byteAt bs 1) = true ∧ byteAt bs 1 ≠ byteAt bs 2 ∧ byteAt bs 1 ∉ descendants d.keep.slots 8 [byteAt bs 2]) ∧
    (fun (k : KeySlot) => (k.state, k.gen, k.useCount, k.parent, k.depth)) ((after (.keepDerive (ask (derive10 0))) d).keySlot 10) = (1, 1, 0, 9, 1) ∧
    ((after (.keepDerive (ask (derive10 0))) d).keySlot 9).useCount = 1 := by decide

theorem test_derive_erase : let d := upKeep [(9, aesKey), (10, { aesKey with origin := 3, parent := 9, useCount := 7 })]
    Met d 0x0B03 (ask (derive10 1)) (rspMax 100) (fun d _ bs => bs.length = 48 ∧ layoutOk [fr 0 1 0 1, fa 1 1, fa 2 1,
        if byteAt bs 0 == 1 then fa 3 1 else fr 3 1 1 5, fa 4 2, fa 8 4, fa 0x0C 4, fa 0x10 32] bs = true ∧ byteAt bs 0 = 1 ∧
      d.keyStatus .host (byteAt bs 1) 3 0 [1, 2, 3] = stOk ∧ d.childOk (byteAt bs 2) (byteAt bs 1) = true) ∧
    (fun (k : KeySlot) => (k.state, k.gen, k.useCount, k.key)) ((after (.keepDerive (ask (derive10 1))) d).keySlot 10) = (0, 6, 0, []) := by decide

theorem test_cipher : Met up 0x0B04 (ask (zeros 35)) (fun _ bs => bs.length - 4) (fun _ _ bs => (bs.length - 4) % 16 ≠ 0) ∧
    Met up 0x0B04 (ask (zeros 4)) (fun _ bs => bs.length - 4) (fun _ _ bs => (bs.length - 4) / 16 < 1) ∧
    reply (after (.keepCipher (ask (zeros 35))) up) = some (stBadLength, 0, []) ∧ reply (after (.keepCipher (ask (zeros 4))) up) = some (stBadLength, 0, []) ∧
    Met up 0x0B04 (ask ([9, 1, 0, 0] ++ zeros 32)) (fun _ bs => bs.length - 4) (fun d rq bs => 20 ≤ bs.length ∧ (bs.length - 4) % 16 = 0 ∧
      (bs.length - 4) / 16 ≤ 4096 ∧ byteAt bs 1 ≤ 1 ∧ le bs 2 2 = 0 ∧ (bs.length - 4) / 16 ≤ 256 ∧ (d.page (rq.ch + 1)).go = false) ∧
    (fun (g : Page) => (g.go, g.slot, g.dir, g.nblocks, g.input)) ((after (.keepCipher (ask ([9, 1, 0, 0] ++ zeros 32))) up).page 2) =
      (true, 9, 1, 2, zeros 32) := by decide

theorem test_device_job : let d0 := upKeep [(9, aesKey)]
    let d1 := d0.putPool 1 { pool0 with bufs := [(0, hostBuf)] }
    let d : Dev := { d1 with keep := { d1.keep with pages := [(9, { page0 with go := true, slot := 9, nblocks := 2, src := 2 ^ 28 })] } }
    d.nextPage = some 9 ∧ d.pageStatus 9 = stOk ∧ (d.page 9).host = false ∧ (d.hopperRead (2 ^ 28) 32).isSome = true ∧
    (after .cipherJobStart d).keep.job = some 9 ∧ ((after .cipherJobStart d).page 9).input.length = 32 ∧
    (d.granted 8 2 0).isSome = true ∧
    (let e : Dev := { d with arb := { d.arb with holder := some { req := 0, forced := true, left := 9 } } }
     e.granted 8 2 0 = none ∧ (after .cipherJobStart e).keep = d.keep) := by decide

theorem test_slot_info : Met (upKeep [(9, aesKey)]) 0x0B01 (ask [9, 0, 0, 0]) (rspMax 128) (fun d _ bs => bs.length = 4 ∧ layoutOk [fa 0 1] bs = true ∧
      bit (d.keySlot (byteAt bs 0)).usage 7 = true ∧ (d.keySlot (byteAt bs 0)).root ≠ 3) ∧
    ((reply (after (.keepSlotInfo (ask [9, 0, 0, 0])) (upKeep [(9, aesKey)]))).map (fun x => x.2.2.take 6)) = some [1, 1, 1, 0, 5, 0] ∧
    Met (upKeep [(9, { aesKey with usage := 0x0F })]) 0x0B01 (ask [9, 0, 0, 0]) (rspMax 128) (fun d _ bs => bs.length = 4 ∧ layoutOk [fa 0 1] bs = true ∧
      (d.keySlot (byteAt bs 0)).state ≠ 0 ∧ bit (d.keySlot (byteAt bs 0)).usage 7 = false) ∧
    reply (after (.keepSlotInfo (ask [9, 0, 0, 0])) (upKeep [(9, { aesKey with usage := 0x0F })])) = some (stNotPermitted, 0, []) := by decide

/-- A P-256 signing key for the host. -/
def eccKey9 : KeySlot := { keySlot0 with state := 1, type := 4, root := 1, usage := 0xB0 }

theorem test_sign : let d := upKeep [(9, eccKey9)]
    Met d 0x0B05 (ask ([9, 0, 0, 0] ++ zeros 32)) (rspMax 96) (fun d rq bs => 4 ≤ bs.length ∧ byteAt bs 1 ≤ 2 ∧ le bs 2 2 = 0 ∧
      ∃ g ∈ digestOf (byteAt bs 1) (bs.drop 4), d.eccStatus (eccSign rq.ch (byteAt bs 0) g) = stOk) ∧
    (after (.keepSign (ask ([9, 0, 0, 0] ++ zeros 32))) d).keep.eccQueue.map (fun x => (x.ch, x.kind, x.slot, x.digest)) = [(1, 0, some 9, zeros 32)] ∧
    ((after (.keepSign (ask ([9, 0, 0, 0] ++ zeros 32))) d).keySlot 9).useCount = 1 := by decide

theorem test_verify : Met up 0x0B06 (ask ([0xFF, 1, 1, 0] ++ zeros 128)) (rspMax 4) (fun _ _ bs => byteAt bs 0 = 0xFF ∧ byteAt bs 1 = 1 ∧
      byteAt bs 2 = 1 ∧ byteAt bs 3 = 0 ∧ 132 ≤ bs.length) ∧
    (after (.keepVerify (ask ([0xFF, 1, 1, 0] ++ zeros 128))) up).keep.eccQueue.map (fun x => (x.ch, x.kind, x.slot, x.pub.length, x.sig.length)) =
      [(1, 1, none, 64, 64)] ∧
    Met (upKeep [(9, eccKey9)]) 0x0B06 (ask ([9, 0, 1, 0] ++ zeros 64)) (rspMax 4) (fun d _ bs => byteAt bs 0 ≠ 0xFF ∧ byteAt bs 2 = 1 ∧
      byteAt bs 3 = 0 ∧ 68 ≤ bs.length ∧ curveOf (d.keySlot (byteAt bs 0)).type = 1 ∧ d.keyStatus .host (byteAt bs 0) 5 0 [4, 5, 6, 7] = stOk) ∧
    (after (.keepVerify (ask ([9, 0, 1, 0] ++ zeros 64))) (upKeep [(9, eccKey9)])).keep.eccQueue.map (fun x => (x.kind, x.slot)) = [(1, some 9)] := by
  decide

theorem test_hash_and_random : Met up 0x0B07 (ask [1, 0, 0, 0, 9]) (fun _ bs => if byteAt bs 0 == 2 then 48 else 32) (fun _ _ bs => 4 ≤ bs.length ∧
      byteAt bs 0 = 1 ∧ le bs 1 3 = 0) ∧ (after (.keepHash (ask [1, 0, 0, 0, 9])) up).counter 11 3 = 1 ∧
    Met up 0x0B08 (ask [0, 16, 0, 0]) (fun _ bs => le bs 0 2) (fun d _ bs => bs.length = 4 ∧ layoutOk [fr 0 2 1 4096] bs = true ∧
      d.keep.rngFailed = false) ∧ (after (.keepRandom (ask [0, 16, 0, 0])) up).counter 11 4 = 4096 ∧
    Met (after (.rngHealthFail 1) up) 0x0B08 (ask [1, 0, 0, 0]) (fun _ bs => le bs 0 2) (fun d _ bs => bs.length = 4 ∧
      layoutOk [fr 0 2 1 4096] bs = true ∧ d.keep.rngFailed = true) ∧
    reply (after (.keepRandom (ask [1, 0, 0, 0])) (after (.rngHealthFail 1) up)) = some (stFault, faultDetail 0x0303 1, []) := by decide

theorem test_counters_of_keep : let d : Dev := { up with keep := { up.keep with counters := [(9, 2 ^ 32 - 1)] } }
    Met d 0x0B09 (ask []) (rspMax 128) (fun _ _ bs => bs = []) ∧ replyNum (after (.keepCounterRead (ask [])) d) 72 8 = some (0, 0, 2 ^ 32 - 1) ∧
    Met d 0x0B0A (ask [9, 0, 0, 0]) (rspMax 8) (fun d _ bs => bs.length = 4 ∧ layoutOk [fr 0 1 0 15] bs = true ∧ 9 ≤ byteAt bs 0 ∧
      d.mono (byteAt bs 0) + 1 < 2 ^ 64) ∧ replyNum (after (.keepCounterIncrement (ask [9, 0, 0, 0])) d) 0 8 = some (0, 0, 2 ^ 32) ∧
    Met d 0x0B0A (ask [8, 0, 0, 0]) (rspMax 8) (fun _ _ bs => bs.length = 4 ∧ layoutOk [fr 0 1 0 15] bs = true ∧ byteAt bs 0 ≤ 8) ∧
    reply (after (.keepCounterIncrement (ask [8, 0, 0, 0])) d) = some (stNotPermitted, 0, []) := by decide

theorem test_attest_and_status : Met up 0x0B0B (ask (zeros 16)) (rspMax 440) (fun _ _ bs => bs.length = 16 ∧ layoutOk [fa 0 16] bs = true) ∧
    (after (.keepAttest (ask (zeros 16))) up).keep.eccQueue.map (fun x => (x.ch, x.kind, x.head)) = [(1, 2, zeros 16)] ∧
    Met up 0x0B0C (ask []) (rspMax 1028) (fun _ _ bs => bs = []) ∧ Met up 0x0B0E (ask []) (rspMax 16) (fun _ _ bs => bs = []) ∧
    ((reply (after (.keepTamperStatus (ask [])) (after (.tamperAlarm 2 3) (upTamper 1)))).map (fun x => x.2.2)) =
      some ([4, 4, 0, 0, 42, 0, 0, 0, 1] ++ zeros 7) := by decide

/-! ## Power -/

/-- Domain 3: port 5 and CAN_STB pin 0 active-high, settling 10 us, two indications of PDU 4, 20 ms apart. -/
def dom (st : DomainState) : Domain :=
  { flags := 2, timer := 3, portMask := 2 ^ 5, stbMask := 1, settleUs := 10, kaTimeoutMs := 100, noTrafficMs := 200, prepareMs := 1
    indCount := 2, indGapMs := 20, indPdu := 4, kaKind := 0, kaId := 0, kaMask := 0, kaEtype := 0, kaDa := 0, state := st
    kaDeadline := 9, firstRun := none, prepareEnd := 9, indSent := 0, indDone := 0, commitAt := 0, wakeSource := 0, wakeAt := 0 }

/-- The block with it, at 10 ns. -/
def upDom (m : Domain) : Dev := { up with lantern := { up.lantern with domains := [(3, m)] }, uptime := 10 }

/-- Its domain. -/
def dom3 (d : Dev) : Option Domain := tabFind d.lantern.domains 3

theorem test_no_hold : (upDom (dom .awake)).domainHold 3 (dom .awake) = false := by decide

theorem test_keep_alive_timeout :
    (dom3 (after (.keepAliveTimeout 3) (upDom (dom .awake)))).map (fun m => (m.state, m.prepareEnd, m.indSent)) = some (.prepare, 1000010, 0) ∧
    after (.keepAliveTimeout 3) (upDom { dom .awake with kaDeadline := 10 }) = upDom { dom .awake with kaDeadline := 10 } ∧
    after (.keepAliveTimeout 3) (upDom { dom .awake with firstRun := some 5 }) = upDom { dom .awake with firstRun := some 5 } ∧
    after (.keepAliveTimeout 3) (upDom (dom .asleep)) = upDom (dom .asleep) := by decide

theorem test_keep_alive_hold : let d0 := upDom (dom .awake)
    let d : Dev := { d0 with lantern := { d0.lantern with holds := [(3, { deadline := none })] } }
    d.domainHold 3 (dom .awake) = true ∧ after (.keepAliveTimeout 3) d = d := by decide

theorem test_no_traffic : let m := { dom .awake with firstRun := some 5 }
    (upDom m).domainHold 3 m = false ∧ (dom3 (after (.noTrafficTimeout 3) (upDom m))).map (fun m => m.state) = some .prepare ∧
    after (.noTrafficTimeout 3) (upDom (dom .awake)) = upDom (dom .awake) := by decide

theorem test_prepare_expiry :
    (dom3 (after (.prepareExpiry 3) (upDom { dom .prepare with indCount := 0 }))).map (fun m => (m.state, m.commitAt)) = some (.asleep, 10) ∧
    (dom3 (after (.prepareExpiry 3) (upDom (dom .prepare)))).map (fun m => (m.state, m.indSent)) = some (.prepare, 1) ∧
    after (.prepareExpiry 3) (upDom { dom .prepare with prepareEnd := 11 }) = upDom { dom .prepare with prepareEnd := 11 } ∧
    (dom3 (after (.prepareExpiry 3) (upDom { dom .prepare with prepareEnd := 10 }))).map (fun m => m.indSent) = some 1 ∧
    after (.prepareExpiry 3) (upDom { dom .prepare with indSent := 1 }) = upDom { dom .prepare with indSent := 1 } := by decide

theorem test_indications : let at_ := fun (m : Domain) => ({ upDom m with uptime := 20000009 } : Dev)
    let m := { dom .prepare with indSent := 1 }
    m.indDue m.indSent = 20000009 ∧ (dom3 (after (.sleepIndicationSend 3) (at_ m))).map (fun m => m.indSent) = some 2 ∧
    after (.sleepIndicationSend 3) { at_ m with uptime := 20000008 } = { at_ m with uptime := 20000008 } := by decide

theorem test_commit_point :
    (dom3 (after (.sleepCommitPoint 3) (upDom { dom .prepare with indSent := 2, indDone := 2 }))).map (fun m => (m.state, m.commitAt)) = some (.asleep, 10) ∧
    (let d := upDom { dom .prepare with indSent := 2, indDone := 2 }
     (after (.sleepCommitPoint 3) { d with lantern := { d.lantern with stb := 0 } }).lantern.stb = 1) ∧
    after (.sleepCommitPoint 3) (upDom { dom .prepare with indSent := 2, indDone := 1 }) = upDom { dom .prepare with indSent := 2, indDone := 1 } := by decide

theorem test_indication_timeout : let m := { dom .prepare with indSent := 1 }
    let at_ := fun (t : Nat) => ({ upDom m with uptime := t } : Dev)
    m.indDue m.indDone + ms 100 = 100000009 ∧ (dom3 (after (.indicationTimeout 3) (at_ 100000010))).map (fun m => m.state) = some .asleep ∧
    after (.indicationTimeout 3) (at_ 100000009) = at_ 100000009 := by decide

theorem test_wake_exit : let at_ := fun (src t : Nat) => ({ upDom { dom .waking with wakeSource := src, wakeAt := 10 } with uptime := t } : Dev)
    (dom3 (after (.wakeExitComplete 3) (at_ 5 10010))).map (fun m => (m.state, m.kaDeadline, m.firstRun)) = some (.awake, 200010010, some 5) ∧
    (dom3 (after (.wakeExitComplete 3) (at_ 34 10010))).map (fun m => (m.state, m.kaDeadline, m.firstRun)) = some (.awake, 100010010, none) ∧
    after (.wakeExitComplete 3) (at_ 5 10009) = at_ 5 10009 ∧ after (.wakeExitComplete 3) (upDom (dom .awake)) = upDom (dom .awake) := by decide

/-- The block whose domain sleeps, its target DORMANT (2) or DOZE (1), an entry, a power state. -/
def upSleep (target : Nat) (e : Option (PowerState × Nat)) (p : PowerState) : Dev :=
  { upDom (dom .asleep) with lantern := { (upDom (dom .asleep)).lantern with target := target, entry := e, power := p } }

theorem test_device_entry : let d := upSleep 2 none .partialRun
    (d.host.stage = .run ∧ (∀ x ∈ d.lantern.domains, x.2.state = .asleep) ∧ d.deviceHolds = 0) ∧
    (after .deviceSleepEntry d).lantern.entry = some (.dormant, 10) ∧
    (after .deviceSleepEntry (upSleep 1 none .partialRun)).lantern.entry = some (.doze, 10) ∧
    after .deviceSleepEntry (upSleep 0 none .partialRun) = upSleep 0 none .partialRun ∧
    after .deviceSleepEntry (upSleep 1 (some (.doze, 4)) .partialRun) = upSleep 1 (some (.doze, 4)) .partialRun := by decide

theorem test_device_hold : let d := { upSleep 2 none .partialRun with lantern := { (upSleep 2 none .partialRun).lantern with hostActive := true } }
    d.deviceHolds = 32 ∧ after .deviceSleepEntry d = d := by decide

theorem test_no_entry : let d := upSleep 2 none .partialRun
    after .dozeEntryComplete d = d ∧ after .dormantEntryComplete d = d := by decide

theorem test_doze : let d := after .dozeEntryComplete (upSleep 1 (some (.doze, 4)) .partialRun)
    d.lantern.power = .doze ∧ d.lantern.entry = none ∧ d.lantern.dozeSince = 10 := by decide

theorem test_dormant : let d := after .dormantEntryComplete (upSleep 2 (some (.dormant, 4)) .partialRun)
    d.lantern.power = .dormant ∧ d.lantern.entry = none ∧ d.ports = [] ∧ d.lantern.keptGeneration = up.txn.generation := by decide

theorem test_dormant_after : let at_ := fun (t : Nat) => ({ upSleep 1 none .doze with
      lantern := { (upSleep 1 none .doze).lantern with dormantAfterS := 1, dozeSince := 4 }, uptime := t } : Dev)
    (after .dormantAfterExpiry (at_ 1000000005)).lantern.entry = some (.dormant, 1000000005) ∧
    after .dormantAfterExpiry (at_ 1000000004) = at_ 1000000004 ∧ after .dormantAfterExpiry (upSleep 1 none .doze) = upSleep 1 none .doze := by decide

theorem test_host_wake : let d := upSleep 1 none .doze
    d.deviceAsleep = true ∧ d.host.spi = false ∧ (after (.hostWake false) d).lantern.power = .partialRun ∧
    (after (.hostWake false) d).lantern.hostActive = true ∧ (after (.hostWake false) d).lantern.lastWakeSrc = 0x200 ∧
    after (.hostWake true) d = d ∧ after (.hostWake false) (upSleep 1 none .partialRun) = upSleep 1 none .partialRun := by decide

theorem test_rtc_alarm : let at_ := fun (t : Nat) => ({ upSleep 1 none .partialRun with
      lantern := { (upSleep 1 none .partialRun).lantern with alarmS := 5, alarmTarget := 3, rtcS := t }, uptime := 1000000 } : Dev)
    (dom3 (after .rtcAlarmWake (at_ 5))).map (fun m => (m.state, m.wakeSource)) = some (.waking, 0x201) ∧
    (after .rtcAlarmWake (at_ 5)).lantern.alarmS = 0 ∧ after .rtcAlarmWake (at_ 4) = at_ 4 ∧ after .rtcAlarmWake up = up := by decide

theorem test_latched : let at_ := fun (e : Option (PowerState × Nat)) (p : PowerState) => ({ upSleep 1 e p with
      lantern := { (upSleep 1 e p).lantern with latched := [(3, 5, 6)] } } : Dev)
    (after .latchedWakeServe (at_ none .doze)).lantern.latched = [] ∧ (after .latchedWakeServe (at_ none .doze)).lantern.power = .partialRun ∧
    (dom3 (after .latchedWakeServe (at_ none .doze))).map (fun m => m.state) = some .waking ∧
    after .latchedWakeServe (at_ (some (.doze, 4)) .doze) = at_ (some (.doze, 4)) .doze ∧
    after .latchedWakeServe (at_ none .dormant) = at_ none .dormant ∧
    (let p : Dev := { upDom (dom .prepare) with lantern := { (upDom (dom .prepare)).lantern with latched := [(3, 5, 6)] } }
     after .latchedWakeServe p = p) ∧ after .latchedWakeServe up = up := by decide

theorem test_hold_ends : let at_ := fun (t : Nat) => ({ up with
      lantern := { up.lantern with hostIdleMs := 1, lastRequest := some 4, hostActive := true, holds := [(32, { deadline := some 1000004 })] }, uptime := t } : Dev)
    (after .hostIdleExpiry (at_ 1000005)).lantern.hostActive = false ∧ after .hostIdleExpiry (at_ 1000004) = at_ 1000004 ∧
    (after (.pwrHoldTimeout 32) (at_ 1000005)).lantern.holds = [] ∧ after (.pwrHoldTimeout 32) (at_ 1000004) = at_ 1000004 := by decide

theorem test_patterns : let w : WakeCfg := { enable := true, target := 3, filterUs := 9, mode := 0 }
    let d0 := upDom { dom .asleep with portMask := 2 ^ 40 }
    let d : Dev := { d0 with lantern := { d0.lantern with wake := [(40, w), (41, { w with enable := false }), (0x10F, w)], power := .partialRun }, uptime := 1000000 }
    (wakeLevels 40 w = [true] ∧ wakeLevels 0x10F w = [false] ∧ d.domainOf 40 = some 3 ∧ d.portSleeping 40 = true) ∧
    (dom3 (after (.wakePatternDetected 40 [(true, 9900)]) d)).map (fun m => (m.state, m.wakeSource)) = some (.waking, 40) ∧
    (dom3 (after (.wakePatternDetected 0x10F [(false, 9900)]) d)).map (fun m => (m.state, m.wakeSource)) = some (.waking, 0x10F) ∧
    (after (.wakePatternDetected 40 [(true, 8100)]) d).counter 12 552 = 1 ∧ after (.wakePatternDetected 41 [(true, 9900)]) d = d ∧
    after (.wakePatternDetected 40 [(false, 9900)]) d = d ∧
    (let a : Dev := { d with lantern := { d.lantern with domains := [(3, { dom .awake with portMask := 2 ^ 40 })] } }
     a.portSleeping 40 = false ∧ after (.wakePatternDetected 40 [(true, 9900)]) a = { a with freeIx := a.freeIx + 1 }) := by decide

theorem test_pwr_hold : let l := [fr 0 1 0 32, fr 1 1 0 1, fa 2 2]
    let d := upDom (dom .awake)
    Met d 0x0C04 (ask [3, 1, 2, 0, 0, 0, 0, 0]) (rspMax 0) (fun d _ bs => bs.length = 8 ∧ layoutOk l bs = true ∧ tabHas d.lantern.domains (byteAt bs 0) = true) ∧
    Met d 0x0C04 (ask [2, 1, 2, 0, 0, 0, 0, 0]) (rspMax 0) (fun d _ bs => bs.length = 8 ∧ layoutOk l bs = true ∧ byteAt bs 0 < 32 ∧
      tabHas d.lantern.domains (byteAt bs 0) = false) ∧
    (after (.pwrHold (ask [3, 1, 2, 0, 0, 0, 0, 0])) d).lantern.holds = [(3, { deadline := some 2000000010 })] ∧
    (after (.pwrHold (ask [3, 0, 2, 0, 0, 0, 0, 0])) d).lantern.holds = [] ∧
    reply (after (.pwrHold (ask [2, 1, 2, 0, 0, 0, 0, 0])) d) = some (stNotFound, 0, []) := by decide

theorem test_pwr_reads : Met up 0x0C05 (ask []) (rspMax 64) (fun _ _ bs => bs = []) ∧ Met up 0x0C06 (ask []) (rspMax 260) (fun _ _ bs => bs = []) ∧
    replyNum (after (.pwrAonLogRead (ask [])) up) 0 4 = some (0, 0, 0) ∧
    replyNum (after (.pwrStatus (ask [])) (upSleep 1 none .partialRun)) 0 1 = some (0, 0, powerCode .partialRun) := by decide

theorem test_pwr_alarm : let l := [fa 0 6, fr 6 1 0 32]
    let d : Dev := { up with lantern := { up.lantern with rtcS := 4 } }
    Met d 0x0C07 (ask [5, 0, 0, 0, 0, 0, 3, 0]) (rspMax 0) (fun d _ bs => bs.length = 8 ∧ layoutOk l bs = true ∧ d.lantern.rtcS < le bs 0 6) ∧
    Met d 0x0C07 (ask [4, 0, 0, 0, 0, 0, 3, 0]) (rspMax 0) (fun d _ bs => bs.length = 8 ∧ layoutOk l bs = true ∧ le bs 0 6 ≠ 0 ∧ le bs 0 6 ≤ d.lantern.rtcS) ∧
    (fun (x : Lantern) => (x.alarmS, x.alarmTarget)) (after (.pwrRtcAlarm (ask [5, 0, 0, 0, 0, 0, 3, 0])) d).lantern = (5, 3) ∧
    reply (after (.pwrRtcAlarm (ask [4, 0, 0, 0, 0, 0, 3, 0])) d) = some (stBadParam, 0, []) := by decide
/-! ## Safety -/

/-- The block 20 ms after its last self-test and digest pass. -/
def up20 (split : Bool) : Dev := { up with uptime := 20000000, safety := { up.safety with split := split } }

/-- What an F2 response leaves: stage FAULT_HOLD, SAFE_N low, ACT released and its record the latest. -/
def f2Done (code object data : Nat) (d : Dev) : Bool :=
  decide (d.host.stage = .faultHold) && d.safety.safe && !d.twin.act && d.safety.lastCode == code &&
    (match d.safety.log.getLast? with
     | some r => r.code == code && r.cls == 2 && r.object == object && r.data == data
     | none => false)

theorem test_spire : (up20 false).spireRuns = true ∧ (up20 true).spireRuns = true ∧ (up20 false).digestsValid = true := by decide

theorem test_lock_cmp : f2Done 0x0101 0 6 (after (.lockCmp 6) (up20 false)) = true ∧ after (.lockCmp 6) (up20 true) = up20 true := by decide

theorem test_lock_infra : f2Done 0x0102 2 0 (after (.delayParityError true) (up20 false)) = true ∧
    f2Done 0x0102 0 0 (after (.comparatorSelfTest false) (up20 false)) = true := by decide

theorem test_split_infra : let d := after (.delayParityError false) (up20 true)
    d.safety.noReturn = true ∧ d.host.stage = .run ∧ d.safety.lastCode = 0x0102 ∧ after (.stateDigestPass 1 2) (up20 true) = up20 true := by decide

theorem test_digest_watchdog : f2Done 0x0103 0 0 (after (.stateDigestPass 1 2) (up20 false)) = true ∧
    (after (.stateDigestPass 1 1) (up20 false)).safety.digestAt = 20000000 ∧ (up20 false).safety.wdtMs = 100 ∧
    (let d := { up20 true with safety := { (up20 true).safety with wdtMs := 10 } }
     d.digestsValid = true ∧ f2Done 0x0104 0 0 (after (.watchdogExpiry 9999999) d) = true ∧ after (.watchdogExpiry 10000000) d = d) := by decide

theorem test_memory_errors : let e : MemError := { memory := 7, corrected := false, word := 9 }
    memoryF2 e = true ∧ memoryF2 { e with memory := 1 } = false ∧ up.boot.stopped = false ∧ f2Done 0x0502 7 9 (after (.memoryErrorDetected e) up) = true ∧
    (fun (d : Dev) => (d.host.stage, d.safety.lastCode)) (after (.memoryErrorDetected { e with memory := 1 }) up) = (.run, 0x0502) ∧
    (fun (d : Dev) => (d.host.stage, d.safety.log)) (after (.memoryErrorDetected { e with corrected := true }) up) = (.run, []) := by decide

theorem test_restart : let at_ := fun (t action limit : Nat) => ({ up with
                                    host := { up.host with stage := .faultHold }
                                    uptime := t
                                    safety := { up.safety with holdSince := some 4, f2Action := action, restartsPerHour := limit, restarts := [5] } } : Dev)
    let d := after .faultHoldRestart (at_ 100000005 1 2)
    (at_ 100000005 1 2).recentRestarts = [5] ∧ (d.host.stage, d.boot.resetKind, d.safety.restarts) = (.reset, some 1, [5, 100000005]) ∧
    after .faultHoldRestart (at_ 100000005 0 2) = at_ 100000005 0 2 ∧ after .faultHoldRestart (at_ 100000004 1 2) = at_ 100000004 1 2 ∧
    after .faultHoldRestart (at_ 100000005 1 1) = at_ 100000005 1 1 := by decide

/-! ## The twin -/

/-- The block in twin mode at 30 us, its twin unit changed. -/
def upTwin (f : Twin → Twin) : Dev := { up with twin := f { up.twin with enable := true }, uptime := 30000 }

/-- Role, ACT and a running switch-over. -/
def roleOf (d : Dev) : TwinRole × Bool × Bool := (d.twin.role, d.twin.act, d.twin.takingOver)

theorem test_conflict : let d := upTwin (fun t => { t with act := true, actInHigh := false })
    let e := upTwin (fun t => { t with act := true, actInHigh := true })
    (after .interlockConflict d).twin.conflict = true ∧ (after .interlockConflict d).twin.settle = some 80000 ∧ after .interlockConflict e = e := by decide

theorem test_settle : let at_ := fun (now : Nat) (tk high strap : Bool) => ({ upTwin (fun t => { t with
      settle := some 60000, takingOver := tk, act := true, actInHigh := high, actInHighSince := 10000, strap := strap, role := .active, mismatch := 1 }) with uptime := now } : Dev)
    roleOf (after .interlockSettleExpiry (at_ 60001 true false false)) = (.active, false, false) ∧
    roleOf (after .interlockSettleExpiry (at_ 60001 false false true)) = (.standby, false, false) ∧
    roleOf (after .interlockSettleExpiry (at_ 60001 false false false)) = (.active, true, false) ∧
    after .interlockSettleExpiry (at_ 60000 true false false) = at_ 60000 true false false := by decide

theorem test_settle_takes : let d : Dev := { upTwin (fun t => { t with
      settle := some 60000, takingOver := true, act := true, actInHigh := true, actInHighSince := 10000, role := .standby }) with uptime := 60001 }
    d.twin.conflict = false ∧ d.twin.gap = [] ∧ roleOf (after .interlockSettleExpiry d) = (.active, true, false) := by decide

theorem test_claim : let at_ := fun (strap high : Bool) => upTwin (fun t => { t with role := .pairing, strap := strap, actInHigh := high })
    (at_ false true).mayClaim = true ∧ roleOf (after .actClaimAtRun (at_ false true)) = (.active, true, false) ∧
    roleOf (after .actClaimAtRun (at_ false false)) = (.standby, false, false) ∧
    (after .actClaimAtRun (at_ true true)).twin.primaryWait = some 500030000 ∧ after .actClaimAtRun up = up := by decide

theorem test_primary_wait : let at_ := fun (high : Bool) => upTwin (fun t => { t with role := .pairing, strap := true, actInHigh := high, primaryWait := some 4 })
    roleOf (after .primaryWaitExpiry (at_ true)) = (.active, true, false) ∧ (after .primaryWaitExpiry (at_ true)).twin.primaryWait = none ∧
    roleOf (after .primaryWaitExpiry (at_ false)) = (.standby, false, false) ∧ after .primaryWaitExpiry up = up := by decide

theorem test_takeover_decision : let at_ := fun (since : Nat) (high : Bool) => upTwin (fun t => { t with role := .standby, actInHigh := high, actInHighSince := since })
    (at_ 10000 true).deviceAsleep = false ∧ roleOf (after .actTakeoverDecision (at_ 10000 true)) = (.standby, true, true) ∧
    (after .actTakeoverDecision (at_ 10000 true)).twin.settle = some 80000 ∧ after .actTakeoverDecision (at_ 10001 true) = at_ 10001 true ∧
    after .actTakeoverDecision (at_ 10000 false) = at_ 10000 false := by decide

theorem test_act_edge : let at_ := fun (high : Bool) => upTwin (fun t => { t with role := .standby, actInHigh := high, actInHighSince := 4 })
    after (.actInNEdge true) (at_ true) = at_ true ∧ (after (.actInNEdge false) (at_ true)).twin.actInHigh = false ∧ (at_ false).lantern.power = .run ∧
    (fun (t : Twin) => (t.actInHigh, t.actInHighSince)) (after (.actInNEdge true) (at_ false)).twin = (true, 30000) := by decide

/-- A Twin Link frame from a station, without records. -/
def linkFrame (sa : Nat) : Bytes := zeros 6 ++ beb 6 sa ++ beb 2 0x88B5 ++ [4, 1] ++ zeros 16

theorem test_journal_received : let d := upTwin (fun t => { t with link := true, peerMac := some 7 })
    after (.journalFrameReceived (linkFrame 7)) up = up ∧ be (linkFrame 8) 6 6 = 8 ∧ be (linkFrame 8) 12 2 = 0x88B5 ∧ byteAt (linkFrame 8) 14 = 4 ∧
    (after (.journalFrameReceived (linkFrame 8)) d).counter 13 9 = 1 ∧ (after (.journalFrameReceived (linkFrame 7)) d).twin.lastRx = 30000 := by decide

/-- Twin Link up, P9 too, and a frame sent at 4 ns and resent some times. -/
def upLink (role : TwinRole) (resends : Nat) : Dev :=
  { (upTwin (fun t => { t with
      link := true, role := role, peerMac := some 7, unacked := [{ seq := 1, bytes := linkFrame 8, sentAt := 4, resends := resends }]
      waits := [{ seq := 1, type := 3, deadline := 5000004 }], sync := true })).modPort 9 (fun c => { c with up := true }) with uptime := 200000000 }

theorem test_resend : let d := upLink .active 8
    (after .journalResendTimeout d).twin.link = false ∧ (after .journalResendTimeout d).safety.lastCode = 0x0702 ∧
    (after .journalResendTimeout (upLink .active 7)).twin.unacked.map (fun j => j.resends) = [8] ∧
    after .journalResendTimeout { d with uptime := 9000004 } = { d with uptime := 9000004 } ∧
    ((upLink .active 7).free.2.granted 11 64 (upLink .active 7).free.1).isSome = true := by decide

theorem test_sync_timeout : let d := upLink .active 8
    (fun (t : Twin) => (t.sync, t.waits)) (after .journalSyncTimeout d).twin = (false, []) ∧
    after .journalSyncTimeout { d with uptime := 5000004 } = { d with uptime := 5000004 } := by decide

theorem test_link_timeout : let d := upLink .active 8
    (fun (x : Dev) => (x.twin.link, x.twin.sync, x.safety.lastCode)) (after .twinLinkTimeout d) = (false, false, 0x0702) ∧
    after .twinLinkTimeout { d with uptime := 10000000 } = { d with uptime := 10000000 } := by decide

theorem test_twin_sends : let d := upLink .active 8
    d.twinSends = true ∧ d.journals = true ∧ (after .helloSend d).twin.lastHello = some 200000000 ∧ (after .helloSend d).twin.txSeq = 0 ∧
    (after .timeAlignSend d).twin.lastAlign = 200000000 ∧ (after .timeAlignSend d).twin.txSeq = 1 ∧
    (after .journalBatchSend d).twin.lastBatch = 200000000 ∧
    (d.free.2.granted 11 64 d.free.1).isSome = true ∧ after .helloSend up = up ∧ after .timeAlignSend up = up ∧ after .journalBatchSend up = up := by decide

/-- A twin send whose transfer is not granted leaves only the arbiter and the free index changed. -/
theorem test_twin_not_granted : let a : Dev := upLink .active 8
    let d : Dev := { a with arb := { a.arb with holder := some { req := 0, forced := true, left := 9 } } }
    let kept := fun (e : Dev) => decide (({ e with arb := d.arb, freeIx := d.freeIx } : Dev) = d)
    d.free.2.granted 11 64 d.free.1 = none ∧ kept (after .helloSend d) = true ∧ kept (after .timeAlignSend d) = true ∧
    kept (after .journalBatchSend d) = true := by decide

theorem test_loose_period : let d := upTwin (fun t => { t with looseEnd := some 4 })
    (after .loosePeriodExpiry d).twin.looseEnd = none ∧ after .loosePeriodExpiry up = up := by decide

/-! ## Safety commands -/

/-- A record of the fault log. -/
def fault1 (seq : Nat) : FaultRec := { seq := seq, code := 0x0701, cls := 1, flags := 0, time := 0, object := 0, data := 0 }

/-- The block with records 5 and 6. -/
def upFaults : Dev := { up with safety := { up.safety with log := [fault1 5, fault1 6], faultSeq := 7, lastCode := 0x0701 } }

theorem test_safe_reads : Met upFaults 0x0D01 (ask []) (rspMax 16) (fun _ _ bs => bs = []) ∧ Met up 0x0D07 (ask []) (rspMax 32) (fun _ _ bs => bs = []) ∧
    replyNum (after (.safeStatus (ask [])) upFaults) 2 2 = some (0, 0, 0x0701) ∧ replyNum (after (.safeStatus (ask [])) upFaults) 4 4 = some (0, 0, 6) ∧
    replyNum (after (.safeTwinStatus (ask [])) (upLink .standby 0)) 0 4 = some (0, 0, 0x00010100 + roleCode .standby) := by decide

theorem test_fault_read : let l := [fa 0 4, fr 4 1 1 64]
    Met upFaults 0x0D02 (ask [6, 0, 0, 0, 2, 0, 0, 0]) (fun _ bs => 8 + 32 * byteAt bs 4) (fun d _ bs => bs.length = 8 ∧ layoutOk l bs = true ∧
      0 ≤ deadlineDiff (le bs 0 4) d.oldestFault) ∧
    Met upFaults 0x0D02 (ask [4, 0, 0, 0, 2, 0, 0, 0]) (fun _ bs => 8 + 32 * byteAt bs 4) (fun d _ bs => bs.length = 8 ∧ layoutOk l bs = true ∧
      deadlineDiff (le bs 0 4) d.oldestFault < 0) ∧
    reply (after (.safeFaultRead (ask [6, 0, 0, 0, 2, 0, 0, 0])) upFaults) = some (0, 0, [1, 0, 0, 0, 5, 0, 0, 0] ++ faultBytes (fault1 6)) ∧
    reply (after (.safeFaultRead (ask [4, 0, 0, 0, 2, 0, 0, 0])) upFaults) = some (stNotFound, 5, []) := by decide

theorem test_fault_clear : Met upFaults 0x0D03 (ask [5, 0, 0, 0]) (rspMax 4) (fun _ _ bs => bs.length = 4) ∧
    reply (after (.safeFaultClear (ask [5, 0, 0, 0])) upFaults) = some (0, 0, [1, 0, 0, 0]) ∧
    (after (.safeFaultClear (ask [5, 0, 0, 0])) upFaults).safety.log.map (fun r => r.flags) = [8, 0] := by decide

/-- SAFE_MODE_SET's data. -/
def mode (m : Byte) : Bytes := [m, 0, 0, 0] ++ leb 4 0x73706972

/-- The block in a lifecycle state, in twin mode or not. -/
def upLife (lifecycle : Nat) (twin : Bool) : Dev := { upTwin (fun t => { t with enable := twin }) with keep := { up.keep with lifecycle := lifecycle } }

theorem test_mode_admitted : let l := [fr 0 1 0 1, fr 4 4 0x73706972 0x73706972]
    Met (upLife 1 false) 0x0D04 (ask (mode 1)) (rspMax 4) (fun d _ bs => bs.length = 8 ∧ layoutOk l bs = true ∧ byteAt bs 0 = 1 ∧ d.keep.lifecycle ≠ 3 ∧
      d.twin.enable = false ∧ d.sessionHeld = false ∧ d.txn.txn = none ∧ d.txn.committing = none) ∧
    Met (up20 true) 0x0D04 (ask (mode 0)) (rspMax 4) (fun d _ bs => bs.length = 8 ∧ layoutOk l bs = true ∧ byteAt bs 0 = 0 ∧ d.safety.noReturn = false) ∧
    Met (upLife 3 false) 0x0D04 (ask (mode 1)) (rspMax 4) (fun d _ bs => bs.length = 8 ∧ layoutOk l bs = true ∧ byteAt bs 0 = 1 ∧
      d.safety.split = false ∧ d.keep.lifecycle = 3) ∧
    Met (upLife 1 true) 0x0D04 (ask (mode 1)) (rspMax 4) (fun d _ bs => bs.length = 8 ∧ layoutOk l bs = true ∧ byteAt bs 0 = 1 ∧
      d.safety.split = false ∧ d.keep.lifecycle ≠ 3 ∧ d.twin.enable = true) := by decide

theorem test_mode : (after (.safeModeSet (ask (mode 1)) true) (upLife 1 false)).safety.split = true ∧
    (after (.safeModeSet (ask (mode 0)) true) (up20 true)).safety.split = false ∧
    f2Done 0x0102 0 0 (after (.safeModeSet (ask (mode 0)) false) (up20 true)) = true ∧
    reply (after (.safeModeSet (ask (mode 1)) true) (upLife 3 false)) = some (stNotPermitted, 0, []) ∧
    reply (after (.safeModeSet (ask (mode 1)) true) (upLife 1 true)) = some (stWrongMode, 0, []) := by decide

/-- SAFE_TWIN_HANDOVER's data: 2 ms. -/
def handover2 : Bytes := leb 4 0x73706972 ++ [2, 0, 0, 0]

theorem test_handover : let d := upTwin (fun t => { t with role := .active })
    let l := [fr 0 4 0x73706972 0x73706972, fr 4 2 1 1000]
    Met d 0x0D08 (ask handover2) (rspMax 0) (fun d _ bs => bs.length = 8 ∧ layoutOk l bs = true ∧ d.twin.role = .active ∧ d.twin.handover = none ∧ d.twin.sync = false) ∧
    Met up 0x0D08 (ask handover2) (rspMax 0) (fun d _ bs => bs.length = 8 ∧ layoutOk l bs = true ∧ d.twin.role ≠ .active) ∧
    (after (.safeTwinHandover (ask handover2)) d).twin.handover = some (1, 2030000) ∧
    reply (after (.safeTwinHandover (ask handover2)) up) = some (stWrongMode, 0, []) := by decide
/-! ## Firmware update -/

/-- The owner's manifest number 9 of a component: one image of 16 bytes with a digest of zeros, EPOCH 2, no signature. -/
def manifest9 (comp : Byte) : Bytes :=
  [1, 2, 1, 0] ++ leb 4 9 ++ zeros 40 ++ [comp, 0, 0, 0] ++ leb 4 5 ++ leb 4 6 ++ leb 4 2 ++ leb 4 16 ++ zeros 4 ++ zeros 48 ++ zeros 96

/-- An update session of a channel with it, its image to be written into bank B. -/
def session9 (comp : Byte) (verified : Bool) (written : Nat) : UpdateSession :=
  { owner := 1, manifest := manifest9 comp, targets := [(comp.toNat, 1)], verified := verified, written := [(comp.toNat, written)]
    lastWrite := [], deadline := 60000000000 }

/-- A trial of PHY's bank B. -/
def trial9 (hot : Bool) : Trial :=
  { manifestId := 9, mask := 4, hot := hot, confirmS := 600, deadline := if hot then some 5 else none, previous := [(3, 0)], current := [(3, 1)]
    faultMark := 0, failed := none }

/-- The block in OWNED, with a session and a trial. -/
def upFw (u : Option UpdateSession) (t : Option Trial) : Dev :=
  { up with keep := { up.keep with lifecycle := 2, ownerAuth := zeros 96 }, update := { up.update with session := u, trial := t } }

/-- A bank's state. -/
def bankState (d : Dev) (comp bank : Nat) : Nat := (d.fwBank comp bank).state

/-- FW_BEGIN accepts the manifest where its signature holds. -/
theorem test_manifest (hs : Config.ecdsaVerify 2 (zeros 96) (Config.sha384 (manSigned (manifest9 3))) (zeros 96) = true) :
    (upFw none none).manifestError (manifest9 3) = none := by
  have h : (upFw none none).manifestSigned (manifest9 3) = true := by
    have hk : (upFw none none).manifestKey (byteAt (manifest9 3) 1) = zeros 96 := by decide
    have hg : slice (manifest9 3) (48 + 72 * manCount (manifest9 3)) 96 = zeros 96 := by decide
    unfold Dev.manifestSigned
    rw [hk, hg]
    simp only [hs]
    decide
  unfold Dev.manifestError
  rw [if_neg (by decide), h]
  decide

theorem test_begin_admitted : Met (upFw none none) 0x0E01 (ask (manifest9 3)) (rspMax 8) (fun d _ bs => bs = manifest9 3 ∧
      d.update.session = none ∧ d.update.trial = none ∧ d.keep = (upFw none none).keep) ∧
    Met up 0x0E01 (ask (zeros 140)) (rspMax 8) (fun _ _ bs => bs.length < 144) ∧
    reply (after (.fwBegin (ask (zeros 140))) up) = some (stBadLength, 0, []) ∧
    (((upFw none none).openUpdate 1 (manifest9 3)).update.session.map (fun u => (u.owner, u.targets))) = some (1, [(3, 1)]) := by decide

theorem test_write : let d := upFw (some (session9 3 false 0)) none
    let rq := ask ([3, 0, 0, 0] ++ leb 4 0 ++ [7, 8] ++ zeros 14)
    Met d 0x0E02 rq (rspMax 4) (fun d _ bs => 8 ≤ bs.length ∧ le bs 1 3 = 0 ∧ byteAt bs 0 = 3 ∧ d.update.session = some { session9 3 false 0 with deadline := 60000000000 } ∧
      manEntryOf (manifest9 3) 3 = some (manEntry (manifest9 3) 0) ∧
      (session9 3 false 0).writeOk (byteAt bs 0) (le bs 4 4) (bs.length - 8) (entLength (manEntry (manifest9 3) 0)) = true) ∧
    replyNum (after (.fwWrite rq) d) 0 4 = some (0, 0, 16) ∧
    memRead (after (.fwWrite rq) d).update.mram (0x420000 + 1) = 8 := by decide

theorem test_write_refused : let d := upFw (some (session9 3 false 0)) none
    let rq := ask ([3, 0, 0, 0] ++ leb 4 16 ++ zeros 16)
    Met d 0x0E02 rq (rspMax 4) (fun _ _ bs => 8 ≤ bs.length ∧ le bs 1 3 = 0 ∧
      (session9 3 false 0).writeOk (byteAt bs 0) (le bs 4 4) (bs.length - 8) (entLength (manEntry (manifest9 3) 0)) = false) ∧
    reply (after (.fwWrite rq) d) = some (stBadParam, 0, []) := by decide

theorem test_verify_admitted : let d := upFw (some (session9 3 false 16)) none
    Met d 0x0E03 (ask []) (rspMax 4) (fun x _ bs => bs = [] ∧ x.update = d.update ∧ (session9 3 false 16).owner = 1 ∧
      ∀ e ∈ manEntries (manifest9 3), entLength e ≤ (session9 3 false 16).writtenOf (entComp e)) ∧
    Met (upFw none none) 0x0E03 (ask []) (rspMax 4) (fun d _ bs => bs = [] ∧ d.update.session = none) ∧
    reply (after (.fwVerify (ask [])) (upFw none none)) = some (stNotFound, 0, []) := by decide

/-- A bank of zeros has the digest of zeros where SHA-384 gives it, and else not. -/
theorem test_digest (x : Dev) (h : x.update = (upFw (some (session9 3 false 16)) none).update) :
    x.digestOk (session9 3 false 16) (manEntry (manifest9 3) 0) = decide (slice (Config.sha384 (zeros 16)) 0 48 = zeros 48) := by
  unfold Dev.digestOk Dev.targetImage
  rw [h]
  have h1 : memReadN (upFw (some (session9 3 false 16)) none).update.mram
      (bankBase (entComp (manEntry (manifest9 3) 0)) ((session9 3 false 16).target (entComp (manEntry (manifest9 3) 0))))
      (entLength (manEntry (manifest9 3) 0)) = zeros 16 := by decide
  have h2 : entDigest (manEntry (manifest9 3) 0) = zeros 48 := by decide
  rw [h1, h2]
  exact Bool.beq_eq_decide_eq _ _

/-- FW_ACTIVATE's data: MODE, SOURCE, MASK. -/
def activate9 (mode source mask : Byte) : Bytes := [mode, source, mask, 0] ++ leb 4 0x6669726D

/-- It is admitted with a layout that holds, the banks it names, and nothing that refuses it. -/
abbrev Activates (mode : Byte) : Prop :=
  Met (upFw (some (session9 3 true 16)) none) 0x0E04 (ask (activate9 mode 0 0)) (rspMax 4080) (fun d rq bs => bs.length = 8 ∧
    layoutOk [fr 0 1 0 1, fr 1 1 0 1, fr 2 1 0 31, fr 4 4 0x6669726D 0x6669726D] bs = true ∧ byteAt bs 0 = mode.toNat ∧
    activationBanks d rq.ch bs = .inr (9, 600, [(3, 1)]) ∧ activationRefused d (mode == 1) [(3, 1)] = none)

/-- An activation without a CFG image evaluates none. -/
theorem test_activate_no_cfg (d : Dev) (reset : Bool) : activationCfg d reset [(3, 1)] = .inr [] := rfl

theorem test_activates : Activates 1 ∧ Activates 0 := by decide

theorem test_activates_ready : let d := upFw (some (session9 3 true 16)) none
    d.txn.committing = none ∧ ∀ b ∈ [((3 : Nat), (1 : Nat))], b.1 ≠ 5 ∧ (none : Option Nat) ≠ some b.1 ∧ (some 1 : Option Nat) ≠ some b.1 := by decide

/-- The block with a verified CFG image in bank B: format 1, no commands. -/
def upCfgFw : Dev :=
  let d := upFw (some (session9 5 true 16)) none
  { d with update := { d.update with mram := memWriteN d.update.mram (bankBase 5 1) ([1] ++ zeros 15) } }.setBank 5 1 { bank0 with state := 1, length := 16, epoch := 2 }

theorem test_activates_cfg : Met upCfgFw 0x0E04 (ask (activate9 0 0 0)) (rspMax 4080) (fun d rq bs => bs.length = 8 ∧
      layoutOk [fr 0 1 0 1, fr 1 1 0 1, fr 2 1 0 31, fr 4 4 0x6669726D 0x6669726D] bs = true ∧ byteAt bs 0 = 0 ∧
      activationBanks d rq.ch bs = .inr (9, 600, [(5, 1)]) ∧ activationRefused d false [(5, 1)] = none ∧ d.txn.committing = none) := by decide

/-- A HOT activation's CFG image in bank B is evaluated. -/
def cfgAccepted (d : Dev) : Bool := match activationCfg d false [(5, 1)] with
  | .inl _ => false
  | .inr _ => true

theorem test_activates_cfg_image : cfgAccepted upCfgFw = true := by decide

/-- A step of a HOT activation fails: PHY's at a reset, CFG's HOT. -/
theorem test_activate_fails :
    (let d := after (.fwActivate (ask (activate9 0 0 0)) (some 3)) (upFw (some (session9 3 true 16)) none)
     (d.host.stage, d.boot.resetKind) = (.reset, some 1) ∧ d.update.trial.map (fun t => t.failed) = some (some 5)) ∧
    (after (.fwActivate (ask (activate9 0 0 0)) (some 5)) upCfgFw).update.trial = none ∧
    (after (.fwActivate (ask (activate9 0 0 0)) none) upCfgFw).update.trial.map (fun t => (t.failed, t.current)) = some (none, [(5, 1)]) := by decide

theorem test_activated : let d := after (.fwActivate (ask (activate9 1 0 0)) none) (upFw (some (session9 3 true 16)) none)
    d.boot.resetDue = some (100000, 1, 3) ∧ d.update.trialFlag = true ∧
    d.update.trial.map (fun t => (t.manifestId, t.confirmS, t.current, t.hot)) = some (9, 600, [(3, 1)], false) := by decide

theorem test_activated_hot : let d := after (.fwActivate (ask (activate9 0 0 0)) none) (upFw (some (session9 3 true 16)) none)
    d.update.trial.map (fun t => (t.current, t.hot, t.deadline)) = some ([(3, 1)], true, some 600000000000) ∧ bankState d 3 1 = 3 ∧ bankState d 3 0 = 2 := by decide

theorem test_activate_busy : let d := upFw (some (session9 3 true 16)) (some (trial9 true))
    Met d 0x0E04 (ask (activate9 1 0 0)) (rspMax 4080) (fun d rq bs => activationBanks d rq.ch bs = .inr (9, 600, [(3, 1)]) ∧ d.update.trial.isSome = true) ∧
    reply (after (.fwActivate (ask (activate9 1 0 0)) none) d) = some (stBusy, 0, []) := by decide

/-- The block with PHY's bank B on trial. -/
def upTrial (hot : Bool) : Dev :=
  (upFw none (some (trial9 hot))).setBank 3 1 { bank0 with state := 3, epoch := 2 }

theorem test_confirm : let d := after (.fwConfirm (ask (leb 4 9))) (upTrial true)
    Met (upTrial true) 0x0E05 (ask (leb 4 9)) (rspMax 0) (fun d _ bs => bs.length = 4 ∧ d.host.stage = .run ∧ d.boot.cfgRefused = false ∧
      d.update.trial = some (trial9 true) ∧ (trial9 true).manifestId = le bs 0 4 ∧ (trial9 true).faultMark = d.safety.faultSeq) ∧
    ((trial9 true).current.map (fun c => c.1)).Nodup ∧
    (∀ c ∈ (trial9 true).current, 1 ≤ c.1 ∧ c.1 ≤ 5 ∧ c.2 < 2 ∧ tabGet 2 (trial9 true).previous c.1 ≠ c.2) ∧
    d.update.trial = none ∧ (bankState d 3 1, bankState d 3 0, d.mono 6) = (2, 4, 2) ∧
    Met up 0x0E05 (ask (leb 4 9)) (rspMax 0) (fun d _ bs => bs.length = 4 ∧ d.update.trial = none) ∧
    reply (after (.fwConfirm (ask (leb 4 9))) up) = some (stNotFound, 0, []) := by decide

/-- FW_FALLBACK's data. -/
def fallback9 : Bytes := leb 4 0x6669726D

theorem test_fallback : let d := after (.fwFallback (ask fallback9)) (upTrial false)
    Met (upTrial false) 0x0E06 (ask fallback9) (rspMax 0) (fun d _ bs => bs.length = 4 ∧ layoutOk [fr 0 4 0x6669726D 0x6669726D] bs = true ∧
      d.update.trial = some (trial9 false)) ∧
    Met up 0x0E06 (ask fallback9) (rspMax 0) (fun d _ bs => bs.length = 4 ∧ layoutOk [fr 0 4 0x6669726D 0x6669726D] bs = true ∧ d.update.trial = none) ∧
    d.boot.resetDue = some (100000, 1, 3) ∧ d.update.trial = some { trial9 false with failed := some 4 } ∧
    reply (after (.fwFallback (ask fallback9)) up) = some (stWrongMode, 0, []) := by decide

theorem test_fallback_hot : let u := upTrial true
    let d0 : Dev := { u with update := { u.update with trial := some { trial9 true with mask := 1, previous := [(1, 0)], current := [(1, 1)] } } }
    let d := after (.fwFallback (ask fallback9)) (d0.setBank 1 1 { bank0 with state := 3 })
    d.update.trial = none ∧ (bankState d 1 0, bankState d 1 1) = (2, 4) ∧ d.boot.resetDue = none := by decide

theorem test_abort : let d := upFw (some (session9 3 false 0)) none
    Met d 0x0E07 (ask []) (rspMax 0) (fun d rq bs => bs = [] ∧ d.update.session = some (session9 3 false 0) ∧ (session9 3 false 0).owner = rq.ch) ∧
    (after (.fwAbort (ask [])) d).update.session = none ∧ bankState (after (.fwAbort (ask [])) d) 3 1 = 4 ∧
    reply (after (.fwAbort (ask [])) (upFw (some { session9 3 false 0 with owner := 2 }) none)) = some (stNotPermitted, 0, []) := by decide

theorem test_fw_status : Met up 0x0E08 (ask []) (rspMax 32) (fun _ _ bs => bs = []) ∧
    replyNum (after (.fwStatus (ask [])) (upFw (some (session9 3 true 16)) none)) 0 8 = some (0, 0, 2 + 1 * 2 ^ 8 + 9 * 2 ^ 32) ∧
    replyNum (after (.fwStatus (ask [])) (upTrial true)) 0 4 = some (0, 0, 1 * 2 ^ 16 + 4 * 2 ^ 24) := by decide

/-- A request on MB0. -/
def ask0 (bs : Bytes) : Req := { ask bs with ch := 0 }

/-- The block in Kiln with a session. -/
def upKiln (u : Option UpdateSession) : Dev :=
  (({ upFw u none with host := { up.host with stage := .kiln } } : Dev)).modChan 0 (fun c => { c with enable := true })

/-- KILN_BOOT's data. -/
def kiln9 : Bytes := leb 4 0x6669726D ++ zeros 4

theorem test_kiln_boot : let d := after (.kilnBoot (ask0 kiln9)) (upKiln (some (session9 3 true 16)))
    Met (upKiln none) 0x0E09 (ask0 kiln9) (rspMax 0) (fun d _ bs => bs.length = 8 ∧ layoutOk [fr 0 4 0x6669726D 0x6669726D] bs = true ∧ d.update.session = none) ∧
    (d.update.trial.map (fun t => (t.current, t.hot)), d.update.trialFlag, d.mono 3, d.boot.resetDue) = (some ([(3, 1)], false), true, 1, some (100000, 1, 3)) ∧
    (after (.kilnBoot (ask0 kiln9)) (upKiln none)).boot.resetDue = some (100000, 1, 3) := by decide

/-- KILN_UNLOCK's message in TEST for a TAMPER_SEQ. -/
def unlock9 (seq : Nat) : Bytes := testMsg 5 (leb 4 seq ++ zeros 4)

/-- The block in TAMPER_HOLD, TAMPER_SEQ 4, in TEST. -/
def upHold : Dev :=
  ({ up with
      host := { up.host with stage := .tamperHold }
      lantern := { up.lantern with power := .tamperHold, tamper := { up.lantern.tamper with latched := 2, seq := 4 } } } : Dev).modChan 0 (fun c => { c with enable := true })

theorem test_unlock (hu : slice Config.uid 0 16 = zeros 16) : upHold.msgStatus [5] (unlock9 4) = stOk ∧ upHold.msgStatus [5] (unlock9 3) = stOk ∧
    le (msgBody (unlock9 4)) 0 4 = upHold.lantern.tamper.seq ∧ le (msgBody (unlock9 3)) 0 4 ≠ upHold.lantern.tamper.seq ∧ upHold.tamperActive = false := by
  unfold unlock9 testMsg
  rw [hu]
  exact ⟨msgStatus_ok _ _ _ (by decide) (by rw [hu]; decide) (by decide) (by decide) (by decide),
    msgStatus_ok _ _ _ (by decide) (by rw [hu]; decide) (by decide) (by decide) (by decide), by decide, by decide, by decide⟩

theorem test_unlock_admitted : (upHold.admitted 0x0E0A (ask0 (zeros 152)) (rspMax 0)).isSome = true := by decide

/-! ## Their timers -/

theorem test_activation_reset : let at_ := fun (t c : Nat) => ({ upTrial false with boot := { up.boot with resetDue := some (100000, 1, c) }, uptime := t } : Dev)
    let flagged : Dev := { at_ 100000 3 with update := { (at_ 100000 3).update with trialFlag := true } }
    (after .activationReset flagged).host.stage = .reset ∧ (after .activationReset flagged).update.trialReset = some 100000 ∧
    (after .activationReset flagged).boot.resetKind = some 1 ∧ after .activationReset (at_ 99999 3) = at_ 99999 3 ∧
    after .activationReset (at_ 100000 0) = at_ 100000 0 ∧ after .activationReset up = up := by decide

theorem test_session_idle : let d := upFw (some (session9 3 false 0)) none
    (after .updateSessionIdleTimeout { d with uptime := 60000000001 }).update.session = none ∧
    bankState (after .updateSessionIdleTimeout { d with uptime := 60000000001 }) 3 1 = 4 ∧
    after .updateSessionIdleTimeout { d with uptime := 60000000000 } = { d with uptime := 60000000000 } ∧ after .updateSessionIdleTimeout up = up := by decide

theorem test_trial_timer : let at_ := fun (t : Nat) => ({ upTrial true with uptime := t } : Dev)
    (at_ 6).confirmTaken = false ∧ (trial9 true).mask = 4 ∧ (after .trialTimerExpiry (at_ 6)).host.stage = .reset ∧
    (after .trialTimerExpiry (at_ 6)).update.trial = some { trial9 true with failed := some 1 } ∧
    after .trialTimerExpiry (at_ 5) = at_ 5 ∧ after .trialTimerExpiry up = up := by decide

/-- A failed HOT trial whose fallback waited for a COMMIT to be applied. -/
theorem test_trial_waiting : let u := upTrial true
    let t : Trial := { trial9 true with mask := 16, previous := [(5, 0)], current := [(5, 1)], failed := some 2 }
    let d : Dev := { u with update := { u.update with trial := some t } }
    t.backHot = true ∧ d.txn.committing = none ∧ (after .trialTimerExpiry d).update.trial = none ∧
    (let e : Dev := { d with txn := { d.txn with committing := some commit2 } }
     after .trialTimerExpiry e = e) := by decide

theorem test_run_not_reached : let at_ := fun (t : Nat) => ({ upTrial false with
      host := { up.host with stage := .loading }
      update := { (upTrial false).update with trialReset := some 4 }
      uptime := t } : Dev)
    (after .runNotReachedTimeout (at_ 10000000005)).host.stage = .reset ∧
    (after .runNotReachedTimeout (at_ 10000000005)).update.trial = some { trial9 false with failed := some 3 } ∧
    after .runNotReachedTimeout (at_ 10000000004) = at_ 10000000004 ∧ after .runNotReachedTimeout (upTrial true) = upTrial true ∧
    after .runNotReachedTimeout up = up := by decide

theorem test_kiln_idle : let at_ := fun (t : Nat) => ({ upKiln none with update := { up.update with kilnDeadline := some 4 }, uptime := t } : Dev)
    ((at_ 5).chan 0).taken = [] ∧ (after .kilnIdleTimeout (at_ 5)).host.stage = .reset ∧ (after .kilnIdleTimeout (at_ 5)).update.kilnDeadline = none ∧
    after .kilnIdleTimeout (at_ 4) = at_ 4 := by decide

/-- A Kiln frame with a request of opcode 0x0101, to a MAC, from station 7. -/
def kilnFrame9 (mac : Nat) : Bytes := beb 6 mac ++ beb 6 7 ++ beb 2 0x88B5 ++ [5, 1, 0, 0] ++ leb 2 0x0101 ++ zeros 14

theorem test_kiln_frame (hm : Config.baseMac = 3) : slice (kilnFrame9 3) 14 4 = [5, 1, 0, 0] ∧ 34 + le (kilnFrame9 3) 20 2 ≤ (kilnFrame9 3).length ∧
    be (kilnFrame9 3) 0 6 = Config.baseMac ∧ be (kilnFrame9 3) 12 2 = 0x88B5 ∧ (upKiln none).update.kilnPeer = none := by
  rw [hm]
  decide

theorem test_kiln_frame_dropped : after (.kilnFrameReceived (kilnFrame9 3)) up = up ∧ (zeros 33).length < 34 ∧ (upKiln none).host.stage = .kiln ∧
    (let d : Dev := { upKiln none with update := { up.update with kilnPeer := some 7 } }
     after (.kilnFrameReceived (zeros 60)) { d with host := up.host } = { d with host := up.host }) := by decide
/-! ## Resets and boot -/

/-- Straps: PCIe, TWIN_ROLE 1. -/
def pins (aon : Bool) : PowerPins := { spi := false, twinRole := true, aonKept := aon, vddioB := 3300 }

/-- The block with something in its RTC, its always-on log and its tamper latch. -/
def upAon : Dev := { up with lantern := { up.lantern with rtcS := 9, aonSeq := 1, aonLog := [{ type := 1, source := 2, rtcS := 3, rtcSub := 4, seq := 0, data := 6 }] } }

/-- Bank B's pads for VDDIO_B's level. -/
theorem test_pads : let at_ := fun (mv : Nat) => (after (.powerOnReset 100 { pins true with vddioB := mv }) upAon).boot.pads33
    (at_ 1710, at_ 1890, at_ 3135, at_ 3465) = (false, false, true, true) := by decide

theorem test_power_on : let d := after (.powerOnReset 100 (pins true)) upAon
    d.host.stage = .reset ∧ d.twin.strap = true ∧ (d.lantern.rtcS, d.lantern.aonLog.length, d.time.clock.sec) = (9, 1, 9) ∧ upAon.boot.aon = true ∧
    after (.powerOnReset 99 (pins true)) upAon = upAon := by decide

theorem test_power_on_no_aon : (after (.powerOnReset 100 (pins false)) upAon).lantern = lantern0 := by decide

theorem test_system_reset : let d0 : Dev := { upFaults with time := { up.time with clock := { up.time.clock with sec := 8 } } }
    let d := after (.systemResetInput 100) d0
    d0.resettable = true ∧ (d.host.stage, d.boot.resetKind, d.time.clock.sec, d.time.quality) = (.reset, some 1, 8, 4) ∧ d.safety.log.length = 2 ∧
    after (.systemResetInput 99) up = up := by decide

theorem test_not_resettable : let d : Dev := { up with boot := { up.boot with stopped := true } }
    d.resettable = false ∧ after (.systemResetInput 100) d = d ∧ after (.bootSequence bootOk) d = d := by decide

theorem test_aon_removal : let d := after .vddAonRemoval upAon
    (d.lantern.power, d.lantern.rtcS, d.lantern.aonLog, d.host.stage, d.boot.resetKind) = (.off, 0, [], .reset, none) := by decide

/-- The block at a stage of its boot, in a lifecycle state, with a kind of reset. -/
def upBoot (st : Stage) (life : Nat) (kind : Option Nat) : Dev :=
  { dev0 with
    host := { dev0.host with stage := st }
    boot := { dev0.boot with resetKind := kind }
    keep := { dev0.keep with lifecycle := life, lifecycleNext := life }
    safety := { dev0.safety with safe := true } }

theorem test_boot_waits : after (.bootSequence bootOk) (upBoot .rom 1 none) = upBoot .rom 1 none ∧
    (let d : Dev := { up with lantern := { up.lantern with power := .dormant } }
     after (.bootSequence bootOk) d = d ∧ d.resettable = true) := by decide

theorem test_boot_self_check : let d := after (.bootSequence bootOk) (upBoot .reset 1 (some 1))
    let e := after (.bootSequence { bootOk with comparatorOk := false }) (upBoot .reset 1 (some 1))
    (upBoot .reset 1 (some 1)).resettable = true ∧ (d.host.stage, d.boot.bootSrc, d.boot.resetKind) = (.rom, 0, some 1) ∧
    (e.boot.stopped, e.host.stage, e.safeLow, e.faultLow) = (true, .reset, true, true) := by decide

theorem test_boot_lifecycle : f2Done 0x0502 10 0 (after (.bootSequence { bootOk with lifecycleReadable := false }) (upBoot .rom 1 (some 1))) = true := by decide

theorem test_boot_tamper : let d0 := upBoot .rom 1 (some 1)
    let d := after (.bootSequence bootOk) { d0 with lantern := { d0.lantern with tamper := { d0.lantern.tamper with latched := 1 } } }
    d0.tamperActive = false ∧ (d.host.stage, d.lantern.power, d.keep.rootsUnlocked) = (.tamperHold, .tamperHold, false) := by decide

theorem test_boot_kiln : let d := after (.bootSequence bootOk) (upBoot .rom 0 (some 1))
    let e := after (.bootSequence bootOk) { upBoot .rom 1 (some 2) with uptime := 4 }
    (d.host.stage, d.update.kilnDeadline) = (.kiln, none) ∧ (e.host.stage, e.update.kilnDeadline) = (.kiln, some 600000000004) := by decide

theorem test_boot_selection : let d0 := upBoot .rom 1 (some 1)
    let d := after (.bootSequence bootOk) d0
    d0.takeLifecycle.bankInForce 1 = some 0 ∧ d0.takeLifecycle.bankUsable bootOk 1 0 = true ∧ d0.update.trial = none ∧ d0.boot.bootSrc < 2 ∧
    (d.host.stage, d.keep.rootsUnlocked, d.boot.resetKind, d.bankInForce 1) = (.loading, true, none, some 0) := by decide

theorem test_boot_loading : let d := after (.bootSequence bootOk) (upBoot .loading 1 none)
    (d.host.stage, d.boot.legRuns, d.boot.phyLoaded, d.boot.admittingAt) = (.admitting, true, true, some 0) := by decide

theorem test_boot_admitting : let d0 := upBoot .admitting 1 none
    let d := after (.bootSequence bootOk) d0
    (d0.bankInForce 5, d0.cask.sge, d0.twin.link) = (none, [], false) ∧ (d.host.stage, d.safety.safe) = (.run, false) ∧ d.txn.committing = none ∧
    (let e : Dev := { d0 with boot := { d0.boot with cfgRefused := true } }
     after (.bootSequence bootOk) e = e) := by decide

/-- The block with a CFG image of zeros, which is malformed. -/
def upCfg : Dev := (upBoot .admitting 1 none).setBank 5 0 { bank0 with state := 2, length := 16 }

theorem test_boot_refused : (match upCfg.applyLegalSge.cfgInForce.1 with | .inl e => e.object | .inr _ => 0) = 0xFFFFFFFF ∧
    (after (.bootSequence bootOk) upCfg).boot.cfgRefused = true ∧ (after (.bootSequence bootOk) upCfg).host.stage = .admitting := by decide

/-- The block in DORMANT with a wake latched, its kept banks as they are or not. -/
def upDormant (banks : List Nat) : Dev :=
  { dev0 with
    lantern := { dev0.lantern with power := .dormant, rtcS := 9, latched := [(32, 0x201, 4)], keptBanks := banks, keptWrites := dev0.update.mramWrites }
    keep := { dev0.keep with lifecycle := 1, lifecycleNext := 1 } }

theorem test_cold_from_dormant : let d := after (.warmPathBoot bootOk) (upDormant [])
    (upDormant []).warmFits bootOk = false ∧ (d.host.stage, d.boot.resetKind, d.lantern.power, d.time.clock.sec) = (.reset, some 1, .run, 9) ∧ d.safety.log = [] ∧
    after (.warmPathBoot bootOk) up = up := by decide

theorem test_warm_path : let d := after (.warmPathBoot bootOk) (upDormant (upDormant []).bankSelection)
    (upDormant (upDormant []).bankSelection).warmFits bootOk = true ∧ (d.host.stage, d.lantern.power, d.lantern.lastWakeSrc) = (.run, .run, 0x201) := by decide

/-! ## Bounds -/

theorem test_bounded : up.Bounded :=
  { history := by decide
    unsent := by decide
    faults := by decide
    aon := by decide
    ns := by decide
    rtc := by decide
    mram := by decide
    capture := by decide
    pools := by decide }

/-- The block with a code in JTAG's instruction register, in a lifecycle state. -/
def upJtag (code life : Nat) : Dev := { up with jtag := { up.jtag with ir := code }, keep := { up.keep with lifecycle := life } }

theorem test_jtag : (upJtag 1 3).jtagInstr = .idcode ∧ (upJtag 0 3).jtagInstr = .bypass ∧ (upJtag 0 2).jtagInstr = .extest ∧
    (upJtag 3 1).jtagDrives = some none ∧ (upJtag 7 1).jtagInstr = .bypass ∧ idCodeOf 1 = 0x1966354B := by decide

theorem test_bounded_step : (match step { dev := up, pending := [.linkDown 0 1] } with | .next s => s.pending.length | _ => 9) = 0 := by decide
/-! ## Transactional commands -/

/-- A command's data: fields (offset, size, value) in zeros. -/
def dat (n : Nat) (fs : List (Nat × Nat × Nat)) : Bytes := fs.foldl (fun b f => patch b f.1 (leb f.2.1 f.2.2)) (zeros n)

/-- A transactional command's data pass its check in transaction 5, where it is admitted; it then is the transaction's one command, answered with
its index 0. -/
abbrev StagesOf (mk : Req → Instr) (op : Nat) (check : Dev → Bytes → Nat) (bs : Bytes) : Prop :=
  Met upTxn op (stage5 bs) (rspMax 0) (fun d _ b => d.txn.txn = some txn5 ∧ check d b = stOk) ∧ reply (after (mk (stage5 bs)) upTxn) = some (0, 0, []) ∧
  (after (mk (stage5 bs)) upTxn).txn.txn.map (fun x => x.staged) = some [{ opcode := op, data := bs }]

theorem test_staged_host : StagesOf .sysChannelCfg 0x0108 checkChannelCfg (dat 24 [(0x0, 1, 0x1)]) := by decide

theorem test_staged_ports : StagesOf .portCfg 0x0201 checkPortCfg (portCfg0) ∧
    StagesOf .portFilterSet 0x0202 checkPortFilter (dat 196 []) ∧
    StagesOf .portPlcaCfg 0x0203 checkPortPlca (dat 8 [(0x0, 1, 0x22), (0x1, 1, 0x1), (0x3, 1, 0x8), (0x4, 1, 0x20)]) := by decide

theorem test_staged_fabric : StagesOf .fabBufferCfg 0x0301 checkFabBuffer (zeros 18 ++ [50] ++ zeros 13 ++ (List.replicate 96 (leb 2 1)).flatten) ∧
    StagesOf .fabMirrorCfg 0x0302 checkFabMirror (dat 24 [(0x4, 2, 0x1)]) ∧
    StagesOf .fabCaptureCfg 0x0303 checkFabCapture (dat 8 [(0x0, 1, 0x1), (0x2, 2, 0x40)]) := by decide

theorem test_staged_fabric_2 : StagesOf .fabLagCfg 0x0305 checkFabLag (dat 20 [(0x4, 8, 0xFFFFFFFFFFFFFFFF), (0xE, 2, 0x1)]) ∧
    StagesOf .fabHopperCfg 0x0307 checkFabHopper (dat 8 [(0x1, 1, 0x1), (0x2, 2, 0x4)]) := by decide

theorem test_staged_lauter : StagesOf .ltrPortCfg 0x0401 checkLtrPort (dat 16 [(0x2, 2, 0x1)]) ∧
    StagesOf .ltrVlanSet 0x0402 checkLtrVlan (dat 32 [(0x0, 2, 0x5)]) ∧
    StagesOf .ltrFdbStatic 0x0403 checkLtrStatic (dat 16 [(0x2, 2, 0x5), (0x4, 6, 0x7)]) := by decide

theorem test_staged_lauter_2 : StagesOf .ltrFdbCfg 0x0404 checkLtrFdbCfg (dat 8 [(0x0, 4, 0xA)]) ∧
    StagesOf .ltrMcastGroup 0x0407 checkLtrMcast (dat 16 [(0x0, 2, 0x4), (0x4, 4, 0x6)]) ∧
    StagesOf .ltrAclWrite 0x0408 checkLtrAcl (dat 96 []) := by decide

theorem test_staged_lauter_3 : StagesOf .ltrProfileSet 0x0409 checkLtrProfile (dat 8 [(0x0, 2, 0x4), (0x2, 1, 0x85)]) ∧
    StagesOf .ltrPolicerSet 0x040A checkLtrPolicer (dat 16 [(0x4, 4, 0x1), (0x8, 4, 0x40)]) ∧
    StagesOf .ltrZoneMatrix 0x040B checkLtrMatrix (dat 68 []) := by decide

theorem test_staged_lauter_4 : StagesOf .ltrCtCfg 0x040C checkLtrCt (dat 48 [(0x6, 2, 0x1), (0x8, 4, 0x1), (0xC, 4, 0x1), (0x10, 4, 0x1), (0x14, 4, 0x1), (0x18, 4, 0x1), (0x1C, 4, 0x1), (0x20, 4, 0x1), (0x24, 4, 0x1), (0x28, 4, 0x1)]) := by decide

theorem test_staged_streams : StagesOf .strStreamSet 0x0501 checkStrStream (dat 96 [(0x48, 2, 0x40)]) ∧
    StagesOf .strMeterSet 0x0502 checkStrMeter (dat 24 []) ∧
    StagesOf .strGateCfg 0x0503 checkStrGateCfg (dat 32 []) := by decide

theorem test_staged_streams_2 : StagesOf .strGateEntries 0x0504 checkStrGateEntries (dat 24 [(0x4, 2, 0x1), (0x10, 8, 0xFA)]) ∧
    StagesOf .strCbsSet 0x0505 checkStrCbs (dat 16 [(0x1, 1, 0x1), (0x4, 4, 0x1)]) ∧
    StagesOf .strPreemptCfg 0x0506 checkStrPreempt (dat 8 [(0x2, 1, 0x80), (0x6, 2, 0x1)]) := by decide

theorem test_staged_streams_3 : StagesOf .strFrerSet 0x0507 checkStrFrer (dat 16 []) ∧
    StagesOf .strObserveCfg 0x0508 checkStrObserve (dat 16 [(0x4, 4, 0x1)]) := by decide

theorem test_staged_admission : StagesOf .admPathSet 0x0605 checkPathSet (dat 32 [(0x3, 1, 0x1), (0x4, 4, 0x1), (0x8, 1, 0x32), (0x9, 1, 0x3)]) ∧
    StagesOf .admBusDeclare 0x0606 checkBusDeclare (dat 32 [(0x0, 1, 0x22), (0x2, 2, 0x1), (0x10, 4, 0x3), (0x14, 2, 0x40), (0x16, 2, 0x1)]) := by decide

theorem test_staged_cupola : StagesOf .cupGroupSet 0x0701 checkCupGroup (dat 192 [(0x2, 1, 0x1)]) ∧
    StagesOf .cupMembersSet 0x0702 checkCupMembers (dat 48 [(0x4, 2, 0x1), (0x6, 2, 0x1)]) ∧
    StagesOf .cupTripSet 0x0703 checkCupTrip (dat 144 [(0x4, 2, 0xC), (0x6, 2, 0x40)]) := by decide

theorem test_staged_gateway : StagesOf .gwCanCfg 0x0801 checkCanCfg (dat 32 [(0x14, 2, 0xFFFF)]) ∧
    StagesOf .gwCanFilter 0x0802 checkCanFilter (dat 16 [(0x2, 1, 0x1)]) ∧
    StagesOf .gwSerialCfg 0x0803 checkSerialCfg (dat 24 [(0x4, 4, 0x4B0), (0x10, 2, 0xFFFF)]) := by decide

theorem test_staged_gateway_2 : StagesOf .gwPollSet 0x0804 checkPollSet (dat 32 [(0x4, 1, 0x1), (0x5, 1, 0x3), (0x8, 2, 0x1), (0xA, 1, 0x0), (0xC, 4, 0x1), (0x14, 2, 0x1), (0x16, 2, 0xFFFF), (0x18, 2, 0xFFFF)]) ∧
    StagesOf .gwSrcPduSet 0x0805 checkSrcPdu (dat 96 [(0x6, 2, 0x8), (0x1A, 2, 0xFFFF)]) ∧
    StagesOf .gwDstPduSet 0x0806 checkDstPdu (dat 176 [(0x6, 2, 0x8)]) := by decide

theorem test_staged_gateway_3 : StagesOf .gwRouteSet 0x0807 checkRouteSet (dat 20 [(0x4, 2, 0x1), (0x8, 12, 0x20000400000000000)]) ∧
    StagesOf .gwScaleSet 0x0808 checkScaleSet (dat 24 [(0x0, 2, 0x1)]) := by decide

theorem test_staged_time : StagesOf .timeClockCfg 0x0901 checkTimeClock (dat 40 [(0x2, 1, 0x1), (0x4, 4, 0x1), (0xC, 2, 0x1), (0x10, 4, 0xA), (0x14, 4, 0x3E8), (0x18, 2, 0x1), (0x1C, 4, 0x3E8)]) ∧
    StagesOf .timeDomainCfg 0x0902 checkTimeDomain (dat 32 [(0x8, 1, 0x2), (0x9, 1, 0x2), (0x18, 1, 0xFF)]) ∧
    StagesOf .timePortCfg 0x0903 checkTimePort (dat 48 [(0x4, 4, 0x1)]) := by decide

theorem test_staged_time_2 : StagesOf .timeBeaconCfg 0x0904 checkTimeBeacon (dat 16 [(0x0, 1, 0x22), (0x2, 2, 0x1), (0x4, 1, 0x1)]) ∧
    StagesOf .timeIoCfg 0x0905 checkTimeIo (dat 32 []) := by decide

theorem test_staged_system : StagesOf .keepTamperCfg 0x0B0D checkTamperCfg (dat 32 [(0x2, 1, 0x1), (0x6, 1, 0x1), (0xA, 1, 0x1), (0xE, 1, 0x1), (0x10, 1, 0x1), (0x14, 1, 0x1), (0x18, 1, 0x1), (0x1C, 1, 0x1)]) ∧
    StagesOf .pwrDomainCfg 0x0C01 checkDomainCfg (dat 64 [(0x14, 4, 0x64), (0x18, 4, 0x64), (0x1F, 1, 0x1), (0x20, 2, 0xFFFF)]) ∧
    StagesOf .pwrWakeCfg 0x0C02 checkWakeCfg (dat 16 [(0x3, 1, 0xFF)]) := by decide

theorem test_staged_system_2 : StagesOf .pwrPolicyCfg 0x0C03 checkPolicyCfg (dat 16 [(0x2, 2, 0x64)]) ∧
    StagesOf .safePolicyCfg 0x0D05 checkSafePolicy (dat 8 [(0x1, 1, 0x1), (0x2, 2, 0xA), (0x4, 2, 0xA)]) ∧
    StagesOf .safeTwinCfg 0x0D06 checkSafeTwin (dat 16 [(0x2, 2, 0xA), (0x4, 2, 0x1), (0x6, 2, 0x2)]) := by decide

/-! ## More of P90, Cask and Keep -/

/-- A frame staged for P90 in class 3, and a receive ring of it whose buffer holds some bytes. -/
def upRx (n : Nat) : Dev :=
  (holding up [{ stored 5 with copies := [{ copyTo 90 90 3 0 none with staged := true }] }]).modRing false 3 (fun q => { q with
    enable := true, descs := [{ desc64 with length := n }] })

theorem test_p90_receive : let x := ({ stored 5 with copies := [{ copyTo 90 90 3 0 none with staged := true }] }, { copyTo 90 90 3 0 none with staged := true })
    classesDown.findSome? (fun c => if ((upRx 99).ring false c).enable && !((upRx 99).ring false c).descs.isEmpty then
      stageHeadOf (upRx 99).fabric.frames 90 c else none) = some x ∧ (upRx 99).passes 90 x = true ∧
    ((after .p90RxDelivery (upRx 99)).ring false 3).head = 1 ∧ (after .p90RxDelivery (upRx 99)).fabric.frames = [] ∧
    (after .p90RxDelivery (upRx 9)).counter 1 9 = 1 ∧ (after .p90RxDelivery (upRx 9)).fabric.frames = [] := by decide

theorem test_p90_holdoff : let d : Dev := { up.modRing true 3 (fun q => { q with unsignalled := 2, deadline := some 4 }) with uptime := 5 }
    (d.ring true 3).deadline = some 4 ∧ ((after (.p90HoldoffExpiry true 3) d).ring true 3).unsignalled = 0 ∧
    bit (after (.p90HoldoffExpiry true 3) d).host.irqStatus 22 = true := by decide

theorem test_identity : Met up 0x0B0C (ask []) (rspMax 1028) (fun _ _ bs => bs = []) := by decide

/-- The block with Cask's signing key free, and one legal log entry. -/
def upLegal : Dev :=
  let d := upSeal (lifecycleRoot 1)
  { d with cask := { d.cask with seals := [], sessions := [], log := [(0, zeros 64)], logNext := 1 } }

theorem test_legal_reads :
    Met upLegal 0x0A0C (ask (zeros 16)) (rspMax 192) (fun d _ bs => bs.length = 16 ∧ layoutOk [fa 0 16] bs = true ∧
      d.eccStatus { eccSign 0 (byteAt d.cask.params 4) [] with cask := true, root := some (lifecycleRoot d.keep.lifecycle) } = stOk) ∧
    Met upLegal 0x0A0D (ask [0, 0, 0, 0, 1, 0, 0, 0]) (fun _ bs => 80 + 64 * byteAt bs 4) (fun d _ bs => bs.length = 8 ∧
      layoutOk [fa 0 4, fr 4 1 1 60] bs = true ∧ d.cask.logNext ≤ le bs 0 4 + 2048 ∧ le bs 0 4 < d.cask.logNext) := by decide

theorem test_legal_waits : ((after (.sesLegalId (ask (zeros 16))) upLegal).keep.eccQueue.map (fun op => (op.ch, op.slot))) = [(1, some 9)] ∧
    ((after (.sesLegalLogRead (ask [0, 0, 0, 0, 1, 0, 0, 0])) upLegal).keep.eccQueue.map (fun op => (op.ch, op.slot))) = [(1, some 9)] := by decide

/-- The block of the updates: lifecycle TEST, no parameters yet. -/
def upParams : Dev := upKeep []

/-- LEGAL_PARAMS with the legal block and no commands, for a UID of zeros. -/
def legal7 : Bytes := [6, 1, 0, 0] ++ leb 4 1044 ++ zeros 16 ++ leb 8 1 ++ zeros 16 ++ (params7 ++ zeros 4) ++ zeros 96

theorem test_legal_update_message (hu : slice Config.uid 0 16 = zeros 16) : upParams.msgStatus [6] legal7 = stOk :=
  msgStatus_ok _ _ _ (by decide) (by rw [hu]; decide) (by decide) (by decide) (by decide)

theorem test_legal_update : legalStatus (upParams.msgWork legal7) legal7 = stOk ∧ (upParams.msgWork legal7).cask.paramCh = none ∧
    (upParams.msgWork legal7).txn.committing = none ∧ (legalCommands legal7).getD [] = [] ∧
    ((upParams.msgWork legal7).evaluateTxn (batchOf [])).refused = none := by decide
end Sys2Proof.Tests
end

section
/-! SUPPORT. The Service Arbiter: what reading a requester gives after a change, what the winner of a round is, and everything
its decision can do (R18 to R24). -/

namespace Sys2Proof.Machine

open Sys2Proof

/-! ## Requesters -/

@[simp] theorem Arbiter.mod_holder (a : Arbiter) (r : Nat) (f : Requester → Requester) : (a.mod r f).holder = a.holder := rfl

@[simp] theorem Arbiter.req_mod_same (a : Arbiter) (r : Nat) (f : Requester → Requester) : (a.mod r f).req r = f (a.req r) :=
  tabGet_put_same requester0 a.reqs r _

theorem Arbiter.req_mod_other (a : Arbiter) {r k : Nat} (f : Requester → Requester) (h : k ≠ r) : (a.mod r f).req k = a.req k :=
  tabGet_put_other requester0 a.reqs r k _ h

@[simp] theorem Arbiter.req_setHolder (a : Arbiter) (o : Option Holder) (r : Nat) :
    ({ a with holder := o } : Arbiter).req r = a.req r := rfl

@[simp] theorem Arbiter.req_grant (a : Arbiter) (w r : Nat) : (a.grant w).req r = a.req r := rfl

/-- Changing every requester of a list leaves the grant alone. -/
theorem Arbiter.holder_foldl_mod (f : Requester → Requester) (l : List Nat) (a : Arbiter) :
    (l.foldl (fun b r => b.mod r f) a).holder = a.holder := by
  induction l generalizing a with
  | nil => rfl
  | cons x l ih => simp [ih]

/-- Changing every requester of a list once changes those and no other. -/
theorem Arbiter.req_foldl_mod (f : Requester → Requester) (k : Nat) {l : List Nat} (hl : l.Nodup) (a : Arbiter) :
    (l.foldl (fun b r => b.mod r f) a).req k = if k ∈ l then f (a.req k) else a.req k := by
  induction l generalizing a with
  | nil => simp
  | cons x l ih =>
    obtain ⟨hx, hl⟩ := List.nodup_cons.mp hl
    rw [List.foldl_cons, ih hl]
    by_cases hk : k = x
    · subst hk; simp [hx]
    · simp [hk, Arbiter.req_mod_other a f hk]

/-! ## The waiting requests -/

/-- The waiting requesters stand in rising order. -/
theorem Arbiter.waiting_pairwise (a : Arbiter) : a.waiting.Pairwise (· < ·) := List.pairwise_lt_range.filter _

theorem Arbiter.waiting_nodup (a : Arbiter) : a.waiting.Nodup := List.nodup_range.filter _

/-- The requests a round chooses among: the forced ones where there are any, else all that wait (R19). -/
def Arbiter.candidates (a : Arbiter) : List Nat :=
  let forced := a.waiting.filter (fun r => (a.req r).forced)
  if forced.isEmpty then a.waiting else forced

theorem Arbiter.mem_candidates {a : Arbiter} {r : Nat} :
    r ∈ a.candidates ↔ r ∈ a.waiting ∧ ((∃ k, k ∈ a.waiting ∧ (a.req k).forced = true) → (a.req r).forced = true) := by
  unfold Arbiter.candidates
  by_cases h : ∃ k, k ∈ a.waiting ∧ (a.req k).forced = true
  · have hne : ¬ (a.waiting.filter (fun r => (a.req r).forced)).isEmpty = true := by simpa using h
    simp only [hne, Bool.false_eq_true, if_false, h, List.mem_filter, forall_const]
  · have he : (a.waiting.filter (fun r => (a.req r).forced)).isEmpty = true := by simpa using h
    simp only [he, if_true, h, false_implies, and_true]

theorem Arbiter.candidates_pairwise (a : Arbiter) : a.candidates.Pairwise (· < ·) := by
  unfold Arbiter.candidates
  dsimp only
  split
  · exact a.waiting_pairwise
  · exact a.waiting_pairwise.filter _

theorem Arbiter.candidates_eq_nil {a : Arbiter} : a.candidates = [] ↔ a.waiting = [] := by
  unfold Arbiter.candidates
  dsimp only
  split
  · rfl
  · rename_i h
    have hf : a.waiting.filter (fun r => (a.req r).forced) ≠ [] := by simpa using h
    refine iff_of_false hf ?_
    rintro hw
    simp [hw] at hf

/-! ## The winner -/

/-- One comparison of the choice: a later request replaces the best so far only if its latest-service time is strictly nearer. -/
def Arbiter.pick (a : Arbiter) (best : Option Nat) (r : Nat) : Option Nat :=
  match best with
  | none => some r
  | some b => if deadlineDiff (a.req r).lst (a.req b).lst < 0 then some r else some b

theorem Arbiter.winner_eq_foldl (a : Arbiter) : a.winner = a.candidates.foldl a.pick none := rfl

/-- Choosing among some requests gives one of them. -/
theorem Arbiter.foldl_pick_mem (a : Arbiter) (l : List Nat) (b : Nat) : ∃ w, w ∈ b :: l ∧ l.foldl a.pick (some b) = some w := by
  induction l generalizing b with
  | nil => exact ⟨b, List.mem_cons_self, rfl⟩
  | cons c l ih =>
    simp only [List.foldl_cons, Arbiter.pick]
    split
    · obtain ⟨w, hw, he⟩ := ih c
      exact ⟨w, List.mem_cons_of_mem _ hw, he⟩
    · obtain ⟨w, hw, he⟩ := ih b
      refine ⟨w, ?_, he⟩
      rcases List.mem_cons.mp hw with rfl | hw
      · exact List.mem_cons_self
      · exact List.mem_cons_of_mem _ (List.mem_cons_of_mem _ hw)

theorem Arbiter.winner_eq_none {a : Arbiter} : a.winner = none ↔ a.waiting = [] := by
  rw [Arbiter.winner_eq_foldl, ← Arbiter.candidates_eq_nil]
  cases a.candidates with
  | nil => simp
  | cons b l =>
    obtain ⟨w, -, he⟩ := a.foldl_pick_mem l b
    simp [Arbiter.pick, he]

theorem Arbiter.winner_mem_candidates {a : Arbiter} {w : Nat} (h : a.winner = some w) : w ∈ a.candidates := by
  rw [Arbiter.winner_eq_foldl] at h
  cases hc : a.candidates with
  | nil => simp [hc] at h
  | cons b l =>
    obtain ⟨v, hv, he⟩ := a.foldl_pick_mem l b
    rw [hc, List.foldl_cons, Arbiter.pick, he, Option.some.injEq] at h
    exact h ▸ hv

theorem Arbiter.winner_mem_waiting {a : Arbiter} {w : Nat} (h : a.winner = some w) : w ∈ a.waiting :=
  (Arbiter.mem_candidates.mp (Arbiter.winner_mem_candidates h)).1

/-- How far a requester's latest-service time lies after `base`, on the circle of 2^32 ns. -/
def Arbiter.offset (a : Arbiter) (base r : Nat) : Nat := ((a.req r).lst + 2 ^ 32 - base % 2 ^ 32) % 2 ^ 32

/-- A request precedes another: a nearer latest-service time, or the same and a lower number (R19). -/
def Arbiter.Precedes (a : Arbiter) (base x y : Nat) : Prop :=
  a.offset base x < a.offset base y ∨ (a.offset base x = a.offset base y ∧ x < y)

theorem Arbiter.Precedes.trans {a : Arbiter} {base x y z : Nat} (h1 : a.Precedes base x y) (h2 : a.Precedes base y z) :
    a.Precedes base x z := by
  unfold Arbiter.Precedes at *
  omega

/-- A requester's latest-service time lies in the window of 2^31 ns after `base`. -/
def Arbiter.InWindow (a : Arbiter) (base r : Nat) : Prop := (a.req r).lst < 2 ^ 32 ∧ a.offset base r < 2 ^ 31

/-- Within one window the signed difference of R4 orders latest-service times as their distances from the window's start do. -/
theorem Arbiter.deadlineDiff_neg_iff {a : Arbiter} {base x y : Nat} (hx : a.InWindow base x) (hy : a.InWindow base y) :
    deadlineDiff (a.req x).lst (a.req y).lst < 0 ↔ a.offset base x < a.offset base y := by
  unfold Arbiter.InWindow Arbiter.offset at *
  obtain ⟨hx, hx'⟩ := hx
  obtain ⟨hy, hy'⟩ := hy
  generalize (a.req x).lst = u at *
  generalize (a.req y).lst = v at *
  have hb : base % 2 ^ 32 < 2 ^ 32 := Nat.mod_lt _ (by decide)
  generalize base % 2 ^ 32 = b at *
  simp only [deadlineDiff, signed, Nat.reducePow, Nat.reduceSub] at *
  split <;> omega

/-- Of rising requests in one window, the choice precedes every other one. -/
theorem Arbiter.foldl_pick_precedes {a : Arbiter} {base : Nat} (l : List Nat) (b w : Nat) (hs : (b :: l).Pairwise (· < ·))
    (hin : ∀ r ∈ b :: l, a.InWindow base r) (hw : l.foldl a.pick (some b) = some w) :
    ∀ r ∈ b :: l, r = w ∨ a.Precedes base w r := by
  induction l generalizing b with
  | nil =>
    intro r hr
    obtain rfl : b = w := by simpa using hw
    exact .inl (by simpa using hr)
  | cons c l ih =>
    have hb : a.InWindow base b := hin b (by simp)
    have hc : a.InWindow base c := hin c (by simp)
    have hbc : b < c := List.rel_of_pairwise_cons hs List.mem_cons_self
    have through : ∀ x y, a.Precedes base x y → (x = w ∨ a.Precedes base w x) → y = w ∨ a.Precedes base w y := by
      rintro x y hxy (rfl | hwx)
      · exact .inr hxy
      · exact .inr (hwx.trans hxy)
    simp only [List.foldl_cons, Arbiter.pick, Arbiter.deadlineDiff_neg_iff hc hb] at hw
    split at hw
    case isTrue hlt =>
      have hrest := ih c (List.Pairwise.of_cons hs) (fun r hr => hin r (List.mem_cons_of_mem _ hr)) hw
      intro r hr
      rcases List.mem_cons.mp hr with rfl | hr
      · exact through c r (.inl hlt) (hrest c List.mem_cons_self)
      · exact hrest r hr
    case isFalse hge =>
      have hsub : (b :: l).Sublist (b :: c :: l) := (List.sublist_cons_self c l).cons_cons b
      have hrest := ih b (hs.sublist hsub) (fun r hr => hin r (hsub.subset hr)) hw
      intro r hr
      by_cases hrc : r = c
      · subst hrc
        refine through b r ?_ (hrest b List.mem_cons_self)
        unfold Arbiter.Precedes
        omega
      · exact hrest r (by simpa [hrc] using hr)

/-- Where all waiting requests are in one window, the winner precedes every other candidate. -/
theorem Arbiter.winner_precedes {a : Arbiter} {base w r : Nat} (hin : ∀ k ∈ a.waiting, a.InWindow base k) (hw : a.winner = some w)
    (hr : r ∈ a.candidates) (hne : r ≠ w) : a.Precedes base w r := by
  rw [Arbiter.winner_eq_foldl] at hw
  have hs := a.candidates_pairwise
  have hin' : ∀ k ∈ a.candidates, a.InWindow base k := fun k hk => hin k (Arbiter.mem_candidates.mp hk).1
  cases hc : a.candidates with
  | nil => simp [hc] at hr
  | cons b l =>
    rw [hc] at hw hr hs hin'
    exact (Arbiter.foldl_pick_precedes l b w hs hin' hw r hr).resolve_left hne

/-! ## The decision and the wait counters -/

/-- Everything the decision of a round can do: nothing, or grant a waiting request where the grant is free or its holder may be
revoked for that request (R21). -/
theorem Arbiter.decide_cases (a : Arbiter) (now : Nat) :
    a.decide_ now = a ∨ ∃ w, w ∈ a.waiting ∧ a.decide_ now = a.grant w ∧
      ∀ h, a.holder = some h → h.forced = false ∧ ((a.req w).forced = true ∨ holderLate now h.left (a.req w).lst = true) := by
  cases hw : a.winner with
  | none => left; simp only [Arbiter.decide_, hw]
  | some w =>
    have hmem := Arbiter.winner_mem_waiting hw
    cases hh : a.holder with
    | none => exact .inr ⟨w, hmem, by simp only [Arbiter.decide_, hw, hh], by simp⟩
    | some h =>
      by_cases hc : (!h.forced && ((a.req w).forced || holderLate now h.left (a.req w).lst)) = true
      · refine .inr ⟨w, hmem, by simp only [Arbiter.decide_, hw, hh, hc, if_true], ?_⟩
        rintro _ ⟨⟩
        simpa using hc
      · left
        simp only [Arbiter.decide_, hw, hh, hc, if_false, Bool.false_eq_true]

/-- A free grant goes to a waiting request. -/
theorem Arbiter.decide_of_free {a : Arbiter} (now : Nat) (hfree : a.holder = none) (hne : a.waiting ≠ []) :
    ∃ w, w ∈ a.waiting ∧ a.decide_ now = a.grant w := by
  cases hw : a.winner with
  | none => exact absurd (Arbiter.winner_eq_none.mp hw) hne
  | some w => exact ⟨w, Arbiter.winner_mem_waiting hw, by simp only [Arbiter.decide_, hw, hfree]⟩

theorem Arbiter.holder_age (ws : List Nat) (a : Arbiter) : (Arbiter.age ws a).holder = a.holder := Arbiter.holder_foldl_mod _ _ a

/-- Ageing raises the wait counter of the requests that waited from the round's start to its end, up to their limit, and
changes nothing else of any requester (R20). -/
theorem Arbiter.req_age {ws : List Nat} (hws : ws.Nodup) (a : Arbiter) (r : Nat) :
    (Arbiter.age ws a).req r =
      if r ∈ ws ∧ r ∈ a.waiting then { a.req r with wait := min (a.req r).limit ((a.req r).wait + 1) } else a.req r := by
  unfold Arbiter.age
  rw [Arbiter.req_foldl_mod _ r (hws.filter _)]
  simp only [List.mem_filter, List.contains_iff_mem]

/-! ## The commit of a transfer -/

theorem Arbiter.commit_eq {a : Arbiter} {h : Holder} (hh : a.holder = some h) :
    a.commit = { (a.mod h.req (fun q => { q with pending := false, wait := 0 })) with holder := none } := by
  simp only [Arbiter.commit, hh]

theorem Arbiter.holder_commit (a : Arbiter) : a.commit.holder = none := by
  cases hh : a.holder with
  | none => simp only [Arbiter.commit, hh]
  | some h => rw [Arbiter.commit_eq hh]

/-- The holder whose transfer commits is no longer pending and its wait counter is zero (R20, R22). -/
theorem Arbiter.req_commit_holder {a : Arbiter} {h : Holder} (hh : a.holder = some h) :
    a.commit.req h.req = { a.req h.req with pending := false, wait := 0 } := by
  rw [Arbiter.commit_eq hh, Arbiter.req_setHolder, Arbiter.req_mod_same]

theorem Arbiter.req_commit_other {a : Arbiter} {h : Holder} {k : Nat} (hh : a.holder = some h) (hk : k ≠ h.req) :
    a.commit.req k = a.req k := by
  rw [Arbiter.commit_eq hh, Arbiter.req_setHolder, Arbiter.req_mod_other a _ hk]

/-- FABRIC_TRANSFER_COMMIT commits the transfer of a holder at its last beat. -/
theorem transferCommit_at_last {d : Dev} {h : Holder} (hh : d.arb.holder = some h) (hl : h.left ≤ 1) :
    transferCommit d = { d with arb := d.arb.commit } := by
  simp only [transferCommit, hh, hl, if_true]

/-- With more beats left, FABRIC_TRANSFER_COMMIT does nothing. -/
theorem transferCommit_before_last {d : Dev} {h : Holder} (hh : d.arb.holder = some h) (hl : 1 < h.left) : transferCommit d = d := by
  simp only [transferCommit, hh, Nat.not_le.mpr hl, if_false]

theorem runs_serviceArbiterRound (raised : List ArbRaise) (s : State) :
    Runs (.serviceArbiterRound raised) s { s.dev with arb := s.dev.arb.round raised s.dev.now } := rfl

theorem runs_fabricTransferCommit (s : State) : Runs .fabricTransferCommit s (transferCommit s.dev) := rfl

end Sys2Proof.Machine
end

section
/-! The statements about the Service Arbiter. -/

namespace Sys2Proof.Machine

open Sys2Proof

/-- Settles O24, by the order in which the choice of R19 compares the candidates. -/
theorem arbiterWinnerIsNearestDeadline : Obligations.ArbiterWinnerIsNearestDeadline := by
  intro a base hin
  refine ⟨Arbiter.winner_eq_none, fun w hw => ?_⟩
  obtain ⟨hwait, hforced⟩ := Arbiter.mem_candidates.mp (Arbiter.winner_mem_candidates hw)
  exact ⟨hwait, hforced, fun r hr hne hrf => Arbiter.winner_precedes hin hw (Arbiter.mem_candidates.mpr ⟨hr, hrf⟩) hne⟩

/-- Settles O25: ageing changes each requester that waited throughout once. -/
theorem arbiterWaitCountersSaturate : Obligations.ArbiterWaitCountersSaturate := by
  intro a b _
  refine ⟨Arbiter.holder_age _ a, fun r => ?_⟩
  rw [Arbiter.req_age b.waiting_nodup]
  split
  · have hmin : min (a.req r).limit ((a.req r).wait + 1) =
        if (a.req r).wait < (a.req r).limit then (a.req r).wait + 1 else (a.req r).limit := by
      split <;> omega
    rw [hmin]
  · rfl

/-- Settles O26, from what the decision of a round can do. -/
theorem forcedHolderIsNeverRevoked : Obligations.ForcedHolderIsNeverRevoked := by
  intro a now
  refine ⟨fun h hh hf => ?_, fun h h' hh hh' hne => ?_, fun hfree hne => ?_, fun r => ?_⟩
  · rcases a.decide_cases now with he | ⟨w, -, -, hrevoke⟩
    · exact he
    · exact absurd (hrevoke h hh).1 (by simp [hf])
  · rcases a.decide_cases now with he | ⟨w, hw, he, hrevoke⟩
    · rw [he, hh] at hh'
      exact absurd (Option.some.inj hh').symm hne
    · obtain rfl : { req := w, forced := (a.req w).forced, left := (a.req w).beats } = h' := by
        rw [he] at hh'
        exact Option.some.inj hh'
      exact ⟨hw, (hrevoke h hh).2⟩
  · obtain ⟨w, hw, he⟩ := Arbiter.decide_of_free now hfree hne
    rw [he]
    exact ⟨_, rfl, hw, rfl⟩
  · rcases a.decide_cases now with he | ⟨w, -, he, -⟩
    · rw [he]
    · rw [he, Arbiter.req_grant]

/-- Settles O23: the round is its four stages in order, and a commit frees the grant of its holder alone. -/
theorem arbiterRoundGrantsAndCounts : Obligations.ArbiterRoundGrantsAndCounts := by
  refine ⟨fun s raised => runs_serviceArbiterRound raised s, fun s h hh => ⟨fun hl => ?_, fun hl => ?_⟩⟩
  · refine ⟨{ s.dev with arb := s.dev.arb.commit }, ?_, rfl, Arbiter.holder_commit _, ?_, ?_,
      fun k hk => Arbiter.req_commit_other hh hk⟩
    · rw [← transferCommit_at_last hh hl]
      exact runs_fabricTransferCommit s
    · simp [Arbiter.req_commit_holder hh]
    · simp [Arbiter.req_commit_holder hh]
  · have hrun := runs_fabricTransferCommit s
    rwa [transferCommit_before_last hh hl] at hrun

end Sys2Proof.Machine
end

section
/-! SUPPORT. Byte strings: their lengths, and what a field read from a concatenation is (R1). -/

namespace Sys2Proof.Machine

open Sys2Proof

@[simp] theorem leb_length (n v : Nat) : (leb n v).length = n := by
  induction n generalizing v with
  | zero => rfl
  | succ n ih => simp [leb, ih]

@[simp] theorem beb_length (n v : Nat) : (beb n v).length = n := by simp [beb]

@[simp] theorem zeros_length (n : Nat) : (zeros n).length = n := List.length_replicate

@[simp] theorem slice_length (bs : Bytes) (off n : Nat) : (slice bs off n).length = n := by
  simp only [slice, List.length_append, List.length_take, zeros_length]
  omega

@[simp] theorem t80le_length (ns : Nat) : (t80le ns).length = 10 := by simp [t80le]

@[simp] theorem evtBytes_length (e : Evt) (phase : Bool) : (evtBytes e phase).length = 32 := by simp [evtBytes]

theorem byteAt_append (a b : Bytes) (i : Nat) : byteAt (a ++ b) i = if i < a.length then byteAt a i else byteAt b (i - a.length) := by
  unfold byteAt
  split
  · rw [List.getD_append _ _ _ _ ‹_›]
  · rw [List.getD_append_right _ _ _ _ (by omega)]

@[simp] theorem byteAt_leb_one (v : Nat) : byteAt (leb 1 v) 0 = v % 256 := by simp [byteAt, leb]

theorem le_cons_succ (x : Byte) (bs : Bytes) (off n : Nat) : le (x :: bs) (off + 1) n = le bs off n := by
  induction n generalizing off with
  | zero => rfl
  | succ n ih => simp only [le, ih, byteAt, List.getD_cons_succ]

/-- A field inside the first part of a concatenation. -/
theorem le_append_left {a : Bytes} (b : Bytes) {off n : Nat} (h : off + n ≤ a.length) : le (a ++ b) off n = le a off n := by
  induction n generalizing off with
  | zero => rfl
  | succ n ih =>
    have hlt : off < a.length := by omega
    simp only [le, byteAt_append, hlt, if_true, ih (off := off + 1) (by omega)]

/-- A field behind the first part of a concatenation. -/
theorem le_append_right {a : Bytes} (b : Bytes) {off : Nat} (n : Nat) (h : a.length ≤ off) :
    le (a ++ b) off n = le b (off - a.length) n := by
  induction n generalizing off with
  | zero => rfl
  | succ n ih =>
    have hlt : ¬ off < a.length := by omega
    have hoff : off + 1 - a.length = off - a.length + 1 := by omega
    simp only [le, byteAt_append, hlt, if_false, ih (off := off + 1) (by omega), hoff]

/-- A number written in `n` bytes is read back modulo 2^(8n). -/
theorem le_leb (n v : Nat) : le (leb n v) 0 n = v % 256 ^ n := by
  induction n generalizing v with
  | zero => simp [le, Nat.mod_one]
  | succ n ih =>
    have hbyte : byteAt (BitVec.ofNat 8 v :: leb n (v / 256)) 0 = v % 256 := by simp [byteAt]
    rw [leb, le, le_cons_succ, ih, hbyte, Nat.pow_succ', Nat.mod_mul]

theorem le_leb_append (n v : Nat) (b : Bytes) : le (leb n v ++ b) 0 n = v % 256 ^ n := by
  rw [le_append_left b (by simp), le_leb]

/-- The number of entries, in two bytes at the head of an answer. -/
theorem le_count_head {n : Nat} (hn : n < 65536) (b : Bytes) : le (leb 2 n ++ b) 0 2 = n := by
  rw [le_leb_append]
  exact Nat.mod_eq_of_lt hn

/-- A list of records of one length. -/
theorem length_flatMap_of_const {α : Type} (l : List α) (f : α → Bytes) (n : Nat) (h : ∀ x ∈ l, (f x).length = n) :
    (l.flatMap f).length = n * l.length := by
  rw [List.length_flatMap, List.map_congr_left h, List.map_const', List.sum_replicate, smul_eq_mul, Nat.mul_comm]

end Sys2Proof.Machine
end

section
/-! SUPPORT. A table without the entries whose index a test rejects. -/

namespace Sys2Proof.Machine

open Sys2Proof

theorem tabFind_filter_index {α : Type} (keep : Nat → Bool) (t : Tab α) (i : Nat) :
    tabFind (t.filter (fun e => keep e.1)) i = if keep i then tabFind t i else none := by
  induction t with
  | nil => simp [tabFind]
  | cons e t ih =>
    obtain ⟨k, v⟩ := e
    by_cases hk : k = i
    · subst hk
      by_cases hkeep : keep k = true <;> simp [hkeep, tabFind, ih]
    · by_cases hkeep : keep k = true <;> simp [hkeep, tabFind, ih, hk]

end Sys2Proof.Machine
end

section
/-! SUPPORT. The meaning of an immediate mailbox command whose work is a body served by `Dev.serve`. -/

namespace Sys2Proof.Machine

open Sys2Proof

/-- A command whose body answers OK for good data completes. -/
theorem completes_of_body {mk : Req → Instr} {op : Nat} {most : Dev → Bytes → Nat} {body : Dev → Nat → Bytes → Ans}
    {good : Dev → Req → Bytes → Prop} {result : Dev → Req → Bytes → Dev → Bytes → Prop}
    (hexec : ∀ rq s, exec (mk rq) s = onDev (Dev.serve op rq most body) s)
    (hbody : ∀ d rq bs, good d rq bs → ∃ d' pl, body d rq.ch bs = ansOk d' pl ∧ result d rq bs d' pl) :
    Completes mk op most good result := by
  intro s rq t d r hadm hgood
  obtain ⟨d', pl, hb, hres⟩ := hbody d rq r.data hgood
  refine ⟨d', pl, ?_, hres⟩
  rw [Runs, hexec, onDev, Dev.serve_done hadm hb]

/-- Data of the stated length and ranges pass the checks of an immediate command. -/
theorem withLayout_ok {d : Dev} {len : Nat} {fs : List Fld} {bs : Bytes} (k : Ans) (hlen : bs.length = len)
    (hok : layoutOk fs bs = true) : withLayout d len fs bs k = k := by
  simp [withLayout, hlen, hok]

/-- A field of a payload that passes lies in its range. -/
theorem layoutOk_field {fs : List Fld} {bs : Bytes} (hok : layoutOk fs bs = true) {f : Fld} (hf : f ∈ fs) :
    f.lo ≤ le bs f.off f.len ∧ le bs f.off f.len ≤ f.hi := by
  have hall := List.all_eq_true.mp (Bool.and_eq_true_iff.mp hok).1 f hf
  simpa [fldOk] using hall

end Sys2Proof.Machine
end

section
/-! SUPPORT. What the system commands answer and change (chapter 02, System commands). -/

namespace Sys2Proof.Machine

open Sys2Proof

/-! ## SYS_IDENTIFY and SYS_VERSION -/

theorem Dev.identity_length (d : Dev) : d.identity.length = 64 := by simp [Dev.identity]

theorem Dev.identity_device (d : Dev) : le d.identity 0 4 = 0x9663 := by
  simp only [Dev.identity, List.append_assoc]
  exact le_leb_append 4 0x9663 _

/-- The one-byte fields of SYS_IDENTIFY. -/
theorem Dev.identity_fields (d : Dev) :
    byteAt d.identity 4 = 0x11 ∧ byteAt d.identity 5 = d.keep.lifecycle % 256 ∧ byteAt d.identity 6 = stageCode d.host.stage ∧
    byteAt d.identity 7 = b2n d.host.spi ∧ byteAt d.identity 30 = b2n d.safety.split ∧
    byteAt d.identity 31 = b2n d.twin.strap + 2 * b2n d.twin.act := by
  have hstage : stageCode d.host.stage < 256 := by cases d.host.stage <;> decide
  have hbit : ∀ b : Bool, b2n b < 2 := by decide
  have htwin : b2n d.twin.strap + 2 * b2n d.twin.act < 256 := by
    have := hbit d.twin.strap
    have := hbit d.twin.act
    omega
  have hspi : b2n d.host.spi < 256 := (hbit _).trans (by decide)
  have hsplit : b2n d.safety.split < 256 := (hbit _).trans (by decide)
  simp [Dev.identity, byteAt_append, Nat.mod_eq_of_lt, hstage, htwin, hspi, hsplit]

theorem versionRecord_length (comp bank state version build epoch : Nat) :
    (versionRecord comp bank state version build epoch).length = 16 := by simp [versionRecord]

theorem Dev.versions_length (d : Dev) : d.versions.length = 176 := by
  simp [Dev.versions, versionRecord_length]

/-! ## SYS_CLAIMS_LIST -/

theorem putClaim_perm (c : Claim) (l : List Claim) : (putClaim c l).Perm (c :: l) := by
  induction l with
  | nil => exact .refl _
  | cons x l ih =>
    unfold putClaim
    split
    · exact .refl _
    · exact (ih.cons x).trans (.swap c x l)

/-- Listing in order of type and index keeps every claim once. -/
theorem foldl_putClaim_perm (cs l : List Claim) : (cs.foldl (fun l c => putClaim c l) l).Perm (cs ++ l) := by
  induction cs generalizing l with
  | nil => exact .refl _
  | cons c cs ih => exact (ih _).trans (((putClaim_perm c l).append_left cs).trans List.perm_middle)

/-- The number of claims a query answers: those listed from its start on, at most 500. -/
theorem length_listedClaims (cs : List Claim) (p : Claim → Bool) (start : Nat) :
    ((((cs.foldl (fun l c => putClaim c l) []).filter p).drop start).take 500).length = min 500 ((cs.filter p).length - start) := by
  have hperm := ((foldl_putClaim_perm cs []).filter p).length_eq
  rw [List.append_nil] at hperm
  rw [List.length_take, List.length_drop, hperm]

/-! ## SYS_COUNTER_CLEAR -/

/-- The index of a counter lies in a range of one class exactly where its class and its place in the class do. -/
theorem counterKey_in_range {cls c i first n : Nat} (hi : i < 32768) (hn : first + n ≤ 32768) :
    (counterKey c first ≤ counterKey cls i ∧ counterKey cls i < counterKey c first + n) ↔
      cls = c ∧ first ≤ i ∧ i < first + n := by
  unfold counterKey
  omega

/-- The counters without those of a range of one class. -/
theorem tabGet_clearedCounters {t : Tab Nat} {cls c i first n : Nat} (hi : i < 32768) (hn : first + n ≤ 32768) :
    tabGet 0 (t.filter (fun e => !(decide (counterKey c first ≤ e.1) && decide (e.1 < counterKey c first + n)))) (counterKey cls i) =
      if cls = c ∧ first ≤ i ∧ i < first + n then 0 else tabGet 0 t (counterKey cls i) := by
  have hkeep : (!(decide (counterKey c first ≤ counterKey cls i) && decide (counterKey cls i < counterKey c first + n))) =
      !decide (cls = c ∧ first ≤ i ∧ i < first + n) := by
    rw [← Bool.decide_and, decide_eq_decide.mpr (counterKey_in_range hi hn)]
  unfold tabGet
  rw [tabFind_filter_index (fun k => !(decide (counterKey c first ≤ k) && decide (k < counterKey c first + n))), hkeep]
  by_cases h : cls = c ∧ first ≤ i ∧ i < first + n
  · rw [if_pos h, decide_eq_true h]
    rfl
  · rw [if_neg h, decide_eq_false h]
    rfl

/-! ## SYS_RESET_START -/

theorem runs_sysResetStart (s : State) : Runs .sysResetStart s (sysResetStart s.dev) := rfl

/-- The reset that SYS_RESET scheduled is performed from its time on. -/
theorem sysResetStart_due {d : Dev} {at_ kind : Nat} (hdue : d.boot.resetDue = some (at_, kind, 0)) (ht : at_ ≤ d.uptime)
    (hr : d.resettable = true) : sysResetStart d = d.resetNow kind := by
  simp [sysResetStart, hdue, ht, hr]

/-- Before that time nothing happens. -/
theorem sysResetStart_early {d : Dev} {at_ kind : Nat} (hdue : d.boot.resetDue = some (at_, kind, 0)) (ht : d.uptime < at_) :
    sysResetStart d = d := by
  simp [sysResetStart, hdue, Nat.not_le.mpr ht]

end Sys2Proof.Machine
end

section
/-! Each system command's answer, and the statement about them all. -/

namespace Sys2Proof.Machine

open Sys2Proof

theorem sysIdentify_completes : Completes .sysIdentify 0x0101 (rspMax 64) (fun _ _ bs => bs = [])
    (fun d _ _ d' pl => d' = d ∧ pl.length = 64 ∧ le pl 0 4 = 0x9663 ∧ byteAt pl 4 = 0x11 ∧
      byteAt pl 5 = d.keep.lifecycle % 256 ∧ byteAt pl 6 = stageCode d.host.stage ∧ byteAt pl 7 = b2n d.host.spi ∧
      byteAt pl 30 = b2n d.safety.split ∧ byteAt pl 31 = b2n d.twin.strap + 2 * b2n d.twin.act) := by
  refine completes_of_body (fun _ _ => rfl) ?_
  rintro d rq _ rfl
  exact ⟨d, d.identity, withLayout_ok _ rfl rfl, rfl, d.identity_length, d.identity_device, d.identity_fields⟩

theorem sysVersion_completes : Completes .sysVersion 0x0102 (rspMax 176) (fun _ _ bs => bs = [])
    (fun d _ _ d' pl => d' = d ∧ pl = d.versions ∧ pl.length = 176) := by
  refine completes_of_body (fun _ _ => rfl) ?_
  rintro d rq _ rfl
  exact ⟨d, d.versions, withLayout_ok _ rfl rfl, rfl, rfl, d.versions_length⟩

theorem sysReset_completes : Completes .sysReset 0x0103 (rspMax 0)
    (fun d _ bs => d.txn.committing = none ∧ bs.length = 8 ∧ layoutOk [fr 0 1 1 2, fr 4 4 0x6C797377 0x6C797377] bs = true)
    (fun d _ bs d' pl => pl = [] ∧ d' = { d with boot := { d.boot with resetDue := some (d.uptime + 100000, byteAt bs 0, 0) } }) := by
  refine completes_of_body (fun _ _ => rfl) ?_
  rintro d rq bs ⟨hidle, hlen, hok⟩
  refine ⟨_, [], ?_, rfl, rfl⟩
  rw [withLayout_ok _ hlen hok, hidle]
  rfl

theorem sysClaimsList_completes : Completes .sysClaimsList 0x0104 (rspMax 4008)
    (fun _ _ bs => bs.length = 8 ∧ layoutOk [fa 0 4] bs = true ∧ (byteAt bs 0 = 0xFF ∨ (1 ≤ byteAt bs 0 ∧ byteAt bs 0 ≤ 6)))
    (fun d _ bs d' pl => d' = d ∧
      let n := min 500 (((d.claims.filter (claimListed (byteAt bs 0) (byteAt bs 1))).length) - le bs 2 2)
      le pl 0 2 = n ∧ pl.length = 8 + 8 * n) := by
  refine completes_of_body (fun _ _ => rfl) ?_
  rintro d rq bs ⟨hlen, hok, htype⟩
  refine ⟨d, _, (withLayout_ok _ hlen hok).trans (if_neg (by simpa [Nat.one_le_iff_ne_zero, or_iff_not_imp_left] using htype)), rfl, ?_⟩
  have hcount := length_listedClaims d.claims (claimListed (byteAt bs 0) (byteAt bs 1)) (le bs 2 2)
  refine ⟨?_, ?_⟩
  · rw [← hcount, List.append_assoc, List.append_assoc]
    exact le_count_head (by omega) _
  · rw [List.length_append, length_flatMap_of_const _ _ 8 (by simp), hcount]
    simp

theorem sysCounterSnapshot_completes : Completes .sysCounterSnapshot 0x0105 (rspMax 12)
    (fun _ _ bs => bs.length = 8 ∧ layoutOk [fa 0 2] bs = true ∧ bit (byteAt bs 0) 0 = false)
    (fun d _ bs d' pl => pl = t80le d.now ++ zeros 2 ∧
      d' = { d with host := { d.host with snapshot := d.latchCounters (le bs 0 2) } }) := by
  refine completes_of_body (fun _ _ => rfl) ?_
  rintro d rq bs ⟨hlen, hok, hclass⟩
  exact ⟨_, _, (withLayout_ok _ hlen hok).trans (by rw [hclass]; rfl), rfl, rfl⟩

theorem sysCounterClear_completes : Completes .sysCounterClear 0x0106 (rspMax 0)
    (fun _ _ bs => bs.length = 8 ∧ layoutOk [fr 0 1 1 15, fr 2 2 0 32767, fr 4 2 1 32768] bs = true ∧ le bs 2 2 + le bs 4 2 ≤ 32768)
    (fun d _ bs d' pl => pl = [] ∧
      (∀ cls i, i < 32768 → d'.counter cls i =
        if cls = byteAt bs 0 ∧ le bs 2 2 ≤ i ∧ i < le bs 2 2 + le bs 4 2 then 0 else d.counter cls i) ∧
      d' = { d with host := { d.host with counters := d'.host.counters } }) := by
  refine completes_of_body (fun _ _ => rfl) ?_
  rintro d rq bs ⟨hlen, hok, hrange⟩
  refine ⟨_, [], (withLayout_ok _ hlen hok).trans (if_neg (Nat.not_lt.mpr hrange)), rfl, ?_, rfl⟩
  exact fun cls i hi => tabGet_clearedCounters hi hrange

theorem sysEventFetch_completes : Completes .sysEventFetch 0x0107 (rspMax 2056)
    (fun d _ bs => bs.length = 8 ∧ layoutOk [fa 0 4, fr 4 2 1 64] bs = true ∧ 0 ≤ signed 32 (le bs 0 4 + 2 ^ 32 - d.oldestSeq))
    (fun d _ bs d' pl =>
      let n := min (le bs 4 2) (d.host.history.length - (signed 32 (le bs 0 4 + 2 ^ 32 - d.oldestSeq)).toNat)
      d' = { d with freeIx := d'.freeIx } ∧ le pl 0 2 = n ∧ le pl 4 4 = d.oldestSeq % 2 ^ 32 ∧ pl.length = 8 + 32 * n) := by
  refine completes_of_body (fun _ _ => rfl) ?_
  rintro d rq bs ⟨hlen, hok, hseq⟩
  have hmax : le bs 4 2 ≤ 64 := (layoutOk_field hok (f := fr 4 2 1 64) (by simp)).2
  refine ⟨_, _, (withLayout_ok _ hlen hok).trans (if_neg (Int.not_lt.mpr hseq)), rfl, ?_, ?_, ?_⟩
  · rw [List.append_assoc, List.append_assoc, le_count_head (by simp only [List.length_take]; omega), List.length_take, List.length_drop]
  · rw [List.append_assoc, le_append_right _ _ (by simp)]
    exact le_leb_append 4 d.oldestSeq _
  · rw [List.length_append, length_flatMap_of_const _ _ 32 (by simp)]
    simp

/-- Settles O15, command by command. -/
theorem systemCommandsComplete : Obligations.SystemCommandsComplete := by
  refine ⟨sysIdentify_completes, sysVersion_completes, sysReset_completes, fun s at_ kind hdue => ⟨fun ht hr => ?_, fun ht => ?_⟩,
    sysClaimsList_completes, sysCounterSnapshot_completes, sysCounterClear_completes, sysEventFetch_completes⟩
  · exact sysResetStart_due hdue ht hr ▸ runs_sysResetStart s
  · have hrun := runs_sysResetStart s
    rwa [sysResetStart_early hdue ht] at hrun

end Sys2Proof.Machine
end

section
/-! SUPPORT. What the reception of a frame changes and what it is judged by (chapter 03, R69 to R78, R444). -/

namespace Sys2Proof.Machine

open Sys2Proof

/-! ## Sleep, unmoved by events -/

theorem Dev.Posts.deviceAsleep {d d' : Dev} (h : d.Posts d') : d'.deviceAsleep = d.deviceAsleep := by obtain ⟨_, _, _, rfl⟩ := h; rfl
theorem Dev.Posts.portAsleep {d d' : Dev} (h : d.Posts d') (p : Nat) : d'.portAsleep p = d.portAsleep p := by
  obtain ⟨_, _, _, rfl⟩ := h; rfl
theorem Dev.Posts.portSleeping {d d' : Dev} (h : d.Posts d') (p : Nat) : d'.portSleeping p = d.portSleeping p := by
  obtain ⟨_, _, _, rfl⟩ := h; rfl
theorem Dev.Posts.classified {d d' : Dev} (h : d.Posts d') (p : Nat) : d'.classified p = d.classified p := by
  obtain ⟨_, _, _, rfl⟩ := h; rfl

/-! ## What is noted of every frame -/

theorem Dev.posts_busViolation (d : Dev) (p ident reason : Nat) : d.Posts (d.busViolation p ident reason) :=
  (d.posts_count _ _).trans (Dev.posts_postLimited _ _ _ _ _)

/-- Watching a segment's declaration counts and posts, nothing else (R203). -/
theorem Dev.posts_watchSegment (d : Dev) (f : RxFrame) : d.Posts (d.watchSegment f) := by
  unfold Dev.watchSegment
  split
  · exact .refl d
  · split
    · exact .refl d
    · rename_i e _
      have hlength : d.Posts (if e.2.1 < f.bytes.length + 4 then d.busViolation f.port f.node 3 else d) := by
        split
        · exact d.posts_busViolation _ _ _
        · exact .refl d
      dsimp only
      split
      · exact hlength.trans (Dev.posts_busViolation _ _ _ _)
      · exact hlength

/-- The notes of a frame, beside its wire time, are counts. -/
theorem Dev.posts_rxNotes (d : Dev) (f : RxFrame) :
    (d.modPort f.port (fun q => { q with rxWire := q.rxWire + f.bytes.length + 24 })).Posts (d.rxNotes f) := by
  unfold Dev.rxNotes
  extract_lets d1 b d2
  have hcode := Dev.posts_countN (d.modPort f.port (fun q => { q with rxWire := q.rxWire + f.bytes.length + 24 }))
    2 (f.port * 64 + 13) f.violations
  split
  · have hfrags := hcode.trans ((Dev.posts_countN d1 5 (b + 3) f.frags).trans (Dev.posts_countN _ 5 (b + 6) f.smdErr))
    split
    · exact hfrags.trans (Dev.posts_count d2 5 (b + 5))
    · split
      · exact hfrags.trans (Dev.posts_count d2 5 (b + 4))
      · exact hfrags
  · exact hcode

/-- The block after what is noted of every frame it receives. -/
def Dev.noted (d : Dev) (f : RxFrame) : Dev := (d.rxNotes f).watchSegment f

theorem Dev.posts_noted (d : Dev) (f : RxFrame) :
    (d.modPort f.port (fun q => { q with rxWire := q.rxWire + f.bytes.length + 24 })).Posts (d.noted f) :=
  (d.posts_rxNotes f).trans (Dev.posts_watchSegment _ f)

theorem Dev.noted_deviceAsleep (d : Dev) (f : RxFrame) : (d.noted f).deviceAsleep = d.deviceAsleep :=
  (d.posts_noted f).deviceAsleep

theorem Dev.noted_portAsleep (d : Dev) (f : RxFrame) (p : Nat) : (d.noted f).portAsleep p = d.portAsleep p :=
  (d.posts_noted f).portAsleep p

theorem Dev.noted_portSleeping (d : Dev) (f : RxFrame) (p : Nat) : (d.noted f).portSleeping p = d.portSleeping p :=
  (d.posts_noted f).portSleeping p

theorem Dev.noted_classified (d : Dev) (f : RxFrame) (p : Nat) : (d.noted f).classified p = d.classified p :=
  (d.posts_noted f).classified p

/-- A frame on a port in service is not held up by sleep. -/
theorem Dev.sleepingFrame_of_awake {d : Dev} {p : Nat} (hd : d.deviceAsleep = false) (hp : d.portAsleep p = false)
    (hs : d.portSleeping p = false) : d.sleepingFrame p = (true, d) := by
  simp [Dev.sleepingFrame, hd, hp, hs]

/-! ## MAC_FRAME_RECEIVED -/

/-- The port receives: an enabled Ethernet port that is up, awake as the device is, with no frame being cut through. -/
structure Dev.Receives (d : Dev) (p : Nat) : Prop where
  ethernet : p < 50
  admin : (d.port p).admin = true
  up : (d.port p).up = true
  awake : d.deviceAsleep = false
  portAwake : d.portAsleep p = false
  inService : d.portSleeping p = false
  notCutting : tabFind d.fabric.cutting p = none

/-- On a port that receives, a frame's outcome decides. -/
theorem macFrame_of_receives {d : Dev} {f : RxFrame} (h : d.Receives f.port) :
    macFrame f d = (rxFault (d.port f.port) f).elim
      (if d.classified f.port then (d.noted f).acceptPending f else (d.noted f).acceptFrame f)
      (fun o => ((d.noted f).dropPending f.port).count 2 (f.port * 64 + o)) := by
  obtain ⟨hport, hadmin, hup, hawake, hportAwake, hservice, hcut⟩ := h
  have hgo : (d.noted f).sleepingFrame f.port = (true, d.noted f) :=
    Dev.sleepingFrame_of_awake ((d.noted_deviceAsleep f).trans hawake) ((d.noted_portAsleep f _).trans hportAwake)
      ((d.noted_portSleeping f _).trans hservice)
  have hnoted : (d.rxNotes f).watchSegment f = d.noted f := rfl
  simp only [macFrame, Nat.not_le.mpr hport, hadmin, hup, hawake, hportAwake, hcut, Bool.not_true, Bool.and_false,
    Bool.false_eq_true, or_self, if_false, hnoted, hgo, Dev.noted_classified]
  cases rxFault (d.port f.port) f <;> rfl

theorem macFrame_of_fault {d : Dev} {f : RxFrame} {o : Nat} (h : d.Receives f.port) (ho : rxFault (d.port f.port) f = some o) :
    macFrame f d = ((d.noted f).dropPending f.port).count 2 (f.port * 64 + o) := by
  rw [macFrame_of_receives h, ho, Option.elim_some]

theorem macFrame_of_accepted {d : Dev} {f : RxFrame} (h : d.Receives f.port) (ho : rxFault (d.port f.port) f = none)
    (hc : d.classified f.port = false) : macFrame f d = (d.noted f).acceptFrame f := by
  rw [macFrame_of_receives h, ho, hc, Option.elim_none, if_neg Bool.false_ne_true]

/-- A port that is disabled, down or no Ethernet port takes nothing. -/
theorem macFrame_of_closed {d : Dev} {f : RxFrame} (h : (d.port f.port).admin = false ∨ (d.port f.port).up = false ∨ 50 ≤ f.port) :
    macFrame f d = d := by
  have hclosed : 50 ≤ f.port ∨ (!(d.port f.port).admin) = true ∨ (!(d.port f.port).up) = true := by
    simp only [Bool.not_eq_true']
    tauto
  exact if_pos hclosed

/-- What enters a FIFO of a frame accepted whole. -/
def Dev.arrivedOf (d : Dev) (f : RxFrame) : Arrived :=
  { port := f.port, bytes := f.bytes, time := d.ingressOf f, ring := 0, second := none, arrival := d.uptime + 2 * b2n f.second }

theorem Dev.acceptFrame_of_room {d d' : Dev} {f : RxFrame}
    (h : (d.frameKeepAlive f.port f.bytes).fifoPut (sliceOf f.port) (d.arrivedOf f) = some d') :
    d.acceptFrame f = d'.countReceived f.port f.bytes := by
  unfold Dev.arrivedOf at h
  simp only [Dev.acceptFrame, Dev.arrivalOf, h]

theorem Dev.acceptFrame_of_full {d : Dev} {f : RxFrame}
    (h : (d.frameKeepAlive f.port f.bytes).fifoPut (sliceOf f.port) (d.arrivedOf f) = none) :
    d.acceptFrame f = (d.frameKeepAlive f.port f.bytes).count 2 (f.port * 64 + 9) := by
  unfold Dev.arrivedOf at h
  simp only [Dev.acceptFrame, Dev.arrivalOf, h]

theorem runs_macFrameReceived (f : RxFrame) (s : State) : Runs (.macFrameReceived f) s (macFrame f s.dev) := rfl

/-! ## CUT_THROUGH_OVERSIZE -/

theorem runs_cutThroughOversize (p sent : Nat) (bytes : Bytes) (s : State) :
    Runs (.cutThroughOversize p sent bytes) s (cutOversize p sent bytes s.dev) := rfl

theorem cutOversize_of_none {d : Dev} {p : Nat} (sent : Nat) (bytes : Bytes) (h : tabFind d.fabric.cutting p = none) :
    cutOversize p sent bytes d = d := by
  simp only [cutOversize, h]

/-- The block after a frame that crossed MAX_FRAME while it was cut through is counted and its waiting copies dropped (R73). -/
def Dev.oversized (d : Dev) (p id : Nat) (bytes : Bytes) : Dev :=
  (((d.modStored id (fun g => { g with bytes := bytes, receiving := false, bad := true })).count 2 (p * 64 + 8)).endPending
    id none p).dropWaiting id

/-- No copy is left: nothing is being sent of the frame. -/
theorem cutOversize_of_gone {d : Dev} {p id : Nat} (sent : Nat) {bytes : Bytes} (h : tabFind d.fabric.cutting p = some id)
    (hgone : (d.oversized p id bytes).stored id = none) : cutOversize p sent bytes d = d.oversized p id bytes := by
  unfold Dev.oversized at hgone
  simp only [cutOversize, h, hgone]
  rfl

/-- Every port that is sending the frame, or has it interrupted, ends it stomped. -/
theorem cutOversize_of_sent {d : Dev} {p id : Nat} {g : Stored} (sent : Nat) {bytes : Bytes}
    (h : tabFind d.fabric.cutting p = some id) (hg : (d.oversized p id bytes).stored id = some g) :
    cutOversize p sent bytes d =
      (((d.oversized p id bytes).fabric.sending ++ (d.oversized p id bytes).fabric.preempted).filter (fun x => x.2.id == id)).foldl
        (fun e x => (e.sentCopy x.1 x.2).stomp x.1 ((sendingBytesOf g x.2).take (min sent (x.2.maxFrame - 4))) x.2.lost)
        (d.oversized p id bytes) := by
  unfold Dev.oversized at hg ⊢
  simp only [cutOversize, h, hg]

end Sys2Proof.Machine
end

section
/-! The statement about received frames. -/

namespace Sys2Proof.Machine

open Sys2Proof

/-- Settles O29, by the outcome of the frame. -/
theorem receivedFramesCountOrEnter : Obligations.ReceivedFramesCountOrEnter := by
  refine ⟨fun s f => ⟨fun hclosed => ?_, fun hport hadmin hup hawake hportAwake hservice hcut => ?_⟩,
    fun s p sent bytes => ⟨fun hnone => ?_, fun id hid => ⟨fun hgone => ?_, fun g hg => ?_⟩⟩⟩
  · have hrun := runs_macFrameReceived f s
    rwa [macFrame_of_closed hclosed] at hrun
  · have hr : s.dev.Receives f.port := ⟨hport, hadmin, hup, hawake, hportAwake, hservice, hcut⟩
    have hrun := runs_macFrameReceived f s
    refine ⟨fun o ho => ?_, fun hok hclass => ⟨fun d3 hroom => ?_, fun hfull => ?_⟩⟩
    · rwa [macFrame_of_fault hr ho] at hrun
    · rwa [macFrame_of_accepted hr hok hclass, Dev.acceptFrame_of_room (d := s.dev.noted f) hroom] at hrun
    · rwa [macFrame_of_accepted hr hok hclass, Dev.acceptFrame_of_full (d := s.dev.noted f) hfull] at hrun
  · have hrun := runs_cutThroughOversize p sent bytes s
    rwa [cutOversize_of_none sent bytes hnone] at hrun
  · have hrun := runs_cutThroughOversize p sent bytes s
    rwa [cutOversize_of_gone sent hid hgone] at hrun
  · have hrun := runs_cutThroughOversize p sent bytes s
    rwa [cutOversize_of_sent sent hid hg, Dev.oversized] at hrun

end Sys2Proof.Machine
end

section
/-! SUPPORT. Every command is a change of the block alone. -/

namespace Sys2Proof.Machine

open Sys2Proof

/-- The meaning of every command of the table is a change of the block that completes and leaves the queue alone. -/
theorem exec_eq_onDev (c : Instr) : ∃ f : Dev → Dev, ∀ s, exec c s = onDev f s := by
  cases c <;> simp only [exec] <;> exact ⟨_, fun _ => rfl⟩

end Sys2Proof.Machine
end

section
/-! The statements about a step and its command. -/

namespace Sys2Proof.Machine

open Sys2Proof

/-- Settles O1, by the definition of a step on a queue that is not empty. -/
theorem stepRunsFrontCommand : Obligations.StepRunsFrontCommand := by
  intro c rest d
  rfl

/-- Settles O2: every command's meaning is a change of the block alone. -/
theorem everyCommandCompletesAndLeavesTheQueue : Obligations.EveryCommandCompletesAndLeavesTheQueue := by
  intro c d
  obtain ⟨f, hf⟩ := exec_eq_onDev c
  exact ⟨f d, fun q => hf { dev := d, pending := q }⟩

end Sys2Proof.Machine
end

section
/-! SUPPORT. The header checks of R39, one lemma per step. -/

namespace Sys2Proof.Machine

open Sys2Proof

/-- The header's own fields agree: no reserved word or FLAGS bit, a TXN only with STAGED, STAGED only on a transactional command
(R39 step 4). -/
def reqFieldsOk (op : Nat) (rq : Req) : Prop :=
  rq.resv = 0 ∧ rq.flags < 8 ∧ (reqStaged rq = false → rq.txn = 0) ∧ (reqStaged rq = true → isTransactional op = true)

theorem headerError_of_long {d : Dev} {op : Nat} {rq : Req} (h : 4096 < rq.length) : headerError d op rq = some stBadLength := by
  simp only [headerError, h, if_true]

theorem headerError_of_unknown {d : Dev} {op : Nat} {rq : Req} (h : rq.length ≤ 4096) (hk : knownOpcode op = false) :
    headerError d op rq = some stBadOpcode := by
  simp [headerError, Nat.not_lt.mpr h, hk]

theorem headerError_of_unserved {d : Dev} {op : Nat} {rq : Req} (h : rq.length ≤ 4096) (hk : knownOpcode op = true)
    (hs : d.serves rq.ch op = false) : headerError d op rq = some stWrongMode := by
  simp [headerError, Nat.not_lt.mpr h, hk, hs]

section
variable {d : Dev} {op : Nat} {rq : Req} (h : rq.length ≤ 4096) (hk : knownOpcode op = true) (hs : d.serves rq.ch op = true)
include h hk hs

theorem headerError_of_badFields (hf : ¬ reqFieldsOk op rq) : headerError d op rq = some stBadParam := by
  have hbad : (rq.resv != 0 || decide (8 ≤ rq.flags) || (!(reqStaged rq) && rq.txn != 0) || ((reqStaged rq) && !isTransactional op)) =
      true := by
    by_contra hc
    refine hf ⟨?_, ?_, ?_, ?_⟩ <;> cases hst : reqStaged rq <;> simp_all
  simp only [headerError, Nat.not_lt.mpr h, hk, hs, hbad, Bool.not_true, Bool.false_eq_true, if_false, if_true]

/-- With a well-formed header an immediate command passes, and a transactional one is judged by the transaction it names. -/
theorem headerError_of_fieldsOk (hf : reqFieldsOk op rq) :
    headerError d op rq = if isTransactional op then txnError d rq else none := by
  obtain ⟨hresv, hflags, htxn, hstaged⟩ := hf
  have hgood : (rq.resv != 0 || decide (8 ≤ rq.flags) || (!(reqStaged rq) && rq.txn != 0) || ((reqStaged rq) && !isTransactional op)) =
      false := by
    cases hst : reqStaged rq <;> simp_all
  simp only [headerError, Nat.not_lt.mpr h, hk, hs, hgood, Bool.not_true, Bool.false_eq_true, if_false]

end

theorem txnError_of_unstaged {d : Dev} {rq : Req} (h : reqStaged rq = false) : txnError d rq = some stNotInTxn := by
  simp only [txnError, h, Bool.not_false, if_true]

/-- A staged request that names the open transaction passes on its owner's channel alone. -/
theorem txnError_of_named {d : Dev} {rq : Req} {x : OpenTxn} (h : reqStaged rq = true) (hx : d.txn.txn = some x) (hid : x.id = rq.txn) :
    txnError d rq = if x.owner = rq.ch then none else some stNotPermitted := by
  simp only [txnError, h, hx, hid, Bool.not_true, Bool.false_eq_true, if_false, beq_self_eq_true, if_true, beq_iff_eq]

/-- A staged request that names another transaction than the open one. -/
theorem txnError_of_other {d : Dev} {rq : Req} (h : reqStaged rq = true) (hx : ∀ x, d.txn.txn = some x → x.id ≠ rq.txn) :
    txnError d rq = if rq.txn ∈ d.txn.aborted then some stTxnAborted else some stNotInTxn := by
  cases ho : d.txn.txn with
  | none => simp [txnError, h, ho]
  | some x => simp [txnError, h, ho, hx x ho]

end Sys2Proof.Machine
end

section
/-! The statements about the header checks. -/

namespace Sys2Proof.Machine

open Sys2Proof

/-- Settles O21, step by step of R39. -/
theorem headerChecksInOrder : Obligations.HeaderChecksInOrder := by
  intro d op rq
  refine ⟨headerError_of_long, headerError_of_unknown, headerError_of_unserved, fun hlen hk hs => ⟨fun hbad => ?_, ?_⟩⟩
  · refine headerError_of_badFields hlen hk hs ?_
    rintro ⟨hresv, hflags, htxn, hstaged⟩
    rcases hbad with h | h | ⟨h, h'⟩ | ⟨h, h'⟩
    · exact h hresv
    · omega
    · exact h' (htxn h)
    · simp [hstaged h] at h'
  · intro hresv hflags hst htxn himm
    rw [headerError_of_fieldsOk hlen hk hs ⟨hresv, hflags, fun _ => htxn, by simp [hst]⟩, himm]
    rfl

/-- Settles O20: what the header check says of a transactional opcode is what the transaction rules say. -/
theorem stagedCommandNeedsItsTransaction : Obligations.StagedCommandNeedsItsTransaction := by
  intro d op rq hlen hk htr hs hresv hflags
  have hpass : (reqStaged rq = false → rq.txn = 0) → headerError d op rq = txnError d rq := fun htxn => by
    rw [headerError_of_fieldsOk hlen hk hs ⟨hresv, hflags, htxn, fun _ => htr⟩, if_pos htr]
  refine ⟨fun hst htxn => ?_, fun hst htxn => ?_, fun hst => ?_⟩
  · rw [hpass fun _ => htxn, txnError_of_unstaged hst]
  · exact headerError_of_badFields hlen hk hs fun ⟨_, _, hzero, _⟩ => htxn (hzero hst)
  · rw [hpass (by simp [hst])]
    refine ⟨fun x hx hid hown => ?_, fun x hx hid hown => ?_, fun hx hab => ?_, fun hx hab => ?_⟩
    · rw [txnError_of_named hst hx hid, if_pos hown]
    · rw [txnError_of_named hst hx hid, if_neg hown]
    · rw [txnError_of_other hst hx, if_pos hab]
    · rw [txnError_of_other hst hx, if_neg hab]

end Sys2Proof.Machine
end

section
/-! The statement about the transactional commands. -/

namespace Sys2Proof.Machine

open Sys2Proof

/-- A row whose meaning is `serveStaged` with its check stages its command. -/
theorem stages_of_exec {mk : Req → Instr} {op : Nat} {check : Dev → Bytes → Nat}
    (hexec : ∀ rq s, exec (mk rq) s = onDev (Dev.serveStaged op rq check) s) : Stages mk op check := by
  intro s rq t d r x hadm hx hc hn hs
  rw [Runs, hexec, onDev, stages_of_serveStaged hadm hx hc hn hs]

/-- Settles O19: the meaning of each of the 51 rows is `serveStaged` with its own check. -/
theorem transactionalCommandsAreStaged : Obligations.TransactionalCommandsAreStaged := by
  refine ⟨?_, ?_, ?_, ?_, ?_, ?_, ?_, ?_, ?_, ?_, ?_, ?_, ?_, ?_, ?_, ?_, ?_, ?_, ?_, ?_, ?_, ?_, ?_, ?_, ?_, ?_, ?_, ?_, ?_, ?_, ?_,
    ?_, ?_, ?_, ?_, ?_, ?_, ?_, ?_, ?_, ?_, ?_, ?_, ?_, ?_, ?_, ?_, ?_, ?_, ?_, ?_⟩
  all_goals exact stages_of_exec fun _ _ => rfl

end Sys2Proof.Machine
end

section
/-! SUPPORT. What ending a transaction or an update session changes, and what a channel reset leaves (R42, R55, R385). -/

namespace Sys2Proof.Machine

open Sys2Proof

/-- The transaction unit after the open transaction, where there is one, has ended without being applied. -/
def TxnUnit.ended (x : TxnUnit) : TxnUnit :=
  match x.txn with
  | none => x
  | some t => { x with txn := none, aborted := x.aborted ++ [t.id] }

theorem TxnUnit.ended_of_open {x : TxnUnit} {t : OpenTxn} (h : x.txn = some t) :
    x.ended = { x with txn := none, aborted := x.aborted ++ [t.id] } := by
  simp only [TxnUnit.ended, h]

/-- Ending the open transaction changes the transaction unit and posts an event, nothing else. -/
theorem Dev.posts_endTxn (d : Dev) (reason : Nat) : Dev.Posts { d with txn := d.txn.ended } (d.endTxn reason) := by
  cases h : d.txn.txn with
  | none => simpa only [Dev.endTxn, TxnUnit.ended, h] using Dev.Posts.refl d
  | some t =>
    simp only [Dev.endTxn, TxnUnit.ended, h]
    exact Dev.posts_post _ _ _ _

/-- Invalidating banks changes the update unit alone. -/
theorem Dev.foldl_invalidate (l : List (Nat × Nat)) (d : Dev) :
    ∃ u, l.foldl (fun e t => e.invalidate t.1 t.2) d = { d with update := u } := by
  induction l generalizing d with
  | nil => exact ⟨d.update, rfl⟩
  | cons t l ih =>
    obtain ⟨u, hu⟩ := ih (d.invalidate t.1 t.2)
    exact ⟨u, hu⟩

/-- Ending the update session changes the update unit and posts an event, nothing else. -/
theorem Dev.posts_endUpdate (d : Dev) (reason : Nat) : ∃ u, Dev.Posts { d with update := u } (d.endUpdate reason) := by
  unfold Dev.endUpdate
  split
  · exact ⟨d.update, .refl d⟩
  · rename_i u _
    obtain ⟨u', hu⟩ := Dev.foldl_invalidate u.targets { d with update := { d.update with session := none } }
    dsimp only
    rw [hu]
    exact ⟨u', Dev.posts_post _ _ _ _⟩

/-- What a reset leaves of a channel (R42). -/
def Chan.discarded (c : Chan) : Chan :=
  { c with reqProd := 0, reqCons := 0, rspProd := 0, rspCons := 0, waiting := [], taken := [], completed := [], posted := []
           dropRunning := c.running.isSome }

theorem Dev.Posts.setUpdate {d d' : Dev} (h : d.Posts d') (u : Update) : Dev.Posts { d with update := u } { d' with update := u } := by
  obtain ⟨h, l, o, rfl⟩ := h
  exact ⟨h, l, o, rfl⟩

theorem Dev.posts_endTxnIf (d : Dev) (b : Bool) (reason : Nat) :
    Dev.Posts { d with txn := if b then d.txn.ended else d.txn } (if b then d.endTxn reason else d) := by
  cases b
  · exact .refl d
  · exact d.posts_endTxn reason

theorem Dev.posts_endUpdateIf (d : Dev) (b : Bool) (reason : Nat) :
    ∃ u, Dev.Posts { d with update := u } (if b then d.endUpdate reason else d) := by
  cases b
  · exact ⟨d.update, .refl d⟩
  · exact d.posts_endUpdate reason

/-- Where a channel that is reset owns the open transaction or the update session, they end. -/
theorem Dev.posts_endOwned (d : Dev) (txn update : Bool) (r1 r2 : Nat) : ∃ u,
    Dev.Posts { d with txn := if txn then d.txn.ended else d.txn, update := u }
      (if update then (if txn then d.endTxn r1 else d).endUpdate r2 else if txn then d.endTxn r1 else d) := by
  obtain ⟨u, hu⟩ := (if txn then d.endTxn r1 else d).posts_endUpdateIf update r2
  exact ⟨u, ((d.posts_endTxnIf txn r1).setUpdate u).trans hu⟩

/-- A channel reset changes its channel, the transaction unit where the channel owns the open transaction, and the update unit;
beside that it posts events. -/
theorem Dev.posts_resetChannel (d : Dev) (ch reason : Nat) : ∃ u,
    Dev.Posts { d.modChan ch Chan.discarded with txn := if d.ownsTxn ch then d.txn.ended else d.txn, update := u }
      (d.resetChannel ch reason) := by
  obtain ⟨u, hu⟩ := (d.modChan ch Chan.discarded).posts_endOwned (d.ownsTxn ch) (d.ownsUpdate ch) 5 4
  by_cases hch : (ch == 0) = true
  · refine ⟨{ u with kilnPeer := none }, ?_⟩
    obtain ⟨h, l, o, he⟩ := hu
    have hdrop := congrArg Dev.dropKiln he
    refine Dev.Posts.trans ⟨h, l, o, hdrop⟩ ?_
    simp only [Dev.resetChannel, hch, if_true]
    exact Dev.posts_post _ _ _ _
  · refine ⟨u, hu.trans ?_⟩
    simp only [Dev.resetChannel, hch, if_false, Bool.false_eq_true]
    exact Dev.posts_post _ _ _ _

/-- Of the fields of a channel reset: the channel is discarded, the others are as before. -/
theorem Dev.resetChannel_chan (d : Dev) (ch reason : Nat) : (d.resetChannel ch reason).chan ch = (d.chan ch).discarded := by
  obtain ⟨u, hu⟩ := d.posts_resetChannel ch reason
  rw [hu.chan]
  exact d.modChan_chan ch _

theorem Dev.resetChannel_chan_other (d : Dev) {ch k : Nat} (reason : Nat) (h : k ≠ ch) :
    (d.resetChannel ch reason).chan k = d.chan k := by
  obtain ⟨u, hu⟩ := d.posts_resetChannel ch reason
  rw [hu.chan]
  exact d.modChan_chan_other ch k _ h

theorem Dev.resetChannel_txn (d : Dev) (ch reason : Nat) :
    (d.resetChannel ch reason).txn = if d.ownsTxn ch then d.txn.ended else d.txn := by
  obtain ⟨u, hu⟩ := d.posts_resetChannel ch reason
  exact hu.txn

theorem Dev.ownsTxn_iff {d : Dev} {ch : Nat} {t : OpenTxn} (h : d.txn.txn = some t) : d.ownsTxn ch = true ↔ t.owner = ch := by
  simp [Dev.ownsTxn, h]

end Sys2Proof.Machine
end

section
/-! The statement about a channel reset. -/

namespace Sys2Proof.Machine

open Sys2Proof

/-- Settles O6, from everything a channel reset changes. -/
theorem channelResetDiscards : Obligations.ChannelResetDiscards := by
  intro d ch reason
  refine ⟨?_, fun t ht hown => ?_, fun t ht hown => ?_, fun k hk => d.resetChannel_chan_other reason hk⟩
  · rw [Dev.resetChannel_chan]
    exact ⟨rfl, rfl, rfl, rfl, rfl, rfl, rfl, rfl, rfl, rfl⟩
  · rw [Dev.resetChannel_txn, if_pos ((Dev.ownsTxn_iff ht).mpr hown), TxnUnit.ended_of_open ht]
    exact ⟨rfl, rfl⟩
  · rw [Dev.resetChannel_txn, if_neg fun h => hown ((Dev.ownsTxn_iff ht).mp h), ht]

end Sys2Proof.Machine
end

section
/-! SUPPORT. Taking requests from a channel's queue (R40, R43). -/

namespace Sys2Proof.Machine

open Sys2Proof

/-- The arrival of a request changes the record of host activity and the idle times of the update unit, nothing else (R41). -/
theorem Dev.arrival_eq (d : Dev) (ch op : Nat) : ∃ u,
    d.arrival ch op = { d with lantern := { d.lantern with lastRequest := some d.uptime, hostActive := true }, update := u } := by
  unfold Dev.arrival
  dsimp only
  repeat' split
  all_goals exact ⟨_, rfl⟩

@[simp] theorem Dev.arrival_chans (d : Dev) (ch op : Nat) : (d.arrival ch op).chans = d.chans := by
  obtain ⟨u, hu⟩ := d.arrival_eq ch op
  rw [hu]

@[simp] theorem Dev.arrival_chan (d : Dev) (ch op k : Nat) : (d.arrival ch op).chan k = d.chan k :=
  congrArg (tabGet chan0 · k) (d.arrival_chans ch op)

/-- The channel's queues once a request has been taken. -/
def Chan.withTaken (c : Chan) (t : Taken) : Chan :=
  { c with taken := c.taken ++ [t], reqCons := if t.origin.isNone then (c.reqCons + 1) % 32 else c.reqCons }

theorem Dev.take_eq (d : Dev) (t : Taken) : d.take t = (d.arrival t.rq.ch t.opcode).modChan t.rq.ch (fun c => c.withTaken t) := rfl

theorem Dev.take_chan (d : Dev) (t : Taken) : (d.take t).chan t.rq.ch = (d.chan t.rq.ch).withTaken t := by
  rw [Dev.take_eq, Dev.modChan_chan, Dev.arrival_chan]

theorem Dev.take_chan_other (d : Dev) {t : Taken} {k : Nat} (h : k ≠ t.rq.ch) : (d.take t).chan k = d.chan k := by
  rw [Dev.take_eq, Dev.modChan_chan_other _ _ _ _ h, Dev.arrival_chan]

/-- One more outstanding request. -/
theorem Chan.outstanding_withTaken (c : Chan) (t : Taken) : (c.withTaken t).outstanding = c.outstanding + 1 := by
  cases hr : c.running <;> simp only [Chan.withTaken, Chan.outstanding, hr, List.length_append, List.length_singleton] <;> omega

theorem Dev.mayTake_outstanding {d : Dev} {ch : Nat} (h : d.mayTake ch = true) : (d.chan ch).outstanding < 16 := by
  simp only [Dev.mayTake, Bool.and_eq_true, decide_eq_true_eq] at h
  exact h.2

/-- A waiting request as a channel takes it. -/
def hostTaken (ch : Nat) (r : HostReq) : Taken := { opcode := r.opcode, rq := { r.rq with ch := ch }, origin := none }

/-- The channel after the first `n` waiting requests have been taken in their order. -/
def Chan.advanced (c : Chan) (ch n : Nat) : Chan :=
  { c with waiting := c.waiting.drop n, taken := c.taken ++ (c.waiting.take n).map (hostTaken ch)
           reqCons := if n = 0 then c.reqCons else (c.reqCons + n) % 32 }

theorem Chan.advanced_zero (c : Chan) (ch : Nat) : c.advanced ch 0 = c := by simp [Chan.advanced]

theorem Chan.advanced_succ {c : Chan} {ch n : Nat} {r : HostReq} {rest : List HostReq} (h : c.waiting = r :: rest) :
    ({ c with waiting := rest }.withTaken (hostTaken ch r)).advanced ch n = c.advanced ch (n + 1) := by
  have hcons : (if n = 0 then (c.reqCons + 1) % 32 else (c.reqCons + 1 + n) % 32) = (c.reqCons + (n + 1)) % 32 := by
    split <;> omega
  simp [Chan.advanced, Chan.withTaken, hostTaken, h, hcons]

/-- The block at `d'` is the block at `d` once the first `m` requests that wait on a channel have been taken. -/
structure Dev.Pulled (ch m : Nat) (d d' : Dev) : Prop where
  /-- So many wait. -/
  count : m ≤ (d.chan ch).waiting.length
  /-- They are taken in their order. -/
  chan : d'.chan ch = (d.chan ch).advanced ch m
  /-- No request is taken above the limit of R40. -/
  limit : (d.chan ch).outstanding ≤ 16 → (d'.chan ch).outstanding ≤ 16
  /-- The other channels are as before. -/
  others : ∀ k, k ≠ ch → d'.chan k = d.chan k

theorem Dev.Pulled.refl (ch : Nat) (d : Dev) : Dev.Pulled ch 0 d d :=
  ⟨Nat.zero_le _, ((d.chan ch).advanced_zero ch).symm, id, fun _ _ => rfl⟩

/-- The first waiting request is taken. -/
def Dev.takeFirst (d : Dev) (ch : Nat) (r : HostReq) (rest : List HostReq) : Dev :=
  (d.modChan ch (fun c => { c with waiting := rest })).take (hostTaken ch r)

theorem Dev.takeFirst_chan (d : Dev) (ch : Nat) (r : HostReq) (rest : List HostReq) :
    (d.takeFirst ch r rest).chan ch = { d.chan ch with waiting := rest }.withTaken (hostTaken ch r) := by
  rw [← d.modChan_chan ch (fun c => { c with waiting := rest })]
  exact Dev.take_chan _ (hostTaken ch r)

theorem Dev.takeFirst_chan_other (d : Dev) {ch k : Nat} (r : HostReq) (rest : List HostReq) (h : k ≠ ch) :
    (d.takeFirst ch r rest).chan k = d.chan k :=
  (Dev.take_chan_other _ h).trans (d.modChan_chan_other ch k _ h)

/-- The first waiting request, where the channel may take it, and then `m` more. -/
theorem Dev.Pulled.succ {ch m : Nat} {d d' : Dev} {r : HostReq} {rest : List HostReq} (hw : (d.chan ch).waiting = r :: rest)
    (hmay : d.mayTake ch = true) (h : Dev.Pulled ch m (d.takeFirst ch r rest) d') : Dev.Pulled ch (m + 1) d d' := by
  obtain ⟨hcount, hchan, hlimit, hothers⟩ := h
  rw [Dev.takeFirst_chan] at hcount hchan hlimit
  refine ⟨?_, ?_, fun _ => hlimit ?_, fun k hk => (hothers k hk).trans (d.takeFirst_chan_other r rest hk)⟩
  · rw [hw, List.length_cons]
    exact Nat.succ_le_succ hcount
  · rw [hchan, Chan.advanced_succ hw]
  · rw [Chan.outstanding_withTaken]
    exact Dev.mayTake_outstanding hmay

/-- What taking at most `n` waiting requests does: some first `m` of them are taken, and it stops early only where nothing waits
or the channel may take no more. -/
theorem Dev.pull_spec (ch n : Nat) (d : Dev) : ∃ m, Dev.Pulled ch m d (Dev.pull ch n d) ∧
    (m = n ∨ ((Dev.pull ch n d).chan ch).waiting = [] ∨ (Dev.pull ch n d).mayTake ch = false) := by
  induction n generalizing d with
  | zero => exact ⟨0, .refl ch d, .inl rfl⟩
  | succ n ih =>
    by_cases hw : (d.chan ch).waiting = []
    · have hstay : Dev.pull ch (n + 1) d = d := by simp only [Dev.pull, hw]
      rw [hstay]
      exact ⟨0, .refl ch d, .inr (.inl hw)⟩
    obtain ⟨r, rest, hw⟩ := List.exists_cons_of_ne_nil hw
    by_cases hmay : d.mayTake ch = true
    · have hstep : Dev.pull ch (n + 1) d = Dev.pull ch n (d.takeFirst ch r rest) := by
        simp only [Dev.pull, hw, hmay, if_true]
        rfl
      obtain ⟨m, hpulled, hstop⟩ := ih (d.takeFirst ch r rest)
      rw [hstep]
      exact ⟨m + 1, hpulled.succ hw hmay, hstop.imp_left (congrArg (· + 1))⟩
    · have hstay : Dev.pull ch (n + 1) d = d := by simp only [Dev.pull, hw, hmay, if_false, Bool.false_eq_true]
      rw [hstay]
      exact ⟨0, .refl ch d, .inr (.inr (by simpa using hmay))⟩

/-- With nothing waiting, nothing is taken. -/
theorem Dev.pullAll_of_nil {d : Dev} {ch : Nat} (h : (d.chan ch).waiting = []) : d.pullAll ch = d := by
  simp only [Dev.pullAll, h, List.length_nil, Dev.pull]

end Sys2Proof.Machine
end

section
/-! The statement about the order in which requests are taken. -/

namespace Sys2Proof.Machine

open Sys2Proof

/-- Settles O7, by induction on the requests that wait. -/
theorem requestsTakenInOrderAtMostSixteen : Obligations.RequestsTakenInOrderAtMostSixteen := by
  intro d ch
  obtain ⟨m, ⟨hcount, hchan, hlimit, hothers⟩, hstop⟩ := Dev.pull_spec ch (d.chan ch).waiting.length d
  refine ⟨m, hcount, ?_, hothers⟩
  have hpull : d.pullAll ch = Dev.pull ch (d.chan ch).waiting.length d := rfl
  simp only [hpull]
  refine ⟨by rw [hchan]; rfl, by rw [hchan]; rfl, ?_, fun hcons => ?_, by rw [hchan]; rfl, by rw [hchan]; rfl, by rw [hchan]; rfl, hlimit⟩
  · rcases hstop with rfl | h
    · exact .inl (by rw [hchan]; exact List.drop_length)
    · exact h
  · rw [hchan, Chan.advanced]
    split
    · subst m
      exact (Nat.mod_eq_of_lt hcons).symm
    · rfl

end Sys2Proof.Machine
end

section
/-! SUPPORT. The admission of a plain request and its answer (R39 to R43). -/

namespace Sys2Proof.Machine

open Sys2Proof

/-- With nothing taken, no header is checked. -/
theorem Dev.drainAll_of_nil {d : Dev} {ch : Nat} (h : (d.chan ch).taken = []) : d.drainAll ch = d := by
  simp only [Dev.drainAll, h, List.length_nil, Dev.drain]

/-- The channel is idle and may take one more request of the host: enabled, bound to the host transport, with nothing waiting, taken
or in progress, and fewer than 16 outstanding. -/
structure Dev.ChanReady (d : Dev) (ch : Nat) : Prop where
  exists_ : ch < 8
  takes : d.takesRequests = true
  enabled : (d.chan ch).enable = true
  host : (d.chan ch).inband = false
  waiting : (d.chan ch).waiting = []
  taken : (d.chan ch).taken = []
  running : (d.chan ch).running = none
  room : (d.chan ch).outstanding < 16

theorem Dev.ChanReady.mayTake {d : Dev} {ch : Nat} (h : d.ChanReady ch) : d.mayTake ch = true := by
  simp [Dev.mayTake, h.exists_, h.takes, h.enabled, h.host, h.room]

/-- A request of the host transport as its channel takes it. -/
def plainTaken (op : Nat) (rq : Req) : Taken := { opcode := op, rq := rq, origin := none }

/-- The block as the command of a plain request finds it: taken, and out of the queue again. -/
def Dev.started (d : Dev) (op : Nat) (rq : Req) : Dev :=
  (d.take (plainTaken op rq)).modChan rq.ch (fun c => { c with taken := [], reqProd := if d.host.spi then c.reqProd else (c.reqProd + 1) % 32 })

/-- On an idle channel a request is started as it arrives. -/
theorem Dev.start_of_ready {d : Dev} {op : Nat} {rq : Req} (h : d.ChanReady rq.ch) :
    d.start op rq = some (plainTaken op rq, d.started op rq) := by
  simp only [Dev.start, Dev.pullAll_of_nil h.waiting, h.takes, h.running, h.taken, h.mayTake, Bool.not_true, Option.isSome_none,
    Bool.or_false, Bool.false_eq_true, if_false, if_true, plainTaken, Dev.started]

/-- A started request changes its channel, the record of host activity and the update unit's idle times. -/
theorem Dev.started_eq (d : Dev) (op : Nat) (rq : Req) : ∃ u,
    d.started op rq = { d with chans := (d.started op rq).chans, update := u
                               lantern := { d.lantern with lastRequest := some d.uptime, hostActive := true } } := by
  obtain ⟨u, hu⟩ := d.arrival_eq rq.ch op
  refine ⟨u, ?_⟩
  simp only [Dev.started, Dev.take_eq, plainTaken, hu]
  rfl

/-- MBX_REQ_CONS and MBX_REQ_PROD advance. -/
theorem Dev.started_chan {d : Dev} (op : Nat) {rq : Req} (hspi : d.host.spi = false) (ht : (d.chan rq.ch).taken = []) :
    (d.started op rq).chan rq.ch =
      { d.chan rq.ch with reqCons := ((d.chan rq.ch).reqCons + 1) % 32, reqProd := ((d.chan rq.ch).reqProd + 1) % 32 } := by
  have htake := Dev.take_chan d (plainTaken op rq)
  rw [Dev.started, Dev.modChan_chan]
  rw [show rq.ch = (plainTaken op rq).rq.ch from rfl, htake, hspi]
  simp only [Chan.withTaken, plainTaken, Option.isNone_none, if_true, Bool.false_eq_true, if_false]
  rw [← ht]

theorem Dev.started_chan_other (d : Dev) (op : Nat) {rq : Req} {k : Nat} (h : k ≠ rq.ch) : (d.started op rq).chan k = d.chan k :=
  (Dev.modChan_chan_other _ _ _ _ h).trans (Dev.take_chan_other d h)

/-- The stage serves a command whatever the channels, the record of host activity and the update unit hold. -/
theorem Dev.started_serves (d : Dev) (op : Nat) (rq : Req) (ch x : Nat) : (d.started op rq).serves ch x = d.serves ch x := by
  obtain ⟨u, hu⟩ := d.started_eq op rq
  rw [hu]
  rfl

/-- With no FLAGS a request's data are the bytes of its payload. -/
theorem requestData_of_plain {d : Dev} {rq : Req} (b : Bool) (h : rq.flags = 0) :
    requestData d b rq = .inr { data := inlineBytes rq, rsp := [], reqCount := 0 } := by
  simp [requestData, reqBulkReq, reqBulkRsp, h, bit]

/-- Without a COMMIT being applied no object is held. -/
theorem Dev.heldByCommit_of_none {d : Dev} (op : Nat) (bs : Bytes) (h : d.txn.committing = none) : d.heldByCommit op bs = none := by
  simp only [Dev.heldByCommit, h]

/-- A response joins the completed ones of its channel. -/
theorem Dev.answer_chan (d : Dev) (t : Taken) (st det : Nat) (pl : Bytes) : ∃ hold,
    (d.answer t st det pl).chan t.rq.ch = { d.chan t.rq.ch with completed := (d.chan t.rq.ch).completed ++
      [{ opcode := t.opcode, seq := t.rq.seq % 65536, status := st, detail := det % 2 ^ 32, payload := pl, origin := t.origin, hold := hold }] } :=
  ⟨_, d.modChan_chan t.rq.ch _⟩

end Sys2Proof.Machine
end

section
/-! The statement about a plain request. -/

namespace Sys2Proof.Machine

open Sys2Proof

/-- Settles O22: on an idle channel each stage of the admission passes. -/
theorem plainRequestIsAdmittedAndAnswered : Obligations.PlainRequestIsAdmittedAndAnswered := by
  intro s op rq most
  dsimp only
  intro hch hspi htakes henable hinband hwaiting htaken hrunning hroom hlen hknown hserves hresv hflags htxn himm hidle
  have hready : s.dev.ChanReady rq.ch := ⟨hch, htakes, henable, hinband, hwaiting, htaken, hrunning, hroom⟩
  obtain ⟨u, hu⟩ := s.dev.started_eq op rq
  have hstaged : reqStaged rq = false := by simp [reqStaged, hflags, bit]
  have hbulk : reqBulkRsp rq = false := by simp [reqBulkRsp, hflags, bit]
  have hheader : headerError (s.dev.started op rq) op rq = none := by
    rw [headerError_of_fieldsOk hlen hknown (by rw [Dev.started_serves, hserves])
      ⟨hresv, by omega, fun _ => htxn, by simp [hstaged]⟩, himm]
    rfl
  have hhost : (s.dev.started op rq).host.spi = false := by rw [hu]; exact hspi
  have hheld : ∀ bs, (s.dev.started op rq).heldByCommit op bs = none := fun bs =>
    Dev.heldByCommit_of_none op bs (by rw [hu]; exact hidle)
  refine ⟨plainTaken op rq, s.dev.started op rq, { data := inlineBytes rq, rsp := [], reqCount := 0 }, ?_, rfl, rfl, rfl, rfl, ?_,
    fun k hk => s.dev.started_chan_other op hk, Dev.started_chan op hspi htaken, fun d' detail pl hd' => ?_⟩
  · have hdata := requestData_of_plain (d := s.dev.started op rq) (plainTaken op rq).origin.isSome hflags
    simp only [Dev.admitted, Dev.start_of_ready hready, show (plainTaken op rq).rq = rq from rfl, hheader, hdata, hhost, hbulk, hheld,
      Option.isSome_none, Bool.false_and, Bool.false_eq_true, if_false]
  · rw [hu]
  · have hchan : d'.chan rq.ch = (s.dev.started op rq).chan rq.ch := congrArg (tabGet chan0 · rq.ch) hd'
    obtain ⟨hold, hans⟩ := d'.answer_chan (plainTaken op rq) stOk detail pl
    have hdata : d'.answerData (plainTaken op rq) stOk detail pl { data := inlineBytes rq, rsp := [], reqCount := 0 } =
        d'.answer (plainTaken op rq) stOk detail pl := by
      simp only [Dev.answerData, show (plainTaken op rq).rq = rq from rfl, hbulk, Bool.false_and, Bool.false_eq_true, if_false]
    rw [show (plainTaken op rq).rq.ch = rq.ch from rfl, hchan, Dev.started_chan op hspi htaken] at hans
    rw [Dev.finish, hdata, Dev.drainAll_of_nil (by rw [hans]; exact htaken), hans]
    exact ⟨_, rfl, rfl, rfl, rfl, rfl, rfl, rfl⟩

end Sys2Proof.Machine
end

section
/-! SUPPORT. Bits of a register: what setting and clearing one leaves. -/

namespace Sys2Proof.Machine

open Sys2Proof

theorem bit_eq_testBit (v i : Nat) : bit v i = v.testBit i := by
  rw [Nat.testBit_eq_decide_div_mod_eq]
  rfl

/-- A number by its bit `i`: what lies above it, the bit, and what lies below. -/
theorem exists_bit_parts (v i : Nat) : ∃ q r, r < 2 ^ i ∧ v = 2 ^ (i + 1) * q + (if bit v i then 2 ^ i + r else r) := by
  refine ⟨v / 2 ^ i / 2, v % 2 ^ i, Nat.mod_lt _ (by positivity), ?_⟩
  have hsplit : v = 2 ^ i * (v / 2 ^ i) + v % 2 ^ i := (Nat.div_add_mod v (2 ^ i)).symm
  have hbit : v / 2 ^ i = 2 * (v / 2 ^ i / 2) + v / 2 ^ i % 2 := (Nat.div_add_mod _ 2).symm
  have hpow : 2 ^ (i + 1) * (v / 2 ^ i / 2) = 2 ^ i * (2 * (v / 2 ^ i / 2)) := by ring
  by_cases h : bit v i = true
  · have h1 : v / 2 ^ i % 2 = 1 := by simpa [bit] using h
    rw [if_pos h, hpow]
    conv_lhs => rw [hsplit, hbit, h1]
    ring
  · have h0 : v / 2 ^ i % 2 = 0 := by simpa [bit] using h
    rw [if_neg h, hpow]
    conv_lhs => rw [hsplit, hbit, h0]
    ring

/-- The bits of a number whose bit `i` is replaced. -/
theorem bit_parts {i r : Nat} (q k : Nat) (b : Bool) (hr : r < 2 ^ i) :
    bit (2 ^ (i + 1) * q + (if b then 2 ^ i + r else r)) k =
      if k = i then b else if k < i then r.testBit k else q.testBit (k - (i + 1)) := by
  have hlt : (if b then 2 ^ i + r else r) < 2 ^ (i + 1) := by
    rw [pow_succ]
    split <;> omega
  rw [bit_eq_testBit, Nat.testBit_two_pow_mul_add q hlt]
  rcases lt_trichotomy k i with hk | rfl | hk
  · rw [if_pos (Nat.lt_succ_of_lt hk), if_neg hk.ne, if_pos hk]
    cases b
    · rfl
    · exact Nat.testBit_two_pow_add_gt hk r
  · rw [if_pos (Nat.lt_succ_self k), if_pos rfl]
    cases b
    · exact Nat.testBit_lt_two_pow hr
    · simp only [if_true, Nat.testBit_two_pow_add_eq, Nat.testBit_lt_two_pow hr, Bool.not_false]
  · rw [if_neg (Nat.not_lt.mpr hk), if_neg hk.ne', if_neg (Nat.not_lt.mpr hk.le)]

/-- A bit is set, and every other one keeps its value. -/
theorem bit_setBit (v i k : Nat) : bit (setBit v i) k = if k = i then true else bit v k := by
  obtain ⟨q, r, hr, hv⟩ := exists_bit_parts v i
  by_cases h : bit v i = true
  · rw [setBit, if_pos h]
    split
    · subst_vars; exact h
    · rfl
  · have hset : setBit v i = 2 ^ (i + 1) * q + (if true then 2 ^ i + r else r) := by
      rw [if_neg h] at hv
      rw [setBit, if_neg h, hv, if_pos rfl]
      omega
    rw [hset, bit_parts q k true hr]
    conv_rhs => rw [hv, bit_parts q k _ hr]
    split <;> simp_all

/-- A bit is cleared, and every other one keeps its value. -/
theorem bit_clearBit (v i k : Nat) : bit (clearBit v i) k = if k = i then false else bit v k := by
  obtain ⟨q, r, hr, hv⟩ := exists_bit_parts v i
  by_cases h : bit v i = true
  · have hclear : clearBit v i = 2 ^ (i + 1) * q + (if false then 2 ^ i + r else r) := by
      rw [if_pos h] at hv
      rw [clearBit, if_pos h]
      simp only [Bool.false_eq_true, if_false]
      omega
    rw [hclear, bit_parts q k false hr]
    conv_rhs => rw [hv, bit_parts q k _ hr]
    split <;> simp_all
  · rw [clearBit, if_neg h]
    split
    · subst_vars; simpa using h
    · rfl

/-- Of the bits of a power of two only one is set. -/
theorem bit_two_pow (i k : Nat) : bit (2 ^ i) k = decide (k = i) := by
  rw [bit_eq_testBit, Nat.testBit_two_pow]
  exact decide_eq_decide.mpr eq_comm

end Sys2Proof.Machine
end

section
/-! SUPPORT. The interrupt sources (R33). -/

namespace Sys2Proof.Machine

open Sys2Proof

/-- What raising a source drives: its vector, on an enabled change from 0 to 1 over PCIe. -/
def Dev.raiseOuts (d : Dev) (b : Nat) : List Output :=
  if bit d.host.irqStatus b = false ∧ bit d.host.irqEnable b = true ∧ d.host.spi = false then
    ((irqVector b).map Output.msix).toList else []

/-- Raising a source sets its status bit and may drive its vector, nothing else. -/
theorem Dev.raise_eq (d : Dev) (b : Nat) :
    d.raise b = { d with host := { d.host with irqStatus := setBit d.host.irqStatus b }, outs := d.outs ++ d.raiseOuts b } := by
  unfold Dev.raise Dev.raiseOuts
  by_cases hset : bit d.host.irqStatus b = true
  · simp [hset, setBit]
  · have hclear : bit d.host.irqStatus b = false := by simpa using hset
    by_cases hsend : bit d.host.irqEnable b = true ∧ d.host.spi = false
    · cases hv : irqVector b <;> simp [hclear, hsend, Dev.emit]
    · have hquiet : ¬ (bit d.host.irqEnable b && !d.host.spi) = true := by simpa using hsend
      have hnone : ¬ (bit d.host.irqStatus b = false ∧ bit d.host.irqEnable b = true ∧ d.host.spi = false) := fun h => hsend h.2
      rw [if_neg hset, if_neg hnone, List.append_nil]
      exact if_neg hquiet

theorem Dev.raise_irqStatus (d : Dev) (b : Nat) : (d.raise b).host.irqStatus = setBit d.host.irqStatus b := by rw [Dev.raise_eq]

theorem Dev.raise_outs (d : Dev) (b : Nat) : (d.raise b).outs = d.outs ++ d.raiseOuts b := by rw [Dev.raise_eq]

/-- Raising the sources of a mask, one after the other, leaves a status bit set where it was or its source is raised. -/
theorem Dev.foldl_raise_bit (l : List Nat) (again k : Nat) (d : Dev) :
    bit (l.foldl (fun e b => if bit again b then e.raise b else e) d).host.irqStatus k =
      (bit d.host.irqStatus k || (decide (k ∈ l) && bit again k)) := by
  induction l generalizing d with
  | nil => simp
  | cons b l ih =>
    rw [List.foldl_cons, ih]
    by_cases hb : bit again b = true
    · rw [if_pos hb, Dev.raise_irqStatus, bit_setBit]
      by_cases hk : k = b
      · simp [hk, hb]
      · simp [hk]
    · rw [if_neg hb]
      by_cases hk : k = b
      · simp [hk, hb]
      · simp [hk]

/-- A mask with no source raises nothing. -/
theorem Dev.foldl_raise_zero (l : List Nat) (d : Dev) : l.foldl (fun e b => if bit 0 b then e.raise b else e) d = d := by
  induction l with
  | nil => rfl
  | cons b l ih =>
    have hb : ¬ bit 0 b = true := by simp [bit]
    rw [List.foldl_cons, if_neg hb, ih]

/-- Clearing the bits of a mask, one after the other. -/
theorem foldl_clearBit_bit (l : List Nat) (val k v : Nat) :
    bit (l.foldl (fun st b => if bit val b then clearBit st b else st) v) k = (bit v k && !(decide (k ∈ l) && bit val k)) := by
  induction l generalizing v with
  | nil => simp
  | cons b l ih =>
    rw [List.foldl_cons, ih]
    by_cases hb : bit val b = true
    · rw [if_pos hb, bit_clearBit]
      by_cases hk : k = b
      · simp [hk, hb]
      · simp [hk]
    · rw [if_neg hb]
      by_cases hk : k = b
      · simp [hk, hb]
      · simp [hk]

/-- HIF_IRQ_STATUS once the bits written 1 are cleared. -/
def Dev.irqKept (d : Dev) (val : Nat) : Nat := (List.range 27).foldl (fun st b => if bit val b then clearBit st b else st) d.host.irqStatus

theorem Dev.irqKept_bit (d : Dev) (val : Nat) {b : Nat} (hb : b < 27) : bit (d.irqKept val) b = (bit d.host.irqStatus b && !bit val b) := by
  rw [Dev.irqKept, foldl_clearBit_bit]
  simp [hb]

theorem Dev.irqClear_zero (d : Dev) (val : Nat) : d.irqClear val 0 = { d with host := { d.host with irqStatus := d.irqKept val } } :=
  Dev.foldl_raise_zero _ _

theorem Dev.irqClear_again (d : Dev) (val : Nat) {b : Nat} (hb : b < 27) : bit (d.irqClear val (2 ^ b)).host.irqStatus b = true := by
  unfold Dev.irqClear
  rw [Dev.foldl_raise_bit]
  simp [hb, bit_two_pow]

end Sys2Proof.Machine
end

section
/-! The statements about interrupt sources and the registers of the event ring. -/

namespace Sys2Proof.Machine

open Sys2Proof

/-- Settles O9, from everything that raising a source changes. -/
theorem interruptRaisedOnlyOnRisingEnabledBit : Obligations.InterruptRaisedOnlyOnRisingEnabledBit := by
  intro d b
  refine ⟨?_, fun k hk => ?_, d.raise_outs b, ?_⟩
  · rw [Dev.raise_irqStatus, bit_setBit, if_pos rfl]
  · rw [Dev.raise_irqStatus, bit_setBit, if_neg hk]
  · rw [Dev.raise_eq]

/-- A register access of the host has its effect while registers are served. -/
theorem runs_onRegs {c : Instr} {s : State} (f : Dev → Dev) (hexec : exec c s = onDev (onRegs f) s)
    (h : s.dev.regsServed s.dev.host.spi = true) : Runs c s (f s.dev) := by
  rw [Runs, hexec, onDev, onRegs, if_pos h]

/-- HIF_EVT_CTRL, where nothing kept has to be delivered. -/
theorem Dev.evtCtrl_quiet {d : Dev} {val : Nat} (h : bit val 0 = false ∨ d.host.evtEnable = true) :
    d.evtCtrl val = { d with host := { d.host with
      evtEnable := bit val 0, evtOverflow := d.host.evtOverflow && !bit val 1, evtHoldoff := bits val 16 16 } } := by
  have hquiet : ¬ (bit val 0 && !d.host.evtEnable) = true := by
    rcases h with h | h <;> simp [h]
  exact if_neg hquiet

/-- HIF_EVT_CTRL, where ENABLE is set. -/
theorem Dev.evtCtrl_enables {d : Dev} {val : Nat} (h : bit val 0 = true) (hoff : d.host.evtEnable = false) :
    d.evtCtrl val = Dev.deliverKept { d with host := { d.host with
      evtEnable := true, evtOverflow := d.host.evtOverflow && !bit val 1, evtHoldoff := bits val 16 16 } } := by
  simp only [Dev.evtCtrl, h, hoff, Bool.not_false, Bool.and_self, if_true]

/-- Settles O8, register by register. -/
theorem interruptAndEventRegistersAct : Obligations.InterruptAndEventRegistersAct := by
  intro s
  refine ⟨fun hserved => ⟨fun val => ?_, fun val b hb => ?_, fun val => ?_, fun val hquiet => ?_,
    fun val hon hoff => ?_, fun val hover hon => ?_⟩, fun t ht => ⟨fun hpast => ?_, fun hwait => ?_⟩⟩
  · have hrun : Runs (.hifIrqStatusClear val 0) s (s.dev.irqClear val 0) := runs_onRegs (fun d => d.irqClear val 0) rfl hserved
    rw [Dev.irqClear_zero] at hrun
    exact ⟨_, hrun, rfl, fun b hb => s.dev.irqKept_bit val hb⟩
  · exact ⟨_, runs_onRegs (fun d => d.irqClear val (2 ^ b)) rfl hserved, s.dev.irqClear_again val hb⟩
  · exact runs_onRegs (fun d => d.evtConsume val) rfl hserved
  · have hrun : Runs (.evtRingEnable val) s (s.dev.evtCtrl val) := runs_onRegs (fun d => d.evtCtrl val) rfl hserved
    rwa [Dev.evtCtrl_quiet hquiet] at hrun
  · have hrun : Runs (.evtRingEnable val) s (s.dev.evtCtrl val) := runs_onRegs (fun d => d.evtCtrl val) rfl hserved
    rwa [Dev.evtCtrl_enables hon hoff] at hrun
  · have hrun : Runs (.evtOverflowClear val) s (s.dev.evtCtrl val) := runs_onRegs (fun d => d.evtCtrl val) rfl hserved
    rw [Dev.evtCtrl_quiet (.inr hon)] at hrun
    exact ⟨_, hrun, by simp [hover]⟩
  · have hrun : Runs .eventHoldoffExpiry s (evtHoldoffEnd s.dev) := rfl
    rwa [evtHoldoffEnd, ht, if_pos (by simpa [Dev.overO, Dev.over] using hpast)] at hrun
  · have hrun : Runs .eventHoldoffExpiry s (evtHoldoffEnd s.dev) := rfl
    rwa [evtHoldoffEnd, ht, if_neg (by simpa [Dev.overO, Dev.over] using hwait)] at hrun

end Sys2Proof.Machine
end

section
/-! SUPPORT. Tables: entries put one after the other, and entries kept by a test of their index. -/

namespace Sys2Proof.Machine

open Sys2Proof

variable {α : Type}

theorem tabSorted_filter {t : Tab α} (p : Nat × α → Bool) (h : tabSorted t = true) : tabSorted (t.filter p) = true := by
  rw [tabSorted_iff] at h ⊢
  exact h.filter p

theorem tabSorted_foldl_put (l : Tab α) {t : Tab α} (h : tabSorted t = true) :
    tabSorted (l.foldl (fun t e => tabPut t e.1 e.2) t) = true := by
  induction l generalizing t with
  | nil => exact h
  | cons e l ih => exact ih (tabSorted_put t e.1 e.2 h)

/-- An index below every index of a table has no entry. -/
theorem tabFind_of_lt {t : Tab α} {i : Nat} (h : ∀ e ∈ t, i < e.1) : tabFind t i = none := by
  induction t with
  | nil => rfl
  | cons e t ih =>
    have he := h e List.mem_cons_self
    rw [tabFind, if_neg (by omega)]
    exact ih fun x hx => h x (List.mem_cons_of_mem _ hx)

/-- After the entries of a sorted table have been put into another, that table's entries come first. -/
theorem tabFind_foldl_put {l : Tab α} (hl : tabSorted l = true) (t : Tab α) (i : Nat) :
    tabFind (l.foldl (fun t e => tabPut t e.1 e.2) t) i = (tabFind l i).or (tabFind t i) := by
  rw [tabSorted_iff] at hl
  induction l generalizing t with
  | nil => rfl
  | cons e l ih =>
    obtain ⟨hlt, hl⟩ := List.pairwise_cons.mp hl
    rw [List.foldl_cons, ih hl]
    by_cases hi : e.1 = i
    · subst hi
      rw [tabFind_of_lt hlt, tabFind_put_same, tabFind, if_pos rfl]
      rfl
    · rw [tabFind_put_other t e.1 i e.2 (Ne.symm hi), tabFind, if_neg hi]

/-- The class of a counter. -/
theorem counterKey_class {cls i : Nat} (hi : i < 32768) : counterKey cls i / 32768 = cls := by
  unfold counterKey
  omega

end Sys2Proof.Machine
end

section
/-! The statement about the snapshot window. -/

namespace Sys2Proof.Machine

open Sys2Proof

/-- Settles O17: the selected counters are put over a window from which those classes have been taken out. -/
theorem snapshotHoldsSelectedCounters : Obligations.SnapshotHoldsSelectedCounters := by
  intro d mask hcounters hsnapshot
  refine ⟨tabSorted_foldl_put _ (tabSorted_filter _ hsnapshot), fun cls i hi => ?_⟩
  have hclass := counterKey_class (cls := cls) hi
  unfold Dev.counter tabGet Dev.latchCounters
  rw [tabFind_foldl_put (tabSorted_filter _ hcounters), tabFind_filter_index (fun k => bit mask (k / 32768)),
    tabFind_filter_index (fun k => !bit mask (k / 32768)), hclass]
  cases bit mask cls <;> simp

end Sys2Proof.Machine
end

section
/-! SUPPORT. Refusals of immediate mailbox commands. -/

namespace Sys2Proof.Machine

open Sys2Proof

/-- A command whose body answers a failure without effect for bad data refuses. -/
theorem refuses_of_body {mk : Req → Instr} {op : Nat} {most : Dev → Bytes → Nat} {body : Dev → Nat → Bytes → Ans}
    {bad : Dev → Req → Bytes → Prop} {status : Nat} {detail : Dev → Req → Bytes → Nat} (hst : status ≠ stOk)
    (hexec : ∀ rq s, exec (mk rq) s = onDev (Dev.serve op rq most body) s)
    (hbody : ∀ d rq bs, bad d rq bs → body d rq.ch bs = ansErrD d status (detail d rq bs)) :
    Refuses mk op most bad status detail := by
  intro s rq t d r hadm hbad
  rw [Runs, hexec, onDev, Dev.serve_refused hadm (hbody d rq r.data hbad) hst]

/-- Data of another length than the stated one. -/
theorem withLayout_badLength {d : Dev} {len : Nat} {fs : List Fld} {bs : Bytes} (k : Ans) (hlen : bs.length ≠ len) :
    withLayout d len fs bs k = ansErr d stBadLength := if_pos hlen

/-- Data of the stated length that the rest of the command refuses as BAD_PARAM are so refused, their ranges right or not. -/
theorem withLayout_badParam {d : Dev} {len : Nat} {fs : List Fld} {bs : Bytes} {k : Ans} (hlen : bs.length = len)
    (hk : k = ansErr d stBadParam) : withLayout d len fs bs k = ansErr d stBadParam := by
  rw [withLayout, if_neg (not_not_intro hlen), hk, ite_self]

/-! ## The transaction a command names (R443) -/

/-- The open transaction is another one, or none is open. -/
theorem Dev.namedTxn_of_other {d : Dev} {ch id : Nat} (commit : Bool) (h : ∀ x, d.txn.txn = some x → x.id ≠ id) :
    d.namedTxn ch id commit = .inl (if commit ∧ id ∈ d.txn.aborted then stTxnAborted else stNotFound) := by
  cases hx : d.txn.txn with
  | none => simp [Dev.namedTxn, hx, apply_ite]
  | some x => simp [Dev.namedTxn, hx, h x hx, apply_ite]

/-- The open transaction is named: from its owner, or from another channel. -/
theorem Dev.namedTxn_of_open {d : Dev} {ch id : Nat} {x : OpenTxn} (commit : Bool) (hx : d.txn.txn = some x) (hid : x.id = id) :
    d.namedTxn ch id commit = if x.owner = ch then .inr x else .inl stNotPermitted := by
  simp [Dev.namedTxn, hx, hid]

/-- TXN_COMMIT's work, before what follows a commit. -/
def txnCommitBody (d : Dev) (ch : Nat) (bs : Bytes) : Ans :=
  match d.namedTxn ch (le bs 0 4) true with
  | .inl st => ansErr d st
  | .inr t =>
    if bs.length ≠ 8 then ansErr d stBadLength
    else if 2 ≤ le bs 4 4 then ansErr d stBadParam
    else commitBody d ch (le bs 4 4 == 1) t

theorem runs_txnCommit (rq : Req) (s : State) :
    Runs (.txnCommit rq) s (s.dev.serve 0x0602 rq (rspMax 4080) txnCommitBody).finishCommit := rfl

/-- Without a COMMIT being applied none is finished. -/
theorem Dev.finishCommit_of_none {d : Dev} (h : d.txn.committing = none) : d.finishCommit = d := by
  simp only [Dev.finishCommit, h]

end Sys2Proof.Machine
end

section
/-! SUPPORT. Answering a request leaves the transaction unit alone. -/

namespace Sys2Proof.Machine

open Sys2Proof

@[simp] theorem Dev.answer_txn (d : Dev) (t : Taken) (st det : Nat) (pl : Bytes) : (d.answer t st det pl).txn = d.txn := rfl

theorem Dev.hopperWrite_txn {d d' : Dev} {h : Nat} {bs : Bytes} (hw : d.hopperWrite h bs = some d') : d'.txn = d.txn := by
  unfold Dev.hopperWrite at hw
  split at hw
  · obtain rfl := Option.some.inj hw
    rfl
  · cases hw

@[simp] theorem Dev.bulkWriteAll_txn (d : Dev) (l : List BulkDesc) (bs : Bytes) : (bulkWriteAll d l bs).txn = d.txn := by
  induction l generalizing d bs with
  | nil => rfl
  | cons b l ih =>
    rw [bulkWriteAll, ih]
    split
    · rfl
    · split
      · cases hw : d.hopperWrite b.addr (bs.take b.bytes) with
        | none => rfl
        | some d' => exact Dev.hopperWrite_txn hw
      · rfl

@[simp] theorem Dev.answerData_txn (d : Dev) (t : Taken) (st det : Nat) (pl : Bytes) (r : ReqData) :
    (d.answerData t st det pl r).txn = d.txn := by
  unfold Dev.answerData
  split
  · split
    · rfl
    · simp
  · rfl

theorem Dev.drain_txn (ch n : Nat) (d : Dev) : (Dev.drain ch n d).txn = d.txn := by
  induction n generalizing d with
  | zero => rfl
  | succ n ih =>
    unfold Dev.drain
    dsimp only
    split
    · split
      · exact ih _
      · rfl
    · rfl

@[simp] theorem Dev.drainAll_txn (d : Dev) (ch : Nat) : (d.drainAll ch).txn = d.txn := Dev.drain_txn ch _ d

@[simp] theorem Dev.refuse_txn (d : Dev) (t : Taken) (ch st det : Nat) : (d.refuse t ch st det).txn = d.txn := by simp [Dev.refuse]

@[simp] theorem Dev.finish_txn (d : Dev) (t : Taken) (r : ReqData) (ch det : Nat) (pl : Bytes) : (d.finish t r ch det pl).txn = d.txn := by
  simp [Dev.finish]

end Sys2Proof.Machine
end

section
/-! The statement about refused system and transaction commands. -/

namespace Sys2Proof.Machine

open Sys2Proof

/-- TXN_COMMIT is refused where its body answers a failure without effect, no COMMIT being applied. -/
theorem txnCommit_refuses {bad : Dev → Req → Bytes → Prop} {status : Nat} (hst : status ≠ stOk)
    (hidle : ∀ d rq bs, bad d rq bs → d.txn.committing = none)
    (hbody : ∀ d rq bs, bad d rq bs → txnCommitBody d rq.ch bs = ansErr d status) :
    Refuses .txnCommit 0x0602 (rspMax 4080) bad status (fun _ _ _ => 0) := by
  intro s rq t d r hadm hbad
  have hrun := runs_txnCommit rq s
  rwa [Dev.serve_refused hadm (hbody d rq r.data hbad) hst, Dev.finishCommit_of_none (by simpa using hidle d rq r.data hbad)] at hrun

/-- Settles O16, command by command. -/
theorem systemCommandsRefuse : Obligations.SystemCommandsRefuse := by
  refine ⟨?_, ?_, ?_, ?_, ?_, ?_, ?_, ?_, ?_, ?_, ?_, ?_⟩
  · refine refuses_of_body (by decide) (fun _ _ => rfl) ?_
    rintro d rq bs ⟨hbusy, hlen, hok⟩
    exact (withLayout_ok _ hlen hok).trans (if_pos hbusy)
  · refine refuses_of_body (by decide) (fun _ _ => rfl) ?_
    rintro d rq bs ⟨hlen, hrange⟩
    exact withLayout_badParam hlen (if_pos hrange)
  · refine refuses_of_body (by decide) (fun _ _ => rfl) ?_
    rintro d rq bs ⟨hlen, hclass⟩
    exact withLayout_badParam hlen (if_pos hclass)
  · refine refuses_of_body (by decide) (fun _ _ => rfl) ?_
    rintro d rq bs ⟨hlen, hok, hold⟩
    exact (withLayout_ok _ hlen hok).trans (if_pos hold)
  · refine refuses_of_body (by decide) (fun _ _ => rfl) ?_
    rintro d rq bs ⟨hheld, hlen, hok⟩
    obtain ⟨o, ho⟩ := Option.isSome_iff_exists.mp hheld
    rw [withLayout_ok _ hlen hok, ho]
    rfl
  · refine refuses_of_body (by decide) (fun _ _ => rfl) ?_
    rintro d rq bs ⟨x, hx, hid, hown⟩
    rw [Dev.namedTxn_of_open false hx hid, if_neg hown]
    rfl
  · refine refuses_of_body (by decide) (fun _ _ => rfl) ?_
    intro d rq bs hother
    rw [Dev.namedTxn_of_other false hother]
    rfl
  · refine txnCommit_refuses (by decide) (fun _ _ _ h => h.1) ?_
    rintro d rq bs ⟨-, x, hx, hid, hown⟩
    rw [txnCommitBody, Dev.namedTxn_of_open true hx hid, if_neg hown]
  · refine txnCommit_refuses (by decide) (fun _ _ _ h => h.1) ?_
    rintro d rq bs ⟨-, hother, hab⟩
    rw [txnCommitBody, Dev.namedTxn_of_other true hother, if_pos ⟨rfl, hab⟩]
  · refine txnCommit_refuses (by decide) (fun _ _ _ h => h.1) ?_
    rintro d rq bs ⟨-, ⟨x, hx, hid, hown⟩, hlen⟩
    rw [txnCommitBody, Dev.namedTxn_of_open true hx hid, if_pos hown]
    exact if_pos hlen
  · refine refuses_of_body (by decide) (fun _ _ => rfl) ?_
    intro d rq bs hne
    exact withLayout_badLength _ fun h => hne (List.length_eq_zero_iff.mp h)
  · refine refuses_of_body (by decide) (fun _ _ => rfl) ?_
    intro d rq bs hlen
    exact withLayout_badLength _ hlen

end Sys2Proof.Machine
end

section
/-! SUPPORT. What TXN_COMMIT comes to (R55). -/

namespace Sys2Proof.Machine

open Sys2Proof

/-- An admitted command whose work answers at once is answered so, whatever its status. -/
theorem Dev.serve_answered {d0 d d' : Dev} {op : Nat} {rq : Req} {most : Dev → Bytes → Nat} {t : Taken} {r : ReqData}
    {body : Dev → Nat → Bytes → Ans} {st det : Nat} {pl : Bytes}
    (h : d0.admitted op rq most = some (t, d, r)) (hb : body d rq.ch r.data = .done st det pl d') :
    d0.serve op rq most body = (d'.answerData t st det pl r).drainAll rq.ch := by
  obtain ⟨hs, he, hr, hroom, hshort, hheld⟩ := Dev.admitted_inv h
  simp only [Dev.serve, hs, he, hr, hb, hroom, hshort, hheld, ite_self, Bool.false_and, Bool.false_eq_true, if_false]

/-- The evaluation of a transaction stores an admission report and leaves the transaction unit alone. -/
theorem Dev.evaluateTxn_txn (d : Dev) (b : Batch) : (d.evaluateTxn b).dev.txn = d.txn := by
  have hjudge : ∀ d', (d.judgeAdmission d').2.txn = d.txn := by
    intro d'
    unfold Dev.judgeAdmission
    dsimp only
    split <;> rfl
  unfold Dev.evaluateTxn
  dsimp only
  split
  · rfl
  · split <;> exact hjudge _

section
variable {s : State} {rq : Req} {t : Taken} {d : Dev} {r : ReqData} {x : OpenTxn}
  (hadm : s.dev.admitted 0x0602 rq (rspMax 4080) = some (t, d, r)) (hlen : r.data.length = 8) (hx : d.txn.txn = some x)
  (hid : x.id = le r.data 0 4) (hown : x.owner = rq.ch)
include hlen hx hid hown

/-- From the owner, and with a MODE that is defined, TXN_COMMIT evaluates the open transaction. -/
theorem txnCommitBody_of_owner {dry : Bool} (hmode : le r.data 4 4 = b2n dry) :
    txnCommitBody d rq.ch r.data = commitBody d rq.ch dry x := by
  have hdef : ¬ 2 ≤ le r.data 4 4 := by rw [hmode]; cases dry <;> decide
  have hdry : (le r.data 4 4 == 1) = dry := by rw [hmode]; cases dry <;> rfl
  rw [txnCommitBody, Dev.namedTxn_of_open true hx hid, if_pos hown]
  simp only [hlen, hdef, hdry, ne_eq, not_true_eq_false, if_false]

include hadm

theorem runs_txnCommit_refused (hidle : d.txn.committing = none) {why : Nat × Nat × Bytes}
    (hwhy : (d.evaluateTxn (batchOf x.staged)).refused = some why) (hmode : le r.data 4 4 = 0) :
    Runs (.txnCommit rq) s
      ((((d.evaluateTxn (batchOf x.staged)).dev.endTxn 4).answerData t why.1 why.2.1 why.2.2 r).drainAll rq.ch) := by
  have hbody : txnCommitBody d rq.ch r.data = .done why.1 why.2.1 why.2.2 ((d.evaluateTxn (batchOf x.staged)).dev.endTxn 4) := by
    rw [txnCommitBody_of_owner hlen hx hid hown (dry := false) hmode]
    simp only [commitBody, hwhy, Bool.false_eq_true, if_false]
  have hdone : ((d.evaluateTxn (batchOf x.staged)).dev.endTxn 4).txn.committing = none := by
    rw [(Dev.posts_endTxn _ 4).txn, TxnUnit.ended_of_open (t := x) (by rw [Dev.evaluateTxn_txn, hx])]
    simpa only [Dev.evaluateTxn_txn] using hidle
  have hrun := runs_txnCommit rq s
  rwa [Dev.serve_answered hadm hbody, Dev.finishCommit_of_none (by simpa using hdone)] at hrun

theorem runs_txnCommit_applied (hpass : (d.evaluateTxn (batchOf x.staged)).refused = none) (hmode : le r.data 4 4 = 0) :
    Runs (.txnCommit rq) s
      (Dev.finishCommit ((Dev.applyTxn { (d.evaluateTxn (batchOf x.staged)).dev with
        txn := { (d.evaluateTxn (batchOf x.staged)).dev.txn with txn := none } } x.id rq.ch .txn x.staged).modChan rq.ch
          (fun c => { c with running := some t }))) := by
  have hbody : txnCommitBody d rq.ch r.data = .wait (Dev.applyTxn { (d.evaluateTxn (batchOf x.staged)).dev with
      txn := { (d.evaluateTxn (batchOf x.staged)).dev.txn with txn := none } } x.id rq.ch .txn x.staged) := by
    rw [txnCommitBody_of_owner hlen hx hid hown (dry := false) hmode]
    simp only [commitBody, hpass, Bool.false_eq_true, if_false]
  have hrun := runs_txnCommit rq s
  rwa [Dev.serve_wait hadm hbody] at hrun

theorem runs_txnCommit_dry (hidle : d.txn.committing = none) (hpass : (d.evaluateTxn (batchOf x.staged)).refused = none)
    (hmode : le r.data 4 4 = 1) :
    Runs (.txnCommit rq) s ((d.evaluateTxn (batchOf x.staged)).dev.finish t r rq.ch 0
      (leb 4 d.txn.generation ++ leb 4 x.staged.length ++ zeros 8)) := by
  have hbody : txnCommitBody d rq.ch r.data =
      ansOk (d.evaluateTxn (batchOf x.staged)).dev (leb 4 d.txn.generation ++ leb 4 x.staged.length ++ zeros 8) := by
    rw [txnCommitBody_of_owner hlen hx hid hown (dry := true) hmode]
    simp only [commitBody, hpass, if_true]
  have hrun := runs_txnCommit rq s
  rwa [Dev.serve_done hadm hbody, Dev.finishCommit_of_none (by simpa [Dev.evaluateTxn_txn] using hidle)] at hrun

end

/-! ## TXN_STATUS, the idle timeout and the bank flip -/

theorem Dev.txnStatusBytes_length (d : Dev) : d.txnStatusBytes.length = 16 := by
  unfold Dev.txnStatusBytes
  split <;> simp

/-- The idle timeout ends the open transaction only past its deadline and with none of its commands taken. -/
theorem txnIdle_of_open {d : Dev} {x : OpenTxn} (hx : d.txn.txn = some x) :
    txnIdle d = if x.deadline < d.uptime ∧ d.txnRequestTaken x.owner = false then d.endTxn 3 else d := by
  simp [txnIdle, hx, Dev.over]

/-- The rule banks flip once nothing of the old generation remains, or 2 us after L0 was closed. -/
theorem genFlip_of_rules {d : Dev} {c : Commit} {since : Nat} (hc : d.txn.committing = some c) (hr : c.rules = some since) :
    genFlip d = if d.oldGenLeft = true ∧ d.uptime < since + 2000 then d
      else Dev.finishCommit { d.flipBanks c.staged d.txn.generation c.pause with
        txn := { (d.flipBanks c.staged d.txn.generation c.pause).txn with committing := some { c with rules := none } } } := by
  simp [genFlip, hc, hr]

end Sys2Proof.Machine
end

section
/-! The statement about the transaction commands. -/

namespace Sys2Proof.Machine

open Sys2Proof

/-- The transaction that TXN_BEGIN opens (R53, R56). -/
def Dev.begunTxn (d : Dev) (ch : Nat) (bs : Bytes) : OpenTxn :=
  let idle := (if le bs 0 2 == 0 then 60 else le bs 0 2) * 1000
  { id := nextTxnId d.txn.lastId, owner := ch, idleMs := idle, deadline := d.uptime + ms idle, staged := [] }

theorem txnBegin_completes : Completes .txnBegin 0x0601 (rspMax 4)
    (fun d _ bs => d.txnHeldBy = none ∧ bs.length = 4 ∧ layoutOk [fr 0 2 0 3600] bs = true)
    (fun d rq bs d' pl => ∃ x : OpenTxn, x.owner = rq.ch ∧ x.staged = [] ∧
      x.id = (if 2 ^ 32 - 1 ≤ d.txn.lastId then 1 else d.txn.lastId + 1) ∧
      x.idleMs = 1000 * (if le bs 0 2 = 0 then 60 else le bs 0 2) ∧ x.deadline = d.uptime + 1000000 * x.idleMs ∧
      pl = leb 4 x.id ∧ d' = { d with txn := { d.txn with lastId := x.id, txn := some x } }) := by
  refine completes_of_body (fun _ _ => rfl) ?_
  rintro d rq bs ⟨hheld, hlen, hok⟩
  refine ⟨_, _, (withLayout_ok _ hlen hok).trans (by rw [hheld]; rfl), d.begunTxn rq.ch bs, rfl, rfl, rfl, ?_, ?_, rfl, rfl⟩
  · simp [Dev.begunTxn, Nat.mul_comm]
  · simp [Dev.begunTxn, ms, Nat.mul_comm]

theorem txnAbort_completes : Completes .txnAbort 0x0603 (rspMax 0)
    (fun d rq bs => bs.length = 4 ∧ ∃ x, d.txn.txn = some x ∧ x.id = le bs 0 4 ∧ x.owner = rq.ch)
    (fun d _ _ d' pl => pl = [] ∧ d' = d.endTxn 2) := by
  refine completes_of_body (fun _ _ => rfl) ?_
  rintro d rq bs ⟨hlen, x, hx, hid, hown⟩
  refine ⟨_, _, ?_, rfl, rfl⟩
  rw [Dev.namedTxn_of_open false hx hid, if_pos hown]
  exact if_neg (not_not_intro hlen)

/-- Settles O18, command by command. -/
theorem transactionCommandsComplete : Obligations.TransactionCommandsComplete := by
  refine ⟨txnBegin_completes, fun s rq t d r x hadm hlen hidle hx hid hown => ⟨fun why hwhy hmode => ?_, fun hpass hmode => ?_,
    fun hpass hmode => ?_⟩, txnAbort_completes, completes_of_body (fun _ _ => rfl) ?_, fun s x hx => ⟨fun hpast hfree => ?_, fun hstay => ?_⟩,
    fun s c since hc hr => ⟨fun hflip => ?_, fun hold hearly => ?_⟩⟩
  · exact runs_txnCommit_refused hadm hlen hx hid hown hidle hwhy hmode
  · exact runs_txnCommit_applied hadm hlen hx hid hown hpass hmode
  · exact runs_txnCommit_dry hadm hlen hx hid hown hidle hpass hmode
  · rintro d rq _ rfl
    exact ⟨d, d.txnStatusBytes, withLayout_ok _ rfl rfl, rfl, rfl, d.txnStatusBytes_length⟩
  · have hrun : Runs .txnIdleTimeout s (txnIdle s.dev) := rfl
    rwa [txnIdle_of_open hx, if_pos ⟨hpast, hfree⟩] at hrun
  · have hnot : ¬ (x.deadline < s.dev.uptime ∧ s.dev.txnRequestTaken x.owner = false) := by
      rintro ⟨hpast, hfree⟩
      exact hstay.elim hpast.not_ge (by simp [hfree])
    have hrun : Runs .txnIdleTimeout s (txnIdle s.dev) := rfl
    rwa [txnIdle_of_open hx, if_neg hnot] at hrun
  · have hnot : ¬ (s.dev.oldGenLeft = true ∧ s.dev.uptime < since + 2000) := by
      rintro ⟨hold, hearly⟩
      exact hflip.elim (by simp [hold]) hearly.not_ge
    have hrun : Runs .genFlip s (genFlip s.dev) := rfl
    rw [genFlip_of_rules hc hr, if_neg hnot] at hrun
    exact ⟨_, rfl, hrun⟩
  · have hrun : Runs .genFlip s (genFlip s.dev) := rfl
    rwa [genFlip_of_rules hc hr, if_pos ⟨hold, hearly⟩] at hrun

end Sys2Proof.Machine
end

section
/-! SUPPORT. The posting of a response (R40, R41, R48). -/

namespace Sys2Proof.Machine

open Sys2Proof

/-- A response that names the open transaction starts its idle timeout again, nothing else. -/
theorem Dev.txnAnswered_eq (d : Dev) (ch : Nat) (r : Rsp) : ∃ x, d.txnAnswered ch r = { d with txn := x } := by
  unfold Dev.txnAnswered
  dsimp only
  split
  · exact ⟨d.txn, rfl⟩
  · split
    · exact ⟨_, rfl⟩
    · exact ⟨d.txn, rfl⟩

/-- The slot a response is written to, over PCIe. -/
def Dev.slotOuts (d : Dev) (ch : Nat) (r : Rsp) : List Output :=
  if d.host.spi then [] else [.hostMem ((d.chan ch).rspBase + (d.chan ch).rspProd % 16 * 4352) (rspSlot r)]

/-- A response on the host transport: its slot is driven, MBX_RSP_PROD moves behind it, then its source is raised. -/
theorem Dev.postHost_eq (d : Dev) (ch : Nat) (r : Rsp) : d.postHost ch r =
    ({ d with outs := d.outs ++ d.slotOuts ch r }.modChan ch
      (fun c => { c with rspProd := (c.rspProd + 1) % 32, posted := c.posted ++ [r] })).raise (1 + ch) := by
  unfold Dev.postHost Dev.slotOuts
  cases hspi : d.host.spi
  · rfl
  · simp only [if_true, List.append_nil]

theorem Dev.raise_chan (d : Dev) (b k : Nat) : (d.raise b).chan k = d.chan k := (d.posts_raise b).chan k

theorem Dev.postHost_chan (d : Dev) (ch : Nat) (r : Rsp) : (d.postHost ch r).chan ch =
    { d.chan ch with rspProd := ((d.chan ch).rspProd + 1) % 32, posted := (d.chan ch).posted ++ [r] } := by
  rw [Dev.postHost_eq, Dev.raise_chan, Dev.modChan_chan]
  rfl

theorem Dev.postHost_irq (d : Dev) (ch : Nat) (r : Rsp) : bit (d.postHost ch r).host.irqStatus (1 + ch) = true := by
  rw [Dev.postHost_eq, Dev.raise_irqStatus, bit_setBit, if_pos rfl]

theorem Dev.postHost_outs (d : Dev) (ch : Nat) (r : Rsp) : ∃ more, (d.postHost ch r).outs = d.outs ++ d.slotOuts ch r ++ more := by
  rw [Dev.postHost_eq, Dev.raise_outs]
  exact ⟨_, rfl⟩

/-- The block once the oldest completed response of a channel has left the completed ones. -/
def Dev.uncompleted (d : Dev) (ch : Nat) (r : Rsp) (rest : List Rsp) : Dev :=
  (d.modChan ch (fun c => { c with completed := rest })).txnAnswered ch r

theorem Dev.uncompleted_eq (d : Dev) (ch : Nat) (r : Rsp) (rest : List Rsp) : ∃ x,
    d.uncompleted ch r rest = { d.modChan ch (fun c => { c with completed := rest }) with txn := x } := Dev.txnAnswered_eq _ _ _

theorem Dev.uncompleted_chan (d : Dev) (ch : Nat) (r : Rsp) (rest : List Rsp) :
    (d.uncompleted ch r rest).chan ch = { d.chan ch with completed := rest } := by
  obtain ⟨x, hx⟩ := d.uncompleted_eq ch r rest
  rw [hx]
  exact d.modChan_chan ch (fun c => { c with completed := rest })

/-- A response that waits for nothing is posted where its request came from. -/
theorem responsePosted_of_head {d : Dev} {ch : Nat} {r : Rsp} {rest : List Rsp} (hc : (d.chan ch).completed = r :: rest)
    (hh : d.held r = false) : responsePosted ch d = match r.origin with
      | none => (d.uncompleted ch r rest).postHost ch r
      | some o => (if ch == 0 then (d.uncompleted ch r rest).sendKiln o r else (d.uncompleted ch r rest).sendInBand ch o r).pullAll ch := by
  simp only [responsePosted, hc, hh, Dev.uncompleted, Bool.false_eq_true, if_false] <;> rfl

theorem responsePosted_of_nil {d : Dev} {ch : Nat} (hc : (d.chan ch).completed = []) : responsePosted ch d = d := by
  simp only [responsePosted, hc]

end Sys2Proof.Machine
end

section
/-! The statement about the posting of responses. -/

namespace Sys2Proof.Machine

open Sys2Proof

/-- Settles O13, by where the request came from. -/
theorem responsesArePostedInOrder : Obligations.ResponsesArePostedInOrder := by
  intro s ch
  have hrun : Runs (.mailboxResponsePosted ch) s (responsePosted ch s.dev) := rfl
  refine ⟨fun hnil => ?_, fun r rest hc hh ho => ?_, fun r rest o hc hh ho => ?_⟩
  · rwa [responsePosted_of_nil hnil] at hrun
  · rw [responsePosted_of_head hc hh, ho] at hrun
    obtain ⟨x, hx⟩ := s.dev.uncompleted_eq ch r rest
    have hchan := s.dev.uncompleted_chan ch r rest
    obtain ⟨more, hmore⟩ := (s.dev.uncompleted ch r rest).postHost_outs ch r
    refine ⟨_, more, hrun, ?_, ?_, ?_, Dev.postHost_irq _ ch r, ?_⟩
    · rw [Dev.postHost_chan, hchan]
    · rw [Dev.postHost_chan, hchan]
    · rw [Dev.postHost_chan, hchan]
    · rw [hmore, Dev.slotOuts, hchan, hx]
      rfl
  · rw [responsePosted_of_head hc hh, ho] at hrun
    simpa only [beq_iff_eq, Dev.uncompleted] using hrun

end Sys2Proof.Machine
end

section
/-! SUPPORT. The registers of a channel that have rows of their own (R40, R42, R43), and a rebinding (R60). -/

namespace Sys2Proof.Machine

open Sys2Proof

/-- A register access of an existing channel has its effect while registers are served. -/
theorem runs_onChan {c : Instr} {s : State} {ch : Nat} (f : Dev → Dev) (hexec : exec c s = onDev (onChan ch f) s) (hch : ch < 8)
    (h : s.dev.regsServed s.dev.host.spi = true) : Runs c s (f s.dev) := by
  rw [Runs, hexec, onDev, onChan, if_pos ⟨hch, h⟩]

theorem doorbell_served {ch : Nat} (prod : Nat) (reqs : List HostReq) {d : Dev} (hch : ch < 8)
    (h : d.regsServed d.host.spi = true) : doorbell ch prod reqs d =
      (((d.modChan ch (fun c => { c with
        reqProd := prod % 32
        waiting := c.waiting ++ reqs.take (min 16 ((prod % 32 + 32 - (d.chan ch).reqProd) % 32)) })).pullAll ch).drainAll ch) := by
  simp only [doorbell, Nat.not_le.mpr hch, h, Bool.not_true, Bool.false_eq_true, or_self, if_false]

/-- A committed binding is put in force once nothing of the old one is unanswered. -/
theorem channelRebind_due {d : Dev} {ch : Nat} {bs : Bytes} (hr : (d.chan ch).rebind = some bs) (hcommit : d.txn.committing = none)
    (hpost : d.unpostedCommit = none) (ht : (d.chan ch).taken = []) (hrun : (d.chan ch).running = none)
    (hcomp : (d.chan ch).completed = []) : channelRebind ch d =
      (d.modChan ch (fun c => { c with
        rebind := none, inband := byteAt bs 1 == 1, keySlot := byteAt bs 2, tc := byteAt bs 3, vlan := le bs 4 2
        peerMac := le bs 6 6, portMask := le bs 0x0C 12 })).resetChannel ch 3 := by
  simp only [channelRebind, hr, hcommit, hpost, ht, hrun, hcomp, Option.isSome_none, List.isEmpty_nil, Bool.not_true, Bool.or_self,
    Bool.false_eq_true, if_false]

/-- Until then nothing changes. -/
theorem channelRebind_waits {d : Dev} {ch : Nat} (h : (d.chan ch).rebind = none ∨ d.txn.committing.isSome ∨ (d.chan ch).taken ≠ [] ∨
    (d.chan ch).running.isSome ∨ (d.chan ch).completed ≠ []) : channelRebind ch d = d := by
  cases hr : (d.chan ch).rebind with
  | none => simp only [channelRebind, hr]
  | some bs =>
    have hbusy : (d.txn.committing.isSome || d.unpostedCommit.isSome || !(d.chan ch).taken.isEmpty || (d.chan ch).running.isSome ||
        !(d.chan ch).completed.isEmpty) = true := by
      rcases h with h | h | h | h | h
      · simp [hr] at h
      all_goals simp [h]
    simp only [channelRebind, hr, hbusy, if_true]

end Sys2Proof.Machine
end

section
/-! The statement about the registers of a mailbox channel. -/

namespace Sys2Proof.Machine

open Sys2Proof

/-- Settles O5, register by register. -/
theorem mailboxChannelRegistersAct : Obligations.MailboxChannelRegistersAct := by
  intro s ch
  refine ⟨fun hch hserved => ⟨fun prod reqs => ?_, fun val => ?_, fun val => ?_, ?_, fun val hval => ?_⟩,
    fun bs hr hcommit hpost ht hrunning hcomp => ?_, fun hwait => ?_⟩
  · have hrun : Runs (.mbxReqProdDoorbell ch prod reqs) s (doorbell ch prod reqs s.dev) := rfl
    rwa [doorbell_served prod reqs hch hserved] at hrun
  · exact runs_onChan (fun d => (d.consume ch val).drainAll ch) rfl hch hserved
  · exact runs_onChan (fun d => (d.chanEnable ch val).drainAll ch) rfl hch hserved
  · exact runs_onChan (fun d => d.chanReset ch 0x5A5A) rfl hch hserved
  · have hrun : Runs (.mbxChanReset ch val) s (s.dev.chanReset ch val) := runs_onChan (fun d => d.chanReset ch val) rfl hch hserved
    rwa [Dev.chanReset, if_neg (by simpa using hval)] at hrun
  · have hrun : Runs (.channelRebind ch) s (channelRebind ch s.dev) := rfl
    rwa [channelRebind_due hr hcommit hpost ht hrunning hcomp] at hrun
  · have hrun : Runs (.channelRebind ch) s (channelRebind ch s.dev) := rfl
    rwa [channelRebind_waits hwait] at hrun

end Sys2Proof.Machine
end

section
/-! SUPPORT. The registers of BAR0 that posting an event leaves alone. -/

namespace Sys2Proof.Machine

open Sys2Proof

/-- HIF_SCRATCH and HIF_IRQ_ENABLE, which the host alone writes, are as before. -/
def Dev.KeepsRegs (d d' : Dev) : Prop := d'.host.scratch = d.host.scratch ∧ d'.host.irqEnable = d.host.irqEnable

theorem Dev.KeepsRegs.refl (d : Dev) : d.KeepsRegs d := ⟨rfl, rfl⟩

theorem Dev.KeepsRegs.trans {a b c : Dev} (h1 : a.KeepsRegs b) (h2 : b.KeepsRegs c) : a.KeepsRegs c :=
  ⟨h2.1.trans h1.1, h2.2.trans h1.2⟩

theorem Dev.keepsRegs_raise (d : Dev) (b : Nat) : d.KeepsRegs (d.raise b) := by
  rw [Dev.raise_eq]
  exact ⟨rfl, rfl⟩

theorem Dev.keepsRegs_ringPut (d : Dev) (e : Evt) : d.KeepsRegs (d.ringPut e) := by
  unfold Dev.ringPut
  extract_lets h slot first d1 d2
  have h2 : d.KeepsRegs d2 := by
    simp only [d2]
    split <;> exact ⟨rfl, rfl⟩
  repeat' split
  · exact h2.trans (d2.keepsRegs_raise 0)
  · exact h2
  · exact h2.trans ⟨rfl, rfl⟩
  · exact h2
  · exact h2.trans (.trans ⟨rfl, rfl⟩ (Dev.keepsRegs_raise _ 0))
  · exact h2.trans ⟨rfl, rfl⟩

theorem Dev.keepsRegs_deliver (d : Dev) (e : Evt) : d.KeepsRegs (d.deliver e) := by
  unfold Dev.deliver
  dsimp only
  repeat' split
  · exact ⟨rfl, rfl⟩
  · exact .refl d
  · exact ⟨rfl, rfl⟩
  · exact ⟨rfl, rfl⟩
  · exact d.keepsRegs_ringPut e

theorem Dev.keepsRegs_post (d : Dev) (code object data : Nat) : d.KeepsRegs (d.post code object data) := by
  unfold Dev.post Dev.postAt
  dsimp only
  split
  · exact ⟨rfl, rfl⟩
  · exact .trans ⟨rfl, rfl⟩ (Dev.keepsRegs_deliver _ _)

theorem Dev.keepsRegs_endTxn (d : Dev) (reason : Nat) : d.KeepsRegs (d.endTxn reason) := by
  unfold Dev.endTxn
  split
  · exact .refl d
  · exact .trans ⟨rfl, rfl⟩ (Dev.keepsRegs_post _ _ _ _)

theorem Dev.keepsRegs_endUpdate (d : Dev) (reason : Nat) : d.KeepsRegs (d.endUpdate reason) := by
  unfold Dev.endUpdate
  split
  · exact .refl d
  · rename_i u _
    obtain ⟨u', hu⟩ := Dev.foldl_invalidate u.targets { d with update := { d.update with session := none } }
    dsimp only
    rw [hu]
    exact .trans ⟨rfl, rfl⟩ (Dev.keepsRegs_post _ _ _ _)

theorem Dev.keepsRegs_endOwned (d : Dev) (txn update : Bool) (r1 r2 : Nat) :
    d.KeepsRegs (if update then (if txn then d.endTxn r1 else d).endUpdate r2 else if txn then d.endTxn r1 else d) := by
  have htxn : d.KeepsRegs (if txn then d.endTxn r1 else d) := by
    cases txn
    · exact .refl d
    · exact d.keepsRegs_endTxn r1
  cases update
  · exact htxn
  · exact htxn.trans (Dev.keepsRegs_endUpdate _ r2)

end Sys2Proof.Machine
end

section
/-! SUPPORT. The function level reset (R32): what it does to one channel, and to all of them. -/

namespace Sys2Proof.Machine

open Sys2Proof

/-- The registers, rings and Kiln frame that a function level reset returns to their reset values, before the channels. -/
def Dev.functionRegs0 (d : Dev) : Dev :=
  { d.dropKiln with
    host := { d.host with
      scratch := 0, irqStatus := 0, irqEnable := 0, evtBaseLo := 0, evtBaseHi := 0, evtProd := 0, evtCons := 0
      evtEnable := false, evtOverflow := false, evtHoldoff := 0, evtDeadline := none, evtNew := 0, msixTable := [] }
    rxRings := []
    txRings := [] }

/-- A function level reset of one channel. -/
def Dev.resetFunctionChan (e : Dev) (ch : Nat) : Dev :=
  let own := e.ownsTxn ch && !(e.chan ch).inband
  let e1 := e.modChan ch (fun c => chanRegs0 c.discarded)
  let e2 := if own then e1.endTxn 5 else e1
  (if e.ownsUpdate ch && !(e.chan ch).inband then e2.endUpdate 4 else e2).post 0x0104 ch 2

theorem functionReset_eq {d : Dev} (hspi : d.host.spi = false) (hready : d.host.pcieReady = true) :
    functionReset d = (List.range 8).foldl Dev.resetFunctionChan d.functionRegs0 := by
  have hgo : ¬ (d.host.spi || !d.host.pcieReady) = true := by simp [hspi, hready]
  exact if_neg hgo

/-- `d'` is `d` but for the host interface, channels, transaction unit, update unit, deferred events and outputs, and with the
host's registers as they were. -/
structure Dev.HostFunctionOnly (d d' : Dev) : Prop where
  regs : d.KeepsRegs d'
  units : ∃ h c x u l o, d' = { d with host := h, chans := c, txn := x, update := u, lantern := { d.lantern with deferred := l }, outs := o }

theorem Dev.HostFunctionOnly.refl (d : Dev) : d.HostFunctionOnly d := ⟨.refl d, _, _, _, _, _, _, rfl⟩

theorem Dev.HostFunctionOnly.trans {a b c : Dev} (h1 : a.HostFunctionOnly b) (h2 : b.HostFunctionOnly c) : a.HostFunctionOnly c := by
  obtain ⟨hr1, h, cs, x, u, l, o, rfl⟩ := h1
  obtain ⟨hr2, h', cs', x', u', l', o', rfl⟩ := h2
  exact ⟨hr1.trans hr2, h', cs', x', u', l', o', rfl⟩

theorem Dev.hostFunctionOnly_resetFunctionChan (d : Dev) (ch : Nat) : d.HostFunctionOnly (d.resetFunctionChan ch) := by
  obtain ⟨u, hu⟩ := (d.modChan ch (fun c => chanRegs0 c.discarded)).posts_endOwned (d.ownsTxn ch && !(d.chan ch).inband)
    (d.ownsUpdate ch && !(d.chan ch).inband) 5 4
  have hregs := (d.modChan ch (fun c => chanRegs0 c.discarded)).keepsRegs_endOwned (d.ownsTxn ch && !(d.chan ch).inband)
    (d.ownsUpdate ch && !(d.chan ch).inband) 5 4
  refine ⟨.trans ⟨hregs.1, hregs.2⟩ (Dev.keepsRegs_post _ _ _ _), ?_⟩
  obtain ⟨h, l, o, he⟩ := hu.trans (Dev.posts_post _ 0x0104 ch 2)
  exact ⟨_, _, _, _, _, _, he⟩

theorem Dev.resetFunctionChan_chan (d : Dev) (ch k : Nat) :
    (d.resetFunctionChan ch).chan k = if k = ch then chanRegs0 (d.chan k).discarded else d.chan k := by
  obtain ⟨u, hu⟩ := (d.modChan ch (fun c => chanRegs0 c.discarded)).posts_endOwned (d.ownsTxn ch && !(d.chan ch).inband)
    (d.ownsUpdate ch && !(d.chan ch).inband) 5 4
  rw [Dev.resetFunctionChan, (hu.trans (Dev.posts_post _ 0x0104 ch 2)).chan]
  by_cases hk : k = ch
  · subst hk
    rw [if_pos rfl]
    exact d.modChan_chan k (fun c => chanRegs0 c.discarded)
  · rw [if_neg hk]
    exact d.modChan_chan_other ch k (fun c => chanRegs0 c.discarded) hk

/-- Every channel of a list is reset, no other. -/
theorem Dev.foldl_resetFunctionChan (l : List Nat) (d : Dev) :
    d.HostFunctionOnly (l.foldl Dev.resetFunctionChan d) ∧
    ∀ k, (l.foldl Dev.resetFunctionChan d).chan k = if k ∈ l then chanRegs0 (d.chan k).discarded else d.chan k := by
  induction l generalizing d with
  | nil => exact ⟨.refl d, fun _ => rfl⟩
  | cons ch l ih =>
    obtain ⟨honly, hchan⟩ := ih (d.resetFunctionChan ch)
    refine ⟨(d.hostFunctionOnly_resetFunctionChan ch).trans honly, fun k => ?_⟩
    rw [List.foldl_cons, hchan, Dev.resetFunctionChan_chan]
    by_cases hk : k = ch
    · have hmem : k ∈ ch :: l := by simp [hk]
      rw [if_pos hk, if_pos hmem]
      split <;> rfl
    · have hmem : k ∈ ch :: l ↔ k ∈ l := by simp [hk]
      simp only [hk, hmem, if_false]

end Sys2Proof.Machine
end

section
/-! SUPPORT. The counter windows and the Hopper aperture (R34, R35). -/

namespace Sys2Proof.Machine

open Sys2Proof

/-- An aligned counter read returns what R34's halves give. -/
theorem counterRead_aligned {d : Dev} (rq : Nat) {off : Nat} (hs : d.regsServed d.host.spi = true) (ha : off % 4 = 0) :
    counterRead rq off d = (d.readHalf rq off).2.emit (.readData (d.readHalf rq off).1) := by
  simp [counterRead, hs, ha]

/-- The low half: its 32 bits, the high half latched. -/
theorem Dev.readHalf_low (d : Dev) (rq : Nat) {off : Nat} (h : off % 8 = 0) :
    d.readHalf rq off = (d.windowCounter off % 2 ^ 32, { d with host := { d.host with
      latched := d.host.latched.filter (fun (x : Nat × Nat × Nat) => !(x.1 == rq && x.2.1 == off)) ++
        [(rq, off, d.windowCounter off / 2 ^ 32)] } }) := by
  have hbase : off / 8 * 8 = off := Nat.div_mul_cancel (Nat.dvd_of_mod_eq_zero h)
  simp only [Dev.readHalf, h, hbase, beq_self_eq_true, if_true]

/-- The high half: what the requester's low-half read latched. -/
theorem Dev.readHalf_high {d : Dev} {rq off : Nat} {x : Nat × Nat × Nat} (h : off % 8 = 4)
    (hx : d.host.latched.find? (fun y => y.1 == rq && y.2.1 == off / 8 * 8) = some x) :
    (d.readHalf rq off).1 = x.2.2 ∧ (d.readHalf rq off).2.outs = d.outs := by
  simp [Dev.readHalf, h, hx]

end Sys2Proof.Machine
end

section
/-! The statement about counter reads, the aperture and the function level reset. -/

namespace Sys2Proof.Machine

open Sys2Proof

/-- Settles O10, access by access. -/
theorem counterReadApertureAndFunctionReset : Obligations.CounterReadApertureAndFunctionReset := by
  intro s
  refine ⟨fun rq off hs hoff => ?_, fun rq off x hs hoff hx => ?_, fun a hbad => ?_, fun a hok hread => ?_, fun a hok hwrite => ?_,
    fun hspi hready => ?_⟩
  · have hrun : Runs (.counterLowHalfRead rq off) s (counterRead rq off s.dev) := rfl
    rw [counterRead_aligned rq hs (by omega), Dev.readHalf_low _ _ hoff] at hrun
    exact ⟨_, hrun, rfl, List.mem_append_right _ (List.mem_singleton_self _)⟩
  · have hrun : Runs (.counterLowHalfRead rq off) s (counterRead rq off s.dev) := rfl
    rw [counterRead_aligned rq hs (by omega)] at hrun
    obtain ⟨hval, houts⟩ := Dev.readHalf_high hoff hx
    refine ⟨_, hrun, ?_⟩
    rw [Dev.emit_outs, hval, houts]
  · have hrun : Runs (.hopperApertureAccess a) s (apertureStep a s.dev) := rfl
    simpa only [apertureStep, hbad, Bool.false_eq_true, if_false] using hrun
  · have hrun : Runs (.hopperApertureAccess a) s (apertureStep a s.dev) := rfl
    simpa only [apertureStep, hok, hread, Bool.false_eq_true, if_false, if_true] using hrun
  · have hrun : Runs (.hopperApertureAccess a) s (apertureStep a s.dev) := rfl
    simpa only [apertureStep, hok, hwrite, if_true] using hrun
  · obtain ⟨⟨⟨hscratch, henable⟩, hunits⟩, hchan⟩ := Dev.foldl_resetFunctionChan (List.range 8) s.dev.functionRegs0
    have hrun : Runs .functionLevelReset s (functionReset s.dev) := rfl
    rw [functionReset_eq hspi hready] at hrun
    refine ⟨_, hrun, fun ch hch => ?_, ?_⟩
    · have hmem : ch ∈ List.range 8 := List.mem_range.mpr hch
      dsimp only
      rw [hchan, if_pos hmem]
      exact ⟨rfl, rfl, rfl, rfl, rfl, rfl, rfl, rfl⟩
    · obtain ⟨h, c, x, u, l, o, he⟩ := hunits
      rw [hscratch, henable]
      rw [he]
      exact ⟨rfl, rfl, rfl, rfl, rfl, rfl, rfl, rfl, rfl, rfl, rfl, rfl, rfl⟩

end Sys2Proof.Machine
end

section
/-! SUPPORT. The quad SPI slave's ports (R30, R36 to R38). -/

namespace Sys2Proof.Machine

open Sys2Proof

/-- The block serves requests over SPI on the channel. -/
structure Dev.SpiServes (d : Dev) (ch : Nat) : Prop where
  exists_ : ch < 8
  spi : d.host.spi = true
  regs : d.regsServed true = true
  stage : d.host.stage ≠ .reset
  takes : d.takesRequests = true
  enabled : (d.chan ch).enable = true
  host : (d.chan ch).inband = false

/-- The channel and the request buffer have room for a request (R37, R40). -/
def Dev.spiFits (d : Dev) (ch : Nat) (r : HostReq) : Prop :=
  (d.chan ch).outstanding < 16 ∧ d.spiHeld + 16 + r.rq.payload.length ≤ 32768

/-- The response BUSY to a request that finds no room. -/
def busyRsp (r : HostReq) : Rsp :=
  { opcode := r.opcode, seq := r.rq.seq % 65536, status := stBusy, detail := 0, payload := [], origin := none, rejected := true }

/-- The block once a request over SPI has been answered BUSY, SPI_REJECT not yet raised. -/
def Dev.spiBusy (d : Dev) (ch : Nat) (r : HostReq) : Dev :=
  (Dev.modChan { d with host := { d.host with spiRejected := true } } ch
    (fun c => { c with completed := c.completed ++ [busyRsp r] })).count 1 7

theorem Dev.spiBusy_chan (d : Dev) (ch : Nat) (r : HostReq) :
    (d.spiBusy ch r).chan ch = { d.chan ch with completed := (d.chan ch).completed ++ [busyRsp r] } :=
  Dev.modChan_chan { d with host := { d.host with spiRejected := true } } ch (fun c => { c with completed := c.completed ++ [busyRsp r] })

section
variable {d : Dev} {ch : Nat} {r : HostReq} (h : d.SpiServes ch)
include h

theorem spiWrite_eq : spiWrite ch r d =
    if (d.mayTake ch && decide (d.spiHeld + 16 + r.rq.payload.length ≤ 32768)) = true then (d.take (hostTaken ch r)).drainAll ch
    else (d.spiBusy ch r).raise 10 := by
  have hserved : (!d.host.spi || decide (8 ≤ ch) || !d.regsServed true) = false := by simp [h.spi, h.regs, h.exists_]
  have hstage : decide (d.host.stage = .reset) = false := decide_eq_false h.stage
  have hopen : (!d.takesRequests || !(d.chan ch).enable || (d.chan ch).inband) = false := by simp [h.takes, h.enabled, h.host]
  simp only [spiWrite, hserved, hstage, hopen, Bool.false_eq_true, if_false]
  rfl

theorem Dev.SpiServes.mayTake_iff : d.mayTake ch = true ↔ (d.chan ch).outstanding < 16 := by
  simp [Dev.mayTake, h.takes, h.enabled, h.host, h.exists_]

theorem spiWrite_fits (hfits : d.spiFits ch r) : spiWrite ch r d = (d.take (hostTaken ch r)).drainAll ch := by
  rw [spiWrite_eq h, if_pos]
  simp [h.mayTake_iff.mpr hfits.1, hfits.2]

theorem spiWrite_full (hfull : ¬ d.spiFits ch r) : spiWrite ch r d = (d.spiBusy ch r).raise 10 := by
  rw [spiWrite_eq h, if_neg]
  intro hc
  rw [Bool.and_eq_true, decide_eq_true_eq] at hc
  exact hfull ⟨h.mayTake_iff.mp hc.1, hc.2⟩

end

theorem spiRead_head {d : Dev} {ch : Nat} {x : Rsp} {rest : List Rsp} (hch : ch < 8) (hspi : d.host.spi = true)
    (hregs : d.regsServed true = true) (hp : (d.chan ch).posted = x :: rest) : spiRead ch d = d.emit (.spi (rspSlot x)) := by
  simp only [spiRead, hspi, hregs, hp, Nat.not_le.mpr hch, decide_false, Bool.not_true, Bool.or_self, Bool.false_eq_true, if_false]

end Sys2Proof.Machine
end

section
/-! The statement about the SPI ports. -/

namespace Sys2Proof.Machine

open Sys2Proof

/-- Settles O11, port by port. -/
theorem spiPortsServe : Obligations.SpiPortsServe := by
  intro s hspi hregs
  refine ⟨fun ch r hch hstage htakes henable hinband => ?_, fun ch x rest hch hp => ?_, ?_⟩
  · have hserves : s.dev.SpiServes ch := ⟨hch, hspi, hregs, hstage, htakes, henable, hinband⟩
    have hrun : Runs (.spiWriteRequest ch r) s (spiWrite ch r s.dev) := rfl
    refine ⟨fun hout hroom => ?_, fun hfull => ?_⟩
    · rwa [spiWrite_fits hserves ⟨hout, hroom⟩] at hrun
    · have hno : ¬ s.dev.spiFits ch r := by
        rintro ⟨hout, hroom⟩
        omega
      rw [spiWrite_full hserves hno] at hrun
      have hchan := (s.dev.spiBusy ch r).raise_chan 10 ch
      refine ⟨_, hrun, ?_, ?_, ?_, ?_, busyRsp r, ?_, rfl, rfl, rfl, rfl⟩
      · rw [Dev.raise_eq]
        rfl
      · rw [Dev.raise_irqStatus, bit_setBit, if_pos rfl]
      · rw [Dev.raise_eq]
        exact tabGet_put_same 0 s.dev.host.counters (counterKey 1 7) _
      · rw [hchan, Dev.spiBusy_chan]
      · rw [hchan, Dev.spiBusy_chan]
  · have hrun : Runs (.spiReadResponse ch) s (spiRead ch s.dev) := rfl
    rwa [spiRead_head hch hspi hregs hp] at hrun
  · have hrun : Runs .spiStatusRead s (spiStatus s.dev) := rfl
    rwa [spiStatus, if_neg (by simp [hspi, hregs])] at hrun

end Sys2Proof.Machine
end

section
/-! SUPPORT. P90's rings (R61 to R64). -/

namespace Sys2Proof.Machine

open Sys2Proof

theorem ringTail_served {tx : Bool} {r tail : Nat} {ds : List P90Desc} {d : Dev} (hspi : d.host.spi = false)
    (hregs : d.regsServed false = true) (hr : r < 8) : ringTail tx r tail ds d = d.modRing tx r (fun q => { q with
      tail := tail % 4096
      descs := q.descs ++ ds.take ((tail % 4096 + (d.ring tx r).count - (d.ring tx r).tail % (d.ring tx r).count) %
        (d.ring tx r).count) }) := by
  simp only [ringTail, hspi, hregs, Nat.not_le.mpr hr, decide_false, Bool.not_true, Bool.or_self, Bool.false_eq_true, if_false]

theorem ringEnable_served {tx : Bool} {r val : Nat} {d : Dev} (hspi : d.host.spi = false) (hregs : d.regsServed false = true) (hr : r < 8) :
    ringEnable tx r val d = d.modRing tx r (fun q => { q with
      enable := bit val 0, holdoff := bits val 16 16
      unsignalled := if bit val 0 then q.unsignalled else 0
      deadline := if bit val 0 then q.deadline else none }) := by
  simp only [ringEnable, Dev.ringCtrl, hspi, hregs, Nat.not_le.mpr hr, decide_false, Bool.not_true, Bool.or_self, Bool.false_eq_true, if_false]

/-- The length of a transmit descriptor is in order: within P90's MAX_FRAME and the limits of R63. -/
def Dev.descFits (d : Dev) (k : P90Desc) : Prop := k.length + 4 ≤ (d.port 90).maxFrame ∧ 14 ≤ k.length ∧ k.length ≤ 9212

/-- The write-back of a transmit descriptor with a STATUS. -/
def txBack (k : P90Desc) (status : Nat) : Bytes :=
  leb 2 k.length ++ leb 2 (k.control / 2 ^ 14 % 2 * 2 ^ 14) ++ leb 2 k.tag ++ zeros 2 ++ leb 1 status ++ zeros 15

theorem Dev.descFits.good {d : Dev} {k : P90Desc} (h : d.descFits k) :
    (decide ((d.port 90).maxFrame < k.length + 4) || decide (k.length < 14) || decide (9212 < k.length)) = false := by
  simp only [Dev.descFits, Bool.or_eq_false_iff, decide_eq_false_iff_not] at h ⊢
  omega

section
variable {d : Dev} {r : Nat} {k : P90Desc} {rest : List P90Desc} (hspi : d.host.spi = false)
  (hring : ringsDown.find? (fun r => (d.ring true r).enable && !(d.ring true r).descs.isEmpty) = some r)
  (hdesc : (d.ring true r).descs = k :: rest)
include hspi hring hdesc

theorem p90Fetch_badLength (dma : Option (List Byte)) (h : ¬ d.descFits k) :
    p90Fetch dma d = (d.count 1 8).ringWriteBack true r (txBack k 1) := by
  have hbad : (decide ((d.port 90).maxFrame < k.length + 4) || decide (k.length < 14) || decide (9212 < k.length)) = true := by
    simp only [Dev.descFits, Bool.or_eq_true, decide_eq_true_eq] at h ⊢
    omega
  simp only [p90Fetch, hspi, hring, hdesc, hbad, Bool.false_eq_true, if_false, if_true]
  rfl

theorem p90Fetch_readFailed (h : d.descFits k) : p90Fetch none d = d.ringWriteBack true r (txBack k 2) := by
  simp only [p90Fetch, hspi, hring, hdesc, h.good, Bool.false_eq_true, if_false]
  rfl

theorem p90Fetch_fetched (bs : List Byte) (h : d.descFits k) : p90Fetch (some bs) d = (d.injectTs 90 (slice bs 0 k.length) d.now r
    (if bit k.control 14 then some { firmware := false, tag := k.tag } else none)).ringWriteBack true r (txBack k 0) := by
  simp only [p90Fetch, hspi, hring, hdesc, h.good, Bool.false_eq_true, if_false]
  rfl

end

/-- What the delivery of a frame writes back of its descriptor. -/
def Dev.rxBack (d : Dev) (x : Stored × Copy) : Bytes :=
  leb 2 (egressBytes x.2 x.1.bytes).length ++ leb 2 (2 ^ 14) ++ leb 1 x.1.info.inPort ++ leb 1 x.2.tc ++
    leb 1 (rxReason d x.2) ++ zeros 1 ++ t80le x.1.info.time ++ leb 2 x.1.info.handle ++ zeros 4

/-- The head frame of the highest class whose ring can take it: delivered, or dropped where it is longer than the buffer. -/
theorem p90Deliver_head {d : Dev} {x : Stored × Copy} {k : P90Desc} {rest : List P90Desc} (hspi : d.host.spi = false)
    (hhead : classesDown.findSome? (fun c => if (d.ring false c).enable && !(d.ring false c).descs.isEmpty then
      stageHeadOf d.fabric.frames 90 c else none) = some x)
    (hdesc : (d.ring false x.2.tc).descs = k :: rest) (hpass : d.passes 90 x = true) :
    p90Deliver d = if k.length < (egressBytes x.2 x.1.bytes).length then (d.dropCopy x.1.id x.2).count 1 9
      else ((d.passOut 90 x).emit (.hostMem k.addr (egressBytes x.2 x.1.bytes))).ringWriteBack false x.2.tc (d.rxBack x) := by
  simp only [p90Deliver, hspi, hhead, hdesc, hpass, Bool.not_true, Bool.false_eq_true, if_false]
  rfl

end Sys2Proof.Machine
end

section
/-! The statement about P90's rings. -/

namespace Sys2Proof.Machine

open Sys2Proof

/-- Settles O12, row by row. -/
theorem p90RingsServe : Obligations.P90RingsServe := by
  intro s hspi
  refine ⟨fun tx r tail ds hregs hr => ?_, fun tx r val hregs hr => ?_, fun r k rest hring hdesc => ⟨fun hbad dma => ?_,
    fun hgood => ?_, fun hgood bs => ?_⟩, fun x k rest hhead hdesc hpass => ⟨fun hfits => ?_, fun hlong => ?_⟩, fun tx r t ht hpast => ?_⟩
  · have hrun : Runs (.p90RingTailWrite tx r tail ds) s (ringTail tx r tail ds s.dev) := rfl
    rwa [ringTail_served hspi hregs hr] at hrun
  · have hrun : Runs (.p90RingEnable tx r val) s (ringEnable tx r val s.dev) := rfl
    rwa [ringEnable_served hspi hregs hr] at hrun
  · have hrun : Runs (.p90TxFrameFetch dma) s (p90Fetch dma s.dev) := rfl
    rwa [p90Fetch_badLength hspi hring hdesc dma hbad] at hrun
  · have hrun : Runs (.p90TxFrameFetch none) s (p90Fetch none s.dev) := rfl
    rwa [p90Fetch_readFailed hspi hring hdesc hgood] at hrun
  · have hrun : Runs (.p90TxFrameFetch (some bs)) s (p90Fetch (some bs) s.dev) := rfl
    rwa [p90Fetch_fetched hspi hring hdesc bs hgood] at hrun
  · have hrun : Runs .p90RxDelivery s (p90Deliver s.dev) := rfl
    rwa [p90Deliver_head hspi hhead hdesc hpass, if_neg (Nat.not_lt.mpr hfits)] at hrun
  · have hrun : Runs .p90RxDelivery s (p90Deliver s.dev) := rfl
    rwa [p90Deliver_head hspi hhead hdesc hpass, if_pos hlong] at hrun
  · have hrun : Runs (.p90HoldoffExpiry tx r) s (ringHoldoff tx r s.dev) := rfl
    rwa [ringHoldoff, ht, if_pos (by simpa [Dev.overO, Dev.over] using hpast)] at hrun

end Sys2Proof.Machine
end

section
/-! SUPPORT. Requests that arrive in management frames (R46 to R49). -/

namespace Sys2Proof.Machine

open Sys2Proof

/-- The frame is one of the device's management messages, received whole at a port that carries them. -/
structure Dev.Manages (d : Dev) (f : RxFrame) : Prop where
  fcs : f.fcsOk = true
  violations : f.violations = 0
  port : f.port < 50
  twin : ¬ (f.port = 9 ∧ d.twin.enable = true)
  takes : d.takesRequests = true
  fits : frameLen f.bytes ≤ (d.port f.port).maxFrame
  etype : (gristL2 f.bytes).etype = 0x88B5
  subtype : byteAt f.bytes ((gristL2 f.bytes).etypeOff + 2) = 1
  da : (gristL2 f.bytes).da = Config.baseMac

/-- The VLAN of a frame: its outer tag's, 0 where it has none. -/
def outerVid (bs : Bytes) : Nat := if (gristL2 bs).vlanCount = 0 then 0 else (gristL2 bs).outer % 4096

/-- The channel is bound in-band and its port mask, VLAN and peer allow the frame. -/
@[reducible] def Chan.Permits (c : Chan) (f : RxFrame) : Prop :=
  c.inband = true ∧ bit c.portMask f.port = true ∧ outerVid f.bytes = c.vlan ∧ (c.peerMac = 0 ∨ (gristL2 f.bytes).sa = c.peerMac)

/-- What a management message has to be: the device's own, whole, at a port that carries messages, requests being taken. -/
theorem inBandRequest_ignored {d : Dev} {f : RxFrame}
    (h : (gristL2 f.bytes).etype ≠ 0x88B5 ∨ byteAt f.bytes ((gristL2 f.bytes).etypeOff + 2) ≠ 1 ∨ (gristL2 f.bytes).da ≠ Config.baseMac ∨
      (d.port f.port).maxFrame < frameLen f.bytes) : inBandRequest f d = d := by
  refine if_pos ?_
  rcases h with h | h | h | h <;> simp [h]

section
variable {d : Dev} {f : RxFrame} (h : d.Manages f)
include h

/-- The message of a managed frame goes through R47's tests in their order. -/
theorem inBandRequest_managed : inBandRequest f d =
    let g := gristL2 f.bytes
    let o := g.etypeOff + 2
    let ch := byteAt f.bytes (o + 2)
    let len := le f.bytes (o + 14) 2
    let c := d.chan ch
    if byteAt f.bytes (o + 1) ≠ 1 ∨ ch < 1 ∨ 7 < ch then d.mgmtReject f.port 4 2
    else if ¬ c.Permits f then d.mgmtReject f.port 3 1
    else if byteAt f.bytes (o + 3) ≠ 0 ∨ f.bytes.length < o + 44 + len then d.mgmtReject f.port 4 2
    else
      let check := d.firmwareCmac c.keySlot (slice f.bytes o (28 + len))
      let replay := be f.bytes (o + 4) 8
      if check.1 ≠ some (slice f.bytes (o + 28 + len) 16) then check.2.mgmtReject f.port 1 3
      else if replay ≤ c.rxReplay then check.2.mgmtReject f.port 2 4
      else if 16 ≤ c.outstanding then check.2
      else
        let r := messageReq ch (slice f.bytes (o + 12) (16 + len))
        (((check.2.modChan ch (fun c => Chan.replayStored { c with rxReplay := replay, accepted := c.accepted + 1 })).count 1 0).take
          { opcode := r.opcode, rq := r.rq, origin := some { port := f.port, vlan := outerVid f.bytes, sa := g.sa } }).drainAll ch := by
  have hlen : (gristL2 f.bytes).etypeOff + 2 + 12 + 2 = (gristL2 f.bytes).etypeOff + 2 + 14 := rfl
  have hvid : (if (gristL2 f.bytes).vlanCount == 0 then 0 else (gristL2 f.bytes).outer % 4096) = outerVid f.bytes := by
    simp [outerVid]
  unfold inBandRequest
  rw [if_neg]
  · simp only [hvid, hlen]
    refine if_congr Iff.rfl rfl (if_congr ?_ rfl (if_congr (or_congr Iff.rfl ?_) rfl rfl))
    · simp only [Bool.or_eq_true, Bool.and_eq_true, Bool.not_eq_true', bne_iff_ne, ne_eq, not_and_or, not_or, Bool.not_eq_true, or_assoc]
    · omega
  · have htwin := h.twin
    simp only [h.etype, h.subtype, h.da, h.fcs, h.violations, h.port, h.fits, h.takes]
    simpa using htwin

end

end Sys2Proof.Machine
end

section
/-! The statement about in-band requests. -/

namespace Sys2Proof.Machine

open Sys2Proof

/-- Settles O14: R47's tests in their order, each frame by the first it fails. -/
theorem inBandRequestsAreCheckedAndTaken : Obligations.InBandRequestsAreCheckedAndTaken := by
  intro s f g o ch c vid len check mac replay hfcs hviol hport htwin htakes
  have hruns : ∀ d', inBandRequest f s.dev = d' → Runs (.inBandRequestFrame f) s d' := fun _ h => h ▸ rfl
  refine ⟨fun hlong => hruns _ (inBandRequest_ignored (.inr (.inr (.inr hlong)))), fun hfits =>
    ⟨fun hother => hruns _ (inBandRequest_ignored (hother.imp_right (Or.imp_right .inl))), fun hetype hsub hda => ?_⟩⟩
  have htests := inBandRequest_managed ⟨hfcs, hviol, hport, htwin, htakes, hfits, hetype, hsub, hda⟩
  refine ⟨fun hbad => hruns _ (htests.trans (if_pos hbad)), fun hver hlow hhigh => ?_⟩
  have hvalid : ¬ (byteAt f.bytes (o + 1) ≠ 1 ∨ byteAt f.bytes (o + 2) < 1 ∨ 7 < byteAt f.bytes (o + 2)) := by omega
  have htests := htests.trans (if_neg hvalid)
  refine ⟨fun hno => hruns _ (htests.trans (if_pos ?_)), fun hin hmask hvlan hpeer hbad =>
    hruns _ (htests.trans ((if_neg (not_not.mpr ⟨hin, hmask, hvlan, hpeer⟩)).trans (if_pos hbad))), fun hin hmask hvlan hpeer hdir hlen => ?_⟩
  · rintro ⟨hin, hmask, hvlan, hpeer⟩
    rcases hno with hno | hno | hno | ⟨hset, hno⟩
    · exact Bool.eq_false_iff.mp hno hin
    · exact Bool.eq_false_iff.mp hno hmask
    · exact hno hvlan
    · exact hpeer.elim hset hno
  · have hwhole : ¬ (byteAt f.bytes (o + 3) ≠ 0 ∨ f.bytes.length < o + 44 + le f.bytes (o + 14) 2) := by omega
    have htests := (htests.trans (if_neg (not_not.mpr ⟨hin, hmask, hvlan, hpeer⟩))).trans (if_neg hwhole)
    refine ⟨fun hmac => hruns _ (htests.trans (if_pos hmac)), fun hmac hold => hruns _ (htests.trans ?_), fun hmac hnew hroom =>
      hruns _ (htests.trans ?_)⟩
    · exact (if_neg (not_not.mpr hmac)).trans (if_pos hold)
    · exact ((if_neg (not_not.mpr hmac)).trans (if_neg (Nat.not_le.mpr hnew))).trans (if_neg (Nat.not_le.mpr hroom))

end Sys2Proof.Machine
end

section
/-! SUPPORT. The register file of BAR0 and the counter window, access by access (R31, R34, R36). -/

namespace Sys2Proof.Machine

open Sys2Proof

theorem leb_add (m n v : Nat) : leb (m + n) v = leb m v ++ leb n (v / 256 ^ m) := by
  induction m generalizing v with
  | zero => simp [leb]
  | succ m ih => rw [Nat.succ_add, leb, leb, ih, Nat.div_div_eq_div_mul, Nat.pow_succ', List.cons_append]

theorem leb_mod (n v : Nat) : leb n (v % 256 ^ n) = leb n v := by
  induction n generalizing v with
  | zero => rfl
  | succ n ih =>
    rw [leb, leb, Nat.pow_succ', Nat.mod_mul_right_div_self, ih]
    congr 1
    exact BitVec.eq_of_toNat_eq (by simp)

/-- An access over PCIe while registers are served. -/
theorem registerWrite_pcie {d : Dev} {a : BusAccess} (hs : d.regsServed false = true) (ha : a.spi = false) :
    registerWrite a d = pcieAccess a d := by
  simp only [registerWrite, ha, hs, Bool.not_true, Bool.false_eq_true, if_false]

/-- An access over SPI while registers are served. -/
theorem registerWrite_spi {d : Dev} {a : BusAccess} (hs : d.regsServed true = true) (ha : a.spi = true) :
    registerWrite a d = spiAccess a d := by
  simp only [registerWrite, ha, hs, Bool.not_true, Bool.false_eq_true, if_false, if_true]

section
variable {d : Dev} {a : BusAccess} (hs : d.regsServed false = true) (ha : a.spi = false) (hbar : a.addr < 0x10000)
include hs ha hbar

theorem registerWrite_misshapen (h : a.nbits ≠ 32 ∨ a.addr % 4 ≠ 0) : registerWrite a d = d.emit .unsupported := by
  rw [registerWrite_pcie hs ha, pcieAccess, if_pos hbar, if_pos h]

theorem registerWrite_write (hw : a.write = true) (hn : a.nbits = 32) (hal : a.addr % 4 = 0) (hv : a.value < 2 ^ 32) :
    registerWrite a d = d.regWrite a.addr a.value := by
  rw [registerWrite_pcie hs ha, pcieAccess, if_pos hbar, if_neg (by omega), if_pos hw, Nat.mod_eq_of_lt hv]

theorem registerWrite_read (hw : a.write = false) (hn : a.nbits = 32) (hal : a.addr % 4 = 0) :
    registerWrite a d = d.emit (.readData (d.regRead a.addr)) := by
  rw [registerWrite_pcie hs ha, pcieAccess, if_pos hbar, if_neg (by omega), if_neg (by simp [hw])]

end

/-- Reserved space of BAR0: past the general registers, past the channels, past P90's rings. -/
def barReserved (off : Nat) : Prop := (0x2C ≤ off ∧ off < 0x100) ∨ (0x300 ≤ off ∧ off < 0x400) ∨ (0x600 ≤ off ∧ off < 0xE000)

theorem Dev.hifWrite_ignored (d : Dev) {off : Nat} (v : Nat) (hal : off % 4 = 0) (h : off < 0x0C ∨ off = 0x20 ∨ 0x2C ≤ off) :
    d.hifWrite off v = d := by
  unfold Dev.hifWrite
  split
  any_goals omega
  rfl

theorem Dev.hifRead_reserved (d : Dev) {off : Nat} (h : 0x2C ≤ off) : d.hifRead off = 0 := by
  unfold Dev.hifRead
  dsimp only
  split <;> omega

/-- Read-only and reserved registers ignore a write. -/
theorem Dev.regWrite_ignored (d : Dev) {off : Nat} (v : Nat) (hal : off % 4 = 0) (h : off < 0x0C ∨ off = 0x20 ∨ barReserved off) :
    d.regWrite off v = d := by
  unfold Dev.regWrite
  unfold barReserved at h
  by_cases hlow : off < 0x100
  · rw [if_pos hlow, d.hifWrite_ignored v hal (by omega)]
  · rw [if_neg hlow, if_neg (by omega), if_neg (by omega), if_neg (by omega), if_neg (by omega)]

/-- Reserved space reads as zero. -/
theorem Dev.regRead_reserved (d : Dev) {off : Nat} (h : barReserved off) : d.regRead off = 0 := by
  unfold Dev.regRead
  unfold barReserved at h
  by_cases hlow : off < 0x100
  · rw [if_pos hlow, d.hifRead_reserved (by omega)]
  · rw [if_neg hlow, if_neg (by omega), if_neg (by omega), if_neg (by omega), if_neg (by omega)]

section
variable (d : Dev) {ch off : Nat} (hch : ch < 8) (hoff : off < 0x40)
include hch hoff

theorem Dev.regWrite_chan (v : Nat) : d.regWrite (0x100 + off + 0x40 * ch) v = d.chanWrite ch off v := by
  rw [Dev.regWrite, if_neg (by omega), if_pos (by omega), show (0x100 + off + 0x40 * ch - 0x100) / 0x40 = ch by omega,
    show (0x100 + off + 0x40 * ch) % 0x40 = off by omega]

theorem Dev.regRead_chan : d.regRead (0x100 + off + 0x40 * ch) = d.chanRead ch off := by
  rw [Dev.regRead, if_neg (by omega), if_pos (by omega), show (0x100 + off + 0x40 * ch - 0x100) / 0x40 = ch by omega,
    show (0x100 + off + 0x40 * ch) % 0x40 = off by omega]

end

theorem Dev.regWrite_msix (d : Dev) {k : Nat} (v : Nat) (hk : k < 128) : d.regWrite (0xE000 + 4 * k) v =
    { d with host := { d.host with msixTable := tabPut d.host.msixTable (4 * k) v } } := by
  rw [Dev.regWrite, if_neg (by omega), if_neg (by omega), if_neg (by omega), if_neg (by omega), if_pos (by omega),
    show 0xE000 + 4 * k - 0xE000 = 4 * k by omega]

/-- The counter window shows the live counter of a class and index at its offset. -/
theorem Dev.windowCounter_live (d : Dev) {cls k : Nat} (hlow : 1 ≤ cls) (hhigh : cls ≤ 15) (hk : k < 32768) :
    d.windowCounter (0x40000 * cls + 8 * k) = d.counter cls k := by
  unfold Dev.windowCounter
  dsimp only
  rw [if_neg (by omega), if_pos (by omega), show (0x40000 * cls + 8 * k) / 0x40000 % 16 = cls by omega,
    show (0x40000 * cls + 8 * k) % 0x40000 / 8 = k by omega]
  rfl

/-- A word of a counter in the window: its low half, and its high half 4 bytes on. -/
theorem Dev.busWord_counter (d : Dev) {cls k : Nat} (half : Nat) (hlow : 1 ≤ cls) (hhigh : cls ≤ 15) (hk : k < 32768) (hhalf : half < 2) :
    d.busWord (0x1000000 + 0x40000 * cls + 8 * k + 4 * half) = d.counter cls k / 2 ^ (32 * half) % 2 ^ 32 := by
  rw [Dev.busWord, if_neg (by omega), if_pos (by omega), Dev.bar2Word, if_pos (by omega),
    show (0x1000000 + 0x40000 * cls + 8 * k + 4 * half - 0x1000000) / 8 * 8 = 0x40000 * cls + 8 * k by omega,
    show (0x1000000 + 0x40000 * cls + 8 * k + 4 * half - 0x1000000) % 8 * 8 = 32 * half by omega, d.windowCounter_live hlow hhigh hk]

/-- Two words that hold the halves of a 64-bit value read as the value. -/
theorem le_halves {v : Nat} (hv : v < 2 ^ 64) : le (leb 4 (v / 2 ^ (32 * 0) % 2 ^ 32) ++ leb 4 (v / 2 ^ (32 * 1) % 2 ^ 32)) 0 8 = v := by
  have hlow := leb_mod 4 v
  have hhigh := leb_mod 4 (v / 256 ^ 4)
  have hwhole := leb_add 4 4 v
  norm_num at hlow hhigh hwhole ⊢
  rw [hlow, hhigh, ← hwhole, le_leb]
  exact Nat.mod_eq_of_lt hv

/-- An aligned 8-byte read of a counter returns its 64-bit value. -/
theorem registerWrite_counter {d : Dev} {a : BusAccess} {cls k : Nat} (hs : d.regsServed false = true) (ha : a.spi = false)
    (hw : a.write = false) (hn : a.nbits = 64) (hlow : 1 ≤ cls) (hhigh : cls ≤ 15) (hk : k < 32768)
    (haddr : a.addr = 0x1000000 + 0x40000 * cls + 8 * k) (hv : d.counter cls k < 2 ^ 64) :
    registerWrite a d = d.emit (.readData (d.counter cls k)) := by
  have hap : inAperture a.addr = false := decide_eq_false (by omega)
  have hwords : d.readWords a.addr 2 = (d.counter cls k, d) := by
    have h0 := d.busWord_counter 0 hlow hhigh hk (by omega)
    have h1 := d.busWord_counter 1 hlow hhigh hk (by omega)
    rw [← haddr] at h0 h1
    rw [Dev.readWords, if_neg (by simp), show List.range 2 = [0, 1] from rfl]
    simp only [List.flatMap_cons, List.flatMap_nil, List.append_nil, h0, h1]
    rw [le_halves hv]
  rw [registerWrite_pcie hs ha, pcieAccess, if_neg (by omega), hap, if_neg (by simp), if_neg (by simp [hw]), hn, if_neg (by omega)]
  exact congrArg (fun r => r.2.emit (.readData r.1)) hwords

section
variable {d : Dev} {a : BusAccess} (hs : d.regsServed true = true) (ha : a.spi = true)
include hs ha

theorem registerWrite_spiMisshapen (h : a.nbits = 0 ∨ a.nbits % 32 ≠ 0 ∨ a.addr % 4 ≠ 0) : registerWrite a d = d.spiMalform := by
  rw [registerWrite_spi hs ha, spiAccess, if_pos (by simpa [spiMisshapen, or_assoc] using h)]

/-- One word of BAR0 over SPI: read, or written. -/
theorem registerWrite_spiWord (hn : a.nbits = 32) (hal : a.addr % 4 = 0) (hbar : a.addr < 0x10000) :
    registerWrite a d = if a.write then d.regWrite a.addr (bits a.value 0 32) else d.emit (.spi (leb 4 (d.regRead a.addr))) := by
  have hshape : spiMisshapen a.addr a.nbits = false := by simp [spiMisshapen, hn, hal]
  have hap : inAperture a.addr = false := decide_eq_false (by omega)
  have hcount : inCounters a.addr = false := decide_eq_false (by omega)
  have hword : d.readWords a.addr 1 = (d.regRead a.addr % 2 ^ 32, d) := by
    rw [Dev.readWords, hcount, if_neg (by simp), show List.range 1 = [0] from rfl]
    simp only [List.flatMap_cons, List.flatMap_nil, List.append_nil, Nat.mul_zero, Nat.mul_one, Nat.add_zero, Dev.busWord, if_pos hbar, le_leb, Nat.reducePow]
  rw [registerWrite_spi hs ha, spiAccess, hshape, hap, hn]
  simp only [Bool.false_eq_true, if_false, Nat.reduceDiv, hword, List.range_one, List.foldl_cons, List.foldl_nil, Nat.mul_zero, Nat.add_zero,
    if_pos hbar]
  rw [show (2 : Nat) ^ 32 = 256 ^ 4 by norm_num, leb_mod]

end

end Sys2Proof.Machine
end

section
/-! The statement about register accesses. -/

namespace Sys2Proof.Machine

open Sys2Proof

/-- Settles O4: a word of BAR0 by its register, a counter by its halves, an SPI access by its shape. -/
theorem registerWriteStoresOrIsRefused : Obligations.RegisterWriteStoresOrIsRefused := by
  have hruns : ∀ (s : State) (a : BusAccess) d', registerWrite a s.dev = d' → Runs (.registerWrite a) s d' := fun _ _ _ h => h ▸ rfl
  refine ⟨fun s a hs ha => ⟨fun hbar hshape => hruns s a _ (registerWrite_misshapen hs ha hbar hshape), fun hw hn hv => ?_,
    fun hw hn hal hbar => ?_⟩, fun s a cls k hs ha hw hn hlow hhigh hk haddr hv => hruns s a _
      (registerWrite_counter hs ha hw hn hlow hhigh hk haddr hv), fun s a hs ha => ⟨fun h => hruns s a _ (registerWrite_spiMisshapen hs ha h),
      fun hn hal hbar hw => hruns s a _ ?_, fun hn haddr hw hv => hruns s a _ ?_⟩⟩
  · have hwrite := fun hal hbar => registerWrite_write (d := s.dev) hs ha hbar hw hn hal hv
    refine ⟨fun h => ?_, fun h => ?_, fun h => ?_, fun h => ?_, fun ch hch h => ?_, fun k hk h => ?_, fun hal h => ?_⟩ <;>
      refine hruns s a _ ((hwrite (by omega) (by omega)).trans ?_)
    · rw [h]
      rfl
    · rw [h]
      rfl
    · rw [h]
      rfl
    · rw [h]
      rfl
    · rw [h, show 0x104 + 0x40 * ch = 0x100 + 4 + 0x40 * ch by omega, s.dev.regWrite_chan hch (by omega)]
      rfl
    · rw [h, s.dev.regWrite_msix _ hk]
    · exact s.dev.regWrite_ignored _ hal h
  · refine ⟨_, hruns s a _ (registerWrite_read hs ha hbar hw hn hal), fun h => ?_, fun h => ?_, fun h => ?_, fun h => ?_, fun h => ?_,
      fun ch hch h => ?_, fun ch hch h => ?_, s.dev.regRead_reserved⟩
    · rw [h]
      rfl
    · rw [h]
      rfl
    · rw [h]
      rfl
    · rw [h]
      rfl
    · rw [h]
      rfl
    · rw [h, show 0x114 + 0x40 * ch = 0x100 + 0x14 + 0x40 * ch by omega, s.dev.regRead_chan hch (by omega)]
      rfl
    · rw [h, show 0x118 + 0x40 * ch = 0x100 + 0x18 + 0x40 * ch by omega, s.dev.regRead_chan hch (by omega)]
      rfl
  · rw [registerWrite_spiWord hs ha hn hal hbar, if_neg (by simp [hw])]
  · rw [registerWrite_spiWord hs ha hn (by omega) (by omega), if_pos hw, haddr, bits, Nat.pow_zero, Nat.div_one, Nat.mod_eq_of_lt hv]
    rfl

end Sys2Proof.Machine
end

section
/-! SUPPORT. The bounds of the block's stores, kept by what touches none of them. -/

namespace Sys2Proof.Machine

open Sys2Proof

/-- What is left of a list once it has been cut to its newest `n` is no longer than that. -/
theorem length_drop_excess {α : Type} (l : List α) (n : Nat) : (l.drop (l.length - n)).length ≤ n := by
  rw [List.length_drop]
  omega

/-- The always-on log makes room for one entry (R356). -/
theorem aonEvict_length {l : List AonEntry} (h : l.length ≤ 16) : (aonEvict l).length < 16 := by
  unfold aonEvict
  split
  · assumption
  · split
    · rename_i hany
      obtain ⟨e, he, hp⟩ := List.any_eq_true.mp hany
      rw [List.length_eraseP_of_mem he hp]
      omega
    · rw [List.length_drop]
      omega

/-- What holds of every entry of a table and of the value of an absent one holds of what is read. -/
theorem tabGet_of_all {α : Type} {P : α → Prop} {t : Tab α} {z : α} (h : ∀ x ∈ t, P x.2) (hz : P z) (i : Nat) : P (tabGet z t i) := by
  induction t with
  | nil => exact hz
  | cons x t ih =>
    obtain ⟨ht, hrest⟩ := List.forall_mem_cons.mp h
    unfold tabGet tabFind
    split
    · exact ht
    · exact ih hrest

/-- The stores and clock parts that the bounds speak of. -/
def Dev.bounds (d : Dev) :=
  (d.host.history, d.host.unsent, d.safety.log, d.lantern.aonLog, d.time.clock.ns, d.lantern.rtcSub, d.update.mram,
    d.fabric.capture.mem, d.fabric.pools)

/-- A block whose bounded stores are those of a block within the bounds is within them. -/
theorem Dev.Bounded.frame {d d' : Dev} (h : d.Bounded) (he : d'.bounds = d.bounds) : d'.Bounded := by
  simp only [Dev.bounds, Prod.mk.injEq] at he
  obtain ⟨hhistory, hunsent, hfaults, haon, hns, hrtc, hmram, hcapture, hpools⟩ := he
  exact ⟨hhistory ▸ h.history, hunsent ▸ h.unsent, hfaults ▸ h.faults, haon ▸ h.aon, hns ▸ h.ns, hrtc ▸ h.rtc, hmram ▸ h.mram,
    hcapture ▸ h.capture, hpools ▸ h.pools⟩

/-- A history within its bound may take the place of the block's. -/
theorem Dev.Bounded.withHistory {d : Dev} {l : List Evt} (h : d.Bounded) (hl : l.length ≤ 1024) :
    Dev.Bounded { d with host := { d.host with history := l } } :=
  { h with history := hl }

theorem Dev.Bounded.ite {c : Prop} [Decidable c] {a b : Dev} (ha : a.Bounded) (hb : b.Bounded) : (if c then a else b).Bounded := by
  split
  · exact ha
  · exact hb

theorem Dev.Bounded.foldl {α : Type} {l : List α} {f : Dev → α → Dev} {d : Dev} (h : d.Bounded)
    (hf : ∀ e, e.Bounded → ∀ x, (f e x).Bounded) : (l.foldl f d).Bounded :=
  List.foldlRecOn l f h fun e he x _ => hf e he x

theorem Dev.Bounded.foldl_applied {α : Type} {l : List α} {f : Applied → α → Applied} {a : Applied} (h : a.dev.Bounded)
    (hf : ∀ b, b.dev.Bounded → ∀ x, (f b x).dev.Bounded) : (l.foldl f a).dev.Bounded :=
  List.foldlRecOn (motive := fun b => b.dev.Bounded) l f h fun b hb x _ => hf b hb x

theorem Dev.Bounded.foldl_fst {α β : Type} {l : List α} {f : Dev × β → α → Dev × β} {p : Dev × β} (h : p.1.Bounded)
    (hf : ∀ q, q.1.Bounded → ∀ x, (f q x).1.Bounded) : (l.foldl f p).1.Bounded :=
  List.foldlRecOn (motive := fun q => q.1.Bounded) l f h fun q hq x _ => hf q hq x

theorem Dev.Bounded.foldl_snd {α β : Type} {l : List α} {f : β × Dev → α → β × Dev} {p : β × Dev} (h : p.2.Bounded)
    (hf : ∀ q, q.2.Bounded → ∀ x, (f q x).2.Bounded) : (l.foldl f p).2.Bounded :=
  List.foldlRecOn (motive := fun q => q.2.Bounded) l f h fun q hq x _ => hf q hq x

/-- What an answer leaves of the block is within the bounds. -/
inductive Ans.Bounded : Ans → Prop
  | done {status detail : Nat} {payload : Bytes} {d : Dev} (h : d.Bounded) : Ans.Bounded (.done status detail payload d)
  | wait {d : Dev} (h : d.Bounded) : Ans.Bounded (.wait d)

theorem Ans.Bounded.of_done {status detail : Nat} {payload : Bytes} {d : Dev} (h : Ans.Bounded (.done status detail payload d)) : d.Bounded := by
  cases h
  assumption

theorem Ans.Bounded.of_wait {d : Dev} (h : Ans.Bounded (.wait d)) : d.Bounded := by
  cases h
  assumption

theorem Ans.Bounded.ite {c : Prop} [Decidable c] {a b : Ans} (ha : a.Bounded) (hb : b.Bounded) : (if c then a else b).Bounded := by
  split
  · exact ha
  · exact hb

end Sys2Proof.Machine
end

section
/-! SUPPORT. The bounds are kept by the shared operations: counters, interrupts, events, faults, resets. -/

namespace Sys2Proof.Machine

open Sys2Proof

variable {d : Dev}

theorem Dev.Bounded.free (h : d.Bounded) : d.free.2.Bounded := h.frame rfl

theorem Dev.Bounded.emit {o : Output} (h : d.Bounded) : (d.emit o).Bounded := h.frame rfl

theorem Dev.Bounded.countN {cls i n : Nat} (h : d.Bounded) : (d.countN cls i n).Bounded := h.frame rfl

theorem Dev.Bounded.count {cls i : Nat} (h : d.Bounded) : (d.count cls i).Bounded := h.countN

theorem Dev.Bounded.raise {b : Nat} (h : d.Bounded) : (d.raise b).Bounded := by
  unfold Dev.raise
  extract_lets _ d'
  have hd' : d'.Bounded := h.frame rfl
  split
  · exact h
  · split
    · split
      · exact hd'.emit
      · exact hd'
    · exact hd'

theorem Dev.Bounded.ringPut {e : Evt} (h : d.Bounded) : (d.ringPut e).Bounded := by
  unfold Dev.ringPut
  extract_lets h' slot first d1 d2 _
  have hd1 : d1.Bounded := h.frame rfl
  have hd2 : d2.Bounded := .ite hd1 hd1.emit
  exact .ite (.ite hd2.raise hd2) (.ite (hd2.frame rfl) (.ite hd2 (.ite (.raise (hd2.frame rfl)) (hd2.frame rfl))))

theorem Dev.Bounded.evtLose {e : Evt} (h : d.Bounded) : (d.evtLose e).Bounded := by
  unfold Dev.evtLose
  extract_lets d1 _
  have hd1 : d1.Bounded := h.count
  exact hd1.frame rfl

theorem Dev.Bounded.deliver {e : Evt} (h : d.Bounded) : (d.deliver e).Bounded := by
  unfold Dev.deliver
  extract_lets kept
  split
  · split
    · exact { h with unsent := by assumption }
    · have hlen : kept.length ≤ 1025 := by
        rw [List.length_append]
        exact Nat.add_le_add_right h.unsent 1
      clear_value kept
      split
      · exact h
      · exact .evtLose { h with unsent := Nat.le_of_succ_le_succ hlen }
  · exact .ite h.evtLose h.ringPut

theorem Dev.Bounded.postAt {code object data time : Nat} (h : d.Bounded) : (d.postAt code object data time).Bounded := by
  unfold Dev.postAt
  extract_lets asleep _ e hist _ d1
  have hd1 : d1.Bounded := (h.withHistory (length_drop_excess hist 1024)).frame rfl
  split
  · exact h.frame rfl
  · exact hd1.deliver

theorem Dev.Bounded.post {code object data : Nat} (h : d.Bounded) : (d.post code object data).Bounded := h.postAt

theorem Dev.Bounded.postLimited {code key object data : Nat} (h : d.Bounded) : (d.postLimited code key object data).Bounded := by
  unfold Dev.postLimited
  extract_lets k _
  split
  · exact .ite (.post (h.frame rfl)) h
  · exact .post (h.frame rfl)

theorem Dev.Bounded.reportLost (h : d.Bounded) : d.reportLost.Bounded := by
  unfold Dev.reportLost
  extract_lets e hist _
  split
  · exact .ringPut ((h.withHistory (length_drop_excess hist 1024)).frame rfl)
  · exact h

theorem Dev.Bounded.setStage {st : Stage} (h : d.Bounded) : (d.setStage st).Bounded := h.frame rfl

theorem Dev.Bounded.modChan {ch : Nat} {f : Chan → Chan} (h : d.Bounded) : (d.modChan ch f).Bounded := h.frame rfl

theorem Dev.Bounded.endTxn {reason : Nat} (h : d.Bounded) : (d.endTxn reason).Bounded := by
  unfold Dev.endTxn
  extract_lets _
  split
  · exact h
  · exact .post (h.frame rfl)

theorem Dev.Bounded.modPort {p : Nat} {f : Port → Port} (h : d.Bounded) : (d.modPort p f).Bounded := h.frame rfl

theorem Dev.Bounded.mramWrote {n : Nat} (h : d.Bounded) : (d.mramWrote n).Bounded := h.frame rfl

theorem Dev.Bounded.aonWrite {type source data : Nat} (h : d.Bounded) : (d.aonWrite type source data).Bounded :=
  have hlen : (d.aonWrite type source data).lantern.aonLog.length ≤ 16 := by
    rw [show (d.aonWrite type source data).lantern.aonLog.length = _ from List.length_append]
    exact Nat.succ_le_of_lt (aonEvict_length h.aon)
  { h with aon := hlen }

theorem Dev.Bounded.clearVolatile (h : d.Bounded) : d.clearVolatile.Bounded :=
  { h with
    history := Nat.zero_le _
    unsent := Nat.zero_le _
    capture := rfl
    pools := nofun }

theorem Dev.Bounded.systemReset {kind : Nat} (h : d.Bounded) : (d.systemReset kind).Bounded := h.clearVolatile.frame rfl

theorem Dev.Bounded.latchFault {r : FaultRec} (h : d.Bounded) : (d.latchFault r).Bounded := h.frame rfl

theorem Dev.Bounded.logFault {cls code object data flags time : Nat} (h : d.Bounded) :
    (d.logFault cls code object data flags time).Bounded := by
  unfold Dev.logFault
  extract_lets r l _ d1
  have hd1 : d1.Bounded := { h with faults := length_drop_excess l 64 }
  exact hd1.post.raise

theorem Dev.Bounded.faultF0 {code object : Nat} (h : d.Bounded) : (d.faultF0 code object).Bounded := h.count.postLimited

theorem Dev.Bounded.faultF1 {code object data : Nat} (h : d.Bounded) : (d.faultF1 code object data).Bounded := h.count.logFault

theorem Dev.Bounded.stopOutputs (h : d.Bounded) : d.stopOutputs.Bounded := by
  unfold Dev.stopOutputs
  extract_lets stomp d1 _
  have hstomp : ∀ (e : Dev), e.Bounded → ∀ (p : Nat × Sending), (stomp e p).Bounded := by
    intro _ he _
    exact .ite he.emit.count he
  have hd1 : d1.Bounded := h.foldl hstomp
  exact hd1.frame rfl

theorem Dev.Bounded.resetNow {kind : Nat} (h : d.Bounded) : (d.resetNow kind).Bounded :=
  .ite h.stopOutputs.systemReset.post h.stopOutputs.systemReset

theorem Dev.Bounded.faultF2 {code object data : Nat} (h : d.Bounded) : (d.faultF2 code object data).Bounded := by
  unfold Dev.faultF2
  extract_lets act failing d1 mark policy action d2 _ _ _ _ _ _ d3 d4 d5
  have hd1 : d1.Bounded := h.stopOutputs
  have hd2 : d2.Bounded := hd1.systemReset
  have hd3 : d3.Bounded := hd2.frame rfl
  have hd4 : d4.Bounded := hd3.setStage
  have hd5 : d5.Bounded := hd4.count.latchFault.logFault
  exact .ite h.count.latchFault.logFault (.ite hd5.post hd5)

theorem Dev.Bounded.fault {f2 : Bool} {code object data : Nat} (h : d.Bounded) : (d.fault f2 code object data).Bounded :=
  .ite h.faultF2 h.faultF1

theorem Dev.Bounded.modTwin {f : Twin → Twin} (h : d.Bounded) : (d.modTwin f).Bounded := h.frame rfl

theorem Dev.Bounded.setSync {ready : Bool} {type : Nat} (h : d.Bounded) : (d.setSync ready type).Bounded := .ite h h.modTwin.post

theorem Dev.Bounded.twinLinkDown (h : d.Bounded) : d.twinLinkDown.Bounded := .ite h h.modTwin.post.setSync

theorem Dev.Bounded.twinPortUp (h : d.Bounded) : d.twinPortUp.Bounded := h.twinLinkDown.modTwin

end Sys2Proof.Machine
end

section
/-! SUPPORT. The bounds are kept by the Service Arbiter and the transfers through it (R18 to R24). -/

namespace Sys2Proof.Machine

open Sys2Proof

variable {d : Dev}

theorem arbiterRound_bounded {raised : List ArbRaise} (h : d.Bounded) : (arbiterRound raised d).Bounded := h.frame rfl

theorem transferCommit_bounded (h : d.Bounded) : (transferCommit d).Bounded := by
  unfold transferCommit
  split
  · exact .ite (h.frame rfl) h
  · exact h

theorem Dev.Bounded.transferBy {req beats lst : Nat} {act : Dev → Dev} (hact : ∀ (a : Dev), a.Bounded → (act a).Bounded) (hd : d.Bounded) :
    (Dev.transferBy req beats lst act d).Bounded := by
  unfold Dev.transferBy
  split
  · exact hact _ (hd.frame rfl)
  · exact hd.frame rfl

theorem Dev.Bounded.transfer {req beats : Nat} {act : Dev → Dev} (hact : ∀ (a : Dev), a.Bounded → (act a).Bounded) (hd : d.Bounded) :
    (Dev.transfer req beats act d).Bounded :=
  .transferBy hact hd.free

end Sys2Proof.Machine
end

section
/-! SUPPORT. The bounds are kept by Hopper: its pools' RAMs stay canonical (R35, R116 to R119). -/

namespace Sys2Proof.Machine

open Sys2Proof

variable {d : Dev}

/-- The RAM of a pool in force is canonical. -/
theorem Dev.Bounded.pool (h : d.Bounded) (p : Nat) : Memory.wf (d.pool p).mem = true :=
  tabGet_of_all (P := fun (q : Pool) => Memory.wf q.mem = true) h.pools rfl p

theorem Dev.Bounded.putPool {p : Nat} {q : Pool} (h : d.Bounded) (hq : Memory.wf q.mem = true) : (d.putPool p q).Bounded :=
  { h with pools := fun x hx => (mem_tabPut hx).elim (fun he => he ▸ hq) (h.pools x) }

theorem Dev.Bounded.hopperAlloc {owner size : Nat} (h : d.Bounded) : (d.hopperAlloc owner size).2.Bounded := by
  unfold Dev.hopperAlloc
  split
  · exact h
  · extract_lets q busy own common idx b
    split
    · dsimp only
      exact .count (h.putPool (h.pool _))
    · dsimp only
      exact h.count.postLimited

theorem Dev.Bounded.noteBadHandle {requester h reason : Nat} (hd : d.Bounded) : (d.noteBadHandle requester h reason).Bounded :=
  hd.count.post

theorem Dev.Bounded.badHandle {requester h reason : Nat} (hd : d.Bounded) : (d.badHandle requester h reason).Bounded :=
  hd.noteBadHandle.fault

theorem Dev.Bounded.hopperRelease {p i : Nat} (h : d.Bounded) : (d.hopperRelease p i).Bounded := .count (h.putPool (h.pool _))

theorem Dev.Bounded.dropRefs {p i requester n : Nat} (h : d.Bounded) : (d.dropRefs p i requester n).Bounded := by
  unfold Dev.dropRefs
  extract_lets q
  split
  · exact h
  · extract_lets who h'
    exact .ite h.hopperRelease (h.putPool (h.pool _))

theorem Dev.Bounded.addRef {p i requester : Nat} (h : d.Bounded) : (d.addRef p i requester).Bounded := by
  unfold Dev.addRef
  extract_lets q
  split
  · exact h
  · exact .ite h.count (h.putPool (h.pool _))

theorem Dev.Bounded.releasePool {owner p : Nat} (h : d.Bounded) : (d.releasePool owner p).Bounded :=
  h.foldl (fun _ he _ => .ite he he.dropRefs)

theorem Dev.Bounded.releaseOwner {owner : Nat} (h : d.Bounded) : (d.releaseOwner owner).Bounded := h.foldl (fun _ he _ => he.releasePool)

theorem Dev.Bounded.hopperWrite {i : Nat} {bs : Bytes} (h : d.Bounded) : ∀ e, d.hopperWrite i bs = some e → e.Bounded := by
  intro e he
  unfold Dev.hopperWrite at he
  split at he
  · cases he
    exact h.putPool (Memory.wf_writeN _ _ _ (h.pool _))
  · cases he

theorem hopperAllocStep_bounded {owner size : Nat} (h : d.Bounded) : (hopperAllocStep owner size d).Bounded := h.hopperAlloc

theorem hopperIncStep_bounded {requester h : Nat} (hd : d.Bounded) : (hopperIncStep requester h d).Bounded := by
  unfold hopperIncStep
  split
  · exact hd.badHandle
  · exact hd.addRef

theorem hopperDecStep_bounded {requester h : Nat} (hd : d.Bounded) : (hopperDecStep requester h d).Bounded := by
  unfold hopperDecStep
  split
  · exact hd.badHandle
  · exact hd.dropRefs

theorem apertureStep_bounded {a : ApertureAccess} (h : d.Bounded) : (apertureStep a d).Bounded :=
  .ite (.ite (h.putPool (Memory.wf_writeN _ _ _ (h.pool _))) h.emit) (.ite h.count h.count.emit)

end Sys2Proof.Machine
end

section
/-! SUPPORT. The bounds are kept by the service of mailbox requests (R39 to R45). -/

namespace Sys2Proof.Machine

open Sys2Proof

variable {d : Dev}

theorem Dev.Bounded.noteBulk {inband : Bool} {rq : Req} (h : d.Bounded) : (d.noteBulk inband rq).Bounded := by
  unfold Dev.noteBulk
  extract_lets pl n
  split
  · exact h
  · split
    · exact h.noteBadHandle
    · exact h

theorem bulkWriteAll_bounded {l : List BulkDesc} {bs : Bytes} (h : d.Bounded) : (bulkWriteAll d l bs).Bounded := by
  induction l generalizing d bs with
  | nil => exact h
  | cons b l ih =>
    unfold bulkWriteAll
    refine ih (.ite h (.ite ?_ h.emit))
    cases hw : d.hopperWrite b.addr (bs.take b.bytes) with
    | none => exact h
    | some e => exact h.hopperWrite _ hw

theorem ansOk_bounded {payload : Bytes} (h : d.Bounded) : (ansOk d payload).Bounded := .done h

theorem ansErr_bounded {status : Nat} (h : d.Bounded) : (ansErr d status).Bounded := .done h

theorem ansErrD_bounded {status detail : Nat} (h : d.Bounded) : (ansErrD d status detail).Bounded := .done h

theorem Dev.Bounded.answer {t : Taken} {status detail : Nat} {payload : Bytes} (h : d.Bounded) : (d.answer t status detail payload).Bounded :=
  h.modChan

theorem Dev.Bounded.answerData {t : Taken} {status detail : Nat} {payload : Bytes} {r : ReqData} (h : d.Bounded) :
    (d.answerData t status detail payload r).Bounded := by
  unfold Dev.answerData
  split
  · split
    · exact h.answer
    · exact (bulkWriteAll_bounded h).answer
  · exact h.answer

theorem Dev.Bounded.drain {ch n : Nat} (h : d.Bounded) : (Dev.drain ch n d).Bounded := by
  induction n generalizing d with
  | zero => exact h
  | succ n ih =>
    unfold Dev.drain
    extract_lets c
    split
    · split
      · exact ih h.modChan.answer
      · exact h
    · exact h

theorem Dev.Bounded.drainAll {ch : Nat} (h : d.Bounded) : (d.drainAll ch).Bounded := h.drain

theorem Dev.Bounded.complete {ch status detail : Nat} {payload : Bytes} (h : d.Bounded) : (d.complete ch status detail payload).Bounded := by
  unfold Dev.complete
  extract_lets c d1
  have hd1 : d1.Bounded := h.modChan
  split
  · exact h
  · extract_lets r
    exact .ite hd1.drainAll hd1.answerData.drainAll

theorem Dev.Bounded.arrival {ch op : Nat} (h : d.Bounded) : (d.arrival ch op).Bounded := by
  unfold Dev.arrival
  extract_lets _ d1 _ d2 _
  have hd1 : d1.Bounded := h.frame rfl
  have hd2 : d2.Bounded := .ite (hd1.frame rfl) hd1
  split
  · exact .ite (hd2.frame rfl) hd2
  · exact hd2

theorem Dev.Bounded.take {t : Taken} (h : d.Bounded) : (d.take t).Bounded := h.arrival.modChan

theorem Dev.Bounded.pull {ch n : Nat} (h : d.Bounded) : (Dev.pull ch n d).Bounded := by
  induction n generalizing d with
  | zero => exact h
  | succ n ih =>
    unfold Dev.pull
    split
    · exact h
    · exact .ite (ih h.modChan.take) h

theorem Dev.Bounded.pullAll {ch : Nat} (h : d.Bounded) : (d.pullAll ch).Bounded := h.pull

theorem Dev.Bounded.start {op : Nat} {rq : Req} (h : d.Bounded) : ∀ x, d.start op rq = some x → x.2.Bounded := by
  intro x hx
  unfold Dev.start at hx
  dsimp only at hx
  split at hx
  · cases hx
  · split at hx
    · split at hx
      · cases hx
        exact h.pullAll.modChan
      · cases hx
    · split at hx
      · cases hx
        exact h.pullAll.take.modChan
      · cases hx

theorem Dev.Bounded.serve {op : Nat} {rq : Req} {most : Dev → Bytes → Nat} {body : Dev → Nat → Bytes → Ans}
    (hbody : ∀ e, e.Bounded → ∀ ch bs, (body e ch bs).Bounded) (h : d.Bounded) : (d.serve op rq most body).Bounded := by
  unfold Dev.serve
  split
  · exact h
  · rename_i t d1 hstart
    have hd1 : d1.Bounded := h.start _ hstart
    split
    · exact hd1.answer.drainAll
    · split
      · exact hd1.noteBulk.answer.drainAll
      · rename_i r _
        have hans := hbody d1 hd1 rq.ch r.data
        extract_lets top short
        refine .ite hd1.modChan ?_
        split
        · rename_i d2 hwait
          rw [hwait] at hans
          exact .ite hd1.answer.drainAll hans.of_wait.modChan
        · rename_i st det pl d2 hdone
          rw [hdone] at hans
          split
          · exact hd1.answer.drainAll
          · exact .ite hd1.answer.drainAll hans.of_done.answerData.drainAll

theorem Dev.Bounded.stage {op : Nat} {data : Bytes} (h : d.Bounded) : (d.stage op data).Bounded := by
  unfold Dev.stage
  extract_lets _
  split
  · exact ansErr_bounded h
  · extract_lets size
    exact .ite (ansErr_bounded h) (.done (h.frame rfl))

theorem Dev.Bounded.serveStaged {op : Nat} {rq : Req} {check : Dev → Bytes → Nat} (h : d.Bounded) : (Dev.serveStaged op rq check d).Bounded :=
  .serve (fun _ he _ _ => .ite he.stage (ansErr_bounded he)) h

theorem withLayout_bounded {len : Nat} {fs : List Fld} {bs : Bytes} {k : Ans} (h : d.Bounded) (hk : k.Bounded) :
    (withLayout d len fs bs k).Bounded :=
  .ite (ansErr_bounded h) (.ite hk (ansErr_bounded h))

end Sys2Proof.Machine
end

section
/-! SUPPORT. The bounds are kept by sleep domains and wakes (chapter 13). -/

namespace Sys2Proof.Machine

open Sys2Proof

variable {d : Dev}

theorem Dev.Bounded.modDomain {n : Nat} {f : Domain → Domain} (h : d.Bounded) : (d.modDomain n f).Bounded := h.frame rfl

theorem Dev.Bounded.setPower {ps : PowerState} {src : Nat} (h : d.Bounded) : (d.setPower ps src).Bounded := .ite h (.post (h.frame rfl))

theorem Dev.Bounded.settlePower (h : d.Bounded) : d.settlePower.Bounded := .ite h.setPower h

theorem Dev.Bounded.setDomain {n : Nat} {st : DomainState} {src : Nat} (h : d.Bounded) : (d.setDomain n st src).Bounded := by
  unfold Dev.setDomain
  split
  · exact h
  · extract_lets d1 _
    have hd1 : d1.Bounded := h.modDomain.post
    exact .settlePower (hd1.frame rfl)

theorem Dev.Bounded.restartKeepAlive {n : Nat} (h : d.Bounded) : (d.restartKeepAlive n).Bounded := h.modDomain

theorem Dev.Bounded.cancelSleep {n : Nat} (h : d.Bounded) : (d.cancelSleep n).Bounded := h.setDomain.restartKeepAlive.modDomain.count

theorem Dev.Bounded.latchWake {target src : Nat} (h : d.Bounded) : (d.latchWake target src).Bounded :=
  .ite (.count (.aonWrite (h.frame rfl))) (.aonWrite (h.frame rfl))

theorem Dev.Bounded.noteWake {src : Nat} (h : d.Bounded) : (d.noteWake src).Bounded := .aonWrite (h.frame rfl)

theorem Dev.Bounded.postDeferred (h : d.Bounded) : d.postDeferred.Bounded := .foldl (h.frame rfl) (fun _ he _ => he.postAt)

theorem Dev.Bounded.driveStb {m : Domain} {standby : Bool} (h : d.Bounded) : (d.driveStb m standby).Bounded := h.frame rfl

theorem Dev.Bounded.beginWaking {n src : Nat} (h : d.Bounded) : (d.beginWaking n src).Bounded := by
  unfold Dev.beginWaking
  extract_lets d1
  have hd1 : d1.Bounded := by
    unfold d1
    split
    · exact h.driveStb
    · exact h
  exact hd1.setDomain.modDomain.count

theorem Dev.Bounded.leaveDoze {src : Nat} (h : d.Bounded) : (d.leaveDoze src).Bounded := .post (.postDeferred (h.frame rfl))

theorem Dev.Bounded.wake {target src : Nat} (h : d.Bounded) : (d.wake target src).Bounded := by
  unfold Dev.wake
  extract_lets d1
  have hd1 : d1.Bounded := .ite h.noteWake.leaveDoze h
  split
  · exact h.latchWake
  · split
    · exact hd1
    · split
      · exact hd1
      · exact hd1
      · exact .ite hd1.latchWake hd1.cancelSleep
      · exact .ite hd1.noteWake.beginWaking hd1.latchWake

theorem Dev.Bounded.keepAlive {n : Nat} (h : d.Bounded) : (d.keepAlive n).Bounded := by
  unfold Dev.keepAlive
  split
  · exact h
  · split
    · exact h.restartKeepAlive
    · exact .ite h h.cancelSleep
    · exact h
    · exact h

end Sys2Proof.Machine
end

section
/-! SUPPORT. The bounds are kept by the switch core (chapter 04). -/

namespace Sys2Proof.Machine

open Sys2Proof

variable {d : Dev}

theorem Dev.Bounded.levelCheck (h : d.Bounded) : d.levelCheck.Bounded := .ite (.post (h.frame rfl)) (.ite (.post (h.frame rfl)) h)

theorem Dev.Bounded.putFrames {fs : List Stored} (h : d.Bounded) : (d.putFrames fs).Bounded := h.frame rfl

theorem Dev.Bounded.modStored {id : Nat} {f : Stored → Stored} (h : d.Bounded) : (d.modStored id f).Bounded := h.putFrames

theorem Dev.Bounded.sweepGroup {g : Nat} (h : d.Bounded) : (d.sweepGroup g).Bounded := by
  unfold Dev.sweepGroup
  split
  · exact h
  · extract_lets fs gone d1 _
    have hd1 : d1.Bounded := h.foldl (fun _ he _ => he.putFrames)
    exact hd1.frame rfl

theorem Dev.Bounded.settleFabric (h : d.Bounded) : d.settleFabric.Bounded := by
  unfold Dev.settleFabric
  extract_lets d1 _ d2
  have hd1 : d1.Bounded := h.putFrames
  have hd2 : d2.Bounded := hd1.frame rfl
  exact .levelCheck (hd2.foldl (fun _ he _ => he.sweepGroup))

theorem Dev.Bounded.flushPort {p : Nat} (h : d.Bounded) : (d.flushPort p).2.Bounded := by
  unfold Dev.flushPort
  extract_lets n fs
  dsimp only
  exact h.putFrames.countN.settleFabric

theorem Dev.Bounded.countEvicted {f : Stored} (h : d.Bounded) : (d.countEvicted f).Bounded := h.foldl (fun _ he _ => he.count)

theorem Dev.Bounded.wakeOnEgress {p : Nat} (h : d.Bounded) : (d.wakeOnEgress p).Bounded := by
  unfold Dev.wakeOnEgress
  split
  · exact h
  · split
    · exact .ite h.wake h
    · exact h

theorem Dev.Bounded.admitCopy {n : Nat} {acc : Dev × List Copy} {k : Copy} (h : acc.1.Bounded) : (Dev.admitCopy n acc k).1.Bounded := by
  unfold Dev.admitCopy
  extract_lets d held
  have hd : d.Bounded := h
  split
  · dsimp only
    exact hd.count
  · split
    · dsimp only
      exact hd.wakeOnEgress
    · dsimp only
      exact hd.count

theorem Dev.Bounded.mirrorCopy {id i kind mirrored : Nat} {m : Mirror} (h : d.Bounded) : (d.mirrorCopy id i kind mirrored m).Bounded := by
  unfold Dev.mirrorCopy
  extract_lets d1
  have hd1 : d1.Bounded := .ite h h.count
  split
  · exact h
  · extract_lets ok _ k
    exact .ite h.wakeOnEgress.modStored.count.count hd1.count

theorem Dev.Bounded.mirrorOne {id i kind mirrored : Nat} (h : d.Bounded) : (Dev.mirrorOne id i kind mirrored d).Bounded :=
  .ite (.mirrorCopy (h.frame rfl)) (h.frame rfl)

theorem Dev.Bounded.mirrorAll {id inPort : Nat} {outs : List Nat} {named : Option Nat} (h : d.Bounded) :
    (d.mirrorAll id inPort outs named).Bounded :=
  h.foldl (fun _ he _ => .foldl (.ite he.mirrorOne he) (fun _ hx _ => .ite hx.mirrorOne hx))

theorem Dev.Bounded.addStored {f : Stored} (h : d.Bounded) : (d.addStored f).Bounded := h.frame rfl

theorem Dev.Bounded.place {bytes : Bytes} {len : Nat} {info : FrameInfo} {copies : List Copy} {receiving : Bool} (h : d.Bounded) :
    (d.place bytes len info copies receiving).2.Bounded := by
  unfold Dev.place
  extract_lets n a d1 id
  have ha : a.1.Bounded := h.foldl_fst (fun _ he _ => he.admitCopy)
  have hd1 : d1.Bounded := ha
  split
  · exact hd1
  · extract_lets twinPort
    split
    · dsimp only
      exact hd1.foldl (fun _ he _ => he.count)
    · extract_lets f d2
      have hd2 : d2.Bounded := hd1.putFrames.addStored.foldl (fun _ he _ => he.countEvicted)
      dsimp only
      exact hd2.foldl (fun _ he _ => he.count)

theorem Dev.Bounded.enqueue {bytes : Bytes} {len : Nat} {info : FrameInfo} {copies : List Copy} {named : Option Nat} {receiving : Bool}
    (h : d.Bounded) : (d.enqueue bytes len info copies named receiving).Bounded := by
  unfold Dev.enqueue
  split
  · rename_i x d1 heq
    have hd1 : d1.Bounded := by
      have hp : (d.place bytes len info copies receiving).2.Bounded := h.place
      rwa [heq] at hp
    exact hd1
  · rename_i x id d1 heq
    have hd1 : d1.Bounded := by
      have hp : (d.place bytes len info copies receiving).2.Bounded := h.place
      rwa [heq] at hp
    extract_lets outs
    exact .settleFabric (.ite hd1 hd1.mirrorAll)

theorem Dev.Bounded.enqueueDropped {bytes : Bytes} {len : Nat} {info : FrameInfo} {copies : List Copy} {named : Option Nat} (h : d.Bounded) :
    (d.enqueueDropped bytes len info copies named).Bounded := by
  unfold Dev.enqueueDropped
  extract_lets r id bare d1
  have hr : r.2.Bounded := h.place
  have hd1 : d1.Bounded := .ite hr hr.addStored
  split
  · exact hr.settleFabric
  · extract_lets m
    exact .ite hr.settleFabric hd1.mirrorOne.settleFabric

theorem Dev.Bounded.sendTs {port tc : Nat} {bs : Bytes} {ts : Option TsReq} (h : d.Bounded) : (d.sendTs port tc bs ts).Bounded := h.enqueue

theorem Dev.Bounded.sendAt {port tc : Nat} {bs : Bytes} (h : d.Bounded) : (d.sendAt port tc bs).Bounded := h.sendTs

theorem Dev.Bounded.fifoPut {sl : Nat} {a : Arrived} (h : d.Bounded) : ∀ e, d.fifoPut sl a = some e → e.Bounded := by
  intro e he
  unfold Dev.fifoPut at he
  split at he
  · cases he
    exact h.frame rfl
  · cases he

theorem Dev.Bounded.injectTs {port : Nat} {bs : Bytes} {time ring : Nat} {ts : Option TsReq} (h : d.Bounded) :
    (d.injectTs port bs time ring ts).Bounded := by
  unfold Dev.injectTs
  extract_lets b
  split
  · rename_i x d1 heq
    have hd1 : d1.Bounded := h.fifoPut _ heq
    exact hd1.count.countN
  · rename_i x heq
    exact h.count

theorem Dev.Bounded.injectAt {port : Nat} {bs : Bytes} {time ring : Nat} (h : d.Bounded) : (d.injectAt port bs time ring).Bounded :=
  h.injectTs

theorem Dev.Bounded.lagRemap {g : Nat} (h : d.Bounded) : (d.lagRemap g).Bounded := by
  unfold Dev.lagRemap
  extract_lets _
  split
  · exact h
  · extract_lets new moved fences d1
    have hd1 : d1.Bounded := h.frame rfl
    exact .ite h hd1.countN.post.settleFabric

theorem Dev.Bounded.lagPort {p : Nat} (h : d.Bounded) : (d.lagPort p).Bounded := h.foldl (fun _ he _ => .ite he.lagRemap he)

theorem fenceTimeout_bounded {g b : Nat} (h : d.Bounded) : (fenceTimeout g b d).Bounded := by
  unfold fenceTimeout
  extract_lets due _
  split
  · exact h
  · extract_lets d1
    have hd1 : d1.Bounded := h.frame rfl
    exact hd1.foldl (fun _ he _ => he.putFrames.countN)

theorem lacpduReceived_bounded {port : Nat} {distributing : Bool} (h : d.Bounded) : (lacpduReceived port distributing d).Bounded :=
  .lagPort (h.frame rfl)

theorem lacpTimeout_bounded {port : Nat} (h : d.Bounded) : (lacpTimeout port d).Bounded := .lagPort (h.frame rfl)

theorem matchingSlot_bounded (h : d.Bounded) : (matchingSlot d).Bounded := h.frame rfl

end Sys2Proof.Machine
end

section
/-! SUPPORT. The bounds are kept by stream filters, meters and recovery (chapter 06). -/

namespace Sys2Proof.Machine

open Sys2Proof

variable {d : Dev}

theorem Dev.Bounded.meterStep {h len : Nat} {inYellow : Bool} {ix : Nat} (hd : d.Bounded) : (d.meterStep h len inYellow ix).2.Bounded := by
  unfold Dev.meterStep
  extract_lets _
  split
  · exact hd
  · extract_lets r latch _ m d1 d2
    have hd1 : d1.Bounded := hd.frame rfl
    have hd2 : d2.Bounded := hd1.count
    dsimp only
    exact .ite hd2.post hd2

theorem Dev.Bounded.frerStep {ix : Nat} {rtag : Option Nat} (h : d.Bounded) : (d.frerStep ix rtag).2.Bounded := by
  unfold Dev.frerStep
  extract_lets _
  split
  · exact h
  · extract_lets j _ r k
    dsimp only
    exact .count (h.frame rfl)

theorem Dev.Bounded.putStream {h : Nat} {e : Stream} (hd : d.Bounded) : (d.putStream h e).Bounded := hd.frame rfl

theorem Dev.Bounded.keepStream {h : Nat} {e : Stream} {f : Stream → Stream} (hd : d.Bounded) : (d.keepStream h e f).Bounded :=
  .ite hd.putStream hd

theorem Dev.Bounded.filterTail {h : Nat} {e : Stream} {g : Grist} {len : Nat} (hd : d.Bounded) : (d.filterTail h e g len).2.Bounded := by
  unfold Dev.filterTail
  extract_lets c drops f q src _
  have hc : c.2.Bounded := by
    unfold c
    split
    · exact hd.meterStep
    · exact hd
  have hf : f.2.Bounded := by
    unfold f
    split
    · exact hc.frerStep
    · exact hc
  have hsrc : src.Bounded := hf
  split
  · exact hc
  · split
    · split
      · dsimp only
        exact hsrc.frame rfl
      · exact hf
    · exact hf

theorem Dev.Bounded.filter {h : Nat} {e : Stream} {g : Grist} {len time : Nat} (hd : d.Bounded) : (d.filter h e g len time).2.Bounded := by
  unfold Dev.filter
  extract_lets d1 w n
  have hd1 : d1.Bounded := hd.count
  split
  · dsimp only
    exact hd.count
  · split
    · dsimp only
      exact .ite hd1.keepStream.post hd1
    · split
      · exact hd.filterTail
      · split
        · dsimp only
          exact hd.count
        · exact hd.keepStream.filterTail

end Sys2Proof.Machine
end

section
/-! SUPPORT. The bounds are kept by the gate schedules (chapter 06). -/

namespace Sys2Proof.Machine

open Sys2Proof

variable {d : Dev}

theorem Dev.Bounded.putGates {p : Nat} {g : Gates} (h : d.Bounded) : (d.putGates p g).Bounded := h.frame rfl

end Sys2Proof.Machine
end

section
/-! SUPPORT. The bounds are kept by the line side of an Ethernet port. -/

namespace Sys2Proof.Machine

open Sys2Proof

variable {d : Dev}

theorem Dev.Bounded.atPoint {point : Nat} (h : d.Bounded) : (d.atPoint point).Bounded := h.frame rfl

theorem Dev.Bounded.tsRecord {p : Nat} {r : TsReq} {event : Bool} {stamp : Nat} (h : d.Bounded) : (d.tsRecord p r event stamp).Bounded :=
  .ite (.count (h.frame rfl)) (.count (h.frame rfl))

theorem Dev.Bounded.countSent {p : Nat} {bytes : Bytes} (h : d.Bounded) : (d.countSent p bytes).Bounded :=
  .ite h.count.countN h.count.countN.count

theorem Dev.Bounded.addTxWire {p n : Nat} (h : d.Bounded) : (d.addTxWire p n).Bounded := h.modPort

end Sys2Proof.Machine
end

section
/-! SUPPORT. The bounds are kept by what other units use of the gateway's PDUs. -/

namespace Sys2Proof.Machine

open Sys2Proof

variable {d : Dev}

theorem Dev.Bounded.indicationDone {n : Nat} (h : d.Bounded) : (d.indicationDone n).Bounded := h.frame rfl

theorem Dev.Bounded.pduSent {pdu : Nat} (h : d.Bounded) : (d.pduSent pdu).Bounded := h.foldl (fun _ he _ => .ite he.indicationDone he)

theorem Dev.Bounded.frameSent {p inPort : Nat} {bytes : Bytes} (h : d.Bounded) : (d.frameSent p inPort bytes).Bounded := by
  unfold Dev.frameSent
  split
  · exact h
  · split
    · exact .ite h.indicationDone h
    · exact h

end Sys2Proof.Machine
end

section
/-! SUPPORT. The bounds are kept by the time unit: the local clock stays within its second (chapter 10). -/

namespace Sys2Proof.Machine

open Sys2Proof

variable {d : Dev}

theorem Dev.Bounded.putSlot {i : Nat} {s : Slot} (h : d.Bounded) : (d.putSlot i s).Bounded := h.frame rfl

theorem Dev.Bounded.slotState {i : Nat} {st : SlotState} (h : d.Bounded) : (d.slotState i st).Bounded := .ite h h.putSlot.post

theorem Dev.Bounded.settleQuality (h : d.Bounded) : d.settleQuality.Bounded := .ite h (.post (h.frame rfl))

theorem Dev.Bounded.putPin {n : Nat} {q : TimePin} (h : d.Bounded) : (d.putPin n q).Bounded := h.frame rfl

theorem Dev.Bounded.missed {n k : Nat} (h : d.Bounded) : (d.missed n k).Bounded := .ite h h.countN.post

theorem Dev.Bounded.stepPin {old new n : Nat} (h : d.Bounded) : (Dev.stepPin old new d n).Bounded := by
  unfold Dev.stepPin
  extract_lets q q1 next n1 passed
  split
  · split
    · exact .ite h.putPin.missed h.putPin
    · exact h.putPin
  · exact .ite (.ite h.putPin.missed h.putPin) h.putPin

theorem Dev.Bounded.stepTo {new : Nat} (h : d.Bounded) : (d.stepTo new).Bounded := by
  unfold Dev.stepTo
  extract_lets old _ _ d1 d2
  have hd1 : d1.Bounded := { h with ns := Nat.mod_lt _ (by decide) }
  exact hd1.count.post.foldl fun _ he _ => he.stepPin

theorem Dev.Bounded.switchSlot {i cause : Nat} (h : d.Bounded) : (d.switchSlot i cause).Bounded :=
  .settleQuality (.post (.count (h.putSlot.frame rfl)))

theorem Dev.Bounded.autoSwitch {old : Dev} (h : d.Bounded) : (d.autoSwitch old).Bounded := .ite h.switchSlot h

theorem Dev.Bounded.setGm {i gm : Nat} (h : d.Bounded) : (d.setGm i gm).Bounded :=
  .ite h (.ite h.putSlot (.ite h.putSlot.count.post.slotState h.putSlot.count.post))

theorem Dev.Bounded.applySample {i : Nat} {y : SyncSample} {theta sum c : Int} {runs : Nat × Nat × SlotState} (h : d.Bounded) :
    (d.applySample i y theta sum c runs).Bounded := by
  unfold Dev.applySample
  extract_lets s inc s' d1 _ _ d2 keep _
  have hd1 : d1.Bounded := h.putSlot
  have hd2 : d2.Bounded := .ite (hd1.frame rfl) hd1
  exact .ite hd2 hd2.slotState.putSlot

theorem Dev.Bounded.takeSample {i : Nat} {y : SyncSample} (h : d.Bounded) : (d.takeSample i y).Bounded :=
  .ite h.stepTo.applySample h.applySample

theorem Dev.Bounded.gptpHeard {p : Nat} (h : d.Bounded) : (d.gptpHeard p).Bounded := .ite h.count h

theorem syncSample_bounded {i : Nat} {y : SyncSample} (h : d.Bounded) : (syncSample i y d).Bounded := by
  unfold syncSample
  extract_lets d0 s d1 d2
  have hd0 : d0.Bounded := h.gptpHeard
  have hd1 : d1.Bounded := hd0.count.setGm
  have hd2 : d2.Bounded := .ite hd1.slotState hd1
  exact .ite hd0 (.ite hd0.count hd2.takeSample.autoSwitch.settleQuality)

theorem Dev.Bounded.enterHoldover {i : Nat} (h : d.Bounded) : (d.enterHoldover i).Bounded :=
  .ite (h.putSlot.slotState.frame rfl) h.putSlot.slotState

theorem syncTimeout_bounded {i : Nat} (h : d.Bounded) : (syncTimeout i d).Bounded := by
  unfold syncTimeout
  extract_lets s d1 d2
  have hd1 : d1.Bounded := h.putSlot.count
  have hd2 : d2.Bounded := .ite hd1.enterHoldover hd1.slotState
  exact .ite h hd2.autoSwitch.settleQuality

theorem Dev.Bounded.reselect {i : Nat} {b : BmcaResult} (h : d.Bounded) : (d.reselect i b).Bounded :=
  .ite h (.ite h.setGm.putSlot.slotState (.ite h.setGm.putSlot.slotState h.setGm.putSlot))

theorem Dev.Bounded.slotsLosePort {p : Nat} (h : d.Bounded) : (d.slotsLosePort p).Bounded :=
  .settleQuality (.autoSwitch (h.foldl (fun _ he _ => .ite he.slotState.putSlot he)))

theorem Dev.Bounded.setCapable {p : Nat} {ok : Bool} (h : d.Bounded) : (d.setCapable p ok).Bounded :=
  .ite (.slotsLosePort (h.frame rfl)) (h.frame rfl)

theorem Dev.Bounded.sendGptp {p mtype len domain : Nat} {fields : List (Nat × Bytes)} {follow : Option FollowUp} (h : d.Bounded) :
    (d.sendGptp p mtype len domain fields follow).Bounded :=
  .ite (.count (.sendTs (h.frame rfl))) (.sendTs (h.frame rfl))

theorem Dev.Bounded.stampReturns {p t : Nat} {f : FollowUp} (h : d.Bounded) : (d.stampReturns p t f).Bounded := by
  unfold Dev.stampReturns
  extract_lets _
  split
  · exact h.sendGptp
  · exact h.frame rfl
  · exact h.sendGptp

theorem Dev.Bounded.pdelayResponse {p : Nat} {m : GptpMsg} (h : d.Bounded) : (d.pdelayResponse p m).Bounded :=
  .ite h (.ite (.setCapable (h.frame rfl)) (h.frame rfl))

theorem Dev.Bounded.pdelayRequest {p : Nat} {m : GptpMsg} (h : d.Bounded) : (d.pdelayRequest p m).Bounded := .ite h.sendGptp h

theorem Dev.Bounded.announced {p : Nat} {b : BmcaResult} {i : Nat} (h : d.Bounded) : (Dev.announced p b d i).Bounded :=
  .ite h (.ite h.reselect.putSlot h.reselect)

theorem gptpMessage_bounded {p : Nat} {m : GptpMsg} (h : d.Bounded) : (gptpMessage p m d).Bounded := by
  unfold gptpMessage
  extract_lets d0 mine
  have hd0 : d0.Bounded := h.gptpHeard
  split
  · exact hd0
  · split
    · exact hd0.count
    · split
      · exact hd0.pdelayResponse
      · exact .ite hd0.pdelayRequest (.ite (.settleQuality (.autoSwitch (hd0.foldl (fun _ he _ => he.announced)))) hd0)

theorem announceTimeout_bounded {i : Nat} {b : BmcaResult} (h : d.Bounded) : (announceTimeout i b d).Bounded :=
  .ite h (.ite h.putSlot h.putSlot.reselect.autoSwitch.settleQuality)

theorem pdelayTimeout_bounded {p : Nat} (h : d.Bounded) : (pdelayTimeout p d).Bounded := by
  unfold pdelayTimeout
  extract_lets t _
  split
  · exact h
  · extract_lets n d1 d2
    have hd1 : d1.Bounded := h.frame rfl
    have hd2 : d2.Bounded := hd1.countN
    exact .ite h (.ite hd2.setCapable hd2)

theorem Dev.Bounded.sendSync {p : Nat} {s : Slot} (h : d.Bounded) : (d.sendSync p s).Bounded := .ite h.sendGptp.stampReturns h.sendGptp

theorem gptpSend_bounded {i p : Nat} {kind : GptpKind} (h : d.Bounded) : (gptpSend i p kind d).Bounded := by
  unfold gptpSend
  extract_lets s master
  split
  · exact .ite h.sendGptp h
  · exact .ite h.sendSync h
  · exact .ite h.sendGptp h

theorem drainPort_bounded {instant p : Nat} (h : d.Bounded) : (drainPort instant d p).Bounded := by
  unfold drainPort
  extract_lets f _
  split
  · exact h
  · extract_lets entries d1
    have hd1 : d1.Bounded := h.frame rfl
    split
    · exact h
    · split
      · exact hd1.postAt
      · exact hd1.stampReturns
      · exact hd1
      · exact hd1.post

theorem tsFifoDrain_bounded (h : d.Bounded) : (tsFifoDrain d).Bounded := .ite h (.foldl (h.frame rfl) (fun _ he _ => drainPort_bounded he))

theorem Dev.Bounded.putBeacon {p : Nat} {b : Beacon} (h : d.Bounded) : (d.putBeacon p b).Bounded := h.frame rfl

theorem beaconDue_bounded {p : Nat} (h : d.Bounded) : (beaconDue p d).Bounded := .ite h (.putBeacon (.ite h.count h))

theorem Dev.Bounded.sendBeacon {p : Nat} (h : d.Bounded) : (d.sendBeacon p).Bounded := h.putBeacon.count.countSent.emit

theorem Dev.Bounded.driveEdge {n t : Nat} {q : TimePin} (h : d.Bounded) : (d.driveEdge n t q).Bounded := h.putPin.count

theorem timeIoEdge_bounded {n : Nat} (h : d.Bounded) : (timeIoEdge n d).Bounded := by
  unfold timeIoEdge
  extract_lets q0 ends q d1
  have hd1 : d1.Bounded := h.putPin
  split
  · exact h
  · split
    · split
      · exact .ite hd1.driveEdge hd1
      · exact hd1
    · exact .ite hd1.driveEdge hd1

theorem captureEdge_bounded {n : Nat} {rising : Bool} {held : Nat} (h : d.Bounded) : (captureEdge n rising held d).Bounded :=
  .ite h (.ite h.putPin.count (.ite h.putPin.count.postAt h.putPin.count))

theorem rtcSync_bounded (h : d.Bounded) : (rtcSync d).Bounded := by
  unfold rtcSync
  split
  · exact h
  · exact { h with rtc := (by decide : 0 < 32768) }

end Sys2Proof.Machine
end

section
/-! SUPPORT. The bounds are kept by Belfry (chapter 06). -/

namespace Sys2Proof.Machine

open Sys2Proof

variable {d : Dev}

theorem Dev.Bounded.setPreempt {p st : Nat} {f : Preempt → Preempt} (h : d.Bounded) : (d.setPreempt p st f).Bounded :=
  .ite (h.frame rfl) (.post (h.frame rfl))

theorem Dev.Bounded.sendVerify {p : Nat} (h : d.Bounded) : (d.sendVerify p).Bounded := .ite h.emit h

theorem Dev.Bounded.preemptLinkUp {p : Nat} (h : d.Bounded) : (d.preemptLinkUp p).Bounded :=
  .ite h (.ite h.setPreempt.sendVerify h.setPreempt)

theorem Dev.Bounded.preemptLinkDown {p : Nat} (h : d.Bounded) : (d.preemptLinkDown p).Bounded := .ite h h.setPreempt

theorem verifyResponse_bounded {p : Nat} (h : d.Bounded) : (verifyResponse p d).Bounded := .ite h.setPreempt h

theorem verifyTimeout_bounded {p : Nat} (h : d.Bounded) : (verifyTimeout p d).Bounded :=
  .ite h (.ite h.setPreempt.sendVerify h.setPreempt.count)

theorem Dev.Bounded.shapersTick (h : d.Bounded) : d.shapersTick.Bounded := h.frame rfl

theorem Dev.Bounded.markWait {p : Nat} {f : Stored} (h : d.Bounded) : (d.markWait p f).Bounded := .ite h (.count (h.frame rfl))

theorem Dev.Bounded.select {p : Nat} {ok : Nat → Stored → Bool} {l : List Nat} (h : d.Bounded) : (Dev.select p ok l d).1.Bounded := by
  induction l generalizing d with
  | nil => exact h
  | cons c l ih =>
    unfold Dev.select
    split
    · exact ih h
    · split
      · exact ih h
      · split
        · exact ih h.markWait
        · split
          · exact ih h
          · exact h

theorem Dev.Bounded.dropCopy {id : Nat} {k : Copy} (h : d.Bounded) : (d.dropCopy id k).Bounded := h.modStored.settleFabric

theorem Dev.Bounded.cbsStart {p c : Nat} (h : d.Bounded) : (d.cbsStart p c).Bounded := by
  unfold Dev.cbsStart
  extract_lets _
  split
  · exact h
  · exact h.frame rfl

theorem Dev.Bounded.observeStart {p c time : Nat} (h : d.Bounded) : (d.observeStart p c time).Bounded := by
  unfold Dev.observeStart
  extract_lets _
  split
  · exact h
  · extract_lets o'
    exact h.frame rfl

theorem Dev.Bounded.putSending {p : Nat} {s : Sending} (h : d.Bounded) : (d.putSending p s).Bounded := h.frame rfl

theorem Dev.Bounded.startCopy {p : Nat} {f : Stored} {k : Copy} (h : d.Bounded) : (d.startCopy p f k).Bounded := by
  unfold Dev.startCopy
  extract_lets mark s0 s d1 _ d2 d3 d4
  have hd1 : d1.Bounded := h.modStored.putSending
  have hd2 : d2.Bounded := hd1.frame rfl
  have hd3 : d3.Bounded := hd2.cbsStart.observeStart.modPort
  have hd4 : d4.Bounded := by
    unfold d4
    split
    · exact .ite hd3.tsRecord hd3
    · exact hd3
  exact hd4.settleFabric

theorem Dev.Bounded.dequeue {p : Nat} {x : Stored × Copy} (h : d.Bounded) : (d.dequeue p x).Bounded :=
  .ite h.dropCopy.count (.ite (.ite h.startCopy.modPort h.putSending) h.startCopy)

theorem Dev.Bounded.startOffered {p : Nat} {s : Sending} (h : d.Bounded) : (d.startOffered p s).Bounded := by
  unfold Dev.startOffered
  extract_lets _ d1
  have hd1 : d1.Bounded := h.frame rfl
  split
  · exact hd1
  · split
    · exact hd1.startCopy
    · exact hd1

theorem Dev.Bounded.interrupt {p : Nat} {s : Sending} (h : d.Bounded) : (d.interrupt p s).Bounded := h.frame rfl

theorem Dev.Bounded.resume {p : Nat} {s : Sending} (h : d.Bounded) : (d.resume p s).Bounded := .count (.putSending (h.frame rfl))

theorem Dev.Bounded.collide {p : Nat} {x : Stored × Copy} (h : d.Bounded) : (d.collide p x).Bounded :=
  .ite h.count.modPort.dropCopy.count h.count.modPort

theorem Dev.Bounded.selectExpress {p : Nat} (h : d.Bounded) : (d.selectExpress p).1.Bounded := h.select

theorem Dev.Bounded.startIdle {p : Nat} {collision : Bool} (h : d.Bounded) : (d.startIdle p collision).Bounded := by
  unfold Dev.startIdle
  extract_lets cut r t r'
  have hr : r.1.Bounded := h.selectExpress
  have ht : t.1.Bounded := hr.select
  have hr' : r'.1.Bounded := h.select
  split
  · split
    · exact hr.dequeue
    · exact .ite hr hr.resume
    · split
      · exact hr
      · split
        · exact ht.dequeue
        · exact ht
  · split
    · clear_value cut
      split
      · exact h.resume
      · exact hr'
    · clear_value cut
      split
      · exact h.resume
      · exact .ite hr'.collide hr'.dequeue

theorem Dev.Bounded.startExpress {p : Nat} {s : Sending} (h : d.Bounded) : (d.startExpress p s).Bounded := by
  unfold Dev.startExpress
  extract_lets r
  have hr : r.1.Bounded := h.selectExpress
  split
  · split
    · exact hr.interrupt.dequeue
    · exact .ite hr.interrupt hr
  · exact h

theorem frameTxStart_bounded {p : Nat} {collision : Bool} (h : d.Bounded) : (frameTxStart p collision d).Bounded := by
  unfold frameTxStart
  split
  · split
    · exact h
    · split
      · exact h.dequeue
      · exact h
  · split
    · exact h
    · split
      · exact .ite h.sendBeacon h.startIdle
      · exact h.startExpress

theorem Dev.Bounded.stomp {p : Nat} {bytes : Bytes} {lost : Bool} (h : d.Bounded) : (d.stomp p bytes lost).Bounded :=
  .addTxWire (.count (.ite h h.emit))

theorem Dev.Bounded.sentCopy {p : Nat} {s : Sending} (h : d.Bounded) : (d.sentCopy p s).Bounded := by
  unfold Dev.sentCopy
  extract_lets other _ d1
  have hd1 : d1.Bounded := h.frame rfl
  exact hd1.modStored.settleFabric

theorem Dev.Bounded.burstGoesOn {p : Nat} (h : d.Bounded) : (d.burstGoesOn p).Bounded := .ite h.modPort h

theorem Dev.Bounded.startGap {p tc : Nat} (h : d.Bounded) : (d.startGap p tc).Bounded := .ite h h.modPort

theorem Dev.Bounded.endSend {p : Nat} {s : Sending} {f : Stored} (h : d.Bounded) : (d.endSend p s f).Bounded := by
  unfold Dev.endSend
  extract_lets bytes d1 d2
  have hd1 : d1.Bounded := h.sentCopy.startGap
  have hd2 : d2.Bounded := hd1.countSent
  exact .ite hd1.stomp (.ite hd1.stomp (.ite hd2 (.ite hd2.addTxWire hd2.emit.addTxWire.burstGoesOn.frameSent)))

theorem txComplete_bounded {p : Nat} (h : d.Bounded) : (txComplete p d).Bounded := by
  unfold txComplete
  extract_lets _
  split
  · exact h
  · split
    · exact h
    · split
      · exact h.frame rfl
      · exact .ite h h.endSend

theorem Dev.Bounded.loseOne {p : Nat} {s : Sending} (h : d.Bounded) : (Dev.loseOne p d s).Bounded := by
  unfold Dev.loseOne
  extract_lets mark _
  split
  · exact h
  · exact .ite h.endSend (h.frame rfl)

theorem Dev.Bounded.loseSending {p : Nat} (h : d.Bounded) : (d.loseSending p).Bounded := .foldl (h.frame rfl) (fun _ he _ => he.loseOne)

theorem Dev.Bounded.endLost {id : Nat} (h : d.Bounded) : (d.endLost id).Bounded := by
  unfold Dev.endLost
  refine .foldl h (fun _ he _ => ?_)
  split
  · exact he.endSend
  · exact he

theorem Dev.Bounded.stageCut {id : Nat} {k : Copy} (h : d.Bounded) : (d.stageCut id k).2.Bounded := by
  unfold Dev.stageCut
  extract_lets k1 d1 _
  have hd1 : d1.Bounded := h.modStored
  split
  · exact h
  · dsimp only
    exact hd1.frame rfl

theorem cutThroughStart_bounded {inPort : Nat} (h : d.Bounded) : (cutThroughStart inPort d).Bounded := by
  unfold cutThroughStart
  split
  · exact h
  · split
    · exact h
    · split
      · exact h
      · extract_lets c r
        have hr : r.2.Bounded := h.stageCut
        split
        · exact h
        · split
          · exact h
          · split
            · exact h
            · split
              · exact h
              · split
                · exact h.markWait
                · split
                  · exact h
                  · split
                    · exact hr.dequeue
                    · exact hr

theorem Dev.Bounded.driveGates {p : Nat} (h : d.Bounded) : (d.driveGates p).Bounded := by
  unfold Dev.driveGates
  extract_lets g
  split
  · exact h.putGates
  · split
    · exact h.putGates
    · split
      · exact h
      · extract_lets op hold d1 d2
        have hd1 : d1.Bounded := h.putGates
        have hd2 : d2.Bounded := hd1.count
        split
        · split
          · exact .ite hd2.interrupt hd2
          · exact hd2
        · exact hd1

theorem gateSwitch_bounded {p : Nat} (h : d.Bounded) : (gateSwitch p d).Bounded := by
  unfold gateSwitch
  extract_lets g
  split
  · exact h
  · extract_lets len d1
    have hd1 : d1.Bounded := h.putGates
    exact .ite h hd1.count.post.driveGates

theorem belfryCmp_bounded {port mask : Nat} (h : d.Bounded) : (belfryCmp port mask d).Bounded := .ite h h.faultF2

theorem Dev.Bounded.observeClass {p c : Nat} (h : d.Bounded) : (Dev.observeClass p d c).Bounded := by
  unfold Dev.observeClass
  extract_lets _
  split
  · exact h
  · extract_lets r all o' d1
    have hd1 : d1.Bounded := h.frame rfl
    exact .ite h (.ite hd1.postLimited hd1)

theorem queueObserve_bounded {p : Nat} (h : d.Bounded) : (queueObserve p d).Bounded := by
  unfold queueObserve
  extract_lets _
  split
  · exact h
  · extract_lets d1
    have hd1 : d1.Bounded := h.frame rfl
    exact .ite h (hd1.foldl (fun _ he _ => he.observeClass))

theorem frerReset_bounded {r : Nat} (h : d.Bounded) : (frerReset r d).Bounded := by
  unfold frerReset
  extract_lets _
  split
  · exact .ite (h.frame rfl) h
  · exact h

theorem frerLatent_bounded {r : Nat} (h : d.Bounded) : (frerLatent r d).Bounded := by
  unfold frerLatent
  extract_lets _
  split
  · extract_lets e' d1 short
    have hd1 : d1.Bounded := h.frame rfl
    exact .ite h (.ite hd1.post hd1)
  · exact h

end Sys2Proof.Machine
end

section
/-! SUPPORT. The bounds are kept by the fabric commands and the capture ring (chapter 04). -/

namespace Sys2Proof.Machine

open Sys2Proof

variable {d : Dev}

theorem Dev.Bounded.passOut {p : Nat} {x : Stored × Copy} (h : d.Bounded) : (d.passOut p x).Bounded :=
  .ite h.dropCopy.count h.dropCopy.countSent

theorem CaptureRing.place_wf {c c' : CaptureRing} {now : Nat} {r : Bytes} (h : Memory.wf c.mem = true) (hc : c.place now r = some c') :
    Memory.wf c'.mem = true := by
  unfold CaptureRing.place at hc
  extract_lets wraps pad m1 at_ next at hc
  have hm1 : Memory.wf m1 = true := by
    unfold m1
    split
    · exact Memory.wf_writeN _ _ _ h
    · exact h
  split at hc
  · cases hc
  · cases hc
    exact Memory.wf_writeN _ _ _ hm1

theorem captureWrite_bounded (h : d.Bounded) : (captureWrite d).Bounded := by
  unfold captureWrite
  extract_lets c
  split
  · exact h
  · split
    · exact h.passOut
    · split
      · rename_i c' hc
        refine .transfer (fun e he => ?_) h
        extract_lets e1
        have he1 : e1.Bounded := he.passOut
        clear_value e1
        refine .count ?_
        exact { he1 with capture := c.place_wf h.capture hc }
      · extract_lets d2 _
        have hd2 : d2.Bounded := h.passOut.count
        clear_value d2
        refine .ite hd2 (.post ?_)
        exact { hd2 with capture := h.capture }

theorem applyFabBuffer_bounded {bs : Bytes} (h : d.Bounded) : (applyFabBuffer bs d).Bounded := .levelCheck (h.frame rfl)

theorem applyFabMirror_bounded {bs : Bytes} (h : d.Bounded) : (applyFabMirror bs d).Bounded := h.frame rfl

theorem applyFabCapture_bounded {bs : Bytes} (h : d.Bounded) : (applyFabCapture bs d).Bounded := h.frame rfl

theorem applyFabLag_bounded {bs : Bytes} (h : d.Bounded) : (applyFabLag bs d).Bounded := by
  unfold applyFabLag
  extract_lets g d1 _ old ms same l _
  have hd1 : d1.Bounded := h.foldl (fun _ he _ => he.putFrames)
  exact .ite (hd1.frame rfl) (.lagRemap (h.frame rfl))

theorem applyFabHopper_bounded {bs : Bytes} (h : d.Bounded) : (applyFabHopper bs d).Bounded := h.putPool (h.pool _)

theorem fabCaptureAck_bounded {rq : Req} (h : d.Bounded) : (fabCaptureAck rq d).Bounded := by
  unfold fabCaptureAck
  refine .serve (fun _ he _ _ => ?_) h
  extract_lets c v rest _
  exact withLayout_bounded he (.ite (ansErr_bounded he) (.ite (ansErr_bounded he) (ansOk_bounded (he.frame rfl))))

theorem fabLagStatus_bounded {rq : Req} (h : d.Bounded) : (fabLagStatus rq d).Bounded :=
  .serve (fun _ he _ _ => withLayout_bounded he (ansOk_bounded he)) h

theorem fabHopperStatus_bounded {rq : Req} (h : d.Bounded) : (fabHopperStatus rq d).Bounded :=
  .serve (fun _ he _ _ => withLayout_bounded he (ansOk_bounded he)) h

theorem fabHopperAlloc_bounded {rq : Req} (h : d.Bounded) : (fabHopperAlloc rq d).Bounded := by
  unfold fabHopperAlloc
  refine .serve (fun _ he _ _ => ?_) h
  extract_lets r
  have hr : r.2.Bounded := he.hopperAlloc
  refine withLayout_bounded he ?_
  split
  · exact ansOk_bounded hr
  · exact ansErrD_bounded hr

theorem fabHopperFree_bounded {rq : Req} (h : d.Bounded) : (fabHopperFree rq d).Bounded := by
  unfold fabHopperFree
  refine .serve (fun _ he _ _ => withLayout_bounded he ?_) h
  split
  · exact ansErr_bounded he.noteBadHandle
  · split
    · exact ansErr_bounded he
    · exact .ite (ansOk_bounded he.dropRefs) (ansErr_bounded he)

theorem fabQueueStatus_bounded {rq : Req} (h : d.Bounded) : (fabQueueStatus rq d).Bounded :=
  .serve (fun _ he _ _ => withLayout_bounded he (ansOk_bounded he)) h

end Sys2Proof.Machine
end

section
/-! SUPPORT. The bounds are kept by Lauter (chapter 05). -/

namespace Sys2Proof.Machine

open Sys2Proof

variable {d : Dev}

theorem Dev.Bounded.putFdb {t : Tab Fdb} (h : d.Bounded) : (d.putFdb t).Bounded := h.frame rfl

theorem Dev.Bounded.putConns {t : Tab Conn} (h : d.Bounded) : (d.putConns t).Bounded := h.frame rfl

theorem trackMiss_bounded {g : Grist} {c : Carry} {held : Option Nat} (h : d.Bounded) : (trackMiss d g c held).2.Bounded := by
  unfold trackMiss
  extract_lets k bucket slot
  split
  · exact h
  · split
    · clear_value slot
      split
      · dsimp only
        exact h.putConns.count
      · dsimp only
        exact h.count.postLimited
    · split
      · dsimp only
        exact h.count
      · dsimp only
        exact h.count

theorem zoneMiss_bounded {g : Grist} {c : Carry} {held : Option Nat} (h : d.Bounded) : (zoneMiss d g c held).2.Bounded := by
  unfold zoneMiss
  extract_lets m _
  split
  · exact h
  · exact trackMiss_bounded h
  · dsimp only
    exact h.count

theorem l3l4_bounded {g : Grist} {c : Carry} (h : d.Bounded) : (l3l4 d g c).2.Bounded := by
  unfold l3l4
  split
  · exact zoneMiss_bounded h
  · split
    · exact zoneMiss_bounded h
    · extract_lets o q zones
      split
      · split
        · dsimp only
          exact h.putConns
        · dsimp only
          exact h.count
      · exact zoneMiss_bounded h

theorem lagCopy_bounded {g : Grist} {c : Carry} {slice grp : Nat} (h : d.Bounded) : (lagCopy d g c slice grp).2.Bounded := by
  unfold lagCopy
  split
  · exact h
  · dsimp only
    exact h.count

theorem floodCopies_bounded {g : Grist} {c : Carry} {slice : Nat} (h : d.Bounded) : (floodCopies d g c slice).2.Bounded := by
  unfold floodCopies
  extract_lets mask ports own lags plain
  refine .foldl_snd h (fun _ he _ => ?_)
  extract_lets r
  have hr : r.2.Bounded := lagCopy_bounded he
  exact hr

theorem forwardCopies_bounded {g : Grist} {c : Carry} {slice : Nat} (h : d.Bounded) : (forwardCopies d g c slice).2.Bounded := by
  unfold forwardCopies
  split
  · exact h
  · split
    · exact h
    · split
      · exact lagCopy_bounded h
      · exact floodCopies_bounded (.ite h.count h)

theorem countReason_bounded {reason : Nat} (h : d.Bounded) : (countReason d reason).Bounded := by
  unfold countReason
  split
  · exact h.count
  · exact h.count
  · exact h.count
  · exact h.count
  · exact h.count
  · exact h

theorem Dev.Bounded.spireCopies {info : FrameInfo} {n : Nat} (h : d.Bounded) : (Dev.spireCopies info n d).2.Bounded := by
  induction n generalizing d with
  | zero => exact h
  | succ n ih =>
    unfold Dev.spireCopies
    extract_lets t _ d1 r
    have hd1 : d1.Bounded := h.frame rfl
    split
    · exact ih hd1.count
    · exact ih hd1.count

theorem Dev.Bounded.finishVerdict {bytes : Bytes} {v : Verdict} {receiving : Bool} (h : d.Bounded) :
    (d.finishVerdict bytes v receiving).Bounded :=
  .ite h.spireCopies.enqueueDropped (.enqueue (.ite h.spireCopies h.spireCopies.count))

theorem Dev.Bounded.lauterRun {a : Arrived} {g : Grist} {handle : Nat} (h : d.Bounded) : (d.lauterRun a g handle).2.2.Bounded := by
  unfold Dev.lauterRun
  extract_lets r0 d1 d1' genBad _ c0 c1 r2 d2 c2 r3 c3 pr c4 c5 slice yellow fc d4 d5 d6 info v learn
  have hd1 : d1.Bounded := .ite h.count h
  have hd1' : d1'.Bounded := .ite hd1.count hd1
  have hd2 : d2.Bounded := by
    unfold d2
    split
    · exact hd1'.count
    · exact hd1'
  have hr3 : r3.2.Bounded := by
    unfold r3
    split
    · exact hd2
    · exact l3l4_bounded hd2
  have hfc : fc.2.Bounded := forwardCopies_bounded hr3
  have hd4 : d4.Bounded := countReason_bounded hfc
  have hd5 : d5.Bounded := .ite hd4.postLimited hd4
  have hd6 : d6.Bounded := .ite hd5.faultF1.post hd5
  exact hd6

theorem Dev.Bounded.learnNow {l : Learn} {vid : Nat} (h : d.Bounded) : (d.learnNow l vid).Bounded := by
  unfold Dev.learnNow
  extract_lets learns limit b
  split
  · exact .ite h.putFdb (.ite h.putFdb.count h.putFdb)
  · split
    · exact h
    · split
      · exact h.count
      · split
        · exact h.putFdb.count
        · exact h.count.postLimited

theorem Dev.Bounded.police {q len : Nat} {v : Verdict} (h : d.Bounded) : (d.police q len v).2.Bounded := by
  unfold Dev.police
  extract_lets need _ put _
  have hput : ∀ (c : Nat), (put c).Bounded := by
    intro _
    exact h.frame rfl
  split
  · exact h
  · extract_lets full old have_ d1
    have hd1 : d1.Bounded := (hput _).count
    split
    · dsimp only
      exact (hput _).count
    · split
      · exact hd1
      · exact hd1

theorem Dev.Bounded.settleVerdict {bytes : Bytes} {v : Verdict} (h : d.Bounded) : (d.settleVerdict bytes v).Bounded := by
  unfold Dev.settleVerdict
  split
  · exact h.finishVerdict
  · extract_lets r
    have hr : r.2.Bounded := h.police
    exact hr.finishVerdict

theorem Dev.Bounded.streamEnd {a : Arrived} {g : Grist} {h : Nat} {e : Stream} (hd : d.Bounded) : (d.streamEnd a g h e).Bounded := by
  unfold Dev.streamEnd
  extract_lets f info r d1
  have hf : f.2.Bounded := hd.filter
  have hr : r.2.2.Bounded := hf.lauterRun
  have hd1 : d1.Bounded := by
    unfold d1
    split
    · exact hr.learnNow
    · exact hr
  split
  · exact hf
  · exact .ite hf.count.enqueue hd1.settleVerdict

theorem validEnd_bounded {id : Nat} (h : d.Bounded) : (validEnd id d).Bounded := by
  unfold validEnd
  extract_lets _ d1
  have hd1 : d1.Bounded := h.frame rfl
  split
  · exact h
  · extract_lets g vid d2
    have hd2 : d2.Bounded := by
      unfold d2
      split
      · exact hd1.learnNow
      · exact hd1
    split
    · exact hd1.streamEnd
    · split
      · extract_lets _
        exact hd2.settleVerdict
      · exact hd2

theorem Dev.Bounded.addEnd {a : Arrived} {stream : Option (Nat × Stream)} {v : Option Verdict} {l : Option Learn} {receiving : Bool}
    (h : d.Bounded) : (d.addEnd a stream v l receiving).Bounded :=
  h.frame rfl

theorem Dev.Bounded.classify {a : Arrived} (h : d.Bounded) : (d.classify a).Bounded := by
  unfold Dev.classify
  extract_lets g d0 info r d1
  have hd0 : d0.Bounded := .ite h.count h
  have hr : r.2.2.Bounded := hd0.lauterRun
  have hd1 : d1.Bounded := hr.finishVerdict
  split
  · exact hd0
  · split
    · exact hd0.enqueue
    · split
      · exact .ite hd0.count hd0
      · split
        · exact hd0.count.addEnd
        · split
          · exact hr.addEnd
          · split
            · exact hd1.addEnd
            · exact hd1

theorem classifyArriving_bounded {f : RxFrame} (h : d.Bounded) : (classifyArriving f d).Bounded := by
  unfold classifyArriving
  extract_lets a g d0 r id d1 d2 _
  have hd0 : d0.Bounded := .ite h.count h
  have hr : r.2.2.Bounded := hd0.lauterRun
  have hd1 : d1.Bounded := hr.finishVerdict
  have hd2 : d2.Bounded := hd1.addEnd
  split
  · exact h
  · split
    · exact hd0.count.addEnd
    · exact .ite (.ite (hd2.frame rfl) hd2) hr.addEnd

theorem frameClassify_bounded {src : ClassifySrc} (h : d.Bounded) : (frameClassify src d).Bounded := by
  unfold frameClassify
  extract_lets _
  split
  · split
    · exact h
    · exact .classify (h.frame rfl)
  · exact classifyArriving_bounded h

theorem Dev.Bounded.recircDone {f : Stored} (h : d.Bounded) : (d.recircDone f).Bounded := by
  unfold Dev.recircDone
  extract_lets a d1
  have hd1 : d1.Bounded := h.modStored.settleFabric
  split
  · rename_i x d11 heq
    have hd11 : d11.Bounded := hd1.fifoPut _ heq
    exact hd11
  · rename_i x heq
    exact hd1.count

theorem recircMove_bounded (h : d.Bounded) : (recircMove d).Bounded := by
  unfold recircMove
  extract_lets _ begin
  split
  · split
    · exact h.frame rfl
    · exact .ite (.recircDone (h.frame rfl)) (h.frame rfl)
  · split
    · exact h
    · extract_lets d1 _ d2 _
      have hd1 : d1.Bounded := h.modStored
      have hd2 : d2.Bounded := hd1.frame rfl
      exact .ite hd2.recircDone (hd2.frame rfl)

theorem fdbAgeScan_bounded (h : d.Bounded) : (fdbAgeScan d).Bounded := .ite h (.countN (h.frame rfl))

theorem ctAgeScan_bounded (h : d.Bounded) : (ctAgeScan d).Bounded := .ite h (.countN (h.frame rfl))

theorem bindingPurge_bounded {zone : Nat} (h : d.Bounded) : (bindingPurge zone d).Bounded := .ite h (h.frame rfl)

theorem Dev.Bounded.bindZone {session : Nat} {b : Binding} (h : d.Bounded) : (d.bindZone session b).Bounded := h.frame rfl

theorem Dev.Bounded.unbindZone {session : Nat} (h : d.Bounded) : (d.unbindZone session).Bounded := by
  unfold Dev.unbindZone
  extract_lets _
  split
  · exact h
  · exact h.frame rfl

theorem Dev.Bounded.fdbFlushPort {p : Nat} (h : d.Bounded) : (d.fdbFlushPort p).Bounded := h.putFdb

end Sys2Proof.Machine
end

section
/-! SUPPORT. The bounds are kept by ports and links (chapter 03). -/

namespace Sys2Proof.Machine

open Sys2Proof

variable {d : Dev}

theorem Dev.Bounded.busViolation {p ident reason : Nat} (h : d.Bounded) : (d.busViolation p ident reason).Bounded := h.count.postLimited

theorem Dev.Bounded.watchSegment {f : RxFrame} (h : d.Bounded) : (d.watchSegment f).Bounded := by
  unfold Dev.watchSegment
  split
  · exact h
  · split
    · exact h
    · extract_lets d1
      have hd1 : d1.Bounded := .ite h.busViolation h
      exact .ite hd1.busViolation hd1

theorem Dev.Bounded.frameKeepAlive {p : Nat} {bs : Bytes} (h : d.Bounded) : (d.frameKeepAlive p bs).Bounded := by
  unfold Dev.frameKeepAlive
  split
  · exact h
  · split
    · exact .ite h.keepAlive h
    · exact h

theorem Dev.Bounded.sleepingFrame {p : Nat} (h : d.Bounded) : (d.sleepingFrame p).2.Bounded := by
  unfold Dev.sleepingFrame
  extract_lets d1
  have hd1 : d1.Bounded := by
    unfold d1
    split
    · exact h.wake
    · exact h
  split
  · split
    · dsimp only
      exact hd1.count
    · exact h
  · split
    · split
      · split
        · dsimp only
          exact h.wake
        · exact h
      · exact h
    · split
      · dsimp only
        exact h.count
      · exact h

theorem Dev.Bounded.countReceived {p : Nat} {bs : Bytes} (h : d.Bounded) : (d.countReceived p bs).Bounded := h.count.countN.count.count

theorem Dev.Bounded.rxNotes {f : RxFrame} (h : d.Bounded) : (d.rxNotes f).Bounded := by
  unfold Dev.rxNotes
  extract_lets d1 b d2
  have hd1 : d1.Bounded := h.modPort.countN
  have hd2 : d2.Bounded := hd1.countN.countN
  exact .ite (.ite hd2.count (.ite hd2.count hd2)) hd1

theorem Dev.Bounded.dropWaiting {id : Nat} (h : d.Bounded) : (d.dropWaiting id).Bounded := h.modStored.settleFabric

theorem Dev.Bounded.endPending {id : Nat} {got : Option (Bytes × Nat)} {port : Nat} (h : d.Bounded) : (d.endPending id got port).Bounded :=
  h.frame rfl

theorem Dev.Bounded.endCut {f : RxFrame} {id : Nat} (h : d.Bounded) : (d.endCut f id).Bounded := by
  unfold Dev.endCut
  extract_lets good done d1 d2
  have hd1 : d1.Bounded := h.modStored.endPending
  have hd2 : d2.Bounded := .ite hd1.countReceived.frameKeepAlive.settleFabric hd1.count.dropWaiting
  exact hd2.endLost

theorem Dev.Bounded.dropPending {p : Nat} (h : d.Bounded) : (d.dropPending p).Bounded := h.endPending

theorem Dev.Bounded.endReception {p : Nat} (h : d.Bounded) : (d.endReception p).Bounded := by
  unfold Dev.endReception
  extract_lets bad
  split
  · exact h.dropPending
  · exact h.modStored.endPending.count.dropWaiting.endLost

theorem Dev.Bounded.acceptFrame {f : RxFrame} (h : d.Bounded) : (d.acceptFrame f).Bounded := by
  unfold Dev.acceptFrame
  extract_lets a d1
  have hd1 : d1.Bounded := h.frameKeepAlive
  split
  · rename_i x d11 heq
    have hd11 : d11.Bounded := hd1.fifoPut _ heq
    exact hd11.countReceived
  · rename_i x heq
    exact hd1.count

theorem cutOversize_bounded {p sent : Nat} {bytes : Bytes} (h : d.Bounded) : (cutOversize p sent bytes d).Bounded := by
  unfold cutOversize
  extract_lets fill
  split
  · exact h
  · extract_lets d1 on
    have hd1 : d1.Bounded := h.modStored.count.endPending.dropWaiting
    split
    · exact hd1
    · exact hd1.foldl (fun _ he _ => he.sentCopy.stomp)

theorem Dev.Bounded.acceptPending {f : RxFrame} (h : d.Bounded) : (d.acceptPending f).Bounded :=
  .ite h.frameKeepAlive.endPending.countReceived h.frameKeepAlive.dropPending.count

theorem macFrame_bounded {f : RxFrame} (h : d.Bounded) : (macFrame f d).Bounded := by
  unfold macFrame
  extract_lets q d1 limit r
  have hd1 : d1.Bounded := h.rxNotes.watchSegment
  have hr : r.2.Bounded := hd1.sleepingFrame
  split
  · exact h
  · split
    · exact .ite h.sleepingFrame h
    · split
      · exact h
      · split
        · exact .ite (cutOversize_bounded hd1) hd1.endCut
        · split
          · exact hd1.dropPending.count
          · exact .ite hr.dropPending (.ite hr.acceptPending hr.acceptFrame)

theorem Dev.Bounded.holdEnds {p : Nat} (h : d.Bounded) : (d.holdEnds p).Bounded := h.flushPort.modPort.fdbFlushPort.post

theorem Dev.Bounded.goDown {p cause : Nat} (h : d.Bounded) : (d.goDown p cause).Bounded := by
  unfold Dev.goDown
  extract_lets hold d1 d2
  have hd1 : d1.Bounded := h.endReception.loseSending.modPort
  have hd2 : d2.Bounded := hd1.count.post.preemptLinkDown.lagPort
  exact .ite hd2.holdEnds hd2

theorem linkDown_bounded {p cause : Nat} (h : d.Bounded) : (linkDown p cause d).Bounded := .ite h.goDown h

theorem flapHoldExpiry_bounded {p : Nat} (h : d.Bounded) : (flapHoldExpiry p d).Bounded := .ite h.holdEnds h

theorem Dev.Bounded.resumePort {p : Nat} (h : d.Bounded) : (d.resumePort p).Bounded := h.putFrames.countN.settleFabric.count

theorem Dev.Bounded.phyFault {p reason : Nat} (h : d.Bounded) : (d.phyFault p reason).Bounded := h.count.post

theorem Dev.Bounded.mdioQueue {p kind : Nat} (h : d.Bounded) : (d.mdioQueue p kind).Bounded := .ite h (h.frame rfl)

theorem Dev.Bounded.phyAct {p kind : Nat} {a : PhyAction} (h : d.Bounded) : (d.phyAct p kind a).Bounded := .ite h.emit.mdioQueue h

theorem Dev.Bounded.phySetup {p : Nat} (h : d.Bounded) : (d.phySetup p).Bounded := by
  unfold Dev.phySetup
  extract_lets q d1 ident d2
  have hd1 : d1.Bounded := .ite h.emit h
  have hd2 : d2.Bounded := .modPort (hd1.frame rfl)
  exact .ite hd1 (.ite hd2.mdioQueue.phyFault hd2.phyAct)

theorem Dev.Bounded.phyRestrict {p level : Nat} (h : d.Bounded) : (d.phyRestrict p level).Bounded := by
  unfold Dev.phyRestrict
  extract_lets q
  split
  · exact h.phyAct
  · exact h.phyAct

theorem Dev.Bounded.stepTo_ {p level : Nat} (h : d.Bounded) : (d.stepTo_ p level).Bounded := .phyRestrict (.modPort (.ite h.goDown h))

theorem Dev.Bounded.stepDone {p old new level : Nat} (h : d.Bounded) : (d.stepDone p old new level).Bounded :=
  .ite h.modPort h.modPort.count.post

theorem Dev.Bounded.goUp {p speed : Nat} (h : d.Bounded) : (d.goUp p speed).Bounded := by
  unfold Dev.goUp
  extract_lets q d1 d2 d3 d4 d5 d6
  have hd1 : d1.Bounded := h.modPort
  have hd2 : d2.Bounded := hd1.post
  have hd3 : d3.Bounded := .ite hd2.resumePort hd2
  have hd4 : d4.Bounded := by
    unfold d4
    split
    · exact hd3.stepDone
    · exact hd3
  have hd5 : d5.Bounded := hd4.preemptLinkUp.lagPort
  have hd6 : d6.Bounded := hd5.modPort
  exact .ite (.ite hd6.stepTo_ hd6) hd5

theorem linkUp_bounded {p : Nat} {i : LinkInfo} (h : d.Bounded) : (linkUp p i d).Bounded := by
  unfold linkUp
  extract_lets q d0
  have hd0 : d0.Bounded := h.mdioQueue
  split
  · exact h
  · split
    · exact h
    · split
      · exact hd0.phyFault
      · extract_lets d1
        have hd1 : d1.Bounded := hd0.goUp
        exact .ite hd1.twinPortUp hd1

theorem utilisationEnd_bounded {p : Nat} (h : d.Bounded) : (utilisationEnd p d).Bounded := by
  unfold utilisationEnd
  extract_lets q d1
  have hd1 : d1.Bounded := h.modPort
  split
  · exact h
  · split
    · exact hd1
    · split
      · exact hd1.stepTo_
      · split
        · exact hd1
        · exact .ite (.ite hd1.stepTo_ hd1.modPort) hd1.modPort

theorem stepUpQueue_bounded {p : Nat} (h : d.Bounded) : (stepUpQueue p d).Bounded := by
  unfold stepUpQueue
  extract_lets q
  split
  · exact h
  · split
    · exact .ite h.modPort h
    · exact .ite h.stepTo_ h

theorem retrainFail_bounded {p : Nat} (h : d.Bounded) : (retrainFail p d).Bounded := by
  unfold retrainFail
  split
  · exact .ite h.phyFault.stepTo_ h
  · exact h

theorem phyPoll_bounded {faults : List Nat} (h : d.Bounded) : (phyPoll faults d).Bounded :=
  .foldl (h.foldl (fun _ he _ => .ite he.mdioQueue he)) (fun _ he _ => .ite he.phyFault he)

theorem Dev.Bounded.setPlcaStart {p : Nat} {t : Option Nat} (h : d.Bounded) : (d.setPlcaStart p t).Bounded := .ite h.putBeacon h

theorem Dev.Bounded.setPlca {p : Nat} {ok : Bool} (h : d.Bounded) : (d.setPlca p ok).Bounded := .ite h h.modPort.post

theorem plcaBeacon_bounded {p : Nat} (h : d.Bounded) : (plcaBeacon p d).Bounded :=
  .ite h (.ite h.count.setPlcaStart.setPlca h.count.setPlcaStart.setPlca.goUp)

theorem plcaTimeout_bounded {p : Nat} (h : d.Bounded) : (plcaTimeout p d).Bounded :=
  .ite h (.ite h.count.setPlcaStart.setPlca.goDown h.count.setPlcaStart.setPlca)

theorem plcaCoordinator_bounded {p : Nat} (h : d.Bounded) : (plcaCoordinator p d).Bounded := .ite h.count.setPlcaStart h

theorem plcaOpportunity_bounded {p : Nat} (h : d.Bounded) : (plcaOpportunity p d).Bounded := by
  unfold plcaOpportunity
  extract_lets q beacon d1 d2
  have hd1 : d1.Bounded := h.modPort
  have hd2 : d2.Bounded := .ite hd1.sendBeacon hd1
  split
  · exact h
  · split
    · exact .ite hd2.startOffered.count hd2
    · exact .ite hd2.count hd2

theorem Dev.Bounded.disablePort {p : Nat} (h : d.Bounded) : (d.disablePort p).Bounded := by
  unfold Dev.disablePort
  extract_lets d1 d2
  have hd1 : d1.Bounded := .ite h.endReception.loseSending.modPort.count.post.preemptLinkDown h
  have hd2 : d2.Bounded := hd1.phyAct.modPort
  exact hd2.flushPort.lagPort.fdbFlushPort.driveGates

theorem applyPortCfg_bounded {bs : Bytes} (h : d.Bounded) : (applyPortCfg bs d).Bounded := by
  unfold applyPortCfg
  extract_lets p old admin limit d1 d2
  have hd1 : d1.Bounded := h.modPort
  have hd2 : d2.Bounded := hd1.modPort
  split
  · exact h.modPort
  · split
    · exact h.modPort
    · exact .ite hd1.disablePort (.ite hd1.phySetup.driveGates (.ite (.phySetup (.ite hd2.goDown hd2)) hd1))

theorem applyPortFilter_bounded {bs : Bytes} (h : d.Bounded) : (applyPortFilter bs d).Bounded := h.modPort

theorem applyPortPlca_bounded {bs : Bytes} (h : d.Bounded) : (applyPortPlca bs d).Bounded :=
  .ite h.modPort.setPlcaStart.goDown h.modPort.setPlcaStart

theorem portStatus_bounded {rq : Req} (h : d.Bounded) : (portStatus rq d).Bounded :=
  .serve (fun _ he _ _ => withLayout_bounded he (ansOk_bounded he)) h

theorem portMdio_bounded {rq : Req} (h : d.Bounded) : (portMdio rq d).Bounded := by
  unfold portMdio
  refine .serve (fun _ he _ _ => ?_) h
  extract_lets op phy reg addr data v
  refine withLayout_bounded he ?_
  split
  · exact ansErr_bounded he
  · split
    · exact ansErr_bounded he
    · exact .ite (ansErr_bounded he) (.ite (ansOk_bounded he.emit) (ansOk_bounded (he.frame rfl)))

end Sys2Proof.Machine
end

section
/-! SUPPORT. The bounds are kept by the stream and Belfry commands (chapter 06). -/

namespace Sys2Proof.Machine

open Sys2Proof

variable {d : Dev}

theorem applyStrStream_bounded {bs : Bytes} (h : d.Bounded) : (applyStrStream bs d).Bounded := h.frame rfl

theorem applyStrMeter_bounded {bs : Bytes} (h : d.Bounded) : (applyStrMeter bs d).Bounded := h.frame rfl

theorem armGates_bounded {b : Batch} (h : d.Bounded) : (armGates b d).Bounded := by
  unfold armGates
  refine .foldl h (fun _ he _ => ?_)
  split
  · exact he.putGates
  · exact he

theorem applyStrCbs_bounded {bs : Bytes} (h : d.Bounded) : (applyStrCbs bs d).Bounded := h.frame rfl

theorem applyStrPreempt_bounded {bs : Bytes} (h : d.Bounded) : (applyStrPreempt bs d).Bounded :=
  .ite (.preemptLinkUp (h.frame rfl)) (.preemptLinkDown (h.frame rfl))

theorem applyStrFrer_bounded {bs : Bytes} (h : d.Bounded) : (applyStrFrer bs d).Bounded := .ite (h.frame rfl) (h.frame rfl)

theorem applyStrObserve_bounded {bs : Bytes} (h : d.Bounded) : (applyStrObserve bs d).Bounded := h.frame rfl

theorem strObserveRead_bounded {rq : Req} (h : d.Bounded) : (strObserveRead rq d).Bounded :=
  .serve (fun _ he _ _ => withLayout_bounded he (.ite (ansErrD_bounded he) (ansOk_bounded he))) h

theorem strGateStatus_bounded {rq : Req} (h : d.Bounded) : (strGateStatus rq d).Bounded :=
  .serve (fun _ he _ _ => withLayout_bounded he (ansOk_bounded he)) h

theorem strFilterReset_bounded {rq : Req} (h : d.Bounded) : (strFilterReset rq d).Bounded := by
  unfold strFilterReset
  refine .serve (fun _ he _ _ => ?_) h
  extract_lets i s
  refine withLayout_bounded he ?_
  split
  · exact .ite (ansOk_bounded (he.frame rfl)) (ansErr_bounded he)
  · exact .ite (ansOk_bounded (he.frame rfl)) (ansErr_bounded he)
  · exact .ite (ansErr_bounded he) (.ite (ansOk_bounded (he.frame rfl)) (ansErr_bounded he))

theorem strStreamStatus_bounded {rq : Req} (h : d.Bounded) : (strStreamStatus rq d).Bounded := by
  unfold strStreamStatus
  refine .serve (fun _ he _ _ => withLayout_bounded he ?_) h
  split
  · exact ansOk_bounded he
  · extract_lets m r flags n
    exact ansOk_bounded he

end Sys2Proof.Machine
end

section
/-! SUPPORT. The bounds are kept by Lauter's commands (chapter 05). -/

namespace Sys2Proof.Machine

open Sys2Proof

variable {d : Dev}

theorem applyBanked_bounded {c : Staged} (h : d.Bounded) : (applyBanked c d).Bounded := h.frame rfl

theorem applyLtrStatic_bounded {bs : Bytes} (h : d.Bounded) : (applyLtrStatic bs d).Bounded := by
  unfold applyLtrStatic
  split
  · exact h.putFdb
  · exact h

theorem applyLtrFdbCfg_bounded {bs : Bytes} (h : d.Bounded) : (applyLtrFdbCfg bs d).Bounded := h.frame rfl

theorem applyLtrMcast_bounded {bs : Bytes} (h : d.Bounded) : (applyLtrMcast bs d).Bounded := h.frame rfl

theorem applyLtrCt_bounded {bs : Bytes} (h : d.Bounded) : (applyLtrCt bs d).Bounded := h.frame rfl

theorem applyLauterState_bounded {c : Staged} (h : d.Bounded) : (applyLauterState c d).Bounded := by
  unfold applyLauterState
  split
  · exact applyLtrStatic_bounded h
  · exact applyLtrFdbCfg_bounded h
  · exact applyLtrMcast_bounded h
  · exact applyLtrCt_bounded h
  · exact h

theorem Dev.Bounded.flipBanks {staged : List Staged} {generation pause : Nat} (h : d.Bounded) : (d.flipBanks staged generation pause).Bounded :=
  .post (.count (.foldl (h.frame rfl) (fun _ he _ => applyLauterState_bounded he)))

theorem ltrFdbFlush_bounded {rq : Req} (h : d.Bounded) : (ltrFdbFlush rq d).Bounded :=
  .serve (fun _ he _ _ => withLayout_bounded he (ansOk_bounded he.putFdb)) h

theorem ltrFdbRead_bounded {rq : Req} (h : d.Bounded) : (ltrFdbRead rq d).Bounded := by
  unfold ltrFdbRead
  extract_lets cap
  exact .serve (fun _ he _ _ => withLayout_bounded he (ansOk_bounded he)) h

theorem ltrCtFlush_bounded {rq : Req} (h : d.Bounded) : (ltrCtFlush rq d).Bounded :=
  .serve (fun _ he _ _ => withLayout_bounded he (ansOk_bounded he.putConns)) h

theorem ltrCtRead_bounded {rq : Req} (h : d.Bounded) : (ltrCtRead rq d).Bounded := by
  unfold ltrCtRead
  extract_lets cap
  exact .serve (fun _ he _ _ => withLayout_bounded he (ansOk_bounded he)) h

theorem ltrZoneBindStatus_bounded {rq : Req} (h : d.Bounded) : (ltrZoneBindStatus rq d).Bounded := by
  unfold ltrZoneBindStatus
  refine .serve (fun _ he _ _ => withLayout_bounded he ?_) h
  split
  · exact ansOk_bounded he
  · exact ansOk_bounded he

theorem ltrGenStatus_bounded {rq : Req} (h : d.Bounded) : (ltrGenStatus rq d).Bounded :=
  .serve (fun _ he _ _ => withLayout_bounded he (ansOk_bounded he)) h

end Sys2Proof.Machine
end

section
/-! SUPPORT. The bounds are kept by power groups and the Cupola (chapter 08). -/

namespace Sys2Proof.Machine

open Sys2Proof

variable {d : Dev}

theorem Dev.Bounded.putCupola {c : Cupola} (h : d.Bounded) : (d.putCupola c).Bounded := h.frame rfl

theorem Dev.Bounded.cupEmit {bs : Bytes} (h : d.Bounded) : (d.cupEmit bs).Bounded := .ite h h.injectAt

theorem Dev.Bounded.modGroup {g : Nat} {f : Group → Group} (h : d.Bounded) : (d.modGroup g f).Bounded := h.putCupola

theorem Dev.Bounded.toSpire {r : SpireRecord} (h : d.Bounded) : (d.toSpire r).Bounded := h.putCupola

theorem Dev.Bounded.endFold {g cause : Nat} (h : d.Bounded) : (d.endFold g cause).Bounded := by
  unfold Dev.endFold
  extract_lets c
  split
  · exact h
  · extract_lets v
    exact h.putCupola

theorem foldEnd_bounded {g : Nat} (h : d.Bounded) : (foldEnd g d).Bounded := by
  unfold foldEnd
  split
  · exact h
  · exact .ite h.endFold h

theorem Dev.Bounded.sendGroupReply {g : Nat} {w : Window} {cause : Nat} (h : d.Bounded) : (d.sendGroupReply g w cause).Bounded := by
  unfold Dev.sendGroupReply
  extract_lets d0 d1 fs d2 miss
  have hd0 : d0.Bounded := h.cupEmit.count
  have hd1 : d1.Bounded := .ite hd0.count hd0
  have hd2 : d2.Bounded := hd1.modGroup
  exact .ite hd2 hd2.count.postLimited

theorem Dev.Bounded.noteMatches {l : List (Nat × Nat)} (h : d.Bounded) : (d.noteMatches l).Bounded := h.foldl (fun _ he _ => he.modGroup)

theorem Dev.Bounded.tripGroup {time : Nat} {gi : Nat × Nat} (h : d.Bounded) : (Dev.tripGroup time d gi).Bounded := by
  unfold Dev.tripGroup
  extract_lets g c
  split
  · extract_lets pins d1 d2 d3 _
    have hd1 : d1.Bounded := h.putCupola.modGroup
    have hd2 : d2.Bounded := hd1.endFold.count
    have hd3 : d3.Bounded := hd2.foldl (fun _ he _ => he.cupEmit)
    exact hd3.putCupola
  · exact h

theorem Dev.Bounded.foldReply {g : Nat} {w : Window} {bs : Bytes} {sa arrival : Nat} (h : d.Bounded) :
    (d.foldReply g w bs sa arrival).Bounded := by
  unfold Dev.foldReply
  extract_lets acc _
  split
  · exact h.count
  · extract_lets w' d1
    have hd1 : d1.Bounded := h.putCupola.modGroup
    exact .ite h.count (.ite h.count (.ite hd1.endFold hd1))

theorem Dev.Bounded.reply {g : Nat} {bs : Bytes} {sa arrival : Nat} (h : d.Bounded) : (d.reply g bs sa arrival).Bounded := by
  unfold Dev.reply
  extract_lets open_ last
  split
  · exact h.count
  · extract_lets tag
    split
    · exact h.count
    · clear_value open_
      split
      · exact .ite h.foldReply (.ite h.count h.count)
      · exact .ite h.count h.count

theorem Dev.Bounded.command {g : Nat} {bs : Bytes} (h : d.Bounded) : (d.command g bs).Bounded := by
  unfold Dev.command
  extract_lets d1 c
  have hd1 : d1.Bounded := h.endFold
  split
  · exact h.count
  · exact .ite h.count (.ite h.count hd1.putCupola)

theorem Dev.Bounded.cupolaFrame {bs : Bytes} {arrival : Nat} (h : d.Bounded) : (d.cupolaFrame bs arrival).Bounded := by
  unfold Dev.cupolaFrame
  extract_lets sa d1 da
  have hd1 : d1.Bounded := h.noteMatches.foldl (fun _ he _ => he.tripGroup)
  split
  · exact hd1.reply
  · exact hd1.command
  · exact .ite hd1 hd1.count

theorem cupolaDequeue_bounded (h : d.Bounded) : (cupolaDequeue d).Bounded := by
  unfold cupolaDequeue
  split
  · exact h
  · exact .ite h.passOut.cupolaFrame h.passOut

theorem Dev.Bounded.emitCopies {copies : Nat} {e : Emission} (h : d.Bounded) : (d.emitCopies copies e).Bounded :=
  .putCupola (h.countN.countN.foldl (fun _ he _ => he.cupEmit))

theorem Dev.Bounded.startFanOut {copies : Nat} {x : FanOut} (h : d.Bounded) : (Dev.startFanOut copies x d).Bounded := by
  unfold Dev.startFanOut
  extract_lets g
  split
  · exact h
  · extract_lets tag d1 d2 c d3
    have hd1 : d1.Bounded := h.modGroup.count
    have hd2 : d2.Bounded := hd1.toSpire
    have hd3 : d3.Bounded := .ite hd2 hd2.putCupola.modGroup
    exact hd3.emitCopies

theorem fanOutStep_bounded {copies : Nat} (h : d.Bounded) : (fanOutStep copies d).Bounded := by
  unfold fanOutStep
  extract_lets _
  split
  · exact h.emitCopies
  · split
    · exact h
    · extract_lets d0
      have hd0 : d0.Bounded := h.putCupola
      split
      · exact hd0.count
      · exact .ite hd0.count (.ite h.endFold (.ite h (.transfer (fun _ he => he.putCupola.startFanOut) h)))

theorem Dev.Bounded.clearTrip {g : Nat} {x : Group} (h : d.Bounded) : (d.clearTrip g x).Bounded := by
  unfold Dev.clearTrip
  extract_lets _ d1 d2
  have hd1 : d1.Bounded := h.putCupola.modGroup
  have hd2 : d2.Bounded := hd1.post
  split
  · exact h
  · split
    · exact .ite hd2.tripGroup hd2
    · exact hd2

theorem cupTripClear_bounded {rq : Req} (h : d.Bounded) : (cupTripClear rq d).Bounded := by
  unfold cupTripClear
  refine .serve (fun _ he _ _ => ?_) h
  extract_lets g _
  refine withLayout_bounded he ?_
  split
  · exact ansErr_bounded he
  · exact .ite (ansOk_bounded he.clearTrip) (ansOk_bounded he.putCupola)

theorem cupGroupStatus_bounded {rq : Req} (h : d.Bounded) : (cupGroupStatus rq d).Bounded := by
  unfold cupGroupStatus
  refine .serve (fun _ he _ _ => ?_) h
  extract_lets g
  refine withLayout_bounded he ?_
  split
  · exact ansOk_bounded he
  · extract_lets flags
    exact ansOk_bounded he

theorem cupExpansionRead_bounded {rq : Req} (h : d.Bounded) : (cupExpansionRead rq d).Bounded := by
  unfold cupExpansionRead
  refine .serve (fun _ he _ _ => withLayout_bounded he ?_) h
  split
  · exact ansErr_bounded he
  · extract_lets all got next
    exact ansOk_bounded he

end Sys2Proof.Machine
end

section
/-! SUPPORT. The bounds are kept by the gateway's PDUs (chapter 09). -/

namespace Sys2Proof.Machine

open Sys2Proof

variable {d : Dev}

theorem Dev.Bounded.putGateway {g : Gateway} (h : d.Bounded) : (d.putGateway g).Bounded := h.frame rfl

theorem Dev.Bounded.modCan {k : Nat} {f : CanCh → CanCh} (h : d.Bounded) : (d.modCan k f).Bounded := h.putGateway

theorem Dev.Bounded.modSerial {s : Nat} {f : SerialCh → SerialCh} (h : d.Bounded) : (d.modSerial s f).Bounded := h.putGateway

theorem Dev.Bounded.modDst {i : Nat} {f : DstPdu → DstPdu} (h : d.Bounded) : (d.modDst i f).Bounded := h.putGateway

theorem Dev.Bounded.modSrc {i : Nat} {f : SrcPdu → SrcPdu} (h : d.Bounded) : (d.modSrc i f).Bounded := h.putGateway

theorem Dev.Bounded.countCan {k n : Nat} (h : d.Bounded) : (d.countCan k n).Bounded := h.count

theorem Dev.Bounded.canFill {k : Nat} {t : CanTx} (h : d.Bounded) : (d.canFill k t).Bounded := by
  unfold Dev.canFill
  extract_lets c held
  split
  · exact h
  · split
    · exact h.modCan.countCan
    · split
      · split
        · exact h.modCan
        · split
          · exact .ite h.modCan.countCan h.countCan
          · exact h.countCan
      · split
        · exact h.modCan
        · split
          · exact .ite h.modCan.countCan h.countCan
          · exact h.countCan

theorem Dev.Bounded.holdPort {p : Nat} (h : d.Bounded) : (d.holdPort p).Bounded := by
  unfold Dev.holdPort
  split
  · exact h.wake
  · exact h

theorem Dev.Bounded.queuePoll {e : Nat} (h : d.Bounded) : (d.queuePoll e).Bounded := by
  unfold Dev.queuePoll
  split
  · exact h
  · exact .ite h h.modSerial.holdPort

theorem Dev.Bounded.noteSend {i : Nat} (h : d.Bounded) : (d.noteSend i).Bounded := h.modDst.count

theorem Dev.Bounded.sendUnit {i : Nat} {x : PduUnit} (h : d.Bounded) : (d.sendUnit i x).Bounded := by
  unfold Dev.sendUnit
  split
  · exact h.noteSend.injectAt
  · exact h.noteSend.canFill

theorem Dev.Bounded.offer {i : Nat} {u : PduUnit} (h : d.Bounded) : (d.offer i u).Bounded := by
  unfold Dev.offer
  split
  · exact h
  · exact .ite h.modDst.count h.sendUnit

theorem Dev.Bounded.acfEmit {i : Nat} (h : d.Bounded) : (d.acfEmit i).Bounded := by
  unfold Dev.acfEmit
  extract_lets d1
  have hd1 : d1.Bounded := h.modDst
  split
  · exact h
  · exact .ite h hd1.offer

theorem Dev.Bounded.acfRoom {i : Nat} {m : AcfMsg} (h : d.Bounded) : (d.acfRoom i m).Bounded := by
  unfold Dev.acfRoom
  split
  · exact h
  · exact .ite h.acfEmit h

theorem Dev.Bounded.acfAdd {i : Nat} {m : AcfMsg} (h : d.Bounded) : (d.acfAdd i m).Bounded := by
  unfold Dev.acfAdd
  extract_lets d2 full
  have hd2 : d2.Bounded := h.acfRoom.modDst
  split
  · exact h
  · exact .ite h (.ite hd2.acfEmit hd2)

theorem acfExpiry_bounded {i : Nat} (h : d.Bounded) : (acfExpiry i d).Bounded := by
  unfold acfExpiry
  split
  · exact .ite h.acfEmit h
  · exact h

theorem Dev.Bounded.sendDst {i stamp : Nat} (h : d.Bounded) : (d.sendDst i stamp).Bounded := by
  unfold Dev.sendDst
  split
  · exact h
  · split
    · exact h.modDst
    · split
      · exact h.noteSend.canFill
      · exact h.noteSend.injectAt
      · exact h.acfEmit
      · exact h.noteSend.queuePoll
      · exact h.modDst

theorem Dev.Bounded.amendFifo {old new : Bytes} (h : d.Bounded) : (d.amendFifo old new).Bounded := h.frame rfl

theorem Dev.Bounded.amendSend {i : Nat} {q : DstPdu} (h : d.Bounded) : (d.amendSend i q).Bounded := by
  unfold Dev.amendSend
  extract_lets d1
  have hd1 : d1.Bounded := h.modDst
  split
  · exact hd1.modCan
  · exact hd1.amendFifo
  · exact hd1

theorem Dev.Bounded.wantSend {i stamp : Nat} (h : d.Bounded) : (d.wantSend i stamp).Bounded := by
  unfold Dev.wantSend
  split
  · exact h
  · exact .ite h.acfEmit (.ite (.ite h h.modDst.count) (.ite h.amendSend h.sendDst))

theorem cyclicSend_bounded {i : Nat} (h : d.Bounded) : (cyclicSend i d).Bounded := by
  unfold cyclicSend
  split
  · exact h
  · split
    · exact h
    · exact .ite h h.modDst.wantSend

theorem deferredSend_bounded {i : Nat} (h : d.Bounded) : (deferredSend i d).Bounded := by
  unfold deferredSend
  split
  · exact h
  · split
    · exact h
    · split
      · exact h
      · split
        · exact h.sendDst
        · extract_lets d1
          have hd1 : d1.Bounded := h.modDst.sendUnit
          exact hd1.modDst

theorem Dev.Bounded.putContent {i : Nat} {c : Bytes} (h : d.Bounded) : (d.putContent i c).Bounded := by
  unfold Dev.putContent
  extract_lets d1 _
  have hd1 : d1.Bounded := h.modDst
  exact .ite (hd1.frame rfl) hd1

theorem Applied.write_bounded {a : Applied} {r : Route} {q : DstPdu} {v : Nat} (h : a.dev.Bounded) : (a.write r q v).dev.Bounded := by
  unfold Applied.write
  extract_lets old d1
  have hd1 : d1.Bounded := h.putContent
  exact hd1

theorem Applied.route_bounded {bs : Bytes} {a : Applied} {r : Route} (h : a.dev.Bounded) : (Applied.route bs a r).dev.Bounded := by
  unfold Applied.route
  extract_lets v
  split
  · exact h
  · extract_lets b
    have hb : b.dev.Bounded := Applied.write_bounded h
    split
    · exact h
    · split
      · dsimp only
        exact hb.count
      · exact hb

theorem Applied.substitute_bounded {a : Applied} {r : Route} (h : a.dev.Bounded) : (a.substitute r).dev.Bounded := by
  unfold Applied.substitute
  extract_lets y w
  split
  · exact h
  · extract_lets b
    have hb : b.dev.Bounded := Applied.write_bounded h
    split
    · exact Applied.write_bounded h
    · split
      · exact hb
      · dsimp only
        exact hb.count
    · exact Applied.write_bounded h
    · exact h

theorem Applied.sends_bounded {a : Applied} {stamp : Nat} (h : a.dev.Bounded) : (a.sends stamp).Bounded := by
  unfold Applied.sends
  refine .foldl h (fun _ he _ => ?_)
  split
  · exact he
  · extract_lets m
    exact .ite he.wantSend he

theorem srcTimeout_bounded {i : Nat} (h : d.Bounded) : (srcTimeout i d).Bounded := by
  unfold srcTimeout
  extract_lets d1
  have hd1 : d1.Bounded := h.modSrc.count
  split
  · exact h
  · extract_lets a
    have ha : a.dev.Bounded := hd1.foldl_applied (fun _ he _ => Applied.substitute_bounded he)
    exact .ite h ((Applied.sends_bounded ha).post)

theorem Dev.Bounded.srcKeepAlive {i : Nat} (h : d.Bounded) : (d.srcKeepAlive i).Bounded := h.foldl (fun _ he _ => .ite he.keepAlive he)

theorem Dev.Bounded.receive {r : Reception} (h : d.Bounded) : (d.receive r).Bounded := by
  unfold Dev.receive
  extract_lets d1
  have hd1 : d1.Bounded := h.modSrc.count
  split
  · exact h
  · extract_lets d2 g n d3 _
    have hd2 : d2.Bounded := .srcKeepAlive (.ite hd1.post hd1)
    have hd3 : d3.Bounded := hd2.count
    split
    · exact .ite hd2.putGateway.count hd2.putGateway
    · exact .ite hd2.putGateway (.ite hd3.putGateway.postLimited hd3.putGateway)

theorem Dev.Bounded.deliverLegal {pdu up : Nat} {modbus : Bool} {started : Option Nat} {v : Delivery} (h : d.Bounded) :
    (d.deliverLegal pdu up modbus started v).Bounded :=
  .count (h.frame rfl)

theorem Dev.Bounded.legalStep {q : SrcPdu} {r : Reception} (h : d.Bounded) : (d.legalStep q r).Bounded := .ite h h.deliverLegal

theorem Dev.Bounded.passMessage {q : SrcPdu} {latest : Option Nat} {m : Nat × CanFrame} (h : d.Bounded) :
    (Dev.passMessage q latest d m).Bounded := by
  unfold Dev.passMessage
  split
  · exact h
  · exact .ite h h.offer

theorem Dev.Bounded.tunnelStep {q : SrcPdu} {r : Reception} (h : d.Bounded) : (d.tunnelStep q r).Bounded := by
  unfold Dev.tunnelStep
  split
  · exact .ite h h.acfAdd
  · exact h

theorem Dev.Bounded.sgeApply {r : Reception} (h : d.Bounded) : (d.sgeApply r).Bounded := by
  unfold Dev.sgeApply
  extract_lets remote
  split
  · exact h
  · extract_lets d1 d2 a
    have hd1 : d1.Bounded := h.tunnelStep
    have hd2 : d2.Bounded := .ite hd1.count hd1
    have ha : a.dev.Bounded := hd2.foldl_applied (fun _ he _ => Applied.route_bounded he)
    exact .ite (h.foldl (fun _ he _ => he.passMessage)) (.ite hd1 (Applied.sends_bounded ha))

theorem Dev.Bounded.legalPhase {q : SrcPdu} {r : Reception} (h : d.Bounded) : (d.legalPhase q r).Bounded :=
  .ite h (.transfer (fun _ he => he.legalStep.putGateway) h)

theorem sgeStep_bounded (h : d.Bounded) : (sgeStep d).Bounded := by
  unfold sgeStep
  split
  · exact h
  · split
    · exact h.putGateway
    · extract_lets d1
      have hd1 : d1.Bounded := h.legalPhase
      exact .ite hd1 (.transfer (fun _ he => he.putGateway.sgeApply) hd1)

end Sys2Proof.Machine
end

section
/-! SUPPORT. The bounds are kept by CAN channels (chapter 09). -/

namespace Sys2Proof.Machine

open Sys2Proof

variable {d : Dev}

theorem Dev.Bounded.enterBusOff {k : Nat} (h : d.Bounded) : (d.enterBusOff k).Bounded := h.modCan.countCan.countN

theorem Dev.Bounded.setErrors {k tec rec_ : Nat} (h : d.Bounded) : (d.setErrors k tec rec_).Bounded :=
  .ite h (.ite h.modCan (.post (.ite h.modCan.enterBusOff h.modCan)))

theorem Dev.Bounded.recOk {k : Nat} (h : d.Bounded) : (d.recOk k).Bounded := .ite h (.ite h.setErrors h.free.setErrors)

theorem Dev.Bounded.canAcks {k : Nat} (h : d.Bounded) : (d.canAcks k).Bounded := .ite h.emit h

theorem Dev.Bounded.canSignals {k : Nat} (h : d.Bounded) : (d.canSignals k).Bounded := .ite h.emit h

theorem canException_bounded {k : Nat} (h : d.Bounded) : (canException k d).Bounded := .ite h.modCan.countCan h

theorem Dev.Bounded.watchCan {k : Nat} {f : CanFrame} (h : d.Bounded) : (d.watchCan k f).Bounded := by
  unfold Dev.watchCan
  extract_lets p key _
  split
  · exact h
  · extract_lets d1
    have hd1 : d1.Bounded := h.frame rfl
    split
    · exact .ite h h.busViolation
    · extract_lets soon
      exact .ite hd1.busViolation hd1

theorem Dev.Bounded.canKeepAlive {k : Nat} {f : CanFrame} (h : d.Bounded) : (d.canKeepAlive k f).Bounded := by
  unfold Dev.canKeepAlive
  split
  · exact h
  · split
    · exact .ite h.keepAlive h
    · exact h

theorem Dev.Bounded.canAccepted {k : Nat} {f : CanFrame} (h : d.Bounded) : (d.canAccepted k f).Bounded := by
  unfold Dev.canAccepted
  extract_lets c
  split
  · extract_lets r
    exact h.receive
  · exact .ite h.acfAdd h.countCan

theorem Dev.Bounded.ignoreCan {k : Nat} (h : d.Bounded) : (d.ignoreCan k).Bounded := by
  unfold Dev.ignoreCan
  split
  · exact .ite h.count h
  · exact h

theorem canFrame_bounded {k : Nat} {f : CanFrame} (h : d.Bounded) : (canFrame k f d).Bounded := by
  unfold canFrame
  extract_lets d1
  have hd1 : d1.Bounded := h.countCan.canAcks.recOk.canKeepAlive.watchCan
  exact .ite h.ignoreCan (.ite h (.ite (canException_bounded h) (.ite hd1.canAccepted hd1.countCan)))

theorem Dev.Bounded.dropLate {k : Nat} (h : d.Bounded) : (d.dropLate k).Bounded := h.modCan.countN

theorem Dev.Bounded.retryTx {k : Nat} {t : CanTx} (h : d.Bounded) : (d.retryTx k t).Bounded := .ite h.countCan h.modCan

theorem canArbitration_bounded {k : Nat} {won : Bool} (h : d.Bounded) : (canArbitration k won d).Bounded := by
  unfold canArbitration
  extract_lets d1 d2
  have hd1 : d1.Bounded := h.dropLate
  have hd2 : d2.Bounded := hd1.countCan
  split
  · exact h
  · split
    · exact hd1
    · exact .ite hd1.modCan.emit (.ite hd2.modCan.countCan hd2)

theorem Dev.Bounded.txError {k kind : Nat} {exempt : Bool} (h : d.Bounded) : (d.txError k kind exempt).Bounded := by
  unfold Dev.txError
  extract_lets d1
  have hd1 : d1.Bounded := h.modCan.countCan.canSignals
  split
  · exact h
  · extract_lets d2 c
    have hd2 : d2.Bounded := hd1.retryTx
    exact hd2.setErrors

theorem Dev.Bounded.loopDelay {tdcf : Nat} {edges : List Nat} (h : d.Bounded) : (d.loopDelay tdcf edges).2.Bounded := by
  unfold Dev.loopDelay
  extract_lets f
  have hf : f.2.Bounded := h.free
  split
  · exact h
  · exact hf

theorem canTxComplete_bounded {k : Nat} {edges : List Nat} (h : d.Bounded) : (canTxComplete k edges d).Bounded := by
  unfold canTxComplete
  extract_lets c
  split
  · exact h
  · extract_lets tdc m d1 d2 d3
    have hm : m.2.Bounded := by
      unfold m
      split
      · exact h.loopDelay
      · exact h
    have hd1 : d1.Bounded := .ite hm.modCan h
    have hd2 : d2.Bounded := hd1.modCan.countCan
    have hd3 : d3.Bounded := hd2.setErrors
    split
    · exact hd1.txError
    · split
      · exact hd3.pduSent
      · exact hd3

theorem canError_bounded {k : Nat} {e : CanError} (h : d.Bounded) : (canError k e d).Bounded :=
  .ite h (.ite h.txError h.countCan.canSignals.setErrors)

theorem busOffDelay_bounded {k : Nat} (h : d.Bounded) : (busOffDelay k d).Bounded := .ite h.modCan h

theorem busOffRecovered_bounded {k : Nat} (h : d.Bounded) : (busOffRecovered k d).Bounded := .ite h.modCan.post h

theorem Dev.Bounded.seqGap {prev : Option Nat} {seq : Nat} (h : d.Bounded) : (d.seqGap prev seq).Bounded := by
  unfold Dev.seqGap
  split
  · exact .ite h h.count
  · exact h

theorem Dev.Bounded.tunnelToChannel {k : Nat} {bs : Bytes} {latest : Option Nat} (h : d.Bounded) : (d.tunnelToChannel k bs latest).Bounded := by
  unfold Dev.tunnelToChannel
  split
  · exact h.count
  · extract_lets ms d1
    have hd1 : d1.Bounded := h.seqGap.modCan
    exact .ite h.count (hd1.foldl (fun _ he _ => .ite he.canFill he.count))

theorem Dev.Bounded.acfDecode {q : SrcPdu} {ms : List AcfIn} (h : d.Bounded) : (d.acfDecode q ms).2.Bounded := by
  unfold Dev.acfDecode
  extract_lets d1
  have hd1 : d1.Bounded := h.countN
  refine .foldl_snd hd1 (fun _ he _ => ?_)
  split
  · dsimp only
    exact he.count
  · split
    · dsimp only
      exact he.count
    · exact he

theorem Dev.Bounded.acfReceive {i : Nat} {q : SrcPdu} {a : Avtp} {f : Stored} (h : d.Bounded) : (d.acfReceive i q a f).Bounded :=
  h.seqGap.modSrc.acfDecode.receive

theorem Dev.Bounded.gatewayFrame {bs : Bytes} {f : Stored} (h : d.Bounded) : (d.gatewayFrame bs f).Bounded := by
  unfold Dev.gatewayFrame
  extract_lets acf
  split
  · clear_value acf
    split
    · exact h.acfReceive
    · exact h.receive
  · clear_value acf
    split
    · exact h.acfReceive
    · exact h.count

end Sys2Proof.Machine
end

section
/-! SUPPORT. The bounds are kept by serial channels and the poll engine (chapter 09). -/

namespace Sys2Proof.Machine

open Sys2Proof

variable {d : Dev}

theorem Dev.Bounded.countSl {s n : Nat} (h : d.Bounded) : (d.countSl s n).Bounded := h.count

theorem Dev.Bounded.serialError {s kind : Nat} (h : d.Bounded) : (d.serialError s kind).Bounded := h.postLimited

theorem Dev.Bounded.serialSend {s : Nat} {bs : Bytes} {brk : Bool} (h : d.Bounded) : (d.serialSend s bs brk).Bounded :=
  h.modSerial.countN.countSl.emit

theorem serialChar_bounded {s : Nat} {x : SerialChar} (h : d.Bounded) : (serialChar s x d).Bounded := by
  unfold serialChar
  extract_lets c d1 d2 d3 h'
  have hd1 : d1.Bounded := .ite h.countSl h
  have hd2 : d2.Bounded := .ite hd1.countSl.serialError hd1
  have hd3 : d3.Bounded := .ite hd2.countSl.serialError hd2
  split
  · exact h
  · exact .ite h.modSerial.countSl.serialError (.ite hd3 (.ite hd3.modSerial.countSl.serialError hd3.modSerial))

theorem Dev.Bounded.portKeepAlive {p : Nat} (h : d.Bounded) : (d.portKeepAlive p).Bounded := by
  unfold Dev.portKeepAlive
  split
  · exact h
  · split
    · exact .ite h.keepAlive h
    · exact h

theorem Dev.Bounded.unsolicited {s : Nat} (h : d.Bounded) : (d.unsolicited s).Bounded := .ite h.busViolation h

theorem rawClose_bounded {s : Nat} (h : d.Bounded) : (rawClose s d).Bounded := by
  unfold rawClose
  extract_lets c cap hs cut d1 d2 i
  have hd1 : d1.Bounded := h.modSerial
  have hd2 : d2.Bounded := hd1.countSl.portKeepAlive.unsolicited
  split
  · exact h
  · extract_lets gapEnd stamp
    split
    · exact h
    · split
      · exact .ite hd2.offer hd2
      · exact hd2

theorem Dev.Bounded.serialToChannel {s : Nat} {bs : Bytes} (h : d.Bounded) : (d.serialToChannel s bs).Bounded :=
  .ite h.count (.ite h.countSl h.serialSend)

theorem p94ToChannel_bounded (h : d.Bounded) : (p94ToChannel d).Bounded := by
  unfold p94ToChannel
  split
  · exact h
  · extract_lets bs d1
    have hd1 : d1.Bounded := h.passOut
    exact .ite h (.ite hd1 (.ite hd1.tunnelToChannel (.ite hd1.serialToChannel hd1.count)))

theorem p94ToGateway_bounded (h : d.Bounded) : (p94ToGateway d).Bounded := by
  unfold p94ToGateway
  split
  · exact h
  · extract_lets bs d1 ch
    have hd1 : d1.Bounded := h.passOut
    exact .ite h (.ite hd1 (.ite (.ite hd1.count hd1.serialToChannel) hd1.gatewayFrame))

theorem Dev.Bounded.pollData {pdu n : Nat} (h : d.Bounded) : (d.pollData pdu n).2.Bounded := by
  unfold Dev.pollData
  extract_lets c more
  dsimp only
  exact h.frame rfl

theorem Dev.Bounded.pollRequest {e : PollEntry} (h : d.Bounded) : (d.pollRequest e).2.Bounded := by
  unfold Dev.pollRequest
  extract_lets head x x' x'' r
  have hx : x.2.Bounded := h.pollData
  have hx' : x'.2.Bounded := h.pollData
  have hx'' : x''.2.Bounded := h.pollData
  have hr : r.2.Bounded := by
    unfold r
    split
    · exact hx
    · exact hx'
    · exact hx''
    · exact h
  exact hr

theorem pollDue_bounded {e : Nat} (h : d.Bounded) : (pollDue e d).Bounded := by
  unfold pollDue
  extract_lets _
  split
  · exact h
  · extract_lets ch
    split
    · exact h
    · extract_lets d1
      have hd1 : d1.Bounded := h.putGateway
      exact .ite h (.ite hd1 (.ite hd1.count hd1.modSerial))

theorem pollStart_bounded {s : Nat} (h : d.Bounded) : (pollStart s d).Bounded := by
  unfold pollStart
  extract_lets c _
  split
  · exact h
  · split
    · exact h
    · extract_lets d1
      have hd1 : d1.Bounded := h.putGateway
      split
      · exact hd1
      · extract_lets r d2 ends
        have hr : r.2.Bounded := hd1.pollRequest
        have hd2 : d2.Bounded := hr.serialSend
        exact .ite hd1 hd2.modSerial.holdPort

theorem Dev.Bounded.pollFree {s : Nat} {retry : Option PollTxn} (h : d.Bounded) : (d.pollFree s retry).Bounded := h.modSerial

theorem Dev.Bounded.pollFail {t : PollTxn} {e : PollEntry} {why : Nat} (h : d.Bounded) : (d.pollFail t e why).Bounded := by
  unfold Dev.pollFail
  extract_lets d1
  have hd1 : d1.Bounded := h.postLimited
  split
  · exact .ite hd1.deliverLegal hd1
  · exact hd1

theorem Dev.Bounded.pollAttemptFailed {s : Nat} {t : PollTxn} {e : PollEntry} {why : Nat} (h : d.Bounded) :
    (d.pollAttemptFailed s t e why).Bounded :=
  .ite h.count.pollFree h.count.pollFree.pollFail

theorem Dev.Bounded.pollDelivers {t : PollTxn} {e : PollEntry} {data : Bytes} (h : d.Bounded) : (d.pollDelivers t e data).Bounded :=
  .ite h.count h.count.receive

theorem pollReply_bounded {s : Nat} {chars : List ReplyChar} (h : d.Bounded) : (pollReply s chars d).Bounded := by
  unfold pollReply
  extract_lets c frame bs d1
  have hd1 : d1.Bounded := h.countN.countSl.portKeepAlive
  split
  · exact h
  · split
    · exact hd1.unsolicited
    · split
      · exact hd1.pollFree
      · split
        · exact hd1.unsolicited
        · split
          · exact hd1.pollAttemptFailed
          · split
            · exact hd1.count.pollFree.pollFail
            · split
              · exact hd1.pollAttemptFailed
              · exact hd1.pollFree.pollDelivers

theorem pollTimeout_bounded {s : Nat} (h : d.Bounded) : (pollTimeout s d).Bounded := by
  unfold pollTimeout
  split
  · exact h
  · split
    · exact h
    · split
      · exact h.pollFree
      · exact .ite h.pollFree h.pollAttemptFailed

end Sys2Proof.Machine
end

section
/-! SUPPORT. The bounds are kept by the gateway commands (chapter 09). -/

namespace Sys2Proof.Machine

open Sys2Proof

variable {d : Dev}

theorem applyCanCfg_bounded {bs : Bytes} (h : d.Bounded) : (applyCanCfg bs d).Bounded := h.modCan

theorem applyCanFilter_bounded {bs : Bytes} (h : d.Bounded) : (applyCanFilter bs d).Bounded := h.modCan

theorem applySerialCfg_bounded {bs : Bytes} (h : d.Bounded) : (applySerialCfg bs d).Bounded := h.modSerial

theorem applyPollSet_bounded {bs : Bytes} (h : d.Bounded) : (applyPollSet bs d).Bounded := h.putGateway

theorem startSrcTimers_bounded {l : List Staged} (h : d.Bounded) : (startSrcTimers l d).Bounded := h.foldl (fun _ he _ => .ite he.modSrc he)

theorem applySrcPdu_bounded {bs : Bytes} (h : d.Bounded) : (applySrcPdu bs d).Bounded := h.putGateway

theorem applyDstPdu_bounded {bs : Bytes} (h : d.Bounded) : (applyDstPdu bs d).Bounded := h.putGateway

theorem applyRouteSet_bounded {bs : Bytes} (h : d.Bounded) : (applyRouteSet bs d).Bounded := h.putGateway

theorem applyScaleSet_bounded {bs : Bytes} (h : d.Bounded) : (applyScaleSet bs d).Bounded := h.putGateway

theorem applyGateway_bounded {c : Staged} (h : d.Bounded) : (applyGateway c d).Bounded := by
  unfold applyGateway
  split
  · exact applyCanCfg_bounded h
  · exact applyCanFilter_bounded h
  · exact applySerialCfg_bounded h
  · exact applyPollSet_bounded h
  · exact applySrcPdu_bounded h
  · exact applyDstPdu_bounded h
  · exact applyRouteSet_bounded h
  · exact applyScaleSet_bounded h
  · exact h

theorem gwCanRecover_bounded {rq : Req} (h : d.Bounded) : (gwCanRecover rq d).Bounded := by
  unfold gwCanRecover
  exact .serve (fun _ he _ _ => withLayout_bounded he (.ite (ansOk_bounded he.modCan) (ansErr_bounded he))) h

theorem gwCanStatus_bounded {rq : Req} (h : d.Bounded) : (gwCanStatus rq d).Bounded :=
  .serve (fun _ he _ _ => withLayout_bounded he (ansOk_bounded he)) h

theorem gwSerialStatus_bounded {rq : Req} (h : d.Bounded) : (gwSerialStatus rq d).Bounded :=
  .serve (fun _ he _ _ => withLayout_bounded he (ansOk_bounded he)) h

theorem gwPduRead_bounded {rq : Req} (h : d.Bounded) : (gwPduRead rq d).Bounded := by
  unfold gwPduRead
  refine .serve (fun _ he _ _ => withLayout_bounded he ?_) h
  split
  · split
    · exact ansOk_bounded he
    · exact ansErr_bounded he
  · split
    · exact ansOk_bounded he
    · exact ansErr_bounded he

theorem gwPduSend_bounded {rq : Req} (h : d.Bounded) : (gwPduSend rq d).Bounded := by
  unfold gwPduSend
  refine .serve (fun _ he _ _ => ?_) h
  extract_lets n i
  split
  · exact ansErr_bounded he
  · split
    · exact ansErr_bounded he
    · split
      · exact ansErr_bounded he
      · exact .ite (ansErr_bounded he) (ansOk_bounded he.putContent.wantSend)

theorem gwPollNow_bounded {rq : Req} (h : d.Bounded) : (gwPollNow rq d).Bounded := by
  unfold gwPollNow
  refine .serve (fun _ he _ _ => ?_) h
  extract_lets i
  refine withLayout_bounded he ?_
  split
  · exact ansErr_bounded he
  · exact .ite (ansErr_bounded he) (.ite (ansErr_bounded he) (ansOk_bounded he.queuePoll))

end Sys2Proof.Machine
end

section
/-! SUPPORT. The bounds are kept by Deadline Admission (chapter 07). -/

namespace Sys2Proof.Machine

open Sys2Proof

variable {d : Dev}

theorem Dev.Bounded.judgeAdmission {d' : Dev} (h : d.Bounded) : (d.judgeAdmission d').2.Bounded := by
  unfold Dev.judgeAdmission
  extract_lets f r d1 d2 _
  have hd1 : d1.Bounded := h.free.count
  have hd2 : d2.Bounded := .ite hd1.count hd1
  clear_value d2
  exact hd2.frame rfl

theorem applyPathSet_bounded {bs : Bytes} (h : d.Bounded) : (applyPathSet bs d).Bounded := h.frame rfl

theorem applyBusDeclare_bounded {bs : Bytes} (h : d.Bounded) : (applyBusDeclare bs d).Bounded := h.frame rfl

theorem admReportRead_bounded {rq : Req} (h : d.Bounded) : (admReportRead rq d).Bounded := by
  unfold admReportRead
  refine .serve (fun _ he _ _ => withLayout_bounded he ?_) h
  split
  · exact ansErr_bounded he
  · exact ansOk_bounded he

end Sys2Proof.Machine
end

section
/-! SUPPORT. The bounds are kept by the host attachment (chapter 02). -/

namespace Sys2Proof.Machine

open Sys2Proof

variable {d : Dev}

theorem Dev.Bounded.irqClear {val again : Nat} (h : d.Bounded) : (d.irqClear val again).Bounded :=
  .foldl (h.frame rfl) (fun _ he _ => .ite he.raise he)

theorem Dev.Bounded.evtConsume {val : Nat} (h : d.Bounded) : (d.evtConsume val).Bounded := .reportLost (h.frame rfl)

theorem Dev.Bounded.deliverKept (h : d.Bounded) : d.deliverKept.Bounded :=
  .foldl (.reportLost { h with unsent := Nat.zero_le _ }) fun _ he _ => he.deliver

theorem Dev.Bounded.evtCtrl {val : Nat} (h : d.Bounded) : (d.evtCtrl val).Bounded := .ite (.deliverKept (h.frame rfl)) (h.frame rfl)

theorem Dev.Bounded.consume {ch val : Nat} (h : d.Bounded) : (d.consume ch val).Bounded := h.modChan.pullAll

theorem Dev.Bounded.setBank {comp bank : Nat} {k : Bank} (h : d.Bounded) : (d.setBank comp bank k).Bounded := .mramWrote (h.frame rfl)

theorem Dev.Bounded.invalidate {comp bank : Nat} (h : d.Bounded) : (d.invalidate comp bank).Bounded := h.setBank

theorem Dev.Bounded.endUpdate {reason : Nat} (h : d.Bounded) : (d.endUpdate reason).Bounded := by
  unfold Dev.endUpdate
  extract_lets _
  split
  · exact h
  · extract_lets d1
    have hd1 : d1.Bounded := .foldl (h.frame rfl) (fun _ he _ => he.invalidate)
    exact hd1.post

theorem Dev.Bounded.dropKiln (h : d.Bounded) : d.dropKiln.Bounded := h.frame rfl

theorem Dev.Bounded.resetChannel {ch reason : Nat} (h : d.Bounded) : (d.resetChannel ch reason).Bounded := by
  unfold Dev.resetChannel
  extract_lets d1 d2 d3
  have hd1 : d1.Bounded := h.modChan
  have hd2 : d2.Bounded := .ite hd1.endTxn hd1
  have hd3 : d3.Bounded := .ite hd2.endUpdate hd2
  exact .post (.ite hd3.dropKiln hd3)

theorem Dev.Bounded.chanReset {ch val : Nat} (h : d.Bounded) : (d.chanReset ch val).Bounded := .ite h.resetChannel h

theorem Dev.Bounded.chanEnable {ch val : Nat} (h : d.Bounded) : (d.chanEnable ch val).Bounded := h.modChan.pullAll

theorem Dev.Bounded.modRing {tx : Bool} {r : Nat} {f : Ring → Ring} (h : d.Bounded) : (d.modRing tx r f).Bounded :=
  .ite (h.frame rfl) (h.frame rfl)

theorem Dev.Bounded.ringCtrl {tx : Bool} {r val : Nat} (h : d.Bounded) : (d.ringCtrl tx r val).Bounded := .ite h h.modRing

theorem Dev.Bounded.chanWrite {ch off v : Nat} (h : d.Bounded) : (d.chanWrite ch off v).Bounded := by
  unfold Dev.chanWrite
  split
  · exact h.modChan
  · exact h.modChan
  · exact h.modChan
  · exact h.modChan
  · exact h.consume
  · exact h.chanEnable
  · exact h.chanReset
  · exact h

theorem Dev.Bounded.ringWrite {tx : Bool} {r off v : Nat} (h : d.Bounded) : (d.ringWrite tx r off v).Bounded := by
  unfold Dev.ringWrite
  split
  · exact h.modRing
  · exact h.modRing
  · exact h.modRing
  · exact h.ringCtrl
  · exact h

theorem Dev.Bounded.hifWrite {off v : Nat} (h : d.Bounded) : (d.hifWrite off v).Bounded := by
  unfold Dev.hifWrite
  extract_lets _
  split
  · exact h.frame rfl
  · exact h.irqClear
  · exact h.frame rfl
  · exact h.frame rfl
  · exact h.frame rfl
  · exact h.evtConsume
  · exact h.evtCtrl
  · exact h

theorem Dev.Bounded.regWrite {off v : Nat} (h : d.Bounded) : (d.regWrite off v).Bounded :=
  .ite h.hifWrite (.ite h.chanWrite (.ite h.ringWrite (.ite h.ringWrite (.ite (h.frame rfl) h))))

theorem Dev.Bounded.readHalf {requester off : Nat} (h : d.Bounded) : (d.readHalf requester off).2.Bounded := by
  unfold Dev.readHalf
  extract_lets base v others _ put
  have hput : ∀ (l : List (Nat × Nat × Nat)), (put l).Bounded := by
    intro _
    exact h.frame rfl
  split
  · exact hput _
  · split
    · exact hput _
    · exact h

theorem Dev.Bounded.readWords {addr n : Nat} (h : d.Bounded) : (d.readWords addr n).2.Bounded := by
  unfold Dev.readWords
  split
  · exact h.readHalf
  · exact h

theorem Dev.Bounded.spiMalform (h : d.Bounded) : d.spiMalform.Bounded := h.frame rfl

theorem spiAccess_bounded {a : BusAccess} (h : d.Bounded) : (spiAccess a d).Bounded := by
  unfold spiAccess
  extract_lets r
  have hr : r.2.Bounded := h.readWords
  split
  · exact h.spiMalform
  · exact .ite (apertureStep_bounded h) (.ite (h.foldl (fun _ he _ => .ite he.regWrite he)) hr.emit)

theorem pcieAccess_bounded {a : BusAccess} (h : d.Bounded) : (pcieAccess a d).Bounded := by
  unfold pcieAccess
  extract_lets r
  have hr : r.2.Bounded := h.readWords
  exact .ite (.ite h.emit (.ite h.regWrite h.emit)) (.ite (apertureStep_bounded h) (.ite h (.ite h.emit hr.emit)))

theorem registerWrite_bounded {a : BusAccess} (h : d.Bounded) : (registerWrite a d).Bounded :=
  .ite h (.ite (spiAccess_bounded h) (pcieAccess_bounded h))

theorem doorbell_bounded {ch prod : Nat} {reqs : List HostReq} (h : d.Bounded) : (doorbell ch prod reqs d).Bounded :=
  .ite h h.modChan.pullAll.drainAll

theorem onChan_bounded {ch : Nat} {f : Dev → Dev} (hf : ∀ (a : Dev), a.Bounded → (f a).Bounded) (hd : d.Bounded) : (onChan ch f d).Bounded :=
  .ite (hf _ hd) hd

theorem onRegs_bounded {f : Dev → Dev} (hf : ∀ (a : Dev), a.Bounded → (f a).Bounded) (hd : d.Bounded) : (onRegs f d).Bounded :=
  .ite (hf _ hd) hd

theorem evtHoldoffEnd_bounded (h : d.Bounded) : (evtHoldoffEnd d).Bounded := .ite (.raise (h.frame rfl)) h

theorem counterRead_bounded {requester off : Nat} (h : d.Bounded) : (counterRead requester off d).Bounded :=
  .ite h (.ite (.ite h.spiMalform h) h.readHalf.emit)

theorem functionReset_bounded (h : d.Bounded) : (functionReset d).Bounded := by
  unfold functionReset
  extract_lets src _ d1
  have hsrc : src.Bounded := h.dropKiln
  have hd1 : d1.Bounded := hsrc.frame rfl
  split
  · exact h
  · refine .foldl hd1 (fun _ he _ => ?_)
    extract_lets own e1 e2
    have he1 : e1.Bounded := he.modChan
    have he2 : e2.Bounded := .ite he1.endTxn he1
    exact .post (.ite he2.endUpdate he2)

theorem spiWrite_bounded {ch : Nat} {r : HostReq} (h : d.Bounded) : (spiWrite ch r d).Bounded := by
  unfold spiWrite
  extract_lets _ rejected _ busy
  have hrejected : rejected.Bounded := h.frame rfl
  exact .ite h (.ite hrejected (.ite h (.ite h.take.drainAll hrejected.modChan.count.raise)))

theorem spiRead_bounded {ch : Nat} (h : d.Bounded) : (spiRead ch d).Bounded := by
  unfold spiRead
  split
  · exact h
  · split
    · exact h.emit
    · exact h.emit

theorem spiStatus_bounded (h : d.Bounded) : (spiStatus d).Bounded := .ite h (.emit (h.frame rfl))

end Sys2Proof.Machine
end

section
/-! SUPPORT. The bounds are kept by Keep's shared operations (chapter 12). -/

namespace Sys2Proof.Machine

open Sys2Proof

variable {d : Dev}

theorem Dev.Bounded.setMono {i v : Nat} (h : d.Bounded) : (d.setMono i v).Bounded := h.frame rfl

theorem Dev.Bounded.draw {n : Nat} (h : d.Bounded) : (d.draw n).2.Bounded := h.frame rfl

theorem Dev.Bounded.hashed {n : Nat} (h : d.Bounded) : (d.hashed n).Bounded := h.countN

theorem Dev.Bounded.eccCount (h : d.Bounded) : d.eccCount.Bounded := h.count

theorem Dev.Bounded.putBlobs {i : Nat} {x : Blobs} (h : d.Bounded) : (d.putBlobs i x).Bounded := h.frame rfl

theorem Dev.Bounded.writeBlob {i : Nat} {k : KeySlot} (h : d.Bounded) : (d.writeBlob i k).Bounded := h.putBlobs.mramWrote

theorem Dev.Bounded.putSlotRaw {i : Nat} {k : KeySlot} (h : d.Bounded) : (d.putSlotRaw i k).Bounded := h.frame rfl

theorem Dev.Bounded.keyRefused {st : Nat} (h : d.Bounded) : (d.keyRefused st).Bounded := .ite h.count (.ite h.count (.ite h.count h))

theorem Dev.Bounded.charge {i n : Nat} (h : d.Bounded) : (d.charge i n).Bounded := by
  unfold Dev.charge
  extract_lets k c left low k1 d0 d1 d2
  have hd0 : d0.Bounded := h.putSlotRaw
  have hd1 : d1.Bounded := .ite hd0 hd0.writeBlob
  have hd2 : d2.Bounded := .ite hd1.countN hd1
  exact .ite hd2.post hd2

theorem Dev.Bounded.firmwareCmac {i : Nat} {msg : Bytes} (h : d.Bounded) : (d.firmwareCmac i msg).2.Bounded := by
  unfold Dev.firmwareCmac
  extract_lets n st
  split
  · dsimp only
    exact h.charge
  · dsimp only
    exact h.keyRefused

theorem Dev.Bounded.retrySeals (h : d.Bounded) : d.retrySeals.Bounded := h.frame rfl

theorem Dev.Bounded.slotsChanged {is : List Nat} (h : d.Bounded) : (d.slotsChanged is).Bounded := .ite h.retrySeals h

theorem Dev.Bounded.putKeySlot {i : Nat} {k : KeySlot} (h : d.Bounded) : (d.putKeySlot i k).Bounded :=
  .ite h.putSlotRaw h.putSlotRaw.writeBlob

theorem Dev.Bounded.revokeSlot {i : Nat} (h : d.Bounded) : (d.revokeSlot i).Bounded := h.putKeySlot

theorem Dev.Bounded.revokeUnder {roots : List Nat} {cause : Nat} (h : d.Bounded) : (d.revokeUnder roots cause).Bounded := by
  unfold Dev.revokeUnder
  extract_lets gone d1
  have hd1 : d1.Bounded := .slotsChanged (h.foldl (fun _ he _ => he.revokeSlot))
  clear_value gone
  split
  · exact hd1
  · exact hd1.post

theorem Dev.Bounded.writeSlot {i : Nat} {k : KeySlot} (h : d.Bounded) : (d.writeSlot i k).Bounded := h.putKeySlot.revokeUnder.slotsChanged

theorem Dev.Bounded.eraseSlot {i : Nat} (h : d.Bounded) : (d.eraseSlot i).Bounded := h.putKeySlot.revokeUnder.slotsChanged

theorem Dev.Bounded.destroyRoots {roots : List Nat} (h : d.Bounded) : (d.destroyRoots roots).Bounded := by
  unfold Dev.destroyRoots
  extract_lets gone _ d1
  have hd1 : d1.Bounded := h.foldl (fun _ he _ => he.putKeySlot)
  clear_value gone
  split
  · exact hd1
  · exact hd1.slotsChanged.post

theorem Dev.Bounded.logWrite {type session data : Nat} (h : d.Bounded) : (d.logWrite type session data).Bounded :=
  .ite (.count (h.frame rfl)) (.post (.count (.hashed (h.frame rfl))))

theorem Dev.Bounded.legalLog {type session data : Nat} (h : d.Bounded) : (d.legalLog type session data).Bounded :=
  .ite h.logWrite (.logWrite (.logWrite (h.frame rfl)))

end Sys2Proof.Machine
end

section
/-! SUPPORT. The bounds are kept by P90's rings, in-band requests and the system commands (chapter 02). -/

namespace Sys2Proof.Machine

open Sys2Proof

variable {d : Dev}

theorem Dev.Bounded.ringComplete {tx : Bool} {r : Nat} (h : d.Bounded) : (d.ringComplete tx r).Bounded := .ite h.modRing.raise h.modRing

theorem Dev.Bounded.ringWriteBack {tx : Bool} {r : Nat} {bytes : Bytes} (h : d.Bounded) : (d.ringWriteBack tx r bytes).Bounded :=
  h.emit.modRing.ringComplete

theorem ringTail_bounded {tx : Bool} {r tail : Nat} {ds : List P90Desc} (h : d.Bounded) : (ringTail tx r tail ds d).Bounded :=
  .ite h h.modRing

theorem ringEnable_bounded {tx : Bool} {r val : Nat} (h : d.Bounded) : (ringEnable tx r val d).Bounded := .ite h h.ringCtrl

theorem ringHoldoff_bounded {tx : Bool} {r : Nat} (h : d.Bounded) : (ringHoldoff tx r d).Bounded := .ite h.modRing.raise h

theorem p90Fetch_bounded {dma : Option (List Byte)} (h : d.Bounded) : (p90Fetch dma d).Bounded := by
  unfold p90Fetch
  split
  · exact h
  · split
    · exact h
    · split
      · exact h
      · extract_lets bad done ts
        have hdone : ∀ (e : Dev), e.Bounded → ∀ (status : Nat), (done e status).Bounded := by
          intro _ he _
          exact he.ringWriteBack
        split
        · exact hdone _ h.count _
        · split
          · exact hdone _ h _
          · exact hdone _ h.injectTs _

theorem p90Deliver_bounded (h : d.Bounded) : (p90Deliver d).Bounded := by
  unfold p90Deliver
  extract_lets ready
  split
  · exact h
  · split
    · exact h
    · extract_lets bytes c i
      split
      · exact h
      · exact .ite h.passOut (.ite h.dropCopy.count h.passOut.emit.ringWriteBack)

theorem Dev.Bounded.mgmtReject {port counter reason : Nat} (h : d.Bounded) : (d.mgmtReject port counter reason).Bounded :=
  h.count.postLimited

theorem inBandRequest_bounded {f : RxFrame} (h : d.Bounded) : (inBandRequest f d).Bounded := by
  unfold inBandRequest
  extract_lets g o mine arrives ch len c vid body mac check d' replay r d1
  have hcheck : check.2.Bounded := h.firmwareCmac
  have hd' : d'.Bounded := hcheck
  have hd1 : d1.Bounded := hd'.modChan.count
  split
  · exact h
  · split
    · exact h.mgmtReject
    · split
      · exact h.mgmtReject
      · exact .ite h.mgmtReject (.ite hd'.mgmtReject (.ite hd'.mgmtReject (.ite hd' hd1.take.drainAll)))

theorem sysIdentify_bounded {rq : Req} (h : d.Bounded) : (sysIdentify rq d).Bounded :=
  .serve (fun _ he _ _ => withLayout_bounded he (ansOk_bounded he)) h

theorem sysVersion_bounded {rq : Req} (h : d.Bounded) : (sysVersion rq d).Bounded :=
  .serve (fun _ he _ _ => withLayout_bounded he (ansOk_bounded he)) h

theorem sysReset_bounded {rq : Req} (h : d.Bounded) : (sysReset rq d).Bounded :=
  .serve (fun _ he _ _ => withLayout_bounded he (.ite (ansErr_bounded he) (ansOk_bounded (he.frame rfl)))) h

theorem sysClaimsList_bounded {rq : Req} (h : d.Bounded) : (sysClaimsList rq d).Bounded :=
  .serve (fun _ he _ _ => withLayout_bounded he (.ite (ansErr_bounded he) (ansOk_bounded he))) h

theorem sysCounterSnapshot_bounded {rq : Req} (h : d.Bounded) : (sysCounterSnapshot rq d).Bounded :=
  .serve (fun _ he _ _ => withLayout_bounded he (.ite (ansErr_bounded he) (ansOk_bounded (he.frame rfl)))) h

theorem sysCounterClear_bounded {rq : Req} (h : d.Bounded) : (sysCounterClear rq d).Bounded := by
  unfold sysCounterClear
  exact .serve (fun _ he _ _ => withLayout_bounded he (.ite (ansErr_bounded he) (ansOk_bounded (he.frame rfl)))) h

theorem sysEventFetch_bounded {rq : Req} (h : d.Bounded) : (sysEventFetch rq d).Bounded := by
  unfold sysEventFetch
  exact .serve (fun _ he _ _ => withLayout_bounded he (.ite (ansErrD_bounded he) (ansOk_bounded (he.frame rfl)))) h

theorem applyChannelCfg_bounded {bs : Bytes} (h : d.Bounded) : (applyChannelCfg bs d).Bounded := h.modChan

theorem channelRebind_bounded {ch : Nat} (h : d.Bounded) : (channelRebind ch d).Bounded := by
  unfold channelRebind
  extract_lets c
  split
  · exact h
  · exact .ite h h.modChan.resetChannel

end Sys2Proof.Machine
end

section
/-! SUPPORT. The bounds are kept by the ECC engine (chapter 12). -/

namespace Sys2Proof.Machine

open Sys2Proof

variable {d : Dev}

theorem Dev.Bounded.eccBegin {op : EccOp} (h : d.Bounded) : (d.eccBegin op).2.Bounded := by
  unfold Dev.eccBegin
  split
  · exact h
  · extract_lets k op1 d1 _
    have hd1 : d1.Bounded := h.charge
    split
    · exact h
    · dsimp only
      exact hd1.frame rfl

theorem Dev.Bounded.putEcc {q : List EccOp} (h : d.Bounded) : (d.putEcc q).Bounded := h.frame rfl

theorem Dev.Bounded.eccNext {n : Nat} (h : d.Bounded) : (Dev.eccNext n d).Bounded := by
  induction n generalizing d with
  | zero => exact h
  | succ n ih =>
    unfold Dev.eccNext
    split
    · exact h
    · extract_lets st b
      have hb : b.2.Bounded := h.eccBegin
      exact .ite h (.ite hb.putEcc (ih h.putEcc.keyRefused.complete))

theorem Dev.Bounded.eccSubmit {op : EccOp} (h : d.Bounded) : (d.eccSubmit op).Bounded :=
  .ite (.ite (.wait h.eccBegin.putEcc) (ansErr_bounded h.keyRefused)) (.wait h.putEcc)

theorem Dev.Bounded.withheldCount {st : Nat} (h : d.Bounded) : (d.withheldCount st).Bounded := .ite h.count (.ite h.count h)

theorem Dev.Bounded.eccFault {op : EccOp} (h : d.Bounded) : (d.eccFault op).Bounded := h.complete.count.fault

theorem Dev.Bounded.eccEnd {op : EccOp} {ok : Bool} (h : d.Bounded) : (d.eccEnd op ok).Bounded := by
  unfold Dev.eccEnd
  extract_lets st i st'
  exact .ite h.complete (.ite h.eccFault (.ite h.hashed.complete (.ite h.complete h.withheldCount.complete)))

theorem eccComplete_bounded {firstOk secondOk : Bool} (h : d.Bounded) : (eccComplete firstOk secondOk d).Bounded := by
  unfold eccComplete
  split
  · exact h
  · extract_lets d1 _ d2
    have hd1 : d1.Bounded := h.putEcc.eccCount.eccEnd
    have hd2 : d2.Bounded := hd1.frame rfl
    exact .ite h hd2.eccNext

end Sys2Proof.Machine
end

section
/-! SUPPORT. The bounds are kept by Keep (chapter 12). -/

namespace Sys2Proof.Machine

open Sys2Proof

variable {d : Dev}

theorem Dev.Bounded.msgWork {m : Bytes} (h : d.Bounded) : (d.msgWork m).Bounded := .ite h.hashed h.hashed.eccCount

theorem Dev.Bounded.msgApplied {m : Bytes} {slot : Nat} (h : d.Bounded) : (d.msgApplied m slot).Bounded := h.setMono.count.post

theorem Dev.Bounded.msgRefused (h : d.Bounded) : d.msgRefused.Bounded := h.count

theorem Dev.Bounded.applyInstall {m : Bytes} (h : d.Bounded) : (d.applyInstall m).Bounded := by
  unfold Dev.applyInstall
  extract_lets b i kdf
  split
  · exact ansErrD_bounded h.msgRefused
  · split
    · exact ansErr_bounded h.eccCount.msgRefused
    · extract_lets d1
      have hd1 : d1.Bounded := h.eccCount.writeSlot.msgApplied
      exact ansOk_bounded hd1

theorem Dev.Bounded.applyGenerate {m : Bytes} (h : d.Bounded) : (d.applyGenerate m).Bounded := by
  unfold Dev.applyGenerate
  extract_lets b i r d0 d1
  have hr : r.2.Bounded := h.draw
  have hd0 : d0.Bounded := .ite hr.eccCount hr
  have hd1 : d1.Bounded := hd0.writeSlot.msgApplied
  exact .ite (ansErrD_bounded h.msgRefused) (.ite (ansErrD_bounded h.msgRefused) (ansOk_bounded hd1))

theorem Dev.Bounded.applyErase {m : Bytes} (h : d.Bounded) : (d.applyErase m).Bounded := ansOk_bounded h.eraseSlot.msgApplied

theorem Dev.Bounded.applyLifecycle {m : Bytes} (h : d.Bounded) : (d.applyLifecycle m).Bounded := by
  unfold Dev.applyLifecycle
  extract_lets b d0 _ _ d1
  have hd0 : d0.Bounded := h.mramWrote
  have hd1 : d1.Bounded := hd0.frame rfl
  exact .ite (ansErr_bounded h.msgRefused) (ansOk_bounded hd1.msgApplied)

theorem updateBody_bounded {m : Bytes} (h : d.Bounded) : (updateBody d m).Bounded := by
  unfold updateBody
  extract_lets st d1
  have hd1 : d1.Bounded := .ite h h.msgWork
  split
  · exact ansErr_bounded h.msgRefused.count
  · split
    · exact ansErr_bounded h.msgRefused
    · split
      · exact ansErr_bounded hd1.msgRefused
      · split
        · exact hd1.applyInstall
        · exact hd1.applyGenerate
        · exact hd1.applyErase
        · exact hd1.applyLifecycle

theorem Dev.Bounded.modPage {p : Nat} {f : Page → Page} (h : d.Bounded) : (d.modPage p f).Bounded := h.frame rfl

theorem pageGo_bounded {requester p : Nat} {j : PageJob} (h : d.Bounded) : (pageGo requester p j d).Bounded :=
  .ite h (.ite h.count (.ite h h.modPage))

theorem Dev.Bounded.endJobD {p st detail : Nat} {out : Bytes} (h : d.Bounded) : (d.endJobD p st detail out).Bounded := by
  unfold Dev.endJobD
  extract_lets g d1 _ d2
  have hd1 : d1.Bounded := h.modPage
  have hd2 : d2.Bounded := hd1.frame rfl
  exact .ite hd2.complete hd2

theorem Dev.Bounded.endJob {p st : Nat} {out : Bytes} (h : d.Bounded) : (d.endJob p st out).Bounded := h.endJobD

theorem Dev.Bounded.endFault {p detail : Nat} (h : d.Bounded) : (d.endFault p detail).Bounded := h.endJobD

theorem Dev.Bounded.startJob {p : Nat} {input : Bytes} (h : d.Bounded) : (d.startJob p input).Bounded := by
  unfold Dev.startJob
  extract_lets g k d1 _
  have hd1 : d1.Bounded := h.charge.modPage
  exact hd1.frame rfl

theorem Dev.Bounded.pageTransfer {g : Page} {act : Dev → Dev} (hact : ∀ (a : Dev), a.Bounded → (act a).Bounded) (hd : d.Bounded) :
    (Dev.pageTransfer g act d).Bounded :=
  .ite (hact _ hd) (.transferBy hact hd)

theorem jobStart_bounded (h : d.Bounded) : (jobStart d).Bounded := by
  unfold jobStart
  split
  · exact h
  · split
    · exact h
    · extract_lets g st served
      have hserved : ∀ (e : Dev), e.Bounded → (served e).Bounded := by
        intro _ he
        exact he.frame rfl
      split
      · exact ((hserved _ h).keyRefused).endJob
      · split
        · exact (hserved _ h).startJob
        · split
          · exact .pageTransfer (fun _ he => (hserved _ he).startJob) h
          · exact (hserved _ h).badHandle

theorem Dev.Bounded.jobOutput {g : Page} {bs : Bytes} (h : d.Bounded) : (d.jobOutput g bs).Bounded := by
  unfold Dev.jobOutput
  split
  · exact h
  · split
    · rename_i x d1 heq
      have hd1 : d1.Bounded := h.hopperWrite _ heq
      exact hd1
    · rename_i x heq
      exact h.badHandle

theorem Dev.Bounded.releaseJob {p : Nat} {inverseOk : Bool} (h : d.Bounded) : (Dev.releaseJob p inverseOk d).Bounded := by
  unfold Dev.releaseJob
  extract_lets g key out _ d1 f2 st
  have hd1 : d1.Bounded := .count (.modPage (h.frame rfl))
  exact .ite hd1.count.jobOutput.endFault.fault (.ite hd1.jobOutput.endJob hd1.withheldCount.jobOutput.endJob)

theorem jobRelease_bounded {inverseOk : Bool} (h : d.Bounded) : (jobRelease inverseOk d).Bounded := by
  unfold jobRelease
  split
  · exact h
  · exact .pageTransfer (fun _ he => he.releaseJob) h

theorem Dev.Bounded.rngFail {kind : Nat} (h : d.Bounded) : (d.rngFail kind).Bounded := .post (.faultF1 (.count (h.frame rfl)))

theorem rngRetest_bounded {ok : Bool} (h : d.Bounded) : (rngRetest ok d).Bounded := .ite h (.ite (h.frame rfl) h.rngFail)

theorem Dev.Bounded.zeroKeys (h : d.Bounded) : d.zeroKeys.Bounded := h.frame rfl

theorem Dev.Bounded.abortKeyOps {src : Nat} (h : d.Bounded) : (d.abortKeyOps src).Bounded := by
  unfold Dev.abortKeyOps
  extract_lets d1 d2 busy d3
  have hd1 : d1.Bounded := by
    unfold d1
    split
    · exact h.count.jobOutput.endJob
    · exact h
  have hd2 : d2.Bounded := by
    unfold d2
    split
    · exact .ite hd1.putEcc.count.complete hd1
    · exact hd1
  have hd3 : d3.Bounded := .ite hd2.legalLog hd2
  exact hd3.eccNext

theorem Dev.Bounded.latchTamper {src action : Nat} {asleep : Bool} (h : d.Bounded) : (d.latchTamper src action asleep).Bounded :=
  .post (.count (.aonWrite (h.frame rfl)))

theorem Dev.Bounded.tamperResponse {src action : Nat} (h : d.Bounded) : (d.tamperResponse src action).Bounded := by
  unfold Dev.tamperResponse
  extract_lets asleep d1 _ d2 d3 _ _
  have hd1 : d1.Bounded := h.latchTamper
  have hd2 : d2.Bounded := .abortKeyOps (hd1.frame rfl)
  have hd3 : d3.Bounded := hd2.zeroKeys
  exact .ite hd1.zeroKeys.noteWake.resetNow (.ite (hd3.frame rfl) hd3)

theorem tamperAlarm_bounded {src held : Nat} (h : d.Bounded) : (tamperAlarm src held d).Bounded := by
  unfold tamperAlarm
  extract_lets t e put d1
  have hput : ∀ (e : Dev), e.Bounded → ∀ (a : Nat), (put e a).Bounded := by
    intro _ he _
    exact he.frame rfl
  have hd1 : d1.Bounded := hput _ h _
  exact .ite h (.ite (hput _ h _) (.ite h (.ite hd1.aonWrite.count hd1.tamperResponse)))

theorem tamperHoldReset_bounded (h : d.Bounded) : (tamperHoldReset d).Bounded := by
  unfold tamperHoldReset
  extract_lets _ _
  split
  · exact h
  · exact .resetNow (h.frame rfl)

theorem lifecycleReset_bounded (h : d.Bounded) : (lifecycleReset d).Bounded := by
  unfold lifecycleReset
  split
  · exact .ite h.resetNow h
  · exact h

end Sys2Proof.Machine
end

section
/-! SUPPORT. The bounds are kept by the Keep commands (chapter 12). -/

namespace Sys2Proof.Machine

open Sys2Proof

variable {d : Dev}

theorem keepSlotInfo_bounded {rq : Req} (h : d.Bounded) : (keepSlotInfo rq d).Bounded :=
  .serve (fun _ he _ _ => withLayout_bounded he (.ite (ansErr_bounded he) (ansOk_bounded he))) h

theorem keepUpdate_bounded {rq : Req} (h : d.Bounded) : (keepUpdate rq d).Bounded := .serve (fun _ he _ _ => updateBody_bounded he) h

theorem deriveBody_bounded {bs : Bytes} (h : d.Bounded) : (deriveBody d bs).Bounded := by
  unfold deriveBody
  extract_lets pi ci type usage n p st len blocks d0 d1
  have hd0 : d0.Bounded := h.charge
  have hd1 : d1.Bounded := .writeSlot (.ite hd0.eccCount hd0)
  exact .ite (ansErr_bounded h.keyRefused) (.ite (ansErr_bounded h) (.ite (ansErr_bounded h) (ansOk_bounded hd1)))

theorem eraseChildBody_bounded {bs : Bytes} (h : d.Bounded) : (eraseChildBody d bs).Bounded :=
  .ite (ansErr_bounded h.keyRefused) (.ite (ansErr_bounded h) (ansOk_bounded h.eraseSlot))

theorem keepDerive_bounded {rq : Req} (h : d.Bounded) : (keepDerive rq d).Bounded :=
  .serve (fun _ he _ _ => withLayout_bounded he (.ite (eraseChildBody_bounded he) (deriveBody_bounded he))) h

theorem keepCipher_bounded {rq : Req} (h : d.Bounded) : (keepCipher rq d).Bounded := by
  unfold keepCipher
  extract_lets _
  refine .serve (fun _ he _ _ => ?_) h
  extract_lets n
  split
  · exact ansErr_bounded he
  · exact .ite (ansErr_bounded he) (.ite (ansErrD_bounded he) (.ite (ansErr_bounded he) (.wait he.modPage)))

theorem Dev.Bounded.hashedFor {alg : Nat} {bs : Bytes} (h : d.Bounded) : (d.hashedFor alg bs).Bounded := .ite h h.hashed

theorem keepSign_bounded {rq : Req} (h : d.Bounded) : (keepSign rq d).Bounded := by
  unfold keepSign
  refine .serve (fun _ he _ _ => ?_) h
  split
  · exact ansErr_bounded he
  · split
    · exact ansErr_bounded he
    · split
      · exact ansErr_bounded he
      · exact .ite (ansErr_bounded he) he.hashedFor.eccSubmit

theorem keepVerify_bounded {rq : Req} (h : d.Bounded) : (keepVerify rq d).Bounded := by
  unfold keepVerify
  refine .serve (fun _ he _ _ => ?_) h
  extract_lets slot inl curve w pk data
  split
  · exact ansErr_bounded he
  · split
    · exact ansErr_bounded he
    · split
      · exact ansErr_bounded he
      · split
        · exact ansErr_bounded he
        · extract_lets op
          exact he.hashedFor.eccSubmit

theorem keepHash_bounded {rq : Req} (h : d.Bounded) : (keepHash rq d).Bounded := by
  unfold keepHash
  exact .serve (fun _ he _ _ => .ite (ansErr_bounded he) (.ite (ansErr_bounded he) (ansOk_bounded he.hashed))) h

theorem keepRandom_bounded {rq : Req} (h : d.Bounded) : (keepRandom rq d).Bounded := by
  unfold keepRandom
  exact .serve (fun _ he _ _ => withLayout_bounded he (.ite (ansErrD_bounded he) (ansOk_bounded he.draw.countN))) h

theorem keepCounterRead_bounded {rq : Req} (h : d.Bounded) : (keepCounterRead rq d).Bounded :=
  .serve (fun _ he _ _ => withLayout_bounded he (ansOk_bounded he)) h

theorem keepCounterIncrement_bounded {rq : Req} (h : d.Bounded) : (keepCounterIncrement rq d).Bounded := by
  unfold keepCounterIncrement
  refine .serve (fun _ he _ _ => ?_) h
  extract_lets i
  exact withLayout_bounded he (.ite (ansErr_bounded he) (.ite (ansErr_bounded he) (ansOk_bounded he.setMono)))

theorem keepAttest_bounded {rq : Req} (h : d.Bounded) : (keepAttest rq d).Bounded :=
  .serve (fun _ he _ _ => withLayout_bounded he he.eccSubmit) h

theorem keepIdentity_bounded {rq : Req} (h : d.Bounded) : (keepIdentity rq d).Bounded :=
  .serve (fun _ he _ _ => withLayout_bounded he (ansOk_bounded he)) h

theorem applyTamperCfg_bounded {bs : Bytes} (h : d.Bounded) : (applyTamperCfg bs d).Bounded := .mramWrote (h.frame rfl)

theorem keepTamperStatus_bounded {rq : Req} (h : d.Bounded) : (keepTamperStatus rq d).Bounded :=
  .serve (fun _ he _ _ => withLayout_bounded he (ansOk_bounded he)) h

end Sys2Proof.Machine
end

section
/-! SUPPORT. The bounds are kept by Twin Link (chapter 14). -/

namespace Sys2Proof.Machine

open Sys2Proof

variable {d : Dev}

theorem Dev.Bounded.twinPlain {rs : List (Nat × Bytes)} (h : d.Bounded) : (d.twinPlain rs).Bounded := h.sendAt.free.count

theorem Dev.Bounded.twinSend {rs : List (Nat × Bytes)} (h : d.Bounded) : (d.twinSend rs).Bounded := h.sendAt.modTwin.count

theorem Dev.Bounded.journal {rs : List (Nat × Bytes)} (h : d.Bounded) : (d.journal rs).Bounded := h.foldl (fun _ he _ => he.twinSend)

theorem Dev.Bounded.journalSync {type : Nat} {rs : List (Nat × Bytes)} (h : d.Bounded) : (d.journalSync type rs).Bounded := by
  unfold Dev.journalSync
  extract_lets d1 w
  have hd1 : d1.Bounded := h.journal
  exact hd1.modTwin

theorem Dev.Bounded.settleSync (h : d.Bounded) : d.settleSync.Bounded := .ite h.setSync h

theorem Dev.Bounded.journalSession {n : Nat} (h : d.Bounded) : (d.journalSession n).Bounded := .ite h.journalSync h

end Sys2Proof.Machine
end

section
/-! SUPPORT. The bounds are kept by Cask (chapter 11). -/

namespace Sys2Proof.Machine

open Sys2Proof

variable {d : Dev}

theorem Dev.Bounded.modSes {n : Nat} {f : Session → Session} (h : d.Bounded) : (d.modSes n f).Bounded := h.frame rfl

theorem Dev.Bounded.sesTo {n : Nat} {st : SesState} (h : d.Bounded) : (d.sesTo n st).Bounded := .ite h h.modSes.post.journalSession

theorem Dev.Bounded.sesAnswer {n status : Nat} {payload : Bytes} (h : d.Bounded) : (d.sesAnswer n status payload).Bounded := by
  unfold Dev.sesAnswer
  split
  · exact h
  · exact h.modSes.complete

theorem Dev.Bounded.sesFree {n : Nat} (h : d.Bounded) : (d.sesFree n).Bounded := h.sesTo.unbindZone.modSes

theorem Dev.Bounded.sesSealed {n : Nat} (h : d.Bounded) : (d.sesSealed n).Bounded := .ite h.sesTo.unbindZone.sesFree h.sesTo.unbindZone

theorem Dev.Bounded.sesHold {n : Nat} (h : d.Bounded) : (d.sesHold n).Bounded := by
  unfold Dev.sesHold
  extract_lets x d1
  have hd1 : d1.Bounded := h.holdPort
  split
  · exact hd1.holdPort
  · exact hd1

theorem Dev.Bounded.beginRead {n : Nat} (h : d.Bounded) : (d.beginRead n).Bounded := by
  unfold Dev.beginRead
  extract_lets x d1
  have hd1 : d1.Bounded := h.modSes
  split
  · exact .ite hd1.queuePoll hd1
  · exact hd1

theorem Dev.Bounded.waitRead {n : Nat} {w : SesWait} (h : d.Bounded) : (d.waitRead n w).Bounded := h.modSes.beginRead

theorem Dev.Bounded.waitReadDue {n : Nat} {w : SesWait} (h : d.Bounded) : (d.waitReadDue n w).Bounded := h.modSes

theorem Dev.Bounded.startDueReads (h : d.Bounded) : d.startDueReads.Bounded := .ite h (h.foldl (fun _ he _ => .ite he.beginRead he))

theorem Dev.Bounded.queueSeal {n cause : Nat} (h : d.Bounded) : (d.queueSeal n cause).Bounded := h.frame rfl

theorem Dev.Bounded.readyToSeal {n : Nat} (h : d.Bounded) : (d.readyToSeal n).Bounded := h.modSes.queueSeal

theorem Dev.Bounded.noSegment {n status : Nat} (h : d.Bounded) : (d.noSegment n status).Bounded := by
  unfold Dev.noSegment
  extract_lets d1
  have hd1 : d1.Bounded := h.modSes.sesTo
  exact hd1.sesAnswer.sesSealed

theorem Dev.Bounded.readFailed {n : Nat} (h : d.Bounded) : (d.readFailed n).Bounded := by
  unfold Dev.readFailed
  extract_lets x
  split
  · exact .ite h.noSegment h.modSes.sesAnswer
  · exact h.modSes.sesAnswer
  · exact h.modSes.readyToSeal
  · exact h

theorem Dev.Bounded.attemptFailed {n why : Nat} (h : d.Bounded) : (d.attemptFailed n why).Bounded := .ite h.post.beginRead h.post.readFailed

theorem Dev.Bounded.takeStart {n : Nat} {rebind : Bool} {r : Reading} (h : d.Bounded) : (d.takeStart n rebind r).Bounded :=
  .ite h.modSes.modSes.journalSession.sesAnswer h.modSes.sesTo.sesAnswer

theorem Dev.Bounded.takeStop {n : Nat} {r : Reading} (h : d.Bounded) : (d.takeStop n r).Bounded :=
  .ite h.modSes.journalSession.readyToSeal h.modSes.journalSession

theorem Dev.Bounded.takeInterim {n : Nat} {r : Reading} (h : d.Bounded) : (d.takeInterim n r).Bounded := h.modSes.journalSession.sesAnswer

theorem Dev.Bounded.takeReading {n : Nat} {r : Reading} (h : d.Bounded) : (d.takeReading n r).Bounded := by
  unfold Dev.takeReading
  extract_lets d1
  have hd1 : d1.Bounded := .ite h.legalLog h
  split
  · exact hd1.takeStart
  · exact hd1.takeInterim
  · exact hd1.takeStop
  · exact h

theorem meterReading_bounded {n : Nat} (h : d.Bounded) : (meterReading n d).Bounded := by
  unfold meterReading
  extract_lets x d1
  have hd1 : d1.Bounded := h.modSes
  split
  · exact h
  · split
    · exact h
    · split
      · exact hd1.attemptFailed
      · split
        · exact hd1.count.attemptFailed
        · exact hd1.takeReading

theorem readTimeoutStep_bounded {n : Nat} (h : d.Bounded) : (readTimeoutStep n d).Bounded := .ite h.modSes.count.attemptFailed h

theorem foldTimeout_bounded {n : Nat} (h : d.Bounded) : (foldTimeout n d).Bounded := .ite h.readyToSeal h

theorem Dev.Bounded.foldTo {n : Nat} {w : Window} (h : d.Bounded) : (d.foldTo n w).Bounded :=
  .ite (.readyToSeal (.modSes (.ite h.modSes h))) (.ite h.modSes h)

theorem Dev.Bounded.foldToCask {g : Nat} {w : Window} {flags : Nat} (h : d.Bounded) : (d.foldToCask g w flags).Bounded :=
  .ite h (h.foldl (fun _ he _ => .ite he.foldTo he))

theorem Dev.Bounded.deliverRecord {r : CupRecord} (h : d.Bounded) : (d.deliverRecord r).Bounded := by
  unfold Dev.deliverRecord
  extract_lets d1
  have hd1 : d1.Bounded := h.toSpire
  split
  · exact hd1.sendGroupReply.foldToCask
  · exact hd1.post

theorem fanInStep_bounded (h : d.Bounded) : (fanInStep d).Bounded := by
  unfold fanInStep
  split
  · exact h
  · exact .transfer (fun _ he => he.putCupola.deliverRecord) h

theorem Dev.Bounded.ringLevel (h : d.Bounded) : d.ringLevel.Bounded := .ite (.ite (.post (h.frame rfl)) h) (.ite (.post (h.frame rfl)) h)

theorem Dev.Bounded.modHeadSeal {f : SealItem → SealItem} (h : d.Bounded) : (d.modHeadSeal f).Bounded := by
  unfold Dev.modHeadSeal
  extract_lets _
  split
  · exact h
  · exact h.frame rfl

theorem Dev.Bounded.answerSeal {it : SealItem} {status : Nat} (h : d.Bounded) : (d.answerSeal it status).Bounded := by
  unfold Dev.answerSeal
  extract_lets _
  split
  · split
    · exact .ite (.complete (h.frame rfl)) h
    · exact h
  · exact h.modSes.sesAnswer

theorem Dev.Bounded.withhold {it : SealItem} {status : Nat} {seq : Option Nat} {logged : Bool} (h : d.Bounded) :
    (d.withhold it status seq logged).Bounded :=
  .answerSeal (.ite (.legalLog (.count (h.frame rfl))) (h.frame rfl))

theorem Dev.Bounded.ringWriteRecord {it : SealItem} {seq : Nat} {rcd : Bytes} (h : d.Bounded) : (d.ringWriteRecord it seq rcd).Bounded :=
  .ringLevel (.post (.count (.hashed (h.frame rfl))))

theorem Dev.Bounded.sealLogs {it : SealItem} {seq : Nat} (h : d.Bounded) : (d.sealLogs it seq).Bounded := by
  unfold Dev.sealLogs
  extract_lets n x p d1 d2 d3
  have hd1 : d1.Bounded := .ite h.count.post.legalLog h
  have hd2 : d2.Bounded := .ite hd1.legalLog hd1
  have hd3 : d3.Bounded := .ite hd2.legalLog hd2
  exact .ite hd3.legalLog hd3

theorem Dev.Bounded.afterRecord {n seq : Nat} {rcd : Bytes} (h : d.Bounded) : (d.afterRecord n seq rcd).Bounded := by
  unfold Dev.afterRecord
  extract_lets x d0 d1 d2 d3
  have hd0 : d0.Bounded := h.modSes
  have hd1 : d1.Bounded := .ite hd0.sesAnswer hd0
  have hd2 : d2.Bounded := hd1.modSes.sesHold
  have hd3 : d3.Bounded := hd2.modSes
  split
  · exact .ite hd3.waitReadDue hd3.waitRead
  · exact hd1.sesAnswer.sesSealed

theorem Dev.Bounded.afterMarker {it : SealItem} {seq : Nat} (h : d.Bounded) : (d.afterMarker it seq).Bounded := by
  unfold Dev.afterMarker
  extract_lets _
  split
  · exact .ite (.complete (h.frame rfl)) h
  · exact h

theorem Dev.Bounded.sealFails {n : Nat} (h : d.Bounded) : (d.sealFails n).Bounded := .ite h.modSes.sesTo h

theorem Dev.Bounded.signAndRelease {it : SealItem} {seq : Nat} {ok : Bool} (h : d.Bounded) : (d.signAndRelease it seq ok).Bounded := by
  unfold Dev.signAndRelease
  extract_lets slot d1 head sig rcd d2 d3 d4 d5
  have hd1 : d1.Bounded := h.charge.eccCount
  have hd2 : d2.Bounded := hd1.frame rfl
  have hd3 : d3.Bounded := .ite hd2 hd2.sealLogs
  have hd4 : d4.Bounded := hd3.ringWriteRecord
  have hd5 : d5.Bounded := .ite hd4.legalLog hd4
  exact .ite hd1.faultF1.sealFails.withhold (.ite hd5.afterMarker hd5.afterRecord)

theorem Dev.Bounded.sealHead {it : SealItem} {ok : Bool} (h : d.Bounded) : (d.sealHead it ok).Bounded := by
  unfold Dev.sealHead
  extract_lets st seq d1
  have hd1 : d1.Bounded := h.setMono.modHeadSeal
  exact .ite h.withhold (.ite h.withhold (.ite hd1.signAndRelease hd1.keyRefused.withhold))

theorem recordSeal_bounded {n : Nat} {sigOk retryOk : Bool} (h : d.Bounded) : (recordSeal n sigOk retryOk d).Bounded := by
  unfold recordSeal
  split
  · exact h
  · split
    · exact h
    · split
      · exact .ite h.sealHead h
      · split
        · exact .ite h h.withhold
        · exact h

theorem Dev.Bounded.voidInterrupted (h : d.Bounded) : d.voidInterrupted.Bounded := .foldl (h.frame rfl) (fun _ he _ => he.legalLog)

theorem Dev.Bounded.startLogs (h : d.Bounded) : d.startLogs.Bounded := by
  unfold Dev.startLogs
  extract_lets _ d1 _
  have hd1 : d1.Bounded := by
    unfold d1
    split
    · exact h
    · extract_lets e
      have he : e.Bounded := .legalLog (h.frame rfl)
      exact .ite he.queueSeal he
  split
  · exact hd1
  · exact .queueSeal (.legalLog (hd1.frame rfl))

theorem Dev.Bounded.recoverSession {cause n : Nat} (h : d.Bounded) : (d.recoverSession cause n).Bounded := by
  unfold Dev.recoverSession
  extract_lets x queued end_ d1 d2 d3
  have hend_ : ∀ (e : Dev), e.Bounded → (end_ e).Bounded := by
    intro _ he
    exact he.modSes
  have hd1 : d1.Bounded := hend_ _ h
  have hd2 : d2.Bounded := hd1.modSes
  have hd3 : d3.Bounded := hd2.sesTo
  split
  · exact h
  · exact h
  · exact h.sesFree
  · exact .ite hd1.noSegment (.ite hd3.modSes (.ite hd3.readyToSeal hd3.waitReadDue))

theorem Dev.Bounded.brokenChain (h : d.Bounded) : d.brokenChain.Bounded := .faultF2 (h.frame rfl)

theorem caskRecovery_bounded {chainOk : Bool} (h : d.Bounded) : (caskRecovery chainOk d).Bounded := by
  unfold caskRecovery
  extract_lets cause mine _ d1
  have hd1 : d1.Bounded := .startLogs (.voidInterrupted (h.frame rfl))
  exact .ite h (.ite h.brokenChain (.ite hd1 (hd1.retrySeals.foldl (fun _ he _ => he.recoverSession))))

theorem takeoverResegment_bounded {n : Nat} (h : d.Bounded) : (takeoverResegment n d).Bounded := by
  unfold takeoverResegment
  extract_lets x d1
  have hd1 : d1.Bounded := h.modSes
  split
  · exact h
  · split
    · exact hd1.modSes.waitRead
    · exact hd1.modSes.waitRead
    · exact .ite hd1.readyToSeal hd1.waitRead
    · exact h

end Sys2Proof.Machine
end

section
/-! SUPPORT. The bounds are kept by the session commands (chapter 11). -/

namespace Sys2Proof.Machine

open Sys2Proof

variable {d : Dev}

theorem openBody_bounded {bs : Bytes} (h : d.Bounded) : (openBody d bs).Bounded := by
  unfold openBody
  extract_lets lc named outlet zone b serial _ _
  split
  · exact ansErr_bounded h
  · split
    · exact ansErrD_bounded h
    · split
      · exact ansErr_bounded h
      · extract_lets d1
        have hd1 : d1.Bounded := .modSes (h.frame rfl)
        split
        · exact ansErr_bounded h
        · split
          · exact ansErrD_bounded h
          · split
            · exact ansErrD_bounded h
            · split
              · exact ansErrD_bounded h
              · exact .ite (ansErr_bounded h) (.ite (ansErr_bounded h) (ansOk_bounded hd1.sesTo.bindZone.count.sesHold))

theorem sesOpen_bounded {rq : Req} (h : d.Bounded) : (sesOpen rq d).Bounded :=
  .serve (fun _ he _ _ => withLayout_bounded he (.ite (ansErr_bounded he) (openBody_bounded he))) h

theorem sesBody_bounded {states : List SesState} {n : Nat} {own : Session → Option Ans} {k : Session → Ans} (h : d.Bounded)
    (hown : ∀ x a, own x = some a → a.Bounded) (hk : ∀ x, (k x).Bounded) : (sesBody states d n own k).Bounded := by
  unfold sesBody
  extract_lets x
  split
  · exact ansErr_bounded h
  · split
    · exact hown _ _ (by assumption)
    · exact ansErrD_bounded h
    · exact .ite (ansErr_bounded h) (hk _)

theorem noChecks_bounded {x : Session} : ∀ a, noChecks x = some a → a.Bounded := by
  intro a ha
  rw [noChecks] at ha
  cases ha

theorem withSession_bounded {bs : Bytes} {k : Nat → Ans} (h : d.Bounded) (hk : ∀ (a : Nat), (k a).Bounded) : (withSession d bs k).Bounded :=
  withLayout_bounded h (hk _)

theorem Dev.Bounded.sesCmd {n ch op : Nat} (h : d.Bounded) : (d.sesCmd n ch op).Bounded := h.modSes

theorem sesStart_bounded {rq : Req} (h : d.Bounded) : (sesStart rq d).Bounded := by
  refine .serve (fun e he _ _ => withSession_bounded he fun _ => sesBody_bounded he (fun _ a ha => ?_) fun _ => .wait he.sesCmd.waitRead) h
  split at ha
  · cases ha
    exact ansErrD_bounded he
  · cases ha

theorem sesSuspend_bounded {rq : Req} (h : d.Bounded) : (sesSuspend rq d).Bounded := by
  unfold sesSuspend
  refine .serve (fun _ he _ _ => withSession_bounded he (fun _ => ?_)) h
  exact sesBody_bounded he (fun _ => noChecks_bounded) (fun _ => ansOk_bounded he.modSes.sesTo)

theorem sesResume_bounded {rq : Req} (h : d.Bounded) : (sesResume rq d).Bounded := by
  unfold sesResume
  refine .serve (fun _ he _ _ => withSession_bounded he (fun _ => ?_)) h
  exact sesBody_bounded he (fun _ => noChecks_bounded) (fun _ => ansOk_bounded he.modSes.sesTo)

theorem sesStop_bounded {rq : Req} (h : d.Bounded) : (sesStop rq d).Bounded := by
  unfold sesStop
  refine .serve (fun _ he _ _ => withSession_bounded he (fun _ => ?_)) h
  extract_lets d1
  have hd1 : d1.Bounded := he.modSes
  exact sesBody_bounded he (fun _ => noChecks_bounded) (fun _ => .wait hd1.sesTo.waitRead)

theorem sesInterim_bounded {rq : Req} (h : d.Bounded) : (sesInterim rq d).Bounded := by
  unfold sesInterim
  refine .serve (fun _ he _ _ => ?_) h
  exact withSession_bounded he (fun _ => sesBody_bounded he (fun _ => noChecks_bounded) (fun _ => .wait he.sesCmd.waitRead))

theorem rebindChecks_bounded {bs : Bytes} {x : Session} (h : d.Bounded) : ∀ a, rebindChecks d bs x = some a → a.Bounded := by
  intro a ha
  unfold rebindChecks at ha
  extract_lets group at ha
  split at ha
  · cases ha
    exact ansErr_bounded h
  · split at ha
    · cases ha
      exact ansErr_bounded h
    · split at ha
      · cases ha
        exact ansErr_bounded h
      · cases ha

theorem rebindBody_bounded {ch n : Nat} {bs : Bytes} {x : Session} (h : d.Bounded) : (rebindBody d ch n bs x).Bounded :=
  .ite (ansOk_bounded h.modSes.sesHold.journalSession) (.wait h.modSes.waitRead)

theorem sesRebind_bounded {rq : Req} (h : d.Bounded) : (sesRebind rq d).Bounded := by
  unfold sesRebind
  refine .serve (fun _ he _ _ => withLayout_bounded he ?_) h
  split
  · exact ansErr_bounded he
  · exact sesBody_bounded he (fun _ => rebindChecks_bounded he) (fun _ => rebindBody_bounded he)

theorem sesAbort_bounded {rq : Req} (h : d.Bounded) : (sesAbort rq d).Bounded := by
  unfold sesAbort
  refine .serve (fun _ he _ _ => ?_) h
  exact withSession_bounded he (fun _ => sesBody_bounded he (fun _ => noChecks_bounded) (fun _ => ansOk_bounded he.sesFree))

theorem sesStatus_bounded {rq : Req} (h : d.Bounded) : (sesStatus rq d).Bounded :=
  .serve (fun _ he _ _ => withSession_bounded he (fun _ => ansOk_bounded he)) h

theorem sesRecordRead_bounded {rq : Req} (h : d.Bounded) : (sesRecordRead rq d).Bounded :=
  .serve (fun _ he _ _ => withLayout_bounded he (.ite (ansErrD_bounded he) (ansOk_bounded he))) h

theorem Dev.Bounded.ackRecords {upto : Nat} (h : d.Bounded) : (d.ackRecords upto).Bounded :=
  .foldl (.ringLevel (.countN (h.frame rfl))) (fun _ he _ => he.sesFree)

theorem sesAck_bounded {rq : Req} (h : d.Bounded) : (sesAck rq d).Bounded := by
  unfold sesAck
  refine .serve (fun _ he _ _ => ?_) h
  extract_lets q d1 _ d1'
  have hd1 : d1.Bounded := .ite he he.ackRecords
  have hd1' : d1'.Bounded := .ite he (he.frame rfl)
  refine withLayout_bounded he ?_
  exact .ite (.ite (ansErr_bounded he) (ansOk_bounded hd1)) (.ite (ansErr_bounded he) (ansOk_bounded hd1'))

theorem Dev.Bounded.legalSign {ch : Nat} {head signed : Bytes} (h : d.Bounded) : (d.legalSign ch head signed).Bounded := h.hashed.eccSubmit

theorem sesLegalId_bounded {rq : Req} (h : d.Bounded) : (sesLegalId rq d).Bounded :=
  .serve (fun _ he _ _ => withLayout_bounded he he.legalSign) h

theorem sesLegalLogRead_bounded {rq : Req} (h : d.Bounded) : (sesLegalLogRead rq d).Bounded := by
  unfold sesLegalLogRead
  refine .serve (fun _ he _ _ => ?_) h
  extract_lets q got head
  refine withLayout_bounded he ?_
  split
  · exact ansErrD_bounded he
  · split
    · exact he.legalSign
    · exact ansOk_bounded (he.frame rfl)

theorem sesReseal_bounded {rq : Req} (h : d.Bounded) : (sesReseal rq d).Bounded := by
  unfold sesReseal
  refine .serve (fun _ he _ _ => ?_) h
  extract_lets _
  refine withSession_bounded he (fun _ => ?_)
  extract_lets try_ d1
  have hd1 : d1.Bounded := he.frame rfl
  split
  · exact ansErr_bounded he
  · split
    · exact ansErrD_bounded he
    · exact .wait hd1.modSes

end Sys2Proof.Machine
end

section
/-! SUPPORT. The bounds are kept by power states and the power commands (chapter 13). -/

namespace Sys2Proof.Machine

open Sys2Proof

variable {d : Dev}

theorem Dev.Bounded.prepare {n : Nat} (h : d.Bounded) : (d.prepare n).Bounded := h.setDomain.modDomain

theorem keepAliveTimeout_bounded {n : Nat} (h : d.Bounded) : (keepAliveTimeout n d).Bounded := by
  unfold keepAliveTimeout
  split
  · exact h
  · exact .ite h.prepare h

theorem noTrafficTimeout_bounded {n : Nat} (h : d.Bounded) : (noTrafficTimeout n d).Bounded := by
  unfold noTrafficTimeout
  split
  · exact h
  · split
    · exact h
    · exact .ite h.prepare.count.post h

theorem Dev.Bounded.canToSleep {n k : Nat} (h : d.Bounded) : (d.canToSleep n k).Bounded := by
  unfold Dev.canToSleep
  split
  · exact h
  · extract_lets lost
    exact h.modCan.countN

theorem Dev.Bounded.commitSleep {n : Nat} {m : Domain} (h : d.Bounded) : (d.commitSleep n m).Bounded := by
  unfold Dev.commitSleep
  extract_lets members d1 d2 d3
  have hd1 : d1.Bounded := h.setDomain.count.modDomain
  have hd2 : d2.Bounded := hd1.foldl (fun _ he _ => he.flushPort)
  have hd3 : d3.Bounded := hd2.foldl (fun _ he _ => .ite he.canToSleep he)
  exact hd3.driveStb

theorem Dev.Bounded.sendIndication {n : Nat} {m : Domain} (h : d.Bounded) : (d.sendIndication n m).Bounded := h.modDomain.wantSend

theorem prepareExpiry_bounded {n : Nat} (h : d.Bounded) : (prepareExpiry n d).Bounded := by
  unfold prepareExpiry
  split
  · exact h
  · exact .ite (.ite h.commitSleep h.sendIndication) h

theorem indicationSend_bounded {n : Nat} (h : d.Bounded) : (indicationSend n d).Bounded := by
  unfold indicationSend
  split
  · exact h
  · exact .ite h.sendIndication h

theorem sleepCommit_bounded {n : Nat} (h : d.Bounded) : (sleepCommit n d).Bounded := by
  unfold sleepCommit
  split
  · exact h
  · exact .ite h.commitSleep h

theorem indicationTimeout_bounded {n : Nat} (h : d.Bounded) : (indicationTimeout n d).Bounded := by
  unfold indicationTimeout
  split
  · exact h
  · exact .ite h.count.commitSleep h

theorem deviceSleepEntry_bounded (h : d.Bounded) : (deviceSleepEntry d).Bounded := .ite (h.frame rfl) h

theorem Dev.Bounded.storeUse (h : d.Bounded) : d.storeUse.Bounded := .foldl (h.frame rfl) (fun _ he _ => he.writeBlob)

theorem Dev.Bounded.stopEngines (h : d.Bounded) : d.stopEngines.Bounded := by
  obtain ⟨e, he, hb⟩ : ∃ e, (List.range 96).foldl (fun e p => (e.flushPort p).2) d = e ∧ e.Bounded :=
    ⟨_, rfl, h.foldl fun _ he _ => he.flushPort⟩
  rw [Dev.stopEngines, he]
  refine { hb with capture := rfl, pools := fun x hx => ?_ }
  obtain ⟨y, _, rfl⟩ := List.mem_map.mp hx
  rfl

theorem Dev.Bounded.dozePorts (h : d.Bounded) : d.dozePorts.Bounded := h.foldl (fun _ he _ => .ite he (linkDown_bounded he.free))

theorem Dev.Bounded.enterSleep {ps : PowerState} (h : d.Bounded) : (d.enterSleep ps).Bounded := h.setPower.aonWrite.frame rfl

theorem dozeComplete_bounded (h : d.Bounded) : (dozeComplete d).Bounded := by
  unfold dozeComplete
  split
  · exact h.stopEngines.storeUse.dozePorts.count.enterSleep
  · exact h

theorem dormantComplete_bounded (h : d.Bounded) : (dormantComplete d).Bounded := by
  unfold dormantComplete
  extract_lets l d1 _ kept c _ _ _ _
  have hd1 : d1.Bounded := h.storeUse.count.enterSleep
  have hc : c.Bounded := hd1.clearVolatile
  split
  · exact hc.frame rfl
  · exact h

theorem dormantAfter_bounded (h : d.Bounded) : (dormantAfter d).Bounded := .ite (h.frame rfl) h

theorem wakePattern_bounded {source : Nat} {phases : List (Bool × Nat)} (h : d.Bounded) : (wakePattern source phases d).Bounded := by
  unfold wakePattern
  extract_lets port pin d1
  have hd1 : d1.Bounded := h.frame rfl
  split
  · exact h
  · split
    · exact h
    · split
      · exact hd1.count
      · split
        · exact hd1.wake
        · split
          · exact .ite hd1.wake hd1
          · exact hd1

theorem hostWake_bounded {spi : Bool} (h : d.Bounded) : (hostWake spi d).Bounded := by
  unfold hostWake
  extract_lets _ d1 _ d2
  have hd1 : d1.Bounded := h.frame rfl
  have hd2 : d2.Bounded := .ite (hd1.frame rfl) hd1
  exact .ite h hd2.wake

theorem rtcAlarm_bounded (h : d.Bounded) : (rtcAlarm d).Bounded := .ite (.wake (h.frame rfl)) h

theorem Dev.Bounded.serveLatched {x : Nat × Nat × Nat} (h : d.Bounded) : (d.serveLatched x).Bounded := by
  unfold Dev.serveLatched
  extract_lets d1 _ d2
  have hd1 : d1.Bounded := h.noteWake
  have hd2 : d2.Bounded := hd1.frame rfl
  split
  · exact .ite hd2.beginWaking hd2
  · exact hd2

theorem latchedServe_bounded (h : d.Bounded) : (latchedServe d).Bounded := by
  unfold latchedServe
  extract_lets preparing _ d1
  have hd1 : d1.Bounded := h.frame rfl
  split
  · exact h
  · extract_lets d2
    have hd2 : d2.Bounded := .ite hd1.leaveDoze hd1
    exact .ite h (hd2.foldl (fun _ he _ => he.serveLatched))

theorem Dev.Bounded.canRejoin {k : Nat} (h : d.Bounded) : (d.canRejoin k).Bounded := h.modCan

theorem Dev.Bounded.domainAwake {n : Nat} {m : Domain} (h : d.Bounded) : (d.domainAwake n m).Bounded :=
  h.driveStb.setDomain.foldl (fun _ he _ => .ite he.canRejoin he)

theorem wakeExit_bounded {n : Nat} (h : d.Bounded) : (wakeExit n d).Bounded := by
  unfold wakeExit
  split
  · exact h
  · extract_lets d1
    have hd1 : d1.Bounded := h.domainAwake
    exact .ite h (.ite hd1.modDomain hd1.restartKeepAlive)

theorem hostIdle_bounded (h : d.Bounded) : (hostIdle d).Bounded := by
  unfold hostIdle
  extract_lets _
  split
  · exact .ite (h.frame rfl) h
  · exact h

theorem holdTimeout_bounded {scope : Nat} (h : d.Bounded) : (holdTimeout scope d).Bounded := by
  unfold holdTimeout
  extract_lets _
  split
  · exact .ite (.post (h.frame rfl)) h
  · exact h

theorem Dev.Bounded.wakeFirst {n : Nat} (h : d.Bounded) : (d.wakeFirst n).Bounded := by
  unfold Dev.wakeFirst
  split
  · exact .ite h h.domainAwake
  · exact h

theorem applyDomainCfg_bounded {bs : Bytes} (h : d.Bounded) : (applyDomainCfg bs d).Bounded :=
  .ite (.settlePower (h.wakeFirst.frame rfl)) (.settlePower (.driveStb (h.wakeFirst.frame rfl)))

theorem applyWakeCfg_bounded {bs : Bytes} (h : d.Bounded) : (applyWakeCfg bs d).Bounded := h.frame rfl

theorem applyPolicyCfg_bounded {bs : Bytes} (h : d.Bounded) : (applyPolicyCfg bs d).Bounded := h.frame rfl

theorem pwrHold_bounded {rq : Req} (h : d.Bounded) : (pwrHold rq d).Bounded := by
  unfold pwrHold
  refine .serve (fun _ he _ _ => ?_) h
  extract_lets n _ h' d1
  have hd1 : d1.Bounded := he.frame rfl
  refine withLayout_bounded he ?_
  exact .ite (ansErr_bounded he) (.ite (ansOk_bounded (he.frame rfl)) (ansOk_bounded (.ite hd1.wake hd1)))

theorem pwrStatus_bounded {rq : Req} (h : d.Bounded) : (pwrStatus rq d).Bounded :=
  .serve (fun _ he _ _ => withLayout_bounded he (ansOk_bounded he)) h

theorem pwrAonLogRead_bounded {rq : Req} (h : d.Bounded) : (pwrAonLogRead rq d).Bounded :=
  .serve (fun _ he _ _ => withLayout_bounded he (ansOk_bounded he)) h

theorem pwrRtcAlarm_bounded {rq : Req} (h : d.Bounded) : (pwrRtcAlarm rq d).Bounded := by
  unfold pwrRtcAlarm
  exact .serve (fun _ he _ _ => withLayout_bounded he (.ite (ansErr_bounded he) (ansOk_bounded (he.frame rfl)))) h

end Sys2Proof.Machine
end

section
/-! SUPPORT. The bounds are kept by lockstep, faults and the safety commands (chapter 14). -/

namespace Sys2Proof.Machine

open Sys2Proof

variable {d : Dev}

theorem lockCmp_bounded {lanes : Nat} (h : d.Bounded) : (lockCmp lanes d).Bounded := .ite h.faultF2 h

theorem Dev.Bounded.lockInfra {object : Nat} (h : d.Bounded) : (d.lockInfra object).Bounded := .ite (.faultF1 (h.frame rfl)) h.faultF2

theorem delayParity_bounded {output : Bool} (h : d.Bounded) : (delayParity output d).Bounded := .ite h.lockInfra h

theorem selfTest_bounded {detected : Bool} (h : d.Bounded) : (selfTest detected d).Bounded :=
  .ite h (.ite (.count (h.frame rfl)) h.lockInfra)

theorem digestPass_bounded {a b : Nat} (h : d.Bounded) : (digestPass a b d).Bounded :=
  .ite h (.ite (.count (h.frame rfl)) (.faultF2 (.count (h.frame rfl))))

theorem watchdog_bounded {servedAt : Nat} (h : d.Bounded) : (watchdog servedAt d).Bounded := .ite h.faultF2 h

theorem faultHoldRestart_bounded (h : d.Bounded) : (faultHoldRestart d).Bounded := by
  unfold faultHoldRestart
  extract_lets _
  split
  · exact h
  · exact .ite h (.count (.systemReset (h.frame rfl)))

theorem safeStatus_bounded {rq : Req} (h : d.Bounded) : (safeStatus rq d).Bounded :=
  .serve (fun _ he _ _ => withLayout_bounded he (ansOk_bounded he.free)) h

theorem safeFaultRead_bounded {rq : Req} (h : d.Bounded) : (safeFaultRead rq d).Bounded :=
  .serve (fun _ he _ _ => withLayout_bounded he (.ite (ansErrD_bounded he) (ansOk_bounded he))) h

theorem Dev.Bounded.clearFaults {upto : Nat} (h : d.Bounded) : (d.clearFaults upto).Bounded :=
  { h with faults := (List.length_map _).trans_le h.faults }

theorem safeFaultClear_bounded {rq : Req} (h : d.Bounded) : (safeFaultClear rq d).Bounded :=
  .serve (fun _ he _ _ => withLayout_bounded he (ansOk_bounded he.clearFaults)) h

theorem Dev.Bounded.toSplit (h : d.Bounded) : d.toSplit.Bounded := ansOk_bounded (.post (.count (h.frame rfl)))

theorem Dev.Bounded.toLocked (h : d.Bounded) : d.toLocked.Bounded := ansOk_bounded (.post (.count (.count (h.frame rfl))))

theorem Dev.Bounded.returnFails (h : d.Bounded) : d.returnFails.Bounded := .wait (h.frame rfl)

theorem modeBody_bounded {split passes : Bool} (h : d.Bounded) : (modeBody d split passes).Bounded := by
  unfold modeBody
  split
  · exact ansOk_bounded h
  · split
    · exact .ite (ansErr_bounded h) (.ite (ansErr_bounded h) (.ite (ansErr_bounded h) h.toSplit))
    · exact .ite (ansErr_bounded h) (.ite h.toLocked h.returnFails)

theorem serveMode_bounded {rq : Req} {passes : Bool} (h : d.Bounded) : (serveMode rq passes d).Bounded :=
  .serve (fun _ he _ _ => withLayout_bounded he (modeBody_bounded he)) h

theorem safeModeSet_bounded {rq : Req} {passes : Bool} (h : d.Bounded) : (safeModeSet rq passes d).Bounded :=
  .ite ((serveMode_bounded h).faultF2) (serveMode_bounded h)

theorem applySafePolicy_bounded {bs : Bytes} (h : d.Bounded) : (applySafePolicy bs d).Bounded := h.frame rfl

theorem Dev.Bounded.setRole {r : TwinRole} {cause : Nat} (h : d.Bounded) : (d.setRole r cause).Bounded := .ite h h.modTwin.post

theorem Dev.Bounded.freeRole {r : TwinRole} (h : d.Bounded) : (d.freeRole r).Bounded := .ite h h.free.setRole

theorem Dev.Bounded.startPairing (h : d.Bounded) : d.startPairing.Bounded := h.freeRole

theorem Dev.Bounded.twinTakesP9 (h : d.Bounded) : d.twinTakesP9.Bounded := h.flushPort.fdbFlushPort

theorem applySafeTwin_bounded {bs : Bytes} (h : d.Bounded) : (applySafeTwin bs d).Bounded := by
  unfold applySafeTwin
  extract_lets on d0 d1
  have hd0 : d0.Bounded := .ite h.twinTakesP9 h
  have hd1 : d1.Bounded := hd0.modTwin
  exact .ite hd1.startPairing (.ite hd1.modTwin.freeRole hd1)

theorem safeTwinStatus_bounded {rq : Req} (h : d.Bounded) : (safeTwinStatus rq d).Bounded :=
  .serve (fun _ he _ _ => withLayout_bounded he (ansOk_bounded he)) h

end Sys2Proof.Machine
end

section
/-! SUPPORT. The bounds are kept by the time commands (chapter 10). -/

namespace Sys2Proof.Machine

open Sys2Proof

variable {d : Dev}

theorem applyTimeClock_bounded {bs : Bytes} (h : d.Bounded) : (applyTimeClock bs d).Bounded :=
  .settleQuality (.ite (.switchSlot (h.frame rfl)) (h.frame rfl))

theorem applyTimeDomain_bounded {bs : Bytes} (h : d.Bounded) : (applyTimeDomain bs d).Bounded := .ite h h.putSlot.slotState

theorem applyTimePort_bounded {bs : Bytes} (h : d.Bounded) : (applyTimePort bs d).Bounded := .ite (h.frame rfl) (.setCapable (h.frame rfl))

theorem applyTimeBeacon_bounded {bs : Bytes} (h : d.Bounded) : (applyTimeBeacon bs d).Bounded := h.putBeacon

theorem applyTimeIo_bounded {bs : Bytes} (h : d.Bounded) : (applyTimeIo bs d).Bounded := .ite (h.frame rfl) h.putPin

theorem timeStatus_bounded {rq : Req} (h : d.Bounded) : (timeStatus rq d).Bounded :=
  .serve (fun _ he _ _ => withLayout_bounded he (ansOk_bounded he)) h

theorem timeRead_bounded {rq : Req} (h : d.Bounded) : (timeRead rq d).Bounded :=
  .serve (fun _ he _ _ => withLayout_bounded he (ansOk_bounded he)) h

theorem timeSwitch_bounded {rq : Req} (h : d.Bounded) : (timeSwitch rq d).Bounded := by
  unfold timeSwitch
  refine .serve (fun _ he _ _ => ?_) h
  extract_lets i off rsp
  exact withLayout_bounded he (.ite (ansOk_bounded he) (.ite (ansOk_bounded he.switchSlot) (ansErr_bounded he)))

theorem timeSet_bounded {rq : Req} (h : d.Bounded) : (timeSet rq d).Bounded := by
  unfold timeSet
  refine .serve (fun _ he _ _ => ?_) h
  extract_lets st d1 _ _ d2
  have hd1 : d1.Bounded := he.stepTo
  have hd2 : d2.Bounded := hd1.frame rfl
  exact withLayout_bounded he (.ite (ansOk_bounded hd2.settleQuality) (ansErr_bounded he))

theorem timeCaptureRead_bounded {rq : Req} (h : d.Bounded) : (timeCaptureRead rq d).Bounded := by
  unfold timeCaptureRead
  exact .serve (fun _ he _ _ => withLayout_bounded he (.ite (ansErr_bounded he) (ansOk_bounded he.putPin))) h

theorem timePulse_bounded {rq : Req} (h : d.Bounded) : (timePulse rq d).Bounded := by
  unfold timePulse
  refine .serve (fun _ he _ _ => ?_) h
  extract_lets n due d1 _
  have hd1 : d1.Bounded := .ite (timeIoEdge_bounded he) he
  exact withLayout_bounded he (.ite (ansErr_bounded he) (.ite (ansErr_bounded he) (ansOk_bounded hd1.putPin)))

end Sys2Proof.Machine
end

section
/-! SUPPORT. The bounds are kept by configuration transactions (R53 to R57). -/

namespace Sys2Proof.Machine

open Sys2Proof

variable {d : Dev}

theorem applyPlain_bounded {c : Staged} (h : d.Bounded) : (applyPlain d c).Bounded := by
  unfold applyPlain
  split
  · exact applyChannelCfg_bounded h
  · exact applyPortCfg_bounded h
  · exact applyPortFilter_bounded h
  · exact applyPortPlca_bounded h
  · exact applyFabBuffer_bounded h
  · exact applyFabMirror_bounded h
  · exact applyFabCapture_bounded h
  · exact applyFabLag_bounded h
  · exact applyFabHopper_bounded h
  · exact applyStrStream_bounded h
  · exact applyStrMeter_bounded h
  · exact applyStrCbs_bounded h
  · exact applyStrPreempt_bounded h
  · exact applyStrFrer_bounded h
  · exact applyStrObserve_bounded h
  · exact applyPathSet_bounded h
  · exact applyBusDeclare_bounded h
  · exact applyTimeClock_bounded h
  · exact applyTimeDomain_bounded h
  · exact applyTimePort_bounded h
  · exact applyTimeBeacon_bounded h
  · exact applyTimeIo_bounded h
  · exact applyTamperCfg_bounded h
  · exact applyDomainCfg_bounded h
  · exact applyWakeCfg_bounded h
  · exact applyPolicyCfg_bounded h
  · exact applySafePolicy_bounded h
  · exact applySafeTwin_bounded h
  · exact applyGateway_bounded h

theorem applyAtOnce_bounded {b : Batch} (h : d.Bounded) : (applyAtOnce b d).Bounded :=
  .settleQuality (.autoSwitch (armGates_bounded (h.foldl (fun _ he _ => applyPlain_bounded he))))

theorem configAfter_bounded {b : Batch} (h : d.Bounded) : (configAfter b d).Bounded := by
  unfold configAfter
  extract_lets d1 d2 d3
  have hd1 : d1.Bounded := applyAtOnce_bounded h
  have hd2 : d2.Bounded := hd1.foldl (fun _ he _ => applyBanked_bounded he)
  have hd3 : d3.Bounded := hd2.foldl (fun _ he _ => applyLauterState_bounded he)
  exact .ite (hd3.frame rfl) hd3

theorem Dev.Bounded.evaluateTxn {b : Batch} (h : d.Bounded) : (d.evaluateTxn b).dev.Bounded := by
  unfold Dev.evaluateTxn
  extract_lets d' a
  have ha : a.2.Bounded := h.judgeAdmission
  split
  · exact h
  · split
    · exact ha
    · exact ha

theorem Dev.Bounded.enterRun (h : d.Bounded) : d.enterRun.Bounded :=
  .ite (.startPairing (.post (h.setStage.frame rfl))) (.post (h.setStage.frame rfl))

theorem Dev.Bounded.journalCommit {gen : Nat} {l : List Staged} (h : d.Bounded) : (d.journalCommit gen l).Bounded :=
  .ite h.modTwin.journalSync h.modTwin

theorem Dev.Bounded.legStarts (h : d.Bounded) : d.legStarts.Bounded := .startLogs (h.frame rfl)

theorem Dev.Bounded.fallbackEnds {mask manifestId cause : Nat} (h : d.Bounded) : (d.fallbackEnds mask manifestId cause).Bounded :=
  .post (.count (.ite h.legStarts h))

theorem Dev.Bounded.startTrial (h : d.Bounded) : d.startTrial.Bounded := h.frame rfl

theorem Dev.Bounded.commitDone {c : Commit} (h : d.Bounded) : (d.commitDone c).Bounded := by
  unfold Dev.commitDone
  split
  · exact h.complete
  · exact h
  · exact h.startTrial.complete
  · exact h.fallbackEnds

theorem Dev.Bounded.finishCommit (h : d.Bounded) : d.finishCommit.Bounded := by
  unfold Dev.finishCommit
  extract_lets _
  split
  · exact h
  · extract_lets d1 d2 d4 d5
    have hd1 : d1.Bounded := startSrcTimers_bounded (h.frame rfl)
    have hd2 : d2.Bounded := hd1.post
    have hd4 : d4.Bounded := hd2.journalCommit
    have hd5 : d5.Bounded := hd4.commitDone
    exact .ite h (.ite hd5.enterRun hd5)

theorem Dev.Bounded.applyTxn {id owner : Nat} {kind : CommitKind} {l : List Staged} (h : d.Bounded) : (d.applyTxn id owner kind l).Bounded := by
  unfold Dev.applyTxn
  extract_lets b d' banked groups d1 _ d2 d3 c _
  have hd' : d'.Bounded := configAfter_bounded h
  have hd1 : d1.Bounded := applyAtOnce_bounded h
  have hd2 : d2.Bounded := .ite (hd1.frame rfl) (hd1.foldl (fun _ he _ => applyLauterState_bounded he))
  have hd3 : d3.Bounded := .ite (hd2.frame rfl) hd2
  exact hd3.frame rfl

theorem genFlip_bounded (h : d.Bounded) : (genFlip d).Bounded := by
  unfold genFlip
  split
  · exact h
  · extract_lets d1 _
    have hd1 : d1.Bounded := h.flipBanks
    split
    · exact h
    · exact .ite h (.finishCommit (hd1.frame rfl))

theorem cupolaFlip_bounded (h : d.Bounded) : (cupolaFlip d).Bounded := by
  unfold cupolaFlip
  extract_lets bank
  split
  · exact h
  · extract_lets k d1 _
    have hd1 : d1.Bounded := h.putCupola.post
    exact .ite h (.finishCommit (hd1.frame rfl))

theorem Dev.Bounded.flipNow (h : d.Bounded) : d.flipNow.Bounded := by
  unfold Dev.flipNow
  split
  · exact h
  · extract_lets d1 bank _ d2 _
    have hd1 : d1.Bounded := .ite h.flipBanks h
    have hd2 : d2.Bounded := .ite hd1.putCupola.post hd1
    exact hd2.frame rfl

theorem txnBegin_bounded {rq : Req} (h : d.Bounded) : (txnBegin rq d).Bounded := by
  unfold txnBegin
  refine .serve (fun _ he _ _ => ?_) h
  extract_lets id idle t _
  refine withLayout_bounded he ?_
  split
  · exact ansErrD_bounded he
  · exact ansOk_bounded (he.frame rfl)

theorem commitBody_bounded {ch : Nat} {dry : Bool} {t : OpenTxn} (h : d.Bounded) : (commitBody d ch dry t).Bounded := by
  unfold commitBody
  extract_lets v
  have hv : v.dev.Bounded := h.evaluateTxn
  clear_value v
  split
  · exact .done (.ite hv hv.endTxn)
  · split
    · exact ansOk_bounded hv
    · exact .wait (.applyTxn (hv.frame rfl))

theorem txnCommit_bounded {rq : Req} (h : d.Bounded) : (txnCommit rq d).Bounded := by
  unfold txnCommit
  refine .finishCommit (.serve (fun _ he _ _ => ?_) h)
  split
  · exact ansErr_bounded he
  · exact .ite (ansErr_bounded he) (.ite (ansErr_bounded he) (commitBody_bounded he))

theorem txnAbort_bounded {rq : Req} (h : d.Bounded) : (txnAbort rq d).Bounded := by
  unfold txnAbort
  refine .serve (fun _ he _ _ => ?_) h
  split
  · exact ansErr_bounded he
  · exact .ite (ansErr_bounded he) (ansOk_bounded he.endTxn)

theorem txnStatus_bounded {rq : Req} (h : d.Bounded) : (txnStatus rq d).Bounded :=
  .serve (fun _ he _ _ => withLayout_bounded he (ansOk_bounded he)) h

theorem txnIdle_bounded (h : d.Bounded) : (txnIdle d).Bounded := by
  unfold txnIdle
  split
  · exact h
  · exact .ite h.endTxn h

end Sys2Proof.Machine
end

section
/-! SUPPORT. The bounds are kept by the posting of responses and the update of the legal parameters. -/

namespace Sys2Proof.Machine

open Sys2Proof

variable {d : Dev}

theorem Dev.Bounded.txnAnswered {ch : Nat} {r : Rsp} (h : d.Bounded) : (d.txnAnswered ch r).Bounded := by
  unfold Dev.txnAnswered
  extract_lets named _
  split
  · exact h
  · exact .ite (h.frame rfl) h

theorem Dev.Bounded.sendInBand {ch : Nat} {o : Origin} {r : Rsp} (h : d.Bounded) : (d.sendInBand ch o r).Bounded := by
  unfold Dev.sendInBand
  extract_lets c fits msg replay body head src d1
  have hsrc : src.Bounded := h.modChan
  have hd1 : d1.Bounded := hsrc.frame rfl
  split
  · rename_i x mac d2 heq
    have hd2 : d2.Bounded := by
      have hp : (d1.firmwareCmac c.keySlot body).2.Bounded := hd1.firmwareCmac
      rwa [heq] at hp
    exact hd2.sendAt
  · rename_i x d2 heq
    have hd2 : d2.Bounded := by
      have hp : (d1.firmwareCmac c.keySlot body).2.Bounded := hd1.firmwareCmac
      rwa [heq] at hp
    exact hd2

theorem Dev.Bounded.sendKiln {o : Origin} {r : Rsp} (h : d.Bounded) : (d.sendKiln o r).Bounded := .emit (h.frame rfl)

theorem Dev.Bounded.postHost {ch : Nat} {r : Rsp} (h : d.Bounded) : (d.postHost ch r).Bounded := .raise (.modChan (.ite h h.emit))

theorem responsePosted_bounded {ch : Nat} (h : d.Bounded) : (responsePosted ch d).Bounded := by
  unfold responsePosted
  split
  · exact h
  · extract_lets d1
    have hd1 : d1.Bounded := h.modChan.txnAnswered
    split
    · exact h
    · split
      · exact hd1.postHost
      · exact .pullAll (.ite hd1.sendKiln hd1.sendInBand)

theorem Dev.Bounded.legalView (h : d.Bounded) : d.legalView.Bounded := h.frame rfl

theorem refuseLegal_bounded {st detail : Nat} {payload : Bytes} (h : d.Bounded) : (refuseLegal d st detail payload).Bounded :=
  .done h.msgRefused.count.legalLog

theorem Dev.Bounded.applyGeneration {l : List Staged} (h : d.Bounded) : (d.applyGeneration l).Bounded := by
  unfold Dev.applyGeneration
  extract_lets b src d1 g _ d2
  have hsrc : src.Bounded := startSrcTimers_bounded (applyAtOnce_bounded h)
  have hd1 : d1.Bounded := hsrc.frame rfl
  have hd2 : d2.Bounded := hd1.frame rfl
  exact hd2.journalCommit

theorem Dev.Bounded.dropChanged {old : Bytes} (h : d.Bounded) : (d.dropChanged old).Bounded := h.foldl (fun _ he _ => he.sesFree)

theorem applyLegal_bounded {ch : Nat} {m : Bytes} {l : List Staged} (h : d.Bounded) : (applyLegal d ch m l).Bounded := by
  unfold applyLegal
  extract_lets old new d1 _ d2 d3
  have hd1 : d1.Bounded := .ite h h.applyGeneration
  have hd2 : d2.Bounded := hd1.frame rfl
  have hd3 : d3.Bounded := hd2.msgApplied.count.legalLog
  exact .wait hd3.retrySeals.dropChanged.queueSeal

theorem legalBody_bounded {ch : Nat} {m : Bytes} (h : d.Bounded) : (legalBody d ch m).Bounded := by
  unfold legalBody
  extract_lets st d1 l v
  have hd1 : d1.Bounded := .ite h h.msgWork
  have hv : v.dev.Bounded := hd1.evaluateTxn
  split
  · exact refuseLegal_bounded h.count
  · refine .ite (refuseLegal_bounded hd1) (.ite (refuseLegal_bounded hd1) (.ite (refuseLegal_bounded hd1) ?_))
    split
    · exact refuseLegal_bounded hv
    · exact applyLegal_bounded hv

theorem sesLegalParamUpdate_bounded {rq : Req} (h : d.Bounded) : (sesLegalParamUpdate rq d).Bounded :=
  .serve (fun _ he _ _ => legalBody_bounded he) h

end Sys2Proof.Machine
end

section
/-! SUPPORT. The bounds are kept by the twin pair (chapter 14). -/

namespace Sys2Proof.Machine

open Sys2Proof

variable {d : Dev}

theorem Dev.Bounded.applyJournalled {gen : Nat} {l : List Staged} (h : d.Bounded) : (d.applyJournalled gen l).Bounded := by
  unfold Dev.applyJournalled
  extract_lets d1 _
  have hd1 : d1.Bounded := startSrcTimers_bounded h.applyTxn.flipNow
  exact .modTwin (hd1.frame rfl)

theorem Dev.Bounded.takeConfig {b : Bytes} (h : d.Bounded) : (d.takeConfig b).Bounded :=
  .ite h.modTwin (.ite h.modTwin h.modTwin.applyJournalled)

theorem Dev.Bounded.takeAlign {b : Bytes} (h : d.Bounded) : (d.takeAlign b).Bounded :=
  { h with ns := Nat.mod_lt _ (by decide) }

theorem Dev.Bounded.takeGroup {b : Bytes} (h : d.Bounded) : (d.takeGroup b).Bounded := h.putCupola

theorem Dev.Bounded.takeSleep {b : Bytes} (h : d.Bounded) : (d.takeSleep b).Bounded := .foldl (h.frame rfl) (fun _ he _ => he.driveStb)

theorem Dev.Bounded.applyRecord {r : Nat × Bytes} (h : d.Bounded) : (d.applyRecord r).Bounded := by
  unfold Dev.applyRecord
  extract_lets b _ d1
  have hd1 : d1.Bounded := by
    unfold d1
    split
    · exact h.modTwin
    · split
      · exact h.takeConfig
      · exact h.frame rfl
      · exact h.takeAlign
      · exact h.modDst
      · exact h.takeGroup
      · exact h.takeSleep
      · exact h
  exact hd1.count.settleSync

theorem Dev.Bounded.askResync {mask : Nat} (h : d.Bounded) : (d.askResync mask).Bounded := .ite h.modTwin.twinSend h.modTwin

theorem Dev.Bounded.sendFull {mask : Nat} (h : d.Bounded) : (d.sendFull mask).Bounded := by
  unfold Dev.sendFull
  extract_lets types d1
  have hd1 : d1.Bounded := h.setSync.foldl (fun _ he _ => he.journal)
  exact hd1.modTwin

theorem Dev.Bounded.takeResync {mask : Nat} (h : d.Bounded) : (d.takeResync mask).Bounded := .ite h.sendFull h.modTwin

theorem Dev.Bounded.rejectRecord {type : Nat} (h : d.Bounded) : (d.rejectRecord type).Bounded :=
  .ite h.count.faultF1.setSync.askResync h.count

theorem Dev.Bounded.becomeStandby {cause : Option Nat} (h : d.Bounded) : (d.becomeStandby cause).Bounded := by
  unfold Dev.becomeStandby
  extract_lets d1 d2
  have hd1 : d1.Bounded := h.modTwin
  have hd2 : d2.Bounded := by
    unfold d2
    split
    · exact hd1.setRole
    · exact hd1.freeRole
  exact hd2.setSync.askResync

theorem Dev.Bounded.rejoinCan (h : d.Bounded) : d.rejoinCan.Bounded := h.putGateway

theorem Dev.Bounded.becomeActive {cause : Nat} (h : d.Bounded) : (d.becomeActive cause).Bounded :=
  .ite h.rejoinCan.modTwin.setRole.setSync.sendFull h.rejoinCan.modTwin.setRole.setSync

theorem Dev.Bounded.claimAct (h : d.Bounded) : d.claimAct.Bounded := .ite h.becomeActive h.becomeStandby

theorem actClaim_bounded (h : d.Bounded) : (actClaim d).Bounded := .ite h (.ite h.modTwin h.claimAct)

theorem primaryWaitEnd_bounded (h : d.Bounded) : (primaryWaitEnd d).Bounded := .ite h.claimAct h

theorem interlockConflict_bounded (h : d.Bounded) : (interlockConflict d).Bounded := .ite h h.modTwin.count

theorem actInEdge_bounded {high : Bool} (h : d.Bounded) : (actInEdge high d).Bounded :=
  .ite h (.ite (.wake (.modTwin (.ite h h.modTwin))) (.modTwin (.ite h h.modTwin)))

theorem takeoverDecision_bounded (h : d.Bounded) : (takeoverDecision d).Bounded := .ite h.modTwin h

theorem Dev.Bounded.takeoverAdjust {fresh : Bool} (h : d.Bounded) : (d.takeoverAdjust fresh).Bounded := by
  unfold Dev.takeoverAdjust
  extract_lets group ses sessions _ d1 _ _ d2
  have hd1 : d1.Bounded := h.putCupola
  have hd2 : d2.Bounded := hd1.frame rfl
  exact .ite hd2.modTwin hd2

theorem Dev.Bounded.misfit (h : d.Bounded) : d.misfit.Bounded := .ite h.faultF1 h.faultF1.modTwin.setRole

theorem Dev.Bounded.twinLinkUp (h : d.Bounded) : d.twinLinkUp.Bounded := h.modTwin.post.foldl (fun _ he _ => he.sendAt.count)

theorem Dev.Bounded.takeHello {sa : Nat} {b : Bytes} (h : d.Bounded) : (d.takeHello sa b).Bounded := by
  unfold Dev.takeHello
  extract_lets up old mm d1 d2 d3
  have hd1 : d1.Bounded := h.modTwin
  have hd2 : d2.Bounded := .ite hd1.twinLinkUp hd1
  have hd3 : d3.Bounded := .ite hd2.misfit hd2
  exact .ite hd3.setSync.askResync hd3

theorem Dev.Bounded.takeRecord {sa : Nat} {r : Nat × Bool × Bytes} (h : d.Bounded) : (d.takeRecord sa r).Bounded :=
  .ite h.rejectRecord (.ite h.takeHello (.ite h (.ite h.takeResync (.ite h.applyRecord h))))

theorem Dev.Bounded.takeFrame {sa : Nat} {f : Bytes} (h : d.Bounded) : (d.takeFrame sa f).Bounded := by
  unfold Dev.takeFrame
  split
  · exact h.rejectRecord
  · exact h.foldl (fun _ he _ => he.takeRecord)

theorem Dev.Bounded.takeGap {sa n : Nat} (h : d.Bounded) : (Dev.takeGap sa n d).Bounded := by
  induction n generalizing d with
  | zero => exact h
  | succ n ih =>
    unfold Dev.takeGap
    extract_lets next
    split
    · exact h
    · exact ih h.modTwin.takeFrame

theorem Dev.Bounded.takeSequenced {sa seq : Nat} {f : Bytes} (h : d.Bounded) : (d.takeSequenced sa seq f).Bounded := by
  unfold Dev.takeSequenced
  extract_lets next e d1
  have he : e.Bounded := h.modTwin.takeFrame
  have hd1 : d1.Bounded := .ite he.takeGap (.ite h h.modTwin)
  exact .ite hd1.twinPlain hd1

theorem Dev.Bounded.settleHandover (h : d.Bounded) : d.settleHandover.Bounded := by
  unfold Dev.settleHandover
  extract_lets d1
  have hd1 : d1.Bounded := h.modTwin.count.becomeStandby
  split
  · exact h
  · exact .ite hd1.complete h

theorem Dev.Bounded.takeAck {q : Nat} (h : d.Bounded) : (d.takeAck q).Bounded := .ite h h.modTwin.settleSync.settleHandover

theorem journalReceived_bounded {f : Bytes} (h : d.Bounded) : (journalReceived f d).Bounded := by
  unfold journalReceived
  extract_lets sa known d1 seq d2
  have hd1 : d1.Bounded := h.modTwin
  have hd2 : d2.Bounded := .ite hd1.takeAck hd1
  exact .ite h (.ite h.count (.ite hd2.takeFrame hd2.takeSequenced))

theorem settleExpiry_bounded (h : d.Bounded) : (settleExpiry d).Bounded := by
  unfold settleExpiry
  extract_lets t d1 fresh d2
  have hd1 : d1.Bounded := h.modTwin
  have hd2 : d2.Bounded := hd1.takeGap
  split
  · exact h
  · exact .ite h (.ite (.ite hd2.takeoverAdjust.count.becomeActive hd1.modTwin) (.ite hd1.becomeStandby hd1))

theorem loosePeriodEnd_bounded (h : d.Bounded) : (loosePeriodEnd d).Bounded := .ite h.modTwin h

theorem Dev.Bounded.twinLinkLost (h : d.Bounded) : d.twinLinkLost.Bounded := .ite h.faultF1.twinLinkDown h

theorem resendTimeout_bounded (h : d.Bounded) : (resendTimeout d).Bounded := by
  unfold resendTimeout
  extract_lets due again
  exact .ite h (.ite h.twinLinkLost (.transfer (fun _ he => he.modTwin.foldl (fun _ hx _ => hx.sendAt.count)) h))

theorem twinLinkTimeout_bounded (h : d.Bounded) : (twinLinkTimeout d).Bounded := .ite h.twinLinkLost h

theorem journalSyncTimeout_bounded (h : d.Bounded) : (journalSyncTimeout d).Bounded := by
  unfold journalSyncTimeout
  split
  · exact h
  · exact h.modTwin.setSync

theorem helloSend_bounded (h : d.Bounded) : (helloSend d).Bounded := .ite (.transfer (fun _ he => he.modTwin.twinPlain) h) h

theorem alignSend_bounded (h : d.Bounded) : (alignSend d).Bounded := .ite (.transfer (fun _ he => he.modTwin.twinSend) h) h

theorem Dev.Bounded.sendBatch (h : d.Bounded) : d.sendBatch.Bounded := h.journal.modTwin

theorem batchSend_bounded (h : d.Bounded) : (batchSend d).Bounded := .ite (.transfer (fun _ he => he.sendBatch) h) h

theorem safeTwinHandover_bounded {rq : Req} (h : d.Bounded) : (safeTwinHandover rq d).Bounded := by
  unfold safeTwinHandover
  refine .settleHandover (.serve (fun _ he _ _ => ?_) h)
  extract_lets d1
  have hd1 : d1.Bounded := .ite he.sendBatch he
  refine withLayout_bounded he ?_
  split
  · exact ansErr_bounded he
  · split
    · exact ansErrD_bounded he
    · exact .wait hd1.modTwin

theorem Dev.Bounded.handoverTimeout (h : d.Bounded) : d.handoverTimeout.Bounded := by
  unfold Dev.handoverTimeout
  split
  · exact h
  · exact .ite h.modTwin.complete h

end Sys2Proof.Machine
end

section
/-! SUPPORT. The bounds are kept by firmware update and Kiln (chapter 15). -/

namespace Sys2Proof.Machine

open Sys2Proof

variable {d : Dev}

theorem Dev.Bounded.openUpdate {ch : Nat} {m : Bytes} (h : d.Bounded) : (d.openUpdate ch m).Bounded := by
  unfold Dev.openUpdate
  extract_lets ts u d1 _
  have hd1 : d1.Bounded := h.foldl (fun _ he _ => he.setBank)
  exact hd1.frame rfl

theorem fwBeginBody_bounded {ch : Nat} {m : Bytes} (h : d.Bounded) : (fwBeginBody d ch m).Bounded := by
  unfold fwBeginBody
  extract_lets d1 targets
  have hd1 : d1.Bounded := h.openUpdate
  split
  · exact ansErrD_bounded h
  · split
    · exact ansErrD_bounded h
    · exact .ite (ansErrD_bounded h.free) (ansOk_bounded hd1.hashed.eccCount)

theorem fwBegin_bounded {rq : Req} (h : d.Bounded) : (fwBegin rq d).Bounded := .serve (fun _ he _ _ => fwBeginBody_bounded he) h

theorem Dev.Bounded.foreignWrite {comp off : Nat} (h : d.Bounded) : (d.foreignWrite comp off).Bounded := ansErr_bounded (.ite h.legalLog h)

theorem Dev.Bounded.writeImage {u : UpdateSession} {comp off : Nat} {data : Bytes} (h : d.Bounded) : (d.writeImage u comp off data).Bounded := by
  unfold Dev.writeImage
  extract_lets u1 m
  exact .mramWrote { h with mram := Memory.wf_writeN _ _ _ h.mram }

theorem fwWriteBody_bounded {ch : Nat} {bs : Bytes} (h : d.Bounded) : (fwWriteBody d ch bs).Bounded := by
  unfold fwWriteBody
  extract_lets comp off
  split
  · exact ansErr_bounded h
  · split
    · exact ansErr_bounded h
    · split
      · exact ansErr_bounded h
      · extract_lets d1
        have hd1 : d1.Bounded := h.writeImage
        split
        · exact h.foreignWrite
        · split
          · exact ansErr_bounded h
          · exact .ite h.foreignWrite (.ite (ansErr_bounded h) (ansOk_bounded hd1))

theorem fwWrite_bounded {rq : Req} (h : d.Bounded) : (fwWrite rq d).Bounded := .serve (fun _ he _ _ => fwWriteBody_bounded he) h

theorem Dev.Bounded.verifyAll {u : UpdateSession} (h : d.Bounded) : (d.verifyAll u).Bounded := by
  unfold Dev.verifyAll
  extract_lets es bad d0 d1 _ d2 d1' _ d2'
  have hd0 : d0.Bounded := h.hashed
  have hd1 : d1.Bounded := hd0.foldl (fun _ he _ => he.invalidate.count)
  have hd2 : d2.Bounded := hd1.frame rfl
  have hd1' : d1'.Bounded := hd0.foldl (fun _ he _ => he.setBank)
  have hd2' : d2'.Bounded := hd1'.frame rfl
  clear_value bad
  split
  · exact ansErrD_bounded hd2.post
  · exact ansOk_bounded hd2'.post

theorem fwVerify_bounded {rq : Req} (h : d.Bounded) : (fwVerify rq d).Bounded := by
  unfold fwVerify
  refine .serve (fun _ he _ _ => withLayout_bounded he ?_) h
  split
  · exact ansErr_bounded he
  · split
    · exact ansErr_bounded he
    · split
      · exact ansErrD_bounded he
      · exact he.verifyAll

theorem fwAbort_bounded {rq : Req} (h : d.Bounded) : (fwAbort rq d).Bounded := by
  unfold fwAbort
  refine .serve (fun _ he _ _ => withLayout_bounded he ?_) h
  split
  · exact ansErr_bounded he
  · exact .ite (ansErr_bounded he) (ansOk_bounded he.endUpdate)

theorem updateIdle_bounded (h : d.Bounded) : (updateIdle d).Bounded := by
  unfold updateIdle
  split
  · exact h
  · exact .ite h.endUpdate h

theorem Dev.Bounded.cfgEvaluate {img : Bytes} (h : d.Bounded) : (d.cfgEvaluate img).2.Bounded := by
  unfold Dev.cfgEvaluate
  split
  · exact h
  · extract_lets v
    have hv : v.dev.Bounded := h.evaluateTxn
    clear_value v
    split
    · exact hv
    · exact hv

theorem Dev.Bounded.cfgBegin {owner : Nat} {kind : CommitKind} {l : List Staged} (h : d.Bounded) : (d.cfgBegin owner kind l).Bounded :=
  .applyTxn (h.frame rfl)

theorem Dev.Bounded.cfgApply {l : List Staged} (h : d.Bounded) : (d.cfgApply l).Bounded := h.cfgBegin.flipNow.finishCommit

theorem Dev.Bounded.hotEffect {comp : Nat} (h : d.Bounded) : (d.hotEffect comp).Bounded := by
  unfold Dev.hotEffect
  extract_lets down _
  have hdown : ∀ (lo hi : Nat) (e : Dev), e.Bounded → (down lo hi e).Bounded := by
    intro _ _ _ he
    exact he.foldl (fun _ hx _ => linkDown_bounded hx.free)
  split
  · exact h.legStarts
  · exact hdown _ _ _ (h.frame rfl)
  · exact hdown _ _ _ (h.frame rfl)
  · exact h

theorem Dev.Bounded.tryBank {comp bank : Nat} (h : d.Bounded) : (d.tryBank comp bank).Bounded := h.setBank

theorem Dev.Bounded.beginTrial {id confirmS : Nat} {banks : List (Nat × Nat)} {hot : Bool} (h : d.Bounded) :
    (d.beginTrial id confirmS banks hot).Bounded :=
  .post (.count (h.frame rfl))

theorem Dev.Bounded.hotSwitch {ch us : Nat} {banks : List (Nat × Nat)} {failsAt : Option Nat} {cfg : List Staged} (h : d.Bounded) :
    (d.hotSwitch ch us banks failsAt cfg).Bounded := by
  unfold Dev.hotSwitch
  refine h.foldl fun e he c => ?_
  split
  · exact he
  · extract_lets e1
    have he1 : e1.Bounded := he.tryBank.hotEffect
    exact .ite he1.cfgBegin he1

theorem Dev.Bounded.activationDue (h : d.Bounded) : d.activationDue.Bounded := h.frame rfl

theorem Dev.Bounded.hotStepFails (h : d.Bounded) : d.hotStepFails.Bounded := h.frame rfl

theorem Dev.Bounded.activate {ch : Nat} {reset : Bool} {failsAt : Option Nat} {id confirmS : Nat} {banks : List (Nat × Nat)} {cfg : List Staged} {own : Bool}
    (h : d.Bounded) : (d.activate ch reset failsAt id confirmS banks cfg own).Bounded := by
  unfold Dev.activate
  extract_lets d1 _ d2 _ d3 us d3'
  have hd1 : d1.Bounded := h.beginTrial
  have hd2 : d2.Bounded := .ite (hd1.frame rfl) hd1
  have hd3 : d3.Bounded := hd2.frame rfl
  have hd3' : d3'.Bounded := .hotSwitch (hd2.frame rfl)
  split
  · exact ansOk_bounded hd3.activationDue.mramWrote
  · exact .ite (.wait hd3'.hotStepFails) (.ite (.wait hd3') (ansOk_bounded hd3'.startTrial))

theorem serveActivate_bounded {rq : Req} {failsAt : Option Nat} (h : d.Bounded) : (serveActivate rq failsAt d).Bounded := by
  unfold serveActivate
  refine .serve (fun _ he _ _ => ?_) h
  extract_lets reset
  refine withLayout_bounded he ?_
  split
  · exact ansErr_bounded he
  · split
    · exact ansErrD_bounded he
    · split
      · exact .done he
      · exact he.activate

theorem activationReset_bounded (h : d.Bounded) : (activationReset d).Bounded := by
  unfold activationReset
  split
  · extract_lets d1 _
    have hd1 : d1.Bounded := h.resetNow
    exact .ite (.ite (hd1.frame rfl) hd1) h
  · exact h

theorem Dev.Bounded.confirmBanks {t : Trial} (h : d.Bounded) : (d.confirmBanks t).Bounded := by
  unfold Dev.confirmBanks
  extract_lets put d1 stale
  have hput : ∀ (e : Dev), e.Bounded → ∀ (c : Nat × Nat), (put e c).Bounded := by
    intro _ he _
    exact .setMono (.setBank (.ite he.setBank he))
  have hd1 : d1.Bounded := h.foldl hput
  exact hd1.foldl (fun _ he _ => he.invalidate)

theorem fwConfirm_bounded {rq : Req} (h : d.Bounded) : (fwConfirm rq d).Bounded := by
  unfold fwConfirm
  refine .serve (fun _ he _ _ => withLayout_bounded he ?_) h
  split
  · exact ansErr_bounded he
  · extract_lets d1 _ d2
    have hd1 : d1.Bounded := he.confirmBanks
    have hd2 : d2.Bounded := hd1.frame rfl
    exact .ite (ansErr_bounded he) (.ite (ansErrD_bounded he) (ansOk_bounded hd2.count.post))

theorem Dev.Bounded.revertBanks {t : Trial} (h : d.Bounded) : (d.revertBanks t).Bounded :=
  h.foldl (fun _ he _ => .ite he.invalidate.setBank he.invalidate)

theorem Dev.Bounded.fallbackHot {t : Trial} {switched cause : Nat} (h : d.Bounded) : (d.fallbackHot t switched cause).Bounded := by
  unfold Dev.fallbackHot
  extract_lets src _ d1 old
  have hsrc : src.Bounded := h.revertBanks
  have hd1 : d1.Bounded := hsrc.frame rfl
  clear_value old
  split
  · exact hd1.cfgBegin.finishCommit
  · exact hd1.fallbackEnds

theorem Dev.Bounded.markFailed {cause : Nat} (h : d.Bounded) : (d.markFailed cause).Bounded := h.frame rfl

theorem Dev.Bounded.failTrial {t : Trial} {cause : Nat} (h : d.Bounded) : (d.failTrial t cause).Bounded := .ite h.fallbackHot h.markFailed

theorem Dev.Bounded.hotFailed {ch : Nat} {failsAt : Option Nat} (h : d.Bounded) : (d.hotFailed ch failsAt).Bounded := by
  unfold Dev.hotFailed
  split
  · exact h
  · exact .ite h.fallbackHot.free.complete h.resetNow

theorem fwActivate_bounded {rq : Req} {failsAt : Option Nat} (h : d.Bounded) : (fwActivate rq failsAt d).Bounded :=
  .ite (((serveActivate_bounded h).finishCommit).hotFailed) ((serveActivate_bounded h).finishCommit)

theorem fwFallback_bounded {rq : Req} (h : d.Bounded) : (fwFallback rq d).Bounded := by
  unfold fwFallback
  refine .serve (fun _ he _ _ => withLayout_bounded he ?_) h
  split
  · exact ansErr_bounded he
  · extract_lets d1 src _
    have hd1 : d1.Bounded := he.failTrial
    have hsrc : src.Bounded := hd1.activationDue
    exact ansOk_bounded (.ite (hsrc.frame rfl) hd1)

theorem Dev.Bounded.trialOver {t : Trial} {cause : Nat} (h : d.Bounded) : (d.trialOver t cause).Bounded :=
  .ite h.failTrial.resetNow h.failTrial

theorem trialTimer_bounded (h : d.Bounded) : (trialTimer d).Bounded := by
  unfold trialTimer
  split
  · exact h
  · split
    · exact .ite h.fallbackHot h
    · exact .ite h.trialOver h

theorem runNotReached_bounded (h : d.Bounded) : (runNotReached d).Bounded := by
  unfold runNotReached
  extract_lets late
  split
  · exact h
  · exact .ite h.trialOver h

theorem fwStatus_bounded {rq : Req} (h : d.Bounded) : (fwStatus rq d).Bounded :=
  .serve (fun _ he _ _ => withLayout_bounded he (ansOk_bounded he)) h

theorem Dev.Bounded.kilnActivate (h : d.Bounded) : d.kilnActivate.Bounded := by
  unfold Dev.kilnActivate
  split
  · exact h
  · extract_lets d1 _
    have hd1 : d1.Bounded := h.beginTrial.setMono
    exact .ite h (.mramWrote (hd1.frame rfl))

theorem kilnBoot_bounded {rq : Req} (h : d.Bounded) : (kilnBoot rq d).Bounded :=
  .serve (fun _ he _ _ => withLayout_bounded he (ansOk_bounded he.kilnActivate.activationDue)) h

theorem unlockBody_bounded {m : Bytes} (h : d.Bounded) : (unlockBody d m).Bounded := by
  unfold unlockBody
  extract_lets st d1 d2 _ _ d3
  have hd1 : d1.Bounded := .ite h h.msgWork
  have hd2 : d2.Bounded := hd1.msgApplied
  have hd3 : d3.Bounded := hd2.frame rfl
  split
  · exact ansErr_bounded hd1.msgRefused
  · exact .ite (ansErr_bounded hd1.msgRefused) (.ite (ansErr_bounded hd1.msgRefused) (ansOk_bounded hd3.setStage))

theorem kilnUnlock_bounded {rq : Req} (h : d.Bounded) : (kilnUnlock rq d).Bounded := .serve (fun _ he _ _ => unlockBody_bounded he) h

theorem kilnIdle_bounded (h : d.Bounded) : (kilnIdle d).Bounded := .ite h.resetNow h

theorem kilnFrame_bounded {f : Bytes} (h : d.Bounded) : (kilnFrame f d).Bounded := .ite h (.drainAll (.take (h.frame rfl)))

end Sys2Proof.Machine
end

section
/-! SUPPORT. The bounds are kept by resets, the boot ROM, the warm path and the tick (chapter 16). -/

namespace Sys2Proof.Machine

open Sys2Proof

variable {d : Dev}

theorem powerOn_bounded {pulseNs : Nat} {p : PowerPins} (h : d.Bounded) : (powerOn pulseNs p d).Bounded := by
  unfold powerOn
  extract_lets c kept l _ _ _ _ d1
  have hc : c.Bounded := h.clearVolatile
  have hl : l.aonLog.length ≤ 16 ∧ l.rtcSub < 32768 := by
    unfold l
    split
    · exact ⟨hc.aon, hc.rtc⟩
    · decide
  have hd1 : d1.Bounded := { hc with
    history := Nat.zero_le _
    unsent := Nat.zero_le _
    faults := Nat.zero_le _
    aon := hl.1
    ns := (by decide : 0 < 1000000000)
    rtc := hl.2 }
  exact .ite h (.ite hd1.post hd1)

theorem resetInput_bounded {pulseNs : Nat} (h : d.Bounded) : (resetInput pulseNs d).Bounded := .ite h h.resetNow

theorem sysResetStart_bounded (h : d.Bounded) : (sysResetStart d).Bounded := by
  unfold sysResetStart
  split
  · exact .ite h.resetNow h
  · exact h

theorem aonRemoval_bounded (h : d.Bounded) : (aonRemoval d).Bounded :=
  { h.clearVolatile with
    history := Nat.zero_le _
    unsent := Nat.zero_le _
    faults := Nat.zero_le _
    aon := Nat.zero_le _
    ns := (by decide : 0 < 1000000000)
    rtc := (by decide : 0 < 32768) }

theorem memoryError_bounded {e : MemError} (h : d.Bounded) : (memoryError e d).Bounded := .ite h (.ite h.faultF0 h.fault)

theorem Dev.Bounded.selfCheck {b : BootInfo} (h : d.Bounded) : (d.selfCheck b).Bounded := by
  unfold Dev.selfCheck
  extract_lets _ d1 _ _ d2
  have hd1 : d1.Bounded := h.frame rfl
  have hd2 : d2.Bounded := hd1.frame rfl
  exact .ite (hd1.frame rfl) hd2.count.setStage

theorem Dev.Bounded.takeLifecycle (h : d.Bounded) : d.takeLifecycle.Bounded :=
  .ite h (.ite (.destroyRoots (h.frame rfl)) (.ite (.destroyRoots (h.frame rfl)) (h.frame rfl)))

theorem Dev.Bounded.enterKiln {timed : Bool} (h : d.Bounded) : (d.enterKiln timed).Bounded := .post (h.frame rfl)

theorem Dev.Bounded.enterTamperHold (h : d.Bounded) : d.enterTamperHold.Bounded := .post (h.frame rfl)

theorem Dev.Bounded.legChanged (h : d.Bounded) : d.legChanged.Bounded := .ite (h.frame rfl) h

theorem Dev.Bounded.fallbackAtReset {t : Trial} {cause : Nat} (h : d.Bounded) : (d.fallbackAtReset t cause).Bounded :=
  .post (.count (.ite (.legChanged (h.revertBanks.frame rfl)) (h.revertBanks.frame rfl)))

theorem Dev.Bounded.resolveTrial {b : BootInfo} (h : d.Bounded) : (d.resolveTrial b).Bounded := by
  unfold Dev.resolveTrial
  extract_lets flag _ d0
  have hd0 : d0.Bounded := .ite (.mramWrote (h.frame rfl)) h
  split
  · exact h
  · extract_lets d1
    have hd1 : d1.Bounded := hd0.foldl (fun _ he _ => he.tryBank)
    exact .ite hd0.fallbackAtReset (.ite (.ite hd1.legChanged hd1) hd0.fallbackAtReset)

theorem Dev.Bounded.selectBank {b : BootInfo} {comp : Nat} (h : d.Bounded) : (d.selectBank b comp).Bounded := by
  unfold Dev.selectBank
  split
  · exact h
  · extract_lets d1 o k d2
    have hd1 : d1.Bounded := h.invalidate
    have hd2 : d2.Bounded := hd1.setBank
    exact .ite h (.ite (.ite (.ite hd2.legChanged hd2) hd1.invalidate) hd1)

theorem Dev.Bounded.installStore {flash : Bytes} (h : d.Bounded) : (d.installStore flash).2.Bounded := by
  unfold Dev.installStore
  extract_lets len man put
  have hput : ∀ e, e.Bounded → ∀ x, (put e x).Bounded := by
    intro e he x
    unfold put
    split
    · exact he.writeImage
    · exact he
  have hbegin : (fwBeginBody d 0 man).Bounded := fwBeginBody_bounded h
  split
  · exact h
  · split
    · exact h
    · rename_i d1 hdone
      rw [hdone] at hbegin
      have hd1 := hbegin.of_done
      extract_lets d2
      have hd2 : d2.Bounded := hd1.foldl hput
      clear_value d2
      split
      · exact hd1
      · split
        · exact hd2
        · rename_i u _
          have hverify : (d2.verifyAll u).Bounded := hd2.verifyAll
          split
          · rename_i hall
            rw [hall] at hverify
            exact hverify.of_done
          · exact hd2

theorem Dev.Bounded.noService {b : BootInfo} (h : d.Bounded) : (d.noService b).Bounded := by
  unfold Dev.noService
  have hstore : (d.installStore b.flash).2.Bounded := h.installStore
  split
  · exact h.enterKiln
  · split
    · rename_i e he
      rw [he] at hstore
      exact hstore.enterKiln
    · rename_i e he
      rw [he] at hstore
      exact hstore.kilnActivate.resetNow.frame rfl

theorem Dev.Bounded.blobInvalid {i : Nat} (h : d.Bounded) : (d.blobInvalid i).Bounded := .ite h h.putKeySlot.free.slotsChanged.count.post

theorem Dev.Bounded.loadSlot {bad : List Nat} {i : Nat} (h : d.Bounded) : (Dev.loadSlot bad d i).Bounded := by
  unfold Dev.loadSlot
  extract_lets x d1
  have hd1 : d1.Bounded := h.putBlobs
  split
  · exact hd1.putSlotRaw
  · exact hd1.blobInvalid

theorem Dev.Bounded.loadKeys {b : BootInfo} (h : d.Bounded) : (d.loadKeys b).Bounded := .foldl (h.frame rfl) (fun _ he _ => he.loadSlot)

theorem Dev.Bounded.selectImages {b : BootInfo} (h : d.Bounded) : (d.selectImages b).Bounded := by
  unfold Dev.selectImages
  extract_lets d1 img _ d2 _
  have hd1 : d1.Bounded := h.resolveTrial.foldl fun _ he _ => he.selectBank
  clear_value d1
  have hd2 : d2.Bounded := hd1.frame rfl
  exact .ite hd1.noService (.loadKeys (hd2.frame rfl))

theorem Dev.Bounded.romSteps {b : BootInfo} (h : d.Bounded) : (d.romSteps b).Bounded := by
  unfold Dev.romSteps
  extract_lets d1
  have hd1 : d1.Bounded := h.takeLifecycle
  exact .ite h.faultF2 (.ite hd1.enterTamperHold (.ite hd1.enterKiln (.ite hd1.enterKiln hd1.selectImages)))

theorem Dev.Bounded.startFirmware (h : d.Bounded) : d.startFirmware.Bounded := h.frame rfl

theorem Dev.Bounded.applyLegalSge (h : d.Bounded) : d.applyLegalSge.Bounded := startSrcTimers_bounded (applyAtOnce_bounded h)

theorem Dev.Bounded.cfgInForce (h : d.Bounded) : d.cfgInForce.2.Bounded := by
  unfold Dev.cfgInForce
  split
  · exact h
  · exact h.cfgEvaluate

theorem Dev.Bounded.admitCfg (h : d.Bounded) : d.admitCfg.Bounded := by
  unfold Dev.admitCfg
  extract_lets r src _ d1
  have hr : r.2.Bounded := h.applyLegalSge.cfgInForce
  have hsrc : src.Bounded := hr
  have hd1 : d1.Bounded := hsrc.frame rfl
  split
  · exact hr.cfgApply
  · exact hd1.post.post

theorem bootSequence_bounded {b : BootInfo} (h : d.Bounded) : (bootSequence b d).Bounded := by
  unfold bootSequence
  split
  · exact h
  · split
    · exact .ite h.selfCheck h
    · exact .ite h.romSteps h
    · exact h.startFirmware.setStage
    · exact .ite h h.admitCfg
    · exact h

theorem rtcSubNs_lt {sub : Nat} (h : sub < 32768) : rtcSubNs sub < 1000000000 := by
  have hneg : ¬ (((sub * 30517578125 : Nat) : Int) < 0) := Int.not_lt.mpr (Int.natCast_nonneg _)
  simp only [rtcSubNs, roundDiv, if_neg hneg, Int.toNat_natCast]
  norm_num
  omega

theorem Dev.Bounded.leaveDormant {b : BootInfo} (h : d.Bounded) : (d.leaveDormant b).Bounded :=
  { h with
    faults := Nat.zero_le _
    ns := rtcSubNs_lt h.rtc }

theorem Dev.Bounded.applyKept (h : d.Bounded) : d.applyKept.Bounded := h.applyLegalSge.cfgApply.frame rfl

theorem Dev.Bounded.wakeLatched (h : d.Bounded) : d.wakeLatched.Bounded := by
  unfold Dev.wakeLatched
  extract_lets l asleep d1 src _ d2 d3
  have hd1 : d1.Bounded := h.frame rfl
  have hd2 : d2.Bounded := hd1.frame rfl
  have hd3 : d3.Bounded := hd2.postDeferred.post
  exact hd3.foldl (fun _ he _ => he.serveLatched)

theorem Dev.Bounded.warmStart {b : BootInfo} (h : d.Bounded) : (d.warmStart b).Bounded :=
  .wakeLatched (.applyKept (.startFirmware (.loadKeys (h.leaveDormant.frame rfl))))

theorem Dev.Bounded.coldFromDormant {b : BootInfo} (h : d.Bounded) : (d.coldFromDormant b).Bounded :=
  h.leaveDormant.postDeferred.post.frame rfl

theorem warmPath_bounded {b : BootInfo} (h : d.Bounded) : (warmPath b d).Bounded := .ite h (.ite h.warmStart h.coldFromDormant)

theorem Clock.tick_ns (c : Clock) : c.tick.ns < 1000000000 := by
  unfold Clock.tick
  exact Nat.mod_lt _ (by decide)

theorem Lantern.rtcTick_bounds {l : Lantern} (h : l.rtcSub < 32768) : l.rtcTick.rtcSub < 32768 ∧ l.rtcTick.aonLog = l.aonLog := by
  unfold Lantern.rtcTick
  dsimp only
  split
  · exact ⟨h, rfl⟩
  · split
    · exact ⟨by assumption, rfl⟩
    · exact ⟨(by decide : 0 < 32768), rfl⟩

theorem Dev.Bounded.withClocks {t : Nat} {c : Clock} {l : Lantern} (h : d.Bounded) (hc : c.ns < 1000000000)
    (hl : l.rtcSub < 32768 ∧ l.aonLog.length ≤ 16) :
    Dev.Bounded { d with uptime := t, time := { d.time with clock := c }, lantern := l } :=
  { h with aon := hl.2, ns := hc, rtc := hl.1 }

theorem Dev.Bounded.tick (h : d.Bounded) : d.tick.Bounded := by
  unfold Dev.tick
  extract_lets off runs _ d1
  have hclock : (if runs then d.time.clock.tick else d.time.clock).ns < 1000000000 := by
    split
    · exact Clock.tick_ns _
    · exact h.ns
  have hlantern : (if off then d.lantern else d.lantern.rtcTick).rtcSub < 32768 ∧
      (if off then d.lantern else d.lantern.rtcTick).aonLog.length ≤ 16 := by
    split
    · exact ⟨h.rtc, h.aon⟩
    · obtain ⟨hrtc, haon⟩ := Lantern.rtcTick_bounds h.rtc
      exact ⟨hrtc, haon.symm ▸ h.aon⟩
  have hd1 : d1.Bounded := h.withClocks hclock hlantern
  exact hd1.shapersTick.startDueReads.handoverTimeout

end Sys2Proof.Machine
end

section
/-! The statement about the bounds, command by command. -/

namespace Sys2Proof.Machine

open Sys2Proof

/-- Whatever state an outcome answers, its block is within the bounds. -/
def KeepsBounds (o : Out) : Prop := ∀ s', o = .next s' → s'.dev.Bounded

theorem onDev_keepsBounds {f : Dev → Dev} {s : State} (h : (f s.dev).Bounded) : KeepsBounds (onDev f s) := by
  rintro _ ⟨⟩
  exact h

/-- Every command keeps the bounds. -/
theorem exec_keepsBounds (c : Instr) {s : State} (h : s.dev.Bounded) : KeepsBounds (exec c s) := by
  cases c with
  | sysChannelCfg _ | portCfg _ | portFilterSet _ | portPlcaCfg _ | fabBufferCfg _ | fabMirrorCfg _ | fabCaptureCfg _ | fabLagCfg _
  | fabHopperCfg _ | ltrPortCfg _ | ltrVlanSet _ | ltrFdbStatic _ | ltrFdbCfg _ | ltrMcastGroup _ | ltrAclWrite _ | ltrProfileSet _
  | ltrPolicerSet _ | ltrZoneMatrix _ | ltrCtCfg _ | strStreamSet _ | strMeterSet _ | strGateCfg _ | strGateEntries _ | strCbsSet _
  | strPreemptCfg _ | strFrerSet _ | strObserveCfg _ | admPathSet _ | admBusDeclare _ | cupGroupSet _ | cupMembersSet _ | cupTripSet _
  | gwCanCfg _ | gwCanFilter _ | gwSerialCfg _ | gwPollSet _ | gwSrcPduSet _ | gwDstPduSet _ | gwRouteSet _ | gwScaleSet _ | timeClockCfg _
  | timeDomainCfg _ | timePortCfg _ | timeBeaconCfg _ | timeIoCfg _ | keepTamperCfg _ | pwrDomainCfg _ | pwrWakeCfg _ | pwrPolicyCfg _
  | safePolicyCfg _ | safeTwinCfg _ =>
    exact onDev_keepsBounds h.serveStaged
  | registerWrite _ => exact onDev_keepsBounds (registerWrite_bounded h)
  | mbxReqProdDoorbell _ _ _ => exact onDev_keepsBounds (doorbell_bounded h)
  | mbxRspConsWrite _ _ => exact onDev_keepsBounds (onChan_bounded (fun _ he => he.consume.drainAll) h)
  | mbxChanReset _ _ => exact onDev_keepsBounds (onChan_bounded (fun _ he => he.chanReset) h)
  | mbxChannelEnable _ _ => exact onDev_keepsBounds (onChan_bounded (fun _ he => he.chanEnable.drainAll) h)
  | hifIrqStatusClear _ _ => exact onDev_keepsBounds (onRegs_bounded (fun _ he => he.irqClear) h)
  | hifEvtConsWrite _ => exact onDev_keepsBounds (onRegs_bounded (fun _ he => he.evtConsume) h)
  | evtRingEnable _ => exact onDev_keepsBounds (onRegs_bounded (fun _ he => he.evtCtrl) h)
  | evtOverflowClear _ => exact onDev_keepsBounds (onRegs_bounded (fun _ he => he.evtCtrl) h)
  | eventHoldoffExpiry => exact onDev_keepsBounds (evtHoldoffEnd_bounded h)
  | counterLowHalfRead _ _ => exact onDev_keepsBounds (counterRead_bounded h)
  | hopperApertureAccess _ => exact onDev_keepsBounds (apertureStep_bounded h)
  | functionLevelReset => exact onDev_keepsBounds (functionReset_bounded h)
  | spiWriteRequest _ _ => exact onDev_keepsBounds (spiWrite_bounded h)
  | spiReadResponse _ => exact onDev_keepsBounds (spiRead_bounded h)
  | spiStatusRead => exact onDev_keepsBounds (spiStatus_bounded h)
  | inBandRequestFrame _ => exact onDev_keepsBounds (inBandRequest_bounded h)
  | mailboxResponsePosted _ => exact onDev_keepsBounds (responsePosted_bounded h)
  | txnIdleTimeout => exact onDev_keepsBounds (txnIdle_bounded h)
  | p90RingTailWrite _ _ _ _ => exact onDev_keepsBounds (ringTail_bounded h)
  | p90RingEnable _ _ _ => exact onDev_keepsBounds (ringEnable_bounded h)
  | p90TxFrameFetch _ => exact onDev_keepsBounds (p90Fetch_bounded h)
  | p90RxDelivery => exact onDev_keepsBounds (p90Deliver_bounded h)
  | p90HoldoffExpiry _ _ => exact onDev_keepsBounds (ringHoldoff_bounded h)
  | sysIdentify _ => exact onDev_keepsBounds (sysIdentify_bounded h)
  | sysVersion _ => exact onDev_keepsBounds (sysVersion_bounded h)
  | sysReset _ => exact onDev_keepsBounds (sysReset_bounded h)
  | sysResetStart => exact onDev_keepsBounds (sysResetStart_bounded h)
  | sysClaimsList _ => exact onDev_keepsBounds (sysClaimsList_bounded h)
  | sysCounterSnapshot _ => exact onDev_keepsBounds (sysCounterSnapshot_bounded h)
  | sysCounterClear _ => exact onDev_keepsBounds (sysCounterClear_bounded h)
  | sysEventFetch _ => exact onDev_keepsBounds (sysEventFetch_bounded h)
  | channelRebind _ => exact onDev_keepsBounds (channelRebind_bounded h)
  | txnBegin _ => exact onDev_keepsBounds (txnBegin_bounded h)
  | txnCommit _ => exact onDev_keepsBounds (txnCommit_bounded h)
  | genFlip => exact onDev_keepsBounds (genFlip_bounded h)
  | txnAbort _ => exact onDev_keepsBounds (txnAbort_bounded h)
  | txnStatus _ => exact onDev_keepsBounds (txnStatus_bounded h)
  | serviceArbiterRound _ => exact onDev_keepsBounds (arbiterRound_bounded h)
  | fabricTransferCommit => exact onDev_keepsBounds (transferCommit_bounded h)
  | portStatus _ => exact onDev_keepsBounds (portStatus_bounded h)
  | portMdio _ => exact onDev_keepsBounds (portMdio_bounded h)
  | macFrameReceived _ => exact onDev_keepsBounds (macFrame_bounded h)
  | cutThroughOversize _ _ _ => exact onDev_keepsBounds (cutOversize_bounded h)
  | linkDown _ _ => exact onDev_keepsBounds (linkDown_bounded h)
  | linkUp _ _ => exact onDev_keepsBounds (linkUp_bounded h)
  | flapHoldExpiry _ => exact onDev_keepsBounds (flapHoldExpiry_bounded h)
  | plcaBeaconReceived _ => exact onDev_keepsBounds (plcaBeacon_bounded h)
  | plcaBeaconTimeout _ => exact onDev_keepsBounds (plcaTimeout_bounded h)
  | plcaTransmitOpportunity port point =>
    exact onDev_keepsBounds (f := fun d => plcaOpportunity port (d.atPoint point)) (plcaOpportunity_bounded h.atPoint)
  | utilisationIntervalEnd _ => exact onDev_keepsBounds (utilisationEnd_bounded h)
  | stepUpQueueThreshold _ => exact onDev_keepsBounds (stepUpQueue_bounded h)
  | retrainFailTimeout _ => exact onDev_keepsBounds (retrainFail_bounded h)
  | phyStatusPoll _ => exact onDev_keepsBounds (phyPoll_bounded h)
  | frameClassify _ => exact onDev_keepsBounds (frameClassify_bounded h)
  | frameValidEnd _ => exact onDev_keepsBounds (validEnd_bounded h)
  | cutThroughStart port point =>
    exact onDev_keepsBounds (f := fun d => cutThroughStart port (d.atPoint point)) (cutThroughStart_bounded h.atPoint)
  | matchingSlot => exact onDev_keepsBounds (matchingSlot_bounded h)
  | recircReaderMove => exact onDev_keepsBounds (recircMove_bounded h)
  | captureRecordWrite => exact onDev_keepsBounds (captureWrite_bounded h)
  | lacpduReceived _ _ => exact onDev_keepsBounds (lacpduReceived_bounded h)
  | fenceTimeout _ _ => exact onDev_keepsBounds (fenceTimeout_bounded h)
  | hopperAlloc _ _ => exact onDev_keepsBounds (hopperAllocStep_bounded h)
  | hopperRefcountIncrement _ _ => exact onDev_keepsBounds (hopperIncStep_bounded h)
  | hopperRefcountDecrement _ _ => exact onDev_keepsBounds (hopperDecStep_bounded h)
  | engineRestartRelease owner => exact onDev_keepsBounds (f := fun d => d.releaseOwner owner) h.releaseOwner
  | fabCaptureAck _ => exact onDev_keepsBounds (fabCaptureAck_bounded h)
  | fabLagStatus _ => exact onDev_keepsBounds (fabLagStatus_bounded h)
  | fabHopperStatus _ => exact onDev_keepsBounds (fabHopperStatus_bounded h)
  | fabHopperAlloc _ => exact onDev_keepsBounds (fabHopperAlloc_bounded h)
  | fabHopperFree _ => exact onDev_keepsBounds (fabHopperFree_bounded h)
  | fabQueueStatus _ => exact onDev_keepsBounds (fabQueueStatus_bounded h)
  | fdbAgeScan => exact onDev_keepsBounds (fdbAgeScan_bounded h)
  | ctAgeScan => exact onDev_keepsBounds (ctAgeScan_bounded h)
  | bindingCtPurge _ => exact onDev_keepsBounds (bindingPurge_bounded h)
  | ltrFdbFlush _ => exact onDev_keepsBounds (ltrFdbFlush_bounded h)
  | ltrFdbRead _ => exact onDev_keepsBounds (ltrFdbRead_bounded h)
  | ltrCtFlush _ => exact onDev_keepsBounds (ltrCtFlush_bounded h)
  | ltrCtRead _ => exact onDev_keepsBounds (ltrCtRead_bounded h)
  | ltrZoneBindStatus _ => exact onDev_keepsBounds (ltrZoneBindStatus_bounded h)
  | ltrGenStatus _ => exact onDev_keepsBounds (ltrGenStatus_bounded h)
  | frameTxStart port collision point =>
    exact onDev_keepsBounds (f := fun d => frameTxStart port collision (d.atPoint point)) (frameTxStart_bounded h.atPoint)
  | txFrameComplete _ => exact onDev_keepsBounds (txComplete_bounded h)
  | gateEntryChange port => exact onDev_keepsBounds (f := fun d => d.driveGates port) h.driveGates
  | gateListSwitch _ => exact onDev_keepsBounds (gateSwitch_bounded h)
  | preemptVerifyResponse _ => exact onDev_keepsBounds (verifyResponse_bounded h)
  | preemptVerifyTimeout _ => exact onDev_keepsBounds (verifyTimeout_bounded h)
  | belfryCmp _ _ => exact onDev_keepsBounds (belfryCmp_bounded h)
  | queueObserveSample _ => exact onDev_keepsBounds (queueObserve_bounded h)
  | frerResetTimeout _ => exact onDev_keepsBounds (frerReset_bounded h)
  | frerLatentPeriodEnd _ => exact onDev_keepsBounds (frerLatent_bounded h)
  | strObserveRead _ => exact onDev_keepsBounds (strObserveRead_bounded h)
  | strGateStatus _ => exact onDev_keepsBounds (strGateStatus_bounded h)
  | strFilterReset _ => exact onDev_keepsBounds (strFilterReset_bounded h)
  | strStreamStatus _ => exact onDev_keepsBounds (strStreamStatus_bounded h)
  | admReportRead _ => exact onDev_keepsBounds (admReportRead_bounded h)
  | cupolaFrameDequeue => exact onDev_keepsBounds (cupolaDequeue_bounded h)
  | fanOutStep _ => exact onDev_keepsBounds (fanOutStep_bounded h)
  | foldEnd _ => exact onDev_keepsBounds (foldEnd_bounded h)
  | fanInStep => exact onDev_keepsBounds (fanInStep_bounded h)
  | cupolaBankFlip => exact onDev_keepsBounds (cupolaFlip_bounded h)
  | cupTripClear _ => exact onDev_keepsBounds (cupTripClear_bounded h)
  | cupGroupStatus _ => exact onDev_keepsBounds (cupGroupStatus_bounded h)
  | cupExpansionRead _ => exact onDev_keepsBounds (cupExpansionRead_bounded h)
  | p94FrameToChannel => exact onDev_keepsBounds (p94ToChannel_bounded h)
  | p94FrameToGateway => exact onDev_keepsBounds (p94ToGateway_bounded h)
  | canFrameReceived _ _ => exact onDev_keepsBounds (canFrame_bounded h)
  | canProtocolException _ => exact onDev_keepsBounds (canException_bounded h)
  | canArbitrationStart _ _ => exact onDev_keepsBounds (canArbitration_bounded h)
  | canTxComplete _ _ => exact onDev_keepsBounds (canTxComplete_bounded h)
  | canTxLate ch => exact onDev_keepsBounds (f := fun d => d.dropLate ch) h.dropLate
  | canBusError _ _ => exact onDev_keepsBounds (canError_bounded h)
  | busOffDelayExpiry _ => exact onDev_keepsBounds (busOffDelay_bounded h)
  | busOffRecoveryComplete _ => exact onDev_keepsBounds (busOffRecovered_bounded h)
  | acfOutAccumExpiry _ => exact onDev_keepsBounds (acfExpiry_bounded h)
  | serialCharReceived _ _ => exact onDev_keepsBounds (serialChar_bounded h)
  | rawMessageClose _ => exact onDev_keepsBounds (rawClose_bounded h)
  | pollDue _ => exact onDev_keepsBounds (pollDue_bounded h)
  | pollTransactionStart _ => exact onDev_keepsBounds (pollStart_bounded h)
  | pollReplyReceived _ _ _ => exact onDev_keepsBounds (pollReply_bounded h)
  | pollResponseTimeout _ => exact onDev_keepsBounds (pollTimeout_bounded h)
  | sgeRouteStep => exact onDev_keepsBounds (sgeStep_bounded h)
  | dstPduCyclicSend _ => exact onDev_keepsBounds (cyclicSend_bounded h)
  | dstPduDeferredSend _ => exact onDev_keepsBounds (deferredSend_bounded h)
  | srcPduTimeout _ => exact onDev_keepsBounds (srcTimeout_bounded h)
  | gwCanRecover _ => exact onDev_keepsBounds (gwCanRecover_bounded h)
  | gwCanStatus _ => exact onDev_keepsBounds (gwCanStatus_bounded h)
  | gwSerialStatus _ => exact onDev_keepsBounds (gwSerialStatus_bounded h)
  | gwPduRead _ => exact onDev_keepsBounds (gwPduRead_bounded h)
  | gwPduSend _ => exact onDev_keepsBounds (gwPduSend_bounded h)
  | gwPollNow _ => exact onDev_keepsBounds (gwPollNow_bounded h)
  | syncSample _ _ => exact onDev_keepsBounds (syncSample_bounded h)
  | syncReceiptTimeout _ => exact onDev_keepsBounds (syncTimeout_bounded h)
  | gptpMessageReceived _ _ => exact onDev_keepsBounds (gptpMessage_bounded h)
  | pdelayTimeout _ => exact onDev_keepsBounds (pdelayTimeout_bounded h)
  | gptpIntervalSend _ _ _ => exact onDev_keepsBounds (gptpSend_bounded h)
  | tsFifoDrain => exact onDev_keepsBounds (tsFifoDrain_bounded h)
  | beaconDue _ => exact onDev_keepsBounds (beaconDue_bounded h)
  | timeIoEdge _ => exact onDev_keepsBounds (timeIoEdge_bounded h)
  | captureEdge _ _ _ => exact onDev_keepsBounds (captureEdge_bounded h)
  | rtcSecondSync => exact onDev_keepsBounds (rtcSync_bounded h)
  | timeStatus _ => exact onDev_keepsBounds (timeStatus_bounded h)
  | timeRead _ => exact onDev_keepsBounds (timeRead_bounded h)
  | timeSwitch _ => exact onDev_keepsBounds (timeSwitch_bounded h)
  | timeSet _ => exact onDev_keepsBounds (timeSet_bounded h)
  | timeCaptureRead _ => exact onDev_keepsBounds (timeCaptureRead_bounded h)
  | timePulse _ => exact onDev_keepsBounds (timePulse_bounded h)
  | meterReadingArrival _ => exact onDev_keepsBounds (meterReading_bounded h)
  | readAttemptTimeout _ => exact onDev_keepsBounds (readTimeoutStep_bounded h)
  | stopFoldWaitTimeout _ => exact onDev_keepsBounds (foldTimeout_bounded h)
  | recordSeal _ _ _ => exact onDev_keepsBounds (recordSeal_bounded h)
  | caskRestartRecovery _ => exact onDev_keepsBounds (caskRecovery_bounded h)
  | takeoverSessionResegment _ => exact onDev_keepsBounds (takeoverResegment_bounded h)
  | sesOpen _ => exact onDev_keepsBounds (sesOpen_bounded h)
  | sesStart _ => exact onDev_keepsBounds (sesStart_bounded h)
  | sesSuspend _ => exact onDev_keepsBounds (sesSuspend_bounded h)
  | sesResume _ => exact onDev_keepsBounds (sesResume_bounded h)
  | sesStop _ => exact onDev_keepsBounds (sesStop_bounded h)
  | sesInterim _ => exact onDev_keepsBounds (sesInterim_bounded h)
  | sesRebind _ => exact onDev_keepsBounds (sesRebind_bounded h)
  | sesAbort _ => exact onDev_keepsBounds (sesAbort_bounded h)
  | sesStatus _ => exact onDev_keepsBounds (sesStatus_bounded h)
  | sesRecordRead _ => exact onDev_keepsBounds (sesRecordRead_bounded h)
  | sesAck _ => exact onDev_keepsBounds (sesAck_bounded h)
  | sesLegalId _ => exact onDev_keepsBounds (sesLegalId_bounded h)
  | sesLegalLogRead _ => exact onDev_keepsBounds (sesLegalLogRead_bounded h)
  | sesLegalParamUpdate _ => exact onDev_keepsBounds (sesLegalParamUpdate_bounded h)
  | sesReseal _ => exact onDev_keepsBounds (sesReseal_bounded h)
  | cipherPageGo _ _ _ => exact onDev_keepsBounds (pageGo_bounded h)
  | cipherJobStart => exact onDev_keepsBounds (jobStart_bounded h)
  | cipherJobRelease _ => exact onDev_keepsBounds (jobRelease_bounded h)
  | eccOperationComplete _ _ => exact onDev_keepsBounds (eccComplete_bounded h)
  | rngHealthFail kind =>
    exact onDev_keepsBounds (f := fun d => if d.keep.rngFailed then d else d.rngFail kind) (.ite h h.rngFail)
  | rngRetest _ => exact onDev_keepsBounds (rngRetest_bounded h)
  | tamperAlarm _ _ => exact onDev_keepsBounds (tamperAlarm_bounded h)
  | tamperHoldReset => exact onDev_keepsBounds (tamperHoldReset_bounded h)
  | lifecycleReset => exact onDev_keepsBounds (lifecycleReset_bounded h)
  | keepSlotInfo _ => exact onDev_keepsBounds (keepSlotInfo_bounded h)
  | keepUpdate _ => exact onDev_keepsBounds (keepUpdate_bounded h)
  | keepDerive _ => exact onDev_keepsBounds (keepDerive_bounded h)
  | keepCipher _ => exact onDev_keepsBounds (keepCipher_bounded h)
  | keepSign _ => exact onDev_keepsBounds (keepSign_bounded h)
  | keepVerify _ => exact onDev_keepsBounds (keepVerify_bounded h)
  | keepHash _ => exact onDev_keepsBounds (keepHash_bounded h)
  | keepRandom _ => exact onDev_keepsBounds (keepRandom_bounded h)
  | keepCounterRead _ => exact onDev_keepsBounds (keepCounterRead_bounded h)
  | keepCounterIncrement _ => exact onDev_keepsBounds (keepCounterIncrement_bounded h)
  | keepAttest _ => exact onDev_keepsBounds (keepAttest_bounded h)
  | keepIdentity _ => exact onDev_keepsBounds (keepIdentity_bounded h)
  | keepTamperStatus _ => exact onDev_keepsBounds (keepTamperStatus_bounded h)
  | keepAliveTimeout _ => exact onDev_keepsBounds (keepAliveTimeout_bounded h)
  | prepareExpiry _ => exact onDev_keepsBounds (prepareExpiry_bounded h)
  | sleepIndicationSend _ => exact onDev_keepsBounds (indicationSend_bounded h)
  | sleepCommitPoint _ => exact onDev_keepsBounds (sleepCommit_bounded h)
  | indicationTimeout _ => exact onDev_keepsBounds (indicationTimeout_bounded h)
  | deviceSleepEntry => exact onDev_keepsBounds (deviceSleepEntry_bounded h)
  | dozeEntryComplete => exact onDev_keepsBounds (dozeComplete_bounded h)
  | dormantEntryComplete => exact onDev_keepsBounds (dormantComplete_bounded h)
  | dormantAfterExpiry => exact onDev_keepsBounds (dormantAfter_bounded h)
  | wakePatternDetected _ _ => exact onDev_keepsBounds (wakePattern_bounded h)
  | hostWake _ => exact onDev_keepsBounds (hostWake_bounded h)
  | rtcAlarmWake => exact onDev_keepsBounds (rtcAlarm_bounded h)
  | latchedWakeServe => exact onDev_keepsBounds (latchedServe_bounded h)
  | wakeExitComplete _ => exact onDev_keepsBounds (wakeExit_bounded h)
  | noTrafficTimeout _ => exact onDev_keepsBounds (noTrafficTimeout_bounded h)
  | hostIdleExpiry => exact onDev_keepsBounds (hostIdle_bounded h)
  | pwrHoldTimeout _ => exact onDev_keepsBounds (holdTimeout_bounded h)
  | pwrHold _ => exact onDev_keepsBounds (pwrHold_bounded h)
  | pwrStatus _ => exact onDev_keepsBounds (pwrStatus_bounded h)
  | pwrAonLogRead _ => exact onDev_keepsBounds (pwrAonLogRead_bounded h)
  | pwrRtcAlarm _ => exact onDev_keepsBounds (pwrRtcAlarm_bounded h)
  | lockCmp _ => exact onDev_keepsBounds (lockCmp_bounded h)
  | delayParityError _ => exact onDev_keepsBounds (delayParity_bounded h)
  | comparatorSelfTest _ => exact onDev_keepsBounds (selfTest_bounded h)
  | stateDigestPass _ _ => exact onDev_keepsBounds (digestPass_bounded h)
  | watchdogExpiry _ => exact onDev_keepsBounds (watchdog_bounded h)
  | faultHoldRestart => exact onDev_keepsBounds (faultHoldRestart_bounded h)
  | interlockConflict => exact onDev_keepsBounds (interlockConflict_bounded h)
  | interlockSettleExpiry => exact onDev_keepsBounds (settleExpiry_bounded h)
  | actClaimAtRun => exact onDev_keepsBounds (actClaim_bounded h)
  | primaryWaitExpiry => exact onDev_keepsBounds (primaryWaitEnd_bounded h)
  | actTakeoverDecision => exact onDev_keepsBounds (takeoverDecision_bounded h)
  | journalFrameReceived _ => exact onDev_keepsBounds (journalReceived_bounded h)
  | journalResendTimeout => exact onDev_keepsBounds (resendTimeout_bounded h)
  | twinLinkTimeout => exact onDev_keepsBounds (twinLinkTimeout_bounded h)
  | journalSyncTimeout => exact onDev_keepsBounds (journalSyncTimeout_bounded h)
  | helloSend => exact onDev_keepsBounds (helloSend_bounded h)
  | timeAlignSend => exact onDev_keepsBounds (alignSend_bounded h)
  | journalBatchSend => exact onDev_keepsBounds (batchSend_bounded h)
  | safeStatus _ => exact onDev_keepsBounds (safeStatus_bounded h)
  | safeFaultRead _ => exact onDev_keepsBounds (safeFaultRead_bounded h)
  | safeFaultClear _ => exact onDev_keepsBounds (safeFaultClear_bounded h)
  | safeModeSet _ _ => exact onDev_keepsBounds (safeModeSet_bounded h)
  | safeTwinStatus _ => exact onDev_keepsBounds (safeTwinStatus_bounded h)
  | safeTwinHandover _ => exact onDev_keepsBounds (safeTwinHandover_bounded h)
  | fwBegin _ => exact onDev_keepsBounds (fwBegin_bounded h)
  | fwWrite _ => exact onDev_keepsBounds (fwWrite_bounded h)
  | fwVerify _ => exact onDev_keepsBounds (fwVerify_bounded h)
  | fwActivate _ _ => exact onDev_keepsBounds (fwActivate_bounded h)
  | activationReset => exact onDev_keepsBounds (activationReset_bounded h)
  | fwConfirm _ => exact onDev_keepsBounds (fwConfirm_bounded h)
  | fwFallback _ => exact onDev_keepsBounds (fwFallback_bounded h)
  | fwAbort _ => exact onDev_keepsBounds (fwAbort_bounded h)
  | fwStatus _ => exact onDev_keepsBounds (fwStatus_bounded h)
  | kilnBoot _ => exact onDev_keepsBounds (kilnBoot_bounded h)
  | kilnUnlock _ => exact onDev_keepsBounds (kilnUnlock_bounded h)
  | updateSessionIdleTimeout => exact onDev_keepsBounds (updateIdle_bounded h)
  | trialTimerExpiry => exact onDev_keepsBounds (trialTimer_bounded h)
  | runNotReachedTimeout => exact onDev_keepsBounds (runNotReached_bounded h)
  | kilnIdleTimeout => exact onDev_keepsBounds (kilnIdle_bounded h)
  | kilnFrameReceived _ => exact onDev_keepsBounds (kilnFrame_bounded h)
  | powerOnReset _ _ => exact onDev_keepsBounds (powerOn_bounded h)
  | systemResetInput _ => exact onDev_keepsBounds (resetInput_bounded h)
  | bootSequence _ => exact onDev_keepsBounds (bootSequence_bounded h)
  | warmPathBoot _ => exact onDev_keepsBounds (warmPath_bounded h)
  | vddAonRemoval => exact onDev_keepsBounds (aonRemoval_bounded h)
  | memoryErrorDetected _ => exact onDev_keepsBounds (memoryError_bounded h)
  | holdoverBudgetExceeded => exact onDev_keepsBounds h.settleQuality
  | announceReceiptTimeout _ _ => exact onDev_keepsBounds (announceTimeout_bounded h)
  | actInNEdge _ => exact onDev_keepsBounds (actInEdge_bounded h)
  | loosePeriodExpiry => exact onDev_keepsBounds (loosePeriodEnd_bounded h)
  | lacpPartnerTimeout _ => exact onDev_keepsBounds (lacpTimeout_bounded h)
  | plcaCoordinatorBeacon _ => exact onDev_keepsBounds (plcaCoordinator_bounded h)

/-- Settles O59: the tick of an empty queue and every command keep the bounds. -/
theorem stepKeepsBounds : Obligations.StepKeepsBounds := by
  intro s s' h hstep
  unfold step at hstep
  split at hstep
  · cases hstep
    exact h.tick
  · exact exec_keepsBounds _ (by exact h) s' hstep

end Sys2Proof.Machine
end

section
/-! SUPPORT. The outcome of a received frame, test by test in the order of R444. -/

namespace Sys2Proof.Machine

open Sys2Proof

theorem rxGood_iff (f : RxFrame) : rxGood f = true ↔ f.fcsOk = true ∧ f.violations = 0 ∧ f.assyFailed = false := by
  simp [rxGood, and_assoc]

section
variable {q : Port} {f : RxFrame}

/-- A short frame is undersize or a fragment, by its FCS (R72). -/
theorem rxFault_of_short (hlen : f.bytes.length + 4 < 64) : rxFault q f = if rxGood f then some 6 else some 7 := if_pos hlen

/-- A frame above the limit is oversize whatever its FCS (R76). -/
theorem rxFault_of_long (hlen : 64 ≤ f.bytes.length + 4) (hlong : rxLimit q f.firstByte < f.bytes.length + 4) : rxFault q f = some 8 :=
  (if_neg (Nat.not_lt.mpr hlen)).trans (if_pos hlong)

/-- Of a frame whose length is right, the check sequence is judged first. -/
theorem rxFault_of_sized (hlen : 64 ≤ f.bytes.length + 4) (hmax : f.bytes.length + 4 ≤ rxLimit q f.firstByte) :
    rxFault q f = if !rxGood f then some 5
      else if isMacControl f.bytes then (if be f.bytes 14 2 == 1 || be f.bytes 14 2 == 0x0101 then some 11 else some 12)
      else if !filterPasses q f.bytes then some 10 else none :=
  (if_neg (Nat.not_lt.mpr hlen)).trans (if_neg (Nat.not_lt.mpr hmax))

/-- A frame with a bad FCS, a code violation or a failed reassembly is an FCS error (R69). -/
theorem rxFault_of_bad (hlen : 64 ≤ f.bytes.length + 4) (hmax : f.bytes.length + 4 ≤ rxLimit q f.firstByte) (hbad : rxGood f = false) :
    rxFault q f = some 5 := by
  rw [rxFault_of_sized hlen hmax, hbad]
  rfl

/-- A MAC control frame is discarded, PAUSE and PFC under a counter of their own (R69). -/
theorem rxFault_of_control (hlen : 64 ≤ f.bytes.length + 4) (hmax : f.bytes.length + 4 ≤ rxLimit q f.firstByte) (hgood : rxGood f = true)
    (htype : be f.bytes 12 2 = 0x8808) :
    rxFault q f = if be f.bytes 14 2 = 1 ∨ be f.bytes 14 2 = 0x0101 then some 11 else some 12 := by
  rw [rxFault_of_sized hlen hmax, hgood, isMacControl, htype]
  simp

/-- Any other good frame is for the filter to drop or to pass (R77). -/
theorem rxFault_of_data (hlen : 64 ≤ f.bytes.length + 4) (hmax : f.bytes.length + 4 ≤ rxLimit q f.firstByte) (hgood : rxGood f = true)
    (htype : be f.bytes 12 2 ≠ 0x8808) : rxFault q f = if filterPasses q f.bytes then none else some 10 := by
  have hdata : isMacControl f.bytes = false := beq_eq_false_iff_ne.mpr htype
  rw [rxFault_of_sized hlen hmax, hgood, hdata]
  cases filterPasses q f.bytes <;> rfl

end

end Sys2Proof.Machine
end

section
/-! SUPPORT. The receive filter, by the destination address (R77, R78). -/

namespace Sys2Proof.Machine

open Sys2Proof

/-- The first used entry of the filter that names the destination of a frame. -/
def Port.filterEntry (q : Port) (bs : Bytes) : Option (Nat × Nat × Nat) := q.entries.find? (fun e => e.2.1 != 0 && e.2.2 == be bs 0 6)

section
variable {q : Port} {bs : Bytes}

theorem filterPasses_reserved (h : be bs 0 6 / 16 = 0x0180C200000) : filterPasses q bs = true :=
  if_pos (beq_iff_eq.mpr h)

theorem filterPasses_named {e : Nat × Nat × Nat} (h : be bs 0 6 / 16 ≠ 0x0180C200000) (he : q.filterEntry bs = some e) :
    filterPasses q bs = (e.2.1 == 1) := by
  unfold Port.filterEntry at he
  simp only [filterPasses, frameDa, beq_iff_eq, h, if_false, he]

/-- A destination that no used entry names is judged by the mode, its type and its hash bin. -/
theorem filterPasses_unnamed (h : be bs 0 6 / 16 ≠ 0x0180C200000) (hnone : q.filterEntry bs = none) :
    filterPasses q bs = if !bit q.filterMode 0 then true else if !bit (be bs 0 6) 40 then true
      else if be bs 0 6 == 0xFFFFFFFFFFFF then bit q.filterMode 1 else bit q.hashBins (hashBin (be bs 0 6)) := by
  unfold Port.filterEntry at hnone
  simp only [filterPasses, frameDa, beq_iff_eq, h, if_false, hnone]

end

theorem bit_eq_false_of_mod {v i : Nat} (h : v / 2 ^ i % 2 = 0) : bit v i = false := by simp [bit, h]

theorem bit_eq_true_of_mod {v i : Nat} (h : v / 2 ^ i % 2 = 1) : bit v i = true := by simp [bit, h]

/-- Bit 0 is the parity. -/
theorem bit_zero_eq (v : Nat) : bit v 0 = (v % 2 == 1) := by simp [bit]

end Sys2Proof.Machine
end

section
/-! The statements about the verdict on a received frame and the receive filter. -/

namespace Sys2Proof.Machine

open Sys2Proof

/-- Settles O27, one test of R444 after the other. -/
theorem frameVerdictFollowsR444 : Obligations.FrameVerdictFollowsR444 := by
  intro q f
  refine ⟨fun hlen hgood => ?_, fun hlen hbad => ?_, rxFault_of_long, fun hlen hmax hbad => ?_, fun hlen hmax hgood => ⟨?_, ?_⟩⟩
  · rw [rxFault_of_short hlen, if_pos ((rxGood_iff f).mpr hgood)]
  · rw [rxFault_of_short hlen, if_neg (fun h => hbad ((rxGood_iff f).mp h))]
  · exact rxFault_of_bad hlen hmax (Bool.eq_false_iff.mpr (fun h => hbad ((rxGood_iff f).mp h)))
  · exact rxFault_of_control hlen hmax ((rxGood_iff f).mpr hgood)
  · exact rxFault_of_data hlen hmax ((rxGood_iff f).mpr hgood)

/-- Settles O28: the filter's tests in their order, each by the address it is about. -/
theorem receiveFilterDecides : Obligations.ReceiveFilterDecides := by
  intro q bs
  refine ⟨filterPasses_reserved, fun hda => ⟨fun e => filterPasses_named hda, fun hnone => ?_⟩⟩
  have hrest := filterPasses_unnamed hda hnone
  refine ⟨fun hoff => ?_, fun hind => ?_, fun hon hbroad => ?_, fun hon hgroup hother => ?_⟩
  · simp [hrest, bit_zero_eq, hoff]
  · simp [hrest, bit_eq_false_of_mod hind]
  · have hgroup : bit (be bs 0 6) 40 = true := bit_eq_true_of_mod (by omega)
    rw [hrest, hgroup]
    simp [bit_zero_eq, hon, hbroad]
  · simp [hrest, bit_zero_eq, hon, bit_eq_true_of_mod hgroup, hother, hashBin]

end Sys2Proof.Machine
end

section
/-! SUPPORT. What PORT_STATUS and PORT_MDIO answer (chapter 03). -/

namespace Sys2Proof.Machine

open Sys2Proof

theorem portState_eq (p : Nat) (q : Port) :
    portState p q = if 90 ≤ p then 3 else if q.admin = false then 0 else if 50 ≤ p ∨ q.up = true then 3 else if q.hold.isSome then 2 else 1 := by
  simp only [portState, Bool.not_eq_true']

theorem portState_le (p : Nat) (q : Port) : portState p q ≤ 3 := by
  rw [portState_eq]
  split_ifs <;> omega

/-- The ms left of a port's hold, rounded up. -/
def Dev.portHoldLeft (d : Dev) (q : Port) : Nat := match q.hold with | some t => ceilDiv (t - d.uptime) 1000000 | none => 0

/-- PORT_STATUS's response. -/
def Dev.portReport (d : Dev) (p : Nat) : Bytes :=
  let q := d.port p
  let up := decide (p < 50) && q.up
  leb 1 (portState p q) ++ leb 1 (if up then q.speed else 0) ++ leb 1 (if up then q.lineMode else 0) ++ leb 1 (plcaField p q) ++
    leb 2 (d.portHoldLeft q) ++ leb 1 q.stepLevel ++ zeros 1 ++ leb 4 q.phyId ++ zeros 4

theorem Dev.portReport_length (d : Dev) (p : Nat) : (d.portReport p).length = 16 := by simp [Dev.portReport]

theorem Dev.portReport_state (d : Dev) (p : Nat) : byteAt (d.portReport p) 0 = portState p (d.port p) := by
  have hsmall := portState_le p (d.port p)
  simp only [Dev.portReport, byteAt_append, List.length_append, leb_length, zeros_length, Nat.reduceAdd, Nat.reduceLT, if_true, byteAt_leb_one]
  omega

theorem Dev.portReport_speed {d : Dev} {p : Nat} (hp : p < 50) (hup : (d.port p).up = true) :
    byteAt (d.portReport p) 1 = (d.port p).speed % 256 := by
  simp [Dev.portReport, byteAt_append, hp, hup]

theorem Dev.portReport_level (d : Dev) (p : Nat) : byteAt (d.portReport p) 6 = (d.port p).stepLevel % 256 := by
  simp [Dev.portReport, byteAt_append]

theorem Dev.portReport_phyId (d : Dev) (p : Nat) : le (d.portReport p) 8 4 = (d.port p).phyId % 2 ^ 32 := by
  unfold Dev.portReport
  rw [le_append_left _ (by simp), le_append_right _ _ (by simp)]
  simpa using le_leb 4 (d.port p).phyId

/-- PORT_MDIO's fields. -/
def mdioFields : List Fld := [fr 0 1 0 3, fr 1 1 0 31, fr 2 2 0 31, fa 4 2, fa 6 2]

/-- What the register a read names reads as: the PHY's own (log 25). -/
def Dev.mdioValue (d : Dev) (bs : Bytes) : Nat :=
  (if byteAt bs 0 == 0 then Config.phyRegister d.freeIx (byteAt bs 1) none (le bs 2 2)
    else Config.phyRegister d.freeIx (byteAt bs 1) (some (le bs 2 2)) (le bs 4 2)).toNat

/-- What a write drives on the bus. -/
def mdioFrame (bs : Bytes) : Output :=
  if byteAt bs 0 == 1 then .mdioWrite (byteAt bs 1) none (le bs 2 2) (le bs 6 2)
  else .mdioWrite (byteAt bs 1) (some (le bs 2 2)) (le bs 4 2) (le bs 6 2)

/-- PORT_MDIO's work. -/
def mdioBody (d : Dev) (bs : Bytes) : Ans :=
  if (decide (byteAt bs 0 < 2) && le bs 4 2 != 0) || (byteAt bs 0 % 2 == 0 && le bs 6 2 != 0) then ansErr d stBadParam
  else if mdioRefused d (byteAt bs 0) (byteAt bs 1) (le bs 2 2) (le bs 4 2) then ansErr d stNotPermitted
  else if d.mdioBusy then ansErr d stTimeout
  else if byteAt bs 0 % 2 == 1 then ansOk (d.emit (mdioFrame bs)) (leb 2 (le bs 6 2) ++ zeros 2)
  else ansOk { d with freeIx := d.freeIx + 1 } (leb 2 (d.mdioValue bs) ++ zeros 2)

theorem exec_portMdio (rq : Req) (s : State) :
    exec (.portMdio rq) s = onDev (Dev.serve 0x0205 rq (rspMax 4) (fun d _ bs => withLayout d 8 mdioFields bs (mdioBody d bs))) s := rfl

/-- The fields an operation does not use are zero. -/
def mdioPlain (bs : Bytes) : Prop := (byteAt bs 0 < 2 → le bs 4 2 = 0) ∧ (byteAt bs 0 % 2 = 0 → le bs 6 2 = 0)

section
variable {d : Dev} {bs : Bytes}

theorem mdioBody_plain (h : mdioPlain bs) : ((decide (byteAt bs 0 < 2) && le bs 4 2 != 0) || (byteAt bs 0 % 2 == 0 && le bs 6 2 != 0)) = false := by
  simpa [mdioPlain] using h

theorem mdioBody_refused (h : mdioPlain bs) (href : mdioRefused d (byteAt bs 0) (byteAt bs 1) (le bs 2 2) (le bs 4 2) = true) :
    mdioBody d bs = ansErr d stNotPermitted := by
  rw [mdioBody, mdioBody_plain h, href]
  rfl

theorem mdioBody_busy (h : mdioPlain bs) (href : mdioRefused d (byteAt bs 0) (byteAt bs 1) (le bs 2 2) (le bs 4 2) = false)
    (hbusy : d.mdioBusy = true) : mdioBody d bs = ansErr d stTimeout := by
  rw [mdioBody, mdioBody_plain h, href, hbusy]
  rfl

theorem mdioBody_write (h : mdioPlain bs) (href : mdioRefused d (byteAt bs 0) (byteAt bs 1) (le bs 2 2) (le bs 4 2) = false)
    (hfree : d.mdioBusy = false) (hodd : byteAt bs 0 % 2 = 1) :
    mdioBody d bs = ansOk (d.emit (mdioFrame bs)) (leb 2 (le bs 6 2) ++ zeros 2) := by
  rw [mdioBody, mdioBody_plain h, href, hfree, hodd]
  rfl

theorem mdioBody_read (h : mdioPlain bs) (href : mdioRefused d (byteAt bs 0) (byteAt bs 1) (le bs 2 2) (le bs 4 2) = false)
    (hfree : d.mdioBusy = false) (heven : byteAt bs 0 % 2 = 0) :
    mdioBody d bs = ansOk { d with freeIx := d.freeIx + 1 } (leb 2 (d.mdioValue bs) ++ zeros 2) := by
  rw [mdioBody, mdioBody_plain h, href, hfree, heven]
  rfl

end

/-- Only writes are refused: a read controls nothing (R71). -/
theorem mdioRefused_of_read (d : Dev) {op : Nat} (phy reg addr : Nat) (h : op % 2 = 0) : mdioRefused d op phy reg addr = false := by
  have h1 : op ≠ 1 := by omega
  have h3 : op ≠ 3 := by omega
  simp [mdioRefused, h1, h3]

/-- A write of no unused field is plain. -/
theorem mdioPlain_of_write {bs : Bytes} (hodd : byteAt bs 0 % 2 = 1) (haddr : byteAt bs 0 = 1 → le bs 4 2 = 0) : mdioPlain bs :=
  ⟨fun hlt => haddr (by omega), fun heven => by omega⟩

theorem mdioPlain_of_read {bs : Bytes} (heven : byteAt bs 0 % 2 = 0) (haddr : byteAt bs 0 = 0 → le bs 4 2 = 0) (hdata : le bs 6 2 = 0) :
    mdioPlain bs :=
  ⟨fun hlt => haddr (by omega), fun _ => hdata⟩

end Sys2Proof.Machine
end

section
/-! The statement about PORT_STATUS and PORT_MDIO. -/

namespace Sys2Proof.Machine

open Sys2Proof

/-- Settles O32, command by command. -/
theorem portQueriesComplete : Obligations.PortQueriesComplete := by
  refine ⟨?_, ?_, ?_, ?_, ?_⟩
  · refine completes_of_body (fun _ _ => rfl) ?_
    rintro d rq bs ⟨hlen, hok⟩
    refine ⟨d, d.portReport (byteAt bs 0), (withLayout_ok _ hlen hok).trans rfl, rfl, d.portReport_length _, ?_,
      Dev.portReport_speed, d.portReport_level _, d.portReport_phyId _⟩
    rw [d.portReport_state, portState_eq]
  · refine completes_of_body exec_portMdio ?_
    rintro d rq bs ⟨hlen, hok, hodd, haddr, href, hfree⟩
    refine ⟨_, _, (withLayout_ok _ hlen hok).trans (mdioBody_write (mdioPlain_of_write hodd haddr) href hfree hodd), ?_, rfl⟩
    simp only [mdioFrame, beq_iff_eq]
  · refine completes_of_body exec_portMdio ?_
    rintro d rq bs ⟨hlen, hok, heven, hdata, haddr, hfree⟩
    have href := mdioRefused_of_read d (byteAt bs 1) (le bs 2 2) (le bs 4 2) heven
    refine ⟨_, _, (withLayout_ok _ hlen hok).trans (mdioBody_read (mdioPlain_of_read heven haddr hdata) href hfree heven), rfl, ?_, ?_⟩
    · simp
    · rw [le_append_right _ _ (by simp)]
      simp [zeros, le, byteAt]
  · refine refuses_of_body (by decide) exec_portMdio ?_
    rintro d rq bs ⟨hlen, hok, hodd, haddr, href⟩
    exact (withLayout_ok _ hlen hok).trans (mdioBody_refused (mdioPlain_of_write hodd haddr) href)
  · refine refuses_of_body (by decide) exec_portMdio ?_
    rintro d rq bs ⟨hlen, hok, haddr, hdata, href, hbusy⟩
    exact (withLayout_ok _ hlen hok).trans (mdioBody_busy ⟨haddr, hdata⟩ href hbusy)

end Sys2Proof.Machine
end

section
/-! SUPPORT. A start opportunity, by what the port is sending and whether preemption is active (R168, R184). -/

namespace Sys2Proof.Machine

open Sys2Proof

theorem runs_frameTxStart (p : Nat) (collision : Bool) (point : Nat) (s : State) :
    Runs (.frameTxStart p collision point) s (frameTxStart p collision (s.dev.atPoint point)) := rfl

/-- The frame Belfry selects among all classes. -/
def Dev.selectAny (d : Dev) (p : Nat) : Dev × Option (Stored × Copy) := Dev.select p (fun _ f => d.maySend p f) classesDown d

section
variable {d : Dev} {p : Nat} {collision : Bool}

theorem frameTxStart_of_idle (hp : p < 50) (hruns : d.portRuns p = true) (hbeacon : (d.beacon p).due = false)
    (hidle : tabFind d.fabric.sending p = none) : frameTxStart p collision d = d.startIdle p collision := by
  have h91 : (p == 91) = false := beq_eq_false_iff_ne.mpr (by omega)
  have h50 : decide (50 ≤ p) = false := decide_eq_false (by omega)
  simp only [frameTxStart, h91, h50, hruns, hbeacon, hidle, Bool.not_true, Bool.or_self, Bool.and_false, Bool.false_and,
    Bool.false_eq_true, if_false]

theorem frameTxStart_of_sending {y : Sending} (hp : p < 50) (hruns : d.portRuns p = true) (hy : tabFind d.fabric.sending p = some y) :
    frameTxStart p collision d = d.startExpress p y := by
  have h91 : (p == 91) = false := beq_eq_false_iff_ne.mpr (by omega)
  have h50 : decide (50 ≤ p) = false := decide_eq_false (by omega)
  simp only [frameTxStart, h91, h50, hruns, hy, Bool.not_true, Bool.or_self, Bool.false_eq_true, if_false]

/-- P91 takes the head of its highest class. -/
theorem frameTxStart_spire {x : Stored × Copy} (hidle : tabHas d.fabric.sending 91 = false)
    (hx : classesDown.findSome? (fun c => stageHeadOf d.fabric.frames 91 c) = some x) : frameTxStart 91 collision d = d.dequeue 91 x := by
  simp only [frameTxStart, beq_self_eq_true, if_true, hidle, Bool.false_eq_true, if_false, hx]

/-- An express frame goes first while preemption is active. -/
theorem Dev.startIdle_express {x : Stored × Copy} (hactive : d.preemptActive p = true) (hx : (d.selectExpress p).2 = some x) :
    d.startIdle p collision = (d.selectExpress p).1.dequeue p x := by
  simp only [Dev.startIdle, hactive, if_true, hx]

/-- Without preemption, and with no interrupted frame, Belfry selects among all classes. -/
theorem Dev.startIdle_none (hactive : d.preemptActive p = false) (hcut : tabFind d.fabric.preempted p = none)
    (hnone : (d.selectAny p).2 = none) : d.startIdle p collision = (d.selectAny p).1 := by
  unfold Dev.selectAny at hnone ⊢
  simp only [Dev.startIdle, hactive, hcut, Option.filter_none, Bool.false_eq_true, if_false, hnone]

/-- The frame selected leaves its queue where no collision on a CSMA/CD segment meets it. -/
theorem Dev.startIdle_dequeue {x : Stored × Copy} (hactive : d.preemptActive p = false) (hcut : tabFind d.fabric.preempted p = none)
    (hx : (d.selectAny p).2 = some x) (hclear : collision = false ∨ p < 34 ∨ (d.port p).plcaEn = true) :
    d.startIdle p collision = (d.selectAny p).1.dequeue p x := by
  have hno : (collision && decide (34 ≤ p) && decide (p < 50) && !(d.port p).plcaEn) = false := by
    obtain h | h | h := hclear
    · simp [h]
    · simp [Nat.not_le.mpr h]
    · simp [h]
  unfold Dev.selectAny at hx ⊢
  simp only [Dev.startIdle, hactive, hcut, Option.filter_none, hx, hno, Bool.false_eq_true, if_false]

theorem Dev.startIdle_collide {x : Stored × Copy} (hactive : d.preemptActive p = false) (hcut : tabFind d.fabric.preempted p = none)
    (hx : (d.selectAny p).2 = some x) (hcollision : collision = true) (hlow : 34 ≤ p) (hhigh : p < 50) (hplca : (d.port p).plcaEn = false) :
    d.startIdle p collision = (d.selectAny p).1.collide p x := by
  have hyes : (collision && decide (34 ≤ p) && decide (p < 50) && !(d.port p).plcaEn) = true := by
    simp [hcollision, hlow, hhigh, hplca]
  unfold Dev.selectAny at hx ⊢
  simp only [Dev.startIdle, hactive, hcut, Option.filter_none, hx, hyes, Bool.false_eq_true, if_false, if_true]

/-- An express frame interrupts a preemptable one whose fragment is long enough. -/
theorem Dev.startExpress_interrupt {x : Stored × Copy} {y : Sending} (hactive : d.preemptActive p = true)
    (hx : (d.selectExpress p).2 = some x) (hy : y.preemptable = true) (hone : tabHas d.fabric.preempted p = false)
    (hmay : d.mayInterrupt p y = true) : d.startExpress p y = ((d.selectExpress p).1.interrupt p y).dequeue p x := by
  simp only [Dev.startExpress, hactive, hy, hone, hmay, Bool.not_false, Bool.and_self, if_true, hx]

end

end Sys2Proof.Machine
end

section
/-! SUPPORT. The end of a frame at its egress, by how it was received and how long it is (R73, R74, R106). -/

namespace Sys2Proof.Machine

open Sys2Proof

theorem runs_txFrameComplete (p : Nat) (s : State) : Runs (.txFrameComplete p) s (txComplete p s.dev) := rfl

/-- The block once the copy a port sends has left its frame and the gap after it has begun. -/
def Dev.sent (d : Dev) (p : Nat) (x : Sending) : Dev := (d.sentCopy p x).startGap p x.tc

section
variable {d : Dev} {p : Nat} {x : Sending} {f : Stored}

theorem txComplete_of_receiving (hx : tabFind d.fabric.sending p = some x) (hstarted : x.offered = false) (hf : d.stored x.id = some f)
    (hreceiving : f.receiving = true) : txComplete p d = d := by
  simp only [txComplete, hx, hstarted, hf, hreceiving, Bool.false_eq_true, if_false, if_true]

theorem txComplete_of_received (hx : tabFind d.fabric.sending p = some x) (hstarted : x.offered = false) (hf : d.stored x.id = some f)
    (hreceiving : f.receiving = false) : txComplete p d = d.endSend p x f := by
  simp only [txComplete, hx, hstarted, hf, hreceiving, Bool.false_eq_true, if_false]

/-- The frame is not above the MAX_FRAME it was started under; one that is not cut through has been measured before (R74). -/
def Sending.fits (x : Sending) (f : Stored) : Prop := x.cutThrough = false ∨ frameLen (sendingBytesOf f x) ≤ x.maxFrame

theorem Sending.fits_iff : x.fits f ↔ (x.cutThrough && decide (x.maxFrame < frameLen (sendingBytesOf f x))) = false := by
  simp only [Sending.fits, Bool.and_eq_false_iff, decide_eq_false_iff_not, Nat.not_lt]

theorem Dev.endSend_bad (hbad : f.bad = true) : d.endSend p x f = (d.sent p x).stomp p (sendingBytesOf f x) x.lost := by
  simp only [Dev.endSend, hbad, if_true, Dev.sent]

theorem Dev.endSend_tooLong (hgood : f.bad = false) (hlong : ¬ x.fits f) :
    d.endSend p x f = (d.sent p x).stomp p ((sendingBytesOf f x).take (x.maxFrame - 4)) x.lost := by
  rw [Sending.fits_iff, Bool.not_eq_false] at hlong
  simp only [Dev.endSend, hgood, Bool.false_eq_true, if_false, hlong, if_true, Dev.sent]

/-- What a frame that ends well leaves: counted, and, at an Ethernet port whose link stands, driven. -/
theorem Dev.endSend_good (hgood : f.bad = false) (hfits : x.fits f) :
    d.endSend p x f = if 50 ≤ p then (d.sent p x).countSent p (sendingBytesOf f x)
      else if x.lost then ((d.sent p x).countSent p (sendingBytesOf f x)).addTxWire p (frameLen (sendingBytesOf f x))
      else (((((d.sent p x).countSent p (sendingBytesOf f x)).emit (.frame p (sendingBytesOf f x) false)).addTxWire p
        (frameLen (sendingBytesOf f x))).burstGoesOn p).frameSent p f.info.inPort f.bytes := by
  rw [Sending.fits_iff] at hfits
  simp only [Dev.endSend, hgood, Bool.false_eq_true, if_false, hfits, Dev.sent]

end

end Sys2Proof.Machine
end

section
/-! The statement about the start and the end of a frame. -/

namespace Sys2Proof.Machine

open Sys2Proof

/-- Settles O37: a start by what the port is sending, an end by how the frame was received. -/
theorem belfryStartsAndEndsFrames : Obligations.BelfryStartsAndEndsFrames := by
  refine ⟨fun s p coll point hp hruns hbeacon => ⟨fun hidle hcut hinactive => ?_, fun x hactive hx => ⟨fun hidle => ?_, ?_⟩⟩,
    fun s coll point x hidle hx => ?_, fun s p x f hx hstarted hlost hf => ?_⟩
  · have hrun := runs_frameTxStart p coll point s
    rw [frameTxStart_of_idle hp hruns hbeacon hidle] at hrun
    refine ⟨fun hnone => ?_, fun x hx hclear => ?_, fun x hx hcoll hlow hplca => ?_⟩
    · rwa [Dev.startIdle_none hinactive hcut hnone] at hrun
    · rwa [Dev.startIdle_dequeue hinactive hcut hx hclear] at hrun
    · rwa [Dev.startIdle_collide hinactive hcut hx hcoll hlow hp hplca] at hrun
  · have hrun := runs_frameTxStart p coll point s
    rwa [frameTxStart_of_idle hp hruns hbeacon hidle, Dev.startIdle_express hactive hx] at hrun
  · intro y hy hpre hone hmay
    have hrun := runs_frameTxStart p coll point s
    rwa [frameTxStart_of_sending hp hruns hy, Dev.startExpress_interrupt hactive hx hpre hone hmay] at hrun
  · have hrun := runs_frameTxStart 91 coll point s
    rwa [frameTxStart_spire hidle hx] at hrun
  · have hrun := runs_txFrameComplete p s
    refine ⟨fun hreceiving => ?_, fun hdone hbad => ?_, fun hdone hgood hlong => ?_, fun hdone hgood hfits hp => ?_,
      fun hdone hgood hfits hp => ?_⟩
    · rwa [txComplete_of_receiving hx hstarted hf hreceiving] at hrun
    · rwa [txComplete_of_received hx hstarted hf hdone, Dev.endSend_bad hbad, hlost] at hrun
    · rwa [txComplete_of_received hx hstarted hf hdone, Dev.endSend_tooLong hgood hlong, hlost] at hrun
    · rwa [txComplete_of_received hx hstarted hf hdone, Dev.endSend_good hgood hfits, hlost, if_neg (Nat.not_le.mpr hp),
        if_neg Bool.false_ne_true] at hrun
    · rwa [txComplete_of_received hx hstarted hf hdone, Dev.endSend_good hgood hfits, if_pos hp] at hrun

end Sys2Proof.Machine
end

section
/-! SUPPORT. What leaves every port as it is: settlements of the switch core, flushes, and Belfry's preemption unit. -/

namespace Sys2Proof.Machine

open Sys2Proof

/-- Every port, and what each is sending, is as before. -/
structure Dev.KeepsLines (d d' : Dev) : Prop where
  ports : d'.ports = d.ports
  sending : d'.fabric.sending = d.fabric.sending

theorem Dev.KeepsLines.refl (d : Dev) : d.KeepsLines d := ⟨rfl, rfl⟩

theorem Dev.KeepsLines.trans {a b c : Dev} (h1 : a.KeepsLines b) (h2 : b.KeepsLines c) : a.KeepsLines c :=
  ⟨h2.ports.trans h1.ports, h2.sending.trans h1.sending⟩

theorem Dev.Posts.keepsLines {d d' : Dev} (h : d.Posts d') : d.KeepsLines d' := ⟨h.ports, by rw [h.fabric]⟩

theorem Dev.KeepsLines.foldl {α : Type} {f : Dev → α → Dev} (hf : ∀ (e : Dev) x, e.KeepsLines (f e x)) (l : List α) (d : Dev) :
    d.KeepsLines (l.foldl f d) := List.foldlRecOn l f (.refl d) (fun e h x _ => h.trans (hf e x))

theorem Dev.keepsLines_levelCheck (d : Dev) : d.KeepsLines d.levelCheck := by
  have hpost : ∀ (high : Bool) (data : Nat),
      d.KeepsLines (({ d with fabric := { d.fabric with levelHigh := high } } : Dev).post 0x0301 0 data) := fun high data =>
    .trans (b := { d with fabric := { d.fabric with levelHigh := high } }) ⟨rfl, rfl⟩ (Dev.posts_post _ _ _ _).keepsLines
  unfold Dev.levelCheck
  dsimp only
  split
  · exact hpost true 1
  · split
    · exact hpost false 0
    · exact .refl d

theorem Dev.keepsLines_sweepGroup (d : Dev) (g : Nat) : d.KeepsLines (d.sweepGroup g) := by
  unfold Dev.sweepGroup
  split
  · exact .refl d
  · extract_lets fs gone d1
    have hgone : d.KeepsLines d1 := .foldl (by intro _ _; exact ⟨rfl, rfl⟩) gone d
    exact hgone.trans ⟨rfl, rfl⟩

/-- The stored frames that still have copies. -/
def Dev.framesLeft (d : Dev) : List Stored := d.fabric.frames.filter (fun f => !f.copies.isEmpty)

/-- The block whose frames without copies are gone, with the offers of copies that are gone. -/
def Dev.unoffered (d : Dev) : Dev :=
  { d with fabric := { d.fabric with
      frames := d.framesLeft
      sending := d.fabric.sending.filter (fun x => !x.2.offered || x.2.stands d.framesLeft) } }

theorem Dev.settleFabric_eq (d : Dev) : d.settleFabric = ((List.range 8).foldl (fun e g => e.sweepGroup g) d.unoffered).levelCheck := rfl

theorem Dev.keepsLines_settleFabric (d : Dev) : d.unoffered.KeepsLines d.settleFabric := by
  rw [Dev.settleFabric_eq]
  exact (Dev.KeepsLines.foldl Dev.keepsLines_sweepGroup _ _).trans (Dev.keepsLines_levelCheck _)

@[simp] theorem Dev.settleFabric_ports (d : Dev) : d.settleFabric.ports = d.ports := d.keepsLines_settleFabric.ports

/-- A settlement withdraws offers alone. -/
theorem Dev.settleFabric_sending (d : Dev) :
    d.settleFabric.fabric.sending = d.fabric.sending.filter (fun x => !x.2.offered || x.2.stands d.framesLeft) :=
  d.keepsLines_settleFabric.sending

@[simp] theorem Dev.post_ports (d : Dev) (code object data : Nat) : (d.post code object data).ports = d.ports :=
  (d.posts_post code object data).ports

@[simp] theorem Dev.flushPort_ports (d : Dev) (p : Nat) : (d.flushPort p).2.ports = d.ports := by
  dsimp only [Dev.flushPort]
  exact Dev.settleFabric_ports _

@[simp] theorem Dev.resumePort_ports (d : Dev) (p : Nat) : (d.resumePort p).ports = d.ports := by
  unfold Dev.resumePort
  exact (Dev.posts_count _ _ _).ports.trans (Dev.settleFabric_ports _)

@[simp] theorem Dev.lagRemap_ports (d : Dev) (g : Nat) : (d.lagRemap g).ports = d.ports := by
  unfold Dev.lagRemap
  split
  · rfl
  · dsimp only
    split
    · rfl
    · exact (Dev.settleFabric_ports _).trans (Dev.post_ports _ _ _ _)

theorem Dev.ports_foldl {α : Type} {f : Dev → α → Dev} (hf : ∀ e x, (f e x).ports = e.ports) (l : List α) (d : Dev) :
    (l.foldl f d).ports = d.ports :=
  List.foldlRecOn (motive := fun e => e.ports = d.ports) l f rfl (fun e h x _ => (hf e x).trans h)

@[simp] theorem Dev.lagPort_ports (d : Dev) (p : Nat) : (d.lagPort p).ports = d.ports :=
  Dev.ports_foldl (fun e x => by split <;> simp) _ d

@[simp] theorem Dev.setPreempt_ports (d : Dev) (p st : Nat) (f : Preempt → Preempt) : (d.setPreempt p st f).ports = d.ports := by
  unfold Dev.setPreempt
  dsimp only
  split
  · rfl
  · exact Dev.post_ports _ _ _ _

@[simp] theorem Dev.sendVerify_ports (d : Dev) (p : Nat) : (d.sendVerify p).ports = d.ports := by
  unfold Dev.sendVerify
  split <;> rfl

@[simp] theorem Dev.preemptLinkUp_ports (d : Dev) (p : Nat) : (d.preemptLinkUp p).ports = d.ports := by
  unfold Dev.preemptLinkUp
  dsimp only
  split
  · rfl
  · split <;> simp

@[simp] theorem Dev.preemptLinkDown_ports (d : Dev) (p : Nat) : (d.preemptLinkDown p).ports = d.ports := by
  unfold Dev.preemptLinkDown
  split <;> simp

@[simp] theorem Dev.frameSent_ports (d : Dev) (p inPort : Nat) (bytes : Bytes) : (d.frameSent p inPort bytes).ports = d.ports := by
  unfold Dev.frameSent
  split
  · rfl
  · split
    · split <;> rfl
    · rfl

@[simp] theorem Dev.setPlcaStart_ports (d : Dev) (p : Nat) (t : Option Nat) : (d.setPlcaStart p t).ports = d.ports := by
  unfold Dev.setPlcaStart
  split <;> rfl

@[simp] theorem Dev.fdbFlushPort_ports (d : Dev) (p : Nat) : (d.fdbFlushPort p).ports = d.ports := rfl

theorem Dev.port_congr {d d' : Dev} (h : d'.ports = d.ports) (p : Nat) : d'.port p = d.port p := by
  unfold Dev.port
  rw [h]

theorem Dev.modPort_port_other (d : Dev) {p k : Nat} (f : Port → Port) (h : k ≠ p) : (d.modPort p f).port k = d.port k :=
  tabGet_put_other (port0 k) d.ports p k _ h

end Sys2Proof.Machine
end

section
/-! SUPPORT. A port comes up, or goes down: what it and the PLCA status of every port are then (R81 to R85). -/

namespace Sys2Proof.Machine

open Sys2Proof

/-- The PLCA status of every port is as before. -/
def Dev.KeepsPlca (d d' : Dev) : Prop := ∀ p, (d'.port p).plcaOk = (d.port p).plcaOk

theorem Dev.KeepsPlca.refl (d : Dev) : d.KeepsPlca d := fun _ => rfl

theorem Dev.KeepsPlca.trans {a b c : Dev} (h1 : a.KeepsPlca b) (h2 : b.KeepsPlca c) : a.KeepsPlca c := fun p => (h2 p).trans (h1 p)

theorem Dev.keepsPlca_of_ports {d d' : Dev} (h : d'.ports = d.ports) : d.KeepsPlca d' := fun p => by rw [Dev.port_congr h]

theorem Dev.keepsPlca_modPort (d : Dev) (k : Nat) {f : Port → Port} (hf : ∀ q, (f q).plcaOk = q.plcaOk) : d.KeepsPlca (d.modPort k f) := by
  intro p
  by_cases hp : p = k
  · rw [hp, Dev.modPort_port, hf]
  · rw [d.modPort_port_other f hp]

theorem Dev.KeepsPlca.foldl {α : Type} {f : Dev → α → Dev} (hf : ∀ (e : Dev) x, e.KeepsPlca (f e x)) (l : List α) (d : Dev) :
    d.KeepsPlca (l.foldl f d) := List.foldlRecOn l f (.refl d) (fun e h x _ => h.trans (hf e x))

theorem Dev.keepsPlca_sent (d : Dev) (p : Nat) (x : Sending) : d.KeepsPlca (d.sent p x) := by
  have hcopy : d.KeepsPlca (d.sentCopy p x) := Dev.keepsPlca_of_ports (Dev.settleFabric_ports _)
  unfold Dev.sent Dev.startGap
  split
  · exact hcopy
  · exact hcopy.trans (Dev.keepsPlca_modPort _ p (fun _ => rfl))

theorem Dev.keepsPlca_addTxWire (d : Dev) (p n : Nat) : d.KeepsPlca (d.addTxWire p n) := d.keepsPlca_modPort p (fun _ => rfl)

theorem Dev.keepsPlca_stomp (d : Dev) (p : Nat) (bytes : Bytes) (lost : Bool) : d.KeepsPlca (d.stomp p bytes lost) := by
  refine .trans (Dev.keepsPlca_of_ports ?_) (Dev.keepsPlca_addTxWire _ _ _)
  cases lost <;> rfl

theorem Dev.countSent_ports (d : Dev) (p : Nat) (bytes : Bytes) : (d.countSent p bytes).ports = d.ports := by
  unfold Dev.countSent
  dsimp only
  split <;> rfl

theorem Dev.keepsPlca_burstGoesOn (d : Dev) (p : Nat) : d.KeepsPlca (d.burstGoesOn p) := by
  unfold Dev.burstGoesOn
  split
  · exact d.keepsPlca_modPort p (fun _ => rfl)
  · exact .refl d

theorem Dev.keepsPlca_endSend (d : Dev) (p : Nat) (x : Sending) (f : Stored) : d.KeepsPlca (d.endSend p x f) := by
  have hsent := d.keepsPlca_sent p x
  by_cases hbad : f.bad = true
  · rw [Dev.endSend_bad hbad]
    exact hsent.trans (Dev.keepsPlca_stomp _ _ _ _)
  rw [Bool.not_eq_true] at hbad
  by_cases hfits : x.fits f
  · have hcount := hsent.trans (Dev.keepsPlca_of_ports (Dev.countSent_ports (d.sent p x) p (sendingBytesOf f x)))
    rw [Dev.endSend_good hbad hfits]
    split
    · exact hcount
    · split
      · exact hcount.trans (Dev.keepsPlca_addTxWire _ _ _)
      · refine .trans ?_ (Dev.keepsPlca_of_ports (Dev.frameSent_ports _ _ _ _))
        exact (hcount.trans (Dev.keepsPlca_addTxWire _ _ _)).trans (Dev.keepsPlca_burstGoesOn _ _)
  · rw [Dev.endSend_tooLong hbad hfits]
    exact hsent.trans (Dev.keepsPlca_stomp _ _ _ _)

theorem Dev.keepsPlca_loseOne (p : Nat) (d : Dev) (x : Sending) : d.KeepsPlca (Dev.loseOne p d x) := by
  unfold Dev.loseOne
  split
  · exact .refl d
  · split
    · exact d.keepsPlca_endSend _ _ _
    · exact .refl d

theorem Dev.keepsPlca_loseSending (d : Dev) (p : Nat) : d.KeepsPlca (d.loseSending p) :=
  .trans (Dev.keepsPlca_of_ports rfl) (Dev.KeepsPlca.foldl (Dev.keepsPlca_loseOne p) _ _)

theorem Dev.keepsPlca_endLost (d : Dev) (id : Nat) : d.KeepsPlca (d.endLost id) := by
  refine Dev.KeepsPlca.foldl (fun e x => ?_) _ d
  split
  · exact e.keepsPlca_endSend _ _ _
  · exact .refl e

theorem Dev.keepsPlca_endReception (d : Dev) (p : Nat) : d.KeepsPlca (d.endReception p) := by
  unfold Dev.endReception
  split
  · exact .refl d
  · refine .trans ?_ (Dev.keepsPlca_endLost _ _)
    dsimp only [Dev.dropWaiting]
    exact Dev.keepsPlca_of_ports (Dev.settleFabric_ports _)

/-- The end of a hold changes no more of its port than its hold. -/
theorem Dev.holdEnds_port (d : Dev) (p : Nat) : (d.holdEnds p).port p = { d.port p with hold := none, holdExpired := true } := by
  unfold Dev.holdEnds
  dsimp only
  rw [(Dev.posts_post _ _ _ _).port, Dev.port_congr (Dev.fdbFlushPort_ports _ p), Dev.modPort_port, Dev.port_congr (d.flushPort_ports p)]

/-- A port that goes down is down, and its PLCA status is as before. -/
theorem Dev.goDown_port (d : Dev) (p cause : Nat) :
    ((d.goDown p cause).port p).up = false ∧ ((d.goDown p cause).port p).plcaOk = (d.port p).plcaOk := by
  have hplca : (((d.endReception p).loseSending p).port p).plcaOk = (d.port p).plcaOk :=
    ((d.keepsPlca_endReception p).trans (Dev.keepsPlca_loseSending _ p)) p
  unfold Dev.goDown
  extract_lets hold d1 d2
  have hport1 : d2.port p = d1.port p := Dev.port_congr (by simp [d2]) p
  have hd2 : (d2.port p).up = false ∧ (d2.port p).plcaOk = (d.port p).plcaOk := by
    rw [hport1, Dev.modPort_port]
    exact ⟨rfl, hplca⟩
  split
  · rw [Dev.holdEnds_port]
    exact hd2
  · exact hd2

theorem Dev.stepDone_port (d : Dev) (p old new level : Nat) :
    ∃ l, (d.stepDone p old new level).port p = { d.port p with retrain := none, stepLevel := l } := by
  unfold Dev.stepDone
  dsimp only
  split
  · exact ⟨_, Dev.modPort_port _ _ _⟩
  · exact ⟨level, ((Dev.posts_count _ _ _).trans (Dev.posts_post _ _ _ _)).port p |>.trans (Dev.modPort_port _ _ _)⟩

/-- A port that comes up with no step pending is up at its rate, its PLCA status as before. -/
theorem Dev.goUp_port {d : Dev} {p : Nat} (speed : Nat) (hpending : (d.port p).stepUpPending = false) :
    ((d.goUp p speed).port p).up = true ∧ ((d.goUp p speed).port p).speed = speed ∧
      ((d.goUp p speed).port p).plcaOk = (d.port p).plcaOk := by
  unfold Dev.goUp
  extract_lets q d1 d2 d3 d4 d5
  have hpost : d2.port p = d1.port p := Dev.port_congr (Dev.post_ports _ _ _ _) p
  have h3 : d3.port p = d1.port p := by
    simp only [d3]
    split
    · exact (Dev.port_congr (Dev.resumePort_ports _ _) p).trans hpost
    · exact hpost
  have h4 : (d4.port p).up = true ∧ (d4.port p).speed = speed ∧ (d4.port p).plcaOk = (d.port p).plcaOk := by
    have h1 : (d3.port p).up = true ∧ (d3.port p).speed = speed ∧ (d3.port p).plcaOk = (d.port p).plcaOk := by
      rw [h3, Dev.modPort_port]
      exact ⟨rfl, rfl, rfl⟩
    simp only [d4]
    split
    · rename_i level _ _
      obtain ⟨l, hl⟩ := d3.stepDone_port p q.speed speed level
      rw [hl]
      exact h1
    · exact h1
  have h5 : d5.port p = d4.port p := Dev.port_congr (by simp [d5]) p
  have hidle : ¬ q.stepUpPending = true := Bool.eq_false_iff.mp hpending
  rwa [if_neg hidle, h5]

theorem Dev.setPlca_port (d : Dev) (p : Nat) (ok : Bool) : (d.setPlca p ok).port p = { d.port p with plcaOk := ok } := by
  unfold Dev.setPlca
  split
  · rename_i h
    rw [← beq_iff_eq.mp h]
  · rw [(Dev.posts_post _ _ _ _).port, Dev.modPort_port]

end Sys2Proof.Machine
end

section
/-! SUPPORT. Posting an event leaves every counter but EVT_LOST alone (R51). -/

namespace Sys2Proof.Machine

open Sys2Proof

/-- Every counter but EVT_LOST is as before. -/
def Dev.KeepsCounts (d d' : Dev) : Prop := ∀ cls i, counterKey cls i ≠ counterKey 1 5 → d'.counter cls i = d.counter cls i

theorem Dev.keepsCounts_of_host {d d' : Dev} (h : d'.host.counters = d.host.counters) : d.KeepsCounts d' := fun _ _ _ => by
  unfold Dev.counter
  rw [h]

theorem Dev.KeepsCounts.trans {a b c : Dev} (h1 : a.KeepsCounts b) (h2 : b.KeepsCounts c) : a.KeepsCounts c :=
  fun cls i hne => (h2 cls i hne).trans (h1 cls i hne)

theorem Dev.raise_counters (d : Dev) (b : Nat) : (d.raise b).host.counters = d.host.counters := by rw [Dev.raise_eq]

theorem Dev.ringPut_counters (d : Dev) (e : Evt) : (d.ringPut e).host.counters = d.host.counters := by
  unfold Dev.ringPut
  extract_lets h slot first d1 d2
  have h2 : d2.host.counters = d.host.counters := by
    simp only [d2]
    split <;> rfl
  repeat' split
  · exact (Dev.raise_counters _ _).trans h2
  · exact h2
  · exact h2
  · exact h2
  · exact (Dev.raise_counters _ _).trans h2
  · exact h2

theorem Dev.keepsCounts_evtLose (d : Dev) (e : Evt) : d.KeepsCounts (d.evtLose e) :=
  fun _ _ hne => tabGet_put_other 0 d.host.counters _ _ _ hne

theorem Dev.keepsCounts_deliver (d : Dev) (e : Evt) : d.KeepsCounts (d.deliver e) := by
  unfold Dev.deliver
  dsimp only
  repeat' split
  · exact Dev.keepsCounts_of_host rfl
  · exact Dev.keepsCounts_of_host rfl
  · exact .trans (Dev.keepsCounts_of_host rfl) (Dev.keepsCounts_evtLose _ _)
  · exact d.keepsCounts_evtLose e
  · exact Dev.keepsCounts_of_host (d.ringPut_counters e)

theorem Dev.keepsCounts_post (d : Dev) (code object data : Nat) : d.KeepsCounts (d.post code object data) := by
  unfold Dev.post Dev.postAt
  dsimp only
  split
  · exact Dev.keepsCounts_of_host rfl
  · exact .trans (Dev.keepsCounts_of_host rfl) (Dev.keepsCounts_deliver _ _)

@[simp] theorem Dev.count_counter (d : Dev) (cls i : Nat) : (d.count cls i).counter cls i = (d.counter cls i + 1) % 2 ^ 64 :=
  tabGet_put_same 0 d.host.counters (counterKey cls i) _

theorem Dev.setPlcaStart_counter (d : Dev) (p : Nat) (t : Option Nat) (cls i : Nat) :
    (d.setPlcaStart p t).counter cls i = d.counter cls i := by
  unfold Dev.setPlcaStart
  split <;> rfl

theorem Dev.keepsCounts_setPlca (d : Dev) (p : Nat) (ok : Bool) : d.KeepsCounts (d.setPlca p ok) := by
  unfold Dev.setPlca
  split
  · exact Dev.keepsCounts_of_host rfl
  · exact .trans (Dev.keepsCounts_of_host rfl) (Dev.keepsCounts_post _ _ _ _)

end Sys2Proof.Machine
end

section
/-! SUPPORT. The MDIO accesses the firmware has queued bear on no event (chapter 03, External PHY management). -/

namespace Sys2Proof.Machine

open Sys2Proof

/-- The block with other queued MDIO accesses. -/
def Dev.withMdio (d : Dev) (m : List Nat) : Dev := { d with fabric := { d.fabric with mdio := m } }

theorem Dev.raise_withMdio (d : Dev) (m : List Nat) (b : Nat) : (d.withMdio m).raise b = (d.raise b).withMdio m := by
  rw [Dev.raise_eq, Dev.raise_eq]
  rfl

theorem Dev.withMdio_ite (c : Prop) [Decidable c] (a b : Dev) (m : List Nat) :
    (if c then a else b).withMdio m = if c then a.withMdio m else b.withMdio m := apply_ite (Dev.withMdio · m) c a b

/-- The block with an entry at HIF_EVT_PROD, before the EVENT source is looked at (R50). -/
def Dev.ringStored (d : Dev) (e : Evt) : Dev :=
  let slot := d.host.evtProd % ringSize
  let d1 := { d with host := { d.host with ring := tabPut d.host.ring slot e, evtProd := (d.host.evtProd + 1) % (2 * ringSize) } }
  if d.host.spi then d1
  else d1.emit (.hostMem (d.host.evtBaseLo + d.host.evtBaseHi * 2 ^ 32 + slot * 32) (evtBytes e (!bit d.host.evtProd 12)))

theorem Dev.ringStored_withMdio (d : Dev) (m : List Nat) (e : Evt) : (d.withMdio m).ringStored e = (d.ringStored e).withMdio m := by
  unfold Dev.ringStored
  rw [Dev.withMdio_ite]
  rfl

theorem Dev.ringPut_eq (d : Dev) (e : Evt) : d.ringPut e =
    if d.host.evtHoldoff == 0 then (if d.ringUsed == 0 then (d.ringStored e).raise 0 else d.ringStored e)
    else if d.ringUsed == 0 then
      { d.ringStored e with host := { (d.ringStored e).host with evtDeadline := some (d.uptime + d.host.evtHoldoff * 1000), evtNew := 1 } }
    else if d.host.evtDeadline.isNone then d.ringStored e
    else if d.host.evtNew + 1 ≥ 64 then
      Dev.raise { d.ringStored e with host := { (d.ringStored e).host with evtDeadline := none, evtNew := 0 } } 0
    else { d.ringStored e with host := { (d.ringStored e).host with evtNew := d.host.evtNew + 1 } } := rfl

theorem Dev.ringPut_withMdio (d : Dev) (m : List Nat) (e : Evt) : (d.withMdio m).ringPut e = (d.ringPut e).withMdio m := by
  rw [Dev.ringPut_eq, Dev.ringPut_eq, Dev.ringStored_withMdio]
  simp only [Dev.withMdio_ite, ← Dev.raise_withMdio]
  rfl

theorem Dev.deliver_withMdio (d : Dev) (m : List Nat) (e : Evt) : (d.withMdio m).deliver e = (d.deliver e).withMdio m := by
  have hunsent : (d.withMdio m).host.unsent = d.host.unsent := rfl
  unfold Dev.deliver
  simp only [Dev.withMdio_ite, ← Dev.ringPut_withMdio, hunsent]
  cases d.host.unsent ++ [e] <;> rfl

theorem Dev.post_withMdio (d : Dev) (m : List Nat) (code object data : Nat) :
    (d.withMdio m).post code object data = (d.post code object data).withMdio m := by
  unfold Dev.post Dev.postAt
  simp only [Dev.withMdio_ite, ← Dev.deliver_withMdio]
  rfl

theorem Dev.phyFault_withMdio (d : Dev) (m : List Nat) (p reason : Nat) :
    (d.withMdio m).phyFault p reason = (d.phyFault p reason).withMdio m := Dev.post_withMdio (d.count 2 (p * 64 + 31)) m _ _ _

/-- Queueing accesses changes the queue of accesses alone. -/
theorem Dev.mdioQueue_eq (d : Dev) (p kind : Nat) : ∃ m, d.mdioQueue p kind = d.withMdio m := by
  unfold Dev.mdioQueue
  split
  · exact ⟨d.fabric.mdio, rfl⟩
  · exact ⟨_, rfl⟩

theorem Dev.foldl_mdioQueue_eq (l : List Nat) (d : Dev) :
    ∃ m, l.foldl (fun e p => if (e.port p).admin then e.mdioQueue p 2 else e) d = d.withMdio m := by
  induction l generalizing d with
  | nil => exact ⟨d.fabric.mdio, rfl⟩
  | cons p l ih =>
    have hone : ∃ m, (if (d.port p).admin then d.mdioQueue p 2 else d) = d.withMdio m := by
      split
      · exact d.mdioQueue_eq p 2
      · exact ⟨d.fabric.mdio, rfl⟩
    obtain ⟨m, hm⟩ := hone
    obtain ⟨m', hm'⟩ := ih (d.withMdio m)
    exact ⟨m', by rw [List.foldl_cons, hm, hm']; rfl⟩

/-- A poll that finds one fault reports it; else it changes the queued accesses alone. -/
theorem phyPoll_one {d : Dev} {p : Nat} (hadmin : (d.port p).admin = true) (hphy : hasPhy p (d.port p) = true) :
    ∃ m, phyPoll [p] d = (d.phyFault p 5).withMdio m := by
  obtain ⟨m, hm⟩ := Dev.foldl_mdioQueue_eq (List.range 34) d
  have hboth : ((d.port p).admin && hasPhy p (d.port p)) = true := by rw [hadmin, hphy]; rfl
  refine ⟨m, ?_⟩
  unfold phyPoll
  rw [hm]
  exact (if_pos hboth).trans (d.phyFault_withMdio m p 5)

end Sys2Proof.Machine
end

section
/-! SUPPORT. The steps of a port's rate, by what the port is doing (R86 to R88). -/

namespace Sys2Proof.Machine

open Sys2Proof

/-- Without stepping no lower rate is enabled. -/
theorem stepRates_zero (p : Nat) : stepRates p 0 = [] := by simp [stepRates, bit]

theorem lowerStep_of_noSteps {p : Nat} {q : Port} (h : q.stepMask = 0) : lowerStep p q = none := by
  simp [lowerStep, h, stepRates_zero]

section
variable {d : Dev} {p : Nat}

/-- The next interval begins 100 ms on with its counts at zero; at the full rate without stepping nothing more happens. -/
theorem utilisationEnd_noSteps (hp : p < 34) (hup : (d.port p).up = true) (hover : (d.port p).intervalEnd < d.uptime)
    (hmask : (d.port p).stepMask = 0) (hlevel : (d.port p).stepLevel = 0) :
    utilisationEnd p d = d.modPort p (fun q => { q with intervalEnd := q.intervalEnd + 100000000, rxWire := 0, txWire := 0 }) := by
  have hdue : ¬ (34 ≤ p ∨ (!(d.port p).up) = true ∨ (!d.over (d.port p).intervalEnd) = true) := by
    simp [Dev.over, hp, hup, hover]
  have hfull : (decide (0 < (d.port p).stepLevel) && (utilAbove (d.port p).rxWire (d.port p).stepUp (d.port p).speed ||
      utilAbove (d.port p).txWire (d.port p).stepUp (d.port p).speed)) = false := by simp [hlevel]
  simp only [utilisationEnd, if_neg hdue, hfull, lowerStep_of_noSteps hmask, Bool.false_eq_true, if_false, ite_self]
  rfl

theorem stepUpQueue_idle (hp : p < 34) (hlong : (d.port p).stepQueue * 1024 < queuedBytes d.fabric.frames p)
    (hidle : (d.port p).retrain = none) (hlevel : 0 < (d.port p).stepLevel) : stepUpQueue p d = d.stepTo_ p 0 := by
  have hgo : ¬ (34 ≤ p ∨ queuedBytes d.fabric.frames p ≤ (d.port p).stepQueue * 1024) := by omega
  simp only [stepUpQueue, if_neg hgo, hidle, if_pos hlevel]

/-- During the retrain of a step down the step up waits for its end (R88). -/
theorem stepUpQueue_retrain {level t : Nat} (hp : p < 34) (hlong : (d.port p).stepQueue * 1024 < queuedBytes d.fabric.frames p)
    (hretrain : (d.port p).retrain = some (level, t)) (hdown : (d.port p).stepLevel < level) :
    stepUpQueue p d = d.modPort p (fun q => { q with stepUpPending := true }) := by
  have hgo : ¬ (34 ≤ p ∨ queuedBytes d.fabric.frames p ≤ (d.port p).stepQueue * 1024) := by omega
  simp only [stepUpQueue, if_neg hgo, hretrain, if_pos hdown]

theorem retrainFail_due {level t : Nat} (hretrain : (d.port p).retrain = some (level, t)) (hover : t < d.uptime)
    (hdown : (d.port p).up = false) : retrainFail p d = (d.phyFault p 4).stepTo_ p 0 := by
  have hdue : (d.over t && !(d.port p).up) = true := by simp [Dev.over, hover, hdown]
  simp only [retrainFail, hretrain, if_pos hdue]

end

end Sys2Proof.Machine
end

section
/-! SUPPORT. PLCA's cycle: the beacon heard, the beacon missed, and the coordinator's own (R81). -/

namespace Sys2Proof.Machine

open Sys2Proof

/-- The block once a follower's port has heard its beacon. -/
def Dev.beaconHeard (d : Dev) (p : Nat) : Dev := ((d.count 2 (p * 64 + 32)).setPlcaStart p (some d.now)).setPlca p true

/-- The block once a follower's port has missed its beacon. -/
def Dev.beaconMissed (d : Dev) (p : Nat) : Dev := ((d.count 2 (p * 64 + 30)).setPlcaStart p none).setPlca p false

theorem Dev.beaconHeard_port (d : Dev) (p : Nat) : (d.beaconHeard p).port p = { d.port p with plcaOk := true } := by
  rw [Dev.beaconHeard, Dev.setPlca_port, Dev.port_congr (Dev.setPlcaStart_ports _ _ _), (d.posts_count _ _).port]

theorem Dev.beaconMissed_port (d : Dev) (p : Nat) : (d.beaconMissed p).port p = { d.port p with plcaOk := false } := by
  rw [Dev.beaconMissed, Dev.setPlca_port, Dev.port_congr (Dev.setPlcaStart_ports _ _ _), (d.posts_count _ _).port]

/-- The beacon is counted once, whatever becomes of its event. -/
theorem Dev.beaconHeard_counter (d : Dev) (p : Nat) :
    (d.beaconHeard p).counter 2 (p * 64 + 32) = (d.counter 2 (p * 64 + 32) + 1) % 2 ^ 64 := by
  have hne : counterKey 2 (p * 64 + 32) ≠ counterKey 1 5 := by
    unfold counterKey
    omega
  rw [Dev.beaconHeard, Dev.keepsCounts_setPlca _ p true _ _ hne, Dev.setPlcaStart_counter, Dev.count_counter]

section
variable {d : Dev} {p : Nat}

theorem isFollower_of {q : Port} (hlow : 34 ≤ p) (hhigh : p < 50) (hadmin : q.admin = true) (hen : q.plcaEn = true) (hnode : q.nodeId ≠ 0) :
    isFollower p q = true := by
  simp [isFollower, hlow, hhigh, hadmin, hen, hnode]

theorem plcaBeacon_up (hfollow : isFollower p (d.port p) = true) (hawake : d.portAsleep p = false) (hup : (d.port p).up = true) :
    plcaBeacon p d = d.beaconHeard p := by
  have hstay : ((d.beaconHeard p).port p).up = true := by rw [Dev.beaconHeard_port]; exact hup
  have hgo : ¬ (!isFollower p (d.port p) || d.portAsleep p) = true := by simp [hfollow, hawake]
  exact (if_neg hgo).trans (if_pos hstay)

/-- A follower that was down comes up at 10 Mbit/s. -/
theorem plcaBeacon_down (hfollow : isFollower p (d.port p) = true) (hawake : d.portAsleep p = false) (hdown : (d.port p).up = false) :
    plcaBeacon p d = (d.beaconHeard p).goUp p 1 := by
  have hstay : ¬ ((d.beaconHeard p).port p).up = true := by rw [Dev.beaconHeard_port]; exact Bool.eq_false_iff.mp hdown
  have hgo : ¬ (!isFollower p (d.port p) || d.portAsleep p) = true := by simp [hfollow, hawake]
  exact (if_neg hgo).trans (if_neg hstay)

theorem plcaTimeout_ok (hfollow : isFollower p (d.port p) = true) (hawake : d.portAsleep p = false) (hok : (d.port p).plcaOk = true) :
    plcaTimeout p d = if ((d.beaconMissed p).port p).up then (d.beaconMissed p).goDown p 1 else d.beaconMissed p := by
  have hgo : ¬ (!isFollower p (d.port p) || !(d.port p).plcaOk || d.portAsleep p) = true := by simp [hfollow, hawake, hok]
  exact if_neg hgo

/-- A missed beacon ends the status and leaves the port down. -/
theorem plcaTimeout_port (hfollow : isFollower p (d.port p) = true) (hawake : d.portAsleep p = false) (hok : (d.port p).plcaOk = true) :
    ((plcaTimeout p d).port p).plcaOk = false ∧ ((plcaTimeout p d).port p).up = false := by
  have hmissed : ((d.beaconMissed p).port p).plcaOk = false := by rw [Dev.beaconMissed_port]
  rw [plcaTimeout_ok hfollow hawake hok]
  split
  · obtain ⟨hdown, hplca⟩ := (d.beaconMissed p).goDown_port p 1
    exact ⟨hplca.trans hmissed, hdown⟩
  · rename_i hdown
    exact ⟨hmissed, Bool.eq_false_iff.mpr hdown⟩

theorem plcaCoordinator_opens (hlow : 34 ≤ p) (hhigh : p < 50) (hadmin : (d.port p).admin = true) (hen : (d.port p).plcaEn = true)
    (hnode : (d.port p).nodeId = 0) (hup : (d.port p).up = true) (hawake : d.portSleeping p = false) (hdrive : d.mayDrive = true) :
    plcaCoordinator p d = (d.count 2 (p * 64 + 33)).setPlcaStart p (some d.now) := by
  simp [plcaCoordinator, hlow, hhigh, hadmin, hen, hnode, hup, hawake, hdrive]

end

end Sys2Proof.Machine
end

section
/-! SUPPORT. The offered frame starts at its transmit opportunity (R170). -/

namespace Sys2Proof.Machine

open Sys2Proof

/-- An entry that a filter keeps is found as before. -/
theorem tabFind_filter_of_keep {α : Type} {t : Tab α} {i : Nat} {v : α} {keep : Nat × α → Bool} (h : tabFind t i = some v)
    (hkeep : keep (i, v) = true) : tabFind (t.filter keep) i = some v := by
  induction t with
  | nil => cases h
  | cons e t ih =>
    obtain ⟨k, w⟩ := e
    by_cases hk : k = i
    · rw [tabFind, if_pos hk] at h
      cases h
      subst hk
      rw [List.filter_cons_of_pos hkeep, tabFind, if_pos rfl]
    · rw [tabFind, if_neg hk] at h
      by_cases hkept : keep (k, w) = true
      · rw [List.filter_cons_of_pos hkept, tabFind, if_neg hk, ih h]
      · rw [List.filter_cons_of_neg hkept, ih h]

@[simp] theorem Dev.cbsStart_fabric (d : Dev) (p c : Nat) : (d.cbsStart p c).fabric = d.fabric := by
  unfold Dev.cbsStart
  split <;> rfl

@[simp] theorem Dev.observeStart_fabric (d : Dev) (p c time : Nat) : (d.observeStart p c time).fabric = d.fabric := by
  unfold Dev.observeStart
  split <;> rfl

@[simp] theorem Dev.tsRecord_fabric (d : Dev) (p : Nat) (r : TsReq) (event : Bool) (stamp : Nat) :
    (d.tsRecord p r event stamp).fabric = d.fabric := by
  unfold Dev.tsRecord
  extract_lets fifo room
  split <;> rfl

/-- A settlement keeps what is on the wire. -/
theorem Dev.settleFabric_started {d : Dev} {p : Nat} {y : Sending} (h : tabFind d.fabric.sending p = some y) (hstarted : y.offered = false) :
    tabFind d.settleFabric.fabric.sending p = some y := by
  rw [Dev.settleFabric_sending]
  exact tabFind_filter_of_keep h (by simp [hstarted])

/-- A frame that starts is on the wire of its port from now on. -/
theorem Dev.startCopy_sending (d : Dev) (p : Nat) (f : Stored) (k : Copy) :
    ∃ y, tabFind (d.startCopy p f k).fabric.sending p = some y ∧ y.offered = false ∧ y.start = d.uptime ∧ y.id = f.id := by
  unfold Dev.startCopy
  extract_lets mark s0 s d1 streams d2 d3 d4
  have hs : s.offered = false ∧ s.start = d.uptime ∧ s.id = f.id := by
    simp only [s]
    split <;> exact ⟨rfl, rfl, rfl⟩
  have h3 : d3.fabric = d1.fabric := by simp [d3, d2]
  have h4 : d4.fabric = d1.fabric := by
    simp only [d4]
    split
    · split
      · exact (Dev.tsRecord_fabric _ _ _ _ _).trans h3
      · exact h3
    · exact h3
  have hfound : tabFind d4.fabric.sending p = some s := by
    rw [h4]
    exact tabFind_put_same _ p s
  exact ⟨s, Dev.settleFabric_started hfound hs.1, hs⟩

section
variable {d : Dev} {p : Nat} {x : Sending} {f : Stored} {k : Copy}

theorem Dev.startOffered_eq (hf : d.stored x.id = some f) (hk : f.copies.find? x.of = some k) :
    d.startOffered p x = ({ d with fabric := { d.fabric with sending := tabDel d.fabric.sending p } } : Dev).startCopy p f k := by
  have hf' : ({ d with fabric := { d.fabric with sending := tabDel d.fabric.sending p } } : Dev).stored x.id = some f := hf
  simp only [Dev.startOffered, hf', hk]

theorem Dev.stored_id {id : Nat} (hf : d.stored id = some f) : f.id = id := by
  simpa using List.find?_some hf

theorem Dev.startOffered_sending (hf : d.stored x.id = some f) (hk : f.copies.find? x.of = some k) :
    ∃ y, tabFind (d.startOffered p x).fabric.sending p = some y ∧ y.offered = false ∧ y.start = d.uptime ∧ y.id = x.id := by
  rw [Dev.startOffered_eq hf hk, ← Dev.stored_id hf]
  exact Dev.startCopy_sending _ p f k

/-- With no beacon due the opportunity is the offered frame's. -/
theorem plcaOpportunity_offered (hlow : 34 ≤ p) (hhigh : p < 50) (hen : (d.port p).plcaEn = true) (hruns : d.portRuns p = true)
    (hdrive : d.mayDrive = true) (hbeacon : (d.beacon p).due = false) (hx : tabFind d.fabric.sending p = some x)
    (hoffered : x.offered = true) :
    plcaOpportunity p d = ((d.modPort p (fun q => { q with burst := 0, burstEnd := none })).startOffered p x).count 2 (p * 64 + 34) := by
  have hgo : (!(decide (34 ≤ p) && decide (p < 50) && (d.port p).plcaEn) || !d.portRuns p || !d.mayDrive) = false := by
    simp [hlow, hhigh, hen, hruns, hdrive]
  simp only [plcaOpportunity, hgo, hbeacon, Bool.false_and, Bool.false_eq_true, if_false, Dev.modPort_fabric, hx, hoffered, if_true, b2n]

end

end Sys2Proof.Machine
end

section
/-! The statement about stepping, PHY polls and PLCA. -/

namespace Sys2Proof.Machine

open Sys2Proof

theorem runs_utilisationIntervalEnd (p : Nat) (s : State) : Runs (.utilisationIntervalEnd p) s (utilisationEnd p s.dev) := rfl
theorem runs_stepUpQueueThreshold (p : Nat) (s : State) : Runs (.stepUpQueueThreshold p) s (stepUpQueue p s.dev) := rfl
theorem runs_retrainFailTimeout (p : Nat) (s : State) : Runs (.retrainFailTimeout p) s (retrainFail p s.dev) := rfl
theorem runs_phyStatusPoll (faults : List Nat) (s : State) : Runs (.phyStatusPoll faults) s (phyPoll faults s.dev) := rfl
theorem runs_plcaBeaconReceived (p : Nat) (s : State) : Runs (.plcaBeaconReceived p) s (plcaBeacon p s.dev) := rfl
theorem runs_plcaBeaconTimeout (p : Nat) (s : State) : Runs (.plcaBeaconTimeout p) s (plcaTimeout p s.dev) := rfl
theorem runs_plcaCoordinatorBeacon (p : Nat) (s : State) : Runs (.plcaCoordinatorBeacon p) s (plcaCoordinator p s.dev) := rfl
theorem runs_plcaTransmitOpportunity (p point : Nat) (s : State) :
    Runs (.plcaTransmitOpportunity p point) s (plcaOpportunity p (s.dev.atPoint point)) := rfl

/-- Settles O31, event by event. -/
theorem steppingAndPlcaEventsAct : Obligations.SteppingAndPlcaEventsAct := by
  intro s p
  refine ⟨fun hp hup hover hmask hlevel => ?_, fun hp hlong => ⟨fun hidle hlevel => ?_, fun lv t hretrain hdown => ?_⟩,
    fun lv t hretrain hover hdown => ?_, fun hadmin hphy => ?_, fun hlow hhigh hadmin hen hawake =>
      ⟨fun hnode hup => ?_, fun hnode hdown hpending => ?_, fun hnode hok => ?_, fun hnode hup hservice hdrive => ?_,
        fun x f k point hruns hdrive hbeacon hx hoffered hf hk => ?_⟩⟩
  · exact utilisationEnd_noSteps hp hup hover hmask hlevel ▸ runs_utilisationIntervalEnd p s
  · exact stepUpQueue_idle hp hlong hidle hlevel ▸ runs_stepUpQueueThreshold p s
  · exact stepUpQueue_retrain hp hlong hretrain hdown ▸ runs_stepUpQueueThreshold p s
  · exact retrainFail_due hretrain hover hdown ▸ runs_retrainFailTimeout p s
  · obtain ⟨m, hm⟩ := phyPoll_one hadmin hphy
    refine ⟨_, hm ▸ runs_phyStatusPoll [p] s, ?_⟩
    have hfabric : (s.dev.phyFault p 5).fabric = s.dev.fabric := ((s.dev.posts_count _ _).trans (Dev.posts_post _ _ _ _)).fabric
    rw [Dev.withMdio, hfabric]
  · have hfollow := isFollower_of hlow hhigh hadmin hen hnode
    refine ⟨_, plcaBeacon_up hfollow hawake hup ▸ runs_plcaBeaconReceived p s, ?_, ?_, s.dev.beaconHeard_counter p⟩
    · rw [Dev.beaconHeard_port]
    · rw [Dev.beaconHeard_port]
      exact hup
  · have hfollow := isFollower_of hlow hhigh hadmin hen hnode
    have hport := s.dev.beaconHeard_port p
    obtain ⟨hup, hspeed, hplca⟩ := Dev.goUp_port (d := s.dev.beaconHeard p) (p := p) 1 (by rw [hport]; exact hpending)
    refine ⟨_, plcaBeacon_down hfollow hawake hdown ▸ runs_plcaBeaconReceived p s, ?_, hup, hspeed⟩
    rw [hplca, hport]
  · exact ⟨_, runs_plcaBeaconTimeout p s, plcaTimeout_port (isFollower_of hlow hhigh hadmin hen hnode) hawake hok⟩
  · exact plcaCoordinator_opens hlow hhigh hadmin hen hnode hup hservice hdrive ▸ runs_plcaCoordinatorBeacon p s
  · obtain ⟨y, hy⟩ := Dev.startOffered_sending (d := (s.dev.atPoint point).modPort p (fun q => { q with burst := 0, burstEnd := none }))
      (p := p) hf hk
    have hrun := runs_plcaTransmitOpportunity p point s
    rw [plcaOpportunity_offered (d := s.dev.atPoint point) hlow hhigh hen hruns hdrive hbeacon hx hoffered] at hrun
    exact ⟨_, y, hrun, hy⟩

end Sys2Proof.Machine
end

section
/-! SUPPORT. Hopper's pools: what a handle names, what an allocation gives, and what a reference added or taken leaves (R116 to
R118). -/

namespace Sys2Proof.Machine

open Sys2Proof

@[simp] theorem Dev.putPool_pool (d : Dev) (p : Nat) (q : Pool) : (d.putPool p q).pool p = q := tabGet_put_same pool0 d.fabric.pools p q

@[simp] theorem Dev.count_pool (d : Dev) (c i p : Nat) : (d.count c i).pool p = d.pool p := rfl

/-- Replace a buffer's record. -/
def Dev.putBuf (d : Dev) (p i : Nat) (b : Buf) : Dev := d.putPool p { d.pool p with bufs := tabPut (d.pool p).bufs i b }

@[simp] theorem Dev.putBuf_buf (d : Dev) (p i : Nat) (b : Buf) : tabFind ((d.putBuf p i b).pool p).bufs i = some b := by
  simp [Dev.putBuf]

/-! ## Handles -/

/-- The pool and buffer whose address a handle is, or why it is the address of none. -/
def handlePlace (h : Nat) : Nat ⊕ (Nat × Nat) :=
  let p := h / 2 ^ 28
  let off := h % 2 ^ 28
  if p == 0 || decide (5 < p) then .inl 1
  else if off % poolSize p != 0 || decide (poolSize p * poolCount p ≤ off) then .inl 2
  else .inr (p, off / poolSize p)

/-- A handle is good where the buffer it addresses is allocated. -/
theorem Dev.handle_eq (d : Dev) (h : Nat) :
    d.handle h = (handlePlace h).elim .inl (fun x => if tabHas (d.pool x.1).bufs x.2 then .inr x else .inl 3) := by
  unfold Dev.handle handlePlace
  dsimp only
  split
  · rfl
  · split
    · rfl
    · rw [Sum.elim_inr]
      cases tabHas (d.pool (h / 2 ^ 28)).bufs (h % 2 ^ 28 / poolSize (h / 2 ^ 28)) <;> rfl

theorem Dev.handle_eq_inr {d : Dev} {h p i : Nat} :
    d.handle h = .inr (p, i) ↔ handlePlace h = .inr (p, i) ∧ tabHas (d.pool p).bufs i = true := by
  rw [Dev.handle_eq]
  cases handlePlace h with
  | inl why => simp
  | inr x =>
    rw [Sum.elim_inr, Sum.inr.injEq]
    constructor
    · intro hif
      split at hif
      · cases hif
        exact ⟨rfl, ‹_›⟩
      · cases hif
    · rintro ⟨rfl, hhas⟩
      rw [if_pos hhas]

/-- The handle of a buffer that is not allocated. -/
theorem Dev.handle_of_free {d : Dev} {h p i : Nat} (hplace : handlePlace h = .inr (p, i)) (hfree : tabFind (d.pool p).bufs i = none) :
    d.handle h = .inl 3 := by
  simp [Dev.handle_eq, hplace, tabHas, hfree]

/-- The address of a buffer is its handle: every pool lies within the 2^28 bytes of its code. -/
theorem handlePlace_of_address {p i : Nat} (hlow : 1 ≤ p) (hhigh : p ≤ 5) (hi : i < poolCount p) :
    handlePlace (p * 2 ^ 28 + i * poolSize p) = .inr (p, i) := by
  have hsize : 0 < poolSize p ∧ poolSize p * poolCount p ≤ 2 ^ 28 := by
    interval_cases p <;> decide
  have hoff : i * poolSize p < poolSize p * poolCount p := by
    rw [Nat.mul_comm]
    exact Nat.mul_lt_mul_of_pos_left hi hsize.1
  have hpool : (p * 2 ^ 28 + i * poolSize p) / 2 ^ 28 = p := by omega
  have hrest : (p * 2 ^ 28 + i * poolSize p) % 2 ^ 28 = i * poolSize p := by omega
  have hcode : ¬ (p = 0 ∨ 5 < p) := by omega
  unfold handlePlace
  simp only [hpool, hrest]
  simp [hcode, Nat.not_le.mpr hoff, Nat.mul_div_cancel _ hsize.1]

/-! ## Allocation -/

/-- The pool of a size holds it, and no smaller one does (R116). -/
theorem poolFor_eq_some {size p : Nat} (h : poolFor size = some p) :
    1 ≤ p ∧ p ≤ 5 ∧ size ≤ poolSize p ∧ ∀ k, 1 ≤ k → k < p → poolSize k < size := by
  have hlist : [1, 2, 3, 4, 5] = List.range' 1 5 := rfl
  unfold poolFor at h
  split at h
  · cases h
  · rw [hlist, List.find?_range'_eq_some] at h
    obtain ⟨hfits, hmem, hsmaller⟩ := h
    obtain ⟨hlow, hhigh⟩ := List.mem_range'_1.mp hmem
    exact ⟨hlow, by omega, by simpa using hfits, fun k hk hkp => by simpa using hsmaller k hk hkp⟩

/-- Everything an allocation that succeeds does: a free buffer of the size's pool is its owner's, with one reference. -/
theorem Dev.hopperAlloc_eq_some {d : Dev} {owner size h : Nat} (ha : (d.hopperAlloc owner size).1 = some h) :
    ∃ p i b, poolFor size = some p ∧ i < poolCount p ∧ tabHas (d.pool p).bufs i = false ∧ b.owner = owner ∧ b.refs = 1 ∧
      h = p * 2 ^ 28 + i * poolSize p ∧ (d.hopperAlloc owner size).2 = (d.putBuf p i b).count 3 (3088 + (p - 1) * 4) := by
  unfold Dev.hopperAlloc at ha ⊢
  cases hp : poolFor size with
  | none => simp [hp] at ha
  | some p =>
    simp only [hp] at ha ⊢
    split at ha
    next i hi =>
      obtain ⟨-, hidx⟩ := Option.ite_none_right_eq_some.mp hi
      obtain ⟨hlt, hfree⟩ : i < poolCount p ∧ tabHas (d.pool p).bufs i = false := by
        have hsome := List.find?_some hidx
        have hmem := List.mem_of_find?_eq_some hidx
        simp only [Bool.and_eq_true, Bool.not_eq_true'] at hsome
        exact ⟨List.mem_range.mp hmem, hsome.1⟩
      exact ⟨p, i, _, rfl, hlt, hfree, rfl, rfl, (Option.some.inj ha).symm, rfl⟩
    next => cases ha

/-! ## References -/

section
variable {d : Dev} {p i : Nat} {b : Buf}

/-- A reference is added below the limit (R117). -/
theorem Dev.addRef_below (requester : Nat) (hb : tabFind (d.pool p).bufs i = some b) (hlimit : b.refs < 65535) :
    d.addRef p i requester = d.putBuf p i { b with
      refs := b.refs + 1, holds := tabPut b.holds requester (tabGet 0 b.holds requester + 1) } := by
  simp only [Dev.addRef, hb, Nat.not_le.mpr hlimit, if_false, Dev.putBuf]

/-- At the limit adding one fails and is counted (R117). -/
theorem Dev.addRef_limit (requester : Nat) (hb : tabFind (d.pool p).bufs i = some b) (hlimit : 65535 ≤ b.refs) :
    d.addRef p i requester = d.count 3 (3091 + (p - 1) * 4) := by
  simp only [Dev.addRef, hb, hlimit, if_true]

/-- Taking fewer references than there are leaves the rest. -/
theorem Dev.dropRefs_more (requester : Nat) {n : Nat} (hb : tabFind (d.pool p).bufs i = some b) (hmore : n < b.refs) :
    ∃ holds, d.dropRefs p i requester n = d.putBuf p i { b with refs := b.refs - n, holds := holds } := by
  simp only [Dev.dropRefs, hb, Nat.not_le.mpr hmore, if_false]
  exact ⟨_, rfl⟩

/-- With its last reference a buffer is freed (R117). -/
theorem Dev.dropRefs_last (requester : Nat) {n : Nat} (hb : tabFind (d.pool p).bufs i = some b) (hlast : b.refs ≤ n) :
    d.dropRefs p i requester n = d.hopperRelease p i := by
  simp only [Dev.dropRefs, hb, hlast, if_true]

@[simp] theorem Dev.hopperRelease_buf (d : Dev) (p i : Nat) : tabFind ((d.hopperRelease p i).pool p).bufs i = none := by
  simp [Dev.hopperRelease, tabFind_del_same]

end

/-! ## The rows -/

section
variable {d : Dev} {h p i why : Nat}

theorem hopperIncStep_good (requester : Nat) (hh : d.handle h = .inr (p, i)) : hopperIncStep requester h d = d.addRef p i requester := by
  simp only [hopperIncStep, hh]

theorem hopperIncStep_bad (requester : Nat) (hh : d.handle h = .inl why) : hopperIncStep requester h d = d.badHandle requester h why := by
  simp only [hopperIncStep, hh]

theorem hopperDecStep_good (requester : Nat) (hh : d.handle h = .inr (p, i)) :
    hopperDecStep requester h d = d.dropRefs p i requester 1 := by
  simp only [hopperDecStep, hh]

theorem hopperDecStep_bad (requester : Nat) (hh : d.handle h = .inl why) : hopperDecStep requester h d = d.badHandle requester h why := by
  simp only [hopperDecStep, hh]

end

theorem runs_hopperAlloc (owner size : Nat) (s : State) : Runs (.hopperAlloc owner size) s (s.dev.hopperAlloc owner size).2 := rfl

theorem runs_hopperRefcountIncrement (requester h : Nat) (s : State) :
    Runs (.hopperRefcountIncrement requester h) s (hopperIncStep requester h s.dev) := rfl

theorem runs_hopperRefcountDecrement (requester h : Nat) (s : State) :
    Runs (.hopperRefcountDecrement requester h) s (hopperDecStep requester h s.dev) := rfl

theorem runs_engineRestartRelease (owner : Nat) (s : State) : Runs (.engineRestartRelease owner) s (s.dev.releaseOwner owner) := rfl

end Sys2Proof.Machine
end

section
/-! The statement about Hopper's handles and references. -/

namespace Sys2Proof.Machine

open Sys2Proof

/-- Settles O33, row by row: an allocation by what it places, a reference by how many its buffer has. -/
theorem hopperHandlesAndReferences : Obligations.HopperHandlesAndReferences := by
  refine ⟨fun s owner size => ⟨runs_hopperAlloc owner size s, fun h ha => ?_⟩, fun s r h p i b hh hb => ?_, fun s r h why hh => ?_,
    fun s owner => runs_engineRestartRelease owner s⟩
  · obtain ⟨p, i, b, hp, hi, hfree, howner, hrefs, rfl, hafter⟩ := Dev.hopperAlloc_eq_some ha
    obtain ⟨hlow, hhigh, hfits, hsmaller⟩ := poolFor_eq_some hp
    have hbuf : tabFind ((s.dev.hopperAlloc owner size).2.pool p).bufs i = some b := by rw [hafter, Dev.count_pool, Dev.putBuf_buf]
    have hhas : tabHas ((s.dev.hopperAlloc owner size).2.pool p).bufs i = true := by rw [tabHas, hbuf, Option.isSome_some]
    exact ⟨p, i, b, Dev.handle_eq_inr.mpr ⟨handlePlace_of_address hlow hhigh hi, hhas⟩, hfree, hi, hfits, hsmaller, hbuf, howner, hrefs⟩
  · have hinc := runs_hopperRefcountIncrement r h s
    have hdec := runs_hopperRefcountDecrement r h s
    rw [hopperIncStep_good r hh] at hinc
    rw [hopperDecStep_good r hh] at hdec
    refine ⟨fun hlimit => ?_, fun hlimit => ?_, fun hmore => ?_, fun hlast => ?_⟩
    · rw [Dev.addRef_below r hb hlimit] at hinc
      exact ⟨_, _, hinc, Dev.putBuf_buf .., rfl, rfl⟩
    · exact Dev.addRef_limit r hb hlimit ▸ hinc
    · obtain ⟨holds, hdrop⟩ := Dev.dropRefs_more r hb hmore
      rw [hdrop] at hdec
      exact ⟨_, _, hdec, Dev.putBuf_buf .., rfl, rfl⟩
    · rw [Dev.dropRefs_last r hb hlast] at hdec
      exact ⟨_, hdec, Dev.hopperRelease_buf .., Dev.handle_of_free (Dev.handle_eq_inr.mp hh).1 (Dev.hopperRelease_buf ..)⟩
  · have hinc := runs_hopperRefcountIncrement r h s
    have hdec := runs_hopperRefcountDecrement r h s
    rw [hopperIncStep_bad r hh] at hinc
    rw [hopperDecStep_bad r hh] at hdec
    exact ⟨hinc, hdec⟩

end Sys2Proof.Machine
end

section
/-! SUPPORT. Payloads of one field, and answers that are a list of records (R1, R2). -/

namespace Sys2Proof.Machine

open Sys2Proof

theorem le_lt (bs : Bytes) (off n : Nat) : le bs off n < 256 ^ n := by
  induction n generalizing off with
  | zero => simp [le]
  | succ n ih =>
    have hbyte : byteAt bs off < 256 := (bs.getD off 0).isLt
    have hrest := ih (off + 1)
    rw [le, Nat.pow_succ]
    omega

/-- A payload that is one field of any value passes every check but that of its length. -/
theorem layoutOk_whole {bs : Bytes} {n : Nat} (hlen : bs.length = n) : layoutOk [fa 0 n] bs = true := by
  have hvalue : le bs 0 n ≤ 256 ^ n - 1 := Nat.le_pred_of_lt (le_lt bs 0 n)
  have hcovered : bs.zipIdx.all (fun p => p.1 == 0 || fldCovers [fa 0 n] p.2) = true := by
    rw [List.all_eq_true]
    rintro ⟨x, i⟩ hx
    have hi : i < n := hlen ▸ List.snd_lt_of_mem_zipIdx hx
    simp [fldCovers, fa, hi]
  rw [layoutOk, hcovered]
  simp [fldOk, fa, hvalue]

/-- A field at the head of a record, in a list of records of one length. -/
theorem le_flatMap_record {α : Type} {f : α → Bytes} {n m : Nat} (hf : ∀ x, (f x).length = n) (hm : m ≤ n) (l : List α) {k : Nat}
    (hk : k < l.length) : le (l.flatMap f) (n * k) m = le (f l[k]) 0 m := by
  induction l generalizing k with
  | nil => cases hk
  | cons x l ih =>
    rw [List.flatMap_cons]
    cases k with
    | zero => exact le_append_left _ (by rw [hf]; omega)
    | succ k =>
      rw [le_append_right _ _ (by rw [hf, Nat.mul_succ]; omega), hf, Nat.mul_succ, Nat.add_sub_cancel]
      exact ih (Nat.lt_of_succ_lt_succ hk)

end Sys2Proof.Machine
end

section
/-! SUPPORT. What the fabric's immediate commands answer (chapter 04). -/

namespace Sys2Proof.Machine

open Sys2Proof

/-! ## FAB_CAPTURE_ACK -/

/-- The ring once a record boundary is acknowledged (R111). -/
def CaptureRing.acknowledge (c : CaptureRing) (now v : Nat) : CaptureRing :=
  { c with
    readOff := v, bounds := if v == c.readOff then c.bounds else (c.bounds.dropWhile (fun x => x != v)).drop 1
    fullPosted := false, acked := some (now, c.judgedBy now) }

/-- FAB_CAPTURE_ACK's work. -/
def fabCaptureAckBody (d : Dev) (v : Nat) : Ans :=
  if !d.fabric.capture.enable || d.fabric.capture.wrap then ansErr d stWrongMode
  else if v != d.fabric.capture.readOff && !d.fabric.capture.bounds.contains v then ansErr d stBadParam
  else ansOk { d with fabric := { d.fabric with capture := d.fabric.capture.acknowledge d.uptime v } } []

theorem exec_fabCaptureAck (rq : Req) (s : State) : exec (.fabCaptureAck rq) s =
    onDev (Dev.serve 0x0304 rq (rspMax 0) (fun d _ bs => withLayout d 4 [fa 0 4] bs (fabCaptureAckBody d (le bs 0 4)))) s := rfl

theorem fabCaptureAckBody_boundary {d : Dev} {v : Nat} (hen : d.fabric.capture.enable = true) (hstop : d.fabric.capture.wrap = false)
    (hv : v = d.fabric.capture.readOff ∨ v ∈ d.fabric.capture.bounds) :
    fabCaptureAckBody d v = ansOk { d with fabric := { d.fabric with capture := d.fabric.capture.acknowledge d.uptime v } } [] := by
  have hmode : (!d.fabric.capture.enable || d.fabric.capture.wrap) = false := by simp [hen, hstop]
  have hknown : (v != d.fabric.capture.readOff && !d.fabric.capture.bounds.contains v) = false := by
    rcases hv with hv | hv <;> simp [hv]
  simp only [fabCaptureAckBody, hmode, hknown, Bool.false_eq_true, if_false]

/-! ## FAB_LAG_STATUS -/

/-- FAB_LAG_STATUS's response: the map's mask, the open fences, and what is said of each of the 256 buckets. -/
def lagReport (l : Lag) (entry : Nat → Nat) : Bytes :=
  leb 1 (distMask l l.dist) ++ zeros 1 ++ leb 2 l.fences.length ++ (List.range 256).flatMap (fun b => leb 1 (entry b))

section
variable (l : Lag) (entry : Nat → Nat)

theorem lagReport_length : (lagReport l entry).length = 260 := by
  simp [lagReport, length_flatMap_of_const _ _ 1]

theorem lagReport_mask : byteAt (lagReport l entry) 0 = distMask l l.dist % 256 := by
  simp [lagReport, byteAt_append]

theorem lagReport_fences : le (lagReport l entry) 2 2 = l.fences.length % 65536 := by
  unfold lagReport
  rw [le_append_left _ (by simp), le_append_right _ _ (by simp)]
  simpa using le_leb 2 l.fences.length

end

/-! ## FAB_HOPPER_STATUS -/

/-- What FAB_HOPPER_STATUS says of a pool: free buffers, those reserved, and those the host holds. -/
def Dev.poolReport (d : Dev) (p : Nat) : Bytes :=
  leb 2 (poolCount p - (d.pool p).bufs.length) ++ leb 2 (reservedSum (d.pool p)) ++ leb 2 (heldBy (d.pool p) 9) ++ zeros 2

theorem Dev.poolReport_length (d : Dev) (p : Nat) : (d.poolReport p).length = 8 := by simp [Dev.poolReport]

theorem Dev.poolReport_free (d : Dev) (p : Nat) : le (d.poolReport p) 0 2 = (poolCount p - (d.pool p).bufs.length) % 65536 := by
  simp only [Dev.poolReport, List.append_assoc]
  exact le_leb_append 2 _ _

/-- FAB_HOPPER_STATUS's response. -/
def Dev.poolReports (d : Dev) : Bytes := (List.range' 1 5).flatMap d.poolReport

theorem Dev.poolReports_length (d : Dev) : d.poolReports.length = 40 :=
  length_flatMap_of_const _ _ 8 (fun p _ => d.poolReport_length p)

theorem Dev.poolReports_free (d : Dev) {k : Nat} (hk : k < 5) :
    le d.poolReports (8 * k) 2 = (poolCount (k + 1) - (d.pool (k + 1)).bufs.length) % 65536 := by
  have hentry := le_flatMap_record d.poolReport_length (m := 2) (by decide) (List.range' 1 5) (k := k) (by simpa using hk)
  rw [List.getElem_range', Nat.one_mul, Nat.add_comm] at hentry
  exact hentry.trans (d.poolReport_free _)

/-! ## FAB_HOPPER_ALLOC and FAB_HOPPER_FREE -/

/-- FAB_HOPPER_ALLOC's work. -/
def fabHopperAllocBody (d : Dev) (size : Nat) : Ans :=
  match (d.hopperAlloc 9 size).1 with
  | some h => ansOk (d.hopperAlloc 9 size).2 (leb 4 h)
  | none => ansErrD (d.hopperAlloc 9 size).2 stNoResource ((poolFor size).getD 0)

theorem exec_fabHopperAlloc (rq : Req) (s : State) : exec (.fabHopperAlloc rq) s =
    onDev (Dev.serve 0x0309 rq (rspMax 4) (fun d _ bs => withLayout d 4 [fr 0 2 1 10240] bs (fabHopperAllocBody d (le bs 0 2)))) s := rfl

theorem fabHopperAllocBody_some {d : Dev} {size h : Nat} (ha : (d.hopperAlloc 9 size).1 = some h) :
    fabHopperAllocBody d size = ansOk (d.hopperAlloc 9 size).2 (leb 4 h) := by
  simp only [fabHopperAllocBody, ha]

/-- FAB_HOPPER_FREE's work. -/
def fabHopperFreeBody (d : Dev) (h : Nat) : Ans :=
  match d.handle h with
  | .inl r => ansErr (d.noteBadHandle 9 h r) stBadParam
  | .inr (p, i) =>
    match tabFind (d.pool p).bufs i with
    | none => ansErr d stBadParam
    | some b => if b.owner == 9 then ansOk (d.dropRefs p i 9 1) (leb 2 (b.refs - 1) ++ zeros 2) else ansErr d stNotPermitted

theorem exec_fabHopperFree (rq : Req) (s : State) : exec (.fabHopperFree rq) s =
    onDev (Dev.serve 0x030A rq (rspMax 4) (fun d _ bs => withLayout d 4 [fa 0 4] bs (fabHopperFreeBody d (le bs 0 4)))) s := rfl

section
variable {d : Dev} {h p i why : Nat} {b : Buf}

theorem fabHopperFreeBody_bad (hh : d.handle h = .inl why) :
    fabHopperFreeBody d h = ansErr (d.noteBadHandle 9 h why) stBadParam := by
  simp only [fabHopperFreeBody, hh]

theorem fabHopperFreeBody_own (hh : d.handle h = .inr (p, i)) (hb : tabFind (d.pool p).bufs i = some b) (howner : b.owner = 9) :
    fabHopperFreeBody d h = ansOk (d.dropRefs p i 9 1) (leb 2 (b.refs - 1) ++ zeros 2) := by
  simp only [fabHopperFreeBody, hh, hb, howner, beq_self_eq_true, if_true]

theorem fabHopperFreeBody_other (hh : d.handle h = .inr (p, i)) (hb : tabFind (d.pool p).bufs i = some b) (howner : b.owner ≠ 9) :
    fabHopperFreeBody d h = ansErr d stNotPermitted := by
  simp only [fabHopperFreeBody, hh, hb, beq_eq_false_iff_ne.mpr howner, Bool.false_eq_true, if_false]

end

/-! ## FAB_QUEUE_STATUS -/

/-- FAB_QUEUE_STATUS's response. -/
def Dev.queueReport (d : Dev) (p : Nat) : Bytes :=
  leb 4 (portCells d.fabric.frames p) ++ leb 4 (d.commonUsed d.fabric.frames) ++
    (List.range 8).flatMap (fun c => leb 4 (queueClass d.fabric.frames p c).1) ++
    (List.range 8).flatMap (fun c => leb 4 (queueClass d.fabric.frames p c).2)

theorem Dev.queueReport_length (d : Dev) (p : Nat) : (d.queueReport p).length = 72 := by
  simp [Dev.queueReport, length_flatMap_of_const _ _ 4]

theorem Dev.queueReport_port (d : Dev) (p : Nat) : le (d.queueReport p) 0 4 = portCells d.fabric.frames p % 2 ^ 32 := by
  simp only [Dev.queueReport, List.append_assoc]
  exact le_leb_append 4 _ _

theorem Dev.queueReport_common (d : Dev) (p : Nat) : le (d.queueReport p) 4 4 = d.commonUsed d.fabric.frames % 2 ^ 32 := by
  simp only [Dev.queueReport, List.append_assoc]
  rw [le_append_right _ _ (by simp)]
  simpa using le_leb_append 4 (d.commonUsed d.fabric.frames) _

end Sys2Proof.Machine
end

section
/-! The statement about the fabric's immediate commands. -/

namespace Sys2Proof.Machine

open Sys2Proof

/-- Settles O35, command by command. -/
theorem fabricCommandsComplete : Obligations.FabricCommandsComplete := by
  refine ⟨?_, ?_, ?_, ?_, ?_, ?_, ?_, ?_⟩
  · refine completes_of_body exec_fabCaptureAck ?_
    rintro d rq bs ⟨hlen, hen, hstop, hbound⟩
    exact ⟨_, [], (withLayout_ok _ hlen (layoutOk_whole hlen)).trans (fabCaptureAckBody_boundary hen hstop hbound), rfl, _, rfl, rfl, rfl,
      rfl, rfl⟩
  · refine completes_of_body (fun _ _ => rfl) ?_
    rintro d rq bs ⟨hlen, hok⟩
    exact ⟨d, lagReport (tabGet lag0 d.fabric.lags (byteAt bs 0)) _, (withLayout_ok _ hlen hok).trans rfl, rfl, lagReport_length _ _,
      lagReport_mask _ _, lagReport_fences _ _⟩
  · refine completes_of_body (fun _ _ => rfl) ?_
    rintro d rq bs rfl
    exact ⟨d, d.poolReports, (withLayout_ok _ rfl rfl).trans rfl, rfl, d.poolReports_length, fun k hk => d.poolReports_free hk⟩
  · refine completes_of_body exec_fabHopperAlloc ?_
    rintro d rq bs ⟨hlen, hok, hsome⟩
    obtain ⟨h, ha⟩ := Option.isSome_iff_exists.mp hsome
    exact ⟨_, _, (withLayout_ok _ hlen hok).trans (fabHopperAllocBody_some ha), rfl, h, ha, rfl⟩
  · refine completes_of_body exec_fabHopperFree ?_
    rintro d rq bs ⟨hlen, p, i, b, hh, hb, howner⟩
    exact ⟨_, _, (withLayout_ok _ hlen (layoutOk_whole hlen)).trans (fabHopperFreeBody_own hh hb howner), p, i, b, hh, hb, rfl,
      le_leb_append 2 _ _, by simp⟩
  · refine refuses_of_body (by decide) exec_fabHopperFree ?_
    rintro d rq bs ⟨hlen, p, i, b, hh, hb, howner⟩
    exact (withLayout_ok _ hlen (layoutOk_whole hlen)).trans (fabHopperFreeBody_other hh hb howner)
  · intro s rq t d r why hadm hlen hh
    rw [Runs, exec_fabHopperFree, onDev, Dev.serve_refused hadm
      ((withLayout_ok _ hlen (layoutOk_whole hlen)).trans (fabHopperFreeBody_bad hh)) (by decide)]
  · refine completes_of_body (fun _ _ => rfl) ?_
    rintro d rq bs ⟨hlen, hok⟩
    exact ⟨d, d.queueReport (byteAt bs 0), (withLayout_ok _ hlen hok).trans rfl, rfl, d.queueReport_length _, d.queueReport_port _,
      d.queueReport_common _⟩

end Sys2Proof.Machine
end

section
/-! SUPPORT. The pipeline's steps: a frame classified, a frame's valid end, one cell of a recirculated frame (R124, R125, R149,
R152). -/

namespace Sys2Proof.Machine

open Sys2Proof

section
variable {d : Dev} {sl : Nat}

theorem frameClassify_fifo {a : Arrived} {rest : List Arrived} (h : d.fifoNext sl = some (a, rest)) :
    frameClassify (.fifo sl) d = Dev.classify { d with fabric := { d.fabric with fifos := tabPut d.fabric.fifos sl rest } } a := by
  simp only [frameClassify, h]

theorem frameClassify_fifo_empty (h : tabGet [] d.fabric.fifos sl = []) : frameClassify (.fifo sl) d = d := by
  simp only [frameClassify, Dev.fifoNext, h]

end

section
variable {d : Dev} {id : Nat} {p : PendEnd}

/-- A frame that waits for its verdict alone. -/
theorem validEnd_verdict {v : Verdict} (hp : d.lauter.ends.find? (fun p => p.id == id && !p.receiving && !p.heldAtL0 d) = some p)
    (hstream : p.stream = none) (hlearn : p.learn = none) (hv : p.verdict = some v) :
    validEnd id d = Dev.settleVerdict { d with lauter := { d.lauter with ends := d.lauter.ends.filter (fun q => q.id != id) } }
      p.frame.bytes { v with info := { v.info with arrival := p.frame.arrival } } := by
  simp only [validEnd, hp, hstream, hlearn, hv]

theorem validEnd_stream {h : Nat} {e : Stream}
    (hp : d.lauter.ends.find? (fun p => p.id == id && !p.receiving && !p.heldAtL0 d) = some p) (hstream : p.stream = some (h, e)) :
    validEnd id d = Dev.streamEnd { d with lauter := { d.lauter with ends := d.lauter.ends.filter (fun q => q.id != id) } }
      p.frame (grist p.frame.bytes) h e := by
  simp only [validEnd, hp, hstream]

theorem validEnd_none (hp : d.lauter.ends.find? (fun p => p.id == id && !p.receiving && !p.heldAtL0 d) = none) : validEnd id d = d := by
  simp only [validEnd, hp]

end

section
variable {d : Dev} {id n : Nat} {f : Stored}

theorem recircMove_more (hr : d.fabric.recirc = some (id, n)) (hf : d.stored id = some f) (hmore : n + 1 < f.cells) :
    recircMove d = { d with fabric := { d.fabric with recirc := some (id, n + 1) } } := by
  simp only [recircMove, hr, hf, Nat.not_le.mpr hmore, if_false]

theorem recircMove_last (hr : d.fabric.recirc = some (id, n)) (hf : d.stored id = some f) (hlast : f.cells ≤ n + 1) :
    recircMove d = Dev.recircDone { d with fabric := { d.fabric with recirc := none } } f := by
  simp only [recircMove, hr, hf, hlast, if_true]

end

/-- P93's head frame goes into a ring that has room, by the transfer of the capture writer (R110). -/
theorem captureWrite_granted {d : Dev} {x : Stored × Copy} {c : CaptureRing} {a : Arbiter} (hx : d.internalHead 93 = some x)
    (hen : d.fabric.capture.enable = true) (hpasses : d.passes 93 x = true)
    (hc : d.fabric.capture.place d.uptime (d.captureRecord x.1 x.2) = some c) (ha : d.free.2.granted 14 64 d.free.1 = some a) :
    captureWrite d =
      let e := Dev.passOut { d.free.2 with arb := a } 93 x
      Dev.count { e with fabric := { e.fabric with capture := c } } 3 3076 := by
  have hgo : (!d.fabric.capture.enable || !d.passes 93 x) = false := by simp [hen, hpasses]
  simp only [captureWrite, hx, hgo, Bool.false_eq_true, if_false, hc, Dev.transfer, Dev.transferBy_granted ha]

end Sys2Proof.Machine
end

section
/-! SUPPORT. Matching and cut-through: what staging leaves of every frame, and when a frame that is being received starts (R99,
R105). -/

namespace Sys2Proof.Machine

open Sys2Proof

theorem modFirst_length (test : Copy → Bool) (f : Copy → Copy) (l : List Copy) : (modFirst test f l).length = l.length := by
  induction l with
  | nil => rfl
  | cons k l ih =>
    unfold modFirst
    split
    · rfl
    · rw [List.length_cons, ih, List.length_cons]

/-- What staging leaves of a frame: its number, its bytes, its cells and how many copies it has. -/
def Stored.outline (f : Stored) : Nat × Bytes × Nat × Nat := (f.id, f.bytes, f.cells, f.copies.length)

theorem stageHead_outline (acc : List Stored × Nat) (x : Nat × Nat × Nat) :
    (stageHead acc x).1.map Stored.outline = acc.1.map Stored.outline := by
  unfold stageHead
  split
  · rfl
  · rw [List.map_map]
    refine List.map_congr_left fun f _ => ?_
    rw [Function.comp_apply]
    split
    · simp [Stored.outline, modFirst_length]
    · rfl

theorem foldl_stageHead_outline (l : List (Nat × Nat × Nat)) (acc : List Stored × Nat) :
    (l.foldl stageHead acc).1.map Stored.outline = acc.1.map Stored.outline := by
  induction l generalizing acc with
  | nil => rfl
  | cons x l ih => rw [List.foldl_cons, ih, stageHead_outline]

theorem matchingSlot_outline (d : Dev) : (matchingSlot d).fabric.frames.map Stored.outline = d.fabric.frames.map Stored.outline :=
  foldl_stageHead_outline _ _

/-- MATCHING_SLOT changes the stored frames, the next place in a stage and the pointers alone. -/
theorem matchingSlot_frame (d : Dev) : matchingSlot d = { d with fabric := { d.fabric with
    frames := (matchingSlot d).fabric.frames, nextStage := (matchingSlot d).fabric.nextStage
    gptr := (matchingSlot d).fabric.gptr, aptr := (matchingSlot d).fabric.aptr } } := rfl

/-- A change that keeps a frame's number, found by that number. -/
theorem Dev.modStored_stored (d : Dev) (id : Nat) {F : Stored → Stored} (hF : ∀ g, (F g).id = g.id) :
    (d.modStored id F).stored id = (d.stored id).map F := by
  have htest : ((fun f : Stored => f.id == id) ∘ fun g => if g.id == id then F g else g) = fun f => f.id == id := by
    funext g
    rw [Function.comp_apply]
    split <;> simp [hF]
  change (d.fabric.frames.map _).find? _ = _
  rw [List.find?_map, htest]
  refine Option.map_congr fun g hg => ?_
  rw [if_pos (List.find?_some hg)]

section
variable {d : Dev} {port id : Nat} {f : Stored} {k : Copy}

theorem Dev.stageCut_of_staged (h : k.staged = true) : d.stageCut id k = (k, d) := by
  simp only [Dev.stageCut, h, if_true]

theorem Dev.stageCut_stored (hf : d.stored id = some f) : ∃ g, (d.stageCut id k).2.stored id = some g := by
  unfold Dev.stageCut
  split
  · exact ⟨f, hf⟩
  · extract_lets k1 d1
    have hd1 : d1.stored id = (d.stored id).map (fun g => { g with copies := modFirst (fun j => decide (j = k)) (fun _ => k1) g.copies }) :=
      d.modStored_stored id (fun _ => rfl)
    rw [hf] at hd1
    exact ⟨_, hd1⟩

/-- Everything that a cut-through start waits for is there: the copy, staged, leaves its queue (R105). -/
theorem cutThroughStart_starts (hcut : tabFind d.fabric.cutting port = some id) (hf : d.stored id = some f)
    (hk : f.copies.find? (fun k => k.kind == 0 && !k.started) = some k) (hruns : d.portRuns k.port = true)
    (hmay : d.maySend k.port f = true) (hidle : tabHas d.fabric.sending k.port = false)
    (hwhole : tabHas d.fabric.preempted k.port = false) (hfence : k.fenced = none) (hactive : d.preemptActive k.port = false)
    (hgate : bit (d.gateVector k.port) k.tc = true) (hfits : d.fitsWindow k.port k.tc (d.egressLen f k) = true)
    (hshaper : (d.shaper k.port k.tc).enable = false) {g : Stored} (hg : (d.stageCut id k).2.stored id = some g) :
    cutThroughStart port d = (d.stageCut id k).2.dequeue k.port (g, (d.stageCut id k).1) := by
  simp only [cutThroughStart, hcut, hf, hk, hruns, hmay, hidle, hwhole, hfence, hactive, hgate, hfits, hshaper, hg, Bool.not_true,
    Bool.or_self, Bool.false_and, Option.isSome_none, Bool.false_eq_true, if_false]

end

end Sys2Proof.Machine
end

section
/-! SUPPORT. Aggregation groups: recomputing a map leaves what is known of the members' partners (R112 to R115). -/

namespace Sys2Proof.Machine

open Sys2Proof

theorem tabFind_map {α : Type} (t : Tab α) (f : Nat → α → α) (i : Nat) : tabFind (tabMap t f) i = (tabFind t i).map (f i) := by
  induction t with
  | nil => rfl
  | cons e t ih =>
    obtain ⟨k, v⟩ := e
    rw [tabMap, List.map_cons, tabFind, tabFind]
    split
    · subst_vars
      rfl
    · exact ih

/-- Every group is still there, and what is known of its members' partners is as before. -/
def Dev.KeepsPartners (d d' : Dev) : Prop :=
  ∀ g l, tabFind d.fabric.lags g = some l → ∃ l', tabFind d'.fabric.lags g = some l' ∧ l'.partner = l.partner

theorem Dev.KeepsPartners.trans {a b c : Dev} (h1 : a.KeepsPartners b) (h2 : b.KeepsPartners c) : a.KeepsPartners c := by
  intro g l hl
  obtain ⟨l1, hl1, hp1⟩ := h1 g l hl
  obtain ⟨l2, hl2, hp2⟩ := h2 g l1 hl1
  exact ⟨l2, hl2, hp2.trans hp1⟩

theorem Dev.keepsPartners_of_lags {d d' : Dev} (h : d'.fabric.lags = d.fabric.lags) : d.KeepsPartners d' := fun _ l hl =>
  ⟨l, by rw [h, hl], rfl⟩

theorem Dev.KeepsPartners.refl (d : Dev) : d.KeepsPartners d := Dev.keepsPartners_of_lags rfl

theorem Dev.Posts.keepsPartners {d d' : Dev} (h : d.Posts d') : d.KeepsPartners d' := Dev.keepsPartners_of_lags (by rw [h.fabric])

theorem Dev.KeepsPartners.foldl {α : Type} {f : Dev → α → Dev} (hf : ∀ (e : Dev) x, e.KeepsPartners (f e x)) (l : List α) (d : Dev) :
    d.KeepsPartners (l.foldl f d) := List.foldlRecOn l f (.refl d) (fun e h x _ => h.trans (hf e x))

/-- A group replaced by one with the same partners. -/
theorem Dev.keepsPartners_of_put {d d' : Dev} {g : Nat} {l l' : Lag} (hl : tabFind d.fabric.lags g = some l)
    (hput : d'.fabric.lags = tabPut d.fabric.lags g l') (hpartner : l'.partner = l.partner) : d.KeepsPartners d' := by
  intro k m hm
  rw [hput]
  by_cases hk : k = g
  · subst hk
    cases hl.symm.trans hm
    exact ⟨l', tabFind_put_same .., hpartner⟩
  · exact ⟨m, (tabFind_put_other _ _ _ _ hk).trans hm, rfl⟩

theorem Dev.keepsPartners_levelCheck (d : Dev) : d.KeepsPartners d.levelCheck := by
  have hpost : ∀ (high : Bool) (data : Nat),
      d.KeepsPartners (({ d with fabric := { d.fabric with levelHigh := high } } : Dev).post 0x0301 0 data) := fun high data =>
    .trans (b := { d with fabric := { d.fabric with levelHigh := high } }) (Dev.keepsPartners_of_lags rfl)
      (Dev.posts_post _ _ _ _).keepsPartners
  unfold Dev.levelCheck
  dsimp only
  split
  · exact hpost true 1
  · split
    · exact hpost false 0
    · exact .refl d

theorem Dev.lags_foldl {α : Type} {f : Dev → α → Dev} (hf : ∀ e x, (f e x).fabric.lags = e.fabric.lags) (l : List α) (d : Dev) :
    (l.foldl f d).fabric.lags = d.fabric.lags :=
  List.foldlRecOn (motive := fun e => e.fabric.lags = d.fabric.lags) l f rfl (fun e h x _ => (hf e x).trans h)

theorem Dev.keepsPartners_sweepGroup (d : Dev) (g : Nat) : d.KeepsPartners (d.sweepGroup g) := by
  unfold Dev.sweepGroup
  split
  · exact .refl d
  next l hl =>
    extract_lets fs gone d1
    have hd1 : d1.fabric.lags = d.fabric.lags := Dev.lags_foldl (by intro _ _; rfl) gone d
    have hl1 : tabFind d1.fabric.lags g = some l := by rw [hd1, hl]
    exact (Dev.keepsPartners_of_lags hd1).trans (Dev.keepsPartners_of_put hl1 rfl rfl)

theorem Dev.keepsPartners_settleFabric (d : Dev) : d.KeepsPartners d.settleFabric := by
  have hunoffered : d.KeepsPartners d.unoffered := Dev.keepsPartners_of_lags rfl
  rw [Dev.settleFabric_eq]
  exact (hunoffered.trans (.foldl Dev.keepsPartners_sweepGroup _ _)).trans (Dev.keepsPartners_levelCheck _)

theorem Dev.keepsPartners_lagRemap (d : Dev) (g : Nat) : d.KeepsPartners (d.lagRemap g) := by
  unfold Dev.lagRemap
  split
  · exact .refl d
  next l hl =>
    extract_lets new moved fences old d1
    split
    · exact .refl d
    · have hd1 : d.KeepsPartners d1 := Dev.keepsPartners_of_put hl rfl rfl
      have hposts := (Dev.posts_countN d1 3 3079 moved.length).trans (Dev.posts_post _ 0x0302 g (distMask l new))
      exact (hd1.trans hposts.keepsPartners).trans (Dev.keepsPartners_settleFabric _)

theorem Dev.keepsPartners_lagPort (d : Dev) (p : Nat) : d.KeepsPartners (d.lagPort p) := by
  refine .foldl (fun e x => ?_) _ d
  split
  · exact e.keepsPartners_lagRemap x.1
  · exact .refl e

section
variable {d : Dev} {g port : Nat} {l : Lag} {m : Nat × Nat}

/-- A member's LACPDU gives its partner's state (R112). -/
theorem lacpduReceived_partner (dist : Bool) (hl : tabFind d.fabric.lags g = some l) (hm : l.members.find? (fun m => m.2 == port) = some m)
    (hlacp : bit l.lacp 0 = true) : ∃ l', tabFind (lacpduReceived port dist d).fabric.lags g = some l' ∧
      tabGet 7 l'.partner m.1 = b2n dist := by
  unfold lacpduReceived
  extract_lets old d1
  obtain ⟨l1, hl1, hp1⟩ : ∃ l1, tabFind d1.fabric.lags g = some l1 ∧ l1.partner = tabPut l.partner m.1 (b2n dist) := by
    simp [d1, tabFind_map, hl, hm, hlacp]
  obtain ⟨l', hl', hp'⟩ := d1.keepsPartners_lagPort port g l1 hl1
  exact ⟨l', hl', by rw [hp', hp1, tabGet_put_same]⟩

/-- Partner information that has expired says that the partner does not distribute (R112). -/
theorem lacpTimeout_partner {t : Nat} (hl : tabFind d.fabric.lags g = some l) (hm : l.members.find? (fun m => m.2 == port) = some m)
    (ht : tabFind l.partnerDeadline m.1 = some t) (hover : t < d.uptime) :
    ∃ l', tabFind (lacpTimeout port d).fabric.lags g = some l' ∧ tabGet 7 l'.partner m.1 = 0 := by
  unfold lacpTimeout
  extract_lets old d1
  obtain ⟨l1, hl1, hp1⟩ : ∃ l1, tabFind d1.fabric.lags g = some l1 ∧ l1.partner = tabPut l.partner m.1 0 := by
    simp [d1, tabFind_map, hl, hm, ht, Dev.overO, Dev.over, hover]
  obtain ⟨l', hl', hp'⟩ := d1.keepsPartners_lagPort port g l1 hl1
  exact ⟨l', hl', by rw [hp', hp1, tabGet_put_same]⟩

/-- FENCE_TIMEOUT takes the fences that are due out of the group (R115). -/
theorem fenceTimeout_lag (b : Nat) (hl : tabFind d.fabric.lags g = some l) : tabFind (fenceTimeout g b d).fabric.lags g =
    some { l with fences := l.fences.filter (fun f => !(f.bucket == b && d.over f.deadline)) } := by
  simp only [fenceTimeout, hl]
  rw [Dev.lags_foldl]
  · exact tabFind_put_same ..
  · exact fun _ _ => rfl

end

end Sys2Proof.Machine
end

section
/-! The statement about the fabric's events. -/

namespace Sys2Proof.Machine

open Sys2Proof

theorem runs_frameClassify (src : ClassifySrc) (s : State) : Runs (.frameClassify src) s (frameClassify src s.dev) := rfl
theorem runs_frameValidEnd (id : Nat) (s : State) : Runs (.frameValidEnd id) s (validEnd id s.dev) := rfl
theorem runs_matchingSlot (s : State) : Runs .matchingSlot s (matchingSlot s.dev) := rfl
theorem runs_cutThroughStart (port point : Nat) (s : State) :
    Runs (.cutThroughStart port point) s (cutThroughStart port (s.dev.atPoint point)) := rfl
theorem runs_recircReaderMove (s : State) : Runs .recircReaderMove s (recircMove s.dev) := rfl
theorem runs_captureRecordWrite (s : State) : Runs .captureRecordWrite s (captureWrite s.dev) := rfl
theorem runs_lacpduReceived (port : Nat) (dist : Bool) (s : State) :
    Runs (.lacpduReceived port dist) s (lacpduReceived port dist s.dev) := rfl
theorem runs_lacpPartnerTimeout (port : Nat) (s : State) : Runs (.lacpPartnerTimeout port) s (lacpTimeout port s.dev) := rfl
theorem runs_fenceTimeout (g b : Nat) (s : State) : Runs (.fenceTimeout g b) s (fenceTimeout g b s.dev) := rfl

/-- Settles O34, event by event. -/
theorem fabricEventsMoveFrames : Obligations.FabricEventsMoveFrames := by
  refine ⟨fun s sl a rest h => ?_, fun s sl h => ?_, fun s f => runs_frameClassify (.arriving f) s,
    fun s id p v hp hstream hlearn hv => ?_, fun s id p h e hp hstream => ?_, fun s id hp => ?_,
    fun s => ⟨_, runs_matchingSlot s, matchingSlot_frame s.dev, matchingSlot_outline s.dev⟩, ?_,
    fun s id n f hr hf => ⟨fun hmore => ?_, fun hlast => ?_⟩, fun s x c hx hen hpasses hc a ha => ⟨_, rfl, ?_⟩,
    fun s port g l m hlags hm => ?_⟩
  · exact frameClassify_fifo h ▸ runs_frameClassify (.fifo sl) s
  · have hrun := runs_frameClassify (.fifo sl) s
    rwa [frameClassify_fifo_empty h] at hrun
  · exact validEnd_verdict hp hstream hlearn hv ▸ runs_frameValidEnd id s
  · exact validEnd_stream hp hstream ▸ runs_frameValidEnd id s
  · have hrun := runs_frameValidEnd id s
    rwa [validEnd_none hp] at hrun
  · intro s port point id f k e hcut hf hk hruns hmay hidle hwhole hfence hactive hgate hfits hshaper
    have hrun := runs_cutThroughStart port point s
    have hstart {g : Stored} (hg : (e.stageCut id k).2.stored id = some g) :=
      cutThroughStart_starts hcut hf hk hruns hmay hidle hwhole hfence hactive hgate hfits hshaper hg
    refine ⟨fun hstaged => ?_, fun _ => ?_⟩
    · have hsame := Dev.stageCut_of_staged (d := e) (id := id) hstaged
      have hleaves := hstart (g := f) (by rw [hsame, hf])
      rw [hsame] at hleaves
      exact hleaves ▸ hrun
    · obtain ⟨g, hg⟩ := Dev.stageCut_stored (k := k) hf
      exact ⟨g, hg, hstart hg ▸ hrun⟩
  · exact recircMove_more hr hf hmore ▸ runs_recircReaderMove s
  · exact recircMove_last hr hf hlast ▸ runs_recircReaderMove s
  · exact captureWrite_granted hx hen hpasses hc ha ▸ runs_captureRecordWrite s
  · have hl : tabFind s.dev.fabric.lags g = some l := by rw [hlags, tabFind, if_pos rfl]
    refine ⟨fun dist hlacp => ?_, fun t ht hover => ?_, fun b e _ => ?_⟩
    · obtain ⟨l', hl', hpartner⟩ := lacpduReceived_partner dist hl hm hlacp
      exact ⟨_, l', runs_lacpduReceived port dist s, hl', hpartner⟩
    · obtain ⟨l', hl', hpartner⟩ := lacpTimeout_partner hl hm ht hover
      exact ⟨_, l', runs_lacpPartnerTimeout port s, hl', hpartner⟩
    · exact ⟨_, _, runs_fenceTimeout g b s, fenceTimeout_lag b hl, rfl⟩

end Sys2Proof.Machine
end

section
/-! SUPPORT. Flushes and reads of a table: what is left, and what is answered (chapter 05). -/

namespace Sys2Proof.Machine

open Sys2Proof

/-- As `completes_of_body`, of a command whose checks depend on the form of its request: the most that one read may ask for is
larger in a bulk response. -/
theorem completes_of_reqBody {mk : Req → Instr} {op : Nat} {most : Dev → Bytes → Nat} {body : Req → Dev → Nat → Bytes → Ans}
    {good : Dev → Req → Bytes → Prop} {result : Dev → Req → Bytes → Dev → Bytes → Prop}
    (hexec : ∀ rq s, exec (mk rq) s = onDev (Dev.serve op rq most (body rq)) s)
    (hbody : ∀ d rq bs, good d rq bs → ∃ d' pl, body rq d rq.ch bs = ansOk d' pl ∧ result d rq bs d' pl) :
    Completes mk op most good result := by
  intro s rq t d r hadm hgood
  obtain ⟨d', pl, hb, hres⟩ := hbody d rq r.data hgood
  exact ⟨d', pl, by rw [Runs, hexec, onDev, Dev.serve_done hadm hb], hres⟩

section
variable {α : Type} (goes : α → Bool) (l : List α)

/-- The entries that a flush takes out are those that it leaves fewer. -/
theorem length_filter_flushed : (l.filter goes).length = l.length - (l.filter (fun e => !goes e)).length := by
  have hsplit := l.length_eq_length_filter_add goes
  omega

theorem mem_filter_kept {e : α} : e ∈ l.filter (fun e => !goes e) ↔ e ∈ l ∧ ¬ goes e = true := by simp

/-- The number of entries flushed, as a flush answers it. -/
theorem le_flushed : le (leb 4 (l.filter goes).length) 0 4 = (l.length - (l.filter (fun e => !goes e)).length) % 2 ^ 32 := by
  rw [← length_filter_flushed]
  exact le_leb 4 _

end

section
variable {α : Type} {record : Nat × α → Bytes} {all : List (Nat × α)} {count : Nat}

/-- A table read's response: of the entries from the index on, the first COUNT and where the next read goes on. -/
def readReport (record : Nat × α → Bytes) (all : List (Nat × α)) (count : Nat) : Bytes :=
  readHeader (all.take count) (all.drop count) ++ (all.take count).flatMap record

theorem readReport_count (hcount : count < 65536) : le (readReport record all count) 0 2 = min count all.length := by
  simp only [readReport, readHeader, List.append_assoc]
  rw [le_count_head (by rw [List.length_take]; omega), List.length_take]

theorem readReport_length {n : Nat} (hrecord : ∀ e, (record e).length = n) :
    (readReport record all count).length = 8 + n * min count all.length := by
  rw [readReport, List.length_append, length_flatMap_of_const _ _ n (fun e _ => hrecord e), List.length_take]
  simp [readHeader]

end

theorem fdbRecord_length (e : Nat × Fdb) : (fdbRecord e).length = 16 := by simp [fdbRecord]

theorem ctRecord_length (now : Nat) (e : Nat × Conn) : (ctRecord now e).length = 48 := by simp [ctRecord]

theorem exec_ltrFdbRead (rq : Req) (s : State) : exec (.ltrFdbRead rq) s =
    onDev (Dev.serve 0x0406 rq (fun _ bs => 8 + 16 * min (le bs 4 2) (32768 - le bs 0 4))
      (fun d _ bs => withLayout d 8 [fr 0 4 0 32767, fr 4 2 1 (if reqBulkRsp rq then 32768 else 255)] bs
        (ansOk d (readReport fdbRecord (d.lauter.fdb.filter (fun e => decide (le bs 0 4 ≤ e.1))) (le bs 4 2))))) s := rfl

theorem exec_ltrCtRead (rq : Req) (s : State) : exec (.ltrCtRead rq) s =
    onDev (Dev.serve 0x040E rq (fun _ bs => 8 + 48 * min (le bs 4 2) (65536 - le bs 0 4))
      (fun d _ bs => withLayout d 8 [fr 0 4 0 65535, fr 4 2 1 (if reqBulkRsp rq then 65535 else 85)] bs
        (ansOk d (readReport (ctRecord d.uptime) (d.lauter.conns.filter (fun e => decide (le bs 0 4 ≤ e.1))) (le bs 4 2))))) s := rfl

end Sys2Proof.Machine
end

section
/-! SUPPORT. What Lauter's flushes select, and what its query of a zone binding answers (chapter 05, Commands). -/

namespace Sys2Proof.Machine

open Sys2Proof

/-- What LTR_FDB_FLUSH takes out: dynamic entries, all of them, those of a destination or those of an FID. -/
def fdbFlushed (bs : Bytes) (e : Nat × Fdb) : Bool :=
  !e.2.isStatic && (match byteAt bs 0 with
    | 0 => true
    | 1 => e.2.dest == le bs 4 2
    | _ => e.2.fid == le bs 2 2)

theorem not_fdbFlushed_iff {bs : Bytes} (hmode : byteAt bs 0 ≤ 2) (e : Nat × Fdb) : ¬ fdbFlushed bs e = true ↔ e.2.isStatic = true ∨
    ¬ (byteAt bs 0 = 0 ∨ (byteAt bs 0 = 1 ∧ e.2.dest = le bs 4 2) ∨ (byteAt bs 0 = 2 ∧ e.2.fid = le bs 2 2)) := by
  have hmodes : byteAt bs 0 = 0 ∨ byteAt bs 0 = 1 ∨ byteAt bs 0 = 2 := by omega
  rcases hmodes with h | h | h <;> simp [fdbFlushed, h, or_iff_not_imp_left]

/-- What LTR_CT_FLUSH takes out: every connection, or those of a zone. -/
def connFlushed (bs : Bytes) (e : Nat × Conn) : Bool := byteAt bs 0 == 0 || e.2.hasZone (byteAt bs 1)

theorem connFlushed_iff (bs : Bytes) (e : Nat × Conn) :
    connFlushed bs e = true ↔ byteAt bs 0 = 0 ∨ e.2.hasZone (byteAt bs 1) = true := by simp [connFlushed]

/-- LTR_ZONE_BIND_STATUS's response for a binding. -/
def Binding.report (b : Binding) : Bytes :=
  leb 1 b.zone ++ leb 1 b.port ++ leb 2 b.vid ++ leb 6 b.sa ++ leb 2 (1 + 2 * b2n b.wildcard) ++ zeros 4

theorem Binding.report_length (b : Binding) : b.report.length = 16 := by simp [Binding.report]

theorem Binding.report_fields (b : Binding) :
    byteAt b.report 0 = b.zone % 256 ∧ byteAt b.report 1 = b.port % 256 ∧ byteAt b.report 10 = 1 + 2 * b2n b.wildcard := by
  have hflags : byteAt (leb 2 (1 + 2 * b2n b.wildcard)) 0 = 1 + 2 * b2n b.wildcard := by cases b.wildcard <;> rfl
  simp [Binding.report, byteAt_append, hflags]

/-- LTR_ZONE_BIND_STATUS's response. -/
def Dev.bindingReport (d : Dev) (session : Nat) : Bytes := ((tabFind d.lauter.bindings session).map Binding.report).getD (zeros 16)

theorem Dev.bindingReport_none {d : Dev} {session : Nat} (h : tabFind d.lauter.bindings session = none) :
    d.bindingReport session = zeros 16 := by simp [Dev.bindingReport, h]

theorem Dev.bindingReport_some {d : Dev} {session : Nat} {b : Binding} (h : tabFind d.lauter.bindings session = some b) :
    d.bindingReport session = b.report := by simp [Dev.bindingReport, h]

theorem Dev.bindingReport_length (d : Dev) (session : Nat) : (d.bindingReport session).length = 16 := by
  cases h : tabFind d.lauter.bindings session with
  | none => rw [Dev.bindingReport_none h, zeros_length]
  | some b => rw [Dev.bindingReport_some h, b.report_length]

/-- LTR_ZONE_BIND_STATUS's work. -/
def zoneBindStatusBody (d : Dev) (session : Nat) : Ans :=
  match tabFind d.lauter.bindings session with
  | none => ansOk d (zeros 16)
  | some b => ansOk d b.report

theorem zoneBindStatusBody_eq (d : Dev) (session : Nat) : zoneBindStatusBody d session = ansOk d (d.bindingReport session) := by
  cases h : tabFind d.lauter.bindings session with
  | none => simp only [zoneBindStatusBody, h, Dev.bindingReport_none h]
  | some b => simp only [zoneBindStatusBody, h, Dev.bindingReport_some h]

theorem exec_ltrZoneBindStatus (rq : Req) (s : State) : exec (.ltrZoneBindStatus rq) s =
    onDev (Dev.serve 0x040F rq (rspMax 16) (fun d _ bs => withLayout d 4 [fr 0 1 1 63] bs (zoneBindStatusBody d (byteAt bs 0)))) s := rfl

end Sys2Proof.Machine
end

section
/-! SUPPORT. The scans of the FDB and of the connection table, and the purge of an unbound zone (R130, R134, R141). -/

namespace Sys2Proof.Machine

open Sys2Proof

variable {d : Dev}

theorem Dev.over_eq_true {t : Nat} (h : t < d.uptime) : d.over t = true := decide_eq_true h

theorem Dev.over_eq_false {t : Nat} (h : d.uptime ≤ t) : d.over t = false := decide_eq_false (Nat.not_lt.mpr h)

/-- When the next scan of the FDB is due (R134). -/
def Dev.fdbScanDue (d : Dev) : Nat := d.lauter.lastAge + sec d.lauter.ageTime

/-- The FDB as a scan leaves it: an entry in use stays, and its age bit is cleared (R134). -/
def agedFdb (t : Tab Fdb) : Tab Fdb :=
  (t.filter (fun e => e.2.isStatic || e.2.age)).map (fun e => if e.2.isStatic then e else (e.1, { e.2 with age := false }))

theorem fdbAgeScan_early (h : d.uptime ≤ d.fdbScanDue) : fdbAgeScan d = d := by
  have hover : d.over (d.lauter.lastAge + sec d.lauter.ageTime) = false := Dev.over_eq_false h
  simp only [fdbAgeScan, hover, Bool.not_false, if_true]

theorem fdbAgeScan_due (h : d.fdbScanDue < d.uptime) :
    (fdbAgeScan d).lauter = { d.lauter with fdb := agedFdb d.lauter.fdb, lastAge := d.fdbScanDue } := by
  have hover : d.over (d.lauter.lastAge + sec d.lauter.ageTime) = true := Dev.over_eq_true h
  simp only [fdbAgeScan, hover, Bool.not_true, Bool.false_eq_true, if_false, Dev.countN_lauter]
  rfl

/-- When the next scan of the connection table is due (R141). -/
def Dev.ctScanDue (d : Dev) : Nat := d.lauter.lastCtScan + ms 100

/-- The connection has been idle for its state's timeout at a tick (R141). -/
def Dev.connIdle (d : Dev) (tick : Nat) (e : Nat × Conn) : Bool := decide (e.2.last + sec (ctTimeout d e.2.state) ≤ tick)

theorem Dev.not_connIdle_iff (d : Dev) (tick : Nat) (e : Nat × Conn) :
    ¬ d.connIdle tick e = true ↔ tick < e.2.last + sec (ctTimeout d e.2.state) := by simp [Dev.connIdle]

theorem ctAgeScan_early (h : d.uptime ≤ d.ctScanDue) : ctAgeScan d = d := by
  have hover : d.over (d.lauter.lastCtScan + ms 100) = false := Dev.over_eq_false h
  simp only [ctAgeScan, hover, Bool.not_false, if_true]

theorem ctAgeScan_due (h : d.ctScanDue < d.uptime) : (ctAgeScan d).lauter =
    { d.lauter with conns := d.lauter.conns.filter (fun e => !d.connIdle d.ctScanDue e), lastCtScan := d.ctScanDue } := by
  have hover : d.over (d.lauter.lastCtScan + ms 100) = true := Dev.over_eq_true h
  simp only [ctAgeScan, hover, Bool.not_true, Bool.false_eq_true, if_false, Dev.countN_lauter]
  rfl

theorem Conn.not_hasZone_iff (c : Conn) (z : Nat) : ¬ c.hasZone z = true ↔ c.loZone ≠ z ∧ c.hiZone ≠ z := by simp [Conn.hasZone]

theorem bindingPurge_due {z : Nat} (h : z ∈ d.lauter.purges) : (bindingPurge z d).lauter = { d.lauter with
    conns := d.lauter.conns.filter (fun e => !e.2.hasZone z), purges := d.lauter.purges.filter (fun y => y != z) } := by
  have hdue : d.lauter.purges.contains z = true := List.contains_iff_mem.mpr h
  simp only [bindingPurge, hdue, Bool.not_true, Bool.false_eq_true, if_false]

theorem runs_fdbAgeScan (s : State) : Runs .fdbAgeScan s (fdbAgeScan s.dev) := rfl
theorem runs_ctAgeScan (s : State) : Runs .ctAgeScan s (ctAgeScan s.dev) := rfl
theorem runs_bindingCtPurge (z : Nat) (s : State) : Runs (.bindingCtPurge z) s (bindingPurge z s.dev) := rfl

end Sys2Proof.Machine
end

section
/-! The statement about Lauter's immediate commands, its scans and its purge. -/

namespace Sys2Proof.Machine

open Sys2Proof

/-- Settles O36, command by command, then scan by scan. -/
theorem lauterCommandsAndScansComplete : Obligations.LauterCommandsAndScansComplete := by
  refine ⟨?_, ?_, ?_, ?_, ?_, ?_, fun s => ⟨fun hdue => ?_, fun hearly => ?_, fun hdue => ?_, fun hearly => ?_, fun z hz => ?_⟩⟩
  · refine completes_of_body (fun _ _ => rfl) ?_
    rintro d rq bs ⟨hlen, hok⟩
    have hmode : byteAt bs 0 ≤ 2 := by simpa [fr, le] using (layoutOk_field hok (f := fr 0 1 0 2) (by simp)).2
    refine ⟨d.putFdb (d.lauter.fdb.filter (fun e => !fdbFlushed bs e)), leb 4 (d.lauter.fdb.filter (fdbFlushed bs)).length,
      (withLayout_ok _ hlen hok).trans rfl, rfl, le_flushed _ _, leb_length _ _, fun e => ?_⟩
    exact (mem_filter_kept _ _).trans (and_congr_right fun _ => not_fdbFlushed_iff hmode e)
  · refine completes_of_body (fun _ _ => rfl) ?_
    rintro d rq bs ⟨hlen, hok⟩
    refine ⟨d.putConns (d.lauter.conns.filter (fun e => !connFlushed bs e)), leb 4 (d.lauter.conns.filter (connFlushed bs)).length,
      (withLayout_ok _ hlen hok).trans rfl, rfl, le_flushed _ _, fun e => ?_⟩
    exact (mem_filter_kept _ _).trans (and_congr_right fun _ => not_congr (connFlushed_iff bs e))
  · refine completes_of_reqBody exec_ltrFdbRead ?_
    rintro d rq bs ⟨hlen, hok⟩
    exact ⟨d, _, withLayout_ok _ hlen hok, rfl, readReport_count (le_lt bs 4 2), readReport_length fdbRecord_length⟩
  · refine completes_of_reqBody exec_ltrCtRead ?_
    rintro d rq bs ⟨hlen, hok⟩
    exact ⟨d, _, withLayout_ok _ hlen hok, rfl, readReport_count (le_lt bs 4 2), readReport_length (ctRecord_length d.uptime)⟩
  · refine completes_of_body exec_ltrZoneBindStatus ?_
    rintro d rq bs ⟨hlen, hok⟩
    refine ⟨d, d.bindingReport (byteAt bs 0), (withLayout_ok _ hlen hok).trans (zoneBindStatusBody_eq d _), rfl,
      d.bindingReport_length _, Dev.bindingReport_none, fun b hb => ?_⟩
    rw [Dev.bindingReport_some hb]
    exact b.report_fields
  · refine completes_of_body (fun _ _ => rfl) ?_
    rintro d rq bs rfl
    exact ⟨d, _, withLayout_ok _ rfl rfl, rfl, rfl⟩
  · refine ⟨_, runs_fdbAgeScan s, ?_⟩
    rw [fdbAgeScan_due hdue]
    exact ⟨rfl, rfl⟩
  · have hrun := runs_fdbAgeScan s
    rwa [fdbAgeScan_early hearly] at hrun
  · refine ⟨_, runs_ctAgeScan s, ?_⟩
    rw [ctAgeScan_due hdue]
    exact ⟨rfl, fun e => (mem_filter_kept _ _).trans (and_congr_right fun _ => s.dev.not_connIdle_iff _ e)⟩
  · have hrun := runs_ctAgeScan s
    rwa [ctAgeScan_early hearly] at hrun
  · refine ⟨_, runs_bindingCtPurge z s, ?_⟩
    rw [bindingPurge_due hz]
    refine ⟨by simp, fun e => ?_⟩
    exact (mem_filter_kept (fun x : Nat × Conn => x.2.hasZone z) _).trans (and_congr_right fun _ => e.2.not_hasZone_iff z)

end Sys2Proof.Machine
end

section
/-! SUPPORT. A recovery entry's judgement, by where a frame's number lies from the recovered one (R165). -/

namespace Sys2Proof.Machine

open Sys2Proof

/-- How far a number lies ahead of the recovered one, in 16-bit arithmetic. -/
def Recovery.ahead (r : Recovery) (q : Nat) : Int := signed 16 (q + 65536 - r.seq)

/-- The entry once it has taken a newer number. -/
def Recovery.advance (r : Recovery) (q : Nat) : Recovery :=
  { r with hist := (r.hist * 2 ^ (r.ahead q).toNat + 1) % 2 ^ r.history, seq := q }

/-- The entry once it has taken an older number for the first time. -/
def Recovery.note (r : Recovery) (q : Nat) : Recovery := { r with hist := setBit r.hist (-r.ahead q).toNat }

/-- The number lies within the history and has been taken. -/
structure Recovery.Seen (r : Recovery) (q : Nat) : Prop where
  judging : r.takeAny = false
  notNewer : r.ahead q ≤ 0
  within : -r.history < r.ahead q
  taken : bit r.hist (-r.ahead q).toNat = true

section
variable {r : Recovery} {q : Nat}

theorem recoveryJudge_untagged (r : Recovery) : recoveryJudge r none = (if r.takeNoSeq then Frer.pass else Frer.discard, r) := by
  unfold recoveryJudge
  cases r.takeNoSeq <;> rfl

theorem recoveryJudge_takeAny (h : r.takeAny = true) :
    recoveryJudge r (some q) = (.pass, { r with takeAny := false, seq := q, hist := 1 }) :=
  if_pos h

/-- Outside TAKE_ANY a number is judged by its distance. -/
theorem recoveryJudge_number (h : r.takeAny = false) : recoveryJudge r (some q) =
    if r.history ≤ r.ahead q ∨ r.ahead q ≤ -r.history then (.rogue, r)
    else if 0 < r.ahead q then (.pass, r.advance q)
    else if bit r.hist (-r.ahead q).toNat then (.discard, r) else (.pass, r.note q) :=
  if_neg (Bool.eq_false_iff.mp h)

theorem recoveryJudge_rogue (h : r.takeAny = false) (hfar : r.history ≤ r.ahead q ∨ r.ahead q ≤ -r.history) :
    recoveryJudge r (some q) = (.rogue, r) := by
  rw [recoveryJudge_number h, if_pos hfar]

theorem recoveryJudge_newer (h : r.takeAny = false) (hnew : 0 < r.ahead q) (hnear : r.ahead q < r.history) :
    recoveryJudge r (some q) = (.pass, r.advance q) := by
  rw [recoveryJudge_number h, if_neg (by omega), if_pos hnew]

theorem recoveryJudge_older (h : r.takeAny = false) (hold : r.ahead q ≤ 0) (hnear : -r.history < r.ahead q) :
    recoveryJudge r (some q) = if bit r.hist (-r.ahead q).toNat then (.discard, r) else (.pass, r.note q) := by
  rw [recoveryJudge_number h, if_neg (by omega), if_neg (Int.not_lt.mpr hold)]

theorem recoveryJudge_seen (h : r.Seen q) : recoveryJudge r (some q) = (.discard, r) := by
  rw [recoveryJudge_older h.judging h.notNewer h.within, if_pos h.taken]

/-! ## A number that passed has been seen -/

theorem Recovery.ahead_recovered (h : r.seq = q) : r.ahead q = 0 := by
  rw [Recovery.ahead, h, Nat.add_sub_cancel_left]
  rfl

/-- The recovered number has been seen where its own history bit is set. -/
theorem Recovery.seen_recovered (hseq : r.seq = q) (hjudging : r.takeAny = false) (hhist : 0 < r.history) (hbit : bit r.hist 0 = true) :
    r.Seen q := by
  have hzero := Recovery.ahead_recovered hseq
  exact ⟨hjudging, by omega, by omega, by rw [hzero]; exact hbit⟩

theorem Recovery.seen_advance (hjudging : r.takeAny = false) (hhist : 0 < r.history) (hnew : 0 < r.ahead q) : (r.advance q).Seen q := by
  refine Recovery.seen_recovered rfl hjudging hhist ?_
  obtain ⟨n, hn⟩ : ∃ n, (r.ahead q).toNat = n + 1 := Nat.exists_eq_succ_of_ne_zero (by omega)
  have hodd : (r.hist * 2 ^ (n + 1) + 1) % 2 = 1 := by rw [pow_succ, ← mul_assoc]; omega
  rw [Recovery.advance, hn, bit_eq_testBit, Nat.testBit_mod_two_pow, Nat.testBit_zero, hodd]
  simpa using hhist

theorem Recovery.seen_note (hjudging : r.takeAny = false) (hold : r.ahead q ≤ 0) (hnear : -r.history < r.ahead q) : (r.note q).Seen q :=
  ⟨hjudging, hold, hnear, (bit_setBit _ _ _).trans (if_pos rfl)⟩

/-- Whatever way a number passed, it has been seen then. -/
theorem Recovery.seen_of_pass (hhist : 0 < r.history) (hpass : (recoveryJudge r (some q)).1 = .pass) :
    (recoveryJudge r (some q)).2.Seen q := by
  cases hany : r.takeAny with
  | true =>
    rw [recoveryJudge_takeAny hany]
    exact Recovery.seen_recovered rfl rfl hhist (show bit 1 0 = true by decide)
  | false =>
    by_cases hfar : r.history ≤ r.ahead q ∨ r.ahead q ≤ -r.history
    · rw [recoveryJudge_rogue hany hfar] at hpass
      cases hpass
    obtain ⟨hlow, hhigh⟩ := not_or.mp hfar
    by_cases hnew : 0 < r.ahead q
    · rw [recoveryJudge_newer hany hnew (Int.not_le.mp hlow)]
      exact Recovery.seen_advance hany hhist hnew
    · have hjudge := recoveryJudge_older hany (Int.not_lt.mp hnew) (Int.not_le.mp hhigh)
      by_cases hbit : bit r.hist (-r.ahead q).toNat = true
      · rw [hjudge, if_pos hbit] at hpass
        cases hpass
      · rw [hjudge, if_neg hbit]
        exact Recovery.seen_note hany (Int.not_lt.mp hnew) (Int.not_le.mp hhigh)

end

end Sys2Proof.Machine
end

section
/-! SUPPORT. A meter's buckets and its colours, case by case (R162, R164). -/

namespace Sys2Proof.Machine

open Sys2Proof

section
variable (m : Meter) (now : Nat)

theorem meterFill_c_le : (meterFill m now).c ≤ m.cbs * creditUnit := Nat.min_le_right _ _

theorem meterFill_e_le : (meterFill m now).e ≤ m.ebs * creditUnit := Nat.min_le_right _ _

variable {m}

theorem le_meterFill_c (h : m.c ≤ m.cbs * creditUnit) : m.c ≤ (meterFill m now).c := Nat.le_min.mpr ⟨Nat.le_add_right _ _, h⟩

theorem le_meterFill_e (h : m.e ≤ m.ebs * creditUnit) : m.e ≤ (meterFill m now).e :=
  Nat.le_min.mpr ⟨(Nat.le_add_right _ _).trans (Nat.le_add_right _ _), h⟩

end

section
variable {m : Meter} {len : Nat} {inYellow : Bool}

/-- The committed bucket is open to the frame, which a colour-aware meter does not grant a yellow one, and covers it. -/
def Meter.commits (m : Meter) (len : Nat) (inYellow : Bool) : Prop :=
  ¬ (bit m.flags 1 = true ∧ inYellow = true) ∧ len * creditUnit ≤ m.c

theorem Meter.commits_iff : m.commits len inYellow ↔ (!(bit m.flags 1 && inYellow) && decide (len * creditUnit ≤ m.c)) = true := by
  simp [Meter.commits, imp_iff_not_or]

theorem meterColour_latched (h : m.latched = true) : meterColour m len inYellow = (2, m) := if_pos h

theorem meterColour_green (h : m.latched = false) (hc : m.commits len inYellow) :
    meterColour m len inYellow = (0, { m with c := m.c - len * creditUnit }) :=
  (if_neg (Bool.eq_false_iff.mp h)).trans (if_pos (Meter.commits_iff.mp hc))

/-- A frame the committed bucket does not take is judged by the excess bucket. -/
theorem meterColour_excess (h : m.latched = false) (hc : ¬ m.commits len inYellow) : meterColour m len inYellow =
    if len * creditUnit ≤ m.e then (1, { m with e := m.e - len * creditUnit }) else (2, m) :=
  (if_neg (Bool.eq_false_iff.mp h)).trans (if_neg (mt Meter.commits_iff.mpr hc))

end

end Sys2Proof.Machine
end

section
/-! The statements about recovery entries and meters. -/

namespace Sys2Proof.Machine

open Sys2Proof

/-- Settles O39: the judgement by distance, and that whatever passes has been seen. -/
theorem recoveryEntryEliminates : Obligations.RecoveryEntryEliminates := by
  intro r hmin _ _ _ _
  refine ⟨recoveryJudge_untagged r, fun q _ => ⟨recoveryJudge_takeAny, fun hany => ⟨recoveryJudge_rogue hany, fun hnew hnear => ?_,
    fun hold hnear => ?_⟩, fun hpass => ?_⟩⟩
  · rw [recoveryJudge_newer hany hnew hnear]
    exact ⟨rfl, rfl⟩
  · have hjudge := recoveryJudge_older hany hold hnear
    unfold Recovery.ahead at hjudge
    rw [hjudge]
    split <;> exact ⟨rfl, rfl⟩
  · rw [recoveryJudge_seen (Recovery.seen_of_pass (by omega) hpass)]

/-- Settles O40, bucket by bucket and colour by colour. -/
theorem meterColoursByCredit : Obligations.MeterColoursByCredit := by
  intro m len now inYellow
  refine ⟨meterFill_c_le m now, meterFill_e_le m now, le_meterFill_c now, le_meterFill_e now, meterColour_latched, fun hopen =>
    ⟨meterColour_green hopen, fun hc hcovers => ?_, fun hc hshort => ?_⟩⟩
  · rw [meterColour_excess hopen hc, if_pos hcovers]
  · rw [meterColour_excess hopen hc, if_neg (Nat.not_le.mpr hshort)]

end Sys2Proof.Machine
end

section
/-! SUPPORT. A port's gate unit: what driving its gates and switching its list leave (R171, R172, R174, R186). -/

namespace Sys2Proof.Machine

open Sys2Proof

variable {d : Dev} {p : Nat}

@[simp] theorem Dev.putGates_gates (d : Dev) (p : Nat) (g : Gates) : (d.putGates p g).gates p = g := tabGet_put_same ..

theorem Dev.gates_congr {d' : Dev} (h : d'.streams = d.streams) (p : Nat) : d'.gates p = d.gates p := by
  unfold Dev.gates
  rw [h]

/-- The oper list and the pending switches of a port are as before. -/
structure Dev.KeepsLists (d d' : Dev) (p : Nat) : Prop where
  oper : (d'.gates p).oper = (d.gates p).oper
  pending : (d'.gates p).pending = (d.gates p).pending

/-- A gate unit put in place of one with the same lists, and streams that nothing changes after that. -/
theorem Dev.keepsLists_of_put {d' : Dev} {g : Gates} (h : d'.streams = (d.putGates p g).streams) (hoper : g.oper = (d.gates p).oper)
    (hpending : g.pending = (d.gates p).pending) : d.KeepsLists d' p := by
  have hg : d'.gates p = g := (Dev.gates_congr h p).trans (d.putGates_gates p g)
  exact ⟨hg ▸ hoper, hg ▸ hpending⟩

/-- Driving the gates leaves the lists alone. -/
theorem Dev.keepsLists_driveGates (d : Dev) (p : Nat) : d.KeepsLists (d.driveGates p) p := by
  unfold Dev.driveGates
  extract_lets g
  split
  · exact Dev.keepsLists_of_put rfl rfl rfl
  · split
    · exact Dev.keepsLists_of_put rfl rfl rfl
    · split
      · exact ⟨rfl, rfl⟩
      · extract_lets op hold d1 d2
        split
        · split
          · split <;> exact Dev.keepsLists_of_put rfl rfl rfl
          · exact Dev.keepsLists_of_put rfl rfl rfl
        · exact Dev.keepsLists_of_put rfl rfl rfl

/-- A port that is not enabled has every gate open and hold released. -/
theorem Dev.driveGates_notEnabled (h : (d.port p).admin = false) :
    (d.driveGates p).gates p = { d.gates p with vector := 0xFF, hold := false } := by
  simp only [Dev.driveGates, h, Bool.not_false, if_true, Dev.putGates_gates]

/-- So has an enabled port whose list is disabled. -/
theorem Dev.driveGates_disabled (hadmin : (d.port p).admin = true) (h : (d.gates p).oper = none) :
    (d.driveGates p).gates p = { d.gates p with vector := 0xFF, entry := 0, hold := false } := by
  simp only [Dev.driveGates, hadmin, h, Bool.not_true, Bool.false_eq_true, if_false, Dev.putGates_gates]

/-- The entry in force is driven, without its hold operation while preemption is inactive. -/
theorem Dev.driveGates_entry {l : GateList} {at_ : Nat} {x : Nat × Nat × Nat × Nat × Nat} (hadmin : (d.port p).admin = true)
    (hoper : (d.gates p).oper = some (l, at_)) (hspan : l.spanAt at_ d.now = some x) (hinactive : d.preemptActive p = false) :
    (d.driveGates p).gates p = { d.gates p with vector := x.2.2.1, entry := x.2.2.2.2 } := by
  have hhold : (if (0 : Nat) == 1 then true else if (0 : Nat) == 2 then false else (d.gates p).hold) = (d.gates p).hold := rfl
  simp only [Dev.driveGates, hadmin, hoper, hspan, hinactive, hhold, Bool.not_true, Bool.false_eq_true, if_false, Bool.and_not_self,
    Dev.putGates_gates]

/-- All open, whether for the one reason or for the other. -/
theorem Dev.driveGates_open (h : (d.port p).admin = false ∨ (d.gates p).oper = none) :
    ((d.driveGates p).gates p).vector = 0xFF ∧ ((d.driveGates p).gates p).hold = false := by
  cases hadmin : (d.port p).admin with
  | false =>
    rw [Dev.driveGates_notEnabled hadmin]
    exact ⟨rfl, rfl⟩
  | true =>
    rw [Dev.driveGates_disabled hadmin (h.resolve_left (by simp [hadmin]))]
    exact ⟨rfl, rfl⟩

section
variable {l : Option GateList} {at_ : Nat} {rest : List (Option GateList × Nat)}

theorem gateSwitch_early (hpending : (d.gates p).pending = (l, at_) :: rest) (h : d.now < at_) : gateSwitch p d = d := by
  simp only [gateSwitch, hpending, h, if_true]

/-- At its switch time the list at the head of those pending becomes oper. -/
theorem gateSwitch_due (hpending : (d.gates p).pending = (l, at_) :: rest) (h : at_ ≤ d.now) :
    ((gateSwitch p d).gates p).oper = l.map (fun x => (x, at_)) ∧ ((gateSwitch p d).gates p).pending = rest := by
  simp only [gateSwitch, hpending, Nat.not_lt.mpr h, if_false]
  have hdrive := Dev.keepsLists_driveGates
  refine ⟨(hdrive _ p).oper.trans ?_, (hdrive _ p).pending.trans ?_⟩ <;>
    rw [Dev.gates_congr (Dev.posts_post _ _ _ _).streams, Dev.gates_congr (Dev.count_streams _ _ _), Dev.putGates_gates]

end

end Sys2Proof.Machine
end

section
/-! SUPPORT. A port's preemption unit in verification (R183). -/

namespace Sys2Proof.Machine

open Sys2Proof

variable {d : Dev} {p : Nat}

theorem Dev.preempt_congr {d' : Dev} (h : d'.streams = d.streams) (p : Nat) : d'.preempt p = d.preempt p := by
  unfold Dev.preempt
  rw [h]

@[simp] theorem Dev.setPreempt_preempt (d : Dev) (p st : Nat) (f : Preempt → Preempt) :
    (d.setPreempt p st f).preempt p = { f (d.preempt p) with state := st } := by
  unfold Dev.setPreempt
  dsimp only
  split
  · exact tabGet_put_same ..
  · exact (Dev.preempt_congr (Dev.posts_post _ _ _ _).streams p).trans (tabGet_put_same ..)

@[simp] theorem Dev.sendVerify_streams (d : Dev) (p : Nat) : (d.sendVerify p).streams = d.streams := by
  unfold Dev.sendVerify
  split <;> rfl

theorem verifyResponse_verifying (h : (d.preempt p).state = 1) :
    (verifyResponse p d).preempt p = { d.preempt p with deadline := none, state := 2 } := by
  simp only [verifyResponse, h, beq_self_eq_true, if_true, Dev.setPreempt_preempt]

section
variable {t : Nat} (hstate : (d.preempt p).state = 1) (ht : (d.preempt p).deadline = some t)
include hstate ht

theorem verifyTimeout_early (h : d.uptime ≤ t) : verifyTimeout p d = d := by
  simp only [verifyTimeout, hstate, ht, Dev.overO, Dev.over_eq_false h, Bool.not_false, Bool.or_true, if_true]

/-- The verify mPacket is sent again, three times at most. -/
theorem verifyTimeout_again (h : t < d.uptime) (htries : (d.preempt p).tries < 3) : (verifyTimeout p d).preempt p =
    { d.preempt p with
      tries := (d.preempt p).tries + 1, deadline := some (d.uptime + ms (d.preempt p).verifyMs), state := 1 } := by
  simp only [verifyTimeout, hstate, ht, Dev.overO, Dev.over_eq_true h, htries, bne_self_eq_false, Bool.not_true, Bool.or_self,
    Bool.false_eq_true, if_false, if_true]
  rw [Dev.preempt_congr (Dev.sendVerify_streams _ _), Dev.setPreempt_preempt]

theorem verifyTimeout_fails (h : t < d.uptime) (htries : 3 ≤ (d.preempt p).tries) :
    (verifyTimeout p d).preempt p = { d.preempt p with deadline := none, state := 3 } := by
  simp only [verifyTimeout, hstate, ht, Dev.overO, Dev.over_eq_true h, Nat.not_lt.mpr htries, bne_self_eq_false, Bool.not_true,
    Bool.or_self, Bool.false_eq_true, if_false]
  rw [Dev.preempt_congr (Dev.count_streams _ _ _), Dev.setPreempt_preempt]

end

end Sys2Proof.Machine
end

section
/-! SUPPORT. Observation samples and the timers of a recovery entry (R166, R167, R187). -/

namespace Sys2Proof.Machine

open Sys2Proof

variable {d : Dev} {p : Nat}

section
variable {o : Observe} (ho : tabFind d.streams.observe p = some o)
include ho

/-- A sample that is due is taken for every class of the port. -/
theorem queueObserve_due (hen : o.enable = true) (h : d.now / (o.periodUs * 1000) ≠ o.lastSample / (o.periodUs * 1000)) :
    queueObserve p d = (List.range 8).foldl (Dev.observeClass p)
      { d with streams := { d.streams with observe := tabPut d.streams.observe p { o with lastSample := d.now } } } := by
  simp only [queueObserve, ho, hen, beq_false_of_ne h, Bool.not_true, Bool.or_self, Bool.false_eq_true, if_false]

theorem queueObserve_early (h : d.now / (o.periodUs * 1000) = o.lastSample / (o.periodUs * 1000)) : queueObserve p d = d := by
  simp only [queueObserve, ho, h, beq_self_eq_true, Bool.or_true, if_true]

end

section
variable {e : Recovery} (he : tabFind d.streams.recoveries p = some e)
include he

theorem frerReset_due {t : Nat} (ht : e.deadline = some t) (h : t < d.uptime) : frerReset p d =
    { d with streams := { d.streams with
        recoveries := tabPut d.streams.recoveries p { e with takeAny := true, deadline := none } } } := by
  simp only [frerReset, he, ht, Dev.overO, Dev.over_eq_true h, if_true]

theorem frerReset_early {t : Nat} (ht : e.deadline = some t) (h : d.uptime ≤ t) : frerReset p d = d := by
  simp only [frerReset, he, ht, Dev.overO, Dev.over_eq_false h, Bool.false_eq_true, if_false]

/-- The counts start again with the next period. -/
theorem frerLatent_due (hon : e.latentMs ≠ 0) (h : e.periodEnd < d.uptime) : tabFind (frerLatent p d).streams.recoveries p =
    some { e with passed := 0, discarded := 0, periodEnd := e.periodEnd + ms e.latentMs } := by
  simp only [frerLatent, he, beq_false_of_ne hon, Dev.over_eq_true h, Bool.not_true, Bool.or_self, Bool.false_eq_true, if_false]
  split
  · rw [(Dev.posts_post _ _ _ _).streams, tabFind_put_same]
  · exact tabFind_put_same ..

theorem frerLatent_early (h : e.latentMs = 0 ∨ d.uptime ≤ e.periodEnd) : frerLatent p d = d := by
  have hwait : (e.latentMs == 0 || !d.over e.periodEnd) = true := by
    obtain hoff | hearly := h
    · simp [hoff]
    · simp [Dev.over_eq_false hearly]
  simp only [frerLatent, he, hwait, if_true]

end

end Sys2Proof.Machine
end

section
/-! The statement about the gates, preemption, the comparison, observation and the recovery timers. -/

namespace Sys2Proof.Machine

open Sys2Proof

theorem runs_gateEntryChange (p : Nat) (s : State) : Runs (.gateEntryChange p) s (s.dev.driveGates p) := rfl
theorem runs_gateListSwitch (p : Nat) (s : State) : Runs (.gateListSwitch p) s (gateSwitch p s.dev) := rfl
theorem runs_preemptVerifyResponse (p : Nat) (s : State) : Runs (.preemptVerifyResponse p) s (verifyResponse p s.dev) := rfl
theorem runs_preemptVerifyTimeout (p : Nat) (s : State) : Runs (.preemptVerifyTimeout p) s (verifyTimeout p s.dev) := rfl
theorem runs_belfryCmp (p mask : Nat) (s : State) : Runs (.belfryCmp p mask) s (belfryCmp p mask s.dev) := rfl
theorem runs_queueObserveSample (p : Nat) (s : State) : Runs (.queueObserveSample p) s (queueObserve p s.dev) := rfl
theorem runs_frerResetTimeout (p : Nat) (s : State) : Runs (.frerResetTimeout p) s (frerReset p s.dev) := rfl
theorem runs_frerLatentPeriodEnd (p : Nat) (s : State) : Runs (.frerLatentPeriodEnd p) s (frerLatent p s.dev) := rfl

/-- A step that leaves the block as it was, by what its work comes to. -/
theorem runs_same {c : Instr} {s : State} {d' : Dev} (hrun : Runs c s d') (h : d' = s.dev) : Runs c s s.dev := h ▸ hrun

/-- Settles O38, command by command. -/
theorem gatesPreemptionAndObservationAct : Obligations.GatesPreemptionAndObservationAct := by
  intro s p
  refine ⟨fun hoff => ⟨_, runs_gateEntryChange p s, Dev.driveGates_open (.inr hoff)⟩,
    fun l at_ x hoper hspan hinactive hadmin => ⟨_, runs_gateEntryChange p s, ?_⟩,
    fun hadmin => ⟨_, runs_gateEntryChange p s, Dev.driveGates_open (.inl hadmin)⟩,
    fun l at_ rest hpending => ⟨fun hdue => ⟨_, runs_gateListSwitch p s, gateSwitch_due hpending hdue⟩,
      fun hearly => runs_same (runs_gateListSwitch p s) (gateSwitch_early hpending hearly)⟩,
    fun hstate => ⟨_, runs_preemptVerifyResponse p s, by rw [verifyResponse_verifying hstate]⟩,
    fun t hstate ht => ⟨fun hearly => runs_same (runs_preemptVerifyTimeout p s) (verifyTimeout_early hstate ht hearly),
      fun hover htries => ⟨_, runs_preemptVerifyTimeout p s, ?_⟩,
      fun hover htries => ⟨_, runs_preemptVerifyTimeout p s, by rw [verifyTimeout_fails hstate ht hover htries]⟩⟩,
    ⟨runs_belfryCmp p 0 s, fun mask hmask => ?_⟩,
    fun o ho hen => ⟨fun hdue => queueObserve_due ho hen hdue ▸ runs_queueObserveSample p s,
      fun hearly => runs_same (runs_queueObserveSample p s) (queueObserve_early ho hearly)⟩,
    fun e he => ⟨fun t ht hover => frerReset_due he ht hover ▸ runs_frerResetTimeout p s,
      fun t ht hearly => runs_same (runs_frerResetTimeout p s) (frerReset_early he ht hearly),
      fun hon hover => ⟨_, _, runs_frerLatentPeriodEnd p s, frerLatent_due he hon hover, rfl, rfl, rfl, rfl, rfl⟩,
      fun hearly => runs_same (runs_frerLatentPeriodEnd p s) (frerLatent_early he hearly)⟩⟩
  · rw [Dev.driveGates_entry hadmin hoper hspan hinactive]
    exact ⟨rfl, rfl⟩
  · rw [verifyTimeout_again hstate ht hover htries]
    exact ⟨rfl, rfl, rfl⟩
  · have hrun := runs_belfryCmp p mask s
    rwa [belfryCmp, beq_false_of_ne hmask, if_neg Bool.false_ne_true] at hrun

end Sys2Proof.Machine
end

section
/-! SUPPORT. Resets of one entry of a table, and what the stream unit's queries answer (chapter 06, Commands). -/

namespace Sys2Proof.Machine

open Sys2Proof

/-- Changing the entry at an index changes what is found there. -/
theorem tabFind_upd_same {α : Type} (t : Tab α) (i : Nat) (f : α → α) : tabFind (tabUpd t i f) i = (tabFind t i).map f := by
  induction t with
  | nil => rfl
  | cons e t ih =>
    obtain ⟨k, v⟩ := e
    by_cases hk : k = i
    · simp [tabUpd, tabFind, hk]
    · simpa [tabUpd, tabFind, hk] using ih

/-- An entry that is present is found changed. -/
theorem tabFind_upd_of_has {α : Type} {t : Tab α} {i : Nat} (f : α → α) (h : tabHas t i = true) :
    ∃ v, tabFind (tabUpd t i f) i = some (f v) := by
  obtain ⟨v, hv⟩ := Option.isSome_iff_exists.mp h
  exact ⟨v, by rw [tabFind_upd_same, hv, Option.map_some]⟩

/-! ## STR_GATE_STATUS -/

/-- The state that STR_GATE_STATUS reports: disabled, oper, or a switch pending. -/
def Gates.statusCode (g : Gates) : Nat := if g.oper.isNone then 0 else if g.pending.isEmpty then 1 else 2

/-- What STR_GATE_STATUS says of the oper list: the entry in force, the cycle and the switch time. -/
def Gates.operReport (g : Gates) (now : Nat) : Bytes :=
  match g.oper with
  | some (l, s) =>
    let entry := match l.spanAt s now with
      | some x => x.2.2.2.2
      | none => 0
    leb 2 entry ++ leb 4 l.cycle ++ t80le s
  | none => zeros 16

/-- When the next pending switch falls; 0 without one. -/
def Gates.pendingTime (g : Gates) : Nat :=
  match g.pending.head? with
  | some x => x.2
  | none => 0

/-- STR_GATE_STATUS's response. -/
def Dev.gateReport (d : Dev) (p : Nat) : Bytes :=
  leb 1 (d.gates p).statusCode ++ leb 1 (d.gateVector p) ++ (d.gates p).operReport d.now ++ zeros 2 ++ t80le (d.gates p).pendingTime ++
    zeros 2

theorem exec_strGateStatus (rq : Req) (s : State) : exec (.strGateStatus rq) s =
    onDev (Dev.serve 0x050A rq (rspMax 32) (fun d _ bs => withLayout d 4 [fr 0 1 0 49] bs (ansOk d (d.gateReport (byteAt bs 0))))) s := rfl

theorem Gates.operReport_length (g : Gates) (now : Nat) : (g.operReport now).length = 16 := by
  unfold Gates.operReport
  split <;> simp

theorem Gates.statusCode_lt (g : Gates) : g.statusCode < 256 := by
  unfold Gates.statusCode
  split
  · decide
  · split <;> decide

theorem Dev.gateReport_length (d : Dev) (p : Nat) : (d.gateReport p).length = 32 := by
  simp [Dev.gateReport, Gates.operReport_length]

theorem Dev.gateReport_status (d : Dev) (p : Nat) : byteAt (d.gateReport p) 0 = (d.gates p).statusCode := by
  simp [Dev.gateReport, byteAt_append, Nat.mod_eq_of_lt (Gates.statusCode_lt _)]

theorem Dev.gateReport_vector (d : Dev) (p : Nat) : byteAt (d.gateReport p) 1 = d.gateVector p % 256 := by
  simp [Dev.gateReport, byteAt_append]

/-! ## STR_STREAM_STATUS -/

/-- The meter that a stream names, with its buckets filled up to now. -/
def Dev.streamMeter (d : Dev) (e : Stream) : Option Meter :=
  (if bit e.meter 15 then tabFind d.streams.meters (bits e.meter 0 12) else none).map (fun m => meterFill m d.uptime)

/-- The recovery entry that a stream names. -/
def Dev.streamRecovery (d : Dev) (e : Stream) : Option Recovery :=
  if bit e.recovery 15 then tabFind d.streams.recoveries (bits e.recovery 0 10) else none

/-- The flags of STR_STREAM_STATUS: valid, scheduled, blocked, latched, TAKE_ANY. -/
def Dev.streamFlags (d : Dev) (e : Stream) : Nat :=
  1 + 2 * b2n (e.kind == 1) + 4 * b2n e.blocked + 8 * b2n ((d.streamMeter e).any (fun m => m.latched)) +
    16 * b2n ((d.streamRecovery e).any (fun r => r.takeAny))

/-- STR_STREAM_STATUS's response for a valid entry. -/
def Dev.streamReport (d : Dev) (e : Stream) : Bytes :=
  leb 1 (d.streamFlags e) ++ zeros 1 ++ leb 2 (if e.intervalNs == 0 then 0 else tabGet 0 e.windows (filterWindow e d.now)) ++
    leb 4 (((d.streamMeter e).map (fun m => m.c / creditUnit)).getD 0) ++
    leb 4 (((d.streamMeter e).map (fun m => m.e / creditUnit)).getD 0) ++
    leb 2 (((d.streamRecovery e).map (fun r => r.seq)).getD 0) ++ zeros 2

/-- STR_STREAM_STATUS's work. -/
def streamStatusBody (d : Dev) (h : Nat) : Ans :=
  match tabFind d.streams.table h with
  | none => ansOk d (zeros 16)
  | some e => ansOk d (d.streamReport e)

theorem exec_strStreamStatus (rq : Req) (s : State) : exec (.strStreamStatus rq) s =
    onDev (Dev.serve 0x050C rq (rspMax 16) (fun d _ bs => withLayout d 4 [fr 0 2 0 4095] bs (streamStatusBody d (le bs 0 2)))) s := rfl

theorem Dev.streamReport_length (d : Dev) (e : Stream) : (d.streamReport e).length = 16 := by simp [Dev.streamReport]

theorem Dev.streamReport_flags (d : Dev) (e : Stream) : byteAt (d.streamReport e) 0 = d.streamFlags e % 256 := by
  simp [Dev.streamReport, byteAt_append]

/-- Bits 0 and 2 of five flags in a byte. -/
theorem bit_flags (a b c x : Bool) : bit ((1 + 2 * b2n a + 4 * b2n b + 8 * b2n c + 16 * b2n x) % 256) 0 = true ∧
    bit ((1 + 2 * b2n a + 4 * b2n b + 8 * b2n c + 16 * b2n x) % 256) 2 = b := by
  revert a b c x
  decide

theorem Dev.streamReport_bits (d : Dev) (e : Stream) :
    bit (byteAt (d.streamReport e) 0) 0 = true ∧ bit (byteAt (d.streamReport e) 0) 2 = e.blocked := by
  rw [Dev.streamReport_flags]
  exact bit_flags _ _ _ _

/-! ## STR_OBSERVE_READ -/

/-- The oldest sequence number that the store of a port's observation holds, or the next one where it is empty. -/
def Observe.oldest (o : Observe) : Nat :=
  match o.records.head? with
  | some r => r.1
  | none => o.seq

/-- How many of the records lie before the number asked for; negative where it is gone. -/
def Observe.skipTo (o : Observe) (seq : Nat) : Int := signed 32 (seq + 2 ^ 32 - o.oldest)

/-- The records answered from a number on. -/
def Observe.readFrom (o : Observe) (seq count : Nat) : List (Nat × Bytes) := (o.records.drop (o.skipTo seq).toNat).take count

/-- STR_OBSERVE_READ's response. -/
def Observe.report (o : Observe) (seq count : Nat) : Bytes :=
  leb 2 (o.readFrom seq count).length ++ zeros 2 ++ leb 4 o.oldest ++ (o.readFrom seq count).flatMap (fun r => r.2)

/-- STR_OBSERVE_READ's work. -/
def observeReadBody (d : Dev) (o : Observe) (seq count : Nat) : Ans :=
  if o.skipTo seq < 0 then ansErrD d stNotFound o.oldest else ansOk d (o.report seq count)

theorem exec_strObserveRead (rq : Req) (s : State) : exec (.strObserveRead rq) s =
    onDev (Dev.serve 0x0509 rq (fun _ bs => 8 + 32 * byteAt bs 1) (fun d _ bs => withLayout d 8 [fr 0 1 0 49, fr 1 1 1 64, fa 4 4] bs
      (observeReadBody d (tabGet observe0 d.streams.observe (byteAt bs 0)) (le bs 4 4) (byteAt bs 1)))) s := rfl

section
variable {o : Observe} {x : Nat × Bytes} {rest : List (Nat × Bytes)}

theorem Observe.oldest_of_records (h : o.records = x :: rest) : o.oldest = x.1 := by
  simp only [Observe.oldest, h, List.head?_cons]

theorem Observe.skipTo_of_records (h : o.records = x :: rest) (seq : Nat) : o.skipTo seq = signed 32 (seq + 2 ^ 32 - x.1) := by
  rw [Observe.skipTo, Observe.oldest_of_records h]

theorem Observe.report_count {count : Nat} (hcount : count < 65536) (seq : Nat) :
    le (o.report seq count) 0 2 = min count (o.records.length - (o.skipTo seq).toNat) := by
  simp only [Observe.report, List.append_assoc]
  rw [le_count_head (by rw [Observe.readFrom, List.length_take]; omega), Observe.readFrom, List.length_take, List.length_drop]

theorem Observe.report_oldest (seq count : Nat) : le (o.report seq count) 4 4 = o.oldest % 2 ^ 32 := by
  rw [Observe.report, List.append_assoc, le_append_right _ _ (by simp)]
  exact le_leb_append 4 o.oldest _

end

end Sys2Proof.Machine
end

section
/-! SUPPORT. STR_FILTER_RESET, by the kind of entry it names (R160, R164, R166). -/

namespace Sys2Proof.Machine

open Sys2Proof

/-- STR_FILTER_RESET's work. -/
def filterResetBody (d : Dev) (kind i : Nat) : Ans :=
  match kind with
  | 0 =>
    if tabHas d.streams.table i then
      ansOk { d with streams := { d.streams with table := tabUpd d.streams.table i (fun e => { e with blocked := false }) } } []
    else ansErr d stNotFound
  | 1 =>
    if tabHas d.streams.meters i then
      ansOk { d with streams := { d.streams with meters := tabUpd d.streams.meters i (fun m => { m with latched := false }) } } []
    else ansErr d stNotFound
  | _ =>
    if 1023 < i then ansErr d stBadParam
    else if tabHas d.streams.recoveries i then
      ansOk { d with streams := { d.streams with
        recoveries := tabUpd d.streams.recoveries i (fun r => { r with takeAny := true, deadline := none }) } } []
    else ansErr d stNotFound

theorem exec_strFilterReset (rq : Req) (s : State) : exec (.strFilterReset rq) s =
    onDev (Dev.serve 0x050B rq (rspMax 0)
      (fun d _ bs => withLayout d 4 [fr 0 1 0 2, fr 2 2 0 4095] bs (filterResetBody d (byteAt bs 0) (le bs 2 2)))) s := rfl

variable {d : Dev} {i : Nat}

theorem filterReset_stream (h : tabHas d.streams.table i = true) : ∃ d', filterResetBody d 0 i = ansOk d' [] ∧
    d' = { d with streams := d'.streams } ∧ ∃ e, tabFind d'.streams.table i = some e ∧ e.blocked = false := by
  obtain ⟨e, he⟩ := tabFind_upd_of_has (fun e : Stream => { e with blocked := false }) h
  exact ⟨_, if_pos h, rfl, _, he, rfl⟩

theorem filterReset_meter (h : tabHas d.streams.meters i = true) : ∃ d', filterResetBody d 1 i = ansOk d' [] ∧
    d' = { d with streams := d'.streams } ∧ ∃ m, tabFind d'.streams.meters i = some m ∧ m.latched = false := by
  obtain ⟨m, hm⟩ := tabFind_upd_of_has (fun m : Meter => { m with latched := false }) h
  exact ⟨_, if_pos h, rfl, _, hm, rfl⟩

theorem filterReset_recovery (hi : i ≤ 1023) (h : tabHas d.streams.recoveries i = true) : ∃ d', filterResetBody d 2 i = ansOk d' [] ∧
    d' = { d with streams := d'.streams } ∧
    ∃ r, tabFind d'.streams.recoveries i = some r ∧ r.takeAny = true ∧ r.deadline = none := by
  obtain ⟨r, hr⟩ := tabFind_upd_of_has (fun r : Recovery => { r with takeAny := true, deadline := none }) h
  exact ⟨_, (if_neg (Nat.not_lt.mpr hi)).trans (if_pos h), rfl, _, hr, rfl, rfl⟩

theorem filterReset_noStream (h : tabHas d.streams.table i = false) : filterResetBody d 0 i = ansErr d stNotFound :=
  if_neg (Bool.eq_false_iff.mp h)

theorem filterReset_noMeter (h : tabHas d.streams.meters i = false) : filterResetBody d 1 i = ansErr d stNotFound :=
  if_neg (Bool.eq_false_iff.mp h)

end Sys2Proof.Machine
end

section
/-! The statement about the immediate stream commands. -/

namespace Sys2Proof.Machine

open Sys2Proof

/-- Settles O41, command by command. -/
theorem streamCommandsComplete : Obligations.StreamCommandsComplete := by
  refine ⟨?_, ?_, ?_, ?_, ?_, ?_⟩
  · refine completes_of_body exec_strFilterReset ?_
    rintro d rq bs ⟨hlen, hok, ⟨hkind, hhas⟩ | ⟨hkind, hhas⟩ | ⟨hkind, hlow, hhas⟩⟩
    · obtain ⟨d', hbody, hframe, hreset⟩ := filterReset_stream hhas
      exact ⟨d', [], (withLayout_ok _ hlen hok).trans (by rw [hkind, hbody]), rfl, hframe, fun _ => hreset, by omega, by omega⟩
    · obtain ⟨d', hbody, hframe, hreset⟩ := filterReset_meter hhas
      exact ⟨d', [], (withLayout_ok _ hlen hok).trans (by rw [hkind, hbody]), rfl, hframe, by omega, fun _ => hreset, by omega⟩
    · obtain ⟨d', hbody, hframe, hreset⟩ := filterReset_recovery hlow hhas
      exact ⟨d', [], (withLayout_ok _ hlen hok).trans (by rw [hkind, hbody]), rfl, hframe, by omega, by omega, fun _ => hreset⟩
  · refine refuses_of_body (by decide) exec_strFilterReset ?_
    rintro d rq bs ⟨hlen, hok, ⟨hkind, hnone⟩ | ⟨hkind, hnone⟩⟩
    · exact (withLayout_ok _ hlen hok).trans (hkind.symm ▸ filterReset_noStream hnone)
    · exact (withLayout_ok _ hlen hok).trans (hkind.symm ▸ filterReset_noMeter hnone)
  · refine completes_of_body exec_strGateStatus ?_
    rintro d rq bs ⟨hlen, hok⟩
    exact ⟨d, d.gateReport (byteAt bs 0), withLayout_ok _ hlen hok, rfl, d.gateReport_length _, d.gateReport_status _,
      d.gateReport_vector _⟩
  · refine completes_of_body exec_strStreamStatus ?_
    rintro d rq bs ⟨hlen, hok⟩
    cases hentry : tabFind d.streams.table (le bs 0 2) with
    | none =>
      exact ⟨d, zeros 16, (withLayout_ok _ hlen hok).trans (by rw [streamStatusBody, hentry]), rfl, rfl, fun _ => rfl, by simp⟩
    | some e =>
      refine ⟨d, d.streamReport e, (withLayout_ok _ hlen hok).trans (by rw [streamStatusBody, hentry]), rfl,
        d.streamReport_length e, by simp, ?_⟩
      rintro _ ⟨⟩
      exact d.streamReport_bits e
  · refine completes_of_body exec_strObserveRead ?_
    rintro d rq bs ⟨hlen, hok, o, x, rest, ho, hrecords, hthere⟩
    have hcount : byteAt bs 1 < 65536 := (bs.getD 1 0).isLt.trans (by decide)
    have hskip := Observe.skipTo_of_records hrecords (le bs 4 4)
    have hbody : observeReadBody d (tabGet observe0 d.streams.observe (byteAt bs 0)) (le bs 4 4) (byteAt bs 1) =
        ansOk d (o.report (le bs 4 4) (byteAt bs 1)) := by
      rw [tabGet, ho, Option.getD_some, observeReadBody, if_neg (by omega)]
    refine ⟨d, _, (withLayout_ok _ hlen hok).trans hbody, rfl, o, x, rest, ho, hrecords, ?_, ?_⟩
    · rw [Observe.report_count hcount, hskip]
    · rw [Observe.report_oldest, Observe.oldest_of_records hrecords]
  · refine refuses_of_body (by decide) exec_strObserveRead ?_
    rintro d rq bs ⟨hlen, hok, o, x, rest, ho, hrecords, hgone⟩
    have hskip := Observe.skipTo_of_records hrecords (le bs 4 4)
    refine (withLayout_ok _ hlen hok).trans ?_
    rw [tabGet, ho, Option.getD_some, observeReadBody, if_pos (by omega), Observe.oldest_of_records hrecords, hrecords,
      List.head?_cons]

end Sys2Proof.Machine
end

section
/-! SUPPORT. CUP_TRIP_CLEAR (R226), and what CUP_GROUP_STATUS and CUP_EXPANSION_READ answer (chapter 08, Commands). -/

namespace Sys2Proof.Machine

open Sys2Proof

/-! ## CUP_TRIP_CLEAR -/

/-- The pin of a group is released. -/
def Dev.releasePin (d : Dev) (g : Nat) : Dev := d.putCupola { d.cupola with pins := tabDel d.cupola.pins g }

/-- CUP_TRIP_CLEAR's work. -/
def tripClearBody (d : Dev) (g : Nat) : Ans :=
  match tabFind d.cupola.groups g with
  | none => ansErr d stNotFound
  | some x => if x.tripped then ansOk (d.clearTrip g x) [] else ansOk (d.releasePin g) []

theorem exec_cupTripClear (rq : Req) (s : State) : exec (.cupTripClear rq) s =
    onDev (Dev.serve 0x0704 rq (rspMax 0) (fun d _ bs => withLayout d 4 [fr 0 2 0 1023] bs (tripClearBody d (le bs 0 2)))) s := rfl

section
variable {d : Dev} {g : Nat} {x : Group}

theorem tripClearBody_none (hgroup : tabFind d.cupola.groups g = none) : tripClearBody d g = ansErr d stNotFound := by
  rw [tripClearBody, hgroup]

theorem tripClearBody_tripped (hgroup : tabFind d.cupola.groups g = some x) (htrip : x.tripped = true) :
    tripClearBody d g = ansOk (d.clearTrip g x) [] := by
  rw [tripClearBody, hgroup]
  exact if_pos htrip

theorem tripClearBody_untripped (hgroup : tabFind d.cupola.groups g = some x) (htrip : x.tripped = false) :
    tripClearBody d g = ansOk (d.releasePin g) [] := by
  rw [tripClearBody, hgroup]
  exact if_neg (Bool.eq_false_iff.mp htrip)

/-- Without a match in this tick the clear stands, and is reported. -/
theorem Dev.clearTrip_unmatched (hmatch : ∀ m, x.matched = some m → m.1 ≠ d.uptime) :
    d.clearTrip g x = ((d.releasePin g).modGroup g (fun y => { y with tripped := false })).post 0x0703 g 0 := by
  unfold Dev.clearTrip
  cases hm : x.matched with
  | none => simp [Dev.releasePin]
  | some m => simp [Dev.releasePin, hmatch m hm]

/-- A trip of this very tick is not cleared. -/
theorem Dev.clearTrip_sameTick {m : Nat × Nat} (hat : x.trippedAt = d.uptime) (hm : x.matched = some m) (htick : m.1 = d.uptime) :
    d.clearTrip g x = d := if_pos (by simp [hat, hm, htick])

theorem Dev.clearTrip_cupola (hmatch : ∀ m, x.matched = some m → m.1 ≠ d.uptime) :
    (d.clearTrip g x).cupola = { d.cupola with
      pins := tabDel d.cupola.pins g, groups := tabUpd d.cupola.groups g (fun y => { y with tripped := false }) } := by
  rw [Dev.clearTrip_unmatched hmatch, (Dev.posts_post _ _ _ _).cupola]
  rfl

/-- With no match in this tick the group ends not tripped and its pin released; a group not tripped loses nothing but its pin. -/
theorem tripClearBody_clears (hgroup : tabFind d.cupola.groups g = some x) (hmatch : ∀ m, x.matched = some m → m.1 ≠ d.uptime) :
    ∃ d' y, tripClearBody d g = ansOk d' [] ∧ tabFind d'.cupola.groups g = some y ∧ y.tripped = false ∧
      tabFind d'.cupola.pins g = none ∧ (x.tripped = false → d' = d.putCupola { d.cupola with pins := d'.cupola.pins }) := by
  cases htrip : x.tripped with
  | true =>
    refine ⟨_, { x with tripped := false }, tripClearBody_tripped hgroup htrip, ?_, rfl, ?_, by simp⟩
    · rw [Dev.clearTrip_cupola hmatch, tabFind_upd_same, hgroup]
      rfl
    · rw [Dev.clearTrip_cupola hmatch]
      exact tabFind_del_same _ _
  | false => exact ⟨_, x, tripClearBody_untripped hgroup htrip, hgroup, htrip, tabFind_del_same _ _, fun _ => rfl⟩

end

/-! ## CUP_GROUP_STATUS -/

/-- The flags of CUP_GROUP_STATUS for a valid group: valid, window open, tripped, packed. -/
def Dev.groupFlags (d : Dev) (g : Nat) (x : Group) : Nat :=
  1 + 2 * b2n (tabHas d.cupola.windows g) + 4 * b2n x.tripped + 8 * b2n (isPacked x.cfg)

/-- CUP_GROUP_STATUS's response for a valid group. -/
def Dev.groupReport (d : Dev) (g : Nat) (x : Group) : Bytes :=
  leb 1 (d.groupFlags g x) ++ zeros 1 ++ leb 2 x.leaves.length ++ leb 4 x.lastTag ++ leb 4 x.opened ++ leb 2 x.received ++
    zeros 2 ++ x.lastFolds.flatMap (fun v => leb 4 v)

/-- CUP_GROUP_STATUS's response where there is no group. -/
def Dev.noGroupReport (d : Dev) (g : Nat) : Bytes := leb 1 (2 * b2n (tabHas d.cupola.windows g)) ++ zeros 47

/-- CUP_GROUP_STATUS's work. -/
def groupStatusBody (d : Dev) (g : Nat) : Ans :=
  match tabFind d.cupola.groups g with
  | none => ansOk d (d.noGroupReport g)
  | some x => ansOk d (d.groupReport g x)

theorem exec_cupGroupStatus (rq : Req) (s : State) : exec (.cupGroupStatus rq) s =
    onDev (Dev.serve 0x0705 rq (rspMax 48) (fun d _ bs => withLayout d 4 [fr 0 2 0 1023] bs (groupStatusBody d (le bs 0 2)))) s := rfl

theorem Dev.noGroupReport_length (d : Dev) (g : Nat) : (d.noGroupReport g).length = 48 := by simp [Dev.noGroupReport]

theorem Dev.noGroupReport_bits (d : Dev) (g : Nat) : bit (byteAt (d.noGroupReport g) 0) 0 = false ∧
    bit (byteAt (d.noGroupReport g) 0) 1 = tabHas d.cupola.windows g := by
  have hflag : byteAt (d.noGroupReport g) 0 = 2 * b2n (tabHas d.cupola.windows g) % 256 := by
    simp [Dev.noGroupReport, byteAt_append]
  rw [hflag]
  cases tabHas d.cupola.windows g <;> decide

theorem Dev.groupReport_length {d : Dev} {g : Nat} {x : Group} (hfolds : x.lastFolds.length = 8) :
    (d.groupReport g x).length = 48 := by
  simp [Dev.groupReport, length_flatMap_of_const x.lastFolds (leb 4) 4 (by simp), hfolds]

/-- Bits 0 to 2 of four flags in a byte. -/
theorem bit_groupFlags (w t p : Bool) : bit ((1 + 2 * b2n w + 4 * b2n t + 8 * b2n p) % 256) 0 = true ∧
    bit ((1 + 2 * b2n w + 4 * b2n t + 8 * b2n p) % 256) 1 = w ∧ bit ((1 + 2 * b2n w + 4 * b2n t + 8 * b2n p) % 256) 2 = t := by
  revert w t p
  decide

theorem Dev.groupReport_bits (d : Dev) (g : Nat) (x : Group) : bit (byteAt (d.groupReport g x) 0) 0 = true ∧
    bit (byteAt (d.groupReport g x) 0) 1 = tabHas d.cupola.windows g ∧ bit (byteAt (d.groupReport g x) 0) 2 = x.tripped := by
  have hflags : byteAt (d.groupReport g x) 0 = d.groupFlags g x % 256 := by simp [Dev.groupReport, byteAt_append]
  rw [hflags]
  exact bit_groupFlags _ _ _

theorem Dev.groupReport_tag (d : Dev) (g : Nat) (x : Group) : le (d.groupReport g x) 4 4 = x.lastTag % 2 ^ 32 := by
  simp only [Dev.groupReport, List.append_assoc]
  rw [le_append_right _ _ (by simp), le_append_right _ _ (by simp), le_append_right _ _ (by simp)]
  simpa using le_leb_append 4 x.lastTag _

/-! ## CUP_EXPANSION_READ -/

/-- The leaves of a group from an index on, each with its index. -/
def Group.leavesFrom (x : Group) (start : Nat) : List (Leaf × Nat) := x.leaves.zipIdx.drop start

/-- The index of the next leaf that a read does not answer, or 0xFFFF. -/
def Group.nextLeaf (x : Group) (start count : Nat) : Nat :=
  if (x.leavesFrom start).length ≤ count then 0xFFFF else start + count

/-- CUP_EXPANSION_READ's response. -/
def Group.expansion (x : Group) (start count : Nat) : Bytes :=
  leb 2 ((x.leavesFrom start).take count).length ++ leb 2 (x.nextLeaf start count) ++ zeros 4 ++
    ((x.leavesFrom start).take count).flatMap leafRecord

/-- CUP_EXPANSION_READ's work. -/
def expansionReadBody (d : Dev) (g start count : Nat) : Ans :=
  match tabFind d.cupola.groups g with
  | none => ansErr d stNotFound
  | some x => ansOk d (x.expansion start count)

theorem exec_cupExpansionRead (rq : Req) (s : State) : exec (.cupExpansionRead rq) s =
    onDev (Dev.serve 0x0706 rq (fun _ bs => 8 + 32 * byteAt bs 4) (fun d _ bs =>
      withLayout d 8 [fr 0 2 0 1023, fr 2 2 0 1023, fr 4 1 1 127] bs
        (expansionReadBody d (le bs 0 2) (le bs 2 2) (byteAt bs 4)))) s := rfl

theorem Group.leavesFrom_length (x : Group) (start : Nat) : (x.leavesFrom start).length = x.leaves.length - start := by
  simp [Group.leavesFrom]

theorem Group.nextLeaf_of_last {x : Group} {start count : Nat} (h : x.leaves.length ≤ start + count) :
    x.nextLeaf start count = 0xFFFF :=
  if_pos (by rw [Group.leavesFrom_length]; omega)

theorem Group.expansion_count (x : Group) (start : Nat) {count : Nat} (hcount : count < 65536) :
    le (x.expansion start count) 0 2 = min count (x.leaves.length - start) := by
  simp only [Group.expansion, List.append_assoc]
  rw [le_count_head (by rw [List.length_take]; omega), List.length_take, Group.leavesFrom_length]

theorem Group.expansion_next (x : Group) (start count : Nat) :
    le (x.expansion start count) 2 2 = x.nextLeaf start count % 65536 := by
  simp only [Group.expansion, List.append_assoc]
  rw [le_append_right _ _ (by simp)]
  simpa using le_leb_append 2 (x.nextLeaf start count) _

end Sys2Proof.Machine
end

section
/-! SUPPORT. The stored admission report's payload (R206). -/

namespace Sys2Proof.Machine

open Sys2Proof

theorem AdmReport.payload_count (r : AdmReport) (k start : Nat) {most : Nat} (hmost : most < 65536) :
    le (r.payload k start most) 0 2 = min most ((r.scope k).length - start) := by
  simp only [AdmReport.payload, List.append_assoc]
  rw [le_count_head (by rw [List.length_take]; omega), List.length_take, List.length_drop]

theorem AdmReport.payload_total (r : AdmReport) (k start most : Nat) :
    le (r.payload k start most) 2 2 = min (r.scope k).length 65535 := by
  simp only [AdmReport.payload, List.append_assoc]
  rw [le_append_right _ _ (by simp), leb_length]
  exact le_count_head (by omega) _

theorem AdmReport.payload_paths (r : AdmReport) (k start most : Nat) : le (r.payload k start most) 4 4 = r.paths % 2 ^ 32 := by
  simp only [AdmReport.payload, List.append_assoc]
  rw [le_append_right _ _ (by simp), le_append_right _ _ (by simp)]
  simpa using le_leb_append 4 r.paths _

/-- ADM_REPORT_READ's fields: a response in memory holds more records. -/
def reportReadFields (bulk : Bool) : List Fld := [fr 0 1 0 2, fa 2 2, fr 4 2 1 (if bulk then 65535 else 127)]

/-- ADM_REPORT_READ's work. -/
def reportReadBody (d : Dev) (k start most : Nat) : Ans :=
  match d.adm.report with
  | none => ansErr d stNotFound
  | some r => ansOk d (r.payload k start most)

theorem exec_admReportRead (rq : Req) (s : State) : exec (.admReportRead rq) s =
    onDev (Dev.serve 0x0607 rq (fun _ bs => 16 + 32 * le bs 4 2) (fun d _ bs =>
      withLayout d 8 (reportReadFields (reqBulkRsp rq)) bs (reportReadBody d (byteAt bs 0) (le bs 2 2) (le bs 4 2)))) s := rfl

/-- The number of records asked for fits its two bytes. -/
theorem reportRead_most_lt {bulk : Bool} {bs : Bytes} (hok : layoutOk (reportReadFields bulk) bs = true) : le bs 4 2 < 65536 := by
  have hmax : le bs 4 2 ≤ if bulk then 65535 else 127 :=
    (layoutOk_field hok (f := fr 4 2 1 (if bulk then 65535 else 127)) (by simp [reportReadFields])).2
  split at hmax <;> omega

end Sys2Proof.Machine
end

section
/-! The statement about the queries of chapters 07 and 08. -/

namespace Sys2Proof.Machine

open Sys2Proof

/-- Settles O43, command by command. -/
theorem cupolaAndAdmissionQueriesComplete : Obligations.CupolaAndAdmissionQueriesComplete := by
  refine ⟨?_, ?_, ?_, ?_, ?_, ?_, ?_, ?_⟩
  · refine completes_of_body exec_cupTripClear ?_
    rintro d rq bs ⟨hlen, hok, x, hgroup, hmatch⟩
    obtain ⟨d', y, hbody, hfound, hclear, hpin, hframe⟩ := tripClearBody_clears hgroup hmatch
    exact ⟨d', [], (withLayout_ok _ hlen hok).trans hbody, rfl, x, y, hgroup, hfound, hclear, hpin, hframe⟩
  · refine completes_of_body exec_cupTripClear ?_
    rintro d rq bs ⟨hlen, hok, x, hgroup, htrip, hat, m, hm, htick⟩
    have hbody := tripClearBody_tripped hgroup htrip
    rw [Dev.clearTrip_sameTick hat hm htick] at hbody
    exact ⟨d, [], (withLayout_ok _ hlen hok).trans hbody, rfl, rfl⟩
  · refine refuses_of_body (by decide) exec_cupTripClear ?_
    rintro d rq bs ⟨hlen, hok, hnone⟩
    exact (withLayout_ok _ hlen hok).trans (tripClearBody_none hnone)
  · refine completes_of_body exec_cupGroupStatus ?_
    rintro d rq bs ⟨hlen, hok, hfolds⟩
    cases hgroup : tabFind d.cupola.groups (le bs 0 2) with
    | none =>
      obtain ⟨hvalid, hopen⟩ := d.noGroupReport_bits (le bs 0 2)
      exact ⟨d, _, (withLayout_ok _ hlen hok).trans (by rw [groupStatusBody, hgroup]), rfl, d.noGroupReport_length _,
        by rw [hvalid, tabHas, hgroup, Option.isSome_none], hopen, by simp⟩
    | some x =>
      obtain ⟨hvalid, hopen, htrip⟩ := d.groupReport_bits (le bs 0 2) x
      refine ⟨d, _, (withLayout_ok _ hlen hok).trans (by rw [groupStatusBody, hgroup]), rfl,
        Dev.groupReport_length (hfolds x hgroup), by rw [hvalid, tabHas, hgroup, Option.isSome_some], hopen, ?_⟩
      rintro _ ⟨⟩
      exact ⟨htrip, d.groupReport_tag _ x⟩
  · refine completes_of_body exec_cupExpansionRead ?_
    rintro d rq bs ⟨hlen, hok, hhas⟩
    obtain ⟨x, hgroup⟩ := Option.isSome_iff_exists.mp hhas
    have hcount : byteAt bs 4 < 65536 := (bs.getD 4 0).isLt.trans (by decide)
    refine ⟨d, _, (withLayout_ok _ hlen hok).trans (by rw [expansionReadBody, hgroup]), rfl, x, hgroup,
      x.expansion_count _ hcount, fun hlast => ?_⟩
    rw [x.expansion_next, Group.nextLeaf_of_last hlast]
  · refine refuses_of_body (by decide) exec_cupExpansionRead ?_
    rintro d rq bs ⟨hlen, hok, hnone⟩
    exact (withLayout_ok _ hlen hok).trans (by rw [expansionReadBody, hnone]; rfl)
  · rintro s rq t d r hadm ⟨hlen, hok, hstored⟩
    obtain ⟨report, hreport⟩ := Option.isSome_iff_exists.mp hstored
    refine ⟨d, _, ?_, rfl, report, hreport, report.payload_paths _ _ _, report.payload_total _ _ _,
      report.payload_count _ _ (reportRead_most_lt hok)⟩
    rw [Runs, exec_admReportRead, onDev, Dev.serve_done hadm ((withLayout_ok _ hlen hok).trans (by rw [reportReadBody, hreport]; rfl))]
  · rintro s rq t d r hadm ⟨hlen, hok, hnone⟩
    rw [Runs, exec_admReportRead, onDev,
      Dev.serve_refused hadm ((withLayout_ok _ hlen hok).trans (by rw [reportReadBody, hnone]; rfl)) (by decide)]

end Sys2Proof.Machine
end

section
/-! SUPPORT. SGE channel by channel and PDU by PDU: what is read after a change, and the shared operations that leave all of SGE
as it is (chapter 09). -/

namespace Sys2Proof.Machine

open Sys2Proof

/-- A step whose work comes to a block leads to that block. -/
theorem runs_of_eq {c : Instr} {s : State} {d d' : Dev} (hrun : Runs c s d) (h : d = d') : Runs c s d' := h ▸ hrun

/-! ## Reads after changes -/

@[simp] theorem Dev.putGateway_gateway (d : Dev) (g : Gateway) : (d.putGateway g).gateway = g := rfl

@[simp] theorem Dev.modCan_canCh (d : Dev) (k : Nat) (f : CanCh → CanCh) : (d.modCan k f).canCh k = f (d.canCh k) :=
  tabGet_put_same ..

@[simp] theorem Dev.modSerial_serialCh (d : Dev) (k : Nat) (f : SerialCh → SerialCh) : (d.modSerial k f).serialCh k = f (d.serialCh k) :=
  tabGet_put_same ..

theorem Dev.modDst_find {d : Dev} {i : Nat} {q : DstPdu} (h : tabFind d.gateway.dsts i = some q) (f : DstPdu → DstPdu) :
    tabFind (d.modDst i f).gateway.dsts i = some (f q) := (tabFind_upd_same ..).trans (by rw [h, Option.map_some])

theorem Dev.modSrc_find {d : Dev} {i : Nat} {q : SrcPdu} (h : tabFind d.gateway.srcs i = some q) (f : SrcPdu → SrcPdu) :
    tabFind (d.modSrc i f).gateway.srcs i = some (f q) := (tabFind_upd_same ..).trans (by rw [h, Option.map_some])

theorem Dev.canCh_congr {d d' : Dev} (h : d'.gateway = d.gateway) (k : Nat) : d'.canCh k = d.canCh k := by rw [Dev.canCh, h, Dev.canCh]

theorem Dev.serialCh_congr {d d' : Dev} (h : d'.gateway.serial = d.gateway.serial) (k : Nat) : d'.serialCh k = d.serialCh k := by
  rw [Dev.serialCh, h, Dev.serialCh]

/-- What events and counts leave of the channels. -/
theorem Dev.Posts.canCh {d d' : Dev} (h : d.Posts d') (k : Nat) : d'.canCh k = d.canCh k := Dev.canCh_congr h.gateway k

theorem Dev.Posts.serialCh {d d' : Dev} (h : d.Posts d') (k : Nat) : d'.serialCh k = d.serialCh k :=
  Dev.serialCh_congr (congrArg Gateway.serial h.gateway) k

/-! ## Wakes and keep-alives -/

/-- `d'` is `d` but for the host interface, Lantern, the twin unit and what was driven to the outside: all that an event, a wake or a
keep-alive changes. -/
def Dev.Stirs (d d' : Dev) : Prop := ∃ h l t o, d' = { d with host := h, lantern := l, twin := t, outs := o }

theorem Dev.Stirs.refl (d : Dev) : d.Stirs d := ⟨_, _, _, _, rfl⟩

theorem Dev.Stirs.trans {a b c : Dev} (h1 : a.Stirs b) (h2 : b.Stirs c) : a.Stirs c := by
  obtain ⟨_, _, _, _, rfl⟩ := h1
  obtain ⟨h, l, t, o, rfl⟩ := h2
  exact ⟨h, l, t, o, rfl⟩

theorem Dev.Posts.stirs {d d' : Dev} (h : d.Posts d') : d.Stirs d' := by
  obtain ⟨_, _, _, rfl⟩ := h
  exact ⟨_, _, _, _, rfl⟩

theorem Dev.Stirs.gateway {d d' : Dev} (h : d.Stirs d') : d'.gateway = d.gateway := by obtain ⟨_, _, _, _, rfl⟩ := h; rfl
theorem Dev.Stirs.uptime {d d' : Dev} (h : d.Stirs d') : d'.uptime = d.uptime := by obtain ⟨_, _, _, _, rfl⟩ := h; rfl

theorem Dev.Stirs.overBus {d d' : Dev} (h : d.Stirs d') (t : Nat) : d'.overBus t = d.overBus t := by rw [Dev.overBus, h.uptime, Dev.overBus]

theorem Dev.Stirs.foldl {α : Type} {f : Dev → α → Dev} (hf : ∀ (e : Dev) x, e.Stirs (f e x)) (l : List α) (d : Dev) :
    d.Stirs (l.foldl f d) := List.foldlRecOn l f (.refl d) (fun e h x _ => h.trans (hf e x))

theorem Dev.stirs_lantern (d : Dev) (l : Lantern) : d.Stirs { d with lantern := l } := ⟨_, _, _, _, rfl⟩

theorem Dev.stirs_post (d : Dev) (code object data : Nat) : d.Stirs (d.post code object data) := (d.posts_post code object data).stirs

theorem Dev.stirs_count (d : Dev) (cls i : Nat) : d.Stirs (d.count cls i) := (d.posts_count cls i).stirs

theorem Dev.stirs_setPower (d : Dev) (ps : PowerState) (src : Nat) : d.Stirs (d.setPower ps src) := by
  unfold Dev.setPower
  split
  · exact .refl d
  · exact .trans (b := { d with lantern := { d.lantern with power := ps }, twin := { d.twin with sleepDirty := true } })
      ⟨_, _, _, _, rfl⟩ (Dev.stirs_post _ _ _ _)

theorem Dev.stirs_settlePower (d : Dev) : d.Stirs d.settlePower := by
  unfold Dev.settlePower
  split
  · exact d.stirs_setPower _ _
  · exact .refl d

theorem Dev.stirs_setDomain (d : Dev) (n : Nat) (st : DomainState) (src : Nat) : d.Stirs (d.setDomain n st src) := by
  unfold Dev.setDomain
  split
  · exact .refl d
  · rename_i m _
    extract_lets d1
    have h1 : d.Stirs d1 := .trans (d.stirs_lantern _) (Dev.stirs_post _ _ _ _)
    exact h1.trans (.trans ⟨_, _, _, _, rfl⟩ (Dev.stirs_settlePower _))

theorem Dev.stirs_cancelSleep (d : Dev) (n : Nat) : d.Stirs (d.cancelSleep n) :=
  (d.stirs_setDomain _ _ _).trans (.trans (Dev.stirs_lantern _ _) (.trans (Dev.stirs_lantern _ _) (Dev.stirs_count _ _ _)))

theorem Dev.stirs_latchWake (d : Dev) (target src : Nat) : d.Stirs (d.latchWake target src) := by
  unfold Dev.latchWake
  dsimp only
  split
  · exact (d.stirs_lantern _).trans (Dev.stirs_count _ _ _)
  · exact d.stirs_lantern _

theorem Dev.stirs_leaveDoze (d : Dev) (src : Nat) : d.Stirs (d.leaveDoze src) := by
  have hposted : ∀ e : Dev, e.Stirs e.postDeferred := fun e =>
    (e.stirs_lantern _).trans (.foldl (fun e _ => (e.posts_postAt _ _ _ _).stirs) _ _)
  exact .trans (d.stirs_lantern _) ((hposted _).trans (Dev.stirs_post _ _ _ _))

theorem Dev.stirs_beginWaking (d : Dev) (n src : Nat) : d.Stirs (d.beginWaking n src) := by
  unfold Dev.beginWaking
  extract_lets d1
  have h1 : d.Stirs d1 := by
    simp only [d1]
    split
    · exact d.stirs_lantern _
    · exact .refl d
  exact h1.trans ((d1.stirs_setDomain _ _ _).trans (.trans (Dev.stirs_lantern _ _) (Dev.stirs_count _ _ _)))

theorem Dev.stirs_wake (d : Dev) (target src : Nat) : d.Stirs (d.wake target src) := by
  unfold Dev.wake
  extract_lets d1
  have h1 : d.Stirs d1 := by
    simp only [d1]
    split
    · exact (d.stirs_lantern _).trans (Dev.stirs_leaveDoze _ _)
    · exact .refl d
  split
  · exact d.stirs_latchWake _ _
  · split
    · exact h1
    · split
      · exact h1
      · exact h1
      · split
        · exact h1.trans (Dev.stirs_latchWake _ _ _)
        · exact h1.trans (Dev.stirs_cancelSleep _ _)
      · split
        · exact h1.trans (.trans (Dev.stirs_lantern _ _) (Dev.stirs_beginWaking _ _ _))
        · exact h1.trans (Dev.stirs_latchWake _ _ _)

theorem Dev.stirs_keepAlive (d : Dev) (n : Nat) : d.Stirs (d.keepAlive n) := by
  unfold Dev.keepAlive
  split
  · exact .refl d
  · split
    · exact d.stirs_lantern _
    · split
      · exact .refl d
      · exact d.stirs_cancelSleep n
    · exact .refl d
    · exact .refl d

theorem Dev.stirs_holdPort (d : Dev) (p : Nat) : d.Stirs (d.holdPort p) := by
  unfold Dev.holdPort
  split
  · exact d.stirs_wake _ _
  · exact .refl d

theorem Dev.stirs_portKeepAlive (d : Dev) (p : Nat) : d.Stirs (d.portKeepAlive p) := by
  unfold Dev.portKeepAlive
  split
  · exact .refl d
  · split
    · split
      · exact d.stirs_keepAlive _
      · exact .refl d
    · exact .refl d

theorem Dev.stirs_unsolicited (d : Dev) (k : Nat) : d.Stirs (d.unsolicited k) := by
  unfold Dev.unsolicited
  split
  · exact (d.posts_busViolation _ _ _).stirs
  · exact .refl d

theorem Dev.stirs_pduSent (d : Dev) (pdu : Nat) : d.Stirs (d.pduSent pdu) :=
  .foldl (fun e _ => by
    split
    · exact e.stirs_lantern _
    · exact .refl e) _ _

/-! ## What sends change of SGE -/

/-- A frame that enters the fabric at an internal port leaves SGE as it is. -/
@[simp] theorem Dev.injectAt_gateway (d : Dev) (port : Nat) (bs : Bytes) (time ring : Nat) :
    (d.injectAt port bs time ring).gateway = d.gateway := by
  unfold Dev.injectAt Dev.injectTs Dev.fifoPut
  dsimp only
  split
  · rename_i heq
    split at heq
    · cases heq
      rfl
    · cases heq
  · rfl

/-- A frame for a channel's buffers changes the CAN channels alone. -/
theorem Dev.canFill_gateway (d : Dev) (k : Nat) (t : CanTx) : ∃ c, (d.canFill k t).gateway = { d.gateway with can := c } := by
  unfold Dev.canFill
  extract_lets c held
  repeat' split
  all_goals exact ⟨_, rfl⟩

/-- A frame of a PDU changes the CAN channels and the destination PDUs alone. -/
theorem Dev.sendUnit_gateway (d : Dev) (i : Nat) (u : PduUnit) :
    ∃ c t, (d.sendUnit i u).gateway = { d.gateway with can := c, dsts := t } := by
  unfold Dev.sendUnit
  split
  · exact ⟨_, _, Dev.injectAt_gateway _ _ _ _ _⟩
  · obtain ⟨c, hc⟩ := (d.noteSend i).canFill_gateway _ _
    exact ⟨c, _, hc⟩

theorem Dev.offer_gateway (d : Dev) (i : Nat) (u : PduUnit) :
    ∃ c t, (d.offer i u).gateway = { d.gateway with can := c, dsts := t } := by
  unfold Dev.offer
  split
  · exact ⟨_, _, rfl⟩
  · split
    · exact ⟨_, _, rfl⟩
    · exact d.sendUnit_gateway i u

theorem Dev.offer_serial (d : Dev) (i : Nat) (u : PduUnit) : (d.offer i u).gateway.serial = d.gateway.serial := by
  obtain ⟨_, _, h⟩ := d.offer_gateway i u
  rw [h]

theorem Dev.offer_srcs (d : Dev) (i : Nat) (u : PduUnit) : (d.offer i u).gateway.srcs = d.gateway.srcs := by
  obtain ⟨_, _, h⟩ := d.offer_gateway i u
  rw [h]

end Sys2Proof.Machine
end

section
/-! SUPPORT. Characters received by a serial channel, and the messages of a raw one (R245 to R247). -/

namespace Sys2Proof.Machine

open Sys2Proof

/-! ## SERIAL_CHAR_RECEIVED -/

/-- The channel hears its line: it is one of the eight, in use, awake, and does not drive the line itself (R246). -/
structure Dev.Hears (d : Dev) (k : Nat) : Prop where
  channel : k < 8
  used : (d.serialCh k).mode ≠ 0
  awake : d.portSleeping (serialPort k) = false
  idle : (d.serialCh k).driving d.uptime = false

theorem serialChar_discarded {d : Dev} {k : Nat} (x : SerialChar) (h : 8 ≤ k ∨ (d.serialCh k).mode = 0 ∨
    d.portSleeping (serialPort k) = true ∨ (d.serialCh k).driving d.uptime = true) : serialChar k x d = d :=
  if_pos (by simpa [or_assoc] using h)

theorem Dev.Hears.not_discarded {d : Dev} {k : Nat} (h : d.Hears k) : (decide (8 ≤ k) || (d.serialCh k).mode == 0 ||
    d.portSleeping (serialPort k) || (d.serialCh k).driving d.uptime) = false := by
  simp [h.channel, h.used, h.awake, h.idle]

/-- What is counted and posted of a character that is no break. -/
def Dev.charNoted (d : Dev) (k : Nat) (x : SerialChar) : Dev :=
  let d1 := if (d.serialCh k).mode == 2 then d.countSl k 0 else d
  let d2 := if x.parity then (d1.countSl k 4).serialError k 1 else d1
  if x.framing then (d2.countSl k 5).serialError k 2 else d2

/-- An error of a channel is counted, and may be posted. -/
theorem Dev.posts_serialFault (d : Dev) (k n kind : Nat) : d.Posts ((d.countSl k n).serialError k kind) :=
  (d.posts_count _ _).trans (Dev.posts_postLimited _ _ _ _ _)

theorem Dev.posts_charNoted (d : Dev) (k : Nat) (x : SerialChar) : d.Posts (d.charNoted k x) := by
  unfold Dev.charNoted
  extract_lets d1 d2
  have h1 : d.Posts d1 := by
    simp only [d1]
    split
    · exact d.posts_count _ _
    · exact .refl d
  have h2 : d.Posts d2 := by
    simp only [d2]
    split
    · exact h1.trans (Dev.posts_serialFault _ _ _ _)
    · exact h1
  split
  · exact h2.trans (Dev.posts_serialFault _ _ _ _)
  · exact h2

section
variable {d : Dev} {k : Nat} {x : SerialChar} (h : d.Hears k)
include h

theorem serialChar_break (hbrk : x.brk = true) :
    serialChar k x d = ((d.modSerial k (fun c => { c with brk := true })).countSl k 7).serialError k 4 := by
  simp only [serialChar, h.not_discarded, hbrk, Bool.false_eq_true, if_false, if_true]

theorem serialChar_notRaw (hbrk : x.brk = false) (hmode : (d.serialCh k).mode ≠ 2) : serialChar k x d = d.charNoted k x := by
  simp only [serialChar, h.not_discarded, hbrk, bne_iff_ne.mpr hmode, Bool.false_eq_true, if_false, if_true]
  rfl

theorem serialChar_full (hbrk : x.brk = false) (hmode : (d.serialCh k).mode = 2) (hfull : 4096 ≤ (d.serialCh k).rx.length) :
    serialChar k x d = (((d.charNoted k x).modSerial k (fun c => { c with lost := true })).countSl k 6).serialError k 3 := by
  have hraw : ((d.serialCh k).mode != 2) = false := by simp [hmode]
  simp only [serialChar, h.not_discarded, hbrk, hraw, hfull, Bool.false_eq_true, if_false, if_true, Dev.charNoted]

theorem serialChar_kept (hbrk : x.brk = false) (hmode : (d.serialCh k).mode = 2) (hroom : (d.serialCh k).rx.length < 4096) :
    serialChar k x d = (d.charNoted k x).modSerial k (fun c => { c with
      rx := c.rx ++ [HeldChar.mk x.value (b2n (d.serialCh k).brk + 2 * b2n x.parity + 4 * b2n x.framing)
        (d.now - (d.serialCh k).charsNs 1) d.uptime], brk := false }) := by
  have hraw : ((d.serialCh k).mode != 2) = false := by simp [hmode]
  simp only [serialChar, h.not_discarded, hbrk, hraw, Nat.not_le.mpr hroom, Bool.false_eq_true, if_false, Dev.charNoted]

end

/-! ## RAW_MESSAGE_CLOSE -/

/-- The characters that a message closed now would take. -/
def SerialCh.message (c : SerialCh) : List HeldChar := c.rx.take (le c.cfg 0x0A 2)

/-- The end of the idle gap after a character. -/
def SerialCh.gapAfter (c : SerialCh) (x : HeldChar) : Nat := x.ends + c.halfChars (byteAt c.cfg 9)

/-- The channel after it has closed a message: the characters have left, nothing is lost, the sequence number is the next. -/
def SerialCh.closed (c : SerialCh) : SerialCh :=
  { c with rx := c.rx.drop c.message.length, lost := false, seq := (c.seq + 1) % 65536 }

/-- The block after a channel has closed a message, without what the message's frame changes. -/
def Dev.messageClosed (d : Dev) (k : Nat) : Dev :=
  (((d.modSerial k (fun c => { c with
    rx := c.rx.drop (d.serialCh k).message.length, lost := false, seq := (c.seq + 1) % 65536 })).countSl k 2).portKeepAlive
      (serialPort k)).unsolicited k

theorem Dev.messageClosed_serialCh (d : Dev) (k : Nat) : (d.messageClosed k).serialCh k = (d.serialCh k).closed := by
  have hstirs := (Dev.stirs_portKeepAlive ((d.modSerial k (fun c => { c with
    rx := c.rx.drop (d.serialCh k).message.length, lost := false, seq := (c.seq + 1) % 65536 })).countSl k 2) (serialPort k)).trans
      (Dev.stirs_unsolicited _ k)
  exact (Dev.serialCh_congr (congrArg Gateway.serial hstirs.gateway) k).trans (d.modSerial_serialCh k _)

theorem rawClose_empty {d : Dev} {k : Nat} (h : (d.serialCh k).message = []) : rawClose k d = d := by
  rw [SerialCh.message] at h
  simp only [rawClose, h, List.getLast?_nil]

section
variable {d : Dev} {k : Nat} {last : HeldChar} (hlast : (d.serialCh k).message.getLast? = some last)
include hlast

theorem rawClose_open (hroom : (d.serialCh k).rx.length < le (d.serialCh k).cfg 0x0A 2)
    (hgap : d.uptime < (d.serialCh k).gapAfter last) : rawClose k d = d := by
  rw [SerialCh.message] at hlast
  rw [SerialCh.gapAfter] at hgap
  simp only [rawClose, hlast, Nat.not_le.mpr hroom, hgap, decide_false, decide_true, Bool.not_false, Bool.and_self, Bool.or_true,
    if_true]

theorem rawClose_closes (hmode : (d.serialCh k).mode = 2)
    (hend : le (d.serialCh k).cfg 0x0A 2 ≤ (d.serialCh k).rx.length ∨ (d.serialCh k).gapAfter last ≤ d.uptime) :
    (rawClose k d).serialCh k = (d.serialCh k).closed := by
  have hclosing : ((d.serialCh k).mode != 2 || (!decide (le (d.serialCh k).cfg 0x0A 2 ≤ (d.serialCh k).rx.length) &&
      decide (d.uptime < (d.serialCh k).gapAfter last))) = false := by
    obtain hfull | hgap := hend
    · simp [hmode, hfull]
    · simp [hmode, Nat.not_lt.mpr hgap]
  rw [← Dev.messageClosed_serialCh]
  rw [SerialCh.message] at hlast
  rw [SerialCh.gapAfter] at hclosing
  rw [Dev.messageClosed, SerialCh.message]
  simp only [rawClose, hlast, hclosing, Bool.false_eq_true, if_false]
  split
  · split
    · exact Dev.serialCh_congr (Dev.offer_serial _ _ _) k
    · rfl
  · rfl

end

end Sys2Proof.Machine
end

section
/-! SUPPORT. The poll engine: due times, the start of a transaction, its answers and its end (R249 to R252). -/

namespace Sys2Proof.Machine

open Sys2Proof

/-! ## POLL_DUE -/

theorem pollDue_unscheduled {d : Dev} {e : Nat} (h : ∀ q, tabFind d.gateway.polls e = some q → q.period = none) : pollDue e d = d := by
  unfold pollDue
  split
  · rfl
  · rename_i q hq
    rw [h q hq]

/-- The block with an entry's next due time on its grid. -/
def Dev.pollMoved (d : Dev) (e cycle phase : Nat) : Dev :=
  d.putGateway { d.gateway with polls := tabUpd d.gateway.polls e (fun x => { x with nextDue := gridFrom phase cycle (d.now + 1) }) }

@[simp] theorem Dev.pollMoved_serialCh (d : Dev) (e cycle phase k : Nat) : (d.pollMoved e cycle phase).serialCh k = d.serialCh k := rfl

section
variable {d : Dev} {e cycle phase : Nat} {q : PollEntry} (hq : tabFind d.gateway.polls e = some q)
  (hp : q.period = some (cycle, phase))
include hq hp

theorem pollDue_early (h : d.now < q.nextDue) : pollDue e d = d := by
  simp only [pollDue, hq, hp, h, if_true]

theorem pollDue_queues (h : q.nextDue ≤ d.now) (hmode : (d.serialCh q.channel).mode = 1)
    (hawake : d.portSleeping (serialPort q.channel) = false) (hnew : ∀ x ∈ (d.serialCh q.channel).due, x.2 ≠ e) :
    pollDue e d = (d.pollMoved e cycle phase).modSerial q.channel (fun x => { x with due := x.due ++ [(q.nextDue, e)] }) := by
  have hfree : ((d.serialCh q.channel).due.any (fun x => x.2 == e)) = false := by simpa using hnew
  simp only [pollDue, hq, hp, Nat.not_lt.mpr h, hmode, hawake, hfree, bne_self_eq_false, Bool.or_self, Bool.false_eq_true, if_false,
    Dev.pollMoved]

/-- Whatever becomes of the poll, the entry is next due on its grid. -/
theorem pollDue_moves (h : q.nextDue ≤ d.now) : ∃ q', tabFind (pollDue e d).gateway.polls e = some q' ∧
    q'.nextDue = gridFrom phase cycle (d.now + 1) := by
  have hpolls : (pollDue e d).gateway.polls = (d.pollMoved e cycle phase).gateway.polls := by
    simp only [pollDue, hq, hp, Nat.not_lt.mpr h, if_false]
    split
    · rfl
    · split <;> rfl
  refine ⟨{ q with nextDue := gridFrom phase cycle (d.now + 1) }, ?_, rfl⟩
  rw [hpolls, Dev.pollMoved, Dev.putGateway_gateway, tabFind_upd_same, hq, Option.map_some]

end

/-! ## POLL_TRANSACTION_START -/

theorem SerialCh.nextTxn_retry {c : SerialCh} {r : PollTxn} (h : c.retry = some r) (up : Nat) :
    c.nextTxn up = some ({ r with attempt := r.attempt + 1 }, { c with retry := none }) := by
  simp only [SerialCh.nextTxn, h]

theorem SerialCh.nextTxn_onDemand {c : SerialCh} {e : Nat} {rest : List Nat} (hretry : c.retry = none)
    (h : c.onDemand = e :: rest) (up : Nat) :
    c.nextTxn up = some ({ entry := e, onDemand := true, attempt := 1, deadline := 0, started := up },
      { c with onDemand := rest }) := by
  simp only [SerialCh.nextTxn, hretry, h]

/-- A channel that starts a transaction has no retry left. -/
theorem SerialCh.nextTxn_noRetry {c c' : SerialCh} {up : Nat} {t : PollTxn} (h : c.nextTxn up = some (t, c')) : c'.retry = none := by
  cases hretry : c.retry with
  | some r =>
    rw [c.nextTxn_retry hretry] at h
    cases h
    rfl
  | none =>
    simp only [SerialCh.nextTxn, hretry] at h
    split at h
    · cases h
      rfl
    · split at h
      · cases h
        rfl
      · cases h

theorem pollStart_waits {d : Dev} {k : Nat} (h : (d.serialCh k).mode ≠ 1 ∨ (d.serialCh k).txn.isSome = true ∨
    d.uptime < (d.serialCh k).readyAt ∨ d.portSleeping (serialPort k) = true ∨ d.mayDrive = false ∨
    (d.serialCh k).nextTxn d.uptime = none) : pollStart k d = d := by
  unfold pollStart
  dsimp only
  split
  · rfl
  · rename_i hguard
    have hnone : (d.serialCh k).nextTxn d.uptime = none := by
      simp only [Bool.or_eq_true, bne_iff_ne, decide_eq_true_eq, Bool.not_eq_true'] at hguard
      tauto
    rw [hnone]

/-- The block with a serial channel in a state. -/
def Dev.putSerial (d : Dev) (k : Nat) (c : SerialCh) : Dev := d.putGateway { d.gateway with serial := tabPut d.gateway.serial k c }

@[simp] theorem Dev.putSerial_serialCh (d : Dev) (k : Nat) (c : SerialCh) : (d.putSerial k c).serialCh k = c := tabGet_put_same ..

/-- The block after a transaction's request: it is driven onto the line, and the response timer runs from its last stop bit. -/
def Dev.polled (d : Dev) (k : Nat) (t : PollTxn) (e : PollEntry) : Dev :=
  let r := d.pollRequest e
  let d2 := r.2.serialSend k r.1 false
  d2.modSerial k (fun c => { c with txn := some { t with deadline := (d2.serialCh k).txUntil + ms (le e.cfg 0x14 2) } })

theorem pollStart_polls {d : Dev} {k : Nat} {t : PollTxn} {c' : SerialCh} {e : PollEntry} (hmode : (d.serialCh k).mode = 1)
    (htxn : (d.serialCh k).txn = none) (hready : (d.serialCh k).readyAt ≤ d.uptime) (hawake : d.portSleeping (serialPort k) = false)
    (hdrive : d.mayDrive = true) (hnext : (d.serialCh k).nextTxn d.uptime = some (t, c'))
    (hentry : tabFind d.gateway.polls t.entry = some e) (hchannel : e.channel = k) :
    pollStart k d = ((d.putSerial k c').polled k t e).holdPort (serialPort k) := by
  have hstart : ((d.serialCh k).mode != 1 || (d.serialCh k).txn.isSome || decide (d.uptime < (d.serialCh k).readyAt) ||
      d.portSleeping (serialPort k) || !d.mayDrive) = false := by
    simp [hmode, htxn, Nat.not_lt.mpr hready, hawake, hdrive]
  have htaken : tabFind (d.putSerial k c').gateway.polls t.entry = some e := hentry
  have hown : (e.channel != k) = false := by simp [hchannel]
  rw [Dev.putSerial] at htaken ⊢
  simp only [pollStart, hstart, hnext, htaken, hown, Bool.false_eq_true, if_false, Dev.polled]

/-- A request's bytes use up free values and change nothing else. -/
theorem Dev.pollRequest_dev (d : Dev) (e : PollEntry) : ∃ n, (d.pollRequest e).2 = { d with freeIx := n } := by
  unfold Dev.pollRequest
  dsimp only
  split
  · exact ⟨_, rfl⟩
  · exact ⟨_, rfl⟩
  · exact ⟨_, rfl⟩
  · exact ⟨d.freeIx, rfl⟩

theorem Dev.polled_txn (d : Dev) (k : Nat) (t : PollTxn) (e : PollEntry) :
    ∃ dl, ((d.polled k t e).serialCh k).txn = some { t with deadline := dl } :=
  ⟨_, congrArg SerialCh.txn (Dev.modSerial_serialCh ..)⟩

/-- A transmission on a channel leaves its retry. -/
theorem Dev.serialSend_retry (d : Dev) (k : Nat) (bs : Bytes) (brk : Bool) :
    ((d.serialSend k bs brk).serialCh k).retry = (d.serialCh k).retry := by
  have hsent : (d.serialSend k bs brk).serialCh k = _ := d.modSerial_serialCh k _
  rw [hsent]

theorem Dev.polled_retry (d : Dev) (k : Nat) (t : PollTxn) (e : PollEntry) :
    ((d.polled k t e).serialCh k).retry = (d.serialCh k).retry := by
  obtain ⟨n, hn⟩ := d.pollRequest_dev e
  rw [Dev.polled, Dev.modSerial_serialCh, Dev.serialSend_retry, hn]
  rfl

theorem Dev.polled_outs (d : Dev) (k : Nat) (t : PollTxn) (e : PollEntry) :
    ∃ bytes, (d.polled k t e).outs = d.outs ++ [.serial k false bytes] := by
  obtain ⟨n, hn⟩ := d.pollRequest_dev e
  refine ⟨(d.pollRequest e).1, ?_⟩
  have hsent : (d.polled k t e).outs = (d.pollRequest e).2.outs ++ [.serial k false (d.pollRequest e).1] := rfl
  rw [hsent, hn]

/-! ## The end of an attempt -/

/-- A retried attempt leaves the channel's configuration as it is. -/
theorem Dev.pollFree_retry (d : Dev) (k : Nat) (t : PollTxn) : (d.pollFree k (some t)).serialCh k = { d.serialCh k with
    txn := none, retry := some t, readyAt := d.uptime + le (d.serialCh k).cfg 0x0C 4 * 1000 } :=
  d.modSerial_serialCh k _

theorem Dev.pollAttemptFailed_retried {d : Dev} {t : PollTxn} {e : PollEntry} (h : t.attempt ≤ e.retries) (k why : Nat) :
    d.pollAttemptFailed k t e why = (d.count 8 (1152 + t.entry * 4 + why)).pollFree k (some t) := if_pos h

theorem pollTimeout_idle {d : Dev} {k : Nat} (h : (d.serialCh k).txn = none) : pollTimeout k d = d := by
  simp only [pollTimeout, h]

section
variable {d : Dev} {k : Nat} {t : PollTxn} {e : PollEntry} (htxn : (d.serialCh k).txn = some t)
  (hentry : tabFind d.gateway.polls t.entry = some e)
include htxn

theorem pollTimeout_early (h : d.overBus t.deadline = false) : pollTimeout k d = d := by
  simp only [pollTimeout, htxn, h, Bool.not_false, if_true]

include hentry

theorem pollTimeout_broadcast (h : d.overBus t.deadline = true) (hslave : e.slave = 0) : pollTimeout k d = d.pollFree k none := by
  simp only [pollTimeout, htxn, hentry, h, hslave, Bool.not_true, Bool.false_eq_true, if_false, beq_self_eq_true, if_true]

theorem pollTimeout_fails (h : d.overBus t.deadline = true) (hslave : e.slave ≠ 0) :
    pollTimeout k d = d.pollAttemptFailed k t e 1 := by
  simp only [pollTimeout, htxn, hentry, h, beq_false_of_ne hslave, Bool.not_true, Bool.false_eq_true, if_false]

end

/-! ## POLL_REPLY_RECEIVED -/

/-- The frame that a t3.5 silence has ended on a channel, without what was read while the channel drove the line (R246, R249). -/
def Dev.replyFrame (d : Dev) (k : Nat) (chars : List ReplyChar) : List ReplyChar :=
  (d.serialCh k).heard d.uptime (lastFrame (d.serialCh k).t35 chars)

/-- The bytes of a frame. -/
def replyBytes (frame : List ReplyChar) : Bytes := frame.map (fun x => BitVec.ofNat 8 x.value)

/-- The block after what is noted of every frame. -/
def Dev.replyNoted (d : Dev) (k : Nat) (bs : Bytes) : Dev :=
  ((d.countN 8 (1024 + k * 16) bs.length).countSl k 2).portKeepAlive (serialPort k)

theorem Dev.stirs_replyNoted (d : Dev) (k : Nat) (bs : Bytes) : d.Stirs (d.replyNoted k bs) :=
  ((d.posts_countN _ _ _).trans (Dev.posts_count _ _ _)).stirs.trans (Dev.stirs_portKeepAlive _ _)

theorem pollReply_ignored {d : Dev} {k : Nat} {chars : List ReplyChar} (h : 8 ≤ k ∨ (d.serialCh k).mode ≠ 1 ∨
    d.portSleeping (serialPort k) = true ∨ d.replyFrame k chars = []) : pollReply k chars d = d :=
  if_pos (by simpa [or_assoc, Dev.replyFrame] using h)

/-- A reply that is no exception has its request's function code, or is RAW. -/
theorem exceptionReply_eq_false {e : PollEntry} {bs : Bytes} (h : e.function = 0 ∨ byteAt bs 1 ≠ e.function + 0x80) :
    (e.function != 0 && byteAt bs 1 == e.function + 0x80 && bs.length == 5) = false := by
  obtain hraw | hcode := h
  · simp [hraw]
  · simp [beq_false_of_ne hcode]

section
variable {d : Dev} {k : Nat} {chars : List ReplyChar} (hk : k < 8) (hmode : (d.serialCh k).mode = 1)
  (hawake : d.portSleeping (serialPort k) = false) (hframe : d.replyFrame k chars ≠ [])
include hk hmode hawake hframe

theorem pollReply_notIgnored : (decide (8 ≤ k) || (d.serialCh k).mode != 1 || d.portSleeping (serialPort k) ||
    (d.replyFrame k chars).isEmpty) = false := by
  simp [hk, hmode, hawake, hframe]

theorem pollReply_unasked (htxn : (d.serialCh k).txn = none) :
    pollReply k chars d = (d.replyNoted k (replyBytes (d.replyFrame k chars))).unsolicited k := by
  have hheard := pollReply_notIgnored hk hmode hawake hframe
  rw [Dev.replyFrame] at hheard ⊢
  simp only [pollReply, hheard, htxn, Bool.false_eq_true, if_false]
  rfl

/-- A frame heard while a transaction runs: it is none of the transaction's, or it is judged (R251). -/
theorem pollReply_asked {t : PollTxn} {e : PollEntry} {frame : List ReplyChar} {bs : Bytes} {d1 : Dev}
    (hheard : d.replyFrame k chars = frame) (hbs : replyBytes frame = bs) (hnoted : d.replyNoted k bs = d1)
    (htxn : (d.serialCh k).txn = some t) (hentry : tabFind d1.gateway.polls t.entry = some e) : pollReply k chars d =
      if d1.overBus t.deadline || e.slave == 0 then d1.unsolicited k
      else if !replyFramed e bs ((d.serialCh k).gapError frame) then d1.pollAttemptFailed k t e 2
      else if e.function != 0 && byteAt bs 1 == e.function + 0x80 && bs.length == 5 then
        ((d1.count 8 (1152 + t.entry * 4 + 3)).pollFree k none).pollFail t e (3 + byteAt bs 2 * 256)
      else ((replyData e bs).map (fun data => (d1.pollFree k none).pollDelivers t e data)).getD (d1.pollAttemptFailed k t e 2) := by
  have hnot := pollReply_notIgnored hk hmode hawake hframe
  have hover := (d.stirs_replyNoted k bs).overBus t.deadline
  subst hnoted hbs hheard
  rw [hover]
  rw [Dev.replyNoted, replyBytes, Dev.replyFrame] at *
  simp only [pollReply, hnot, htxn, hentry, Bool.false_eq_true, if_false]
  congr 3
  split <;> simp [*]

end

end Sys2Proof.Machine
end

section
/-! The statement about the serial channels and the poll engine. -/

namespace Sys2Proof.Machine

open Sys2Proof

theorem runs_serialCharReceived (k : Nat) (x : SerialChar) (s : State) : Runs (.serialCharReceived k x) s (serialChar k x s.dev) := rfl
theorem runs_rawMessageClose (k : Nat) (s : State) : Runs (.rawMessageClose k) s (rawClose k s.dev) := rfl
theorem runs_pollDue (e : Nat) (s : State) : Runs (.pollDue e) s (pollDue e s.dev) := rfl
theorem runs_pollTransactionStart (k : Nat) (s : State) : Runs (.pollTransactionStart k) s (pollStart k s.dev) := rfl
theorem runs_pollResponseTimeout (k : Nat) (s : State) : Runs (.pollResponseTimeout k) s (pollTimeout k s.dev) := rfl
theorem runs_pollReplyReceived (k : Nat) (bytes : Bytes) (idles : List Nat) (s : State) :
    Runs (.pollReplyReceived k bytes idles) s (pollReply k (replyChars bytes idles) s.dev) := rfl

/-- Settles O45, step by step. -/
theorem serialChannelsAndPollsAct : Obligations.SerialChannelsAndPollsAct := by
  refine ⟨fun s k x hout => runs_same (runs_serialCharReceived k x s) (serialChar_discarded x hout), ?_, ?_,
    fun s e hnone => runs_same (runs_pollDue e s) (pollDue_unscheduled hnone), ?_, ?_, ?_, ?_,
    fun s k bytes idles hout => runs_same (runs_pollReplyReceived k bytes idles s) (pollReply_ignored hout), ?_,
    fun c frame => by simp [SerialCh.gapError], ?_⟩
  · intro s k x hk hmode hawake hidle
    have hhears : s.dev.Hears k := ⟨hk, hmode, hawake, hidle⟩
    have hnoted := s.dev.posts_charNoted k x
    refine ⟨fun hbrk => ⟨_, runs_serialCharReceived k x s, ?_⟩, fun hbrk hraw => ⟨_, runs_serialCharReceived k x s, ?_⟩,
      fun hbrk hraw hfull => ⟨_, runs_serialCharReceived k x s, ?_⟩,
      fun hbrk hraw hroom => ⟨_, runs_serialCharReceived k x s, ?_⟩⟩
    · rw [serialChar_break hhears hbrk, (Dev.posts_serialFault _ _ _ _).serialCh, Dev.modSerial_serialCh]
      exact ⟨rfl, rfl⟩
    · rw [serialChar_notRaw hhears hbrk hraw, hnoted.serialCh]
    · rw [serialChar_full hhears hbrk hraw hfull, (Dev.posts_serialFault _ _ _ _).serialCh, Dev.modSerial_serialCh, hnoted.serialCh]
      exact ⟨rfl, rfl⟩
    · rw [serialChar_kept hhears hbrk hraw hroom, Dev.modSerial_serialCh, hnoted.serialCh]
      exact ⟨rfl, rfl⟩
  · intro s k
    refine ⟨fun hempty => runs_same (runs_rawMessageClose k s) (rawClose_empty hempty), fun last hlast =>
      ⟨fun hroom hgap => runs_same (runs_rawMessageClose k s) (rawClose_open hlast hroom hgap), fun hmode hend =>
        ⟨_, runs_rawMessageClose k s, ?_⟩⟩⟩
    rw [rawClose_closes hlast hmode hend]
    exact ⟨rfl, rfl, rfl⟩
  · intro s e q c p hq hp
    refine ⟨fun hearly => runs_same (runs_pollDue e s) (pollDue_early hq hp hearly),
      fun hdue hmode hawake hnew => ⟨_, runs_pollDue e s, ?_⟩, fun hdue => ?_⟩
    · rw [pollDue_queues hq hp hdue hmode hawake hnew, Dev.modSerial_serialCh, Dev.pollMoved_serialCh]
    · obtain ⟨q', hfound, hnext⟩ := pollDue_moves hq hp hdue
      exact ⟨_, q', runs_pollDue e s, hfound, hnext⟩
  · intro s k
    refine ⟨fun hwait => runs_same (runs_pollTransactionStart k s) (pollStart_waits hwait),
      fun t c' e hmode htxn hready hawake hdrive hnext hentry hchannel => ?_⟩
    obtain ⟨dl, hrunning⟩ := (s.dev.putSerial k c').polled_txn k t e
    refine ⟨_, dl, runs_of_eq (runs_pollTransactionStart k s) (pollStart_polls hmode htxn hready hawake hdrive hnext hentry hchannel),
      hrunning, ?_, Dev.polled_outs _ k t e⟩
    rw [Dev.polled_retry, Dev.putSerial_serialCh, SerialCh.nextTxn_noRetry hnext]
  · intro c up t c' hnext
    refine ⟨fun r hretry => ?_, fun e rest hretry hqueue => ?_⟩
    · rw [c.nextTxn_retry hretry] at hnext
      cases hnext
      rfl
    · rw [c.nextTxn_onDemand hretry hqueue] at hnext
      cases hnext
      exact ⟨rfl, rfl, rfl⟩
  · intro s k
    have hrun := runs_pollResponseTimeout k s
    exact ⟨fun hidle => runs_same hrun (pollTimeout_idle hidle), fun t e htxn hentry =>
      ⟨fun hearly => runs_same hrun (pollTimeout_early htxn hearly),
       fun hover hslave => runs_of_eq hrun (pollTimeout_broadcast htxn hentry hover hslave),
       fun hover hslave => runs_of_eq hrun (pollTimeout_fails htxn hentry hover hslave)⟩⟩
  · intro s k bytes idles hk hmode hawake c frame bs d hframe
    have hrun := runs_pollReplyReceived k bytes idles s
    refine ⟨fun htxn => runs_of_eq hrun (pollReply_unasked hk hmode hawake hframe htxn), fun t e htxn hentry => ?_⟩
    have hasked := pollReply_asked hk hmode hawake hframe (frame := frame) (bs := bs) (d1 := d) rfl rfl rfl htxn hentry
    refine ⟨fun hstray => runs_of_eq hrun (hasked.trans (if_pos (by simpa using hstray))), fun hrunning hslave => ?_⟩
    have hjudged := hasked.trans (if_neg (by simp [hslave, hrunning]))
    refine ⟨fun hbad => runs_of_eq hrun (hjudged.trans (if_pos (congrArg not hbad))), fun hframed hfun hcode hlen => ?_,
      fun hframed hdata hcode => ?_, fun data hframed hdata hcode => ?_⟩
    all_goals refine runs_of_eq hrun (hjudged.trans ((if_neg (Bool.eq_false_iff.mp (congrArg not hframed))).trans ?_))
    · exact if_pos (by simp [hfun, hcode, hlen])
    · rw [exceptionReply_eq_false hcode, hdata]
      rfl
    · rw [exceptionReply_eq_false (hcode.imp_right (by omega)), hdata]
      rfl
  · intro d k t e why hleft
    rw [Dev.pollAttemptFailed_retried hleft, Dev.pollFree_retry]
    exact ⟨rfl, rfl⟩

end Sys2Proof.Machine
end

section
/-! SUPPORT. CAN channels: the frame offered first, the error counters and bus-off, reception and transmission (R233 to R240). -/

namespace Sys2Proof.Machine

open Sys2Proof

/-! ## The frame offered -/

theorem firstTx_eq_argmin (l : List CanTx) : firstTx l = l.argmin (fun t => arbKey t.frame) :=
  congrArg (fun f => l.foldl f none) (funext fun b => funext fun t => by cases b <;> rfl)

theorem firstTx_lowest {l : List CanTx} {t : CanTx} (h : firstTx l = some t) :
    t ∈ l ∧ ∀ x ∈ l, arbKey t.frame ≤ arbKey x.frame := by
  rw [firstTx_eq_argmin] at h
  exact ⟨List.argmin_mem h, fun x hx => List.le_of_mem_argmin (f := fun t : CanTx => arbKey t.frame) hx h⟩

/-! ## Error counters and bus-off -/

theorem errorState_eq_two (tec rec_ : Nat) : errorState tec rec_ = 2 ↔ 255 < tec := by
  unfold errorState
  split
  · simp_all
  · split <;> simp_all

/-- The channel with counters, and the error state they make. -/
def CanCh.withErrors (c : CanCh) (tec rec_ : Nat) : CanCh := { c with tec := tec, recCnt := rec_, errState := errorState tec rec_ }

/-- The channel as it enters bus-off: what it sends is back among its buffers, which BOFF_FLUSH empties. -/
def CanCh.enterBusOff (c : CanCh) (up : Nat) : CanCh :=
  { c with
    busOff := true, sending := none, bufs := if bit (byteAt c.cfg 1) 5 then [] else c.sending.toList ++ c.bufs, recovering := false
    boffDeadline := if bit (byteAt c.cfg 1) 4 then some (up + ms (le c.cfg 0x10 2)) else none }

theorem Dev.enterBusOff_canCh (d : Dev) (k : Nat) : (d.enterBusOff k).canCh k = (d.canCh k).enterBusOff d.uptime := by
  refine (d.modCan_canCh k _).trans ?_
  rw [CanCh.enterBusOff]
  cases (d.canCh k).sending <;> rfl

section
variable {d : Dev} {k : Nat}

theorem Dev.setErrors_kept (tec rec_ : Nat) (h : (d.canCh k).mode ≠ 1 ∨ (d.canCh k).busOff = true ∨ d.mayDrive = false) :
    d.setErrors k tec rec_ = d := if_pos (by simpa [or_assoc] using h)

/-- A channel in MODE 1 that drives takes the counters, and with more than 255 enters bus-off unless it has been found there. -/
theorem Dev.setErrors_canCh (tec rec_ : Nat) (hmode : (d.canCh k).mode = 1) (hon : (d.canCh k).busOff = false)
    (hdrive : d.mayDrive = true) : (d.setErrors k tec rec_).canCh k =
      if 255 < tec ∧ (d.canCh k).errState ≠ 2 then ((d.canCh k).withErrors tec rec_).enterBusOff d.uptime
      else (d.canCh k).withErrors tec rec_ := by
  have hdriven : ((d.canCh k).mode != 1 || (d.canCh k).busOff || !d.mayDrive) = false := by simp [hmode, hon, hdrive]
  have hset : (d.modCan k (fun c => c.withErrors tec rec_)).canCh k = (d.canCh k).withErrors tec rec_ := d.modCan_canCh k _
  unfold Dev.setErrors
  simp only [hdriven, Bool.false_eq_true, if_false, beq_iff_eq]
  split
  · rename_i hsame
    rw [if_neg (by rintro ⟨hover, hstate⟩; exact hstate (hsame ▸ (errorState_eq_two tec rec_).mpr hover))]
    exact hset
  · rename_i hchanged
    rw [(Dev.posts_post _ _ _ _).canCh]
    split
    · rename_i hoff
      rw [if_pos ⟨(errorState_eq_two tec rec_).mp hoff, fun h => hchanged (hoff.trans h.symm)⟩, Dev.enterBusOff_canCh]
      exact congrArg (fun c => CanCh.enterBusOff c d.uptime) hset
    · rename_i hoff
      rw [if_neg (fun h => hoff ((errorState_eq_two tec rec_).mpr h.1))]
      exact hset

/-- All that new error counters can make of a channel. -/
theorem Dev.setErrors_cases (d : Dev) (k tec rec_ : Nat) : (d.setErrors k tec rec_).canCh k = d.canCh k ∨
    (d.setErrors k tec rec_).canCh k = (d.canCh k).withErrors tec rec_ ∨
    255 < tec ∧ (d.setErrors k tec rec_).canCh k = ((d.canCh k).withErrors tec rec_).enterBusOff d.uptime := by
  by_cases h : (d.canCh k).mode ≠ 1 ∨ (d.canCh k).busOff = true ∨ d.mayDrive = false
  · exact .inl (by rw [Dev.setErrors_kept tec rec_ h])
  · simp only [not_or, not_not, Bool.not_eq_true, Bool.not_eq_false] at h
    obtain ⟨hmode, hon, hdrive⟩ := h
    rw [Dev.setErrors_canCh tec rec_ hmode hon hdrive]
    split
    · rename_i hover
      exact .inr (.inr ⟨hover.1, rfl⟩)
    · exact .inr (.inl rfl)

theorem Dev.setErrors_sending (tec rec_ : Nat) (h : (d.canCh k).sending = none) : ((d.setErrors k tec rec_).canCh k).sending = none := by
  obtain hkept | hset | ⟨-, hoff⟩ := d.setErrors_cases k tec rec_
  · rw [hkept, h]
  · rw [hset]
    exact h
  · rw [hoff]
    rfl

/-- Counters that make no bus-off leave the buffers. -/
theorem Dev.setErrors_bufs {tec : Nat} (rec_ : Nat) (h : tec ≤ 255) : ((d.setErrors k tec rec_).canCh k).bufs = (d.canCh k).bufs := by
  obtain hkept | hset | ⟨hover, -⟩ := d.setErrors_cases k tec rec_
  · rw [hkept]
  · rw [hset]
    rfl
  · omega

theorem busOffDelay_starts {t : Nat} (hoff : (d.canCh k).busOff = true) (hdelay : (d.canCh k).boffDeadline = some t)
    (hover : t < d.uptime) : busOffDelay k d = d.modCan k (fun c => { c with boffDeadline := none, recovering := true }) := by
  simp only [busOffDelay, hoff, hdelay, Dev.overO, Dev.over_eq_true hover, Bool.and_self, if_true]

theorem busOffDelay_waits (h : d.overO (d.canCh k).boffDeadline = false) : busOffDelay k d = d := by
  simp only [busOffDelay, h, Bool.and_false, Bool.false_eq_true, if_false]

theorem busOffRecovered_ends (hoff : (d.canCh k).busOff = true) (hrec : (d.canCh k).recovering = true)
    (hawake : d.portSleeping (canPort k) = false) : (busOffRecovered k d).canCh k =
      { d.canCh k with busOff := false, recovering := false, tec := 0, recCnt := 0, errState := 0 } := by
  simp only [busOffRecovered, hoff, hrec, hawake, Bool.not_false, Bool.and_self, if_true]
  rw [(Dev.posts_post _ _ _ _).canCh, Dev.modCan_canCh]

theorem busOffRecovered_waits (h : (d.canCh k).recovering = false) : busOffRecovered k d = d := by
  simp only [busOffRecovered, h, Bool.and_false, Bool.false_and, Bool.false_eq_true, if_false]

end

/-! ## Reception -/

/-- The channel hears its bus: it takes part, and does not wait for 11 recessive bits (R234). -/
structure Dev.CanHears (d : Dev) (k : Nat) : Prop where
  on : d.canOn k = true
  quiet : d.canWaits k = false

/-- The block after a frame is counted and acknowledged, and has restarted what it restarts. -/
def Dev.canNoted (d : Dev) (k : Nat) (f : CanFrame) : Dev := ((((d.countCan k 0).canAcks k).recOk k).canKeepAlive k f).watchCan k f

section
variable {d : Dev} {k : Nat} {f : CanFrame}

theorem canFrame_outside (hoff : d.canOn k = false) (hdomain : d.domainOf (canPort k) = none) : canFrame k f d = d := by
  simp only [canFrame, hoff, Dev.ignoreCan, hdomain, Bool.not_false, if_true]

theorem canFrame_waits (hon : d.canOn k = true) (hwait : d.canWaits k = true) : canFrame k f d = d := by
  simp only [canFrame, hon, hwait, Bool.not_true, Bool.false_eq_true, if_false, if_true]

theorem canException_waits (h : d.canWaits k = true) : canException k d = d := by
  simp only [canException, h, Bool.not_true, Bool.and_false, Bool.false_eq_true, if_false]

theorem canFrame_exception (h : d.CanHears k) (hfd : f.fd = true) (hno : bit (byteAt (d.canCh k).cfg 1) 2 = false) :
    canFrame k f d = (d.modCan k (fun c => c.startWait d.uptime)).countCan k 15 := by
  simp only [canFrame, canException, h.on, h.quiet, hfd, hno, Bool.not_true, Bool.not_false, Bool.and_self, Bool.false_eq_true, if_false,
    if_true]

/-- Any other frame is counted, and then accepted or counted as filtered. -/
theorem canFrame_heard (h : d.CanHears k) (hformat : f.fd = false ∨ bit (byteAt (d.canCh k).cfg 1) 2 = true) : canFrame k f d =
    if ((d.canNoted k f).canCh k).accepts f then (d.canNoted k f).canAccepted k f else (d.canNoted k f).countCan k 1 := by
  have hclassic : (f.fd && !bit (byteAt (d.canCh k).cfg 1) 2) = false := by
    obtain hcc | hfd := hformat
    · simp [hcc]
    · simp [hfd]
  exact (if_neg (by simp [h.on])).trans ((if_neg (by simp [h.quiet])).trans (if_neg (by simp [hclassic])))

theorem Dev.canAccepted_unmatched (hsource : d.canSource k f = none) (haction : byteAt (d.canCh k).cfg 0x12 ≠ 1) :
    d.canAccepted k f = d.countCan k 2 := by
  simp only [Dev.canAccepted, hsource, beq_false_of_ne haction, Bool.false_eq_true, if_false]

theorem Dev.canAccepted_source {i : Nat} {q : SrcPdu} (hsource : d.canSource k f = some (i, q)) : d.canAccepted k f =
    d.receive { d.reception i (if f.rtr then q.content else f.data) d.now with can := some f } := by
  simp only [Dev.canAccepted, hsource]

/-! ## Transmission -/

/-- A channel's buffered frames that may still be sent. -/
def Dev.timely (d : Dev) (k : Nat) : List CanTx := (d.canCh k).bufs.filter (fun t => !t.late d.now)

theorem Dev.dropLate_canCh (d : Dev) (k : Nat) : (d.dropLate k).canCh k = { d.canCh k with bufs := d.timely k } :=
  d.modCan_canCh k (fun c => { c with bufs := d.timely k })

theorem canArbitration_idle (won : Bool) (h : d.canSends k = false ∨ d.canWaits k = true ∨ (d.canCh k).sending.isSome = true) :
    canArbitration k won d = d := if_pos (by simpa [or_assoc] using h)

/-- The channel may offer a frame: it sends, hears its bus, and has no frame on it. -/
structure Dev.CanOffers (d : Dev) (k : Nat) : Prop where
  sends : d.canSends k = true
  quiet : d.canWaits k = false
  free : (d.canCh k).sending = none

theorem Dev.CanOffers.not_idle (h : d.CanOffers k) : (!d.canSends k || d.canWaits k || (d.canCh k).sending.isSome) = false := by
  simp [h.sends, h.quiet, h.free]

theorem canArbitration_wins {t : CanTx} (h : d.CanOffers k) (hfirst : firstTx (d.timely k) = some t) : canArbitration k true d =
    ((d.dropLate k).modCan k (fun c => { c with bufs := c.bufs.erase t, sending := some t })).emit (.can k t.frame) := by
  have hoffered : firstTx ((d.dropLate k).canCh k).bufs = some t := by rw [Dev.dropLate_canCh]; exact hfirst
  simp only [canArbitration, h.not_idle, hoffered, Bool.false_eq_true, if_false, if_true]

theorem canArbitration_loses {t : CanTx} (h : d.CanOffers k) (hfirst : firstTx (d.timely k) = some t)
    (hretry : (d.canCh k).oneShot = false) : canArbitration k false d = (d.dropLate k).countCan k 8 := by
  have hoffered : firstTx ((d.dropLate k).canCh k).bufs = some t := by rw [Dev.dropLate_canCh]; exact hfirst
  have hkept : (((d.dropLate k).countCan k 8).canCh k).oneShot = false := (congrArg CanCh.oneShot (d.dropLate_canCh k)).trans hretry
  simp only [canArbitration, h.not_idle, hoffered, hkept, Bool.false_eq_true, if_false]

theorem canTxComplete_idle (edges : List Nat) (h : (d.canCh k).sending = none) : canTxComplete k edges d = d := by
  simp only [canTxComplete, h]

/-- The block after a frame has left a channel's bus. -/
def Dev.canFreed (d : Dev) (k : Nat) : Dev := (d.modCan k (fun c => { c with sending := none })).countCan k 3

theorem Dev.canFreed_canCh (d : Dev) (k : Nat) : (d.canFreed k).canCh k = { d.canCh k with sending := none } := d.modCan_canCh k _

/-- The block after a frame without a loop delay to measure has ended, the channel's TEC one lower. -/
def Dev.canSent (d : Dev) (k : Nat) : Dev := (d.canFreed k).setErrors k ((d.canCh k).tec - 1) (d.canCh k).recCnt

/-- Beyond that the end of a frame may complete an indication. -/
theorem canTxComplete_canCh {t : CanTx} (edges : List Nat) (hsending : (d.canCh k).sending = some t)
    (htdc : bit (byteAt (d.canCh k).cfg 0x0C) 0 = false) : (canTxComplete k edges d).canCh k = (d.canSent k).canCh k := by
  simp only [canTxComplete, hsending, htdc, Bool.false_and, Bool.false_eq_true, if_false]
  split
  · exact Dev.canCh_congr (Dev.stirs_pduSent _ _).gateway k
  · rfl

theorem Dev.canSent_sending (d : Dev) (k : Nat) : ((d.canSent k).canCh k).sending = none :=
  Dev.setErrors_sending _ _ (congrArg CanCh.sending (d.canFreed_canCh k))

theorem Dev.canSent_bufs (h : (d.canCh k).tec ≤ 256) : ((d.canSent k).canCh k).bufs = (d.canCh k).bufs := by
  rw [Dev.canSent, Dev.setErrors_bufs _ (by omega), Dev.canFreed_canCh]

theorem Dev.canSent_tec (h : (d.canCh k).tec ≤ 256) (hmode : (d.canCh k).mode = 1) (hdrive : d.mayDrive = true)
    (hon : (d.canCh k).busOff = false) : ((d.canSent k).canCh k).tec = (d.canCh k).tec - 1 := by
  have hset := Dev.setErrors_canCh (d := d.canFreed k) (k := k) ((d.canCh k).tec - 1) (d.canCh k).recCnt
    (by rw [Dev.canFreed_canCh]; exact hmode) (by rw [Dev.canFreed_canCh]; exact hon) hdrive
  rw [if_neg (by omega)] at hset
  rw [Dev.canSent, hset]
  rfl

/-! ## Errors -/

theorem canError_outside (e : CanError) (h : d.canOn k = false ∨ d.canWaits k = true) : canError k e d = d :=
  if_pos (by simpa using h)

theorem canError_received {e : CanError} (h : d.CanHears k) (hrx : e.transmitting = false) (hrec : (d.canCh k).recCnt ≤ 127) :
    canError k e d = ((d.countCan k (9 + min e.kind 4)).canSignals k).setErrors k (d.canCh k).tec
      ((d.canCh k).recCnt + (if e.dominantAfter then 8 else 1)) := by
  simp only [canError, h.on, h.quiet, hrx, Nat.not_lt.mpr hrec, Bool.not_true, Bool.or_self, Bool.false_eq_true, if_false]

theorem canError_transmitted {e : CanError} (h : d.CanHears k) (htx : e.transmitting = true) :
    canError k e d = d.txError k e.kind e.exempt := by
  simp only [canError, h.on, h.quiet, htx, Bool.not_true, Bool.or_self, Bool.false_eq_true, if_false, if_true]

theorem Dev.canSignals_gateway (d : Dev) (k : Nat) : (d.canSignals k).gateway = d.gateway := by
  unfold Dev.canSignals
  split <;> rfl

theorem Dev.retryTx_sending (d : Dev) (k : Nat) (t : CanTx) : ((d.retryTx k t).canCh k).sending = (d.canCh k).sending := by
  unfold Dev.retryTx
  split
  · rfl
  · rw [Dev.modCan_canCh]

/-- An error of a transmitted frame takes it off the bus. -/
theorem Dev.txError_sending (d : Dev) (k kind : Nat) (exempt : Bool) : ((d.txError k kind exempt).canCh k).sending = none := by
  unfold Dev.txError
  cases hsending : (d.canCh k).sending with
  | none => exact hsending
  | some t =>
    refine Dev.setErrors_sending _ _ ((Dev.retryTx_sending _ _ _).trans ?_)
    rw [Dev.canCh_congr (Dev.canSignals_gateway _ _)]
    exact congrArg CanCh.sending (d.modCan_canCh k _)

end

end Sys2Proof.Machine
end

section
/-! SUPPORT. The accumulation of an ACF_OUT PDU (R243). -/

namespace Sys2Proof.Machine

open Sys2Proof

variable {d : Dev} {i : Nat} {q : DstPdu} (hq : tabFind d.gateway.dsts i = some q)
include hq

/-- A frame offered leaves what its PDU holds. -/
theorem Dev.offer_eth_find (bs : Bytes) (stamp : Nat) : ∃ q', tabFind (d.offer i (.eth bs stamp)).gateway.dsts i = some q' ∧
    q'.held = q.held ∧ q'.acfSeq = q.acfSeq := by
  simp only [Dev.offer, hq]
  split
  · exact ⟨_, Dev.modDst_find hq _, rfl, rfl⟩
  · have hsent : (d.sendUnit i (.eth bs stamp)).gateway = (d.noteSend i).gateway := (d.noteSend i).injectAt_gateway 94 bs stamp 0
    rw [hsent]
    exact ⟨_, Dev.modDst_find hq _, rfl, rfl⟩

theorem Dev.acfEmit_find (hheld : q.held ≠ []) : ∃ q', tabFind (d.acfEmit i).gateway.dsts i = some q' ∧ q'.held = [] ∧
    q'.acfSeq = (q.acfSeq + 1) % 256 := by
  have hsome : q.held.isEmpty = false := by simpa using hheld
  simp only [Dev.acfEmit, hq, hsome, Bool.false_eq_true, if_false]
  obtain ⟨q', hfound, hempty, hseq⟩ := Dev.offer_eth_find
    (Dev.modDst_find hq (fun q => { q with held := [], acfSeq := (q.acfSeq + 1) % 256 })) (acfFrame q q.held) (earliest q.held)
  exact ⟨q', hfound, hempty, hseq⟩

theorem acfExpiry_waits (h : d.overBus q.heldUntil = false ∨ d.acfAwaits i q.heldUntil = true) : acfExpiry i d = d := by
  simp only [acfExpiry, hq]
  refine if_neg ?_
  obtain hearly | hawaited := h
  · simp [hearly]
  · simp [hawaited]

theorem acfExpiry_emits (hover : d.overBus q.heldUntil = true) (hnone : d.acfAwaits i q.heldUntil = false) :
    acfExpiry i d = d.acfEmit i := by
  simp only [acfExpiry, hq, hover, hnone, Bool.not_false, Bool.and_self, if_true]

end Sys2Proof.Machine
end

section
/-! The statement about the CAN channels. -/

namespace Sys2Proof.Machine

open Sys2Proof

theorem runs_canFrameReceived (k : Nat) (f : CanFrame) (s : State) : Runs (.canFrameReceived k f) s (canFrame k f s.dev) := rfl
theorem runs_canProtocolException (k : Nat) (s : State) : Runs (.canProtocolException k) s (canException k s.dev) := rfl
theorem runs_canArbitrationStart (k : Nat) (won : Bool) (s : State) :
    Runs (.canArbitrationStart k won) s (canArbitration k won s.dev) := rfl
theorem runs_canTxComplete (k : Nat) (edges : List Nat) (s : State) : Runs (.canTxComplete k edges) s (canTxComplete k edges s.dev) := rfl
theorem runs_canTxLate (k : Nat) (s : State) : Runs (.canTxLate k) s (s.dev.dropLate k) := rfl
theorem runs_canBusError (k : Nat) (e : CanError) (s : State) : Runs (.canBusError k e) s (canError k e s.dev) := rfl
theorem runs_busOffDelayExpiry (k : Nat) (s : State) : Runs (.busOffDelayExpiry k) s (busOffDelay k s.dev) := rfl
theorem runs_busOffRecoveryComplete (k : Nat) (s : State) : Runs (.busOffRecoveryComplete k) s (busOffRecovered k s.dev) := rfl
theorem runs_acfOutAccumExpiry (i : Nat) (s : State) : Runs (.acfOutAccumExpiry i) s (acfExpiry i s.dev) := rfl

/-- Settles O44, step by step. -/
theorem canChannelsActAsRuled : Obligations.CanChannelsActAsRuled := by
  refine ⟨fun s k f hoff hdomain => runs_same (runs_canFrameReceived k f s) (canFrame_outside hoff hdomain), ?_, ?_,
    fun s k => runs_canProtocolException k s, fun c up => rfl, fun l t hfirst => firstTx_lowest hfirst,
    fun s k won hidle => runs_same (runs_canArbitrationStart k won s) (canArbitration_idle won hidle), ?_,
    fun s k edges hfree => runs_same (runs_canTxComplete k edges s) (canTxComplete_idle edges hfree), ?_,
    fun s k => ⟨_, runs_canTxLate k s, congrArg CanCh.bufs (s.dev.dropLate_canCh k)⟩, ?_, ?_, ?_, ?_⟩
  · intro s k f hon hwait
    exact ⟨runs_same (runs_canFrameReceived k f s) (canFrame_waits hon hwait),
      fun e => runs_same (runs_canBusError k e s) (canError_outside e (.inr hwait)),
      fun won => runs_same (runs_canArbitrationStart k won s) (canArbitration_idle won (.inr (.inl hwait))),
      runs_same (runs_canProtocolException k s) (canException_waits hwait)⟩
  · intro s k f hon hquiet
    have hhears : s.dev.CanHears k := ⟨hon, hquiet⟩
    have hrun := runs_canFrameReceived k f s
    refine ⟨fun hfd hno => runs_of_eq hrun (canFrame_exception hhears hfd hno), fun hformat => ?_⟩
    have hheard := canFrame_heard hhears hformat
    refine ⟨fun hfiltered => runs_of_eq hrun (hheard.trans (if_neg (Bool.eq_false_iff.mp hfiltered))),
      fun hpassed hsource haction => ?_, fun i q hpassed hsource => ?_⟩
    · exact runs_of_eq hrun (hheard.trans ((if_pos hpassed).trans (Dev.canAccepted_unmatched hsource haction)))
    · have haccepted := hheard.trans ((if_pos hpassed).trans (Dev.canAccepted_source hsource))
      refine ⟨_, runs_of_eq hrun haccepted, rfl, rfl, rfl, fun hdata => ?_⟩
      simp [Dev.reception, hdata]
  · intro s k t hsends hquiet hfree hfirst
    have hoffers : s.dev.CanOffers k := ⟨hsends, hquiet, hfree⟩
    refine ⟨⟨_, runs_of_eq (runs_canArbitrationStart k true s) (canArbitration_wins hoffers hfirst), ?_⟩,
      fun hretry => runs_of_eq (runs_canArbitrationStart k false s) (canArbitration_loses hoffers hfirst hretry)⟩
    rw [Dev.canCh_congr (Dev.emit_gateway _ _), Dev.modCan_canCh, Dev.dropLate_canCh]
    exact ⟨rfl, rfl, rfl⟩
  · intro s k edges t hsending htdc hfew
    refine ⟨_, runs_canTxComplete k edges s, ?_⟩
    rw [canTxComplete_canCh edges hsending htdc]
    exact ⟨s.dev.canSent_sending k, Dev.canSent_bufs hfew, fun hmode hdrive hon => Dev.canSent_tec hfew hmode hdrive hon⟩
  · intro s k e
    have hrun := runs_canBusError k e s
    refine ⟨fun hoff => runs_same hrun (canError_outside e (.inl hoff)),
      fun hon hquiet hrx hrec => runs_of_eq hrun (canError_received ⟨hon, hquiet⟩ hrx hrec), fun hon hquiet htx => ⟨_, hrun, ?_⟩⟩
    rw [canError_transmitted ⟨hon, hquiet⟩ htx]
    exact Dev.txError_sending _ _ _ _
  · intro d k tec rec_ hmode hdrive hon hstate c
    have hset : c = _ := Dev.setErrors_canCh tec rec_ hmode hon hdrive
    rw [hset]
    by_cases hover : 255 < tec
    · rw [if_pos ⟨hover, by omega⟩]
      exact ⟨rfl, rfl, rfl, (decide_eq_true hover).symm, fun _ => ⟨rfl, fun hflush => if_pos hflush⟩⟩
    · rw [if_neg (fun h => hover h.1)]
      exact ⟨rfl, rfl, rfl, hon.trans (decide_eq_false hover).symm, fun h => absurd h hover⟩
  · intro s k hoff
    have hdelay := runs_busOffDelayExpiry k s
    have hrecovery := runs_busOffRecoveryComplete k s
    refine ⟨fun t ht hover => runs_of_eq hdelay (busOffDelay_starts hoff ht hover),
      fun hearly => runs_same hdelay (busOffDelay_waits hearly), fun hrec hawake => ⟨_, hrecovery, ?_⟩,
      fun hidle => runs_same hrecovery (busOffRecovered_waits hidle)⟩
    rw [busOffRecovered_ends hoff hrec hawake]
    exact ⟨rfl, rfl, rfl⟩
  · intro s i q hq
    have hrun := runs_acfOutAccumExpiry i s
    refine ⟨fun hwait => runs_same hrun (acfExpiry_waits hq hwait), fun hheld hover hnone => ?_⟩
    obtain ⟨q', hfound, hempty, hseq⟩ := Dev.acfEmit_find hq hheld
    exact ⟨_, q', runs_of_eq hrun (acfExpiry_emits hq hover hnone), hfound, hempty, hseq⟩

end Sys2Proof.Machine
end

section
/-! SUPPORT. Signals: the bits of a PDU, a value placed in some of them, and the conversion to a destination's range (R253, R255). -/

namespace Sys2Proof.Machine

open Sys2Proof

/-! ## One bit of a PDU -/

theorem patch_singleton {bs : Bytes} {off : Nat} (x : Byte) (h : off < bs.length) : patch bs off [x] = bs.set off x := by
  have hroom : [x].take (bs.length - off) = [x] := List.take_of_length_le (by rw [List.length_singleton]; omega)
  rw [List.set_eq_take_append_cons_drop, if_pos h, patch, hroom, List.append_assoc, List.length_singleton, List.singleton_append]

theorem byteAt_set (bs : Bytes) {off : Nat} (x : Byte) (i : Nat) (h : off < bs.length) :
    byteAt (bs.set off x) i = if i = off then x.toNat else byteAt bs i := by
  unfold byteAt
  rw [List.getD_eq_getElem?_getD, List.getElem?_set, List.getD_eq_getElem?_getD]
  split
  · subst_vars
    simp
  · rw [if_neg (Ne.symm ‹_›)]

/-- The byte that holds a bit, with that bit replaced. -/
def bitReplaced (bs : Bytes) (b : Nat) (v : Bool) : Nat :=
  if v then setBit (byteAt bs (b / 8)) (b % 8) else clearBit (byteAt bs (b / 8)) (b % 8)

theorem bit_bitReplaced (bs : Bytes) (b k : Nat) (v : Bool) :
    bit (bitReplaced bs b v) k = if k = b % 8 then v else bit (byteAt bs (b / 8)) k := by
  cases v
  · exact bit_clearBit _ _ _
  · exact bit_setBit _ _ _

section
variable {bs : Bytes} {b : Nat} (h : b < 8 * bs.length)
include h

theorem pduSetBit_eq_set (v : Bool) : pduSetBit bs b v = bs.set (b / 8) (BitVec.ofNat 8 (bitReplaced bs b v)) :=
  patch_singleton _ (by omega)

theorem pduSetBit_length (v : Bool) : (pduSetBit bs b v).length = bs.length := by
  rw [pduSetBit_eq_set h, List.length_set]

/-- A bit is written, and every other one keeps its value. -/
theorem pduBit_setBit (v : Bool) (c : Nat) : pduBit (pduSetBit bs b v) c = if c = b then v else pduBit bs c := by
  rw [pduBit, pduSetBit_eq_set h, byteAt_set bs _ _ (by omega)]
  by_cases hbyte : c / 8 = b / 8
  · have hlow : bit (bitReplaced bs b v % 2 ^ 8) (c % 8) = bit (bitReplaced bs b v) (c % 8) := by
      rw [bit_eq_testBit, bit_eq_testBit, Nat.testBit_mod_two_pow, decide_eq_true (Nat.mod_lt _ (by decide)), Bool.true_and]
    rw [if_pos hbyte, BitVec.toNat_ofNat, hlow, bit_bitReplaced, pduBit, hbyte]
    by_cases hbit : c = b
    · rw [if_pos hbit, if_pos (by rw [hbit])]
    · rw [if_neg hbit, if_neg (by omega)]
  · rw [if_neg hbyte, if_neg (fun hbit => hbyte (by rw [hbit])), pduBit]

end

/-! ## Bits placed one after the other -/

/-- A PDU with bits of a number placed in it: position and bit of each. -/
def placeBits (v : Nat) (l : List (Nat × Nat)) (bs : Bytes) : Bytes := l.foldl (fun c p => pduSetBit c p.1 (bit v p.2)) bs

theorem placeBits_length {v : Nat} {l : List (Nat × Nat)} {bs : Bytes} (h : ∀ p ∈ l, p.1 < 8 * bs.length) :
    (placeBits v l bs).length = bs.length := by
  induction l generalizing bs with
  | nil => rfl
  | cons p l ih =>
    obtain ⟨hp, hl⟩ := List.forall_mem_cons.mp h
    have hlen := pduSetBit_length hp (bit v p.2)
    exact (ih (by rwa [hlen])).trans hlen

theorem placeBits_other {v b : Nat} {l : List (Nat × Nat)} {bs : Bytes} (h : ∀ p ∈ l, p.1 < 8 * bs.length)
    (hb : ∀ p ∈ l, p.1 ≠ b) : pduBit (placeBits v l bs) b = pduBit bs b := by
  induction l generalizing bs with
  | nil => rfl
  | cons p l ih =>
    obtain ⟨hp, hl⟩ := List.forall_mem_cons.mp h
    obtain ⟨hpb, hlb⟩ := List.forall_mem_cons.mp hb
    refine (ih (by rwa [pduSetBit_length hp]) hlb).trans ?_
    rw [pduBit_setBit hp, if_neg hpb.symm]

/-- Placed at positions of their own, the bits are read back. -/
theorem placeBits_placed {v : Nat} {l : List (Nat × Nat)} {bs : Bytes} (h : ∀ p ∈ l, p.1 < 8 * bs.length)
    (hl : (l.map Prod.fst).Nodup) : ∀ p ∈ l, pduBit (placeBits v l bs) p.1 = bit v p.2 := by
  induction l generalizing bs with
  | nil => simp
  | cons p l ih =>
    obtain ⟨hp, hrest⟩ := List.forall_mem_cons.mp h
    rw [List.map_cons, List.nodup_cons] at hl
    have hrest' : ∀ x ∈ l, x.1 < 8 * (pduSetBit bs p.1 (bit v p.2)).length := by rwa [pduSetBit_length hp]
    refine List.forall_mem_cons.mpr ⟨?_, ih hrest' hl.2⟩
    refine (placeBits_other hrest' (fun x hx heq => hl.1 (List.mem_map.mpr ⟨x, hx, heq⟩))).trans ?_
    rw [pduBit_setBit hp, if_pos rfl]

/-! ## The positions of a signal -/

/-- A position's place in the walk of a big-endian signal: bytes upwards, within a byte from bit 7 down. -/
def walkIndex (b : Nat) : Nat := 8 * (b / 8) + (7 - b % 8)

/-- Each step of the walk goes one place further. -/
theorem walkIndex_next (b : Nat) : walkIndex (if b % 8 == 0 then b + 15 else b - 1) = walkIndex b + 1 := by
  unfold walkIndex
  split
  · rename_i h
    have h0 : b % 8 = 0 := by simpa using h
    omega
  · rename_i h
    have h0 : b % 8 ≠ 0 := by simpa using h
    omega

theorem walkIndex_le_of_mem {n b x : Nat} (h : x ∈ walkBig n b) : walkIndex b ≤ walkIndex x := by
  induction n generalizing b with
  | zero => cases h
  | succ n ih =>
    obtain rfl | htail := List.mem_cons.mp h
    · exact Nat.le_refl _
    · have hnext := ih htail
      rw [walkIndex_next] at hnext
      omega

theorem walkBig_nodup (n b : Nat) : (walkBig n b).Nodup := by
  induction n generalizing b with
  | zero => exact List.nodup_nil
  | succ n ih =>
    refine List.nodup_cons.mpr ⟨fun h => ?_, ih _⟩
    have hnext := walkIndex_le_of_mem h
    rw [walkIndex_next] at hnext
    omega

theorem walkBig_length (n b : Nat) : (walkBig n b).length = n := by
  induction n generalizing b with
  | zero => rfl
  | succ n ih => rw [walkBig, List.length_cons, ih]

theorem signalBits_nodup (start len : Nat) (big : Bool) : (signalBits start len big).Nodup := by
  cases big
  · exact List.nodup_range.map (add_right_injective start)
  · exact List.nodup_reverse.mpr (walkBig_nodup len start)

theorem signalBits_length (start len : Nat) (big : Bool) : (signalBits start len big).length = len := by
  cases big
  · exact (List.length_map _).trans List.length_range
  · exact List.length_reverse.trans (walkBig_length len start)

theorem bitsWithin_iff (pos : List Nat) (n : Nat) : bitsWithin pos n = true ↔ ∀ b ∈ pos, b < 8 * n := by
  simp [bitsWithin]

/-! ## A signal read and placed -/

/-- A number is the sum of its bits. -/
theorem sum_bits (v n : Nat) : ((List.range n).map (fun i => if bit v i then 2 ^ i else 0)).sum = v % 2 ^ n := by
  induction n with
  | zero => simp [Nat.mod_one]
  | succ n ih =>
    rw [List.range_succ, List.map_append, List.sum_append, ih, Nat.mod_pow_succ]
    rcases Nat.mod_two_eq_zero_or_one (v / 2 ^ n) with h | h <;> simp [bit, h]

theorem fst_mem_of_mem_zipIdx {pos : List Nat} {p : Nat × Nat} (h : p ∈ pos.zipIdx) : p.1 ∈ pos := by
  have hmem := List.mem_map_of_mem (f := Prod.fst) h
  rwa [List.zipIdx_map_fst] at hmem

section
variable {bs : Bytes} {pos : List Nat} (hpos : ∀ b ∈ pos, b < 8 * bs.length)
include hpos

theorem signalPut_length (v : Nat) : (signalPut bs pos v).length = bs.length :=
  placeBits_length (fun _ hp => hpos _ (fst_mem_of_mem_zipIdx hp))

theorem signalPut_other (v : Nat) {b : Nat} (hb : b ∉ pos) : pduBit (signalPut bs pos v) b = pduBit bs b :=
  placeBits_other (fun _ hp => hpos _ (fst_mem_of_mem_zipIdx hp)) (fun _ hp heq => hb (heq ▸ fst_mem_of_mem_zipIdx hp))

theorem signalGet_put {v : Nat} (hnodup : pos.Nodup) (hv : v < 2 ^ pos.length) : signalGet (signalPut bs pos v) pos = v := by
  have hplaced : ∀ p ∈ pos.zipIdx, pduBit (signalPut bs pos v) p.1 = bit v p.2 :=
    placeBits_placed (fun _ hp => hpos _ (fst_mem_of_mem_zipIdx hp)) (by rwa [List.zipIdx_map_fst])
  calc signalGet (signalPut bs pos v) pos
      = (pos.zipIdx.map ((fun i => if bit v i then 2 ^ i else 0) ∘ Prod.snd)).sum :=
        congrArg List.sum (List.map_congr_left (fun p hp => by rw [hplaced p hp]; rfl))
    _ = v % 2 ^ pos.length := by rw [← List.map_map, List.zipIdx_map_snd, ← List.range_eq_range', sum_bits]
    _ = v := Nat.mod_eq_of_lt hv

end

/-! ## Conversion -/

theorem signed_unsigned {n : Nat} {w : Int} (hn : 1 ≤ n) (hlo : -((2 ^ (n - 1) : Nat) : Int) ≤ w)
    (hhi : w < ((2 ^ (n - 1) : Nat) : Int)) : signed n (unsigned n w) = w := by
  have hpow : 2 ^ n = 2 * 2 ^ (n - 1) := by rw [← Nat.pow_succ', Nat.succ_eq_add_one, Nat.sub_add_cancel hn]
  have hhalf : 0 < 2 ^ (n - 1) := by positivity
  unfold signed unsigned
  generalize 2 ^ (n - 1) = m at *
  rw [hpow]
  by_cases hneg : w < 0
  · have hmod : w % ((2 * m : Nat) : Int) = w + (2 * m : Nat) := by
      rw [← Int.add_mul_emod_self_left w ((2 * m : Nat) : Int) 1, mul_one, Int.emod_eq_of_lt (by omega) (by omega)]
    rw [hmod, Nat.mod_eq_of_lt (by omega)]
    dsimp only
    rw [if_neg (by omega)]
    omega
  · rw [Int.emod_eq_of_lt (by omega) (by omega), Nat.mod_eq_of_lt (by omega)]
    dsimp only
    rw [if_pos (by omega)]
    omega

theorem unsigned_of_range {n : Nat} {w : Int} (hlo : 0 ≤ w) (hhi : w < ((2 ^ n : Nat) : Int)) : ((unsigned n w : Nat) : Int) = w := by
  rw [unsigned, Int.emod_eq_of_lt hlo hhi, Int.toNat_of_nonneg hlo]

/-- What a route writes of a value clamped to its destination's range is that value. -/
theorem Route.fit_written {r : Route} (hlen : 1 ≤ r.dstLen) (z : Int) : (if r.dstSigned then signed r.dstLen (unsigned r.dstLen (r.fit z))
    else ((unsigned r.dstLen (r.fit z) : Nat) : Int)) = r.fit z := by
  have hhalf : 0 < 2 ^ (r.dstLen - 1) := by positivity
  have hfull : 0 < 2 ^ r.dstLen := by positivity
  cases hsigned : r.dstSigned with
  | true =>
    have hfit : r.fit z = max (-((2 ^ (r.dstLen - 1) : Nat) : Int)) (min (((2 ^ (r.dstLen - 1) : Nat) : Int) - 1) z) := by
      simp [Route.fit, hsigned]
    rw [if_pos rfl]
    exact signed_unsigned hlen (by omega) (by omega)
  | false =>
    have hfit : r.fit z = max 0 (min (((2 ^ r.dstLen : Nat) : Int) - 1) z) := by simp [Route.fit, hsigned]
    rw [if_neg Bool.false_ne_true]
    exact unsigned_of_range (by omega) (by omega)

end Sys2Proof.Machine
end

section
/-! SUPPORT. Receptions, sends and timeouts of SGE's PDUs (R256 to R258). -/

namespace Sys2Proof.Machine

open Sys2Proof

/-! ## SGE_ROUTE_STEP -/

theorem Gateway.head_empty {g : Gateway} (hu : g.urgent = []) (hn : g.normal = []) : g.head = none := by simp [Gateway.head, hu, hn]

theorem Gateway.head_urgent {g : Gateway} {r : Reception} {rest : List Reception} (hu : g.urgent = r :: rest) : g.head = some r := by
  simp [Gateway.head, hu]

theorem Gateway.head_normal {g : Gateway} {r : Reception} {rest : List Reception} (hu : g.urgent = []) (hn : g.normal = r :: rest) :
    g.head = some r := by
  simp [Gateway.head, hu, hn]

theorem Gateway.pop_urgent {g : Gateway} {r : Reception} {rest : List Reception} (hu : g.urgent = r :: rest) :
    g.pop = { g with urgent := rest } := by
  simp [Gateway.pop, hu]

theorem Gateway.pop_normal {g : Gateway} {r : Reception} {rest : List Reception} (hu : g.urgent = []) (hn : g.normal = r :: rest) :
    g.pop = { g with normal := rest } := by
  simp [Gateway.pop, hu, hn]

theorem sgeStep_idle {d : Dev} (h : d.gateway.head = none) : sgeStep d = d := by
  simp only [sgeStep, h]

section
variable {d : Dev} {r : Reception} (hhead : d.gateway.head = some r)
include hhead

theorem sgeStep_orphan (hsrc : tabFind d.gateway.srcs r.src = none) : sgeStep d = d.putGateway d.gateway.pop := by
  simp only [sgeStep, hhead, hsrc]

variable {q : SrcPdu} (hsrc : tabFind d.gateway.srcs r.src = some q)
include hsrc

/-- A reception that has no delivery to wait for asks for the transfer of its own step. -/
theorem sgeStep_ready (h : q.legal = false ∨ r.delivered = true) : sgeStep d =
    d.transfer (d.sgeRequester q) 64 (fun e => (e.putGateway e.gateway.pop).sgeApply r) := by
  have hdone : (!q.legal || r.delivered) = true := by simpa using h
  have hnone : (q.legal && !r.delivered) = false := by
    obtain hlegal | hdelivered := h
    · simp [hlegal]
    · simp [hdelivered]
  simp only [sgeStep, hhead, hsrc, Dev.legalPhase, hdone, if_true, Option.any_some, hnone, Bool.false_eq_true, if_false]

/-- A legal reception whose delivery has not got its transfer changes the arbiter alone. -/
theorem sgeStep_legalWaits (hlegal : q.legal = true) (hnew : r.delivered = false)
    (hnone : d.free.2.granted (if q.kind = 1 then 6 else 4) 64 d.free.1 = none) : ∃ a, sgeStep d = { d.free.2 with arb := a } := by
  obtain ⟨a, hphase⟩ : ∃ a, d.legalPhase q r = { d.free.2 with arb := a } :=
    ⟨_, (if_neg (by simp [hlegal, hnew])).trans (Dev.transferBy_waits (by simpa only [beq_iff_eq] using hnone))⟩
  refine ⟨a, ?_⟩
  simp only [sgeStep, hhead, hsrc, hphase, Dev.free_gateway, hlegal, Option.any_some, hnew, Bool.not_false, Bool.and_self, if_true]

end

/-! ## Sends -/

section
variable {d : Dev} {i : Nat} {q : DstPdu} (hq : tabFind d.gateway.dsts i = some q)
include hq

section
variable {c p : Nat} (hcycle : q.cycle = some (c, p))
include hcycle

theorem cyclicSend_early (h : d.now < q.nextCycle) : cyclicSend i d = d := by
  simp only [cyclicSend, hq, hcycle, h, if_true]

theorem cyclicSend_due (h : q.nextCycle ≤ d.now) : cyclicSend i d =
    (d.modDst i (fun q => { q with nextCycle := gridFrom p c (d.now + 1) })).wantSend i q.nextCycle := by
  simp only [cyclicSend, hq, hcycle, Nat.not_lt.mpr h, if_false]

end

section
variable {t : Nat} (hdeferred : q.deferred = some t)
include hdeferred

theorem deferredSend_early (h : d.uptime < t) : deferredSend i d = d := by
  simp only [deferredSend, hq, hdeferred, h, if_true]

theorem deferredSend_due (h : t ≤ d.uptime) (hempty : q.outbox = []) : deferredSend i d = d.sendDst i (d.now - (d.uptime - t)) := by
  simp only [deferredSend, hq, hdeferred, Nat.not_lt.mpr h, hempty, if_false]

end

end

/-! ## What leaves the source PDUs as they are -/

theorem Dev.canFill_srcs (d : Dev) (k : Nat) (t : CanTx) : (d.canFill k t).gateway.srcs = d.gateway.srcs := by
  obtain ⟨_, h⟩ := d.canFill_gateway k t
  rw [h]

theorem Dev.queuePoll_srcs (d : Dev) (e : Nat) : (d.queuePoll e).gateway.srcs = d.gateway.srcs := by
  unfold Dev.queuePoll
  split
  · rfl
  · split
    · rfl
    · rw [(Dev.stirs_holdPort _ _).gateway]
      rfl

theorem Dev.acfEmit_srcs (d : Dev) (i : Nat) : (d.acfEmit i).gateway.srcs = d.gateway.srcs := by
  unfold Dev.acfEmit
  split
  · rfl
  · split
    · rfl
    · exact Dev.offer_srcs _ _ _

theorem Dev.sendDst_srcs (d : Dev) (i stamp : Nat) : (d.sendDst i stamp).gateway.srcs = d.gateway.srcs := by
  unfold Dev.sendDst
  split
  · rfl
  · split
    · rfl
    · split
      · exact Dev.canFill_srcs _ _ _
      · rw [Dev.injectAt_gateway]
        rfl
      · exact d.acfEmit_srcs i
      · exact Dev.queuePoll_srcs _ _
      · rfl

theorem Dev.amendSend_srcs (d : Dev) (i : Nat) (q : DstPdu) : (d.amendSend i q).gateway.srcs = d.gateway.srcs := by
  unfold Dev.amendSend
  dsimp only
  split <;> rfl

theorem Dev.wantSend_srcs (d : Dev) (i stamp : Nat) : (d.wantSend i stamp).gateway.srcs = d.gateway.srcs := by
  unfold Dev.wantSend
  split
  · rfl
  · split
    · exact d.acfEmit_srcs i
    · split
      · split <;> rfl
      · split
        · exact d.amendSend_srcs i _
        · exact d.sendDst_srcs i stamp

theorem Dev.putContent_srcs (d : Dev) (i : Nat) (c : Bytes) : (d.putContent i c).gateway.srcs = d.gateway.srcs := by
  unfold Dev.putContent
  dsimp only
  split <;> rfl

theorem Applied.write_srcs (a : Applied) (r : Route) (q : DstPdu) (v : Nat) : (a.write r q v).dev.gateway.srcs = a.dev.gateway.srcs :=
  Dev.putContent_srcs _ _ _

theorem Applied.substitute_srcs (a : Applied) (r : Route) : (a.substitute r).dev.gateway.srcs = a.dev.gateway.srcs := by
  unfold Applied.substitute
  extract_lets y w
  split
  · rfl
  · extract_lets b
    split
    · exact a.write_srcs _ _ _
    · split <;> exact a.write_srcs _ _ _
    · exact a.write_srcs _ _ _
    · rfl

theorem Applied.sends_srcs (a : Applied) (stamp : Nat) : (a.sends stamp).gateway.srcs = a.dev.gateway.srcs :=
  List.foldlRecOn (motive := fun e : Dev => e.gateway.srcs = a.dev.gateway.srcs) a.touched _ rfl (fun e h x _ => by
    dsimp only
    split
    · exact h
    · split
      · exact (e.wantSend_srcs _ _).trans h
      · exact h)

/-! ## SRC_PDU_TIMEOUT -/

section
variable {d : Dev} {i : Nat} {q : SrcPdu} (hq : tabFind d.gateway.srcs i = some q)
include hq

theorem srcTimeout_early (h : q.deadline.any d.overBus = false) : srcTimeout i d = d := by
  simp only [srcTimeout, hq, h, Bool.not_false, if_true]

/-- The PDU is marked, its timer stopped; substitutes and their sends leave the mark. -/
theorem srcTimeout_find (h : q.deadline.any d.overBus = true) :
    tabFind (srcTimeout i d).gateway.srcs i = some { q with deadline := none, timedOut := true } := by
  simp only [srcTimeout, hq, h, Bool.not_true, Bool.false_eq_true, if_false]
  rw [(Dev.posts_post _ _ _ _).gateway, Applied.sends_srcs]
  refine (congrArg (tabFind · i) ?_).trans (Dev.modSrc_find hq (fun q => { q with deadline := none, timedOut := true }))
  exact List.foldlRecOn (motive := fun a : Applied => a.dev.gateway.srcs = _) _ _ rfl (fun a h r _ => (a.substitute_srcs r).trans h)

end

/-! ## Frames that leave at P94 (R229, R230) -/

section
variable {d : Dev} {x : Stored × Copy} (hhead : d.internalHead 94 = some x)
include hhead

/-- A frame for a channel is passed out, and, if no longer than P94 takes, decoded. -/
theorem p94ToChannel_head (hport : x.2.dest < 90) : p94ToChannel d =
    if !d.passes 94 x then d.passOut 94 x
    else if x.2.dest < 82 then (d.passOut 94 x).tunnelToChannel (x.2.dest - 50) (egressBytes x.2 x.1.bytes) (d.latestOf x.1)
    else if isSerialFrame (egressBytes x.2 x.1.bytes) then (d.passOut 94 x).serialToChannel (x.2.dest - 82) (egressBytes x.2 x.1.bytes)
    else (d.passOut 94 x).count 8 8192 := by
  simp only [p94ToChannel, hhead, Nat.not_le.mpr hport, if_false]

/-- So is a frame for the engine. -/
theorem p94ToGateway_head (hport : 90 ≤ x.2.dest) : p94ToGateway d =
    let bs := egressBytes x.2 x.1.bytes
    let ch := byteAt bs ((gristL2 bs).etypeOff + 4)
    if !d.passes 94 x then d.passOut 94 x
    else if isSerialFrame bs then (if 8 ≤ ch then (d.passOut 94 x).count 8 8192 else (d.passOut 94 x).serialToChannel ch bs)
    else (d.passOut 94 x).gatewayFrame bs x.1 := by
  simp only [p94ToGateway, hhead, Nat.not_lt.mpr hport, if_false]

end

end Sys2Proof.Machine
end

section
/-! SUPPORT. What the gateway's immediate commands answer and change (chapter 09, Commands). -/

namespace Sys2Proof.Machine

open Sys2Proof

/-! ## GW_CAN_RECOVER and GW_CAN_STATUS -/

/-- GW_CAN_RECOVER's work. -/
def canRecoverBody (d : Dev) (k : Nat) : Ans :=
  if (d.canCh k).busOff then ansOk (d.modCan k (fun c => { c with boffDeadline := none, recovering := true })) [] else ansErr d stWrongMode

theorem exec_gwCanRecover (rq : Req) (s : State) : exec (.gwCanRecover rq) s =
    onDev (Dev.serve 0x0809 rq (rspMax 0) (fun d _ bs => withLayout d 4 [fr 0 1 0 31] bs (canRecoverBody d (byteAt bs 0)))) s := rfl

/-- The state that GW_CAN_STATUS reports: off, bus-off, or that of the error counters. -/
def CanCh.statusCode (c : CanCh) : Nat := if c.mode == 0 then 3 else if c.busOff then 2 else c.errState

/-- GW_CAN_STATUS's response. -/
def CanCh.report (c : CanCh) : Bytes :=
  leb 1 c.statusCode ++ leb 1 (min c.tec 255) ++ leb 1 (min c.recCnt 255) ++ leb 1 c.tdcv ++
    leb 1 (c.bufs.length + (if c.sending.isSome then 1 else 0)) ++ zeros 3

theorem exec_gwCanStatus (rq : Req) (s : State) : exec (.gwCanStatus rq) s =
    onDev (Dev.serve 0x080A rq (rspMax 8)
      (fun d _ bs => withLayout d 4 [fr 0 1 0 31] bs (ansOk d (d.canCh (byteAt bs 0)).report))) s := rfl

theorem CanCh.report_length (c : CanCh) : c.report.length = 8 := by simp [CanCh.report]

theorem CanCh.report_status (c : CanCh) : byteAt c.report 0 = c.statusCode % 256 := by simp [CanCh.report, byteAt_append]

theorem CanCh.report_tec (c : CanCh) : byteAt c.report 1 = min c.tec 255 := by
  simp [CanCh.report, byteAt_append]

theorem CanCh.report_rec (c : CanCh) : byteAt c.report 2 = min c.recCnt 255 := by
  simp [CanCh.report, byteAt_append]

/-! ## GW_SERIAL_STATUS -/

/-- The entry of the transaction in progress on a channel, or of the one it will retry. -/
def SerialCh.activeEntry (c : SerialCh) : Nat :=
  match c.txn.or c.retry with
  | some t => t.entry
  | none => 0xFFFF

/-- GW_SERIAL_STATUS's response. -/
def SerialCh.report (c : SerialCh) : Bytes :=
  leb 4 (if baudDiv (le c.cfg 4 4) == 0 then 0 else 160000000 / baudDiv (le c.cfg 4 4)) ++ leb 2 c.activeEntry ++
    leb 2 (c.onDemand.length + c.due.length)

theorem exec_gwSerialStatus (rq : Req) (s : State) : exec (.gwSerialStatus rq) s =
    onDev (Dev.serve 0x080B rq (rspMax 8)
      (fun d _ bs => withLayout d 4 [fr 0 1 0 7] bs (ansOk d (d.serialCh (byteAt bs 0)).report))) s := rfl

theorem SerialCh.report_length (c : SerialCh) : c.report.length = 8 := by simp [SerialCh.report]

/-! ## GW_PDU_READ and GW_PDU_SEND -/

/-- GW_PDU_READ's response for a source PDU. -/
def SrcPdu.report (q : SrcPdu) : Bytes := pduRecord (b2n q.timedOut + 2 * b2n q.legal + 4 * b2n (!q.received)) q.len q.time q.content

/-- GW_PDU_READ's response for a destination PDU. -/
def DstPdu.report (q : DstPdu) : Bytes := pduRecord (4 * b2n q.lastSend.isNone) q.len (q.lastSend.getD 0) q.content

/-- GW_PDU_READ's work. -/
def pduReadBody (d : Dev) (kind i : Nat) : Ans :=
  if kind == 0 then
    match tabFind d.gateway.srcs i with
    | some q => ansOk d q.report
    | none => ansErr d stNotFound
  else
    match tabFind d.gateway.dsts i with
    | some q => ansOk d q.report
    | none => ansErr d stNotFound

theorem exec_gwPduRead (rq : Req) (s : State) : exec (.gwPduRead rq) s =
    onDev (Dev.serve 0x080C rq (fun d bs => 20 + pduLength d bs)
      (fun d _ bs => withLayout d 4 [fr 0 1 0 1, fr 2 2 0 16383] bs (pduReadBody d (byteAt bs 0) (le bs 2 2)))) s := rfl

theorem pduRecord_length (flags len time : Nat) (content : Bytes) : (pduRecord flags len time content).length = 20 + len := by
  simp [pduRecord]
  omega

theorem pduRecord_len (flags len time : Nat) (content : Bytes) : le (pduRecord flags len time content) 2 2 = len % 65536 := by
  simp only [pduRecord, List.append_assoc]
  rw [le_append_right _ _ (by simp), le_append_right _ _ (by simp)]
  exact le_leb_append 2 len _

/-- A PDU that is there is answered with its LENGTH and content. -/
theorem pduReadBody_found {d : Dev} {bs : Bytes} (hsrc : byteAt bs 0 = 0 → tabHas d.gateway.srcs (le bs 2 2) = true)
    (hdst : byteAt bs 0 ≠ 0 → tabHas d.gateway.dsts (le bs 2 2) = true) : ∃ flags time content,
    pduReadBody d (byteAt bs 0) (le bs 2 2) = ansOk d (pduRecord flags (pduLength d bs) time content) := by
  by_cases hkind : byteAt bs 0 = 0
  · obtain ⟨q, hq⟩ := Option.isSome_iff_exists.mp (hsrc hkind)
    have hlen : pduLength d bs = q.len := by simp only [pduLength, hkind, hq, beq_self_eq_true, if_true]
    refine ⟨b2n q.timedOut + 2 * b2n q.legal + 4 * b2n (!q.received), q.time, q.content, ?_⟩
    simp only [pduReadBody, hkind, hq, beq_self_eq_true, if_true, hlen, SrcPdu.report]
  · obtain ⟨q, hq⟩ := Option.isSome_iff_exists.mp (hdst hkind)
    have hlen : pduLength d bs = q.len := by simp only [pduLength, beq_false_of_ne hkind, hq, Bool.false_eq_true, if_false]
    refine ⟨4 * b2n q.lastSend.isNone, q.lastSend.getD 0, q.content, ?_⟩
    simp only [pduReadBody, beq_false_of_ne hkind, hq, Bool.false_eq_true, if_false, hlen, DstPdu.report]

/-- GW_PDU_SEND's work. -/
def pduSendBody (d : Dev) (bs : Bytes) : Ans :=
  if bs.length < 8 ∨ bs.length ≠ 8 + le bs 4 2 then ansErr d stBadLength
  else if !layoutOk [fr 0 2 0 16383, fa 2 2, fr 4 2 0 256] (bs.take 8) then ansErr d stBadParam
  else
    match tabFind d.gateway.dsts (le bs 0 2) with
    | none => ansErr d stNotFound
    | some q =>
      if q.len < le bs 2 2 + le bs 4 2 then ansErr d stBadParam
      else ansOk ((d.putContent (le bs 0 2) (patch q.content (le bs 2 2) (bs.drop 8))).wantSend (le bs 0 2) d.now) []

theorem exec_gwPduSend (rq : Req) (s : State) : exec (.gwPduSend rq) s =
    onDev (Dev.serve 0x080D rq (rspMax 0) (fun d _ bs => pduSendBody d bs)) s := rfl

theorem pduSendBody_sends {d : Dev} {bs : Bytes} {q : DstPdu} (hlen : bs.length = 8 + le bs 4 2)
    (hok : layoutOk [fr 0 2 0 16383, fa 2 2, fr 4 2 0 256] (bs.take 8) = true) (hq : tabFind d.gateway.dsts (le bs 0 2) = some q)
    (hfits : le bs 2 2 + le bs 4 2 ≤ q.len) : pduSendBody d bs =
      ansOk ((d.putContent (le bs 0 2) (patch q.content (le bs 2 2) (bs.drop 8))).wantSend (le bs 0 2) d.now) [] := by
  have hshape : ¬ (bs.length < 8 ∨ bs.length ≠ 8 + le bs 4 2) := by omega
  simp only [pduSendBody, hshape, hok, hq, Nat.not_lt.mpr hfits, Bool.not_true, Bool.false_eq_true, if_false]

/-! ## GW_POLL_NOW -/

/-- GW_POLL_NOW's work. -/
def pollNowBody (d : Dev) (i : Nat) : Ans :=
  match tabFind d.gateway.polls i with
  | none => ansErr d stNotFound
  | some e =>
    if (d.serialCh e.channel).onDemand.contains i then ansErr d stBusy
    else if (d.serialCh e.channel).mode != 1 then ansErr d stWrongMode
    else ansOk (d.queuePoll i) []

theorem exec_gwPollNow (rq : Req) (s : State) : exec (.gwPollNow rq) s =
    onDev (Dev.serve 0x080E rq (rspMax 0) (fun d _ bs => withLayout d 4 [fr 0 2 0 1023] bs (pollNowBody d (le bs 0 2)))) s := rfl

section
variable {d : Dev} {i : Nat} {e : PollEntry} (he : tabFind d.gateway.polls i = some e)
include he

theorem pollNowBody_queues (hnew : i ∉ (d.serialCh e.channel).onDemand) (hmode : (d.serialCh e.channel).mode = 1) :
    pollNowBody d i = ansOk (d.queuePoll i) [] := by
  simp [pollNowBody, he, hnew, hmode]

theorem pollNowBody_busy (hqueued : i ∈ (d.serialCh e.channel).onDemand) : pollNowBody d i = ansErr d stBusy := by
  simp [pollNowBody, he, hqueued]

end

end Sys2Proof.Machine
end

section
/-! The statement about signals, receptions, sends and the gateway's immediate commands. -/

namespace Sys2Proof.Machine

open Sys2Proof

theorem runs_sgeRouteStep (s : State) : Runs .sgeRouteStep s (sgeStep s.dev) := rfl
theorem runs_dstPduCyclicSend (i : Nat) (s : State) : Runs (.dstPduCyclicSend i) s (cyclicSend i s.dev) := rfl
theorem runs_dstPduDeferredSend (i : Nat) (s : State) : Runs (.dstPduDeferredSend i) s (deferredSend i s.dev) := rfl
theorem runs_srcPduTimeout (i : Nat) (s : State) : Runs (.srcPduTimeout i) s (srcTimeout i s.dev) := rfl
theorem runs_p94FrameToChannel (s : State) : Runs .p94FrameToChannel s (p94ToChannel s.dev) := rfl
theorem runs_p94FrameToGateway (s : State) : Runs .p94FrameToGateway s (p94ToGateway s.dev) := rfl

/-- Settles O46, step by step and command by command. -/
theorem signalsAndPdusAreRouted : Obligations.SignalsAndPdusAreRouted := by
  refine ⟨?_, ?_, ?_, ?_, ?_, ?_, ?_, ?_, ?_, ?_, ?_, ?_, ?_, ?_, ?_, ?_⟩
  · intro bs start len big v hwithin hv pos
    have hpos := (bitsWithin_iff pos bs.length).mp hwithin
    exact ⟨signalGet_put hpos (signalBits_nodup start len big) (by rwa [signalBits_length]), signalPut_length hpos v,
      fun b hb _ => signalPut_other hpos v hb⟩
  · intro r sc raw hlen x y z
    have hconvert : r.convert sc raw = (unsigned r.dstLen (r.fit z), decide (z ≠ y) || decide (r.fit z ≠ z)) := rfl
    rw [hconvert]
    exact ⟨Route.fit_written hlen z, by simp⟩
  · intro s
    have hrun := runs_sgeRouteStep s
    refine ⟨fun hu hn => runs_same hrun (sgeStep_idle (Gateway.head_empty hu hn)),
      fun r hhead hsrc => runs_of_eq hrun (sgeStep_orphan hhead hsrc), fun r q hhead hsrc hready => ?_,
      fun r q hhead hsrc hlegal hnew hnone => ?_⟩
    · have hstep := sgeStep_ready hhead hsrc hready
      exact ⟨fun a hgrant => runs_of_eq hrun (hstep.trans (Dev.transferBy_granted hgrant)),
        fun hnone => ⟨_, runs_of_eq hrun (hstep.trans (Dev.transferBy_waits hnone))⟩⟩
    · obtain ⟨a, hstep⟩ := sgeStep_legalWaits hhead hsrc hlegal hnew hnone
      exact ⟨_, runs_of_eq hrun hstep, rfl, rfl⟩
  · intro g r
    exact ⟨fun hu hn => Gateway.head_empty hu hn, fun t hu => ⟨Gateway.head_urgent hu, Gateway.pop_urgent hu⟩,
      fun t hu hn => ⟨Gateway.head_normal hu hn, Gateway.pop_normal hu hn⟩⟩
  · intro s i q hq
    have hcyclic := runs_dstPduCyclicSend i s
    have hdeferred := runs_dstPduDeferredSend i s
    exact ⟨fun c p hcycle => ⟨fun hearly => runs_same hcyclic (cyclicSend_early hq hcycle hearly),
        fun hdue => ⟨_, runs_of_eq hcyclic (cyclicSend_due hq hcycle hdue), Dev.modDst_find hq _⟩⟩,
      fun t ht => ⟨fun hearly => runs_same hdeferred (deferredSend_early hq ht hearly),
        fun hdue hempty => runs_of_eq hdeferred (deferredSend_due hq ht hdue hempty)⟩⟩
  · intro s i q hq
    have hrun := runs_srcPduTimeout i s
    exact ⟨fun hearly => runs_same hrun (srcTimeout_early hq hearly), fun hover => ⟨_, _, hrun, srcTimeout_find hq hover, rfl, rfl⟩⟩
  · intro s x hhead hlong
    have hout : (!s.dev.passes 94 x) = true := congrArg not hlong
    exact ⟨fun hport => runs_of_eq (runs_p94FrameToChannel s) ((p94ToChannel_head hhead hport).trans (if_pos hout)),
      fun hport => runs_of_eq (runs_p94FrameToGateway s) ((p94ToGateway_head hhead hport).trans (if_pos hout))⟩
  · intro s x hhead hpasses bs d
    have hfits : ¬ (!s.dev.passes 94 x) = true := Bool.eq_false_iff.mp (congrArg not hpasses)
    have hchannel := fun hport => runs_of_eq (runs_p94FrameToChannel s) ((p94ToChannel_head hhead hport).trans (if_neg hfits))
    have hgateway := fun hport => runs_of_eq (runs_p94FrameToGateway s) ((p94ToGateway_head hhead hport).trans (if_neg hfits))
    refine ⟨fun hcan => runs_of_eq (hchannel (by omega)) (if_pos hcan), fun hlow hhigh hserial => ?_, fun hlow hhigh hother => ?_,
      fun hport hserial => ⟨fun hno => ?_, fun hch => ?_⟩, fun hport hother => ?_⟩
    · exact runs_of_eq (hchannel hhigh) ((if_neg (by omega)).trans (if_pos hserial))
    · exact runs_of_eq (hchannel hhigh) ((if_neg (by omega)).trans (if_neg (Bool.eq_false_iff.mp hother)))
    · exact runs_of_eq (hgateway hport) ((if_pos hserial).trans (if_pos hno))
    · exact runs_of_eq (hgateway hport) ((if_pos hserial).trans (if_neg (Nat.not_le.mpr hch)))
    · exact runs_of_eq (hgateway hport) (if_neg (Bool.eq_false_iff.mp hother))
  · refine completes_of_body exec_gwCanRecover ?_
    rintro d rq bs ⟨hlen, hok, hoff⟩
    exact ⟨_, _, (withLayout_ok _ hlen hok).trans (if_pos hoff), rfl, rfl⟩
  · refine refuses_of_body (by decide) exec_gwCanRecover ?_
    rintro d rq bs ⟨hlen, hok, hon⟩
    exact (withLayout_ok _ hlen hok).trans (if_neg (Bool.eq_false_iff.mp hon))
  · refine completes_of_body exec_gwCanStatus ?_
    rintro d rq bs ⟨hlen, hok⟩
    refine ⟨d, (d.canCh (byteAt bs 0)).report, withLayout_ok _ hlen hok, rfl, CanCh.report_length _, fun hmode => ?_,
      fun hmode hoff => ?_, CanCh.report_tec _, CanCh.report_rec _⟩
    · simp [CanCh.report_status, CanCh.statusCode, hmode]
    · simp [CanCh.report_status, CanCh.statusCode, hmode, hoff]
  · refine completes_of_body exec_gwSerialStatus ?_
    rintro d rq bs ⟨hlen, hok⟩
    exact ⟨d, _, withLayout_ok _ hlen hok, rfl, SerialCh.report_length _⟩
  · refine completes_of_body exec_gwPduRead ?_
    rintro d rq bs ⟨hlen, hok, hsrc, hdst⟩
    have hkind : byteAt bs 0 ≤ 1 := (layoutOk_field hok List.mem_cons_self).2
    obtain ⟨flags, time, content, hbody⟩ := pduReadBody_found hsrc (fun h => hdst (by omega))
    exact ⟨d, _, (withLayout_ok _ hlen hok).trans hbody, rfl, pduRecord_len _ _ _ _, pduRecord_length _ _ _ _⟩
  · refine completes_of_body exec_gwPduSend ?_
    rintro d rq bs ⟨hlen, hok, q, hq, hfits⟩
    exact ⟨_, _, pduSendBody_sends hlen hok hq hfits, rfl, q, hq, rfl⟩
  · refine completes_of_body exec_gwPollNow ?_
    rintro d rq bs ⟨hlen, hok, e, he, hnew, hmode⟩
    exact ⟨_, _, (withLayout_ok _ hlen hok).trans (pollNowBody_queues he hnew hmode), rfl, rfl⟩
  · refine refuses_of_body (by decide) exec_gwPollNow ?_
    rintro d rq bs ⟨hlen, hok, e, he, hqueued⟩
    exact (withLayout_ok _ hlen hok).trans (pollNowBody_busy he hqueued)

end Sys2Proof.Machine
end

section
/-! SUPPORT. The time unit's rules: what an event, a slot's change, a pin's change, a settled quality, a step and a switch leave of it
(R263, R266, R269, R271, R272). -/

namespace Sys2Proof.Machine

open Sys2Proof

/-! ## Slots and pins -/

theorem Dev.slot_congr {d d' : Dev} (h : d'.time.slots = d.time.slots) (i : Nat) : d'.slot i = d.slot i := by rw [Dev.slot, h, Dev.slot]

theorem Dev.pin_congr {d d' : Dev} (h : d'.time.pins = d.time.pins) (n : Nat) : d'.pin n = d.pin n := by rw [Dev.pin, h, Dev.pin]

theorem Dev.Posts.slot {d d' : Dev} (h : d.Posts d') (i : Nat) : d'.slot i = d.slot i := Dev.slot_congr (by rw [h.time]) i

theorem Dev.Posts.pin {d d' : Dev} (h : d.Posts d') (n : Nat) : d'.pin n = d.pin n := Dev.pin_congr (by rw [h.time]) n

@[simp] theorem Dev.putSlot_slot (d : Dev) (i : Nat) (s : Slot) : (d.putSlot i s).slot i = s := tabGet_put_same ..

@[simp] theorem Dev.putSlot_time (d : Dev) (i : Nat) (s : Slot) :
    (d.putSlot i s).time = { d.time with slots := tabPut d.time.slots i s } := rfl

@[simp] theorem Dev.putPin_pin (d : Dev) (n : Nat) (q : TimePin) : (d.putPin n q).pin n = q := tabGet_put_same ..

@[simp] theorem Dev.driveEdge_pin (d : Dev) (n t : Nat) (q : TimePin) :
    (d.driveEdge n t q).pin n = { q with activeUntil := some (t + q.width) } := Dev.putPin_pin ..

/-- Moving a slot to a state changes that state and the runs of the lock criterion. -/
theorem Dev.slotState_slot (d : Dev) (i : Nat) (st : SlotState) : ∃ good bad, (d.slotState i st).slot i =
    { d.slot i with state := st, goodRun := good, badRun := bad } := by
  unfold Dev.slotState
  dsimp only
  split
  next hsame => exact ⟨_, _, by rw [← hsame]⟩
  · exact ⟨0, 0, by rw [(Dev.posts_post _ _ _ _).slot, Dev.putSlot_slot]⟩

/-- Moving a slot changes the table of slots alone. -/
theorem Dev.slotState_time (d : Dev) (i : Nat) (st : SlotState) :
    (d.slotState i st).time = { d.time with slots := (d.slotState i st).time.slots } := by
  unfold Dev.slotState
  dsimp only
  split
  · rfl
  · rw [(Dev.posts_post _ _ _ _).time, Dev.putSlot_time]

/-! ## Quality -/

/-- Settling the quality posts a changed one, and changes nothing else. -/
theorem Dev.settleQuality_posts (d : Dev) : Dev.Posts { d with time := { d.time with quality := d.qualityNow } } d.settleQuality := by
  unfold Dev.settleQuality
  dsimp only
  split
  next heq =>
    rw [beq_iff_eq.mp heq]
    exact .refl d
  · exact Dev.posts_post _ _ _ _

@[simp] theorem Dev.settleQuality_time (d : Dev) : d.settleQuality.time = { d.time with quality := d.qualityNow } :=
  d.settleQuality_posts.time

@[simp] theorem Dev.settleQuality_slot (d : Dev) (i : Nat) : d.settleQuality.slot i = d.slot i := d.settleQuality_posts.slot i

theorem Dev.settleQuality_of_settled {d : Dev} (h : d.qualityNow = d.time.quality) : d.settleQuality = d :=
  if_pos (beq_iff_eq.mpr h)

theorem Dev.qualityNow_of_clockSet {d : Dev} (h : d.time.clockSet = true) : d.qualityNow = 4 := if_pos h

theorem Dev.qualityNow_lt (d : Dev) : d.qualityNow < 256 := by
  unfold Dev.qualityNow
  dsimp only
  split
  · decide
  · split
    · split <;> decide
    · decide
    · split <;> decide
    · decide

/-! ## The switch of the working slot -/

/-- The block with slot `i` the working one, before the switch is reported: the clock slews, and toward a slot in HOLDOVER it takes the
last y. -/
def Dev.workOn (d : Dev) (i : Nat) : Dev :=
  { d with time := { d.time with
    slots := tabPut d.time.slots i { d.slot i with sumTheta := 0, goodRun := 0, badRun := 0 }
    workSlot := i, slewing := true, clockSet := false
    clock := { d.time.clock with
      increment := if (d.slot i).state = .holdover then servoIncrement (d.slot i).rate 0 else d.time.clock.increment }
    beacons := tabMap d.time.beacons (fun _ b => { b with switched := true }) } }

theorem Dev.switchSlot_eq (d : Dev) (i cause : Nat) : d.switchSlot i cause =
    (((d.workOn i).count 9 1105).post 0x0903 i (hold32 (d.slotOffset (d.slot i)) + cause * 2 ^ 32)).settleQuality := rfl

theorem Dev.switchSlot_time (d : Dev) (i cause : Nat) : ∃ q, (d.switchSlot i cause).time = { (d.workOn i).time with quality := q } := by
  rw [Dev.switchSlot_eq, Dev.settleQuality_time, (Dev.posts_post _ _ _ _).time, Dev.count_time]
  exact ⟨_, rfl⟩

theorem Dev.workOn_slot (d : Dev) (i : Nat) : (d.workOn i).slot i = { d.slot i with sumTheta := 0, goodRun := 0, badRun := 0 } :=
  tabGet_put_same ..

theorem Dev.workOn_slot_other (d : Dev) {i j : Nat} (h : j ≠ i) : (d.workOn i).slot j = d.slot j := tabGet_put_other _ _ _ _ _ h

@[simp] theorem Dev.switchSlot_slot (d : Dev) (i j cause : Nat) : (d.switchSlot i cause).slot j = (d.workOn i).slot j := by
  obtain ⟨q, htime⟩ := d.switchSlot_time i cause
  exact Dev.slot_congr (by rw [htime]) j

/-- `y` is the slot `x` but for what a switch clears of it: the sum of its offsets and the runs of the lock criterion. -/
def Slot.Restarts (x y : Slot) : Prop := ∃ sum good bad, y = { x with sumTheta := sum, goodRun := good, badRun := bad }

theorem Slot.Restarts.refl (x : Slot) : x.Restarts x := ⟨_, _, _, rfl⟩

theorem Dev.switchSlot_restarts (d : Dev) (i j cause : Nat) : (d.slot j).Restarts ((d.switchSlot i cause).slot j) := by
  rw [Dev.switchSlot_slot]
  by_cases hj : j = i
  · subst hj
    exact ⟨_, _, _, d.workOn_slot j⟩
  · rw [Dev.workOn_slot_other d hj]
    exact .refl _

theorem Dev.autoSwitch_off {d : Dev} (old : Dev) (h : d.time.autoSwitch = false) : d.autoSwitch old = d := by
  simp [Dev.autoSwitch, h]

/-- An automatic switch leaves a slot's state, timers and slave port. -/
theorem Dev.autoSwitch_restarts (d old : Dev) (j : Nat) : (d.slot j).Restarts ((d.autoSwitch old).slot j) := by
  unfold Dev.autoSwitch
  dsimp only
  split
  · exact d.switchSlot_restarts _ _ _
  · exact .refl _

@[simp] theorem Dev.autoSwitch_ports (d old : Dev) : (d.autoSwitch old).time.ports = d.time.ports := by
  unfold Dev.autoSwitch
  dsimp only
  split
  · obtain ⟨q, htime⟩ := d.switchSlot_time (otherSlot d.time.workSlot) 2
    rw [htime]
    rfl
  · rfl

/-! ## A step of the clock -/

theorem Dev.posts_missed (d : Dev) (n k : Nat) : d.Posts (d.missed n k) := by
  unfold Dev.missed
  split
  · exact .refl d
  · exact (d.posts_countN _ _ _).trans (Dev.posts_post _ _ _ _)

/-- What a step does to a pin: a changed entry, and the edges it passed over reported. -/
theorem Dev.stepPin_eq (old new : Nat) (d : Dev) (n : Nat) : ∃ q k, Dev.stepPin old new d n = (d.putPin n q).missed n k := by
  have hquiet : ∀ q, ∃ q' k, d.putPin n q = (d.putPin n q').missed n k := fun q => ⟨q, 0, rfl⟩
  unfold Dev.stepPin
  extract_lets q q1
  split
  · split
    · split
      · exact ⟨_, _, rfl⟩
      · exact hquiet _
    · exact hquiet _
  · split
    · split
      · exact ⟨_, _, rfl⟩
      · exact hquiet _
    · exact hquiet _

theorem Dev.stepPin_time (old new : Nat) (d : Dev) (n : Nat) :
    (Dev.stepPin old new d n).time = { d.time with pins := (Dev.stepPin old new d n).time.pins } := by
  obtain ⟨q, k, heq⟩ := d.stepPin_eq old new n
  rw [heq, (Dev.posts_missed _ n k).time]
  rfl

theorem Dev.stepPins_time (old new : Nat) (ns : List Nat) (d : Dev) : (ns.foldl (Dev.stepPin old new) d).time =
    { d.time with pins := (ns.foldl (Dev.stepPin old new) d).time.pins } :=
  List.foldlRecOn (motive := fun e : Dev => e.time = { d.time with pins := e.time.pins }) ns _ rfl
    fun e he n _ => by rw [Dev.stepPin_time, he]

/-- The block whose clock has stepped to `new`, before the step is reported and the pins have seen it. -/
def Dev.clockStepped (d : Dev) (new : Nat) : Dev :=
  { d with
    time := { d.time with
      clock := d.time.clock.setTo new, lastDrain := min d.time.lastDrain new
      beacons := tabMap d.time.beacons (fun _ b => { b with
        stepped := true, next := if new < d.now then ceilDiv new (ms b.periodMs) * ms b.periodMs else b.next }) }
    streams := { d.streams with gates := tabMap d.streams.gates (fun _ g => g.stepped d.now new) }
    gateway := d.gateway.stepped new }

theorem Dev.stepTo_eq (d : Dev) (new : Nat) : ∃ e, (d.clockStepped new).Posts e ∧
    d.stepTo new = (e.time.pins.map (fun x => x.1)).foldl (Dev.stepPin d.now new) e :=
  ⟨_, (Dev.posts_count _ 9 1104).trans (Dev.posts_post _ 0x0904 0 (unsigned 64 ((new : Int) - d.now))), rfl⟩

theorem Dev.stepTo_time (d : Dev) (new : Nat) : ∃ p, (d.stepTo new).time = { (d.clockStepped new).time with pins := p } := by
  obtain ⟨e, hposts, heq⟩ := d.stepTo_eq new
  rw [heq, Dev.stepPins_time, hposts.time]
  exact ⟨_, rfl⟩

end Sys2Proof.Machine
end

section
/-! SUPPORT. A frame that the device sends leaves the time unit as it is, whatever becomes of its copies (R75, R94, R107). -/

namespace Sys2Proof.Machine

open Sys2Proof

theorem Dev.Stirs.time {d d' : Dev} (h : d.Stirs d') : d'.time = d.time := by obtain ⟨_, _, _, _, rfl⟩ := h; rfl

theorem Dev.time_foldl {α : Type} {f : Dev → α → Dev} (hf : ∀ e x, (f e x).time = e.time) (l : List α) (d : Dev) :
    (l.foldl f d).time = d.time :=
  List.foldlRecOn (motive := fun e => e.time = d.time) l f rfl (fun e h x _ => (hf e x).trans h)

@[simp] theorem Dev.levelCheck_time (d : Dev) : d.levelCheck.time = d.time := by
  unfold Dev.levelCheck
  dsimp only
  split
  · exact (Dev.posts_post _ _ _ _).time
  · split
    · exact (Dev.posts_post _ _ _ _).time
    · rfl

@[simp] theorem Dev.sweepGroup_time (d : Dev) (g : Nat) : (d.sweepGroup g).time = d.time := by
  unfold Dev.sweepGroup
  split
  · rfl
  · exact Dev.time_foldl (by intro _ _; rfl) _ d

@[simp] theorem Dev.settleFabric_time (d : Dev) : d.settleFabric.time = d.time := by
  rw [Dev.settleFabric_eq, Dev.levelCheck_time]
  exact Dev.time_foldl Dev.sweepGroup_time _ _

@[simp] theorem Dev.wakeOnEgress_time (d : Dev) (p : Nat) : (d.wakeOnEgress p).time = d.time := by
  unfold Dev.wakeOnEgress
  split
  · rfl
  · split
    · split
      · exact (d.stirs_wake _ _).time
      · rfl
    · rfl

@[simp] theorem Dev.admitCopy_time (n : Nat) (acc : Dev × List Copy) (k : Copy) : (Dev.admitCopy n acc k).1.time = acc.1.time := by
  unfold Dev.admitCopy
  dsimp only
  split
  · rfl
  · split
    · exact Dev.wakeOnEgress_time _ _
    · rfl

theorem Dev.admitCopies_time (n : Nat) (f : Copy → Copy) (ks : List Copy) (acc : Dev × List Copy) :
    (ks.foldl (fun acc k => Dev.admitCopy n acc (f k)) acc).1.time = acc.1.time :=
  List.foldlRecOn (motive := fun a => a.1.time = acc.1.time) ks _ rfl (fun a h k _ => (Dev.admitCopy_time n a (f k)).trans h)

@[simp] theorem Dev.mirrorCopy_time (d : Dev) (id i kind mirrored : Nat) (m : Mirror) :
    (d.mirrorCopy id i kind mirrored m).time = d.time := by
  unfold Dev.mirrorCopy
  split
  · rfl
  · dsimp only
    split
    · exact Dev.wakeOnEgress_time _ _
    · split <;> rfl

@[simp] theorem Dev.mirrorOne_time (id i kind mirrored : Nat) (d : Dev) : (Dev.mirrorOne id i kind mirrored d).time = d.time := by
  unfold Dev.mirrorOne
  extract_lets m n put
  split
  · exact Dev.mirrorCopy_time _ _ _ _ _ _
  · rfl

@[simp] theorem Dev.mirrorAll_time (d : Dev) (id inPort : Nat) (outs : List Nat) (named : Option Nat) :
    (d.mirrorAll id inPort outs named).time = d.time := by
  refine Dev.time_foldl (fun e i => ?_) _ d
  refine (Dev.time_foldl (fun e2 p => ?_) _ _).trans ?_
  · split
    · exact Dev.mirrorOne_time _ _ _ _ _
    · rfl
  · split
    · exact Dev.mirrorOne_time _ _ _ _ _
    · rfl

@[simp] theorem Dev.countEvicted_time (d : Dev) (f : Stored) : (d.countEvicted f).time = d.time :=
  Dev.time_foldl (by intro _ _; rfl) _ d

@[simp] theorem Dev.place_time (d : Dev) (bytes : Bytes) (len : Nat) (info : FrameInfo) (copies : List Copy) (receiving : Bool) :
    (d.place bytes len info copies receiving).2.time = d.time := by
  unfold Dev.place
  extract_lets n a d1
  have hd1 : d1.time = d.time := Dev.admitCopies_time n d.unfence copies (d, [])
  split
  · exact hd1
  · extract_lets twinPort
    split
    · exact (Dev.time_foldl (by intro _ _; rfl) _ d1).trans hd1
    · refine (Dev.time_foldl (by intro _ _; rfl) _ _).trans ?_
      exact (Dev.time_foldl Dev.countEvicted_time _ _).trans hd1

@[simp] theorem Dev.enqueue_time (d : Dev) (bytes : Bytes) (len : Nat) (info : FrameInfo) (copies : List Copy) (named : Option Nat)
    (receiving : Bool) : (d.enqueue bytes len info copies named receiving).time = d.time := by
  have hplace := d.place_time bytes len info copies receiving
  unfold Dev.enqueue
  split
  next d1 heq => rwa [heq] at hplace
  next id d1 heq =>
    rw [heq] at hplace
    dsimp only
    rw [Dev.settleFabric_time]
    split
    · exact hplace
    · rwa [Dev.mirrorAll_time]

@[simp] theorem Dev.sendTs_time (d : Dev) (port tc : Nat) (bs : Bytes) (ts : Option TsReq) : (d.sendTs port tc bs ts).time = d.time :=
  Dev.enqueue_time ..

@[simp] theorem Dev.sendGptp_time (d : Dev) (p mtype len domain : Nat) (fields : List (Nat × Bytes)) (follow : Option FollowUp) :
    (d.sendGptp p mtype len domain fields follow).time = d.time := by
  unfold Dev.sendGptp
  extract_lets ts d1
  have hd1 : d1.time = d.time := Dev.sendTs_time _ _ _ _ _
  split <;> exact hd1

end Sys2Proof.Machine
end

section
/-! SUPPORT. The JTAG port: which instruction is in force, and what EXTEST loads and drives (R426). -/

namespace Sys2Proof.Machine

open Sys2Proof

variable {d : Dev}

theorem jtagDecode_eq_idcode {code : Nat} : jtagDecode code = .idcode ↔ code = 1 := by
  unfold jtagDecode
  split <;> simp_all

theorem Dev.jtagInstr_idcode (h : d.jtag.ir = 1) : d.jtagInstr = .idcode := by
  simp [Dev.jtagInstr, h, jtagDecode]

/-- In SEALED and RETIRED every code but IDCODE's acts as BYPASS. -/
theorem Dev.jtagInstr_sealed (h : d.jtag.ir ≠ 1) (hsealed : 3 ≤ d.keep.lifecycle) : d.jtagInstr = .bypass := by
  have hother : jtagDecode d.jtag.ir ≠ .idcode := mt jtagDecode_eq_idcode.mp h
  simp [Dev.jtagInstr, hother, hsealed]

theorem Dev.jtagInstr_extest (h : d.jtag.ir = 0) (hopen : d.keep.lifecycle < 3) : d.jtagInstr = .extest := by
  simp [Dev.jtagInstr, h, jtagDecode, Nat.not_le.mpr hopen]

@[simp] theorem cells_length (n : Nat) (l : List Bool) : (cells n l).length = n := by simp [cells]

theorem cells_getD {n i : Nat} (l : List Bool) (h : i < n) : (cells n l).getD i false = l.getD i false := by
  simp [cells, h]

/-! ## Capture-DR, Update-DR and what the port drives, by the instruction in force -/

theorem Dev.jtagCapture_idcode (pins : List Bool) (h : d.jtagInstr = .idcode) :
    d.jtagCapture pins = (List.range 32).map (fun i => bit (idCodeOf 1) i) := by
  rw [Dev.jtagCapture, h]

theorem Dev.jtag_bypass (pins reg : List Bool) (h : d.jtagInstr = .bypass) :
    d.jtagCapture pins = [false] ∧ d.jtagDrives = none ∧ d.jtagUpdate reg = d := by
  rw [Dev.jtagCapture, Dev.jtagDrives, Dev.jtagUpdate, h]
  exact ⟨rfl, rfl, rfl⟩

theorem Dev.jtagCapture_extest (pins : List Bool) (h : d.jtagInstr = .extest) : d.jtagCapture pins = cells scanBits pins := by
  rw [Dev.jtagCapture, h]

theorem Dev.jtagUpdate_extest (reg : List Bool) (h : d.jtagInstr = .extest) :
    d.jtagUpdate reg = { d with jtag := { d.jtag with latches := cells scanBits reg } } := by
  rw [Dev.jtagUpdate, h]

theorem Dev.jtagDrives_extest (h : d.jtagInstr = .extest) : d.jtagDrives = some (some d.jtag.latches) := by
  rw [Dev.jtagDrives, h]

end Sys2Proof.Machine
end

section
/-! The statement about the state after a power-on reset and the JTAG port. -/

namespace Sys2Proof.Machine

open Sys2Proof

/-- Right after a power-on reset every store is empty and both clocks stand at the beginning of a second. -/
theorem reset_bounded : State.reset.dev.Bounded :=
  { history := by decide
    unsent := by decide
    faults := by decide
    aon := by decide
    ns := by decide
    rtc := by decide
    mram := by decide
    capture := by decide
    pools := by decide }

/-- An external port right after a power-on reset. -/
theorem reset_port {p : Nat} (h : p < 50) :
    (State.reset.dev.port p).admin = false ∧ (State.reset.dev.port p).maxFrame = 1522 := by
  have hport : State.reset.dev.port p = port0 p := rfl
  have hexternal : ¬ 90 ≤ p := by omega
  have hmax : ¬ 91 ≤ p := by omega
  simp [hport, port0, hexternal, hmax]

/-- Settles O60: the registers' values are those of the reset state, and JTAG's are told by the instruction in force. -/
theorem resetMeetsBoundsAndDefaults : Obligations.ResetMeetsBoundsAndDefaults := by
  refine ⟨reset_bounded, rfl, ?_, fun d pins hir => ?_, fun d pins hir hsealed => ?_, fun d pins hir hopen => ?_⟩
  · exact ⟨rfl, rfl, rfl, rfl, rfl, rfl, rfl, fun _ => ⟨rfl, rfl, rfl⟩, rfl, rfl, rfl, rfl, rfl, rfl, rfl, rfl, fun _ => reset_port,
      rfl, rfl, rfl, rfl, rfl, rfl, rfl, rfl⟩
  · exact Dev.jtagCapture_idcode pins (Dev.jtagInstr_idcode hir)
  · have hbypass := fun reg => Dev.jtag_bypass pins reg (Dev.jtagInstr_sealed hir hsealed)
    obtain ⟨hcapture, hdrives, _⟩ := hbypass []
    refine ⟨hcapture, hdrives, fun reg => ?_⟩
    obtain ⟨_, _, hupdate⟩ := hbypass reg
    exact hupdate
  · have hextest := Dev.jtagInstr_extest hir hopen
    refine ⟨by rw [Dev.jtagCapture_extest pins hextest, cells_length], fun reg => ?_⟩
    rw [Dev.jtagUpdate_extest reg hextest]
    exact ⟨Dev.jtagDrives_extest hextest, fun i hi => cells_getD reg hi⟩

end Sys2Proof.Machine
end

section
/-! SUPPORT. What the immediate time commands answer and change (chapter 10, Commands; R270 to R272, R284, R285). -/

namespace Sys2Proof.Machine

open Sys2Proof

/-! ## TIME_STATUS and TIME_READ -/

/-- TIME_STATUS's response. -/
def Dev.timeReport (d : Dev) : Bytes :=
  leb 1 d.time.workSlot ++ leb 1 d.qualityNow ++ zeros 2 ++ leb 4 d.errNs ++ leb 8 d.time.clock.increment ++ d.slotStatus 0 ++
    d.slotStatus 1

theorem exec_timeStatus (rq : Req) (s : State) : exec (.timeStatus rq) s =
    onDev (Dev.serve 0x0906 rq (rspMax 64) (fun d _ bs => withLayout d 0 [] bs (ansOk d d.timeReport))) s := rfl

@[simp] theorem Dev.slotStatus_length (d : Dev) (i : Nat) : (d.slotStatus i).length = 24 := by simp [Dev.slotStatus]

theorem Dev.timeReport_length (d : Dev) : d.timeReport.length = 64 := by simp [Dev.timeReport]

theorem Dev.timeReport_workSlot (d : Dev) : byteAt d.timeReport 0 = d.time.workSlot % 256 := by simp [Dev.timeReport, byteAt_append]

theorem Dev.timeReport_quality (d : Dev) : byteAt d.timeReport 1 = d.qualityNow := by
  simp [Dev.timeReport, byteAt_append, Nat.mod_eq_of_lt d.qualityNow_lt]

/-- TIME_READ's response. -/
def Dev.timesReport (d : Dev) : Bytes :=
  t80le d.now ++ leb 1 d.qualityNow ++ zeros 1 ++ d.slotT80 0 ++ leb 1 (b2n (slotValid (d.slot 0)) + 2 * b2n (slotValid (d.slot 1))) ++
    zeros 1 ++ d.slotT80 1 ++ zeros 2

theorem exec_timeRead (rq : Req) (s : State) : exec (.timeRead rq) s =
    onDev (Dev.serve 0x0907 rq (rspMax 36) (fun d _ bs => withLayout d 0 [] bs (ansOk d d.timesReport))) s := rfl

@[simp] theorem Dev.slotT80_length (d : Dev) (i : Nat) : (d.slotT80 i).length = 10 := by
  unfold Dev.slotT80
  split <;> simp

theorem Dev.timesReport_length (d : Dev) : d.timesReport.length = 36 := by simp [Dev.timesReport]

theorem Dev.timesReport_now (d : Dev) : d.timesReport.take 10 = t80le d.now := by
  simp only [Dev.timesReport, List.append_assoc]
  exact List.take_left' (t80le_length d.now)

theorem Dev.timesReport_quality (d : Dev) : byteAt d.timesReport 10 = d.qualityNow := by
  simp [Dev.timesReport, byteAt_append, Nat.mod_eq_of_lt d.qualityNow_lt]

/-! ## TIME_SWITCH (R271) -/

/-- TIME_SWITCH's response: the slot's offset, and the time to slew it away. -/
def Dev.switchReport (d : Dev) (i : Nat) : Bytes :=
  leb 4 (hold32 (d.slotOffset (d.slot i))) ++ leb 4 (ceilDiv (d.slotOffset (d.slot i)).natAbs d.time.slewPpm)

/-- TIME_SWITCH's work. -/
def timeSwitchBody (d : Dev) (i : Nat) : Ans :=
  if i == d.time.workSlot then ansOk d (d.switchReport i)
  else if (d.slot i).state = .locked then ansOk (d.switchSlot i 1) (d.switchReport i)
  else ansErr d stWrongMode

theorem exec_timeSwitch (rq : Req) (s : State) : exec (.timeSwitch rq) s =
    onDev (Dev.serve 0x0908 rq (rspMax 8) (fun d _ bs => withLayout d 4 [fr 0 1 0 1] bs (timeSwitchBody d (byteAt bs 0)))) s := rfl

theorem Dev.switchReport_length (d : Dev) (i : Nat) : (d.switchReport i).length = 8 := by simp [Dev.switchReport]

theorem hold32_lt (v : Int) : hold32 v < 2 ^ 32 := by
  unfold hold32 unsigned
  omega

theorem Dev.switchReport_offset (d : Dev) (i : Nat) : le (d.switchReport i) 0 4 = hold32 (d.slotOffset (d.slot i)) := by
  rw [Dev.switchReport, le_leb_append]
  exact Nat.mod_eq_of_lt (hold32_lt _)

theorem timeSwitchBody_working (d : Dev) {i : Nat} (h : i = d.time.workSlot) : timeSwitchBody d i = ansOk d (d.switchReport i) :=
  if_pos (beq_iff_eq.mpr h)

theorem timeSwitchBody_locked {d : Dev} {i : Nat} (hother : i ≠ d.time.workSlot) (h : (d.slot i).state = .locked) :
    timeSwitchBody d i = ansOk (d.switchSlot i 1) (d.switchReport i) := by
  rw [timeSwitchBody, beq_false_of_ne hother, if_neg Bool.false_ne_true, if_pos h]

theorem timeSwitchBody_refused {d : Dev} {i : Nat} (hother : i ≠ d.time.workSlot) (h : (d.slot i).state ≠ .locked) :
    timeSwitchBody d i = ansErr d stWrongMode := by
  rw [timeSwitchBody, beq_false_of_ne hother, if_neg Bool.false_ne_true, if_neg h]

/-- A switch to a LOCKED slot leaves the clock as it runs. -/
theorem Dev.switchSlot_locked {d : Dev} {i : Nat} (h : (d.slot i).state = .locked) (cause : Nat) :
    (d.switchSlot i cause).time.workSlot = i ∧ (d.switchSlot i cause).time.clock = d.time.clock ∧
      (d.switchSlot i cause).time.slewing = true ∧ ((d.switchSlot i cause).slot i).sumTheta = 0 := by
  obtain ⟨q, htime⟩ := d.switchSlot_time i cause
  have hclock : (d.workOn i).time.clock = d.time.clock := by simp [Dev.workOn, h]
  rw [Dev.switchSlot_slot, Dev.workOn_slot, htime]
  exact ⟨rfl, hclock, rfl, rfl⟩

/-! ## TIME_SET (R272) -/

/-- The block whose clock has been set to a time of `ns` ns. -/
def Dev.setClock (d : Dev) (ns : Nat) : Dev :=
  { d.stepTo ns with time := { (d.stepTo ns).time with clock := { (d.stepTo ns).time.clock with frac := 0 }, clockSet := true } }

/-- TIME_SET's work. -/
def timeSetBody (d : Dev) (ns : Nat) : Ans :=
  if d.work.state = .disabled ∨ d.work.state = .listening ∨ d.work.state = .grandmaster then ansOk (d.setClock ns).settleQuality []
  else ansErr d stWrongMode

theorem exec_timeSet (rq : Req) (s : State) : exec (.timeSet rq) s =
    onDev (Dev.serve 0x0909 rq (rspMax 0) (fun d _ bs => withLayout d 12 [fa 0 6, fr 6 4 0 999999999] bs
      (timeSetBody d (t80At bs 0)))) s := rfl

theorem Dev.setClock_settled (d : Dev) (ns : Nat) : (d.setClock ns).settleQuality.time.clock.sec = ns / 1000000000 % 2 ^ 48 ∧
    (d.setClock ns).settleQuality.time.clock.ns = ns % 1000000000 ∧ (d.setClock ns).settleQuality.time.clock.frac = 0 ∧
    (d.setClock ns).settleQuality.time.clockSet = true ∧ (d.setClock ns).settleQuality.time.quality = 4 := by
  have hquality : (d.setClock ns).qualityNow = 4 := Dev.qualityNow_of_clockSet rfl
  obtain ⟨p, hstep⟩ := d.stepTo_time ns
  rw [Dev.settleQuality_time, hquality, Dev.setClock, hstep]
  exact ⟨rfl, rfl, rfl, rfl, rfl⟩

/-- A T80 field in its range gives its seconds and nanoseconds. -/
theorem t80At_parts {bs : Bytes} {off : Nat} (h : le bs (off + 6) 4 ≤ 999999999) :
    t80At bs off / 1000000000 % 2 ^ 48 = le bs off 6 ∧ t80At bs off % 1000000000 = le bs (off + 6) 4 := by
  have hsec : le bs off 6 < 2 ^ 48 := le_lt bs off 6
  unfold t80At
  omega

/-! ## TIME_CAPTURE_READ and TIME_PULSE (R284, R285) -/

/-- The block after the `n` oldest records of a pin are taken. -/
def Dev.takeCaptures (d : Dev) (pin n : Nat) : Dev := d.putPin pin { d.pin pin with captures := (d.pin pin).captures.drop n }

/-- TIME_CAPTURE_READ's response. -/
def TimePin.captureReport (q : TimePin) (n : Nat) : Bytes :=
  leb 1 (q.captures.take n).length ++ zeros 3 ++ (q.captures.take n).flatMap captureBytes

/-- TIME_CAPTURE_READ's work. -/
def captureReadBody (d : Dev) (pin n : Nat) : Ans :=
  if (d.pin pin).mode != 3 then ansErr d stWrongMode else ansOk (d.takeCaptures pin n) ((d.pin pin).captureReport n)

theorem exec_timeCaptureRead (rq : Req) (s : State) : exec (.timeCaptureRead rq) s =
    onDev (Dev.serve 0x090A rq (fun _ bs => 4 + 16 * byteAt bs 1) (fun d _ bs => withLayout d 4 [fr 0 1 0 15, fr 1 1 1 16] bs
      (captureReadBody d (byteAt bs 0) (byteAt bs 1)))) s := rfl

theorem TimePin.captureReport_count (q : TimePin) {n : Nat} (h : n < 256) :
    byteAt (q.captureReport n) 0 = min n q.captures.length := by
  have hcount : (q.captures.take n).length = min n q.captures.length := List.length_take
  simp only [TimePin.captureReport, List.append_assoc, byteAt_append, leb_length, Nat.one_pos, if_true, byteAt_leb_one, hcount]
  omega

theorem captureReadBody_capture {d : Dev} {pin : Nat} (n : Nat) (h : (d.pin pin).mode = 3) :
    captureReadBody d pin n = ansOk (d.takeCaptures pin n) ((d.pin pin).captureReport n) := by
  rw [captureReadBody, h, if_neg (by decide)]

theorem captureReadBody_refused {d : Dev} {pin : Nat} (n : Nat) (h : (d.pin pin).mode ≠ 3) :
    captureReadBody d pin n = ansErr d stWrongMode := if_pos (bne_iff_ne.mpr h)

/-- The block in which TIME_PULSE arms its pulse: one due in this tick is driven first. -/
def Dev.pulseDriven (d : Dev) (n : Nat) : Dev :=
  let due := match (d.pin n).pending with | some t => decide ((d.pin n).driveAt t ≤ d.now) | none => false
  if due then timeIoEdge n d else d

/-- TIME_PULSE's work. -/
def pulseBody (d : Dev) (n t : Nat) : Ans :=
  if (d.pin n).mode != 1 then ansErr d stWrongMode
  else if t < d.now + 1000 then ansErr d stBadParam
  else ansOk ((d.pulseDriven n).putPin n { (d.pulseDriven n).pin n with pending := some t }) []

theorem exec_timePulse (rq : Req) (s : State) : exec (.timePulse rq) s =
    onDev (Dev.serve 0x090B rq (rspMax 0) (fun d _ bs => withLayout d 16 [fr 0 1 0 15, fa 4 6, fr 10 4 0 999999999] bs
      (pulseBody d (byteAt bs 0) (t80At bs 4)))) s := rfl

theorem pulseBody_early {d : Dev} {n t : Nat} (hmode : (d.pin n).mode = 1) (h : t < d.now + 1000) :
    pulseBody d n t = ansErr d stBadParam := by
  rw [pulseBody, hmode, if_neg (by decide), if_pos h]

theorem pulseBody_armed {d : Dev} {n t : Nat} (hmode : (d.pin n).mode = 1) (h : d.now + 1000 ≤ t) :
    pulseBody d n t = ansOk ((d.pulseDriven n).putPin n { (d.pulseDriven n).pin n with pending := some t }) [] := by
  rw [pulseBody, hmode, if_neg (by decide), if_neg (Nat.not_lt.mpr h)]

/-- What is due at a pin leaves its mode. -/
theorem timeIoEdge_mode (n : Nat) (d : Dev) : ((timeIoEdge n d).pin n).mode = (d.pin n).mode := by
  unfold timeIoEdge
  extract_lets q0 ends q d1
  have hq : q.mode = (d.pin n).mode := by
    simp only [q]
    split <;> rfl
  have hd1 : (d1.pin n).mode = (d.pin n).mode := by rw [Dev.putPin_pin, hq]
  split
  · rfl
  · split
    · split
      · split
        · rw [Dev.driveEdge_pin, hq]
        · exact hd1
      · exact hd1
    · split
      · rw [Dev.driveEdge_pin, hq]
      · exact hd1

theorem Dev.pulseDriven_mode (d : Dev) (n : Nat) : ((d.pulseDriven n).pin n).mode = (d.pin n).mode := by
  unfold Dev.pulseDriven
  extract_lets due
  split
  · exact timeIoEdge_mode n d
  · rfl

end Sys2Proof.Machine
end

section
/-! The statement about the immediate time commands. -/

namespace Sys2Proof.Machine

open Sys2Proof

/-- Settles O48, command by command. -/
theorem timeCommandsComplete : Obligations.TimeCommandsComplete := by
  refine ⟨?_, ?_, ?_, ?_, ?_, ?_, ?_, ?_, ?_, ?_⟩
  · refine completes_of_body exec_timeStatus ?_
    rintro d rq bs rfl
    exact ⟨d, _, rfl, rfl, d.timeReport_length, d.timeReport_workSlot, d.timeReport_quality⟩
  · refine completes_of_body exec_timeRead ?_
    rintro d rq bs rfl
    exact ⟨d, _, rfl, rfl, d.timesReport_length, d.timesReport_now, d.timesReport_quality⟩
  · refine completes_of_body exec_timeSwitch ?_
    rintro d rq bs ⟨hlen, hok, hgood⟩
    have hlength := d.switchReport_length (byteAt bs 0)
    have hoffset := d.switchReport_offset (byteAt bs 0)
    by_cases hwork : byteAt bs 0 = d.time.workSlot
    · exact ⟨d, _, (withLayout_ok _ hlen hok).trans (timeSwitchBody_working d hwork), hlength, hoffset, hwork.symm, rfl,
        fun _ => rfl, fun hother => absurd hwork hother⟩
    · have hlocked := hgood.resolve_left hwork
      obtain ⟨hslot, hclock, hslews, hsum⟩ := Dev.switchSlot_locked hlocked 1
      exact ⟨_, _, (withLayout_ok _ hlen hok).trans (timeSwitchBody_locked hwork hlocked), hlength, hoffset, hslot, hclock,
        fun h => absurd h hwork, fun _ => ⟨hslews, hsum⟩⟩
  · refine refuses_of_body (by decide) exec_timeSwitch ?_
    rintro d rq bs ⟨hlen, hok, hother, hstate⟩
    exact (withLayout_ok _ hlen hok).trans (timeSwitchBody_refused hother hstate)
  · refine completes_of_body exec_timeSet ?_
    rintro d rq bs ⟨hlen, hok, hstate⟩
    have hns : le bs 6 4 ≤ 999999999 := (layoutOk_field (f := fr 6 4 0 999999999) hok (by simp)).2
    obtain ⟨hsec, hnano, hfrac, hset, hquality⟩ := d.setClock_settled (t80At bs 0)
    obtain ⟨hsecs, hnanos⟩ := t80At_parts (off := 0) hns
    exact ⟨_, [], (withLayout_ok _ hlen hok).trans (if_pos hstate), rfl, hsec.trans hsecs, hnano.trans hnanos, hfrac, hset, hquality⟩
  · refine refuses_of_body (by decide) exec_timeSet ?_
    rintro d rq bs ⟨hlen, hok, hstate⟩
    refine (withLayout_ok _ hlen hok).trans (if_neg ?_)
    obtain h | h | h := hstate <;> simp [h]
  · refine completes_of_body exec_timeCaptureRead ?_
    rintro d rq bs ⟨hlen, hok, hmode⟩
    have hcount : byteAt bs 1 < 256 := (bs.getD 1 0).isLt
    exact ⟨_, _, (withLayout_ok _ hlen hok).trans (captureReadBody_capture _ hmode),
      (d.pin (byteAt bs 0)).captureReport_count hcount, rfl⟩
  · refine refuses_of_body (by decide) exec_timeCaptureRead ?_
    rintro d rq bs ⟨hlen, hok, hmode⟩
    exact (withLayout_ok _ hlen hok).trans (captureReadBody_refused _ hmode)
  · refine completes_of_body exec_timePulse ?_
    rintro d rq bs ⟨hlen, hok, hmode, hahead⟩
    refine ⟨_, [], (withLayout_ok _ hlen hok).trans (pulseBody_armed hmode hahead), rfl, ?_, ?_⟩
    · rw [Dev.putPin_pin]
    · rw [Dev.putPin_pin]
      exact (d.pulseDriven_mode _).trans hmode
  · refine refuses_of_body (by decide) exec_timePulse ?_
    rintro d rq bs ⟨hlen, hok, hmode, hearly⟩
    exact (withLayout_ok _ hlen hok).trans (pulseBody_early hmode hearly)

end Sys2Proof.Machine
end

section
/-! SUPPORT. The local clock's tick, and what a Sync sample does to a slot and to the clock (R263 to R267, R272). -/

namespace Sys2Proof.Machine

open Sys2Proof

/-! ## A TIME tick -/

theorem Clock.tick_ns_lt (c : Clock) : c.tick.ns < 1000000000 := Nat.mod_lt _ (by decide)

theorem Clock.tick_frac_lt (c : Clock) : c.tick.frac < 2 ^ 32 := Nat.mod_lt _ (by decide)

/-- A tick adds INCREMENT to the whole clock, whose seconds wrap at 48 bits. -/
theorem Clock.tick_value (c : Clock) :
    ((c.tick.sec * 1000000000 + c.tick.ns) * 2 ^ 32 + c.tick.frac) % (2 ^ 48 * 1000000000 * 2 ^ 32) =
      ((c.sec * 1000000000 + c.ns) * 2 ^ 32 + c.frac + c.increment) % (2 ^ 48 * 1000000000 * 2 ^ 32) := by
  have hwraps : ∃ k, (c.sec * 1000000000 + c.ns) * 2 ^ 32 + c.frac + c.increment =
      (c.tick.sec * 1000000000 + c.tick.ns) * 2 ^ 32 + c.tick.frac + 2 ^ 48 * 1000000000 * 2 ^ 32 * k := by
    refine ⟨(c.sec + (c.ns + c.increment / 2 ^ 32 + (c.frac + c.increment % 2 ^ 32) / 2 ^ 32) / 1000000000) / 2 ^ 48, ?_⟩
    simp only [Clock.tick]
    omega
  obtain ⟨k, hk⟩ := hwraps
  rw [hk, Nat.add_mul_mod_self_left]

/-! ## The rules of the servo -/

theorem Dev.posts_gptpHeard (d : Dev) (p : Nat) : d.Posts (d.gptpHeard p) := by
  unfold Dev.gptpHeard
  split
  · exact d.posts_count _ _
  · exact .refl d

theorem Dev.gptpStamp_eq (d : Dev) (p : Nat) (r : RxStamp) : d.gptpStamp p r = if p = 90 then r.sampled else d.ingressTime p r := by
  simp only [Dev.gptpStamp, beq_iff_eq]

theorem Dev.samplesFrom_eq_false {d : Dev} {i p : Nat}
    (h : (d.slot i).slave ≠ p ∨ bit (d.slot i).portMask p = false ∨ d.asCapable p = false) : d.samplesFrom i p = false := by
  unfold Dev.samplesFrom
  obtain h | h | h := h <;> simp [h]

theorem Dev.setGm_same {d : Dev} {i gm : Nat} (h : (d.slot i).gmId = gm) : d.setGm i gm = d := if_pos (beq_iff_eq.mpr h)

/-- A new grandmaster changes a slot's grandmaster, its state and its runs. -/
theorem Dev.setGm_slot (d : Dev) (i gm : Nat) : ∃ st good bad, (d.setGm i gm).slot i =
    { d.slot i with gmId := gm, state := st, goodRun := good, badRun := bad } := by
  unfold Dev.setGm
  extract_lets s d1 d2
  have hd1 : d1.slot i = { d.slot i with gmId := gm, goodRun := 0 } := Dev.putSlot_slot ..
  have hd2 : d2.slot i = { d.slot i with gmId := gm, goodRun := 0 } := by
    rw [((d1.posts_count _ _).trans (Dev.posts_post _ _ _ _)).slot, hd1]
  split
  next heq =>
    rw [← beq_iff_eq.mp heq]
    exact ⟨_, _, _, rfl⟩
  · split
    · exact ⟨_, _, _, hd1⟩
    · split
      · obtain ⟨good, bad, hmoved⟩ := d2.slotState_slot i .acquire
        exact ⟨_, _, _, by rw [hmoved, hd2]⟩
      · exact ⟨_, _, _, hd2⟩

variable (d : Dev) (i : Nat) (y : SyncSample) (theta sum c : Int) (runs : Nat × Nat × SlotState)

/-- A sample taken is the slot's, with its rate, its restarted receipt timer and the state of the lock criterion. -/
theorem Dev.applySample_slot : let s := (d.applySample i y theta sum c runs).slot i
    s.theta = theta ∧ s.rate = y.rate ∧ s.sampled = true ∧
      s.syncDeadline = some (d.uptime + receiptNs (d.slot i).syncTimeout (d.slot i).logSync) ∧ s.state = runs.2.2 := by
  unfold Dev.applySample
  extract_lets s inc s' d1 _ _ d2 _ moved last
  have hd2 : d2.slot i = s' := by
    simp only [d2]
    split <;> exact Dev.putSlot_slot ..
  simp only [last, moved]
  split
  next hsame =>
    rw [hd2]
    exact ⟨rfl, rfl, rfl, rfl, hsame.symm⟩
  next hmoves =>
    obtain ⟨good, bad, hmoved⟩ := d2.slotState_slot i runs.2.2
    rw [Dev.putSlot_slot, hmoved, hd2]
    exact ⟨rfl, rfl, rfl, rfl, rfl⟩

/-- A sample taken steers the clock of the working slot alone, by INCREMENT. -/
theorem Dev.applySample_time : ∃ sl slews set, (d.applySample i y theta sum c runs).time = { d.time with
    slots := sl, slewing := slews, clockSet := set
    clock := { d.time.clock with
      increment := if i = d.time.workSlot then servoIncrement y.rate c else d.time.clock.increment } } := by
  unfold Dev.applySample
  extract_lets s inc s' d1 _ _ d2
  have hd2 : ∃ sl slews set, d2.time = { d.time with
      slots := sl, slewing := slews, clockSet := set
      clock := { d.time.clock with
        increment := if i = d.time.workSlot then servoIncrement y.rate c else d.time.clock.increment } } := by
    by_cases hwork : i = d.time.workSlot
    · simp only [d2, d1, inc, hwork, beq_self_eq_true, if_true]
      exact ⟨_, _, _, rfl⟩
    · simp only [d2, beq_false_of_ne hwork, Bool.false_eq_true, if_false, if_neg hwork]
      exact ⟨_, _, _, rfl⟩
  obtain ⟨sl, slews, set, hd2⟩ := hd2
  split
  · exact ⟨_, _, _, hd2⟩
  · rw [Dev.putSlot_time, Dev.slotState_time, hd2]
    exact ⟨_, _, _, rfl⟩

end Sys2Proof.Machine
end

section
/-! SUPPORT. SYNC_SAMPLE, case by case (R265, R266, R272). -/

namespace Sys2Proof.Machine

open Sys2Proof

variable {d : Dev} {i : Nat} {y : SyncSample}

theorem syncSample_ignored
    (h : 2 ≤ i ∨ (d.slot i).state = .disabled ∨ (d.slot i).state = .grandmaster ∨ d.samplesFrom i y.port = false) :
    syncSample i y d = d.gptpHeard y.port := if_pos h

theorem syncSample_rejected (hi : i < 2) (hon : (d.slot i).state ≠ .disabled) (hslave : (d.slot i).state ≠ .grandmaster)
    (hfrom : d.samplesFrom i y.port = true) (hrate : rateOk y.rate = false) :
    syncSample i y d = (d.gptpHeard y.port).count 9 (1024 + i * 8 + 2) := by
  simp [syncSample, hon, hslave, hfrom, hrate, Nat.not_le.mpr hi]

theorem Dev.takeSample_servo (h : d.sampleSteps i (d.theta y) = false) :
    ∃ sum, d.takeSample i y = d.applySample i y (d.theta y) sum
      (servoClamp d (servoRaw d (d.theta y) ((d.slot i).sumTheta + d.theta y)))
      (lockStep d i (d.slot i) (lockError d i (d.slot i) (d.theta y))) := ⟨_, if_neg (Bool.eq_false_iff.mp h)⟩

theorem Dev.takeSample_step (h : d.sampleSteps i (d.theta y) = true) :
    d.takeSample i y = (d.stepTo ((d.now : Int) - d.theta y).toNat).applySample i y 0 0 0 (0, 0, .acquire) := if_pos h

/-- A sample taken leaves whether the switch is automatic. -/
theorem Dev.takeSample_autoSwitch (d : Dev) (i : Nat) (y : SyncSample) : (d.takeSample i y).time.autoSwitch = d.time.autoSwitch := by
  cases hstep : d.sampleSteps i (d.theta y) with
  | true =>
    rw [Dev.takeSample_step hstep]
    obtain ⟨_, _, _, happly⟩ := (d.stepTo ((d.now : Int) - d.theta y).toNat).applySample_time i y 0 0 0 (0, 0, .acquire)
    obtain ⟨_, hto⟩ := d.stepTo_time ((d.now : Int) - d.theta y).toNat
    rw [happly, hto]
    rfl
  | false =>
    obtain ⟨sum, htake⟩ := Dev.takeSample_servo hstep
    rw [htake]
    obtain ⟨_, _, _, happly⟩ := d.applySample_time i y (d.theta y) sum
      (servoClamp d (servoRaw d (d.theta y) ((d.slot i).sumTheta + d.theta y)))
      (lockStep d i (d.slot i) (lockError d i (d.slot i) (d.theta y)))
    rw [happly]

/-- The block that takes a sample: the message is heard and the sample counted. -/
def Dev.sampleHeard (d : Dev) (i : Nat) (y : SyncSample) : Dev := (d.gptpHeard y.port).count 9 (1024 + i * 8)

theorem Dev.posts_sampleHeard (d : Dev) (i : Nat) (y : SyncSample) : d.Posts (d.sampleHeard i y) :=
  (d.posts_gptpHeard _).trans (Dev.posts_count _ _ _)

/-- A valid sample of a slot in ACQUIRE or LOCKED, its grandmaster unchanged. -/
theorem syncSample_taken (hi : i < 2) (hstate : (d.slot i).state = .acquire ∨ (d.slot i).state = .locked)
    (hfrom : d.samplesFrom i y.port = true) (hrate : rateOk y.rate = true) (hgm : (d.slot i).gmId = y.gmId)
    (hauto : d.time.autoSwitch = false) : syncSample i y d = ((d.sampleHeard i y).takeSample i y).settleQuality := by
  have hheard := d.posts_sampleHeard i y
  have hgm' : (d.sampleHeard i y).setGm i y.gmId = d.sampleHeard i y := Dev.setGm_same (by rw [hheard.slot, hgm])
  have hkeeps : ¬ (((d.sampleHeard i y).slot i).state = .listening ∨ ((d.sampleHeard i y).slot i).state = .holdover) := by
    rw [hheard.slot]
    obtain h | h := hstate <;> simp [h]
  have hoff : ((d.sampleHeard i y).takeSample i y).time.autoSwitch = false := by
    rw [Dev.takeSample_autoSwitch, hheard.time, hauto]
  have htakes : ¬ (2 ≤ i ∨ (d.slot i).state = .disabled ∨ (d.slot i).state = .grandmaster ∨ d.samplesFrom i y.port = false) := by
    obtain h | h := hstate <;> simp [h, hfrom, hi]
  unfold syncSample
  extract_lets d0 s d1 d2
  have hd1 : d1 = d.sampleHeard i y := hgm'
  have hd2 : d2 = d.sampleHeard i y := by
    simp only [d2, hd1]
    exact if_neg hkeeps
  rw [if_neg htakes, hrate, hd2, Dev.autoSwitch_off _ hoff]
  rfl

/-- The servo's sample: it is the slot's, and steers the working slot's clock without setting it. -/
theorem Dev.servoSample_result (h : d.sampleSteps i (d.theta y) = false) : let d' := (d.takeSample i y).settleQuality
    (d'.slot i).theta = d.theta y ∧ (d'.slot i).rate = y.rate ∧ (d'.slot i).sampled = true ∧
    (d'.slot i).syncDeadline = some (d.uptime + receiptNs (d.slot i).syncTimeout (d.slot i).logSync) ∧
    (d'.slot i).state = (lockStep d i (d.slot i) (lockError d i (d.slot i) (d.theta y))).2.2 ∧
    d'.time.clock.sec = d.time.clock.sec ∧ d'.time.clock.ns = d.time.clock.ns ∧
    d'.time.clock.increment = if i = d.time.workSlot then
      servoIncrement y.rate (servoClamp d (servoRaw d (d.theta y) ((d.slot i).sumTheta + d.theta y))) else d.time.clock.increment := by
  obtain ⟨sum, htake⟩ := Dev.takeSample_servo h
  obtain ⟨htheta, hrate, hsampled, htimer, hstate⟩ := d.applySample_slot i y (d.theta y) sum
    (servoClamp d (servoRaw d (d.theta y) ((d.slot i).sumTheta + d.theta y)))
    (lockStep d i (d.slot i) (lockError d i (d.slot i) (d.theta y)))
  obtain ⟨_, _, _, htime⟩ := d.applySample_time i y (d.theta y) sum
    (servoClamp d (servoRaw d (d.theta y) ((d.slot i).sumTheta + d.theta y)))
    (lockStep d i (d.slot i) (lockError d i (d.slot i) (d.theta y)))
  dsimp only
  rw [Dev.settleQuality_slot, Dev.settleQuality_time, htake, htime]
  exact ⟨htheta, hrate, hsampled, htimer, hstate, rfl, rfl, rfl⟩

/-- The sample of a permitted step: it sets the clock, and the slot's offset is 0. -/
theorem Dev.stepSample_result (h : d.sampleSteps i (d.theta y) = true) : let d' := (d.takeSample i y).settleQuality
    (d'.slot i).theta = 0 ∧ d'.time.clock.sec = ((d.now : Int) - d.theta y).toNat / 1000000000 % 2 ^ 48 ∧
    d'.time.clock.ns = ((d.now : Int) - d.theta y).toNat % 1000000000 := by
  obtain ⟨htheta, _⟩ := (d.stepTo ((d.now : Int) - d.theta y).toNat).applySample_slot i y 0 0 0 (0, 0, .acquire)
  obtain ⟨_, _, _, htime⟩ := (d.stepTo ((d.now : Int) - d.theta y).toNat).applySample_time i y 0 0 0 (0, 0, .acquire)
  obtain ⟨_, hto⟩ := d.stepTo_time ((d.now : Int) - d.theta y).toNat
  dsimp only
  rw [Dev.settleQuality_slot, Dev.settleQuality_time, Dev.takeSample_step h, htime, hto]
  exact ⟨htheta, rfl, rfl⟩

end Sys2Proof.Machine
end

section
/-! SUPPORT. The receipt timers and the best master clock algorithm's selection (R267, R268, R274). -/

namespace Sys2Proof.Machine

open Sys2Proof

variable {d : Dev} {i : Nat} {b : BmcaResult}

theorem Dev.enterHoldover_slot (d : Dev) (i : Nat) : ((d.enterHoldover i).slot i).state = .holdover ∧
    ((d.enterHoldover i).slot i).syncDeadline = (d.slot i).syncDeadline := by
  unfold Dev.enterHoldover
  extract_lets s d1
  have hd1 : (d1.slot i).state = .holdover ∧ (d1.slot i).syncDeadline = (d.slot i).syncDeadline := by
    obtain ⟨good, bad, hmoved⟩ :=
      (d.putSlot i { s with holdoverStart := d.uptime, holdoverErr := s.sampleErr, corr := 0 }).slotState_slot i .holdover
    rw [hmoved, Dev.putSlot_slot]
    exact ⟨rfl, rfl⟩
  split <;> exact hd1

theorem syncTimeout_waits (h : d.overO (d.slot i).syncDeadline = false) : syncTimeout i d = d := by
  simp [syncTimeout, h]

theorem syncTimeout_expired (h : d.overO (d.slot i).syncDeadline = true) : ((syncTimeout i d).slot i).syncDeadline = none ∧
    ((syncTimeout i d).slot i).state = if (d.slot i).state = .locked then .holdover else .listening := by
  unfold syncTimeout
  extract_lets s d1 d2
  have hd1 : d1.slot i = { d.slot i with syncDeadline := none } := by rw [(Dev.posts_count _ _ _).slot, Dev.putSlot_slot]
  have hd2 : (d2.slot i).syncDeadline = none ∧ (d2.slot i).state = if (d.slot i).state = .locked then .holdover else .listening := by
    by_cases hlocked : (d.slot i).state = .locked
    · obtain ⟨hstate, htimer⟩ := d1.enterHoldover_slot i
      simp only [d2, s, hlocked, if_true]
      exact ⟨by rw [htimer, hd1], hstate⟩
    · obtain ⟨good, bad, hmoved⟩ := d1.slotState_slot i .listening
      simp only [d2, s, hlocked, if_false]
      rw [hmoved, hd1]
      exact ⟨rfl, rfl⟩
  obtain ⟨_, _, _, hswitch⟩ := d2.autoSwitch_restarts d i
  rw [h, Bool.not_true, if_neg Bool.false_ne_true, Dev.settleQuality_slot, hswitch]
  exact hd2

/-- A port selected becomes the slot's slave port. -/
theorem Dev.reselect_port (hself : b.self = false) (hmask : bit (d.slot i).portMask b.port = true) :
    ((d.reselect i b).slot i).slave = b.port ∧ ((d.reselect i b).slot i).stepsRemoved = b.stepsRemoved := by
  unfold Dev.reselect
  extract_lets s _ _ _ d1 _ d2
  have hd2 : d2.slot i = { d1.slot i with slave := b.port, stepsRemoved := b.stepsRemoved } := Dev.putSlot_slot ..
  rw [hself, hmask, Bool.not_true, Bool.and_false, if_neg Bool.false_ne_true, if_neg Bool.false_ne_true]
  split
  · obtain ⟨good, bad, hmoved⟩ := d2.slotState_slot i .listening
    rw [hmoved, hd2]
    exact ⟨rfl, rfl⟩
  · rw [hd2]
    exact ⟨rfl, rfl⟩

/-- Where the device itself is selected, the slot has no slave port and is the grandmaster if it may be. -/
theorem Dev.reselect_self (hself : b.self = true) : ((d.reselect i b).slot i).announceDeadline = (d.slot i).announceDeadline ∧
    ((d.reselect i b).slot i).slave = 255 ∧
    ((d.reselect i b).slot i).state = if (d.slot i).gmCapable then .grandmaster else .listening := by
  unfold Dev.reselect
  extract_lets s d1 _ d2
  obtain ⟨_, _, _, hgm⟩ := d.setGm_slot i (if s.gmCapable then b.gmId else 0)
  have hd2 : d2.slot i = { d1.slot i with slave := 255, stepsRemoved := 0, syncDeadline := none } := Dev.putSlot_slot ..
  obtain ⟨_, _, hmoved⟩ := d2.slotState_slot i (if s.gmCapable then .grandmaster else .listening)
  rw [hself, Bool.not_true, Bool.false_and, if_neg Bool.false_ne_true, if_pos rfl, hmoved, hd2, hgm]
  exact ⟨rfl, rfl, rfl⟩

theorem announceTimeout_waits (h : d.overO (d.slot i).announceDeadline = false) : announceTimeout i b d = d := by
  simp [announceTimeout, h]

theorem announceTimeout_external (h : d.overO (d.slot i).announceDeadline = true) (hfixed : bit (d.slot i).flags 1 = true) :
    announceTimeout i b d = d.putSlot i { d.slot i with announceDeadline := none } := by
  simp [announceTimeout, h, hfixed]

/-- The selection after an announce receipt timer has run out, but for what an automatic switch clears. -/
theorem announceTimeout_reselects (h : d.overO (d.slot i).announceDeadline = true) (hfree : bit (d.slot i).flags 1 = false) :
    (((d.putSlot i { d.slot i with announceDeadline := none }).reselect i b).slot i).Restarts ((announceTimeout i b d).slot i) := by
  have heq : announceTimeout i b d =
      ((((d.putSlot i { d.slot i with announceDeadline := none }).reselect i b)).autoSwitch d).settleQuality := by
    simp [announceTimeout, h, hfree]
  rw [heq, Dev.settleQuality_slot]
  exact Dev.autoSwitch_restarts _ _ _

end Sys2Proof.Machine
end

section
/-! SUPPORT. gPTP messages, capability and the peer delay service (R274, R275). -/

namespace Sys2Proof.Machine

open Sys2Proof

variable {d : Dev} {p : Nat} {m : GptpMsg}

/-- A port's gPTP entry. -/
def Dev.timePort (d : Dev) (p : Nat) : TimePort := tabGet timePort0 d.time.ports p

theorem Dev.timePort_congr {d d' : Dev} (h : d'.time.ports = d.time.ports) (p : Nat) : d'.timePort p = d.timePort p := by
  rw [Dev.timePort, h, Dev.timePort]

/-- The block with another gPTP entry of a port. -/
def Dev.putTimePort (d : Dev) (p : Nat) (t : TimePort) : Dev := { d with time := { d.time with ports := tabPut d.time.ports p t } }

@[simp] theorem Dev.putTimePort_timePort (d : Dev) (p : Nat) (t : TimePort) : (d.putTimePort p t).timePort p = t := tabGet_put_same ..

theorem Dev.Posts.timePort {d d' : Dev} (h : d.Posts d') (p : Nat) : d'.timePort p = d.timePort p := Dev.timePort_congr (by rw [h.time]) p

theorem Dev.Posts.gptpStamp {d d' : Dev} (h : d.Posts d') (p : Nat) (r : RxStamp) : d'.gptpStamp p r = d.gptpStamp p r := by
  obtain ⟨_, _, _, rfl⟩ := h
  rfl

/-- A port that is no longer asCapable costs slots their state, not ports theirs. -/
theorem Dev.slotsLosePort_ports (d : Dev) (p : Nat) : (d.slotsLosePort p).time.ports = d.time.ports := by
  unfold Dev.slotsLosePort
  extract_lets one
  have hone : ∀ e i, (one e i).time.ports = e.time.ports := by
    intro e i
    simp only [one]
    split
    · rw [Dev.putSlot_time, Dev.slotState_time]
    · rfl
  rw [Dev.settleQuality_time]
  dsimp only
  rw [Dev.autoSwitch_ports]
  exact (hone _ 1).trans (hone d 0)

theorem Dev.setCapable_timePort (d : Dev) (p : Nat) (ok : Bool) :
    (d.setCapable p ok).timePort p = { d.timePort p with asCapable := ok } := by
  unfold Dev.setCapable
  extract_lets t _ d1
  have hd1 : d1.timePort p = { d.timePort p with asCapable := ok } := Dev.putTimePort_timePort ..
  split
  · rw [Dev.timePort_congr (d1.slotsLosePort_ports p), hd1]
  · exact hd1

/-! ## Messages received -/

/-- The slots enabled in a message's domain. -/
def Dev.slotsOf (d : Dev) (domain : Nat) : List Nat := [0, 1].filter (fun i => (d.slot i).enable && (d.slot i).domain == domain)

theorem Dev.slotsOf_isEmpty (d : Dev) (domain : Nat) : (d.slotsOf domain).isEmpty = true ↔
    ¬ ((d.slot 0).enable = true ∧ (d.slot 0).domain = domain) ∧ ¬ ((d.slot 1).enable = true ∧ (d.slot 1).domain = domain) := by
  simp [Dev.slotsOf]

theorem Dev.slotsOf_of_mine {domain : Nat} (h : ((d.slot 0).enable = true ∧ (d.slot 0).domain = domain) ∨
    ((d.slot 1).enable = true ∧ (d.slot 1).domain = domain)) : (d.slotsOf domain).isEmpty = false := by
  refine Bool.eq_false_iff.mpr fun hnone => ?_
  obtain ⟨h0, h1⟩ := (d.slotsOf_isEmpty domain).mp hnone
  exact h.elim h0 h1

theorem gptpMessage_atTs (hlow : 34 ≤ p) (hhigh : p < 50) : gptpMessage p m d = d.count 9 (p * 8 + 2) := by
  simp [gptpMessage, hlow, hhigh, Dev.gptpHeard]

/-- At a gPTP port a message is heeded or counted as of no domain, by the slots of its domain. -/
theorem gptpMessage_heeded (hport : p < 34 ∨ 50 ≤ p) : gptpMessage p m d =
    if (d.slotsOf m.domain).isEmpty then (d.gptpHeard p).count 9 1106
    else if m.kind == 2 then (d.gptpHeard p).pdelayResponse p m
    else if m.kind == 1 then (d.gptpHeard p).pdelayRequest p m
    else if m.kind == 0 then
      (((d.slotsOf m.domain).foldl (Dev.announced p m.bmca) (d.gptpHeard p)).autoSwitch (d.gptpHeard p)).settleQuality
    else d.gptpHeard p := by
  have hslots : (d.gptpHeard p).slotsOf m.domain = d.slotsOf m.domain := by
    simp only [Dev.slotsOf, (d.posts_gptpHeard p).slot]
  have hgptp : (decide (34 ≤ p) && decide (p < 50)) = false := by
    simp only [Bool.and_eq_false_iff, decide_eq_false_iff_not]
    omega
  rw [← hslots, gptpMessage, hgptp, if_neg Bool.false_ne_true]
  rfl

theorem gptpMessage_unheeded (hport : p < 34 ∨ 50 ≤ p) (h : (d.slotsOf m.domain).isEmpty = true) :
    gptpMessage p m d = (d.gptpHeard p).count 9 1106 := by
  rw [gptpMessage_heeded hport, if_pos h]

theorem gptpMessage_response (hport : p < 34 ∨ 50 ≤ p) (h : (d.slotsOf m.domain).isEmpty = false) (hkind : m.kind = 2) :
    gptpMessage p m d = (d.gptpHeard p).pdelayResponse p m := by
  rw [gptpMessage_heeded hport, h, hkind]
  rfl

theorem gptpMessage_request (hport : p < 34 ∨ 50 ≤ p) (h : (d.slotsOf m.domain).isEmpty = false) (hkind : m.kind = 1) :
    gptpMessage p m d = (d.gptpHeard p).pdelayRequest p m := by
  rw [gptpMessage_heeded hport, h, hkind]
  rfl

theorem Dev.pdelayRequest_off (h : (d.timePort p).peerDelay = false) : d.pdelayRequest p m = d := if_neg (Bool.eq_false_iff.mp h)

theorem Dev.pdelayRequest_answered (h : (d.timePort p).peerDelay = true) : d.pdelayRequest p m =
    d.sendGptp p 3 54 m.domain (stampFields 0 (d.gptpStamp p m.stamp)) (some (.pdelayResp m.domain)) := if_pos h

theorem Dev.pdelayResponse_off (h : (d.timePort p).peerDelay = false) : d.pdelayResponse p m = d :=
  if_pos (by rw [← Dev.timePort, h, Bool.not_false])

/-- A response whose request's timestamp was lost gives no new delay. -/
theorem Dev.pdelayResponse_lost (hon : (d.timePort p).peerDelay = true) (hreq : (d.timePort p).reqSent = none) :
    (d.pdelayResponse p m).timePort p = { d.timePort p with missed := 0, pdelayLast := some d.uptime, reqSent := none } := by
  have heq : d.pdelayResponse p m =
      d.putTimePort p { d.timePort p with missed := 0, pdelayLast := some d.uptime, reqSent := none } := by
    simp only [Dev.timePort] at hon hreq ⊢
    simp [Dev.pdelayResponse, hon, hreq, Dev.putTimePort]
  rw [heq, Dev.putTimePort_timePort]

/-- A response gives the mean link delay, and the capability by its threshold. -/
theorem Dev.pdelayResponse_measured (hon : (d.timePort p).peerDelay = true) {t1 : Nat} (hreq : (d.timePort p).reqSent = some t1) :
    (d.pdelayResponse p m).timePort p = { d.timePort p with
      meanDelay := meanLinkDelay t1 (d.gptpStamp p m.stamp) m, missed := 0, pdelayLast := some d.uptime, reqSent := none
      asCapable := decide (meanLinkDelay t1 (d.gptpStamp p m.stamp) m ≤ ((d.timePort p).thresh : Int) * 65536) } := by
  have heq : d.pdelayResponse p m =
      (d.putTimePort p { d.timePort p with
        meanDelay := meanLinkDelay t1 (d.gptpStamp p m.stamp) m, missed := 0, pdelayLast := some d.uptime, reqSent := none }).setCapable p
        (decide (meanLinkDelay t1 (d.gptpStamp p m.stamp) m ≤ ((d.timePort p).thresh : Int) * 65536)) := by
    simp only [Dev.timePort] at hon hreq ⊢
    simp only [Dev.pdelayResponse, hon, hreq, Bool.not_true, Bool.false_eq_true, if_false, Option.isSome_some, if_true]
    rfl
  rw [heq, Dev.setCapable_timePort, Dev.putTimePort_timePort]

/-! ## Missing responses and the requests -/

theorem pdelayTimeout_off (h : (d.timePort p).pdelayLast = none ∨ (d.timePort p).peerDelay = false) : pdelayTimeout p d = d := by
  unfold Dev.timePort at h
  unfold pdelayTimeout
  dsimp only
  split
  · rfl
  next last hlast =>
    obtain hnone | hoff := h
    · rw [hlast] at hnone
      cases hnone
    · rw [hoff, Bool.not_false, Bool.true_or, if_pos rfl]

/-- Intervals since a response. -/
def Dev.intervalsSince (d : Dev) (p last : Nat) : Nat := (d.uptime - last) / max 1 (pdelayNs (d.timePort p))

/-- The block in which the intervals without a response are counted. -/
def Dev.responsesMissed (d : Dev) (p n : Nat) : Dev :=
  (d.putTimePort p { d.timePort p with missed := n }).countN 9 (p * 8 + 4) (n - (d.timePort p).missed)

theorem Dev.responsesMissed_timePort (d : Dev) (p n : Nat) : (d.responsesMissed p n).timePort p = { d.timePort p with missed := n } := by
  rw [Dev.responsesMissed, (Dev.posts_countN _ _ _ _).timePort, Dev.putTimePort_timePort]

section

variable {last : Nat} (hlast : (d.timePort p).pdelayLast = some last) (hon : (d.timePort p).peerDelay = true)
include hlast hon

theorem pdelayTimeout_running : pdelayTimeout p d =
    if d.intervalsSince p last ≤ (d.timePort p).missed then d
    else if 3 ≤ d.intervalsSince p last then (d.responsesMissed p (d.intervalsSince p last)).setCapable p false
    else d.responsesMissed p (d.intervalsSince p last) := by
  have hwaits : (!(d.timePort p).peerDelay || decide (d.intervalsSince p last ≤ (d.timePort p).missed)) =
      decide (d.intervalsSince p last ≤ (d.timePort p).missed) := by rw [hon, Bool.not_true, Bool.false_or]
  unfold pdelayTimeout
  extract_lets t
  split
  next hnone => cases hlast.symm.trans hnone
  next since hsince =>
    cases hlast.symm.trans hsince
    exact (if_congr (Bool.eq_iff_iff.mp hwaits) rfl rfl).trans (if_congr decide_eq_true_iff rfl rfl)

theorem pdelayTimeout_current (h : d.intervalsSince p last ≤ (d.timePort p).missed) : pdelayTimeout p d = d := by
  rw [pdelayTimeout_running hlast hon, if_pos h]

/-- The intervals without a response are counted, and three of them end the capability. -/
theorem pdelayTimeout_missing (h : (d.timePort p).missed < d.intervalsSince p last) :
    ((pdelayTimeout p d).timePort p).missed = d.intervalsSince p last ∧
      (3 ≤ d.intervalsSince p last → ((pdelayTimeout p d).timePort p).asCapable = false) := by
  rw [pdelayTimeout_running hlast hon, if_neg (Nat.not_le.mpr h)]
  split
  · rw [Dev.setCapable_timePort, Dev.responsesMissed_timePort]
    exact ⟨rfl, fun _ => rfl⟩
  next hfew =>
    rw [Dev.responsesMissed_timePort]
    exact ⟨rfl, fun hmany => absurd hmany hfew⟩

end

/-- A peer delay request at a port that measures its link delay asks for its egress timestamp. -/
theorem gptpSend_pdelayReq {i : Nat} (hon : (d.timePort p).peerDelay = true) (hp : p < 34) : gptpSend i p .pdelayReq d =
    (({ d with freeIx := d.freeIx + 1 } : Dev).sendTs p 5 (gptpFrame d.freeIx p 2 54 (d.slot i).domain [])
      (some { firmware := true, tag := d.freeIx % 65536, follow := some .pdelayReq : TsReq })).count 9 (p * 8 + 3) := by
  have hsends : ((tabGet timePort0 d.time.ports p).peerDelay && decide (p < 34)) = true := by
    rw [← Dev.timePort, hon, decide_eq_true hp]
    rfl
  have hcounted : p < 50 := by omega
  simp only [gptpSend, hsends, if_true, Dev.sendGptp, hcounted]
  rfl

theorem gptpSend_noPdelayReq {i : Nat} (h : (d.timePort p).peerDelay = false ∨ 34 ≤ p) : gptpSend i p .pdelayReq d = d := by
  refine if_neg ?_
  rw [← Dev.timePort]
  obtain hoff | hp := h
  · simp [hoff]
  · simp [Nat.not_lt.mpr hp]

end Sys2Proof.Machine
end

section
/-! SUPPORT. The drain of the egress timestamp queue, beacons, TIME_IO pins and the RTC (R279, R280, R284, R285, R355). -/

namespace Sys2Proof.Machine

open Sys2Proof

variable {d : Dev} {n p : Nat}

/-! ## TS_FIFO_DRAIN -/

/-- A timestamp that returns to the gPTP stack concerns a port, not the drains. -/
theorem Dev.stampReturns_lastDrain (d : Dev) (p t : Nat) (f : FollowUp) : (d.stampReturns p t f).time.lastDrain = d.time.lastDrain := by
  cases f with
  | sync domain origin corr delay ingress rate => exact congrArg TimeUnit.lastDrain (Dev.sendGptp_time ..)
  | pdelayReq => rfl
  | pdelayResp domain => exact congrArg TimeUnit.lastDrain (Dev.sendGptp_time ..)

theorem drainPort_lastDrain (instant : Nat) (d : Dev) (p : Nat) : (drainPort instant d p).time.lastDrain = d.time.lastDrain := by
  unfold drainPort
  dsimp only
  split
  · rfl
  · split
    · rfl
    · split
      · rw [(Dev.posts_postAt _ _ _ _ _).time]
      · exact Dev.stampReturns_lastDrain _ _ _ _
      · rfl
      · rw [(Dev.posts_post _ _ _ _).time]

theorem tsFifoDrain_same (h : d.now / 250 = d.time.lastDrain / 250) : tsFifoDrain d = d := if_pos (beq_iff_eq.mpr h)

theorem tsFifoDrain_lastDrain (h : d.now / 250 ≠ d.time.lastDrain / 250) : (tsFifoDrain d).time.lastDrain = d.now := by
  unfold tsFifoDrain
  rw [if_neg (mt beq_iff_eq.mp h)]
  exact List.foldlRecOn (motive := fun e : Dev => e.time.lastDrain = d.now) _ _ rfl
    (fun e he p _ => (drainPort_lastDrain _ e p).trans he)

/-! ## BEACON_DUE -/

@[simp] theorem Dev.putBeacon_beacon (d : Dev) (p : Nat) (b : Beacon) : (d.putBeacon p b).beacon p = b := tabGet_put_same ..

theorem beaconDue_waits (h : (d.beacon p).enable = false ∨ d.now < (d.beacon p).next) : beaconDue p d = d := by
  refine if_pos ?_
  obtain hoff | hearly := h
  · simp [hoff]
  · simp [hearly]

theorem beaconDue_due (hon : (d.beacon p).enable = true) (h : (d.beacon p).next ≤ d.now) : (beaconDue p d).beacon p =
    { d.beacon p with due := true, next := (d.now / ms (d.beacon p).periodMs + 1) * ms (d.beacon p).periodMs } := by
  have hdue : (!(d.beacon p).enable || decide (d.now < (d.beacon p).next)) = false := by
    simp [hon, h]
  unfold beaconDue
  dsimp only
  rw [hdue, if_neg Bool.false_ne_true, Dev.putBeacon_beacon]

/-! ## TIME_IO_EDGE and CAPTURE_EDGE -/

theorem timeIoEdge_absent (h : tabHas d.time.pins n = false) : timeIoEdge n d = d := if_pos (by rw [h, Bool.not_false])

/-- A pulse that is due is driven for the pin's width. -/
theorem timeIoEdge_pulse {t : Nat} (hpin : tabHas d.time.pins n = true) (hmode : (d.pin n).mode = 1) (hpending : (d.pin n).pending = some t)
    (hdue : (d.pin n).driveAt t ≤ d.now) : ((timeIoEdge n d).pin n).pending = none ∧
      ((timeIoEdge n d).pin n).activeUntil = some ((d.pin n).driveAt t + (d.pin n).width) := by
  have heq : ∃ e u, timeIoEdge n d =
      Dev.driveEdge e n ((d.pin n).driveAt t) { d.pin n with activeUntil := u, pending := none } := by
    unfold timeIoEdge
    extract_lets q0 ends q d1
    have hq : ∃ u, q = { d.pin n with activeUntil := u } := by
      simp only [q]
      split
      · exact ⟨_, rfl⟩
      · exact ⟨_, rfl⟩
    obtain ⟨u, hq⟩ := hq
    have hpulse : (q.mode == 1) = true := by simp [hq, hmode]
    have hqpending : q.pending = some t := by rw [hq, ← hpending]
    have hqdue : q.driveAt t ≤ d.now := by
      rw [hq]
      exact hdue
    rw [hpin, Bool.not_true, if_neg Bool.false_ne_true, if_pos hpulse, hqpending]
    dsimp only
    rw [if_pos hqdue, hq]
    exact ⟨_, u, rfl⟩
  obtain ⟨e, u, heq⟩ := heq
  rw [heq, Dev.driveEdge_pin]
  exact ⟨rfl, rfl⟩

/-- A pin takes an edge: it captures, the level has held, and the edge is selected. -/
def TimePin.takes (q : TimePin) (rising : Bool) (held : Nat) : Prop :=
  q.mode = 3 ∧ q.filter ≤ held ∧ bit q.flags (if rising then 1 else 2) = true

theorem TimePin.takes_iff (q : TimePin) (rising : Bool) (held : Nat) : q.takes rising held ↔
    ¬ (q.mode != 3 || decide (held < q.filter) || !(if rising then bit q.flags 1 else bit q.flags 2)) = true := by
  cases rising <;> simp [TimePin.takes, and_assoc]

variable {rising : Bool} {held : Nat}

theorem captureEdge_ignored (h : ¬ (d.pin n).takes rising held) : captureEdge n rising held d = d :=
  if_pos (not_not.mp (mt (TimePin.takes_iff _ _ _).mpr h))

theorem captureEdge_full (h : (d.pin n).takes rising held) (hfull : 16 ≤ (d.pin n).captures.length) : captureEdge n rising held d =
    (d.putPin n { d.pin n with lost := true }).count 9 (1040 + n * 4 + 2) :=
  (if_neg ((TimePin.takes_iff _ _ _).mp h)).trans (if_pos hfull)

/-- An edge taken is the newest record, with its direction and the pin's sequence number. -/
theorem captureEdge_taken (h : (d.pin n).takes rising held) (hroom : (d.pin n).captures.length < 16) :
    ∃ r, ((captureEdge n rising held d).pin n).captures = (d.pin n).captures ++ [r] ∧
      ((captureEdge n rising held d).pin n).lost = false ∧ r.edge = (if rising then 0 else 1) ∧ r.seq = (d.pin n).seq := by
  have hreports : ∀ (e : Dev) obj t, e.Posts (if bit (d.pin n).flags 3 then (e.count 9 (1040 + n * 4 + 1)).postAt 0x0908 n obj t
      else e.count 9 (1040 + n * 4 + 1)) := by
    intro e obj t
    split
    · exact (e.posts_count _ _).trans (Dev.posts_postAt _ _ _ _ _)
    · exact e.posts_count _ _
  have heq : ∃ r, Dev.Posts (d.putPin n { d.pin n with
        captures := (d.pin n).captures ++ [r], seq := ((d.pin n).seq + 1) % 65536, lost := false }) (captureEdge n rising held d) ∧
      r.edge = (if rising then 0 else 1) ∧ r.seq = (d.pin n).seq := by
    unfold captureEdge
    dsimp only
    rw [if_neg ((TimePin.takes_iff _ _ _).mp h), if_neg (Nat.not_le.mpr hroom)]
    exact ⟨_, hreports _ _ _, rfl, rfl⟩
  obtain ⟨r, hposts, hedge, hseq⟩ := heq
  refine ⟨r, ?_, ?_, hedge, hseq⟩
  · rw [hposts.pin, Dev.putPin_pin]
  · rw [hposts.pin, Dev.putPin_pin]

/-! ## RTC_SECOND_SYNC -/

theorem rtcSync_asleep (h : d.lantern.power = .dormant ∨ d.lantern.power = .off) : rtcSync d = d := if_pos h

theorem rtcSync_awake (hdormant : d.lantern.power ≠ .dormant) (hoff : d.lantern.power ≠ .off) : rtcSync d =
    { d with lantern := { d.lantern with rtcS := d.time.clock.sec, rtcSub := 0, rtcFrac := 0 } } :=
  if_neg (not_or.mpr ⟨hdormant, hoff⟩)

end Sys2Proof.Machine
end

section
/-! The statement about the time steps. -/

namespace Sys2Proof.Machine

open Sys2Proof

theorem runs_syncSample (i : Nat) (y : SyncSample) (s : State) : Runs (.syncSample i y) s (syncSample i y s.dev) := rfl
theorem runs_syncReceiptTimeout (i : Nat) (s : State) : Runs (.syncReceiptTimeout i) s (syncTimeout i s.dev) := rfl
theorem runs_holdoverBudgetExceeded (s : State) : Runs .holdoverBudgetExceeded s s.dev.settleQuality := rfl
theorem runs_announceReceiptTimeout (i : Nat) (b : BmcaResult) (s : State) :
    Runs (.announceReceiptTimeout i b) s (announceTimeout i b s.dev) := rfl
theorem runs_gptpMessageReceived (p : Nat) (m : GptpMsg) (s : State) : Runs (.gptpMessageReceived p m) s (gptpMessage p m s.dev) := rfl
theorem runs_pdelayTimeout (p : Nat) (s : State) : Runs (.pdelayTimeout p) s (pdelayTimeout p s.dev) := rfl
theorem runs_gptpIntervalSend (i p : Nat) (kind : GptpKind) (s : State) :
    Runs (.gptpIntervalSend i p kind) s (gptpSend i p kind s.dev) := rfl
theorem runs_tsFifoDrain (s : State) : Runs .tsFifoDrain s (tsFifoDrain s.dev) := rfl
theorem runs_beaconDue (p : Nat) (s : State) : Runs (.beaconDue p) s (beaconDue p s.dev) := rfl
theorem runs_timeIoEdge (n : Nat) (s : State) : Runs (.timeIoEdge n) s (timeIoEdge n s.dev) := rfl
theorem runs_captureEdge (n : Nat) (rising : Bool) (held : Nat) (s : State) :
    Runs (.captureEdge n rising held) s (captureEdge n rising held s.dev) := rfl
theorem runs_rtcSecondSync (s : State) : Runs .rtcSecondSync s (rtcSync s.dev) := rfl

variable {d : Dev} {i p : Nat} {y : SyncSample} {m : GptpMsg}

/-- θ of a sample, by the ingress time of the port it came from (R265). -/
theorem Dev.theta_eq (d : Dev) (y : SyncSample) : d.theta y =
    roundQ16 ((((if y.port = 90 then y.stamp.sampled else d.ingressTime y.port y.stamp : Nat) : Int) - y.origin) * 65536 - y.corr -
      d.linkDelay y.port) := by rw [Dev.theta, Dev.gptpStamp_eq]

/-- What a response that completes a peer delay measurement leaves at its port (R274). -/
theorem pdelayResponse_port (hport : p < 34 ∨ 50 ≤ p) (hheeded : (d.slotsOf m.domain).isEmpty = false) (hkind : m.kind = 2)
    (hon : (d.timePort p).peerDelay = true) : let t' := (gptpMessage p m d).timePort p
    t'.missed = 0 ∧ t'.pdelayLast = some d.uptime ∧ t'.reqSent = none ∧
    ((d.timePort p).reqSent = none → t'.meanDelay = (d.timePort p).meanDelay ∧ t'.asCapable = (d.timePort p).asCapable) ∧
    (∀ t1, (d.timePort p).reqSent = some t1 → t'.meanDelay = meanLinkDelay t1 (d.gptpStamp p m.stamp) m ∧
      t'.asCapable = decide (t'.meanDelay ≤ ((d.timePort p).thresh : Int) * 65536)) := by
  have hheard := d.posts_gptpHeard p
  have hport' : (d.gptpHeard p).timePort p = d.timePort p := hheard.timePort p
  rw [gptpMessage_response hport hheeded hkind]
  cases hreq : (d.timePort p).reqSent with
  | none =>
    rw [Dev.pdelayResponse_lost (by rw [hport', hon]) (by rw [hport', hreq]), hport', hheard.uptime]
    exact ⟨rfl, rfl, rfl, fun _ => ⟨rfl, rfl⟩, nofun⟩
  | some t1 =>
    rw [Dev.pdelayResponse_measured (by rw [hport', hon]) (by rw [hport', hreq]), hport', hheard.uptime, hheard.gptpStamp]
    refine ⟨rfl, rfl, rfl, nofun, ?_⟩
    rintro _ ⟨⟩
    exact ⟨rfl, rfl⟩

/-- A peer delay message heeded at a port without the link delay service is heard, no more. -/
theorem gptpMessage_off (hport : p < 34 ∨ 50 ≤ p) (hheeded : (d.slotsOf m.domain).isEmpty = false) (hkind : m.kind = 1 ∨ m.kind = 2)
    (hoff : (d.timePort p).peerDelay = false) : gptpMessage p m d = d.gptpHeard p := by
  have hoff' : ((d.gptpHeard p).timePort p).peerDelay = false := by rw [(d.posts_gptpHeard p).timePort, hoff]
  obtain hkind | hkind := hkind
  · rw [gptpMessage_request hport hheeded hkind, Dev.pdelayRequest_off hoff']
  · rw [gptpMessage_response hport hheeded hkind, Dev.pdelayResponse_off hoff']

theorem gptpMessage_answered (hport : p < 34 ∨ 50 ≤ p) (hheeded : (d.slotsOf m.domain).isEmpty = false) (hkind : m.kind = 1)
    (hon : (d.timePort p).peerDelay = true) : gptpMessage p m d =
    (d.gptpHeard p).sendGptp p 3 54 m.domain (stampFields 0 (d.gptpStamp p m.stamp)) (some (.pdelayResp m.domain)) := by
  have hheard := d.posts_gptpHeard p
  rw [gptpMessage_request hport hheeded hkind, Dev.pdelayRequest_answered (by rw [hheard.timePort, hon]), hheard.gptpStamp]

/-- Settles O47, step by step. -/
theorem timeStepsActAsRuled : Obligations.TimeStepsActAsRuled := by
  refine ⟨fun c => ⟨c.tick_ns_lt, c.tick_frac_lt, rfl, c.tick_value⟩, fun s i y h => ?_, fun s i y hi hon hslave hfrom hrate => ?_,
    fun s i y hi hstate hfrom hrate hgm hauto => ?_, fun s i => ?_, fun s => ?_, fun s i b => ?_, fun s p m hlow hhigh => ?_,
    fun s p m hport => ?_, fun s p => ?_, fun s i p => ?_, fun s => ?_, fun s p => ?_, fun s n => ?_, fun s n rising held => ?_,
    fun s => ?_⟩
  · refine runs_of_eq (runs_syncSample i y s) (syncSample_ignored ?_)
    obtain h | h | h | h := h
    · exact .inl h
    · exact .inr (.inl h)
    · exact .inr (.inr (.inl h))
    · exact .inr (.inr (.inr (Dev.samplesFrom_eq_false h)))
  · exact runs_of_eq (runs_syncSample i y s) (syncSample_rejected hi hon hslave hfrom hrate)
  · have htaken := syncSample_taken hi hstate hfrom hrate hgm hauto
    obtain ⟨_, _, _, hheard⟩ := s.dev.posts_sampleHeard i y
    rw [hheard] at htaken
    have hrun := runs_of_eq (runs_syncSample i y s) htaken
    dsimp only
    rw [← Dev.theta_eq]
    exact ⟨fun hservo => ⟨_, hrun, Dev.servoSample_result hservo⟩, fun hstep => ⟨_, hrun, Dev.stepSample_result hstep⟩⟩
  · have hrun := runs_syncReceiptTimeout i s
    exact ⟨fun h => runs_of_eq hrun (syncTimeout_waits h), fun h => ⟨_, hrun, syncTimeout_expired h⟩⟩
  · have hrun := runs_holdoverBudgetExceeded s
    exact ⟨fun h => runs_of_eq hrun (Dev.settleQuality_of_settled h), _, hrun, by rw [Dev.settleQuality_time]⟩
  · have hrun := runs_announceReceiptTimeout i b s
    have hslot : (s.dev.putSlot i { s.dev.slot i with announceDeadline := none }).slot i =
        { s.dev.slot i with announceDeadline := none } := Dev.putSlot_slot ..
    refine ⟨fun h => runs_of_eq hrun (announceTimeout_waits h), fun h hfixed => runs_of_eq hrun (announceTimeout_external h hfixed),
      fun h hfree hself hmask => ⟨_, hrun, ?_⟩, fun h hfree hself => ⟨_, hrun, ?_⟩⟩
    · obtain ⟨_, _, _, hlast⟩ := announceTimeout_reselects (b := b) h hfree
      rw [hlast]
      exact Dev.reselect_port hself (by rwa [hslot])
    · obtain ⟨_, _, _, hlast⟩ := announceTimeout_reselects (b := b) h hfree
      have hself' := Dev.reselect_self (d := s.dev.putSlot i { s.dev.slot i with announceDeadline := none }) (i := i) hself
      rw [hslot] at hself'
      rw [hlast]
      exact hself'
  · exact runs_of_eq (runs_gptpMessageReceived p m s) (gptpMessage_atTs hlow hhigh)
  · have hrun := runs_gptpMessageReceived p m s
    refine ⟨fun h0 h1 => ?_, fun hmine hkind hoff => ?_, fun hmine hkind hon => ?_, fun hmine hkind hon => ⟨_, hrun, ?_⟩⟩
    · exact runs_of_eq hrun (gptpMessage_unheeded hport ((s.dev.slotsOf_isEmpty m.domain).mpr ⟨h0, h1⟩))
    · exact runs_of_eq hrun (gptpMessage_off hport (Dev.slotsOf_of_mine hmine) hkind hoff)
    · exact runs_of_eq hrun (gptpMessage_answered hport (Dev.slotsOf_of_mine hmine) hkind hon)
    · exact pdelayResponse_port hport (Dev.slotsOf_of_mine hmine) hkind hon
  · have hrun := runs_pdelayTimeout p s
    exact ⟨fun h => runs_of_eq hrun (pdelayTimeout_off h), fun last hlast hon =>
      ⟨fun h => runs_of_eq hrun (pdelayTimeout_current hlast hon h), fun h => ⟨_, hrun, pdelayTimeout_missing hlast hon h⟩⟩⟩
  · have hrun := runs_gptpIntervalSend i p .pdelayReq s
    exact ⟨fun hon hp => runs_of_eq hrun (gptpSend_pdelayReq hon hp), fun h => runs_of_eq hrun (gptpSend_noPdelayReq h)⟩
  · have hrun := runs_tsFifoDrain s
    exact ⟨fun h => runs_of_eq hrun (tsFifoDrain_same h), fun h => ⟨_, hrun, tsFifoDrain_lastDrain h⟩⟩
  · refine ⟨fun h => runs_of_eq (runs_beaconDue p s) (beaconDue_waits h), fun hon h => ⟨_, runs_beaconDue p s, ?_⟩⟩
    rw [beaconDue_due hon h]
    exact ⟨rfl, rfl, rfl⟩
  · have hrun := runs_timeIoEdge n s
    exact ⟨fun h => runs_of_eq hrun (timeIoEdge_absent h),
      fun t hpin hmode hpending hdue => ⟨_, hrun, timeIoEdge_pulse hpin hmode hpending hdue⟩⟩
  · have hrun := runs_captureEdge n rising held s
    refine ⟨fun h => runs_of_eq hrun (captureEdge_ignored h), fun h hfull => runs_of_eq hrun (captureEdge_full h hfull),
      fun h hroom => ?_⟩
    obtain ⟨r, hresult⟩ := captureEdge_taken h hroom
    exact ⟨_, r, hrun, hresult⟩
  · have hrun := runs_rtcSecondSync s
    exact ⟨fun h => runs_of_eq hrun (rtcSync_asleep h),
      fun hdormant hoff => ⟨_, runs_of_eq hrun (rtcSync_awake hdormant hoff), rfl, rfl⟩⟩

end Sys2Proof.Machine
end

section
/-! SUPPORT. What leaves Cask, the fault log and the uptime as they are: events, wakes, frames that the device sends, answers to requests
and the charge of a key. -/

namespace Sys2Proof.Machine

open Sys2Proof

/-- Cask, the fault log and the uptime are as before. -/
structure Dev.SparesCask (d d' : Dev) : Prop where
  cask : d'.cask = d.cask
  safety : d'.safety = d.safety
  uptime : d'.uptime = d.uptime

theorem Dev.SparesCask.refl (d : Dev) : d.SparesCask d := ⟨rfl, rfl, rfl⟩

theorem Dev.SparesCask.trans {a b c : Dev} (h1 : a.SparesCask b) (h2 : b.SparesCask c) : a.SparesCask c :=
  ⟨h2.cask.trans h1.cask, h2.safety.trans h1.safety, h2.uptime.trans h1.uptime⟩

theorem Dev.SparesCask.foldl {α : Type} {f : Dev → α → Dev} (hf : ∀ (e : Dev) x, e.SparesCask (f e x)) (l : List α) (d : Dev) :
    d.SparesCask (l.foldl f d) := List.foldlRecOn l f (.refl d) (fun e h x _ => h.trans (hf e x))

theorem Dev.spares_countN (d : Dev) (cls i n : Nat) : d.SparesCask (d.countN cls i n) := ⟨rfl, rfl, rfl⟩

theorem Dev.spares_count (d : Dev) (cls i : Nat) : d.SparesCask (d.count cls i) := ⟨rfl, rfl, rfl⟩

theorem Dev.Stirs.sparesCask {d d' : Dev} (h : d.Stirs d') : d.SparesCask d' := by
  obtain ⟨_, _, _, _, rfl⟩ := h
  exact ⟨rfl, rfl, rfl⟩

theorem Dev.Posts.sparesCask {d d' : Dev} (h : d.Posts d') : d.SparesCask d' := h.stirs.sparesCask

theorem Dev.spares_post (d : Dev) (code object data : Nat) : d.SparesCask (d.post code object data) :=
  (d.posts_post code object data).sparesCask

theorem Dev.spares_holdPort (d : Dev) (p : Nat) : d.SparesCask (d.holdPort p) := (d.stirs_holdPort p).sparesCask

/-! ## Frames that the device sends -/

theorem Dev.spares_levelCheck (d : Dev) : d.SparesCask d.levelCheck := by
  unfold Dev.levelCheck
  dsimp only
  split
  · exact .trans (b := { d with fabric := { d.fabric with levelHigh := true } }) ⟨rfl, rfl, rfl⟩ (Dev.spares_post _ _ _ _)
  · split
    · exact .trans (b := { d with fabric := { d.fabric with levelHigh := false } }) ⟨rfl, rfl, rfl⟩ (Dev.spares_post _ _ _ _)
    · exact .refl d

theorem Dev.spares_sweepGroup (d : Dev) (g : Nat) : d.SparesCask (d.sweepGroup g) := by
  unfold Dev.sweepGroup
  split
  · exact .refl d
  · extract_lets fs gone d1
    have hgone : d.SparesCask d1 := .foldl (by intro _ _; exact ⟨rfl, rfl, rfl⟩) gone d
    exact hgone.trans ⟨rfl, rfl, rfl⟩

theorem Dev.spares_settleFabric (d : Dev) : d.SparesCask d.settleFabric := by
  rw [Dev.settleFabric_eq]
  have hswept : d.unoffered.SparesCask ((List.range 8).foldl (fun e g => e.sweepGroup g) d.unoffered) :=
    .foldl Dev.spares_sweepGroup _ _
  exact .trans (b := d.unoffered) ⟨rfl, rfl, rfl⟩ (hswept.trans (Dev.spares_levelCheck _))

theorem Dev.spares_wakeOnEgress (d : Dev) (p : Nat) : d.SparesCask (d.wakeOnEgress p) := by
  unfold Dev.wakeOnEgress
  split
  · exact .refl d
  · split
    · split
      · exact (d.stirs_wake _ _).sparesCask
      · exact .refl d
    · exact .refl d

theorem Dev.spares_admitCopy (n : Nat) (acc : Dev × List Copy) (k : Copy) : acc.1.SparesCask (Dev.admitCopy n acc k).1 := by
  unfold Dev.admitCopy
  dsimp only
  split
  · exact ⟨rfl, rfl, rfl⟩
  · split
    · exact Dev.spares_wakeOnEgress _ _
    · exact ⟨rfl, rfl, rfl⟩

theorem Dev.spares_mirrorCopy (d : Dev) (id i kind mirrored : Nat) (m : Mirror) : d.SparesCask (d.mirrorCopy id i kind mirrored m) := by
  unfold Dev.mirrorCopy
  split
  · exact .refl d
  · dsimp only
    split
    · exact (d.spares_wakeOnEgress m.dest).trans ⟨rfl, rfl, rfl⟩
    · split <;> exact ⟨rfl, rfl, rfl⟩

theorem Dev.spares_mirrorOne (id i kind mirrored : Nat) (d : Dev) : d.SparesCask (Dev.mirrorOne id i kind mirrored d) := by
  unfold Dev.mirrorOne
  dsimp only
  split
  · refine .trans ?_ (Dev.spares_mirrorCopy _ _ _ _ _ _)
    exact ⟨rfl, rfl, rfl⟩
  · exact ⟨rfl, rfl, rfl⟩

theorem Dev.spares_mirrorAll (d : Dev) (id inPort : Nat) (outs : List Nat) (named : Option Nat) :
    d.SparesCask (d.mirrorAll id inPort outs named) := by
  refine .foldl (fun e i => ?_) _ d
  extract_lets m e1
  have hingress : e.SparesCask e1 := by
    simp only [e1]
    split
    · exact Dev.spares_mirrorOne _ _ _ _ _
    · exact .refl e
  refine hingress.trans (.foldl (fun e2 p => ?_) _ _)
  split
  · exact Dev.spares_mirrorOne _ _ _ _ _
  · exact .refl e2

theorem Dev.spares_countEvicted (d : Dev) (f : Stored) : d.SparesCask (d.countEvicted f) :=
  .foldl (fun e _ => e.spares_count _ _) _ d

theorem Dev.spares_place (d : Dev) (bytes : Bytes) (len : Nat) (info : FrameInfo) (copies : List Copy) (receiving : Bool) :
    d.SparesCask (d.place bytes len info copies receiving).2 := by
  unfold Dev.place
  extract_lets n a d1
  have hadmitted : d.SparesCask d1 := List.foldlRecOn (motive := fun acc => d.SparesCask acc.1) copies _ (.refl d)
    (fun acc h k _ => h.trans (Dev.spares_admitCopy n acc (d.unfence k)))
  have hcounted : ∀ (e : Dev) (i : Nat) (ks : List Copy),
      e.SparesCask (ks.foldl (fun e j => e.count 3 (voqIx j.port j.tc i)) e) := fun e _ _ => .foldl (fun e _ => e.spares_count _ _) _ e
  split
  · exact hadmitted
  · extract_lets twinPort
    split
    · exact hadmitted.trans (hcounted d1 1 _)
    · refine hadmitted.trans (.trans ?_ (hcounted _ 0 _))
      refine .trans ?_ (.foldl Dev.spares_countEvicted _ _)
      exact ⟨rfl, rfl, rfl⟩

theorem Dev.spares_enqueue (d : Dev) (bytes : Bytes) (len : Nat) (info : FrameInfo) (copies : List Copy) (named : Option Nat)
    (receiving : Bool) : d.SparesCask (d.enqueue bytes len info copies named receiving) := by
  have hplaced := d.spares_place bytes len info copies receiving
  unfold Dev.enqueue
  split
  next d1 heq => rwa [heq] at hplaced
  next id d1 heq =>
    rw [heq] at hplaced
    dsimp only
    refine hplaced.trans (.trans ?_ (Dev.spares_settleFabric _))
    split
    · exact .refl d1
    · exact Dev.spares_mirrorAll _ _ _ _ _

/-! ## The journal of a twin -/

theorem Dev.spares_twinSend (d : Dev) (rs : List (Nat × Bytes)) : d.SparesCask (d.twinSend rs) := by
  have hsent : ∀ f, d.SparesCask (d.sendAt 9 5 f) := fun f => Dev.spares_enqueue ..
  exact (hsent _).trans ⟨rfl, rfl, rfl⟩

theorem Dev.spares_journalSession (d : Dev) (n : Nat) : d.SparesCask (d.journalSession n) := by
  have hjournal : ∀ rs, d.SparesCask (d.journal rs) := fun rs => .foldl (fun e f => e.spares_twinSend f) _ d
  unfold Dev.journalSession
  split
  · exact (hjournal _).trans ⟨rfl, rfl, rfl⟩
  · exact .refl d

/-! ## Answers to requests -/

theorem Dev.spares_answer (d : Dev) (t : Taken) (st det : Nat) (pl : Bytes) : d.SparesCask (d.answer t st det pl) := ⟨rfl, rfl, rfl⟩

theorem Dev.spares_hopperWrite {d d' : Dev} {h : Nat} {bs : Bytes} (hw : d.hopperWrite h bs = some d') : d.SparesCask d' := by
  unfold Dev.hopperWrite at hw
  split at hw
  · obtain rfl := Option.some.inj hw
    exact ⟨rfl, rfl, rfl⟩
  · cases hw

theorem Dev.spares_bulkWriteAll (d : Dev) (l : List BulkDesc) (bs : Bytes) : d.SparesCask (bulkWriteAll d l bs) := by
  induction l generalizing d bs with
  | nil => exact .refl d
  | cons b l ih =>
    rw [bulkWriteAll]
    refine .trans ?_ (ih _ _)
    split
    · exact .refl d
    · split
      · cases hw : d.hopperWrite b.addr (bs.take b.bytes) with
        | none => exact .refl d
        | some d' => exact Dev.spares_hopperWrite hw
      · exact ⟨rfl, rfl, rfl⟩

theorem Dev.spares_answerData (d : Dev) (t : Taken) (st det : Nat) (pl : Bytes) (r : ReqData) :
    d.SparesCask (d.answerData t st det pl r) := by
  unfold Dev.answerData
  split
  · split
    · exact d.spares_answer t _ _ _
    · exact (d.spares_bulkWriteAll _ _).trans (Dev.spares_answer _ _ _ _ _)
  · exact d.spares_answer t _ _ _

theorem Dev.spares_drain (ch n : Nat) (d : Dev) : d.SparesCask (Dev.drain ch n d) := by
  induction n generalizing d with
  | zero => exact .refl d
  | succ n ih =>
    unfold Dev.drain
    dsimp only
    split
    · split
      · refine .trans ?_ (ih _)
        exact ⟨rfl, rfl, rfl⟩
      · exact .refl d
    · exact .refl d

/-- The end of the command in progress on a channel. -/
theorem Dev.spares_complete (d : Dev) (ch st det : Nat) (pl : Bytes) : d.SparesCask (d.complete ch st det pl) := by
  unfold Dev.complete
  extract_lets c
  split
  · exact .refl d
  · dsimp only
    have hended : ∀ f, d.SparesCask (d.modChan ch f) := fun _ => ⟨rfl, rfl, rfl⟩
    split
    · exact (hended _).trans (Dev.spares_drain _ _ _)
    · exact (hended _).trans ((Dev.spares_answerData _ _ _ _ _ _).trans (Dev.spares_drain _ _ _))

/-! ## Meters, zone bindings and keys -/

theorem Dev.spares_queuePoll (d : Dev) (e : Nat) : d.SparesCask (d.queuePoll e) := by
  unfold Dev.queuePoll
  split
  · exact .refl d
  · split
    · exact .refl d
    · refine .trans ?_ (Dev.spares_holdPort _ _)
      exact ⟨rfl, rfl, rfl⟩

theorem Dev.spares_unbindZone (d : Dev) (n : Nat) : d.SparesCask (d.unbindZone n) := by
  unfold Dev.unbindZone
  split <;> exact ⟨rfl, rfl, rfl⟩

theorem Dev.spares_charge (d : Dev) (i n : Nat) : d.SparesCask (d.charge i n) := by
  unfold Dev.charge
  extract_lets k c left low k1 d0 d1 d2
  have h1 : d.SparesCask d1 := by
    simp only [d1]
    split <;> exact ⟨rfl, rfl, rfl⟩
  have h2 : d.SparesCask d2 := by
    simp only [d2]
    split
    · exact h1.trans ⟨rfl, rfl, rfl⟩
    · exact h1
  split
  · exact h2.trans (Dev.spares_post _ _ _ _)
  · exact h2

end Sys2Proof.Machine
end

section
/-! SUPPORT. Cask's shared operations: what each leaves of a session's context, and of the records, the waiting seals and the legal
parameters (chapter 11). -/

namespace Sys2Proof.Machine

open Sys2Proof

/-! ## The legal event log (R309) -/

/-- In Cask the legal event log alone has changed; the fault log and the uptime are as before. -/
structure Dev.WritesLog (d d' : Dev) : Prop where
  cask : ∃ l n k g, d'.cask = { d.cask with log := l, logNext := n, logLost := k, logged := g }
  safety : d'.safety = d.safety
  uptime : d'.uptime = d.uptime

theorem Dev.SparesCask.writesLog {d d' : Dev} (h : d.SparesCask d') : d.WritesLog d' := ⟨⟨_, _, _, _, h.cask⟩, h.safety, h.uptime⟩

theorem Dev.WritesLog.trans {a b c : Dev} (h1 : a.WritesLog b) (h2 : b.WritesLog c) : a.WritesLog c := by
  obtain ⟨⟨_, _, _, _, hb⟩, hbsafety, hbuptime⟩ := h1
  obtain ⟨⟨_, _, _, _, hc⟩, hcsafety, hcuptime⟩ := h2
  exact ⟨⟨_, _, _, _, by rw [hc, hb]⟩, hcsafety.trans hbsafety, hcuptime.trans hbuptime⟩

theorem Dev.writesLog_logWrite (d : Dev) (type session data : Nat) : d.WritesLog (d.logWrite type session data) := by
  unfold Dev.logWrite
  dsimp only
  split
  · exact ⟨⟨_, _, _, _, rfl⟩, rfl, rfl⟩
  · refine .trans ?_ (Dev.spares_post _ _ _ _).writesLog
    exact ⟨⟨_, _, _, _, rfl⟩, rfl, rfl⟩

theorem Dev.writesLog_legalLog (d : Dev) (type session data : Nat) : d.WritesLog (d.legalLog type session data) := by
  unfold Dev.legalLog
  dsimp only
  split
  · exact d.writesLog_logWrite _ _ _
  · refine .trans (.trans ?_ (Dev.writesLog_logWrite _ _ _ _)) (Dev.writesLog_logWrite _ _ _ _)
    exact ⟨⟨_, _, _, _, rfl⟩, rfl, rfl⟩

/-! ## A session's context -/

@[simp] theorem Dev.modSes_ses (d : Dev) (n : Nat) (f : Session → Session) : (d.modSes n f).ses n = f (d.ses n) := tabGet_put_same ..

theorem Dev.ses_congr {d d' : Dev} (h : d'.cask.sessions = d.cask.sessions) (n : Nat) : d'.ses n = d.ses n := by
  rw [Dev.ses, h, Dev.ses]

theorem Dev.SparesCask.ses {d d' : Dev} (h : d.SparesCask d') (n : Nat) : d'.ses n = d.ses n := Dev.ses_congr (by rw [h.cask]) n

theorem Dev.WritesLog.ses {d d' : Dev} (h : d.WritesLog d') (n : Nat) : d'.ses n = d.ses n := by
  obtain ⟨_, _, _, _, hcask⟩ := h.cask
  exact Dev.ses_congr (by rw [hcask]) n

@[simp] theorem Dev.journalSession_ses (d : Dev) (n m : Nat) : (d.journalSession n).ses m = d.ses m := (d.spares_journalSession n).ses m

@[simp] theorem Dev.post_ses (d : Dev) (code object data n : Nat) : (d.post code object data).ses n = d.ses n := (d.spares_post _ _ _).ses n

@[simp] theorem Dev.sesTo_ses (d : Dev) (n : Nat) (st : SesState) : (d.sesTo n st).ses n = { d.ses n with state := st } := by
  unfold Dev.sesTo
  dsimp only
  split
  · next h => rw [← h]
  · simp

@[simp] theorem Dev.sesAnswer_ses (d : Dev) (n status : Nat) (pl : Bytes) :
    (d.sesAnswer n status pl).ses n = { d.ses n with cmd := none } := by
  unfold Dev.sesAnswer
  split
  · next h => rw [← h]
  · rw [(Dev.spares_complete _ _ _ _ _).ses, Dev.modSes_ses]

@[simp] theorem Dev.sesFree_ses (d : Dev) (n : Nat) : (d.sesFree n).ses n = session0 := Dev.modSes_ses ..

@[simp] theorem Dev.queueSeal_ses (d : Dev) (n cause m : Nat) : (d.queueSeal n cause).ses m = d.ses m := rfl

@[simp] theorem Dev.readyToSeal_ses (d : Dev) (n : Nat) : (d.readyToSeal n).ses n = { d.ses n with wait := .seal } := by
  rw [Dev.readyToSeal, Dev.queueSeal_ses, Dev.modSes_ses]

theorem Dev.spares_sesHold (d : Dev) (n : Nat) : d.SparesCask (d.sesHold n) := by
  unfold Dev.sesHold
  dsimp only
  split
  · exact (d.spares_holdPort _).trans (Dev.spares_holdPort _ _)
  · exact d.spares_holdPort _

@[simp] theorem Dev.sesHold_ses (d : Dev) (n m : Nat) : (d.sesHold n).ses m = d.ses m := (d.spares_sesHold n).ses m

/-- A session's context as an attempt at a reading begins, which expires at `deadline` (R293, R294). -/
def Session.attempt (x : Session) (begun deadline : Nat) : Session :=
  { x with attempts := x.attempts + 1, begun := begun, deadline := deadline, delivery := none, due := false }

/-- Beside the session's context, an attempt may queue a poll. -/
theorem Dev.spares_beginRead (d : Dev) (n : Nat) :
    (d.modSes n (fun x => x.attempt d.uptime (d.uptime + d.readTimeout))).SparesCask (d.beginRead n) := by
  unfold Dev.beginRead
  dsimp only
  split
  · split
    · exact Dev.spares_queuePoll _ _
    · exact .refl _
  · exact .refl _

@[simp] theorem Dev.beginRead_ses (d : Dev) (n : Nat) : (d.beginRead n).ses n = (d.ses n).attempt d.uptime (d.uptime + d.readTimeout) := by
  rw [(d.spares_beginRead n).ses, Dev.modSes_ses]

@[simp] theorem Dev.waitRead_ses (d : Dev) (n : Nat) (w : SesWait) : (d.waitRead n w).ses n =
    ({ d.ses n with wait := w, attempts := 0 } : Session).attempt d.uptime (d.uptime + d.readTimeout) := by
  rw [Dev.waitRead, Dev.beginRead_ses, Dev.modSes_ses]
  rfl

/-! ## The records' chain -/

/-- In Cask the sessions and the legal event log alone have changed: the records, their numbers, the waiting seals and the legal parameters
are as before. So are the fault log and the uptime. -/
structure Dev.KeepsChain (d d' : Dev) : Prop where
  cask : ∃ x l n k g, d'.cask = { d.cask with sessions := x, log := l, logNext := n, logLost := k, logged := g }
  safety : d'.safety = d.safety
  uptime : d'.uptime = d.uptime

theorem Dev.WritesLog.keepsChain {d d' : Dev} (h : d.WritesLog d') : d.KeepsChain d' := by
  obtain ⟨_, _, _, _, hcask⟩ := h.cask
  exact ⟨⟨_, _, _, _, _, hcask⟩, h.safety, h.uptime⟩

theorem Dev.SparesCask.keepsChain {d d' : Dev} (h : d.SparesCask d') : d.KeepsChain d' := h.writesLog.keepsChain

theorem Dev.KeepsChain.refl (d : Dev) : d.KeepsChain d := (Dev.SparesCask.refl d).keepsChain

theorem Dev.KeepsChain.trans {a b c : Dev} (h1 : a.KeepsChain b) (h2 : b.KeepsChain c) : a.KeepsChain c := by
  obtain ⟨⟨_, _, _, _, _, hb⟩, hbsafety, hbuptime⟩ := h1
  obtain ⟨⟨_, _, _, _, _, hc⟩, hcsafety, hcuptime⟩ := h2
  exact ⟨⟨_, _, _, _, _, by rw [hc, hb]⟩, hcsafety.trans hbsafety, hcuptime.trans hbuptime⟩

theorem Dev.KeepsChain.foldl {α : Type} {f : Dev → α → Dev} (hf : ∀ (e : Dev) x, e.KeepsChain (f e x)) (l : List α) (d : Dev) :
    d.KeepsChain (l.foldl f d) := List.foldlRecOn l f (.refl d) (fun e h x _ => h.trans (hf e x))

section
variable {d d' : Dev} (h : d.KeepsChain d')
include h

theorem Dev.KeepsChain.seals : d'.cask.seals = d.cask.seals := by obtain ⟨_, _, _, _, _, hcask⟩ := h.cask; rw [hcask]
theorem Dev.KeepsChain.nextSeq : d'.cask.nextSeq = d.cask.nextSeq := by obtain ⟨_, _, _, _, _, hcask⟩ := h.cask; rw [hcask]
theorem Dev.KeepsChain.lastSeq : d'.cask.lastSeq = d.cask.lastSeq := by obtain ⟨_, _, _, _, _, hcask⟩ := h.cask; rw [hcask]
theorem Dev.KeepsChain.records : d'.cask.records = d.cask.records := by obtain ⟨_, _, _, _, _, hcask⟩ := h.cask; rw [hcask]
theorem Dev.KeepsChain.unacked : d'.cask.unacked = d.cask.unacked := by obtain ⟨_, _, _, _, _, hcask⟩ := h.cask; rw [hcask]
theorem Dev.KeepsChain.params : d'.cask.params = d.cask.params := by obtain ⟨_, _, _, _, _, hcask⟩ := h.cask; rw [hcask]
theorem Dev.KeepsChain.paramCh : d'.cask.paramCh = d.cask.paramCh := by obtain ⟨_, _, _, _, _, hcask⟩ := h.cask; rw [hcask]
theorem Dev.KeepsChain.recover : d'.cask.recover = d.cask.recover := by obtain ⟨_, _, _, _, _, hcask⟩ := h.cask; rw [hcask]
theorem Dev.KeepsChain.serial : d'.cask.serial = d.cask.serial := by obtain ⟨_, _, _, _, _, hcask⟩ := h.cask; rw [hcask]

end

theorem Dev.keepsChain_legalLog (d : Dev) (type session data : Nat) : d.KeepsChain (d.legalLog type session data) :=
  (d.writesLog_legalLog type session data).keepsChain

theorem Dev.keepsChain_modSes (d : Dev) (n : Nat) (f : Session → Session) : d.KeepsChain (d.modSes n f) :=
  ⟨⟨_, _, _, _, _, rfl⟩, rfl, rfl⟩

theorem Dev.keepsChain_sesTo (d : Dev) (n : Nat) (st : SesState) : d.KeepsChain (d.sesTo n st) := by
  unfold Dev.sesTo
  dsimp only
  split
  · exact .refl d
  · exact (d.keepsChain_modSes n _).trans ((Dev.spares_post _ _ _ _).trans (Dev.spares_journalSession _ _)).keepsChain

theorem Dev.keepsChain_sesAnswer (d : Dev) (n status : Nat) (pl : Bytes) : d.KeepsChain (d.sesAnswer n status pl) := by
  unfold Dev.sesAnswer
  split
  · exact .refl d
  · exact (d.keepsChain_modSes n _).trans (Dev.spares_complete _ _ _ _ _).keepsChain

theorem Dev.keepsChain_sesFree (d : Dev) (n : Nat) : d.KeepsChain (d.sesFree n) :=
  (d.keepsChain_sesTo n .idle).trans ((Dev.spares_unbindZone _ n).keepsChain.trans (Dev.keepsChain_modSes _ n _))

theorem Dev.keepsChain_sesSealed (d : Dev) (n : Nat) : d.KeepsChain (d.sesSealed n) := by
  have hsealed : d.KeepsChain ((d.sesTo n .sealed).unbindZone n) :=
    (d.keepsChain_sesTo n .sealed).trans (Dev.spares_unbindZone _ n).keepsChain
  unfold Dev.sesSealed
  dsimp only
  split
  · exact hsealed.trans (Dev.keepsChain_sesFree _ n)
  · exact hsealed

theorem Dev.keepsChain_beginRead (d : Dev) (n : Nat) : d.KeepsChain (d.beginRead n) :=
  (d.keepsChain_modSes n _).trans (d.spares_beginRead n).keepsChain

theorem Dev.keepsChain_waitRead (d : Dev) (n : Nat) (w : SesWait) : d.KeepsChain (d.waitRead n w) :=
  (d.keepsChain_modSes n _).trans (Dev.keepsChain_beginRead _ n)

theorem Dev.keepsChain_noSegment (d : Dev) (n status : Nat) : d.KeepsChain (d.noSegment n status) :=
  (d.keepsChain_modSes n _).trans ((Dev.keepsChain_sesTo _ n _).trans
    ((Dev.keepsChain_sesAnswer _ n _ _).trans (Dev.keepsChain_sesSealed _ n)))

end Sys2Proof.Machine
end

section
/-! SUPPORT. A session's readings and the wait for its fold (R293 to R297). -/

namespace Sys2Proof.Machine

open Sys2Proof

variable {d : Dev} {n : Nat}

/-! ## METER_READING_ARRIVAL -/

theorem meterReading_absent (h : (d.ses n).delivery = none) : meterReading n d = d := by
  simp only [meterReading, h]

theorem meterReading_unheeded {v : Delivery} (hv : (d.ses n).delivery = some v)
    (h : (d.ses n).deadline < v.committed ∨ d.boot.legRuns = false) : meterReading n d = d := by
  simp only [meterReading, hv]
  exact if_pos (h.imp_right (by simp [·]))

/-- A delivery in time that holds a value is taken as a reading (R295). -/
theorem meterReading_good {v : Delivery} {w : Nat} (hv : (d.ses n).delivery = some v) (htime : v.committed ≤ (d.ses n).deadline)
    (hleg : d.boot.legRuns = true) (hok : v.ok = true) (hw : readingValue d.cask.params v.bytes (d.ses n).outlet = some w) :
    meterReading n d = (d.modSes n (fun x => { x with delivery := none })).takeReading n
      { mwh := w, time := v.arrival, quality := v.quality, errNs := v.errNs } := by
  have hheeded : ¬ ((d.ses n).deadline < v.committed ∨ (!d.boot.legRuns) = true) := by
    rw [hleg]
    exact not_or.mpr ⟨Nat.not_lt.mpr htime, Bool.false_ne_true⟩
  simp only [meterReading, hv, if_neg hheeded, hok, Bool.not_true, Bool.false_eq_true, if_false, hw]

/-- The block in which a reading is used: a degraded one has been logged (R296). -/
def Dev.noteReading (d : Dev) (n : Nat) (r : Reading) : Dev :=
  if degradedQuality r.quality then d.legalLog 10 n (r.quality + r.errNs * 2 ^ 32) else d

theorem Dev.writesLog_noteReading (d : Dev) (n : Nat) (r : Reading) : d.WritesLog (d.noteReading n r) := by
  unfold Dev.noteReading
  split
  · exact d.writesLog_legalLog _ _ _
  · exact (Dev.SparesCask.refl d).writesLog

/-- A start reading makes its session ACTIVE (R287). -/
theorem Dev.takeReading_start {r : Reading} (h : (d.ses n).wait = .start false) :
    ((d.takeReading n r).ses n).state = .active ∧ ((d.takeReading n r).ses n).start = some r ∧ ((d.takeReading n r).ses n).wait = .none := by
  have htaken : d.takeReading n r = (d.noteReading n r).takeStart n false r := by
    simp only [Dev.takeReading, h, Dev.noteReading]
  have hses : ((d.noteReading n r).takeStart n false r).ses n =
      { ((d.noteReading n r).ses n).newSegment r (d.noteReading n r).uptime with state := .active, cmd := none } := by
    simp [Dev.takeStart]
  rw [htaken, hses]
  exact ⟨rfl, rfl, rfl⟩

theorem Dev.takeReading_interim {r : Reading} (h : (d.ses n).wait = .interim) :
    ((d.takeReading n r).ses n).last = some r ∧ ((d.takeReading n r).ses n).wait = .none ∧
    ((d.takeReading n r).ses n).interimCount = ((d.ses n).interimCount + 1) % 2 ^ 16 ∧
    ((d.takeReading n r).ses n).state = (d.ses n).state := by
  have htaken : d.takeReading n r = (d.noteReading n r).takeInterim n r := by
    simp only [Dev.takeReading, h, Dev.noteReading]
  rw [htaken, Dev.takeInterim, Dev.sesAnswer_ses, Dev.journalSession_ses, Dev.modSes_ses, (d.writesLog_noteReading n r).ses]
  exact ⟨rfl, rfl, rfl, rfl⟩

/-- With a stop reading the session waits for the stop value of its group's fold, or at once for its seal (R297). -/
theorem Dev.takeReading_stop {r : Reading} (h : (d.ses n).wait = .stop) :
    ((d.takeReading n r).ses n).stop = some r ∧ ((d.takeReading n r).ses n).stopAt = d.uptime ∧
    ((d.takeReading n r).ses n).wait = if (d.ses n).group = 0xFFFF then .seal else .fold := by
  have htaken : d.takeReading n r = (d.noteReading n r).takeStop n r := by
    simp only [Dev.takeReading, h, Dev.noteReading]
  have hnoted := d.writesLog_noteReading n r
  rw [htaken, Dev.takeStop]
  simp only [Dev.journalSession_ses, Dev.modSes_ses, hnoted.ses, hnoted.uptime, beq_iff_eq]
  split
  · rw [Dev.readyToSeal_ses, Dev.journalSession_ses, Dev.modSes_ses]
    exact ⟨rfl, rfl, rfl⟩
  · rw [Dev.journalSession_ses, Dev.modSes_ses]
    exact ⟨rfl, rfl, rfl⟩

/-! ## READ_ATTEMPT_TIMEOUT -/

theorem readTimeoutStep_waits (h : (d.ses n).reads = false ∨ d.over (d.ses n).deadline = false ∨ d.boot.legRuns = false) :
    readTimeoutStep n d = d := by
  refine if_neg ?_
  obtain h | h | h := h <;> simp [h]

/-- The block in which an attempt that has run out is counted (R294). -/
def Dev.timedOut (d : Dev) (n : Nat) : Dev := (d.modSes n (fun x => { x with delivery := none })).count 10 4

theorem Dev.timedOut_ses (d : Dev) (n : Nat) : (d.timedOut n).ses n = { d.ses n with delivery := none } := Dev.modSes_ses ..

section
variable (hwait : (d.ses n).wait = .stop) (hdue : (d.ses n).due = false) (hnone : (d.ses n).delivery = none)
  (hover : (d.ses n).deadline < d.uptime) (hleg : d.boot.legRuns = true)
include hwait hdue hnone hover hleg

theorem readTimeoutStep_stop : readTimeoutStep n d = (d.timedOut n).attemptFailed n 1 := by
  have hreads : (d.ses n).reads = true := by simp [Session.reads, hwait, hdue]
  have hrun : d.over (d.ses n).deadline = true := decide_eq_true hover
  exact if_pos (by simp [hreads, hrun, hleg, hnone])

/-- Retries of a stop reading are left: another attempt begins (R293). -/
theorem readTimeoutStep_retry (h : (d.ses n).attempts < 1 + byteAt d.cask.params 5) :
    (readTimeoutStep n d).ses n =
      ({ d.ses n with delivery := none } : Session).attempt d.uptime (d.uptime + d.readTimeout) := by
  have hposted := (d.timedOut n).spares_post 0x0A06 n 1
  have hretry : ((d.timedOut n).ses n).wait = .stop ∧ ((d.timedOut n).ses n).attempts < 1 + byteAt (d.timedOut n).cask.params 5 := by
    rw [Dev.timedOut_ses]
    exact ⟨hwait, h⟩
  rw [readTimeoutStep_stop hwait hdue hnone hover hleg, Dev.attemptFailed, if_pos hretry, Dev.beginRead_ses, hposted.ses,
    Dev.timedOut_ses, hposted.uptime, Dev.readTimeout, hposted.cask]
  rfl

/-- No retry is left: the session goes to its seal with its last reading (R293, R297). -/
theorem readTimeoutStep_missing (h : 1 + byteAt d.cask.params 5 ≤ (d.ses n).attempts) :
    ((readTimeoutStep n d).ses n).wait = .seal ∧ ((readTimeoutStep n d).ses n).stopMissing = true ∧
    ((readTimeoutStep n d).ses n).stop = (d.ses n).last := by
  have hposted : ((d.timedOut n).post 0x0A06 n 1).ses n = { d.ses n with delivery := none } := by
    rw [Dev.post_ses, Dev.timedOut_ses]
  have hend : ¬ (((d.timedOut n).ses n).wait = .stop ∧ ((d.timedOut n).ses n).attempts < 1 + byteAt (d.timedOut n).cask.params 5) := by
    rw [Dev.timedOut_ses]
    exact fun hretry => Nat.not_lt.mpr h hretry.2
  rw [readTimeoutStep_stop hwait hdue hnone hover hleg, Dev.attemptFailed, if_neg hend]
  simp only [Dev.readFailed, hposted, hwait, Dev.readyToSeal_ses, Dev.modSes_ses, and_self]

end

/-! ## STOP_FOLD_WAIT_TIMEOUT -/

theorem foldTimeout_over (hwait : (d.ses n).wait = .fold) (h : (d.ses n).deadline < d.uptime) : foldTimeout n d = d.readyToSeal n :=
  if_pos ⟨hwait, decide_eq_true h⟩

theorem foldTimeout_waits (h : (d.ses n).wait ≠ .fold ∨ d.uptime ≤ (d.ses n).deadline) : foldTimeout n d = d := by
  refine if_neg fun hover => ?_
  obtain ⟨hwait, hend⟩ := hover
  exact h.elim (fun hother => hother hwait) (fun hrun => Nat.not_lt.mpr hrun (of_decide_eq_true hend))

end Sys2Proof.Machine
end

section
/-! SUPPORT. A record's bytes (chapter 11, The record): its length, and where its RECORD_SEQ stands. -/

namespace Sys2Proof.Machine

open Sys2Proof

theorem be_succ_right (bs : Bytes) (off n : Nat) : be bs off (n + 1) = be bs off n * 256 + byteAt bs (off + n) := by
  induction n generalizing off with
  | zero => simp [be]
  | succ n ih =>
    rw [be, ih, be, Nat.pow_succ, Nat.add_assoc off 1 n, Nat.add_comm 1 n]
    ring

/-- A field inside the first part of a concatenation. -/
theorem be_append_left {a : Bytes} (b : Bytes) {off n : Nat} (h : off + n ≤ a.length) : be (a ++ b) off n = be a off n := by
  induction n with
  | zero => rfl
  | succ n ih =>
    have hlt : off + n < a.length := by omega
    rw [be_succ_right, be_succ_right, ih (by omega), byteAt_append, if_pos hlt]

/-- A field behind the first part of a concatenation. -/
theorem be_append_right {a : Bytes} (b : Bytes) {off : Nat} (n : Nat) (h : a.length ≤ off) :
    be (a ++ b) off n = be b (off - a.length) n := by
  induction n with
  | zero => rfl
  | succ n ih =>
    have hge : ¬ off + n < a.length := by omega
    have hoff : off + n - a.length = off - a.length + n := by omega
    rw [be_succ_right, be_succ_right, ih, byteAt_append, if_neg hge, hoff]

/-- A number written in `n` bytes in network order is read back modulo 2^(8n). -/
theorem be_beb (n v : Nat) : be (beb n v) 0 n = v % 256 ^ n := by
  induction n generalizing v with
  | zero => simp [be, Nat.mod_one]
  | succ n ih =>
    have hlast : beb (n + 1) v = beb n (v / 256) ++ [BitVec.ofNat 8 v] := by simp [beb, leb]
    have hbyte : byteAt (beb n (v / 256) ++ [BitVec.ofNat 8 v]) n = v % 256 := by simp [byteAt]
    rw [be_succ_right, hlast, be_append_left _ (by simp), ih, Nat.zero_add, hbyte, Nat.pow_succ', Nat.mod_mul, Nat.mul_comm, Nat.add_comm]

@[simp] theorem patch_length (bs : Bytes) (off : Nat) (v : Bytes) : (patch bs off v).length = bs.length := by
  simp only [patch, List.length_append, List.length_take, List.length_drop]
  omega

@[simp] theorem t80be_length (ns : Nat) : (t80be ns).length = 10 := by simp [t80be]

@[simp] theorem recordHead_length (type flags seq legVersion paramVersion : Nat) :
    (recordHead type flags seq legVersion paramVersion).length = 32 := by simp [recordHead]

theorem recordHead_seq (type flags seq legVersion paramVersion : Nat) :
    be (recordHead type flags seq legVersion paramVersion) 4 4 = seq % 2 ^ 32 := by
  simp only [recordHead, List.append_assoc]
  rw [be_append_right _ _ (by simp), be_append_right _ _ (by simp), be_append_right _ _ (by simp), be_append_left _ (by simp)]
  simpa using be_beb 4 seq

@[simp] theorem Dev.recordBody_length (d : Dev) (n : Nat) (x : Session) : (d.recordBody n x).length = 104 := by
  unfold Dev.recordBody
  extract_lets a b p
  simp

@[simp] theorem Dev.markerBody_length (d : Dev) (it : SealItem) : (d.markerBody it).length = 104 := by simp [Dev.markerBody]

@[simp] theorem Dev.chainLink_length (d : Dev) (it : SealItem) (seq : Nat) : (d.chainLink it seq).2.length = 32 := by
  unfold Dev.chainLink
  split <;> split <;> simp

@[simp] theorem Dev.recordBytes_length (d : Dev) (it : SealItem) (seq flags : Nat) : (d.recordBytes it seq flags).length = 192 := by
  by_cases hmarker : (it.session == 0) = true <;> simp [Dev.recordBytes, hmarker]

theorem Dev.recordBytes_seq (d : Dev) (it : SealItem) {seq : Nat} (flags : Nat) (h : seq < 2 ^ 32) :
    be (d.recordBytes it seq flags) 4 4 = seq := by
  simp only [Dev.recordBytes, List.append_assoc]
  rw [be_append_left _ (by simp), recordHead_seq, Nat.mod_eq_of_lt h]

end Sys2Proof.Machine
end

section
/-! SUPPORT. The seal of a record (R300 to R304): signed and released, failed twice, or without a permitted key. -/

namespace Sys2Proof.Machine

open Sys2Proof

variable {d : Dev} {it : SealItem}

/-! ## RECORD_SEAL -/

theorem recordSeal_idle (n : Nat) (a b : Bool)
    (h : d.boot.legRuns = false ∨ d.safety.split = true ∨ d.twin.role = .standby ∨ d.cask.seals = []) : recordSeal n a b d = d := by
  unfold recordSeal
  split
  · rfl
  · next hruns =>
    obtain h | h | h | h := h
    · simp [h] at hruns
    · simp [h] at hruns
    · simp [h] at hruns
    · rw [h]

/-- The first waiting record, its seal not withheld, is sealed where LEG runs, in LOCKED, not on a standby. -/
theorem recordSeal_head {rest : List SealItem} (a b : Bool) (hleg : d.boot.legRuns = true) (hsplit : d.safety.split = false)
    (hrole : d.twin.role ≠ .standby) (hseals : d.cask.seals = it :: rest) (hfresh : it.withheld = none) :
    recordSeal it.session a b d = d.sealHead it (a || b) := by
  simp [recordSeal, hleg, hsplit, hrole, hseals, hfresh]

/-- The block in which a seal takes its RECORD_SEQ from counter 0 (R300). -/
def Dev.sealTaken (d : Dev) (seq : Nat) : Dev := (d.setMono 0 seq).modHeadSeal (fun y => { y with seq := some seq })

theorem Dev.sealHead_signed (ok : Bool) (hseq : it.seq = none) (hkey : d.recordKey = stOk) (hroom : d.mono 0 < 0xFFFFFFFF) :
    d.sealHead it ok = (d.sealTaken (d.mono 0 + 1)).signAndRelease { it with seq := some (d.mono 0 + 1) } (d.mono 0 + 1) ok := by
  have hleft : ¬ 0xFFFFFFFF ≤ d.mono 0 := Nat.not_le.mpr hroom
  simp [Dev.sealHead, hseq, hkey, Dev.sealTaken, Nat.not_le.mp hleft]

theorem Dev.sealHead_notPermitted (ok : Bool) (hkey : d.recordKey = stNotPermitted) :
    d.sealHead it ok = d.withhold it stNotPermitted it.seq true := by
  simp [Dev.sealHead, hkey]

theorem Dev.sealTaken_cask {rest : List SealItem} (seq : Nat) (hseals : d.cask.seals = it :: rest) :
    (d.sealTaken seq).cask = { d.cask with seals := { it with seq := some seq } :: rest } := by
  have hsame : (d.setMono 0 seq).cask.seals = it :: rest := hseals
  simp only [Dev.sealTaken, Dev.modHeadSeal, hsame]
  rfl

/-! ## A withheld seal (R303) -/

/-- The block in which another channel, or none, waits for the marker of a legal parameter update. -/
def Dev.putParamCh (d : Dev) (p : Option Nat) : Dev := { d with cask := { d.cask with paramCh := p } }

/-- Whoever waits for a withheld seal is answered: beside the chain, the wait of a legal parameter update may end. -/
theorem Dev.keepsChain_answerSeal (d : Dev) (it : SealItem) (status : Nat) :
    ∃ p, (d.putParamCh p).KeepsChain (d.answerSeal it status) := by
  unfold Dev.answerSeal
  split
  · split
    · split
      · exact ⟨none, (Dev.spares_complete _ _ _ _ _).keepsChain⟩
      · exact ⟨_, .refl d⟩
    · exact ⟨_, .refl d⟩
  · exact ⟨_, (d.keepsChain_modSes _ _).trans (Dev.keepsChain_sesAnswer _ _ _ _)⟩

/-- An item of the queue that is the one withheld keeps the status and the RECORD_SEQ. -/
def SealItem.marked (it : SealItem) (status : Nat) (seq : Option Nat) (y : SealItem) : SealItem :=
  if y.session == it.session && y.cause == it.cause && y.time == it.time then { y with withheld := some status, seq := seq, retry := false } else y

theorem SealItem.marked_self (it : SealItem) (status : Nat) (seq : Option Nat) :
    it.marked status seq it = { it with withheld := some status, seq := seq, retry := false } := by
  simp [SealItem.marked]

theorem Dev.withhold_chain (d : Dev) (it : SealItem) (status : Nat) (seq : Option Nat) (logged : Bool) :
    (d.withhold it status seq logged).cask.seals = d.cask.seals.map (it.marked status seq) ∧
    (d.withhold it status seq logged).cask.nextSeq = d.cask.nextSeq ∧ (d.withhold it status seq logged).safety = d.safety := by
  have hlogged : ∀ e : Dev, e.KeepsChain
      (if logged then (e.count 10 2).legalLog 5 it.session (status + seq.getD 0 * 2 ^ 32) else e) := by
    intro e
    split
    · exact (e.spares_count 10 2).keepsChain.trans (Dev.keepsChain_legalLog _ _ _ _)
    · exact .refl e
  obtain ⟨_, hanswered⟩ := Dev.keepsChain_answerSeal
    (if logged then ((({ d with cask := { d.cask with seals := d.cask.seals.map (it.marked status seq) } } : Dev).count 10 2).legalLog 5
      it.session (status + seq.getD 0 * 2 ^ 32)) else { d with cask := { d.cask with seals := d.cask.seals.map (it.marked status seq) } })
    it status
  have hmarked := hlogged { d with cask := { d.cask with seals := d.cask.seals.map (it.marked status seq) } }
  exact ⟨hanswered.seals.trans hmarked.seals, hanswered.nextSeq.trans hmarked.nextSeq, hanswered.safety.trans hmarked.safety⟩

/-- Two failed signings (R301): the next number and the queue stay, the latest fault is CASK_VERIFY. -/
theorem Dev.keepsChain_sealFails (d : Dev) (n : Nat) : d.KeepsChain (d.sealFails n) := by
  unfold Dev.sealFails
  split
  · exact (d.keepsChain_modSes n _).trans (Dev.keepsChain_sesTo _ n _)
  · exact .refl d

theorem Dev.faultF1_cask (d : Dev) (code object data : Nat) : (d.faultF1 code object data).cask = d.cask :=
  (Dev.posts_logFault _ _ _ _ _ _ _).cask

theorem Dev.faultF1_lastCode (d : Dev) (code object data : Nat) : (d.faultF1 code object data).safety.lastCode = code := by
  rw [Dev.faultF1, (Dev.posts_logFault _ _ _ _ _ _ _).safety]
  rfl

theorem Dev.signAndRelease_fails (d : Dev) (it : SealItem) (seq : Nat) :
    (d.signAndRelease it seq false).safety.lastCode = 0x0601 ∧
    (d.signAndRelease it seq false).cask.seals = d.cask.seals.map (it.marked stFault (some seq)) ∧
    (d.signAndRelease it seq false).cask.nextSeq = d.cask.nextSeq := by
  have hcharged : d.SparesCask ((d.charge (byteAt d.cask.params 4) 1).eccCount) := (d.spares_charge _ 1).trans (Dev.spares_count _ _ _)
  have hfault := Dev.faultF1_cask ((d.charge (byteAt d.cask.params 4) 1).eccCount) 0x0601 it.session 0
  have hcode := Dev.faultF1_lastCode ((d.charge (byteAt d.cask.params 4) 1).eccCount) 0x0601 it.session 0
  have hfails := Dev.keepsChain_sealFails (((d.charge (byteAt d.cask.params 4) 1).eccCount).faultF1 0x0601 it.session 0) it.session
  obtain ⟨hseals, hnext, hsafety⟩ := Dev.withhold_chain _ it stFault (some seq) false
  rw [Dev.signAndRelease]
  refine ⟨?_, hseals.trans ?_, hnext.trans ?_⟩
  · exact (congrArg Safety.lastCode (hsafety.trans hfails.safety)).trans hcode
  · rw [hfails.seals, hfault, hcharged.cask]
  · rw [hfails.nextSeq, hfault, hcharged.cask]

/-! ## A released record (R304) -/

theorem Dev.keepsChain_sealLogs (d : Dev) (it : SealItem) (seq : Nat) : d.KeepsChain (d.sealLogs it seq) := by
  unfold Dev.sealLogs
  extract_lets n x p d1 d2 d3
  have h1 : d.KeepsChain d1 := by
    simp only [d1]
    split
    · exact ((d.spares_count 10 3).trans (Dev.spares_post _ _ _ _)).keepsChain.trans (Dev.keepsChain_legalLog _ _ _ _)
    · exact .refl d
  have h2 : d1.KeepsChain d2 := by
    simp only [d2]
    split
    · exact Dev.keepsChain_legalLog _ _ _ _
    · exact .refl d1
  have h3 : d2.KeepsChain d3 := by
    simp only [d3]
    split
    · exact Dev.keepsChain_legalLog _ _ _ _
    · exact .refl d2
  refine (h1.trans h2).trans (h3.trans ?_)
  split
  · exact Dev.keepsChain_legalLog _ _ _ _
  · exact .refl d3

theorem Dev.keepsChain_afterRecord (d : Dev) (n seq : Nat) (rcd : Bytes) : d.KeepsChain (d.afterRecord n seq rcd) := by
  unfold Dev.afterRecord
  extract_lets x d0 d1 d2 d3
  have h1 : d.KeepsChain d1 := by
    simp only [d1]
    split
    · exact (d.keepsChain_modSes n _).trans (Dev.keepsChain_sesAnswer _ _ _ _)
    · exact d.keepsChain_modSes n _
  have h3 : d.KeepsChain d3 :=
    h1.trans (((Dev.keepsChain_modSes _ n _).trans (Dev.spares_sesHold _ n).keepsChain).trans (Dev.keepsChain_modSes _ n _))
  split
  · split
    · exact h3.trans (Dev.keepsChain_modSes _ n _)
    · exact h3.trans (Dev.keepsChain_waitRead _ n _)
  · exact h1.trans ((Dev.keepsChain_sesAnswer _ n _ _).trans (Dev.keepsChain_sesSealed _ n))

theorem Dev.keepsChain_afterMarker (d : Dev) (it : SealItem) (seq : Nat) :
    ∃ p, (d.putParamCh p).KeepsChain (d.afterMarker it seq) := by
  unfold Dev.afterMarker
  split
  · split
    · exact ⟨none, (Dev.spares_complete _ _ _ _ _).keepsChain⟩
    · exact ⟨_, .refl d⟩
  · exact ⟨_, .refl d⟩

/-- The record is in its slot, the last of the chain, and has left the queue (R304). -/
structure Dev.Released (d d' : Dev) (seq : Nat) (rcd : Bytes) : Prop where
  nextSeq : d'.cask.nextSeq = seq + 1
  lastSeq : d'.cask.lastSeq = some seq
  seals : d'.cask.seals = d.cask.seals.drop 1
  slot : tabFind d'.cask.records (seq % 4096) = some rcd

theorem Dev.Released.after {d e d' : Dev} {seq : Nat} {rcd : Bytes} (h : d.Released e seq rcd) (hkeeps : e.KeepsChain d') :
    d.Released d' seq rcd :=
  ⟨hkeeps.nextSeq.trans h.nextSeq, hkeeps.lastSeq.trans h.lastSeq, hkeeps.seals.trans h.seals, by rw [hkeeps.records, h.slot]⟩

/-- SES_RING_LEVEL changes its own mark alone in Cask (R305). -/
theorem Dev.ringLevel_cask (d : Dev) : ∃ l, d.ringLevel.cask = { d.cask with levelHigh := l } := by
  unfold Dev.ringLevel
  split
  · split
    · exact ⟨_, (Dev.spares_post _ _ _ _).cask⟩
    · exact ⟨_, rfl⟩
  · split
    · exact ⟨_, (Dev.spares_post _ _ _ _).cask⟩
    · exact ⟨_, rfl⟩

theorem Dev.released_ringWriteRecord (d : Dev) (it : SealItem) (seq : Nat) (rcd : Bytes) :
    d.Released (d.ringWriteRecord it seq rcd) seq rcd := by
  unfold Dev.ringWriteRecord
  extract_lets c d1
  have hposted : d1.SparesCask (((d1.hashed 448).count 10 1).post 0x0A02 it.session (seq + byteAt rcd 3 * 2 ^ 32)) :=
    ((d1.spares_countN 11 3 448).trans (Dev.spares_count _ _ _)).trans (Dev.spares_post _ _ _ _)
  obtain ⟨_, hlevel⟩ := Dev.ringLevel_cask (((d1.hashed 448).count 10 1).post 0x0A02 it.session (seq + byteAt rcd 3 * 2 ^ 32))
  rw [hposted.cask] at hlevel
  constructor <;> rw [hlevel]
  exact tabFind_put_same _ _ _

/-- What follows a release: of a session its next segment or its end, of a marker the answer to a legal parameter update. -/
theorem Dev.Released.moves {d e : Dev} {seq : Nat} {rcd : Bytes} (h : d.Released e seq rcd) (it : SealItem) :
    d.Released (if it.session == 0 then e.afterMarker it seq else e.afterRecord it.session seq rcd) seq rcd := by
  split
  · obtain ⟨p, hkeeps⟩ := e.keepsChain_afterMarker it seq
    exact Dev.Released.after (e := e.putParamCh p) ⟨h.nextSeq, h.lastSeq, h.seals, h.slot⟩ hkeeps
  · exact h.after (e.keepsChain_afterRecord _ _ _)

/-- A verified signature releases the record: 256 bytes with its number. -/
theorem Dev.signAndRelease_released (d : Dev) (it : SealItem) {seq : Nat} (hseq : seq < 2 ^ 32) :
    ∃ rcd, d.Released (d.signAndRelease it seq true) seq rcd ∧ rcd.length = 256 ∧ be rcd 4 4 = seq := by
  unfold Dev.signAndRelease
  extract_lets slot d1 head sig rcd d2 d3 d4 d5
  have h3 : d.KeepsChain d3 := by
    have h1 : d.SparesCask d1 := (d.spares_charge slot 1).trans (Dev.spares_count _ _ _)
    have h2 : d.KeepsChain d2 := (h1.trans (c := d2) ⟨rfl, rfl, rfl⟩).keepsChain
    simp only [d3]
    split
    · exact h2
    · exact h2.trans (Dev.keepsChain_sealLogs _ _ _)
  have h4 : d.Released d4 seq rcd := by
    obtain ⟨hnext, hlast, hseals, hslot⟩ := d3.released_ringWriteRecord it seq rcd
    exact ⟨hnext, hlast, by rw [hseals, h3.seals], hslot⟩
  have h5 : d.Released d5 seq rcd := by
    simp only [d5]
    split
    · exact h4.after (Dev.keepsChain_legalLog _ _ _ _)
    · exact h4
  have hlen : rcd.length = 256 := by simp [rcd, head, sig]
  have hnumber : be rcd 4 4 = seq := by
    simp only [rcd]
    rw [be_append_left _ (by simp [head])]
    exact d1.recordBytes_seq _ _ hseq
  exact ⟨rcd, h5.moves it, hlen, hnumber⟩

end Sys2Proof.Machine
end

section
/-! SUPPORT. Recovery after a reset and sessions taken over (R304, R307). -/

namespace Sys2Proof.Machine

open Sys2Proof

variable {d : Dev} {n : Nat}

/-! ## CASK_RESTART_RECOVERY -/

theorem caskRecovery_idle (ok : Bool) (h : d.cask.recover = false ∨ d.boot.legRuns = false) : caskRecovery ok d = d := by
  refine if_pos ?_
  obtain h | h := h <;> simp [h]

theorem caskRecovery_broken (hdue : d.cask.recover = true) (hleg : d.boot.legRuns = true) (hlast : d.cask.lastSeq.isSome = true)
    (hbroken : d.cask.chainBroken = false) : caskRecovery false d = d.brokenChain := by
  simp [caskRecovery, hdue, hleg, hlast, hbroken]

theorem Dev.voidInterrupted_recover (d : Dev) : d.voidInterrupted.cask.recover = d.cask.recover :=
  (Dev.KeepsChain.foldl (fun e v => e.keepsChain_legalLog 14 0 v) _ _).recover

theorem Dev.startLogs_recover (d : Dev) : d.startLogs.cask.recover = d.cask.recover := by
  unfold Dev.startLogs
  extract_lets _ d1 _
  have h1 : d1.cask.recover = d.cask.recover := by
    simp only [d1]
    split
    · rfl
    · split
      · exact (Dev.keepsChain_legalLog _ _ _ _).recover
      · exact (Dev.keepsChain_legalLog _ _ _ _).recover
  split
  · exact h1
  · exact (Dev.keepsChain_legalLog _ _ _ _).recover.trans h1

theorem Dev.recoverSession_recover (d : Dev) (cause n : Nat) : (d.recoverSession cause n).cask.recover = d.cask.recover := by
  unfold Dev.recoverSession
  extract_lets x queued end_ d1 d2 d3
  have h1 : d.KeepsChain d1 := d.keepsChain_modSes n _
  have h3 : d.KeepsChain d3 := h1.trans ((d1.keepsChain_modSes n _).trans (d2.keepsChain_sesTo n .closing))
  split
  · rfl
  · rfl
  · exact (d.keepsChain_sesFree n).recover
  · split
    · exact (h1.trans (d1.keepsChain_noSegment n _)).recover
    · split
      · exact h3.recover
      · split
        · exact h3.recover
        · exact h3.recover

/-- Recovery runs once after a start of LEG. -/
theorem caskRecovery_done (hdue : d.cask.recover = true) (hleg : d.boot.legRuns = true) : (caskRecovery true d).cask.recover = false := by
  unfold caskRecovery
  extract_lets cause mine _ d1
  have h1 : d1.cask.recover = false := (Dev.startLogs_recover _).trans (Dev.voidInterrupted_recover _)
  simp only [hdue, hleg, Bool.not_true, Bool.or_self, Bool.false_and, Bool.false_eq_true, if_false]
  split
  · exact h1
  · exact List.foldlRecOn (motive := fun e : Dev => e.cask.recover = false) _ _ h1
      (fun e h n _ => (e.recoverSession_recover cause n).trans h)

/-! ## TAKEOVER_SESSION_RESEGMENT -/

theorem takeoverResegment_waits (h : d.boot.legRuns = false ∨ (d.ses n).restart = false ∨ (d.ses n).wait ≠ .none) :
    takeoverResegment n d = d := by
  refine if_pos ?_
  obtain h | h | h := h <;> simp [h]

/-- An ACTIVE session that was taken over waits for its stop reading. -/
theorem takeoverResegment_active (hleg : d.boot.legRuns = true) (hrole : d.twin.role ≠ .standby) (hrestart : (d.ses n).restart = true)
    (hwait : (d.ses n).wait = .none) (hseals : ∀ y ∈ d.cask.seals, y.session ≠ n) (hmeter : d.meterRuns (d.ses n) = true)
    (hstate : (d.ses n).state = .active) : takeoverResegment n d =
      ((d.modSes n (fun x => { x with endCause := 4 })).modSes n (fun x => { x with resume := some .active })).waitRead n .stop := by
  have hunsealed : d.cask.seals.any (fun y => y.session == n) = false := by simpa using hseals
  simp [takeoverResegment, hleg, hrole, hrestart, hwait, hunsealed, hmeter, hstate]

end Sys2Proof.Machine
end

section
/-! The statement about the steps of Cask. -/

namespace Sys2Proof.Machine

open Sys2Proof

theorem runs_meterReadingArrival (n : Nat) (s : State) : Runs (.meterReadingArrival n) s (meterReading n s.dev) := rfl
theorem runs_readAttemptTimeout (n : Nat) (s : State) : Runs (.readAttemptTimeout n) s (readTimeoutStep n s.dev) := rfl
theorem runs_stopFoldWaitTimeout (n : Nat) (s : State) : Runs (.stopFoldWaitTimeout n) s (foldTimeout n s.dev) := rfl
theorem runs_recordSeal (n : Nat) (a b : Bool) (s : State) : Runs (.recordSeal n a b) s (recordSeal n a b s.dev) := rfl
theorem runs_caskRestartRecovery (ok : Bool) (s : State) : Runs (.caskRestartRecovery ok) s (caskRecovery ok s.dev) := rfl
theorem runs_takeoverSessionResegment (n : Nat) (s : State) :
    Runs (.takeoverSessionResegment n) s (takeoverResegment n s.dev) := rfl

/-- Settles O49, step by step. -/
theorem caskStepsActAsRuled : Obligations.CaskStepsActAsRuled := by
  refine ⟨fun s n h => ?_, fun s n v hv => ?_, fun s n => ?_, fun s n => ?_, fun s n a b h => ?_,
    fun s n a b it rest hleg hsplit hrole hseals hn hfresh hseq hsigned hkey hroom => ?_,
    fun s n it rest hleg hsplit hrole hseals hn hfresh => ?_, fun s ok => ?_, fun s n => ?_⟩
  · refine runs_of_eq (runs_meterReadingArrival n s) ?_
    cases hv : (s.dev.ses n).delivery with
    | none => exact meterReading_absent hv
    | some v => exact meterReading_unheeded hv (h.imp (by simp [hv]) id)
  · have hrun := runs_meterReadingArrival n s
    refine ⟨fun hlate => runs_of_eq hrun (meterReading_unheeded hv (.inl hlate)), fun w htime hleg hok hw => ?_⟩
    rw [meterReading_good hv htime hleg hok hw] at hrun
    have hses := s.dev.modSes_ses n (fun x => { x with delivery := none })
    refine ⟨fun hwait => ⟨_, hrun, Dev.takeReading_start (by rw [hses, hwait])⟩, fun hwait => ⟨_, hrun, ?_⟩,
      fun hwait => ⟨_, hrun, ?_⟩⟩
    · have hinterim := Dev.takeReading_interim (r := { mwh := w, time := v.arrival, quality := v.quality, errNs := v.errNs })
        ((congrArg Session.wait hses).trans hwait)
      rw [hses] at hinterim
      exact hinterim
    · have hstop := Dev.takeReading_stop (r := { mwh := w, time := v.arrival, quality := v.quality, errNs := v.errNs })
        ((congrArg Session.wait hses).trans hwait)
      rw [hses] at hstop
      exact hstop
  · have hrun := runs_readAttemptTimeout n s
    refine ⟨fun h => runs_of_eq hrun (readTimeoutStep_waits h), fun hwait hdue hnone hover hleg h => ⟨_, hrun, ?_⟩,
      fun hwait hdue hnone hover hleg h => ⟨_, hrun, readTimeoutStep_missing hwait hdue hnone hover hleg h⟩⟩
    rw [readTimeoutStep_retry hwait hdue hnone hover hleg h]
    exact ⟨hwait, rfl, rfl⟩
  · have hrun := runs_stopFoldWaitTimeout n s
    exact ⟨fun hwait h => runs_of_eq hrun (foldTimeout_over hwait h), fun h => runs_of_eq hrun (foldTimeout_waits h)⟩
  · exact runs_of_eq (runs_recordSeal n a b s) (recordSeal_idle n a b h)
  · subst hn
    have hok : (a || b) = true := by simpa using hsigned
    have hrun := runs_recordSeal it.session a b s
    rw [recordSeal_head a b hleg hsplit hrole hseals hfresh, Dev.sealHead_signed _ hseq hkey hroom, hok] at hrun
    obtain ⟨rcd, ⟨hnext, hlast, hleft, hslot⟩, hlen, hnumber⟩ := Dev.signAndRelease_released (s.dev.sealTaken (s.dev.mono 0 + 1))
      { it with seq := some (s.dev.mono 0 + 1) } (seq := s.dev.mono 0 + 1) (by omega)
    rw [Dev.sealTaken_cask _ hseals] at hleft
    exact ⟨_, rcd, hrun, hnext, hlast, hleft, hslot, hlen, hnumber⟩
  · subst hn
    refine ⟨fun hseq hkey hroom => ?_, fun hkey a b => ?_⟩
    · have hrun := runs_recordSeal it.session false false s
      rw [recordSeal_head false false hleg hsplit hrole hseals hfresh, Dev.sealHead_signed _ hseq hkey hroom] at hrun
      obtain ⟨hcode, hqueue, hnext⟩ := Dev.signAndRelease_fails (s.dev.sealTaken (s.dev.mono 0 + 1))
        { it with seq := some (s.dev.mono 0 + 1) } (s.dev.mono 0 + 1)
      rw [Dev.sealTaken_cask _ hseals, List.map_cons, SealItem.marked_self] at hqueue
      rw [Dev.sealTaken_cask _ hseals] at hnext
      exact ⟨_, _, _, hrun, hcode, hqueue, rfl, rfl, hnext⟩
    · have hrun := runs_recordSeal it.session a b s
      rw [recordSeal_head a b hleg hsplit hrole hseals hfresh, Dev.sealHead_notPermitted _ hkey] at hrun
      obtain ⟨hqueue, hnext, _⟩ := s.dev.withhold_chain it stNotPermitted it.seq true
      rw [hseals, List.map_cons, SealItem.marked_self] at hqueue
      exact ⟨_, _, _, hrun, hqueue, rfl, rfl, hnext⟩
  · refine ⟨fun h => runs_of_eq (runs_caskRestartRecovery ok s) (caskRecovery_idle ok h),
      fun hdue hleg hlast hbroken => runs_of_eq (runs_caskRestartRecovery false s) (caskRecovery_broken hdue hleg hlast hbroken),
      fun hdue hleg => ⟨_, runs_caskRestartRecovery true s, caskRecovery_done hdue hleg⟩⟩
  · have hrun := runs_takeoverSessionResegment n s
    refine ⟨fun h => runs_of_eq hrun (takeoverResegment_waits h), fun hleg hrole hrestart hwait hseals hmeter hstate => ⟨_, hrun, ?_⟩⟩
    rw [takeoverResegment_active hleg hrole hrestart hwait hseals hmeter hstate, Dev.waitRead_ses]
    simp [Session.attempt]

end Sys2Proof.Machine
end

section
/-! SUPPORT. The commands of one session: the states in which each acts, and what it leaves of the session (R287 to R291). -/

namespace Sys2Proof.Machine

open Sys2Proof

/-- A command whose body waits for good data is then in progress. -/
theorem waits_of_body {mk : Req → Instr} {op : Nat} {most : Dev → Bytes → Nat} {body : Dev → Nat → Bytes → Ans}
    {good : Dev → Req → Bytes → Prop} {result : Dev → Req → Bytes → Dev → Prop}
    (hexec : ∀ rq s, exec (mk rq) s = onDev (Dev.serve op rq most body) s)
    (hbody : ∀ d rq bs, good d rq bs → ∃ d', body d rq.ch bs = .wait d' ∧ result d rq bs d') : Waits mk op most good result := by
  intro s rq t d r hadm hgood
  obtain ⟨d', hb, hres⟩ := hbody d rq r.data hgood
  refine ⟨d', ?_, hres⟩
  rw [Runs, hexec, onDev, Dev.serve_wait hadm hb]

theorem withSession_ok {d : Dev} {bs : Bytes} (k : Nat → Ans) (hlen : bs.length = 4) (hok : layoutOk [fr 0 1 1 63] bs = true) :
    withSession d bs k = k (byteAt bs 0) := withLayout_ok _ hlen hok

section
variable {states : List SesState} {d : Dev} {n : Nat} {own : Session → Option Ans} {k : Session → Ans}

theorem sesBody_wrongMode (h : (d.ses n).state ∉ states) : sesBody states d n own k = ansErr d stWrongMode := by
  simp [sesBody, h]

/-- In a state of its own, its checks passed and nothing else under way, the command acts (R288). -/
theorem sesBody_acts (hstate : (d.ses n).state ∈ states) (hown : own (d.ses n) = none) (hcmd : (d.ses n).cmd = none)
    (hwait : (d.ses n).wait = .none) (hresume : (d.ses n).resume = none) : sesBody states d n own k = k (d.ses n) := by
  simp [sesBody, hstate, hown, hcmd, hwait, hresume]

end

/-- A command of one session whose body answers WRONG_MODE in some states is so refused in them. -/
theorem refuses_of_session {mk : Req → Instr} {op : Nat} {most : Dev → Bytes → Nat} {body : Dev → Nat → Nat → Ans}
    (bad : Dev → Nat → Prop)
    (hexec : ∀ rq s, exec (mk rq) s = onDev (Dev.serve op rq most (fun d ch bs => withSession d bs (body d ch))) s)
    (hbody : ∀ d ch n, bad d n → body d ch n = ansErr d stWrongMode) :
    Refuses mk op most (fun d _ bs => bs.length = 4 ∧ layoutOk [fr 0 1 1 63] bs = true ∧ bad d (byteAt bs 0)) stWrongMode
      (fun _ _ _ => 0) := by
  refine refuses_of_body (by decide) hexec ?_
  rintro d rq bs ⟨hlen, hok, hbad⟩
  exact (withSession_ok _ hlen hok).trans (hbody d rq.ch _ hbad)

/-! ## SES_OPEN (R289) -/

/-- The zone binding of a SES_OPEN. -/
def openBinding (bs : Bytes) : Binding :=
  { zone := byteAt bs 3, port := byteAt bs 8, vid := le bs 0x0A 2, sa := le bs 0x0C 6, wildcard := bit (byteAt bs 9) 0 }

/-- The context that SES_OPEN makes, with a serial number, before it is BOUND. -/
def openedSession (bs : Bytes) (serial : Nat) : Session :=
  { session0 with
    outlet := byteAt bs 1, meterSel := byteAt bs 2, zone := byteAt bs 3, group := le bs 4 2, foldIdx := byteAt bs 6, port := byteAt bs 8
    flags := byteAt bs 9, vid := le bs 0x0A 2, sa := le bs 0x0C 6, hostRef := slice bs 0x14 16, serial := serial }

/-- The block with the session's context written and its serial number taken. -/
def Dev.numbered (d : Dev) (n : Nat) (bs : Bytes) : Dev :=
  ({ d with cask := { d.cask with serial := (d.cask.serial + 1) % 2 ^ 32 } } : Dev).modSes n
    (fun _ => openedSession bs ((d.cask.serial + 1) % 2 ^ 32))

/-- The block with the session opened: BOUND, its zone bound, the domains of its ports held. -/
def Dev.opened (d : Dev) (n : Nat) (bs : Bytes) : Dev :=
  ((((d.numbered n bs).sesTo n .bound).bindZone n (openBinding bs)).count 10 0).sesHold n

/-- SES_OPEN's work. -/
def sesOpenBody (d : Dev) (bs : Bytes) : Ans :=
  if !sesGroupOk (le bs 4 2) || (byteAt bs 9 == 1 && le bs 0x0C 6 != 0) then ansErr d stBadParam else openBody d bs

theorem exec_sesOpen (rq : Req) (s : State) : exec (.sesOpen rq) s =
    onDev (Dev.serve 0x0A01 rq (rspMax 8) (fun d _ bs => withLayout d 36 [fr 0 1 0 63, fr 1 1 0 63, fr 2 1 0 1, fr 3 1 6 63, fa 4 2,
      fr 6 1 0 7, fr 8 1 0 49, fr 9 1 0 1, fr 0x0A 2 1 4094, fa 0x0C 6, fa 0x14 16] bs (sesOpenBody d bs))) s := rfl

/-- With everything in order the context is opened. -/
theorem sesOpenBody_opened {d : Dev} {bs : Bytes} {n : Nat} (hgroup : sesGroupOk (le bs 4 2) = true)
    (hwild : byteAt bs 9 = 1 → le bs 0x0C 6 = 0) (hlow : 1 ≤ d.keep.lifecycle) (hhigh : d.keep.lifecycle ≤ 3)
    (hchain : d.cask.chainBroken = false) (hring : d.ringFull = false) (hlog : d.logFull = false)
    (hn : d.openContext (byteAt bs 0) = some n) (hidle : (d.ses n).state = .idle)
    (halone : d.otherSession n (fun x => x.outlet == byteAt bs 1 || x.zone == byteAt bs 3) = none)
    (hzone : d.bindingTwice (openBinding bs) = none) (hmeter : d.bindingMissing (byteAt bs 1) (byteAt bs 2) (le bs 4 2) = false)
    (hfold : d.foldBad (le bs 4 2) (byteAt bs 6) = false) :
    sesOpenBody d bs = ansOk (d.opened n bs) (leb 1 n ++ zeros 3 ++ leb 4 ((d.cask.serial + 1) % 2 ^ 32)) := by
  have hfields : (!sesGroupOk (le bs 4 2) || (byteAt bs 9 == 1 && le bs 0x0C 6 != 0)) = false := by simpa [hgroup] using hwild
  have hlife : (d.keep.lifecycle == 0 || d.keep.lifecycle == 4) = false := by
    simp only [Bool.or_eq_false_iff, beq_eq_false_iff_ne]
    omega
  rw [openBinding] at hzone
  simp only [sesOpenBody, hfields, openBody, hlife, hchain, hn, hring, hlog, hidle, halone, hzone, hmeter, hfold, Bool.or_self,
    Bool.false_eq_true, if_false, ne_eq, not_true_eq_false, Dev.opened, Dev.numbered, openedSession, openBinding]

theorem Dev.opened_result (d : Dev) (n : Nat) (bs : Bytes) :
    (d.opened n bs).ses n = { openedSession bs ((d.cask.serial + 1) % 2 ^ 32) with state := .bound } ∧
    (d.opened n bs).cask.serial = (d.cask.serial + 1) % 2 ^ 32 := by
  have hbound : ((d.numbered n bs).sesTo n .bound).SparesCask (d.opened n bs) := by
    refine .trans ?_ (Dev.spares_sesHold _ n)
    exact ⟨rfl, rfl, rfl⟩
  refine ⟨?_, ?_⟩
  · rw [hbound.ses, Dev.sesTo_ses, Dev.numbered, Dev.modSes_ses]
  · rw [hbound.cask, (Dev.keepsChain_sesTo _ n .bound).serial]
    rfl

/-! ## SES_START, SES_STOP and SES_INTERIM: a reading begins -/

/-- SES_START's work. -/
def sesStartBody (d : Dev) (ch n : Nat) : Ans :=
  sesBody [.bound] d n (fun _ => if d.cask.chainBroken then some (ansErrD d stFault (faultDetail 0x0602 2)) else none)
    (fun _ => .wait ((d.sesCmd n ch 0x0A02).waitRead n (.start false)))

theorem exec_sesStart (rq : Req) (s : State) : exec (.sesStart rq) s =
    onDev (Dev.serve 0x0A02 rq (rspMax 32) (fun d ch bs => withSession d bs (sesStartBody d ch))) s := rfl

/-- The block in which SES_STOP has moved a session to CLOSING. -/
def Dev.stopped (d : Dev) (ch n : Nat) : Dev :=
  (d.modSes n (fun x => { x with suspendedMs := x.suspendedTotal d.uptime, endCause := 1, cmd := some (ch, 0x0A05) })).sesTo n .closing

/-- SES_STOP's work. -/
def sesStopBody (d : Dev) (ch n : Nat) : Ans := sesBody [.active, .suspended] d n noChecks (fun _ => .wait ((d.stopped ch n).waitRead n .stop))

theorem exec_sesStop (rq : Req) (s : State) : exec (.sesStop rq) s =
    onDev (Dev.serve 0x0A05 rq (rspMax 16) (fun d ch bs => withSession d bs (sesStopBody d ch))) s := rfl

theorem Dev.stopped_ses (d : Dev) (ch n : Nat) : (d.stopped ch n).ses n = { d.ses n with
    suspendedMs := (d.ses n).suspendedTotal d.uptime, endCause := 1, cmd := some (ch, 0x0A05), state := .closing } := by
  simp [Dev.stopped]

/-- SES_INTERIM's work. -/
def sesInterimBody (d : Dev) (ch n : Nat) : Ans :=
  sesBody [.active, .suspended] d n noChecks (fun _ => .wait ((d.sesCmd n ch 0x0A06).waitRead n .interim))

theorem exec_sesInterim (rq : Req) (s : State) : exec (.sesInterim rq) s =
    onDev (Dev.serve 0x0A06 rq (rspMax 32) (fun d ch bs => withSession d bs (sesInterimBody d ch))) s := rfl

/-- The context of a session whose command waits for a reading. -/
theorem Dev.sesCmd_waitRead_ses (d : Dev) (n ch op : Nat) (w : SesWait) : ((d.sesCmd n ch op).waitRead n w).ses n =
    ({ d.ses n with cmd := some (ch, op), wait := w, attempts := 0 } : Session).attempt d.uptime (d.uptime + d.readTimeout) := by
  rw [Dev.waitRead_ses, Dev.sesCmd, Dev.modSes_ses]
  rfl

/-! ## SES_SUSPEND, SES_RESUME and SES_ABORT: the state changes at once -/

/-- SES_SUSPEND's work. -/
def sesSuspendBody (d : Dev) (n : Nat) : Ans := sesBody [.active] d n noChecks (fun _ =>
  ansOk ((d.modSes n (fun x => { x with suspendCount := (x.suspendCount + 1) % 2 ^ 16, suspendedAt := d.uptime })).sesTo n .suspended) [])

theorem exec_sesSuspend (rq : Req) (s : State) : exec (.sesSuspend rq) s =
    onDev (Dev.serve 0x0A03 rq (rspMax 0) (fun d _ bs => withSession d bs (sesSuspendBody d))) s := rfl

/-- SES_RESUME's work. -/
def sesResumeBody (d : Dev) (n : Nat) : Ans := sesBody [.suspended] d n noChecks (fun _ =>
  ansOk ((d.modSes n (fun x => { x with suspendedMs := x.suspendedTotal d.uptime })).sesTo n .active) [])

theorem exec_sesResume (rq : Req) (s : State) : exec (.sesResume rq) s =
    onDev (Dev.serve 0x0A04 rq (rspMax 0) (fun d _ bs => withSession d bs (sesResumeBody d))) s := rfl

/-- SES_ABORT's work. -/
def sesAbortBody (d : Dev) (n : Nat) : Ans := sesBody [.bound] d n noChecks (fun _ => ansOk (d.sesFree n) [])

theorem exec_sesAbort (rq : Req) (s : State) : exec (.sesAbort rq) s =
    onDev (Dev.serve 0x0A08 rq (rspMax 0) (fun d _ bs => withSession d bs (sesAbortBody d))) s := rfl

/-! ## SES_REBIND (R291) -/

/-- SES_REBIND's work. -/
def sesRebindBody (d : Dev) (ch : Nat) (bs : Bytes) : Ans :=
  if !sesGroupOk (le bs 4 2) then ansErr d stBadParam
  else sesBody [.bound, .active, .suspended] d (byteAt bs 0) (rebindChecks d bs) (rebindBody d ch (byteAt bs 0) bs)

theorem exec_sesRebind (rq : Req) (s : State) : exec (.sesRebind rq) s = onDev (Dev.serve 0x0A07 rq (rspMax 36)
    (fun d ch bs => withLayout d 8 [fr 0 1 1 63, fr 1 1 0 1, fr 2 1 0 7, fa 4 2] bs (sesRebindBody d ch bs))) s := rfl

/-- The block in which a BOUND session is bound anew. -/
def Dev.rebound (d : Dev) (n : Nat) (bs : Bytes) : Dev :=
  ((d.modSes n (fun x => { x with meterSel := byteAt bs 1, foldIdx := byteAt bs 2, group := le bs 4 2 })).sesHold n).journalSession n

theorem Dev.rebound_ses (d : Dev) (n : Nat) (bs : Bytes) :
    (d.rebound n bs).ses n = { d.ses n with meterSel := byteAt bs 1, foldIdx := byteAt bs 2, group := le bs 4 2 } := by
  simp [Dev.rebound]

/-- The block in which a running segment ends for a rebinding. -/
def Dev.rebinds (d : Dev) (ch n : Nat) (bs : Bytes) : Dev :=
  (d.modSes n (fun y => { y with
    resume := some (d.ses n).state, rebind := some (byteAt bs 1, byteAt bs 2, le bs 4 2), endCause := 2
    cmd := some (ch, 0x0A07) })).waitRead n .stop

theorem Dev.rebinds_ses (d : Dev) (ch n : Nat) (bs : Bytes) : (d.rebinds ch n bs).ses n = ({ d.ses n with
    resume := some (d.ses n).state, rebind := some (byteAt bs 1, byteAt bs 2, le bs 4 2), endCause := 2, cmd := some (ch, 0x0A07)
    wait := .stop, attempts := 0 } : Session).attempt d.uptime (d.uptime + d.readTimeout) := by
  rw [Dev.rebinds, Dev.waitRead_ses, Dev.modSes_ses]
  rfl

section
variable {d : Dev} {ch : Nat} {bs : Bytes} (hgroup : sesGroupOk (le bs 4 2) = true)
  (hchecks : rebindChecks d bs (d.ses (byteAt bs 0)) = none) (hcmd : (d.ses (byteAt bs 0)).cmd = none)
  (hwait : (d.ses (byteAt bs 0)).wait = .none) (hresume : (d.ses (byteAt bs 0)).resume = none)
include hgroup hchecks hcmd hwait hresume

theorem sesRebindBody_bound (h : (d.ses (byteAt bs 0)).state = .bound) :
    sesRebindBody d ch bs = ansOk (d.rebound (byteAt bs 0) bs) (leb 4 0xFFFFFFFF ++ zeros 32) := by
  rw [sesRebindBody, hgroup, Bool.not_true, if_neg Bool.false_ne_true, sesBody_acts (by simp [h]) hchecks hcmd hwait hresume]
  exact if_pos h

theorem sesRebindBody_running (h : (d.ses (byteAt bs 0)).state = .active ∨ (d.ses (byteAt bs 0)).state = .suspended) :
    sesRebindBody d ch bs = .wait (d.rebinds ch (byteAt bs 0) bs) := by
  have hbound : (d.ses (byteAt bs 0)).state ≠ .bound := by obtain h | h := h <;> simp [h]
  rw [sesRebindBody, hgroup, Bool.not_true, if_neg Bool.false_ne_true,
    sesBody_acts (by obtain h | h := h <;> simp [h]) hchecks hcmd hwait hresume]
  exact if_neg hbound

end

/-! ## SES_RESEAL (R303) -/

/-- An item of the queue, to be tried again if it is a session's. -/
def SealItem.retried (n : Nat) (y : SealItem) : SealItem := if y.session == n then { y with retry := true } else y

/-- The block in which a session's withheld seal is to be tried again. -/
def Dev.reseals (d : Dev) (ch n : Nat) : Dev :=
  ({ d with cask := { d.cask with seals := d.cask.seals.map (SealItem.retried n) } } : Dev).modSes n
    (fun x => { x with wait := .seal, cmd := some (ch, 0x0A0F) })

/-- SES_RESEAL's work. -/
def sesResealBody (d : Dev) (ch n : Nat) : Ans :=
  if !d.sealWithheld n then ansErr d stWrongMode
  else
    match (d.ses n).cmd with
    | some c => ansErrD d stBusy c.2
    | none => .wait (d.reseals ch n)

theorem exec_sesReseal (rq : Req) (s : State) : exec (.sesReseal rq) s =
    onDev (Dev.serve 0x0A0F rq (rspMax 0) (fun d ch bs => withSession d bs (sesResealBody d ch))) s := rfl

theorem sesResealBody_refused {d : Dev} {n : Nat} (ch : Nat) (h : d.sealWithheld n = false) :
    sesResealBody d ch n = ansErr d stWrongMode := by simp [sesResealBody, h]

theorem sesResealBody_retried {d : Dev} {n : Nat} (ch : Nat) (h : d.sealWithheld n = true) (hcmd : (d.ses n).cmd = none) :
    sesResealBody d ch n = .wait (d.reseals ch n) := by simp [sesResealBody, h, hcmd]

theorem Dev.reseals_retry (d : Dev) (ch n : Nat) : ∀ y ∈ (d.reseals ch n).cask.seals, y.session = n → y.retry = true := by
  intro y hy hn
  obtain ⟨x, _, rfl⟩ := List.mem_map.mp hy
  by_cases hx : x.session = n
  · simp [SealItem.retried, hx]
  · simp [SealItem.retried, hx] at hn

end Sys2Proof.Machine
end

section
/-! SUPPORT. What the reads of sessions and records answer, and what an acknowledgement changes (R304, R306). -/

namespace Sys2Proof.Machine

open Sys2Proof

/-! ## SES_STATUS -/

/-- SES_STATUS's work. -/
def sesStatusBody (d : Dev) (n : Nat) : Ans := ansOk d (d.sesStatusBytes n)

theorem exec_sesStatus (rq : Req) (s : State) : exec (.sesStatus rq) s =
    onDev (Dev.serve 0x0A09 rq (rspMax 48) (fun d _ bs => withSession d bs (sesStatusBody d))) s := rfl

theorem Dev.sesStatusBytes_length (d : Dev) (n : Nat) : (d.sesStatusBytes n).length = 48 := by
  unfold Dev.sesStatusBytes
  extract_lets x a l
  simp

theorem Dev.sesStatusBytes_state (d : Dev) (n : Nat) : byteAt (d.sesStatusBytes n) 0 = sesCode (d.ses n).state := by
  unfold Dev.sesStatusBytes
  extract_lets x a l
  have hcode : sesCode x.state % 256 = sesCode x.state := by cases x.state <;> rfl
  simp [byteAt_append, hcode, x]

/-! ## SES_RECORD_READ -/

/-- The head of a read: COUNT, the oldest unacknowledged, the next. -/
theorem exportHeader_fields (count oldest next : Nat) (b : Bytes) :
    le (exportHeader count oldest next ++ b) 0 2 = count % 65536 ∧ le (exportHeader count oldest next ++ b) 4 4 = oldest % 2 ^ 32 ∧
    le (exportHeader count oldest next ++ b) 8 4 = next % 2 ^ 32 := by
  simp only [exportHeader, List.append_assoc]
  refine ⟨le_leb_append 2 _ _, ?_, ?_⟩
  · rw [le_append_right _ _ (by simp), le_append_right _ _ (by simp)]
    simpa using le_leb_append 4 oldest _
  · rw [le_append_right _ _ (by simp), le_append_right _ _ (by simp), le_append_right _ _ (by simp)]
    simpa using le_leb_append 4 next _

/-- SES_RECORD_READ's work. -/
def sesRecordReadBody (d : Dev) (q n : Nat) : Ans :=
  if q + 4096 < d.cask.nextSeq then ansErrD d stNotFound d.oldestRecord
  else ansOk d (exportHeader (d.recordsFrom q n).length d.cask.unacked d.cask.nextSeq ++ (d.recordsFrom q n).flatten)

theorem exec_sesRecordRead (rq : Req) (s : State) : exec (.sesRecordRead rq) s =
    onDev (Dev.serve 0x0A0A rq (fun _ bs => 16 + 256 * byteAt bs 4) (fun d _ bs =>
      withLayout d 8 [fa 0 4, fr 4 1 1 (if reqBulkRsp rq then 255 else 15)] bs (sesRecordReadBody d (le bs 0 4) (byteAt bs 4)))) s := rfl

theorem Dev.recordsFrom_length_le (d : Dev) (q n : Nat) : (d.recordsFrom q n).length ≤ n := List.length_take_le ..

/-! ## SES_ACK -/

/-- The records acknowledged up to `q`, none taken back. -/
def Dev.acked (d : Dev) (q : Nat) : Dev := if q < d.cask.unacked then d else d.ackRecords q

/-- The log entries acknowledged up to `q`, none taken back. -/
def Dev.logAcked (d : Dev) (q : Nat) : Dev := if q < d.cask.logUnacked then d else { d with cask := { d.cask with logUnacked := q + 1 } }

/-- SES_ACK's work. -/
def sesAckBody (d : Dev) (ring q : Nat) : Ans :=
  if ring == 0 then
    (if ackLimit d.cask.released d.uptime d.cask.nextSeq ≤ q then ansErr d stBadParam else ansOk (d.acked q) (leb 4 (d.acked q).span))
  else if ackLimit d.cask.logged d.uptime d.cask.logNext ≤ q then ansErr d stBadParam
  else ansOk (d.logAcked q) (leb 4 (d.logAcked q).logSpan)

theorem exec_sesAck (rq : Req) (s : State) : exec (.sesAck rq) s =
    onDev (Dev.serve 0x0A0B rq (rspMax 4) (fun d _ bs => withLayout d 8 [fr 0 1 0 1, fa 4 4] bs
      (sesAckBody d (byteAt bs 0) (le bs 4 4)))) s := rfl

/-- SES_ACK of released records. -/
theorem sesAckBody_records {d : Dev} {q : Nat} (h : q < ackLimit d.cask.released d.uptime d.cask.nextSeq) :
    sesAckBody d 0 q = ansOk (d.acked q) (leb 4 (d.acked q).span) := if_neg (Nat.not_le.mpr h)

/-- SES_ACK of log entries. -/
theorem sesAckBody_log {d : Dev} {q : Nat} (h : q < ackLimit d.cask.logged d.uptime d.cask.logNext) :
    sesAckBody d 1 q = ansOk (d.logAcked q) (leb 4 (d.logAcked q).logSpan) := if_neg (Nat.not_le.mpr h)

theorem Dev.ringLevel_unacked (d : Dev) : d.ringLevel.cask.unacked = d.cask.unacked := by
  obtain ⟨_, hlevel⟩ := d.ringLevel_cask
  rw [hlevel]

theorem Dev.ackRecords_unacked (d : Dev) (q : Nat) : (d.ackRecords q).cask.unacked = q + 1 := by
  unfold Dev.ackRecords
  extract_lets lo n _ d1 done
  have h1 : d1.cask.unacked = q + 1 := Dev.ringLevel_unacked _
  exact (Dev.KeepsChain.foldl (fun e _ => e.keepsChain_sesFree _) done d1).unacked.trans h1

theorem Dev.acked_unacked (d : Dev) (q : Nat) : (d.acked q).cask.unacked = max d.cask.unacked (q + 1) := by
  unfold Dev.acked
  split
  · omega
  · rw [Dev.ackRecords_unacked]
    omega

theorem Dev.logAcked_unacked (d : Dev) (q : Nat) :
    (d.logAcked q).cask.logUnacked = max d.cask.logUnacked (q + 1) ∧ (d.logAcked q).cask.unacked = d.cask.unacked := by
  unfold Dev.logAcked
  split
  · exact ⟨by omega, rfl⟩
  · exact ⟨by dsimp only; omega, rfl⟩

end Sys2Proof.Machine
end

section
/-! SUPPORT. The signed answers of Cask, and the update of the legal parameters (R302, R308, R309). -/

namespace Sys2Proof.Machine

open Sys2Proof

/-! ## An operation submitted to the ECC engine (R329) -/

theorem Dev.eccSubmit_queued {d : Dev} (op : EccOp) (h : d.keep.eccQueue ≠ []) :
    d.eccSubmit op = .wait (d.putEcc (d.keep.eccQueue ++ [op])) := by
  simp [Dev.eccSubmit, h]

theorem Dev.eccSubmit_begun {d : Dev} {op : EccOp} (h : d.keep.eccQueue = []) (hst : d.eccStatus op = stOk) :
    d.eccSubmit op = .wait ((d.eccBegin op).2.putEcc [(d.eccBegin op).1]) := by
  simp [Dev.eccSubmit, h, hst]

theorem Dev.eccBegin_answers (d : Dev) (op : EccOp) : (d.eccBegin op).1.ch = op.ch ∧ (d.eccBegin op).1.head = op.head := by
  unfold Dev.eccBegin
  split
  · exact ⟨rfl, rfl⟩
  · dsimp only
    split <;> exact ⟨rfl, rfl⟩

/-- A signature of Cask's over a digest, under the key of R302. -/
def Dev.caskSign (d : Dev) (ch : Nat) (digest : Bytes) : EccOp :=
  { eccSign ch (byteAt d.cask.params 4) digest with cask := true, root := some (lifecycleRoot d.keep.lifecycle) }

/-- Whether a key may sign does not depend on what it signs. -/
theorem Dev.eccStatus_caskSign (d : Dev) (n ch ch' : Nat) (digest digest' head : Bytes) :
    (d.hashed n).eccStatus { d.caskSign ch digest with head := head } = d.eccStatus (d.caskSign ch' digest') := rfl

/-- A signed answer waits for its signature: behind the operations under way, or begun at once where the key may sign. -/
theorem Dev.legalSign_waits {d : Dev} (ch : Nat) (head signed : Bytes)
    (h : d.keep.eccQueue ≠ [] ∨ ∃ g, d.eccStatus (d.caskSign 0 g) = stOk) :
    ∃ d' op, d.legalSign ch head signed = .wait d' ∧ d'.keep.eccQueue = d.keep.eccQueue ++ [op] ∧ op.ch = ch ∧ op.head = head := by
  by_cases hfree : d.keep.eccQueue = []
  · obtain ⟨g, hg⟩ := h.resolve_left (not_not_intro hfree)
    rw [← d.eccStatus_caskSign signed.length ch 0 (slice (Config.sha256 signed) 0 32) g head] at hg
    obtain ⟨hch, hhead⟩ := (d.hashed signed.length).eccBegin_answers
      { d.caskSign ch (slice (Config.sha256 signed) 0 32) with head := head }
    exact ⟨_, _, Dev.eccSubmit_begun hfree hg, by rw [hfree]; rfl, hch, hhead⟩
  · exact ⟨_, _, Dev.eccSubmit_queued _ hfree, rfl, rfl, rfl⟩

/-! ## SES_LEGAL_ID and SES_LEGAL_LOG_READ -/

theorem exec_sesLegalId (rq : Req) (s : State) : exec (.sesLegalId rq) s =
    onDev (Dev.serve 0x0A0C rq (rspMax 192) (fun d ch bs => withLayout d 16 [fa 0 16] bs
      (d.legalSign ch (d.legalId bs) (d.legalId bs)))) s := rfl

/-- The head of SES_LEGAL_LOG_READ's answer, before the signature. -/
def Dev.logReport (d : Dev) (q n : Nat) : Bytes :=
  exportHeader (d.logFrom q n).length d.cask.logUnacked d.cask.logNext ++ (d.logFrom q n).flatten

/-- SES_LEGAL_LOG_READ's work. -/
def sesLegalLogReadBody (d : Dev) (ch q n : Nat) : Ans :=
  if q + 2048 < d.cask.logNext then ansErrD d stNotFound (d.cask.logNext - 2048)
  else
    match (d.logFrom q n).getLast? with
    | some e => d.legalSign ch (d.logReport q n) e
    | none => ansOk { d with freeIx := d.freeIx + 1 } (d.logReport q n ++ slice (Config.fill d.freeIx) 0 64)

theorem exec_sesLegalLogRead (rq : Req) (s : State) : exec (.sesLegalLogRead rq) s =
    onDev (Dev.serve 0x0A0D rq (fun _ bs => 80 + 64 * byteAt bs 4) (fun d ch bs => withLayout d 8 [fa 0 4, fr 4 1 1 60] bs
      (sesLegalLogReadBody d ch (le bs 0 4) (byteAt bs 4)))) s := rfl

/-- A read of entries that are there signs the last of them. -/
theorem sesLegalLogReadBody_signed {d : Dev} {q n : Nat} (ch : Nat) (hold : d.cask.logNext ≤ q + 2048) (hnew : q < d.cask.logNext)
    (hn : 1 ≤ n) : ∃ e, sesLegalLogReadBody d ch q n = d.legalSign ch (d.logReport q n) e := by
  have hlen : 0 < (d.logFrom q n).length := by
    simp only [Dev.logFrom, List.length_map, List.length_take, List.length_range]
    omega
  have hlast := List.getLast?_eq_some_getLast (List.ne_nil_of_length_pos hlen)
  exact ⟨_, by rw [sesLegalLogReadBody, if_neg (Nat.not_lt.mpr hold), hlast]⟩

/-! ## SES_LEGAL_PARAM_UPDATE (R308) -/

theorem exec_sesLegalParamUpdate (rq : Req) (s : State) : exec (.sesLegalParamUpdate rq) s =
    onDev (Dev.serve 0x0A0E rq (rspMax 8) legalBody) s := rfl

/-- An update that passes every check is applied. -/
theorem legalBody_applied {d : Dev} {m : Bytes} (ch : Nat) (hopen : d.keep.locked = false) (hmsg : d.msgStatus [6] m = stOk)
    (hlegal : legalStatus (d.msgWork m) m = stOk) (hfree : (d.msgWork m).cask.paramCh = none)
    (hcommit : (d.msgWork m).txn.committing = none)
    (hjudged : ((d.msgWork m).evaluateTxn (batchOf ((legalCommands m).getD []))).refused = none) :
    legalBody d ch m = applyLegal ((d.msgWork m).evaluateTxn (batchOf ((legalCommands m).getD []))).dev ch m
      ((legalCommands m).getD []) := by
  simp [legalBody, hopen, hmsg, hlegal, hfree, hcommit, hjudged]

theorem Dev.spares_msgApplied (d : Dev) (m : Bytes) (slot : Nat) : d.SparesCask (d.msgApplied m slot) := by
  refine .trans ?_ (Dev.spares_post _ _ _ _)
  exact ⟨rfl, rfl, rfl⟩

theorem Dev.keepsChain_dropChanged (d : Dev) (old : Bytes) : d.KeepsChain (d.dropChanged old) :=
  .foldl (fun e _ => e.keepsChain_sesFree _) _ d

/-- The block of an update is in force, and its channel waits for the marker. -/
theorem applyLegal_waits (d : Dev) (ch : Nat) (m : Bytes) (l : List Staged) :
    ∃ d', applyLegal d ch m l = .wait d' ∧ d'.cask.params = slice (msgBody m) 0 1040 ∧ d'.cask.paramCh = some ch := by
  unfold applyLegal
  extract_lets old new d1 _ d2 d3
  have h3 : d2.KeepsChain d3 :=
    ((d2.spares_msgApplied m 0xFF).trans (Dev.spares_count _ _ _)).keepsChain.trans (Dev.keepsChain_legalLog _ _ _ _)
  have hdropped := d3.retrySeals.keepsChain_dropChanged old
  exact ⟨_, rfl, hdropped.params.trans h3.params, hdropped.paramCh.trans h3.paramCh⟩

end Sys2Proof.Machine
end

section
/-! The statement about the session commands. -/

namespace Sys2Proof.Machine

open Sys2Proof

/-- Settles O50, command by command. -/
theorem sessionCommandsFollowTheTransitions : Obligations.SessionCommandsFollowTheTransitions := by
  refine ⟨?_, ?_, ?_, ?_, ?_, ?_, ?_, ?_, ?_, ?_, ?_, ?_, ?_, ?_, ?_, ?_, ?_, ?_, ?_, ?_, ?_, ?_, ?_, ?_⟩
  · refine completes_of_body exec_sesOpen ?_
    rintro d rq bs ⟨hlen, hok, hgroup, hwild, hlow, hhigh, hchain, hring, hlog, ⟨n, hn, hidle, halone⟩, hzone, hmeter, hfold⟩
    obtain ⟨hses, hserial⟩ := d.opened_result n bs
    refine ⟨_, _, (withLayout_ok _ hlen hok).trans
      (sesOpenBody_opened hgroup hwild hlow hhigh hchain hring hlog hn hidle halone hzone hmeter hfold), n, hn, ?_⟩
    rw [hses, hserial]
    exact ⟨rfl, rfl, rfl, rfl, rfl, rfl⟩
  · exact refuses_of_session (fun d n => (d.ses n).state ≠ .bound) exec_sesStart (fun _ _ _ h => sesBody_wrongMode (by simp [h]))
  · exact refuses_of_session (fun d n => (d.ses n).state ≠ .active) exec_sesSuspend (fun _ _ _ h => sesBody_wrongMode (by simp [h]))
  · exact refuses_of_session (fun d n => (d.ses n).state ≠ .suspended) exec_sesResume (fun _ _ _ h => sesBody_wrongMode (by simp [h]))
  · exact refuses_of_session (fun d n => (d.ses n).state ≠ .active ∧ (d.ses n).state ≠ .suspended) exec_sesStop
      (fun _ _ _ h => sesBody_wrongMode (by simp [h]))
  · exact refuses_of_session (fun d n => (d.ses n).state ≠ .active ∧ (d.ses n).state ≠ .suspended) exec_sesInterim
      (fun _ _ _ h => sesBody_wrongMode (by simp [h]))
  · exact refuses_of_session (fun d n => (d.ses n).state ≠ .bound) exec_sesAbort (fun _ _ _ h => sesBody_wrongMode (by simp [h]))
  · refine waits_of_body exec_sesStart ?_
    rintro d rq bs ⟨hlen, hok, hstate, hcmd, hwait, hresume, hchain⟩
    refine ⟨_, (withSession_ok _ hlen hok).trans (sesBody_acts (by simp [hstate]) (by simp [hchain]) hcmd hwait hresume), ?_⟩
    rw [Dev.sesCmd_waitRead_ses]
    exact ⟨rfl, rfl, hstate, rfl⟩
  · refine completes_of_body exec_sesSuspend ?_
    rintro d rq bs ⟨hlen, hok, hstate, hcmd, hwait, hresume⟩
    refine ⟨_, [], (withSession_ok _ hlen hok).trans (sesBody_acts (by simp [hstate]) rfl hcmd hwait hresume), rfl, ?_⟩
    rw [Dev.sesTo_ses, Dev.modSes_ses]
    exact ⟨rfl, rfl, rfl⟩
  · refine completes_of_body exec_sesResume ?_
    rintro d rq bs ⟨hlen, hok, hstate, hcmd, hwait, hresume⟩
    refine ⟨_, [], (withSession_ok _ hlen hok).trans (sesBody_acts (by simp [hstate]) rfl hcmd hwait hresume), rfl, ?_⟩
    rw [Dev.sesTo_ses, Dev.modSes_ses]
    exact ⟨rfl, rfl⟩
  · refine waits_of_body exec_sesStop ?_
    rintro d rq bs ⟨hlen, hok, hstate, hcmd, hwait, hresume⟩
    refine ⟨_, (withSession_ok _ hlen hok).trans (sesBody_acts (by simp [hstate]) rfl hcmd hwait hresume), ?_⟩
    rw [Dev.waitRead_ses, Dev.stopped_ses]
    exact ⟨rfl, rfl, rfl, rfl⟩
  · refine waits_of_body exec_sesInterim ?_
    rintro d rq bs ⟨hlen, hok, hstate, hcmd, hwait, hresume⟩
    refine ⟨_, (withSession_ok _ hlen hok).trans (sesBody_acts (by simp [hstate]) rfl hcmd hwait hresume), ?_⟩
    rw [Dev.sesCmd_waitRead_ses]
    exact ⟨rfl, rfl, rfl⟩
  · refine completes_of_body exec_sesRebind ?_
    rintro d rq bs ⟨hlen, hok, hgroup, hstate, hchecks, hcmd, hwait, hresume⟩
    refine ⟨_, _, (withLayout_ok _ hlen hok).trans (sesRebindBody_bound hgroup hchecks hcmd hwait hresume hstate), by simp, ?_⟩
    rw [Dev.rebound_ses]
    exact ⟨rfl, rfl, rfl⟩
  · refine waits_of_body exec_sesRebind ?_
    rintro d rq bs ⟨hlen, hok, hgroup, hstate, hchecks, hcmd, hwait, hresume⟩
    refine ⟨_, (withLayout_ok _ hlen hok).trans (sesRebindBody_running hgroup hchecks hcmd hwait hresume hstate), ?_⟩
    rw [Dev.rebinds_ses]
    exact ⟨rfl, rfl, rfl, rfl⟩
  · refine completes_of_body exec_sesAbort ?_
    rintro d rq bs ⟨hlen, hok, hstate, hcmd, hwait, hresume⟩
    exact ⟨_, [], (withSession_ok _ hlen hok).trans (sesBody_acts (by simp [hstate]) rfl hcmd hwait hresume), rfl,
      d.sesFree_ses _⟩
  · refine completes_of_body exec_sesStatus ?_
    rintro d rq bs ⟨hlen, hok⟩
    exact ⟨d, _, withSession_ok _ hlen hok, rfl, d.sesStatusBytes_length _, d.sesStatusBytes_state _⟩
  · rintro s rq t d r hadm ⟨hlen, hok, hkept⟩
    have hcount := d.recordsFrom_length_le (le r.data 0 4) (byteAt r.data 4)
    have hbyte : byteAt r.data 4 < 256 := (r.data.getD 4 0).isLt
    obtain ⟨hn, holdest, hnext⟩ := exportHeader_fields (d.recordsFrom (le r.data 0 4) (byteAt r.data 4)).length d.cask.unacked
      d.cask.nextSeq (d.recordsFrom (le r.data 0 4) (byteAt r.data 4)).flatten
    refine ⟨d, _, ?_, rfl, hn.trans (Nat.mod_eq_of_lt (by omega)), holdest, hnext⟩
    rw [Runs, exec_sesRecordRead, onDev, Dev.serve_done hadm ((withLayout_ok _ hlen hok).trans (if_neg (Nat.not_lt.mpr hkept)))]
  · rintro s rq t d r hadm ⟨hlen, hok, hgone⟩
    rw [Runs, exec_sesRecordRead, onDev, Dev.serve_refused hadm ((withLayout_ok _ hlen hok).trans (if_pos hgone)) (by decide)]
  · refine completes_of_body exec_sesAck ?_
    rintro d rq bs ⟨hlen, hok, hrecords, hlog⟩
    have hring : byteAt bs 0 ≤ 1 := by simpa [le, fr] using (layoutOk_field (f := fr 0 1 0 1) hok (by simp)).2
    obtain hring | hring : byteAt bs 0 = 0 ∨ byteAt bs 0 = 1 := by omega
    · refine ⟨_, _, (withLayout_ok _ hlen hok).trans ((congrArg (sesAckBody d · _) hring).trans (sesAckBody_records (hrecords hring))),
        by simp, fun _ => d.acked_unacked _, fun hother => ?_⟩
      rw [hring] at hother
      cases hother
    · refine ⟨_, _, (withLayout_ok _ hlen hok).trans ((congrArg (sesAckBody d · _) hring).trans (sesAckBody_log (hlog hring))),
        by simp, fun hother => ?_, fun _ => d.logAcked_unacked _⟩
      rw [hring] at hother
      cases hother
  · refine waits_of_body exec_sesLegalId ?_
    rintro d rq bs ⟨hlen, hok, hkey⟩
    obtain ⟨d', op, hwaits, hqueue, hch, hhead⟩ := Dev.legalSign_waits rq.ch (d.legalId bs) (d.legalId bs) hkey
    exact ⟨d', (withLayout_ok _ hlen hok).trans hwaits, op, hqueue, hch, hhead⟩
  · refine waits_of_body exec_sesLegalLogRead ?_
    rintro d rq bs ⟨hlen, hok, hold, hnew, hkey⟩
    have hn : 1 ≤ byteAt bs 4 := by simpa [le, fr] using (layoutOk_field (f := fr 4 1 1 60) hok (by simp)).1
    obtain ⟨e, hsigned⟩ := sesLegalLogReadBody_signed rq.ch hold hnew hn
    obtain ⟨d', op, hwaits, hqueue, hch, _⟩ := Dev.legalSign_waits rq.ch (d.logReport (le bs 0 4) (byteAt bs 4)) e hkey
    exact ⟨d', (withLayout_ok _ hlen hok).trans (hsigned.trans hwaits), op, hqueue, hch⟩
  · refine waits_of_body exec_sesReseal ?_
    rintro d rq bs ⟨hlen, hok, hwithheld, hcmd⟩
    refine ⟨_, (withSession_ok _ hlen hok).trans (sesResealBody_retried _ hwithheld hcmd), ?_, d.reseals_retry _ _⟩
    rw [Dev.reseals, Dev.modSes_ses]
  · exact refuses_of_session (fun d n => d.sealWithheld n = false) exec_sesReseal (fun _ ch _ h => sesResealBody_refused ch h)
  · refine waits_of_body exec_sesLegalParamUpdate ?_
    rintro d rq m ⟨hopen, hmsg, hlegal, hfree, hcommit, hjudged⟩
    obtain ⟨d', hwaits, hparams, hch⟩ := applyLegal_waits ((d.msgWork m).evaluateTxn (batchOf ((legalCommands m).getD []))).dev rq.ch m
      ((legalCommands m).getD [])
    exact ⟨d', (legalBody_applied rq.ch hopen hmsg hlegal hfree hcommit hjudged).trans hwaits, hparams, hch⟩

end Sys2Proof.Machine
end

section
/-! SUPPORT. What leaves Keep and the tamper unit as they are: events, counts, answers to requests, faults of class F1 and the legal
event log. -/

namespace Sys2Proof.Machine

open Sys2Proof

/-- Keep and the tamper unit are as before. -/
structure Dev.SparesKeep (d d' : Dev) : Prop where
  keep : d'.keep = d.keep
  tamper : d'.lantern.tamper = d.lantern.tamper

theorem Dev.SparesKeep.refl (d : Dev) : d.SparesKeep d := ⟨rfl, rfl⟩

theorem Dev.SparesKeep.trans {a b c : Dev} (h1 : a.SparesKeep b) (h2 : b.SparesKeep c) : a.SparesKeep c :=
  ⟨h2.keep.trans h1.keep, h2.tamper.trans h1.tamper⟩

theorem Dev.Posts.sparesKeep {d d' : Dev} (h : d.Posts d') : d.SparesKeep d' := by
  obtain ⟨_, _, _, rfl⟩ := h
  exact ⟨rfl, rfl⟩

theorem Dev.sparesKeep_count (d : Dev) (cls i : Nat) : d.SparesKeep (d.count cls i) := ⟨rfl, rfl⟩

theorem Dev.sparesKeep_post (d : Dev) (code object data : Nat) : d.SparesKeep (d.post code object data) :=
  (d.posts_post code object data).sparesKeep

theorem Dev.sparesKeep_faultF1 (d : Dev) (code object data : Nat) : d.SparesKeep (d.faultF1 code object data) := by
  refine .trans ?_ (Dev.posts_logFault (d.count 13 1) _ _ _ _ _ _).sparesKeep
  exact ⟨rfl, rfl⟩

/-! ## Answers to requests -/

theorem Dev.sparesKeep_hopperWrite {d d' : Dev} {h : Nat} {bs : Bytes} (hw : d.hopperWrite h bs = some d') : d.SparesKeep d' := by
  unfold Dev.hopperWrite at hw
  split at hw
  · obtain rfl := Option.some.inj hw
    exact ⟨rfl, rfl⟩
  · cases hw

theorem Dev.sparesKeep_bulkWriteAll (d : Dev) (l : List BulkDesc) (bs : Bytes) : d.SparesKeep (bulkWriteAll d l bs) := by
  induction l generalizing d bs with
  | nil => exact .refl d
  | cons b l ih =>
    rw [bulkWriteAll]
    refine .trans ?_ (ih _ _)
    split
    · exact .refl d
    · split
      · cases hw : d.hopperWrite b.addr (bs.take b.bytes) with
        | none => exact .refl d
        | some d' => exact Dev.sparesKeep_hopperWrite hw
      · exact ⟨rfl, rfl⟩

theorem Dev.sparesKeep_answerData (d : Dev) (t : Taken) (st det : Nat) (pl : Bytes) (r : ReqData) :
    d.SparesKeep (d.answerData t st det pl r) := by
  unfold Dev.answerData
  split
  · split
    · exact ⟨rfl, rfl⟩
    · exact (d.sparesKeep_bulkWriteAll _ _).trans ⟨rfl, rfl⟩
  · exact ⟨rfl, rfl⟩

theorem Dev.sparesKeep_drain (ch n : Nat) (d : Dev) : d.SparesKeep (Dev.drain ch n d) := by
  induction n generalizing d with
  | zero => exact .refl d
  | succ n ih =>
    unfold Dev.drain
    dsimp only
    split
    · split
      · refine .trans ?_ (ih _)
        exact ⟨rfl, rfl⟩
      · exact .refl d
    · exact .refl d

theorem Dev.sparesKeep_finish (d : Dev) (t : Taken) (r : ReqData) (ch det : Nat) (pl : Bytes) :
    d.SparesKeep (d.finish t r ch det pl) :=
  (d.sparesKeep_answerData t stOk det pl r).trans (Dev.sparesKeep_drain _ _ _)

/-- The end of the command in progress on a channel. -/
theorem Dev.sparesKeep_complete (d : Dev) (ch st det : Nat) (pl : Bytes) : d.SparesKeep (d.complete ch st det pl) := by
  unfold Dev.complete
  extract_lets c
  split
  · exact .refl d
  · dsimp only
    have hended : ∀ f, d.SparesKeep (d.modChan ch f) := fun _ => ⟨rfl, rfl⟩
    split
    · exact (hended _).trans (Dev.sparesKeep_drain _ _ _)
    · exact (hended _).trans ((Dev.sparesKeep_answerData _ _ _ _ _ _).trans (Dev.sparesKeep_drain _ _ _))

/-! ## Refused uses and the legal event log -/

theorem Dev.sparesKeep_keyRefused (d : Dev) (st : Nat) : d.SparesKeep (d.keyRefused st) := by
  unfold Dev.keyRefused
  split
  · exact ⟨rfl, rfl⟩
  · split
    · exact ⟨rfl, rfl⟩
    · split <;> exact ⟨rfl, rfl⟩

theorem Dev.sparesKeep_withheldCount (d : Dev) (st : Nat) : d.SparesKeep (d.withheldCount st) := by
  unfold Dev.withheldCount
  split
  · exact ⟨rfl, rfl⟩
  · split <;> exact ⟨rfl, rfl⟩

theorem Dev.sparesKeep_logWrite (d : Dev) (type session data : Nat) : d.SparesKeep (d.logWrite type session data) := by
  unfold Dev.logWrite
  dsimp only
  split
  · exact ⟨rfl, rfl⟩
  · refine .trans ?_ (Dev.sparesKeep_post _ _ _ _)
    exact ⟨rfl, rfl⟩

theorem Dev.sparesKeep_legalLog (d : Dev) (type session data : Nat) : d.SparesKeep (d.legalLog type session data) := by
  unfold Dev.legalLog
  dsimp only
  split
  · exact d.sparesKeep_logWrite _ _ _
  · refine .trans (.trans ?_ (Dev.sparesKeep_logWrite _ _ _ _)) (Dev.sparesKeep_logWrite _ _ _ _)
    exact ⟨rfl, rfl⟩

/-! ## Reads of Keep -/

theorem Dev.keySlot_congr {d d' : Dev} (h : d'.keep.slots = d.keep.slots) (i : Nat) : d'.keySlot i = d.keySlot i := by
  rw [Dev.keySlot, h, Dev.keySlot]

theorem Dev.SparesKeep.keySlot {d d' : Dev} (h : d.SparesKeep d') (i : Nat) : d'.keySlot i = d.keySlot i :=
  Dev.keySlot_congr (by rw [h.keep]) i

@[simp] theorem Dev.modPage_page (d : Dev) (p : Nat) (f : Page → Page) : (d.modPage p f).page p = f (d.page p) := tabGet_put_same ..

/-- A charge changes the usage of the one slot, and of the rest of Keep its blob record alone (R325). -/
theorem Dev.charge_keep (d : Dev) (i n : Nat) : ∃ stored low blobs, (d.charge i n).keep = { d.keep with
      slots := tabPut d.keep.slots i { d.keySlot i with useCount := (d.keySlot i).useCount + n, stored := stored, lowPosted := low }
      blobs := blobs } ∧
    (d.charge i n).lantern.tamper = d.lantern.tamper := by
  unfold Dev.charge
  extract_lets k c left low k1 d0 d1 d2
  have h1 : ∃ b, d1.keep = { d.keep with slots := tabPut d.keep.slots i k1, blobs := b } ∧
      d1.lantern.tamper = d.lantern.tamper := by
    simp only [d1]
    split <;> exact ⟨_, rfl, rfl⟩
  have h12 : d1.SparesKeep d2 := by
    simp only [d2]
    split <;> exact ⟨rfl, rfl⟩
  obtain ⟨b, hkeep, htamper⟩ := h1
  have h2 : d1.SparesKeep (if low then d2.post 0x0B03 i left else d2) := by
    split
    · exact h12.trans (Dev.sparesKeep_post _ _ _ _)
    · exact h12
  exact ⟨_, _, b, h2.keep.trans hkeep, h2.tamper.trans htamper⟩

theorem Dev.charge_useCount (d : Dev) (i n : Nat) : ((d.charge i n).keySlot i).useCount = (d.keySlot i).useCount + n := by
  obtain ⟨_, _, _, hkeep, _⟩ := d.charge_keep i n
  rw [Dev.keySlot, hkeep, tabGet_put_same]

end Sys2Proof.Machine
end

section
/-! SUPPORT. A slot after its write, in a table in the canonical form (R315, R321): the cascade that follows the write spares the slot
itself. -/

namespace Sys2Proof.Machine

open Sys2Proof

/-! ## The cascade -/

theorem mem_childrenOf {slots : Tab KeySlot} {set : List Nat} {i : Nat} :
    i ∈ childrenOf slots set ↔ ∃ k, (i, k) ∈ slots ∧ k.state = 1 ∧ k.origin = 3 ∧ k.parent ∈ set := by
  simp [childrenOf, and_assoc]

theorem mem_descendants_succ {slots : Tab KeySlot} {n : Nat} {set : List Nat} {i : Nat} :
    i ∈ descendants slots (n + 1) set ↔ i ∈ childrenOf slots set ∨ i ∈ descendants slots n (childrenOf slots set) := by
  rw [descendants]
  split
  · next hnone =>
    rw [List.isEmpty_iff.mp hnone]
    cases n <;> simp [descendants, childrenOf]
  · exact List.mem_append

/-- In a table in the canonical form an entry is what is read at its index. -/
theorem tabFind_of_mem {α : Type} {t : Tab α} (hsorted : tabSorted t = true) {i : Nat} {v : α} (h : (i, v) ∈ t) :
    tabFind t i = some v := by
  rw [tabSorted_iff] at hsorted
  induction t with
  | nil => cases h
  | cons e t ih =>
    rw [List.pairwise_cons] at hsorted
    obtain rfl | h := List.mem_cons.mp h
    · exact if_pos rfl
    · exact (if_neg (Nat.ne_of_lt (hsorted.1 _ h))).trans (ih hsorted.2 h)

/-- A slot written as no child of the slots beneath `set` is not found beneath them. -/
theorem not_mem_descendants_put {slots : Tab KeySlot} (hsorted : tabSorted slots = true) {i : Nat} {k : KeySlot} (n : Nat)
    {set set' : List Nat} (hset : set' ⊆ set)
    (hchild : k.state = 1 → k.origin = 3 → k.parent ∉ set ∧ k.parent ∉ descendants slots n set) :
    i ∉ descendants (tabPut slots i k) n set' := by
  induction n generalizing set set' with
  | zero => exact List.not_mem_nil
  | succ n ih =>
    have hfound : ∀ v, (i, v) ∈ tabPut slots i k → v = k := fun v hv =>
      Option.some.inj ((tabFind_of_mem (tabSorted_put slots i k hsorted) hv).symm.trans (tabFind_put_same slots i k))
    have hself : i ∉ childrenOf (tabPut slots i k) set' := by
      rw [mem_childrenOf]
      rintro ⟨v, hv, hstate, horigin, hparent⟩
      obtain rfl := hfound v hv
      exact (hchild hstate horigin).1 (hset hparent)
    have hothers : childrenOf (tabPut slots i k) set' ⊆ childrenOf slots set := by
      intro x hx
      obtain ⟨v, hv, hstate, horigin, hparent⟩ := mem_childrenOf.mp hx
      obtain hnew | hold := mem_tabPut hv
      · obtain ⟨rfl, rfl⟩ := Prod.mk.inj hnew
        exact absurd hx hself
      · exact mem_childrenOf.mpr ⟨v, hold, hstate, horigin, hset hparent⟩
    rw [mem_descendants_succ]
    refine not_or_intro hself (ih hothers fun hstate horigin => ?_)
    have hbeneath := (hchild hstate horigin).2
    rw [mem_descendants_succ, not_or] at hbeneath
    exact hbeneath

/-! ## The slot itself -/

theorem Dev.putKeySlot_slots (d : Dev) (i : Nat) (k : KeySlot) : (d.putKeySlot i k).keep.slots = tabPut d.keep.slots i k := by
  unfold Dev.putKeySlot
  split <;> rfl

theorem Dev.slotsChanged_keySlot (d : Dev) (is : List Nat) (i : Nat) : (d.slotsChanged is).keySlot i = d.keySlot i := by
  unfold Dev.slotsChanged
  split <;> rfl

theorem Dev.revokeSlot_keySlot_other (d : Dev) {i j : Nat} (h : i ≠ j) : (d.revokeSlot j).keySlot i = d.keySlot i := by
  rw [Dev.keySlot, Dev.revokeSlot, Dev.putKeySlot_slots]
  exact tabGet_put_other _ _ _ _ _ h

/-- A revocation spares every slot that is no descendant. -/
theorem Dev.revokeUnder_keySlot (d : Dev) (roots : List Nat) (cause : Nat) {i : Nat} (h : i ∉ descendants d.keep.slots 8 roots) :
    (d.revokeUnder roots cause).keySlot i = d.keySlot i := by
  unfold Dev.revokeUnder
  extract_lets gone d1
  have hgone : i ∉ gone := fun hi => h (List.mem_dedup.mp hi)
  have h1 : d1.keySlot i = d.keySlot i := (Dev.slotsChanged_keySlot _ gone i).trans
    (List.foldlRecOn (motive := fun e : Dev => e.keySlot i = d.keySlot i) gone _ rfl
      (fun e he j hj => (e.revokeSlot_keySlot_other (ne_of_mem_of_not_mem hj hgone).symm).trans he))
  clear_value d1 gone
  cases gone with
  | nil => exact h1
  | cons _ _ => exact ((Dev.sparesKeep_post _ _ _ _).keySlot i).trans h1

theorem Dev.putKeySlot_revoked {d : Dev} (hsorted : tabSorted d.keep.slots = true) (i : Nat) {k : KeySlot} (cause : Nat)
    (hchild : k.state = 1 → k.origin = 3 → k.parent ≠ i ∧ k.parent ∉ descendants d.keep.slots 8 [i]) :
    (((d.putKeySlot i k).revokeUnder [i] cause).slotsChanged [i]).keySlot i = k := by
  have hspared : i ∉ descendants (d.putKeySlot i k).keep.slots 8 [i] := by
    rw [Dev.putKeySlot_slots]
    refine not_mem_descendants_put hsorted 8 (List.Subset.refl [i]) fun hstate horigin => ?_
    rw [List.mem_singleton]
    exact hchild hstate horigin
  rw [Dev.slotsChanged_keySlot, Dev.revokeUnder_keySlot _ _ _ hspared, Dev.keySlot, Dev.putKeySlot_slots]
  exact tabGet_put_same ..

/-- What R315 asks of an erasure holds in a table in the canonical form. -/
theorem Dev.eraseSlot_keySlot {d : Dev} (hsorted : tabSorted d.keep.slots = true) (i : Nat) :
    (d.eraseSlot i).keySlot i = { keySlot0 with gen := nextGen (d.keySlot i).gen } :=
  Dev.putKeySlot_revoked hsorted i 2 (fun hstate => absurd hstate Nat.zero_ne_one)

/-- And of an installation, a generation or a derivation whose parent does not lie beneath the slot. -/
theorem Dev.writeSlot_keySlot {d : Dev} (hsorted : tabSorted d.keep.slots = true) (i : Nat) {k : KeySlot}
    (hchild : k.origin = 3 → k.parent ≠ i ∧ k.parent ∉ descendants d.keep.slots 8 [i]) :
    (d.writeSlot i k).keySlot i = { k with gen := nextGen (d.keySlot i).gen, useCount := 0, stored := 0, lowPosted := false } :=
  Dev.putKeySlot_revoked hsorted i 1 (fun _ => hchild)

end Sys2Proof.Machine
end

section
/-! The statement about the writes of key slots. It has no premise on the slot table, and so speaks also of tables that list a slot
twice: there the read of the slot sees the first record, and the cascade of R321 both. In the canonical form, which every write keeps
(`tabSorted_put`), a write leaves what R315 asks (`Dev.writeSlot_keySlot`, `Dev.eraseSlot_keySlot`). -/

namespace Sys2Proof.Machine

open Sys2Proof

/-- A VALID AES-128 key of the TEST root for the host, which may derive. -/
def parentKey : KeySlot := { keySlot0 with state := 1, type := 1, root := 1, usage := 0x8F, gen := 5, key := zeros 16 }

/-- The block in RUN with channel 1 enabled and its roots unlocked; the table lists slot 10 twice, as a child of slot 9 and as one of
itself. -/
def doubledSlot : Dev :=
  { dev0 with
    host := { dev0.host with stage := .run, pcieReady := true }
    chans := tabMod chan0 dev0.chans 1 (fun c => { c with enable := true })
    keep := { dev0.keep with
      rootsUnlocked := true
      slots := [(9, parentKey), (10, { parentKey with origin := 3, parent := 9 }), (10, { parentKey with origin := 3, parent := 10 })] } }

/-- KEEP_DERIVE's OP 1 for slot 10 under slot 9, on channel 1. -/
def eraseChild10 : Req :=
  { ch := 1, length := 48, seq := 7, flags := 0, txn := 0, resv := 0, payload := [1, 9, 10, 0] ++ zeros 44, bulkReads := []
    bulkWriteFail := none }

/-- The checks of KEEP_DERIVE's OP 1. -/
abbrev erasesChild (d : Dev) (bs : Bytes) : Prop :=
  bs.length = 48 ∧ layoutOk [fr 0 1 0 1, fa 1 1, fa 2 1, if byteAt bs 0 == 1 then fa 3 1 else fr 3 1 1 5, fa 4 2, fa 8 4, fa 0x0C 4,
    fa 0x10 32] bs = true ∧ byteAt bs 0 = 1 ∧ d.keyStatus .host (byteAt bs 1) 3 0 [1, 2, 3] = stOk ∧
  d.childOk (byteAt bs 2) (byteAt bs 1) = true

/-- The request is admitted and passes its checks. -/
theorem eraseChild10_admitted : ∃ x ∈ doubledSlot.admitted 0x0B03 eraseChild10 (rspMax 100),
    erasesChild x.2.1 x.2.2.data ∧ byteAt x.2.2.data 2 = 10 := by decide

/-- The second record of slot 10 makes the slot a descendant of itself: it is revoked after its erasure. -/
theorem eraseChild10_revokes : ((keepDerive eraseChild10 doubledSlot).keySlot 10).state = 2 := by decide

/-- Refutes O52: of a slot that the table lists twice, the erasure of a derived key leaves the record read as the slot REVOKED and
not EMPTY. -/
theorem not_slotWritesRaiseTheGeneration : ¬ Obligations.SlotWritesRaiseTheGeneration := by
  rintro ⟨_, _, _, _, herases⟩
  obtain ⟨⟨t, d, r⟩, hadm, hgood, hslot⟩ := eraseChild10_admitted
  obtain ⟨d', pl, hruns, _, hempty, _⟩ := herases { dev := doubledSlot, pending := [] } _ t d r hadm hgood
  have hdev : keepDerive eraseChild10 doubledSlot = d'.finish t r 1 0 pl := by
    injection hruns with hnext
    exact congrArg State.dev hnext
  have hrevoked := eraseChild10_revokes
  rw [hdev, (d'.sparesKeep_finish t r 1 0 pl).keySlot, ← hslot, hempty] at hrevoked
  cases hrevoked

end Sys2Proof.Machine
end

section
/-! SUPPORT. The cipher engine's jobs: when one starts, and what its start and its end leave (R322, R323, R326, R327). -/

namespace Sys2Proof.Machine

open Sys2Proof

/-! ## KEEP_CIPHER -/

/-- The job that a KEEP_CIPHER asks for. -/
def cipherPage (bs : Bytes) : Page :=
  { page0 with go := true, dir := byteAt bs 1, slot := byteAt bs 0, nblocks := (bs.length - 4) / 16, host := true, input := bs.drop 4 }

/-- KEEP_CIPHER's work, of a request with or without a bulk response. -/
def keepCipherBody (bulk : Bool) (d : Dev) (ch : Nat) (bs : Bytes) : Ans :=
  let n := (bs.length - 4) / 16
  if bs.length < 4 ∨ (bs.length - 4) % 16 ≠ 0 ∨ n < 1 ∨ 4096 < n then ansErr d stBadLength
  else if 1 < byteAt bs 1 ∨ le bs 2 2 ≠ 0 then ansErr d stBadParam
  else if decide (256 < n) && !bulk then ansErrD d stNoResource (n * 16)
  else if (d.page (ch + 1)).go then ansErr d stBusy
  else .wait (d.modPage (ch + 1) (fun _ => cipherPage bs))

theorem exec_keepCipher (rq : Req) (s : State) : exec (.keepCipher rq) s =
    onDev (Dev.serve 0x0B04 rq (fun _ bs => bs.length - 4) (keepCipherBody (reqBulkRsp rq))) s := rfl

theorem keepCipherBody_badLength {bulk : Bool} {d : Dev} {ch : Nat} {bs : Bytes}
    (h : (bs.length - 4) % 16 ≠ 0 ∨ (bs.length - 4) / 16 < 1 ∨ 4096 < (bs.length - 4) / 16) :
    keepCipherBody bulk d ch bs = ansErr d stBadLength := if_pos (.inr h)

theorem keepCipherBody_taken {bulk : Bool} {d : Dev} {ch : Nat} {bs : Bytes} (hlen : 20 ≤ bs.length) (hwhole : (bs.length - 4) % 16 = 0)
    (hmost : (bs.length - 4) / 16 ≤ 4096) (hdir : byteAt bs 1 ≤ 1) (hresv : le bs 2 2 = 0)
    (hroom : (bs.length - 4) / 16 ≤ 256 ∨ bulk = true) (hfree : (d.page (ch + 1)).go = false) :
    keepCipherBody bulk d ch bs = .wait (d.modPage (ch + 1) (fun _ => cipherPage bs)) := by
  have hlength : ¬ (bs.length < 4 ∨ (bs.length - 4) % 16 ≠ 0 ∨ (bs.length - 4) / 16 < 1 ∨ 4096 < (bs.length - 4) / 16) := by omega
  have hfields : ¬ (1 < byteAt bs 1 ∨ le bs 2 2 ≠ 0) := by omega
  have hinline : ¬ (decide (256 < (bs.length - 4) / 16) && !bulk) = true := by
    simp only [Bool.and_eq_true, decide_eq_true_eq, Bool.not_eq_true']
    rintro ⟨hmore, rfl⟩
    exact hroom.elim (Nat.not_le.mpr hmore) (by decide)
  simp only [keepCipherBody]
  rw [if_neg hlength, if_neg hfields, if_neg hinline, hfree, if_neg (by decide)]

/-! ## CIPHER_PAGE_GO (R334) -/

section
variable {rq p : Nat} {j : PageJob} {d : Dev}

theorem pageGo_noPage (h : 16 ≤ p) : pageGo rq p j d = d := if_pos h

theorem pageGo_foreign (h : p < 16) (hforeign : ownsPage d rq p = false) : pageGo rq p j d = d.count 11 16 := by
  simp [pageGo, Nat.not_le.mpr h, hforeign]

theorem pageGo_busy (h : p < 16) (howner : ownsPage d rq p = true) (hbusy : (d.page p).go = true) : pageGo rq p j d = d := by
  simp [pageGo, Nat.not_le.mpr h, howner, hbusy]

theorem pageGo_taken (h : p < 16) (howner : ownsPage d rq p = true) (hfree : (d.page p).go = false) :
    pageGo rq p j d = d.modPage p (fun _ => { page0 with
      go := true, dir := j.dir % 2, slot := j.slot % 256, nblocks := j.nblocks % 8192, src := j.src, dst := j.dst, lst := j.lst }) := by
  simp [pageGo, Nat.not_le.mpr h, howner, hfree]

end

/-! ## CIPHER_JOB_START (R322) -/

/-- The block in which page `p` is the last that the rotation served. -/
def Dev.served (d : Dev) (p : Nat) : Dev := { d with keep := { d.keep with lastPage := p } }

section
variable {d : Dev} {p : Nat}

theorem jobStart_idle (h : d.keep.job.isSome = true ∨ d.nextPage = none) : jobStart d = d := by
  unfold jobStart
  split
  · rfl
  · next hfree => rw [h.resolve_left hfree]

section
variable (hfree : d.keep.job = none) (hnext : d.nextPage = some p)
include hfree hnext

theorem jobStart_refused (hst : d.pageStatus p ≠ stOk) :
    jobStart d = ((d.served p).keyRefused (d.pageStatus p)).endJob p (d.pageStatus p) [] := by
  simp [jobStart, hfree, hnext, hst, Dev.served]

theorem jobStart_host (hst : d.pageStatus p = stOk) (hhost : (d.page p).host = true) :
    jobStart d = (d.served p).startJob p (d.page p).input := by
  simp [jobStart, hfree, hnext, hst, hhost, Dev.served]

/-- A device's job starts with the transfer of its blocks (R18). -/
theorem jobStart_device {bs : Bytes} (hst : d.pageStatus p = stOk) (hdevice : (d.page p).host = false)
    (hread : d.hopperRead (d.page p).src ((d.page p).nblocks * 16) = some bs) :
    jobStart d = Dev.transferBy 8 (d.page p).nblocks (d.page p).lst (fun e => (e.served p).startJob p bs) d := by
  simp [jobStart, hfree, hnext, hst, hdevice, hread, Dev.pageTransfer, Dev.served]

end

theorem Dev.startJob_input (d : Dev) (p : Nat) (input : Bytes) : ((d.startJob p input).page p).input = input :=
  congrArg Page.input (Dev.modPage_page (d.charge (d.page p).slot (d.page p).nblocks) p
    (fun g => { g with gen := (d.keySlot (d.page p).slot).gen, done := 0, input := input }))

theorem Dev.startJob_useCount (d : Dev) (p : Nat) (input : Bytes) : ((d.startJob p input).keySlot (d.page p).slot).useCount =
    (d.keySlot (d.page p).slot).useCount + (d.page p).nblocks :=
  d.charge_useCount (d.page p).slot (d.page p).nblocks

/-- A read through a handle gives as many bytes as asked. -/
theorem Dev.hopperRead_length {h n : Nat} {bs : Bytes} (hread : d.hopperRead h n = some bs) : bs.length = n := by
  unfold Dev.hopperRead at hread
  split at hread
  · obtain rfl := Option.some.inj hread
    simp [memReadN]
  · cases hread

end

/-! ## The end of a job -/

/-- Keep after a job's end: the page has its STATUS and GO at 0, and the engine is free of it. -/
def Keep.endedJob (k : Keep) (p st : Nat) : Keep :=
  { k with
    pages := tabMod page0 k.pages p (fun g => { g with go := false, status := st, input := [] })
    job := if k.job = some p then none else k.job }

theorem Dev.endJob_keep (d : Dev) (p st : Nat) (out : Bytes) : (d.endJob p st out).keep = d.keep.endedJob p st := by
  unfold Dev.endJob Dev.endJobD
  extract_lets g d1 _ d2
  split
  · exact (d2.sparesKeep_complete (p - 1) st 0 out).keep
  · rfl

theorem Dev.endJob_page (d : Dev) (p st : Nat) (out : Bytes) :
    (d.endJob p st out).page p = { d.page p with go := false, status := st, input := [] } := by
  rw [Dev.page, Dev.endJob_keep]
  exact tabGet_put_same ..

theorem Dev.endJob_keySlot (d : Dev) (p st : Nat) (out : Bytes) (i : Nat) : (d.endJob p st out).keySlot i = d.keySlot i :=
  Dev.keySlot_congr (by rw [Dev.endJob_keep]; rfl) i

theorem Dev.endJob_job (d : Dev) (p st : Nat) (out : Bytes) :
    (d.endJob p st out).keep.job = if d.keep.job = some p then none else d.keep.job := by
  rw [Dev.endJob_keep]
  rfl

theorem Dev.jobRefused_result {d : Dev} (p st : Nat) (hfree : d.keep.job = none) : let d' := ((d.served p).keyRefused st).endJob p st []
    (d'.page p).go = false ∧ (d'.page p).status = st ∧ (∀ i, d'.keySlot i = d.keySlot i) ∧ d'.keep.job = none := by
  intro d'
  have hrefused := (d.served p).sparesKeep_keyRefused st
  have hpage := ((d.served p).keyRefused st).endJob_page p st []
  refine ⟨by rw [hpage], by rw [hpage], fun i => ?_, ?_⟩
  · exact (Dev.endJob_keySlot _ _ _ _ i).trans (hrefused.keySlot i)
  · have hjob : (d.served p).keep.job = none := hfree
    rw [Dev.endJob_job, hrefused.keep, hjob]
    rfl

/-! ## CIPHER_JOB_RELEASE (R326, R327) -/

theorem Dev.releaseStatus_iff (d : Dev) (i gen : Nat) :
    d.releaseStatus i gen = stOk ↔ (d.keySlot i).state = 1 ∧ (d.keySlot i).gen = gen := by
  unfold Dev.releaseStatus
  by_cases hstate : (d.keySlot i).state = 1
  · by_cases hgen : (d.keySlot i).gen = gen <;> simp [hstate, hgen]
  · simp [hstate]

/-- The block in which page p's job is about to be released: the working key is gone, every block done. -/
def Dev.jobDone (d : Dev) (p : Nat) : Dev :=
  (({ d with keep := { d.keep with workingKey := [] } } : Dev).modPage p (fun g => { g with done := g.nblocks })).count 11 0

/-- The release of a host's job whose inverse transform agrees ends it with the status of its slot. -/
theorem Dev.releaseJob_host {d : Dev} {p : Nat} (hhost : (d.page p).host = true) : ∃ (e : Dev) (out : Bytes),
    e.keep = (d.jobDone p).keep ∧ Dev.releaseJob p true d = e.endJob p (d.releaseStatus (d.page p).slot (d.page p).gen) out := by
  have hstatus : (d.jobDone p).releaseStatus (d.page p).slot (d.page p).gen = d.releaseStatus (d.page p).slot (d.page p).gen := rfl
  simp only [Dev.releaseJob, Dev.jobOutput, hhost, if_true, Bool.not_true, Bool.false_eq_true, if_false]
  rw [← Dev.jobDone, hstatus]
  split
  · next hok => exact ⟨d.jobDone p, _, rfl, by rw [beq_iff_eq.mp hok]⟩
  · exact ⟨_, _, ((d.jobDone p).sparesKeep_withheldCount _).keep, rfl⟩

theorem jobRelease_idle (ok : Bool) {d : Dev} (h : d.keep.job = none) : jobRelease ok d = d := by simp [jobRelease, h]

theorem jobRelease_host (ok : Bool) {d : Dev} {p : Nat} (h : d.keep.job = some p) (hhost : (d.page p).host = true) :
    jobRelease ok d = Dev.releaseJob p ok d := by simp [jobRelease, h, Dev.pageTransfer, hhost]

theorem jobRelease_result {d : Dev} {p : Nat} (h : d.keep.job = some p) (hhost : (d.page p).host = true) : let d' := jobRelease true d
    d'.keep.job = none ∧ d'.keep.workingKey = [] ∧ (d'.page p).go = false ∧
    ((d'.page p).status = stOk ↔ (d.keySlot (d.page p).slot).state = 1 ∧ (d.keySlot (d.page p).slot).gen = (d.page p).gen) := by
  obtain ⟨e, out, hkeep, hreleased⟩ := Dev.releaseJob_host hhost
  have hjob : e.keep.job = some p := by rw [hkeep]; exact h
  dsimp only
  rw [jobRelease_host true h hhost, hreleased, Dev.endJob_page, Dev.endJob_job, hjob, if_pos rfl]
  refine ⟨rfl, ?_, rfl, Dev.releaseStatus_iff ..⟩
  rw [Dev.endJob_keep]
  exact congrArg Keep.workingKey hkeep

end Sys2Proof.Machine
end

section
/-! The statement about the lengths of cipher jobs. -/

namespace Sys2Proof.Machine

open Sys2Proof

/-- Settles O53: the lengths by the body's first test, the device's job by its transfer. -/
theorem cipherJobsAreWholeBlocks : Obligations.CipherJobsAreWholeBlocks := by
  refine ⟨?_, ?_, ?_⟩
  · intro s rq t d r hadm hbad
    rw [Runs, exec_keepCipher, onDev, Dev.serve_refused hadm (keepCipherBody_badLength hbad) (by decide)]
  · rintro s rq t d r hadm ⟨hlen, hwhole, hmost, hdir, hresv, hroom, hfree⟩
    have hblocks : 16 * (cipherPage r.data).nblocks = (cipherPage r.data).input.length := by
      simp only [cipherPage, List.length_drop]
      omega
    refine ⟨_, by rw [Runs, exec_keepCipher, onDev,
      Dev.serve_wait hadm (keepCipherBody_taken hlen hwhole hmost hdir hresv hroom hfree)], ?_⟩
    dsimp only
    rw [Dev.modPage_page]
    exact ⟨rfl, rfl, rfl, hblocks⟩
  · intro s p bs hfree hnext hst hdevice hread
    have hrun : Runs .cipherJobStart s (jobStart s.dev) := rfl
    rw [jobStart_device hfree hnext hst hdevice hread] at hrun
    refine ⟨fun a hgranted => ⟨_, hrun, ?_⟩, fun hwaits => ⟨_, Dev.transferBy_waits hwaits ▸ hrun⟩⟩
    rw [Dev.transferBy_granted hgranted]
    exact ⟨rfl, Dev.startJob_input .., (Dev.hopperRead_length hread).trans (Nat.mul_comm ..)⟩

end Sys2Proof.Machine
end

section
/-! SUPPORT. What Keep's commands answer: slots, digests, random bytes, counters, and the operations they submit to the ECC engine
(chapter 12). -/

namespace Sys2Proof.Machine

open Sys2Proof

/-! ## KEEP_SLOT_INFO (R314) -/

/-- KEEP_SLOT_INFO's work. -/
def keepSlotInfoBody (d : Dev) (k : KeySlot) : Ans :=
  if k.state != 0 && (!bit k.usage 7 || k.root == 3) then ansErr d stNotPermitted else ansOk d (slotRecord k ++ k.pubBytes)

theorem exec_keepSlotInfo (rq : Req) (s : State) : exec (.keepSlotInfo rq) s = onDev (Dev.serve 0x0B01 rq (rspMax 128)
    (fun d _ bs => withLayout d 4 [fa 0 1] bs (keepSlotInfoBody d (d.keySlot (byteAt bs 0))))) s := rfl

theorem keepSlotInfoBody_answers {d : Dev} {k : KeySlot} (h : k.state = 0 ∨ (bit k.usage 7 = true ∧ k.root ≠ 3)) :
    keepSlotInfoBody d k = ansOk d (slotRecord k ++ k.pubBytes) := by
  obtain hempty | ⟨hhost, hroot⟩ := h
  · simp [keepSlotInfoBody, hempty]
  · simp [keepSlotInfoBody, hhost, hroot]

theorem keepSlotInfoBody_refuses {d : Dev} {k : KeySlot} (hused : k.state ≠ 0) (h : bit k.usage 7 = false ∨ k.root = 3) :
    keepSlotInfoBody d k = ansErr d stNotPermitted := by
  obtain hhost | hroot := h
  · simp [keepSlotInfoBody, hused, hhost]
  · simp [keepSlotInfoBody, hused, hroot]

theorem slotRecord_fields (k : KeySlot) (b : Bytes) :
    byteAt (slotRecord k ++ b) 0 = k.state % 256 ∧ le (slotRecord k ++ b) 4 2 = k.gen % 65536 := by
  refine ⟨by simp [slotRecord, byteAt_append], ?_⟩
  simp only [slotRecord, List.append_assoc]
  rw [le_append_right _ _ (by simp), le_append_right _ _ (by simp), le_append_right _ _ (by simp), le_append_right _ _ (by simp)]
  simpa using le_leb_append 2 k.gen _

/-! ## Operations submitted to the ECC engine (R329) -/

/-- Two operations ask for the same: they may differ in what the slot of their key gives when they begin. -/
structure EccOp.SameRequest (op op' : EccOp) : Prop where
  ch : op'.ch = op.ch
  kind : op'.kind = op.kind
  slot : op'.slot = op.slot
  digest : op'.digest = op.digest
  sig : op'.sig = op.sig
  head : op'.head = op.head
  /-- A key given with the request stays. -/
  pub : op.slot = none → op'.pub = op.pub

theorem Dev.eccBegin_sameRequest (d : Dev) (op : EccOp) : op.SameRequest (d.eccBegin op).1 := by
  unfold Dev.eccBegin
  split
  · exact ⟨rfl, rfl, rfl, rfl, rfl, rfl, fun _ => rfl⟩
  · next i hslot =>
    have hkey : op.slot ≠ none := by rw [hslot]; exact Option.some_ne_none i
    dsimp only
    split <;> exact ⟨rfl, rfl, rfl, rfl, rfl, rfl, fun h => absurd h hkey⟩

/-- A submitted operation joins the end of the queue: behind those under way, or begun at once where its checks pass. -/
theorem Dev.eccSubmit_joins {d : Dev} {op : EccOp} (h : d.keep.eccQueue ≠ [] ∨ d.eccStatus op = stOk) :
    ∃ d' op', d.eccSubmit op = .wait d' ∧ d'.keep.eccQueue = d.keep.eccQueue ++ [op'] ∧ op.SameRequest op' := by
  by_cases hfree : d.keep.eccQueue = []
  · exact ⟨_, _, Dev.eccSubmit_begun hfree (h.resolve_left (not_not_intro hfree)), by rw [hfree]; rfl, d.eccBegin_sameRequest op⟩
  · exact ⟨_, op, Dev.eccSubmit_queued op hfree, rfl, rfl, rfl, rfl, rfl, rfl, rfl, fun _ => rfl⟩

theorem Dev.sparesKeep_hashedFor (d : Dev) (alg : Nat) (bs : Bytes) : d.SparesKeep (d.hashedFor alg bs) := by
  unfold Dev.hashedFor
  split <;> exact ⟨rfl, rfl⟩

theorem Dev.SparesKeep.eccStatus {d d' : Dev} (h : d.SparesKeep d') (op : EccOp) : d'.eccStatus op = d.eccStatus op := by
  have hkeep := h.keep
  cases d
  cases d'
  dsimp only at hkeep
  subst hkeep
  rfl

/-- An operation submitted after its data was hashed. -/
theorem Dev.eccSubmit_hashed {d : Dev} {op : EccOp} (alg : Nat) (bs : Bytes) (h : d.keep.eccQueue ≠ [] ∨ d.eccStatus op = stOk) :
    ∃ d' op', (d.hashedFor alg bs).eccSubmit op = .wait d' ∧ d'.keep.eccQueue = d.keep.eccQueue ++ [op'] ∧ op.SameRequest op' := by
  have hspares := d.sparesKeep_hashedFor alg bs
  rw [← hspares.eccStatus, ← hspares.keep] at h
  obtain ⟨d', op', hwaits, hqueue, hsame⟩ := Dev.eccSubmit_joins h
  exact ⟨d', op', hwaits, by rw [hqueue, hspares.keep], hsame⟩

/-! ## KEEP_SIGN -/

/-- KEEP_SIGN's work. -/
def keepSignBody (d : Dev) (ch : Nat) (bs : Bytes) : Ans :=
  if bs.length < 4 then ansErr d stBadLength
  else if 2 < byteAt bs 1 then ansErr d stBadParam
  else match digestOf (byteAt bs 1) (bs.drop 4) with
    | none => ansErr d stBadLength
    | some g =>
      if le bs 2 2 ≠ 0 then ansErr d stBadParam
      else (d.hashedFor (byteAt bs 1) (bs.drop 4)).eccSubmit (eccSign ch (byteAt bs 0) g)

theorem exec_keepSign (rq : Req) (s : State) : exec (.keepSign rq) s = onDev (Dev.serve 0x0B05 rq (rspMax 96) keepSignBody) s := rfl

theorem keepSignBody_submits {d : Dev} {ch : Nat} {bs g : Bytes} (hlen : 4 ≤ bs.length) (halg : byteAt bs 1 ≤ 2) (hresv : le bs 2 2 = 0)
    (hdigest : digestOf (byteAt bs 1) (bs.drop 4) = some g) :
    keepSignBody d ch bs = (d.hashedFor (byteAt bs 1) (bs.drop 4)).eccSubmit (eccSign ch (byteAt bs 0) g) := by
  rw [keepSignBody, if_neg (Nat.not_lt.mpr hlen), if_neg (Nat.not_lt.mpr halg), hdigest]
  exact if_neg (not_not_intro hresv)

/-! ## KEEP_VERIFY -/

/-- KEEP_VERIFY's work. -/
def keepVerifyBody (d : Dev) (ch : Nat) (bs : Bytes) : Ans :=
  let slot := byteAt bs 0
  let inl := slot == 0xFF
  let curve := if inl then byteAt bs 1 else curveOf (d.keySlot slot).type
  let w := if curve == 2 then 96 else 64
  let pk := if inl then w else 0
  let data := bs.drop (4 + pk + w)
  if bs.length < 4 then ansErr d stBadLength
  else if (inl && (curve < 1 || 2 < curve)) || decide (2 < byteAt bs 2) || byteAt bs 3 != 0 then ansErr d stBadParam
  else if bs.length < 4 + pk + w then ansErr d stBadLength
  else match digestOf (byteAt bs 2) data with
    | none => ansErr d stBadLength
    | some g =>
      let op := eccSign ch slot g
      (d.hashedFor (byteAt bs 2) data).eccSubmit { op with
        kind := 1, slot := if inl then none else some slot, curve := curve, pub := slice bs 4 pk, sig := slice bs (4 + pk) w }

theorem exec_keepVerify (rq : Req) (s : State) : exec (.keepVerify rq) s = onDev (Dev.serve 0x0B06 rq (rspMax 4) keepVerifyBody) s := rfl

/-- The verification of a signature over SHA-256 of the data: under a slot's key, or under a P-256 key of `pk` bytes before it. -/
def verifyRequest (ch : Nat) (slot : Option Nat) (curve pk w : Nat) (bs : Bytes) : EccOp :=
  { eccSign ch (byteAt bs 0) (slice (Config.sha256 (bs.drop (4 + pk + w))) 0 32) with
    kind := 1, slot := slot, curve := curve, pub := slice bs 4 pk, sig := slice bs (4 + pk) w }

theorem keepVerifyBody_inline {d : Dev} {ch : Nat} {bs : Bytes} (hinline : byteAt bs 0 = 0xFF) (hcurve : byteAt bs 1 = 1)
    (halg : byteAt bs 2 = 1) (hresv : byteAt bs 3 = 0) (hlen : 132 ≤ bs.length) :
    keepVerifyBody d ch bs = (d.hashedFor 1 (bs.drop 132)).eccSubmit (verifyRequest ch none 1 64 64 bs) := by
  have hshort : ¬ bs.length < 4 := by omega
  have hwhole : ¬ bs.length < 132 := by omega
  simp [keepVerifyBody, hinline, hcurve, halg, hresv, hshort, hwhole, digestOf, verifyRequest]

theorem keepVerifyBody_slot {d : Dev} {ch w : Nat} {bs : Bytes} (hslot : byteAt bs 0 ≠ 0xFF) (halg : byteAt bs 2 = 1)
    (hresv : byteAt bs 3 = 0) (hw : w = if curveOf (d.keySlot (byteAt bs 0)).type = 2 then 96 else 64) (hlen : 4 + w ≤ bs.length) :
    keepVerifyBody d ch bs = (d.hashedFor 1 (bs.drop (4 + w))).eccSubmit
      (verifyRequest ch (some (byteAt bs 0)) (curveOf (d.keySlot (byteAt bs 0)).type) 0 w bs) := by
  have hshort : ¬ bs.length < 4 := by omega
  have hwhole : ¬ bs.length < 4 + w := by omega
  simp [keepVerifyBody, hslot, halg, hresv, hshort, ← hw, hwhole, digestOf, verifyRequest]

theorem Dev.eccStatus_verifySlot (d : Dev) (ch i curve pk w : Nat) (bs : Bytes) :
    d.eccStatus (verifyRequest ch (some i) curve pk w bs) = d.keyStatus .host i 5 0 [4, 5, 6, 7] := by
  simp [Dev.eccStatus, verifyRequest, eccSign]

/-! ## KEEP_HASH and KEEP_RANDOM (R330) -/

/-- KEEP_HASH's work. -/
def keepHashBody (d : Dev) (bs : Bytes) : Ans :=
  if bs.length < 4 then ansErr d stBadLength
  else if byteAt bs 0 < 1 ∨ 2 < byteAt bs 0 ∨ le bs 1 3 ≠ 0 then ansErr d stBadParam
  else ansOk (d.hashed (bs.drop 4).length) (slice (digest (byteAt bs 0) (bs.drop 4)) 0 (if byteAt bs 0 == 2 then 48 else 32))

theorem exec_keepHash (rq : Req) (s : State) : exec (.keepHash rq) s =
    onDev (Dev.serve 0x0B07 rq (fun _ bs => if byteAt bs 0 == 2 then 48 else 32) (fun d _ bs => keepHashBody d bs)) s := rfl

theorem keepHashBody_answers {d : Dev} {bs : Bytes} (hlen : 4 ≤ bs.length) (halg : byteAt bs 0 = 1 ∨ byteAt bs 0 = 2)
    (hresv : le bs 1 3 = 0) : keepHashBody d bs =
      ansOk (d.hashed (bs.length - 4)) (slice (digest (byteAt bs 0) (bs.drop 4)) 0 (if byteAt bs 0 == 2 then 48 else 32)) := by
  have hfields : ¬ (byteAt bs 0 < 1 ∨ 2 < byteAt bs 0 ∨ le bs 1 3 ≠ 0) := by omega
  rw [keepHashBody, if_neg (Nat.not_lt.mpr hlen), if_neg hfields, List.length_drop]

/-- KEEP_RANDOM's work. -/
def keepRandomBody (d : Dev) (n : Nat) : Ans :=
  if d.keep.rngFailed then ansErrD d stFault (faultDetail 0x0303 1) else ansOk ((d.draw n).2.countN 11 4 n) (d.draw n).1

theorem exec_keepRandom (rq : Req) (s : State) : exec (.keepRandom rq) s = onDev (Dev.serve 0x0B08 rq (fun _ bs => le bs 0 2)
    (fun d _ bs => withLayout d 4 [fr 0 2 1 4096] bs (keepRandomBody d (le bs 0 2)))) s := rfl

theorem keepRandomBody_answers {d : Dev} (n : Nat) (h : d.keep.rngFailed = false) :
    keepRandomBody d n = ansOk ((d.draw n).2.countN 11 4 n) (d.draw n).1 := by simp [keepRandomBody, h]

theorem keepRandomBody_refuses {d : Dev} (n : Nat) (h : d.keep.rngFailed = true) :
    keepRandomBody d n = ansErrD d stFault (faultDetail 0x0303 1) := by simp [keepRandomBody, h]

/-! ## Monotonic counters (R313) -/

/-- The 16 monotonic counters, as KEEP_COUNTER_READ answers them. -/
def Dev.counterReport (d : Dev) : Bytes := (List.range 16).flatMap (fun i => leb 8 (d.mono i))

theorem exec_keepCounterRead (rq : Req) (s : State) : exec (.keepCounterRead rq) s =
    onDev (Dev.serve 0x0B09 rq (rspMax 128) (fun d _ bs => withLayout d 0 [] bs (ansOk d d.counterReport))) s := rfl

theorem Dev.counterReport_length (d : Dev) : d.counterReport.length = 128 := length_flatMap_of_const _ _ 8 (fun _ _ => leb_length 8 _)

theorem Dev.counterReport_counter (d : Dev) {i : Nat} (h : i < 16) : le d.counterReport (8 * i) 8 = d.mono i % 2 ^ 64 := by
  rw [Dev.counterReport, le_flatMap_record (fun _ => leb_length 8 _) (Nat.le_refl 8) _ (by simpa using h), List.getElem_range]
  exact le_leb 8 _

/-- KEEP_COUNTER_INCREMENT's work. -/
def keepCounterIncrementBody (d : Dev) (i : Nat) : Ans :=
  if i ≤ 8 then ansErr d stNotPermitted
  else if 2 ^ 64 ≤ d.mono i + 1 then ansErr d stUsageExhausted
  else ansOk (d.setMono i (d.mono i + 1)) (leb 8 (d.mono i + 1))

theorem exec_keepCounterIncrement (rq : Req) (s : State) : exec (.keepCounterIncrement rq) s = onDev (Dev.serve 0x0B0A rq (rspMax 8)
    (fun d _ bs => withLayout d 4 [fr 0 1 0 15] bs (keepCounterIncrementBody d (byteAt bs 0)))) s := rfl

theorem keepCounterIncrementBody_raises {d : Dev} {i : Nat} (hgeneral : 9 ≤ i) (hroom : d.mono i + 1 < 2 ^ 64) :
    keepCounterIncrementBody d i = ansOk (d.setMono i (d.mono i + 1)) (leb 8 (d.mono i + 1)) := by
  rw [keepCounterIncrementBody, if_neg (by omega), if_neg (Nat.not_le.mpr hroom)]

theorem Dev.setMono_mono_same (d : Dev) (i v : Nat) : (d.setMono i v).mono i = max (d.mono i) v := tabGet_put_same ..

theorem Dev.setMono_mono_other (d : Dev) {i k : Nat} (v : Nat) (h : k ≠ i) : (d.setMono i v).mono k = d.mono k :=
  tabGet_put_other _ _ _ _ _ h

/-! ## KEEP_ATTEST, KEEP_IDENTITY and KEEP_TAMPER_STATUS (R331, R332) -/

/-- The attestation of a nonce. -/
def attestOp (ch : Nat) (nonce : Bytes) : EccOp := { eccSign ch 0 [] with kind := 2, slot := none, head := nonce }

theorem exec_keepAttest (rq : Req) (s : State) : exec (.keepAttest rq) s = onDev (Dev.serve 0x0B0B rq (rspMax 440)
    (fun d ch bs => withLayout d 16 [fa 0 16] bs (d.eccSubmit (attestOp ch bs)))) s := rfl

theorem exec_keepIdentity (rq : Req) (s : State) : exec (.keepIdentity rq) s = onDev (Dev.serve 0x0B0C rq (rspMax 1028)
    (fun d _ bs => withLayout d 0 [] bs
      (ansOk d (leb 2 (Config.certificate.take 1024).length ++ zeros 2 ++ Config.certificate.take 1024)))) s := rfl

/-- What KEEP_TAMPER_STATUS answers. -/
def Dev.tamperReport (d : Dev) : Bytes :=
  leb 1 d.lantern.tamper.latched ++ leb 1 d.lantern.tamper.active ++ zeros 2 ++ leb 4 d.lantern.tamper.seq ++
    leb 1 (b2n d.keep.locked) ++ zeros 7

theorem exec_keepTamperStatus (rq : Req) (s : State) : exec (.keepTamperStatus rq) s =
    onDev (Dev.serve 0x0B0E rq (rspMax 16) (fun d _ bs => withLayout d 0 [] bs (ansOk d d.tamperReport))) s := rfl

theorem Dev.tamperReport_fields (d : Dev) : d.tamperReport.length = 16 ∧ byteAt d.tamperReport 0 = d.lantern.tamper.latched % 256 ∧
    byteAt d.tamperReport 1 = d.lantern.tamper.active % 256 ∧ le d.tamperReport 4 4 = d.lantern.tamper.seq % 2 ^ 32 ∧
    byteAt d.tamperReport 8 = b2n d.keep.locked := by
  have hlocked : b2n d.keep.locked % 256 = b2n d.keep.locked := by cases d.keep.locked <;> rfl
  have hseq : le d.tamperReport 4 4 = d.lantern.tamper.seq % 2 ^ 32 := by
    simp only [Dev.tamperReport, List.append_assoc]
    rw [le_append_right _ _ (by simp), le_append_right _ _ (by simp), le_append_right _ _ (by simp)]
    simpa using le_leb_append 4 d.lantern.tamper.seq _
  exact ⟨by simp [Dev.tamperReport], by simp [Dev.tamperReport, byteAt_append], by simp [Dev.tamperReport, byteAt_append], hseq,
    by simp [Dev.tamperReport, byteAt_append, hlocked]⟩

/-- An empty payload passes the checks of a command that takes none. -/
theorem withLayout_none {d : Dev} {bs : Bytes} (k : Ans) (h : bs = []) : withLayout d 0 [] bs k = k := by
  subst h
  exact withLayout_ok k rfl rfl

end Sys2Proof.Machine
end

section
/-! The statement about Keep's other commands. -/

namespace Sys2Proof.Machine

open Sys2Proof

/-- Settles O54, command by command. -/
theorem keepCommandsComplete : Obligations.KeepCommandsComplete := by
  refine ⟨?_, ?_, ?_, ?_, ?_, ?_, ?_, ?_, ?_, ?_, ?_, ?_, ?_, ?_⟩
  · refine completes_of_body exec_keepSlotInfo ?_
    rintro d rq bs ⟨hlen, hok, hnamed⟩
    obtain ⟨hstate, hgen⟩ := slotRecord_fields (d.keySlot (byteAt bs 0)) (d.keySlot (byteAt bs 0)).pubBytes
    exact ⟨d, _, (withLayout_ok _ hlen hok).trans (keepSlotInfoBody_answers hnamed), rfl, hstate, hgen⟩
  · refine refuses_of_body (by decide) exec_keepSlotInfo ?_
    rintro d rq bs ⟨hlen, hok, hused, hother⟩
    exact (withLayout_ok _ hlen hok).trans (keepSlotInfoBody_refuses hused hother)
  · refine waits_of_body exec_keepSign ?_
    rintro d rq bs ⟨hlen, halg, hresv, g, hdigest, hkey⟩
    have hstatus : d.keep.eccQueue ≠ [] ∨ d.eccStatus (eccSign rq.ch (byteAt bs 0) g) = stOk := hkey
    obtain ⟨d', op, hwaits, hqueue, hsame⟩ := Dev.eccSubmit_hashed (byteAt bs 1) (bs.drop 4) hstatus
    exact ⟨d', (keepSignBody_submits hlen halg hresv hdigest).trans hwaits, op, hqueue, hsame.ch, hsame.kind, hsame.slot,
      by rw [hsame.digest]; exact hdigest⟩
  · refine waits_of_body exec_keepVerify ?_
    rintro d rq bs ⟨hinline, hcurve, halg, hresv, hlen⟩
    have hstatus : d.eccStatus (verifyRequest rq.ch none 1 64 64 bs) = stOk := rfl
    obtain ⟨d', op, hwaits, hqueue, hsame⟩ := Dev.eccSubmit_hashed 1 (bs.drop 132) (.inr hstatus)
    exact ⟨d', (keepVerifyBody_inline hinline hcurve halg hresv hlen).trans hwaits, op, hqueue, hsame.ch, hsame.kind, hsame.slot,
      hsame.pub rfl, hsame.sig, hsame.digest⟩
  · refine waits_of_body exec_keepVerify ?_
    rintro d rq bs ⟨hslot, halg, hresv, hlen, hkey⟩
    obtain ⟨w, hw⟩ : ∃ w, w = if curveOf (d.keySlot (byteAt bs 0)).type = 2 then 96 else 64 := ⟨_, rfl⟩
    have hwhole : 4 + w ≤ bs.length := by rw [hw]; split at hlen <;> simp_all
    rw [← d.eccStatus_verifySlot rq.ch _ (curveOf (d.keySlot (byteAt bs 0)).type) 0 w bs] at hkey
    obtain ⟨d', op, hwaits, hqueue, hsame⟩ := Dev.eccSubmit_hashed 1 (bs.drop (4 + w)) hkey
    exact ⟨d', (keepVerifyBody_slot hslot halg hresv hw hwhole).trans hwaits, op, hqueue, hsame.ch, hsame.kind, hsame.slot⟩
  · refine completes_of_body exec_keepHash ?_
    rintro d rq bs ⟨hlen, halg, hresv⟩
    refine ⟨_, _, keepHashBody_answers hlen halg hresv, rfl, fun h256 => ?_, fun h384 => ?_⟩
    · rw [h256]; rfl
    · rw [h384]; rfl
  · refine completes_of_body exec_keepRandom ?_
    rintro d rq bs ⟨hlen, hok, hrng⟩
    exact ⟨_, _, (withLayout_ok _ hlen hok).trans (keepRandomBody_answers _ hrng), slice_length _ _ _⟩
  · refine refuses_of_body (by decide) exec_keepRandom ?_
    rintro d rq bs ⟨hlen, hok, hrng⟩
    exact (withLayout_ok _ hlen hok).trans (keepRandomBody_refuses _ hrng)
  · refine completes_of_body exec_keepCounterRead ?_
    rintro d rq bs hnone
    exact ⟨d, _, withLayout_none _ hnone, rfl, d.counterReport_length, fun _ hi => d.counterReport_counter hi⟩
  · refine completes_of_body exec_keepCounterIncrement ?_
    rintro d rq bs ⟨hlen, hok, hgeneral, hroom⟩
    refine ⟨_, _, (withLayout_ok _ hlen hok).trans (keepCounterIncrementBody_raises hgeneral hroom), ?_, ?_, leb_length _ _,
      fun i hi => d.setMono_mono_other _ hi⟩
    · rw [Dev.setMono_mono_same]
      omega
    · rw [le_leb]
      exact Nat.mod_eq_of_lt hroom
  · refine refuses_of_body (by decide) exec_keepCounterIncrement ?_
    rintro d rq bs ⟨hlen, hok, hreserved⟩
    exact (withLayout_ok _ hlen hok).trans (if_pos hreserved)
  · refine waits_of_body exec_keepAttest ?_
    rintro d rq bs ⟨hlen, hok⟩
    obtain ⟨d', op, hwaits, hqueue, hsame⟩ := Dev.eccSubmit_joins (d := d) (op := attestOp rq.ch bs) (.inr rfl)
    exact ⟨d', (withLayout_ok _ hlen hok).trans hwaits, op, hqueue, hsame.ch, hsame.kind, hsame.head⟩
  · refine completes_of_body exec_keepIdentity ?_
    rintro d rq bs hnone
    exact ⟨d, _, withLayout_none _ hnone, rfl, by rw [List.length_take]⟩
  · refine completes_of_body exec_keepTamperStatus ?_
    rintro d rq bs hnone
    exact ⟨d, _, withLayout_none _ hnone, rfl, d.tamperReport_fields⟩

end Sys2Proof.Machine
end

section
/-! SUPPORT. The ECC engine, the random number generator and the tamper sources: what each step leaves of Keep (R329, R330, R332 to
R334). -/

namespace Sys2Proof.Machine

open Sys2Proof

/-! ## The end of an ECC operation (R329) -/

section
variable {d : Dev} {op : EccOp} {a b : Bool}

theorem eccComplete_idle (h : d.keep.eccQueue = []) : eccComplete a b d = d := by simp [eccComplete, h]

theorem eccComplete_waiting {rest : List EccOp} (h : d.keep.eccQueue = op :: rest) (hstarted : op.started = false) :
    eccComplete a b d = d := by simp [eccComplete, h, hstarted]

theorem Dev.eccNext_idle (n : Nat) (h : d.keep.eccQueue = []) : Dev.eccNext n d = d := by
  cases n with
  | zero => rfl
  | succ n => simp [Dev.eccNext, h]

/-- A fault of class F2 leaves no operation in the queue, for it restarts the block unless that is held already (R369). -/
theorem Dev.faultF2_eccQueue (code object data : Nat) (h : d.keep.eccQueue = []) : (d.faultF2 code object data).keep.eccQueue = [] := by
  unfold Dev.faultF2
  split
  · rw [(Dev.posts_logFault _ _ _ _ _ _ _).keep]
    exact h
  · dsimp only
    split
    · rw [(Dev.posts_post _ _ _ _).keep, (Dev.posts_logFault _ _ _ _ _ _ _).keep]
      rfl
    · rw [(Dev.posts_logFault _ _ _ _ _ _ _).keep]
      rfl

theorem Dev.eccFault_eccQueue (op : EccOp) (h : d.keep.eccQueue = []) : (d.eccFault op).keep.eccQueue = [] := by
  unfold Dev.eccFault
  extract_lets root
  have hanswered : ∀ det, ((d.complete op.ch stFault det []).count 11 9).keep = d.keep := fun det =>
    ((Dev.sparesKeep_complete _ _ _ _ _).trans (Dev.sparesKeep_count _ _ _)).keep
  unfold Dev.fault
  split
  · exact Dev.faultF2_eccQueue _ _ _ (by rw [hanswered]; exact h)
  · rw [(Dev.sparesKeep_faultF1 _ _ _ _).keep, hanswered]
    exact h

theorem Dev.eccEnd_eccQueue (op : EccOp) (ok : Bool) (h : d.keep.eccQueue = []) : (d.eccEnd op ok).keep.eccQueue = [] := by
  have hcomplete : ∀ (e : Dev) ch st pl, e.keep = d.keep → (e.complete ch st 0 pl).keep.eccQueue = [] := by
    intro e ch st pl he
    rw [(e.sparesKeep_complete ch st 0 pl).keep, he]
    exact h
  unfold Dev.eccEnd
  split
  · exact hcomplete d _ _ _ rfl
  · split
    · exact Dev.eccFault_eccQueue op h
    · split
      · exact hcomplete _ _ _ _ rfl
      · dsimp only
        split
        · exact hcomplete d _ _ _ rfl
        · exact hcomplete _ _ _ _ (d.sparesKeep_withheldCount _).keep

/-- The end of the last operation. -/
theorem eccComplete_last (h : d.keep.eccQueue = [op]) (hstarted : op.started = true) :
    (eccComplete a b d).keep.eccQueue = [] ∧ (eccComplete a b d).keep.eccKey = [] := by
  have hempty : (((d.putEcc []).eccCount).eccEnd op (a || b)).keep.eccQueue = [] := Dev.eccEnd_eccQueue op (a || b) rfl
  simp only [eccComplete, h, hstarted, Bool.not_true, Bool.false_eq_true, if_false]
  rw [Dev.eccNext_idle]
  · exact ⟨hempty, rfl⟩
  · exact hempty

end

/-! ## The random number generator (R330) -/

theorem Dev.rngFail_keep (d : Dev) (kind : Nat) : (d.rngFail kind).keep = { d.keep with
    rngFailed := true, rngFailures := d.keep.rngFailures + 1, rngStuck := decide (3 ≤ d.keep.rngFailures + 1)
    rngRetest := d.uptime + sec 1 } := by
  unfold Dev.rngFail
  extract_lets n _ d1
  exact ((d1.sparesKeep_count 11 14).trans ((Dev.sparesKeep_faultF1 _ _ _ _).trans (Dev.sparesKeep_post _ _ _ _))).keep

theorem rngRetest_idle {d : Dev} (ok : Bool) (h : d.keep.rngFailed = false ∨ d.keep.rngStuck = true ∨ d.uptime < d.keep.rngRetest) :
    rngRetest ok d = d := by
  obtain h | h | h := h <;> simp [rngRetest, h]

theorem rngRetest_due {d : Dev} (ok : Bool) (hfailed : d.keep.rngFailed = true) (hstuck : d.keep.rngStuck = false)
    (hdue : d.keep.rngRetest ≤ d.uptime) : rngRetest ok d =
      if ok then { d with keep := { d.keep with rngFailed := false, rngFailures := 0 } } else d.rngFail 3 := by
  simp [rngRetest, hfailed, hstuck, Nat.not_lt.mpr hdue]

/-! ## The tamper response (R332) -/

/-- The roots are locked or not as before, and the tamper unit is as before. -/
structure Dev.KeepsGuard (d d' : Dev) : Prop where
  locked : d'.keep.locked = d.keep.locked
  tamper : d'.lantern.tamper = d.lantern.tamper

theorem Dev.SparesKeep.keepsGuard {d d' : Dev} (h : d.SparesKeep d') : d.KeepsGuard d' := ⟨congrArg Keep.locked h.keep, h.tamper⟩

theorem Dev.KeepsGuard.refl (d : Dev) : d.KeepsGuard d := ⟨rfl, rfl⟩

theorem Dev.KeepsGuard.trans {a b c : Dev} (h1 : a.KeepsGuard b) (h2 : b.KeepsGuard c) : a.KeepsGuard c :=
  ⟨h2.locked.trans h1.locked, h2.tamper.trans h1.tamper⟩

theorem Dev.keepsGuard_charge (d : Dev) (i n : Nat) : d.KeepsGuard (d.charge i n) := by
  obtain ⟨_, _, _, hkeep, htamper⟩ := d.charge_keep i n
  exact ⟨by rw [hkeep], htamper⟩

theorem Dev.keepsGuard_eccBegin (d : Dev) (op : EccOp) : d.KeepsGuard (d.eccBegin op).2 := by
  unfold Dev.eccBegin
  split
  · exact .refl d
  · dsimp only
    split
    · exact .refl d
    · exact (d.keepsGuard_charge _ 1).trans ⟨rfl, rfl⟩

theorem Dev.keepsGuard_eccNext (n : Nat) (d : Dev) : d.KeepsGuard (Dev.eccNext n d) := by
  induction n generalizing d with
  | zero => exact .refl d
  | succ n ih =>
    unfold Dev.eccNext
    split
    · exact .refl d
    · next op t _ =>
      split
      · exact .refl d
      · dsimp only
        split
        · exact (d.keepsGuard_eccBegin op).trans ⟨rfl, rfl⟩
        · have hanswered := (Dev.sparesKeep_keyRefused (d.putEcc t) (d.eccStatus op)).trans
            (Dev.sparesKeep_complete _ op.ch (d.eccStatus op) 0 [])
          exact .trans (b := d.putEcc t) ⟨rfl, rfl⟩ (hanswered.keepsGuard.trans (ih _))

/-- The abort of the key operations, where the cipher engine has no job. -/
theorem Dev.keepsGuard_abortKeyOps {d : Dev} (src : Nat) (hjob : d.keep.job = none) : d.KeepsGuard (d.abortKeyOps src) := by
  unfold Dev.abortKeyOps
  extract_lets d1 d2 busy d3
  have h1 : d1 = d := by simp only [d1, hjob]
  have h2 : d1.KeepsGuard d2 := by
    simp only [d2]
    split
    · next op t _ =>
      split
      · exact .trans (b := (d1.putEcc t).count 11 7) ⟨rfl, rfl⟩ (Dev.sparesKeep_complete _ _ _ _ _).keepsGuard
      · exact .refl d1
    · exact .refl d1
  have h3 : d2.KeepsGuard d3 := by
    simp only [d3]
    split
    · exact (d2.sparesKeep_legalLog 11 0 src).keepsGuard
    · exact .refl d2
  exact h1 ▸ (h2.trans (h3.trans (Dev.keepsGuard_eccNext _ _)))

/-- No derived key is left. -/
theorem Dev.zeroKeys_origin (d : Dev) (i : Nat) : (d.zeroKeys.keySlot i).origin ≠ 3 := by
  rw [Dev.keySlot, Dev.zeroKeys, tabGet, tabFind_map]
  cases tabFind d.keep.slots i with
  | none => decide
  | some k =>
    rw [Option.map_some, Option.getD_some]
    split
    · exact (by decide : keySlot0.origin ≠ 3)
    · next h => simpa using h

/-- The block with an alarm latched and the roots locked. -/
def Dev.lockedBy (d : Dev) (src action : Nat) : Dev :=
  { d.latchTamper src action false with keep := { (d.latchTamper src action false).keep with locked := true } }

/-- A response of an awake block: the roots are locked, key operations aborted and keys zeroed; ACTION HOLD has it reset within 5 ms. -/
theorem Dev.tamperResponse_awake {d : Dev} (src action : Nat) (hdoze : d.lantern.power ≠ .doze) (hdormant : d.lantern.power ≠ .dormant) :
    d.tamperResponse src action =
      (let e := ((d.lockedBy src action).abortKeyOps src).zeroKeys
       if action == 2 then { e with lantern := { e.lantern with tamper := { e.lantern.tamper with holdBy := some (d.uptime + ms 5) } } }
       else e) := by
  simp [Dev.tamperResponse, hdoze, hdormant, Dev.lockedBy]

/-- The tamper unit once an alarm is latched. -/
theorem Dev.lockedBy_tamper (d : Dev) (src action : Nat) : (d.lockedBy src action).lantern.tamper = { d.lantern.tamper with
    seq := (d.lantern.tamper.seq + 1) % 2 ^ 32, latched := setBit d.lantern.tamper.latched src, lastSrc := src, lastTime := d.rtcTime } :=
  (Dev.sparesKeep_post _ _ _ _).tamper

theorem Dev.lockedBy_job (d : Dev) (src action : Nat) : (d.lockedBy src action).keep.job = d.keep.job := by
  have hlatched : (d.latchTamper src action false).keep = d.keep := (Dev.sparesKeep_post _ _ _ _).keep
  rw [Dev.lockedBy, hlatched]

theorem Dev.tamperResponse_result {d : Dev} (src action : Nat) (hjob : d.keep.job = none) (hdoze : d.lantern.power ≠ .doze)
    (hdormant : d.lantern.power ≠ .dormant) : let d' := d.tamperResponse src action
    d'.keep.locked = true ∧ d'.keep.workingKey = [] ∧ d'.keep.eccKey = [] ∧ (∀ i, (d'.keySlot i).origin ≠ 3) ∧
    d'.lantern.tamper.seq = (d.lantern.tamper.seq + 1) % 2 ^ 32 ∧ d'.lantern.tamper.latched = setBit d.lantern.tamper.latched src ∧
    (action = 2 → d'.lantern.tamper.holdBy = some (d.uptime + ms 5)) := by
  have hguard := Dev.keepsGuard_abortKeyOps src ((d.lockedBy_job src action).trans hjob)
  have hseq := congrArg Tamper.seq (hguard.tamper.trans (d.lockedBy_tamper src action))
  have hlatched := congrArg Tamper.latched (hguard.tamper.trans (d.lockedBy_tamper src action))
  have horigin := ((d.lockedBy src action).abortKeyOps src).zeroKeys_origin
  dsimp only
  rw [Dev.tamperResponse_awake src action hdoze hdormant]
  dsimp only
  split
  · exact ⟨hguard.locked, rfl, rfl, horigin, hseq, hlatched, fun _ => rfl⟩
  · next hlock => exact ⟨hguard.locked, rfl, rfl, horigin, hseq, hlatched, fun hhold => absurd hhold (by simpa using hlock)⟩

/-! ## TAMPER_ALARM -/

/-- The block with the sources that are active. -/
def Dev.putActive (d : Dev) (a : Nat) : Dev := { d with lantern := { d.lantern with tamper := { d.lantern.tamper with active := a } } }

section
variable {d : Dev} {src held : Nat}

theorem tamperAlarm_disabled (h : 8 ≤ src ∨ byteAt (tamperEntry d.lantern.tamper.cfg src) 0 = 0) : tamperAlarm src held d = d := if_pos h

section
variable (hsrc : src < 8) (hon : byteAt (tamperEntry d.lantern.tamper.cfg src) 0 ≠ 0)
include hsrc hon

theorem tamperAlarm_released (h : held = 0) : tamperAlarm src held d = d.putActive (clearBit d.lantern.tamper.active src) := by
  simp [tamperAlarm, Nat.not_le.mpr hsrc, hon, h, Dev.putActive]

theorem tamperAlarm_quiet (hheld : held ≠ 0)
    (h : bit d.lantern.tamper.active src = true ∨ (src < 4 ∧ held < byteAt (tamperEntry d.lantern.tamper.cfg src) 2)) :
    tamperAlarm src held d = d := by
  obtain hactive | ⟨hfiltered, hshort⟩ := h
  · simp [tamperAlarm, Nat.not_le.mpr hsrc, hon, hheld, hactive]
  · simp [tamperAlarm, Nat.not_le.mpr hsrc, hon, hheld, hfiltered, hshort]

/-- Past its filter a source becomes active: LOG records a notice, LOCK and HOLD raise an alarm. -/
theorem tamperAlarm_acts (hheld : held ≠ 0) (hnew : bit d.lantern.tamper.active src = false)
    (hpast : src < 4 → byteAt (tamperEntry d.lantern.tamper.cfg src) 2 ≤ held) : tamperAlarm src held d =
      (let e := d.putActive (setBit d.lantern.tamper.active src)
       let action := byteAt (tamperEntry d.lantern.tamper.cfg src) 1
       if action == 0 then (e.aonWrite 3 src 0).count 11 13 else e.tamperResponse src action) := by
  have hlong : ¬ (src < 4 ∧ held < byteAt (tamperEntry d.lantern.tamper.cfg src) 2) := fun h => Nat.not_lt.mpr (hpast h.1) h.2
  simp [tamperAlarm, Nat.not_le.mpr hsrc, hon, hheld, hnew, hlong, Dev.putActive]

end

end

/-! ## The resets that follow (R312, R332) -/

theorem tamperHoldReset_idle {d : Dev} (h : d.lantern.tamper.holdBy = none) : tamperHoldReset d = d := by simp [tamperHoldReset, h]

theorem tamperHoldReset_held {d : Dev} (h : d.lantern.tamper.holdBy.isSome = true) : tamperHoldReset d =
    ({ d with lantern := { d.lantern with tamper := { d.lantern.tamper with holdBy := none } } } : Dev).resetNow 1 := by
  obtain ⟨t, ht⟩ := Option.isSome_iff_exists.mp h
  simp [tamperHoldReset, ht]

theorem lifecycleReset_idle {d : Dev} (h : d.boot.resetDue = none) : lifecycleReset d = d := by simp [lifecycleReset, h]

theorem lifecycleReset_asked {d : Dev} {t kind : Nat} (h : d.boot.resetDue = some (t, kind, 2)) :
    lifecycleReset d = if t ≤ d.uptime then d.resetNow kind else d := by simp [lifecycleReset, h]

end Sys2Proof.Machine
end

section
/-! The statement about Keep's steps. -/

namespace Sys2Proof.Machine

open Sys2Proof

/-- Settles O51, step by step. -/
theorem keepStepsActAsRuled : Obligations.KeepStepsActAsRuled := by
  refine ⟨fun s rq p j => ?_, fun s hidle => ?_, fun s p hfree hnext => ?_, fun s ok hfree => ?_, fun s p hjob hhost => ?_,
    fun s a b hempty => ?_, fun s a b op rest hqueue => ?_, fun s kind => ?_, fun s ok => ?_, fun s src held => ?_, fun s => ?_,
    fun s => ?_⟩
  · have hrun : Runs (.cipherPageGo rq p j) s (pageGo rq p j s.dev) := rfl
    refine ⟨fun h => runs_of_eq hrun (pageGo_noPage h), fun h hforeign => runs_of_eq hrun (pageGo_foreign h hforeign),
      fun h howner hbusy => runs_of_eq hrun (pageGo_busy h howner hbusy), fun h howner hfree => ⟨_, hrun, ?_⟩⟩
    rw [pageGo_taken h howner hfree, Dev.modPage_page]
    exact ⟨rfl, rfl, rfl⟩
  · exact runs_of_eq (d := jobStart s.dev) rfl (jobStart_idle hidle)
  · have hrun : Runs .cipherJobStart s (jobStart s.dev) := rfl
    refine ⟨fun hst hhost => ⟨_, hrun, ?_⟩, fun hst => ⟨_, hrun, ?_⟩⟩
    · rw [jobStart_host hfree hnext hst hhost]
      exact ⟨rfl, rfl, rfl, (s.dev.served p).startJob_useCount p _⟩
    · obtain ⟨hgo, hstatus, hslots, hjob⟩ := Dev.jobRefused_result p (s.dev.pageStatus p) hfree
      rw [jobStart_refused hfree hnext hst]
      exact ⟨hgo, hstatus, by rw [hslots], hjob⟩
  · exact runs_of_eq (d := jobRelease ok s.dev) rfl (jobRelease_idle ok hfree)
  · exact ⟨jobRelease true s.dev, rfl, jobRelease_result hjob hhost⟩
  · exact runs_of_eq (d := eccComplete a b s.dev) rfl (eccComplete_idle hempty)
  · refine ⟨fun hwaiting => runs_of_eq (d := eccComplete a b s.dev) rfl (eccComplete_waiting hqueue hwaiting), fun hstarted hlast => ?_⟩
    exact ⟨eccComplete a b s.dev, rfl, eccComplete_last (hqueue.trans (by rw [hlast])) hstarted⟩
  · have hrun : Runs (.rngHealthFail kind) s (if s.dev.keep.rngFailed then s.dev else s.dev.rngFail kind) := rfl
    refine ⟨fun hfailed => runs_of_eq hrun (if_pos hfailed), fun hsound => ⟨s.dev.rngFail kind, runs_of_eq hrun (by simp [hsound]), ?_⟩⟩
    rw [Dev.rngFail_keep]
    exact ⟨rfl, rfl, rfl⟩
  · have hrun : Runs (.rngRetest ok) s (rngRetest ok s.dev) := rfl
    refine ⟨fun hidle => runs_of_eq hrun (rngRetest_idle ok hidle), fun hfailed hstuck hdue => ⟨_, hrun, ?_⟩⟩
    rw [rngRetest_due ok hfailed hstuck hdue]
    cases ok with
    | true => exact ⟨rfl, fun h => absurd h (by decide)⟩
    | false =>
      rw [if_neg (by decide), Dev.rngFail_keep]
      exact ⟨rfl, fun _ => rfl⟩
  · have hrun : Runs (.tamperAlarm src held) s (tamperAlarm src held s.dev) := rfl
    refine ⟨fun hoff => runs_of_eq hrun (tamperAlarm_disabled hoff), fun hsrc hon hreleased => ⟨_, hrun, ?_⟩, fun hsrc hheld hquiet => ?_,
      fun hsrc hon hheld hnew hpast => ?_⟩
    · rw [tamperAlarm_released hsrc hon hreleased]
      rfl
    · by_cases hon : byteAt (tamperEntry s.dev.lantern.tamper.cfg src) 0 = 0
      · exact runs_of_eq hrun (tamperAlarm_disabled (.inr hon))
      · exact runs_of_eq hrun (tamperAlarm_quiet hsrc hon hheld hquiet)
    · rw [tamperAlarm_acts hsrc hon hheld hnew hpast] at hrun
      refine ⟨fun hlog => ⟨_, hrun, ?_⟩, fun haction hjob hdoze hdormant => ⟨_, hrun, ?_⟩⟩
      · simp only [hlog, beq_self_eq_true, if_true]
        exact ⟨rfl, rfl⟩
      · simp only [haction, beq_iff_eq, if_false]
        exact Dev.tamperResponse_result src _ hjob hdoze hdormant
  · have hrun : Runs .tamperHoldReset s (tamperHoldReset s.dev) := rfl
    exact ⟨fun hnone => runs_of_eq hrun (tamperHoldReset_idle hnone), fun hheld => runs_of_eq hrun (tamperHoldReset_held hheld)⟩
  · have hrun : Runs .lifecycleReset s (lifecycleReset s.dev) := rfl
    refine ⟨fun hnone => runs_of_eq hrun (lifecycleReset_idle hnone), fun t kind hasked => ⟨fun hdue => ?_, fun hearly => ?_⟩⟩
    · exact runs_of_eq hrun ((lifecycleReset_asked hasked).trans (if_pos hdue))
    · exact runs_of_eq hrun ((lifecycleReset_asked hasked).trans (if_neg (Nat.not_le.mpr hearly)))

end Sys2Proof.Machine
end

section
/-! The statement about lockstep, the watchdog, the interlock, Twin Link's timers and the safety commands. It has no premise on the
tick in which ACT_IN_N falls, and so speaks also of the tick in which the twin has just decided to take over: there the twin gives
ACT up again (R378), where the statement has it keep ACT. -/

namespace Sys2Proof.Machine

open Sys2Proof

/-- A standby that has just decided to take over: it drives ACT_OUT_N low, its settle window begins, and ACT_IN_N is still high. -/
def justDecided : Dev :=
  takeoverDecision { dev0 with
    uptime := 1000000
    host := { dev0.host with stage := .run }
    twin := { twin0 with enable := true, role := .standby, actInHigh := true } }

/-- When ACT_IN_N falls in the tick of the decision, the twin releases ACT. -/
theorem justDecided_releases : justDecided.twin.actInHigh = true ∧ justDecided.twin.act = true ∧
    (actInEdge false justDecided).twin.act = false := by decide

/-- Refutes O56: of a fall of ACT_IN_N in the tick of a takeover decision the statement has ACT kept, and the twin releases it. -/
theorem not_safetyAndTwinActAsRuled : ¬ Obligations.SafetyAndTwinActAsRuled := by
  rintro ⟨_, _, htwin, _⟩
  obtain ⟨_, _, _, _, _, _, _, _, _, _, _, hfall, _⟩ := htwin { dev := justDecided, pending := [] }
  obtain ⟨hhigh, hact, hreleased⟩ := justDecided_releases
  have hdev : actInEdge false justDecided = justDecided.modTwin (fun t => { t with actInHigh := false }) := by
    injection hfall hhigh with hnext
    exact congrArg State.dev hnext
  have hkept : (actInEdge false justDecided).twin.act = true := by rw [hdev, Dev.modTwin_twin, hact]
  rw [hreleased] at hkept
  cases hkept

end Sys2Proof.Machine
end

section
/-! SUPPORT. What a flush of queues, the end of a frame and a link that goes down change: the units that carry frames, and
what events and wakes change. -/

namespace Sys2Proof.Machine

open Sys2Proof

/-! ## Flushes -/

/-- `d'` is `d` but for the host interface, the fabric, events kept for the next wake and what was driven to the outside: all that a
flush of queues changes. -/
def Dev.Flushes (d d' : Dev) : Prop :=
  ∃ h f l o, d' = { d with host := h, fabric := f, lantern := { d.lantern with deferred := l }, outs := o }

theorem Dev.Flushes.refl (d : Dev) : d.Flushes d := ⟨_, _, _, _, rfl⟩

theorem Dev.Flushes.trans {a b c : Dev} (h1 : a.Flushes b) (h2 : b.Flushes c) : a.Flushes c := by
  obtain ⟨_, _, _, _, rfl⟩ := h1
  obtain ⟨h, f, l, o, rfl⟩ := h2
  exact ⟨h, f, l, o, rfl⟩

theorem Dev.Posts.flushes {d d' : Dev} (h : d.Posts d') : d.Flushes d' := by
  obtain ⟨_, _, _, rfl⟩ := h
  exact ⟨_, _, _, _, rfl⟩

theorem Dev.Flushes.foldl {α : Type} {f : Dev → α → Dev} (hf : ∀ (e : Dev) x, e.Flushes (f e x)) (l : List α) (d : Dev) :
    d.Flushes (l.foldl f d) := List.foldlRecOn l f (.refl d) (fun e h x _ => h.trans (hf e x))

theorem Dev.flushes_fabric (d : Dev) (f : Fabric) : d.Flushes { d with fabric := f } := ⟨_, _, _, _, rfl⟩

theorem Dev.Flushes.domains {d d' : Dev} (h : d.Flushes d') : d'.lantern.domains = d.lantern.domains := by
  obtain ⟨_, _, _, _, rfl⟩ := h
  rfl

theorem Dev.Flushes.uptime {d d' : Dev} (h : d.Flushes d') : d'.uptime = d.uptime := by
  obtain ⟨_, _, _, _, rfl⟩ := h
  rfl

theorem Dev.flushes_levelCheck (d : Dev) : d.Flushes d.levelCheck := by
  unfold Dev.levelCheck
  dsimp only
  split
  · exact (d.flushes_fabric _).trans (Dev.posts_post _ _ _ _).flushes
  · split
    · exact (d.flushes_fabric _).trans (Dev.posts_post _ _ _ _).flushes
    · exact .refl d

theorem Dev.flushes_sweepGroup (d : Dev) (g : Nat) : d.Flushes (d.sweepGroup g) := by
  unfold Dev.sweepGroup
  split
  · exact .refl d
  · extract_lets fs gone d1
    have hgone : d.Flushes d1 := .foldl (fun e _ => e.flushes_fabric _) gone d
    exact hgone.trans (d1.flushes_fabric _)

theorem Dev.flushes_settleFabric (d : Dev) : d.Flushes d.settleFabric := by
  rw [Dev.settleFabric_eq]
  exact (d.flushes_fabric _).trans ((Dev.Flushes.foldl Dev.flushes_sweepGroup _ _).trans (Dev.flushes_levelCheck _))

theorem Dev.flushes_flushPort (d : Dev) (p : Nat) : d.Flushes (d.flushPort p).2 := by
  dsimp only [Dev.flushPort]
  exact (d.flushes_fabric _).trans ((Dev.posts_countN _ _ _ _).flushes.trans (Dev.flushes_settleFabric _))

/-! ## Links -/

/-- `d'` is `d` but for the host interface, the ports, the fabric, the Lauter and stream units, Lantern, the twin unit, the free choices
taken and what was driven to the outside: all that frames and links, events and wakes change. -/
def Dev.Moves (d d' : Dev) : Prop :=
  ∃ h p f a s l t i o,
    d' = { d with host := h, ports := p, fabric := f, lauter := a, streams := s, lantern := l, twin := t, freeIx := i, outs := o }

theorem Dev.Moves.refl (d : Dev) : d.Moves d := ⟨_, _, _, _, _, _, _, _, _, rfl⟩

theorem Dev.Moves.trans {a b c : Dev} (h1 : a.Moves b) (h2 : b.Moves c) : a.Moves c := by
  obtain ⟨_, _, _, _, _, _, _, _, _, rfl⟩ := h1
  obtain ⟨h, p, f, a, s, l, t, i, o, rfl⟩ := h2
  exact ⟨h, p, f, a, s, l, t, i, o, rfl⟩

theorem Dev.Stirs.moves {d d' : Dev} (h : d.Stirs d') : d.Moves d' := by
  obtain ⟨_, _, _, _, rfl⟩ := h
  exact ⟨_, _, _, _, _, _, _, _, _, rfl⟩

theorem Dev.Posts.moves {d d' : Dev} (h : d.Posts d') : d.Moves d' := h.stirs.moves

theorem Dev.Flushes.moves {d d' : Dev} (h : d.Flushes d') : d.Moves d' := by
  obtain ⟨_, _, _, _, rfl⟩ := h
  exact ⟨_, _, _, _, _, _, _, _, _, rfl⟩

theorem Dev.Moves.foldl {α : Type} {f : Dev → α → Dev} (hf : ∀ (e : Dev) x, e.Moves (f e x)) (l : List α) (d : Dev) :
    d.Moves (l.foldl f d) := List.foldlRecOn l f (.refl d) (fun e h x _ => h.trans (hf e x))

theorem Dev.Moves.uptime {d d' : Dev} (h : d.Moves d') : d'.uptime = d.uptime := by
  obtain ⟨_, _, _, _, _, _, _, _, _, rfl⟩ := h
  rfl

theorem Dev.moves_fabric (d : Dev) (f : Fabric) : d.Moves { d with fabric := f } := ⟨_, _, _, _, _, _, _, _, _, rfl⟩

theorem Dev.moves_modPort (d : Dev) (p : Nat) (f : Port → Port) : d.Moves (d.modPort p f) := ⟨_, _, _, _, _, _, _, _, _, rfl⟩

theorem Dev.moves_addTxWire (d : Dev) (p n : Nat) : d.Moves (d.addTxWire p n) := d.moves_modPort _ _

theorem Dev.moves_modStored (d : Dev) (id : Nat) (f : Stored → Stored) : d.Moves (d.modStored id f) := d.moves_fabric _

theorem Dev.moves_free (d : Dev) : d.Moves d.free.2 := ⟨_, _, _, _, _, _, _, _, _, rfl⟩

theorem Dev.moves_endPending (d : Dev) (id : Nat) (got : Option (Bytes × Nat)) (port : Nat) : d.Moves (d.endPending id got port) :=
  ⟨_, _, _, _, _, _, _, _, _, rfl⟩

theorem Dev.moves_dropWaiting (d : Dev) (id : Nat) : d.Moves (d.dropWaiting id) := by
  unfold Dev.dropWaiting
  exact (d.moves_fabric _).trans (Dev.flushes_settleFabric _).moves

theorem Dev.moves_sent (d : Dev) (p : Nat) (x : Sending) : d.Moves (d.sent p x) := by
  have hcopy : d.Moves (d.sentCopy p x) := by
    unfold Dev.sentCopy
    exact (d.moves_fabric _).trans (Dev.flushes_settleFabric _).moves
  unfold Dev.sent Dev.startGap
  split
  · exact hcopy
  · exact hcopy.trans (Dev.moves_modPort _ _ _)

theorem Dev.moves_stomp (d : Dev) (p : Nat) (bytes : Bytes) (lost : Bool) : d.Moves (d.stomp p bytes lost) := by
  have hwire : d.Posts (if lost then d else d.emit (.frame p bytes true)) := by
    split
    · exact .refl d
    · exact d.posts_emit _
  exact (hwire.trans (Dev.posts_count _ _ _)).moves.trans (Dev.moves_modPort _ _ _)

theorem Dev.posts_countSent (d : Dev) (p : Nat) (bytes : Bytes) : d.Posts (d.countSent p bytes) := by
  unfold Dev.countSent
  extract_lets d1
  have h1 : d.Posts d1 := (d.posts_count _ _).trans (Dev.posts_countN _ _ _ _)
  split
  · exact h1
  · exact h1.trans (Dev.posts_count _ _ _)

theorem Dev.moves_burstGoesOn (d : Dev) (p : Nat) : d.Moves (d.burstGoesOn p) := by
  unfold Dev.burstGoesOn
  split
  · exact d.moves_modPort _ _
  · exact .refl d

theorem Dev.stirs_frameSent (d : Dev) (p inPort : Nat) (bytes : Bytes) : d.Stirs (d.frameSent p inPort bytes) := by
  unfold Dev.frameSent
  split
  · exact .refl d
  · split
    · split
      · exact d.stirs_lantern _
      · exact .refl d
    · exact .refl d

theorem Dev.moves_endSend (d : Dev) (p : Nat) (x : Sending) (f : Stored) : d.Moves (d.endSend p x f) := by
  have hsent := d.moves_sent p x
  by_cases hbad : f.bad = true
  · rw [Dev.endSend_bad hbad]
    exact hsent.trans (Dev.moves_stomp _ _ _ _)
  rw [Bool.not_eq_true] at hbad
  by_cases hfits : x.fits f
  · have hcount := hsent.trans ((d.sent p x).posts_countSent p (sendingBytesOf f x)).moves
    rw [Dev.endSend_good hbad hfits]
    split
    · exact hcount
    · split
      · exact hcount.trans (Dev.moves_modPort _ _ _)
      · refine .trans (.trans (.trans (hcount.trans ?_) (Dev.moves_addTxWire _ _ _)) (Dev.moves_burstGoesOn _ _))
          (Dev.stirs_frameSent _ _ _ _).moves
        exact (Dev.posts_emit _ _).moves
  · rw [Dev.endSend_tooLong hbad hfits]
    exact hsent.trans (Dev.moves_stomp _ _ _ _)

theorem Dev.moves_loseSending (d : Dev) (p : Nat) : d.Moves (d.loseSending p) := by
  refine (d.moves_fabric _).trans (.foldl (fun e x => ?_) _ _)
  unfold Dev.loseOne
  split
  · exact .refl e
  · split
    · exact e.moves_endSend _ _ _
    · exact e.moves_fabric _

theorem Dev.moves_endLost (d : Dev) (id : Nat) : d.Moves (d.endLost id) := by
  refine .foldl (fun e x => ?_) _ d
  split
  · exact e.moves_endSend _ _ _
  · exact .refl e

theorem Dev.moves_endReception (d : Dev) (p : Nat) : d.Moves (d.endReception p) := by
  unfold Dev.endReception
  split
  · exact d.moves_endPending _ _ _
  · refine .trans (.trans (.trans (.trans ?_ (Dev.moves_endPending _ _ _ _)) (Dev.posts_count _ _ _).moves)
      (Dev.moves_dropWaiting _ _)) (Dev.moves_endLost _ _)
    exact d.moves_modStored _ _

theorem Dev.moves_setPreempt (d : Dev) (p st : Nat) (f : Preempt → Preempt) : d.Moves (d.setPreempt p st f) := by
  have hstreams : ∀ s : Streams, d.Moves { d with streams := s } := fun _ => ⟨_, _, _, _, _, _, _, _, _, rfl⟩
  unfold Dev.setPreempt
  dsimp only
  split
  · exact hstreams _
  · exact (hstreams _).trans (Dev.posts_post _ _ _ _).moves

theorem Dev.moves_preemptLinkDown (d : Dev) (p : Nat) : d.Moves (d.preemptLinkDown p) := by
  unfold Dev.preemptLinkDown
  split
  · exact .refl d
  · exact d.moves_setPreempt _ _ _

theorem Dev.flushes_lagRemap (d : Dev) (g : Nat) : d.Flushes (d.lagRemap g) := by
  unfold Dev.lagRemap
  split
  · exact .refl d
  · dsimp only
    split
    · exact .refl d
    · exact ((d.flushes_fabric _).trans ((Dev.posts_countN _ _ _ _).trans (Dev.posts_post _ _ _ _)).flushes).trans
        (Dev.flushes_settleFabric _)

theorem Dev.flushes_lagPort (d : Dev) (p : Nat) : d.Flushes (d.lagPort p) := by
  refine .foldl (fun e x => ?_) _ d
  split
  · exact e.flushes_lagRemap _
  · exact .refl e

theorem Dev.moves_holdEnds (d : Dev) (p : Nat) : d.Moves (d.holdEnds p) := by
  have hport := (d.flushes_flushPort p).moves.trans (Dev.moves_modPort _ p (fun q => { q with hold := none, holdExpired := true }))
  exact (hport.trans ⟨_, _, _, _, _, _, _, _, _, rfl⟩).trans (Dev.posts_post _ _ _ _).moves

theorem Dev.moves_goDown (d : Dev) (p cause : Nat) : d.Moves (d.goDown p cause) := by
  unfold Dev.goDown
  extract_lets hold d1 d2
  have h1 : d.Moves d1 := ((d.moves_endReception p).trans (Dev.moves_loseSending _ _)).trans (Dev.moves_modPort _ _ _)
  have h2 : d1.Moves d2 :=
    (((Dev.posts_count _ _ _).trans (Dev.posts_post _ _ _ _)).moves.trans (Dev.moves_preemptLinkDown _ _)).trans
      (Dev.flushes_lagPort _ _).moves
  split
  · exact (h1.trans h2).trans (Dev.moves_holdEnds _ _)
  · exact h1.trans h2

/-- A link that goes down changes the units that carry frames, and what events and wakes change. -/
theorem Dev.moves_linkDown (d : Dev) (p cause : Nat) : d.Moves (linkDown p cause d) := by
  unfold linkDown
  split
  · exact d.moves_goDown p cause
  · exact .refl d

end Sys2Proof.Machine
end

section
/-! SUPPORT. What a domain is after its moves: prepared, asleep at its commit point, awake again (R342 to R352). -/

namespace Sys2Proof.Machine

open Sys2Proof

/-! ## What leaves the domains alone -/

theorem Dev.Posts.domains {d d' : Dev} (h : d.Posts d') : d'.lantern.domains = d.lantern.domains := h.flushes.domains

@[simp] theorem Dev.setPower_domains (d : Dev) (ps : PowerState) (src : Nat) :
    (d.setPower ps src).lantern.domains = d.lantern.domains := by
  unfold Dev.setPower
  split
  · rfl
  · exact (Dev.posts_post _ _ _ _).domains

@[simp] theorem Dev.settlePower_domains (d : Dev) : d.settlePower.lantern.domains = d.lantern.domains := by
  unfold Dev.settlePower
  split
  · exact d.setPower_domains _ _
  · rfl

@[simp] theorem Dev.driveStb_domains (d : Dev) (m : Domain) (standby : Bool) :
    (d.driveStb m standby).lantern.domains = d.lantern.domains := rfl

theorem Dev.domains_foldl {α : Type} {f : Dev → α → Dev} (hf : ∀ e x, (f e x).lantern.domains = e.lantern.domains) (l : List α) (d : Dev) :
    (l.foldl f d).lantern.domains = d.lantern.domains :=
  List.foldlRecOn (motive := fun e => e.lantern.domains = d.lantern.domains) l f rfl (fun e h x _ => (hf e x).trans h)

@[simp] theorem Dev.canToSleep_domains (d : Dev) (n k : Nat) : (d.canToSleep n k).lantern.domains = d.lantern.domains := by
  unfold Dev.canToSleep
  split
  · rfl
  · exact (Dev.posts_countN _ _ _ _).domains

@[simp] theorem Dev.canRejoin_domains (d : Dev) (k : Nat) : (d.canRejoin k).lantern.domains = d.lantern.domains := rfl

/-! ## A domain's moves -/

theorem Dev.modDomain_find (d : Dev) (n : Nat) (f : Domain → Domain) :
    tabFind (d.modDomain n f).lantern.domains n = (tabFind d.lantern.domains n).map f := tabFind_upd_same _ _ _

section
variable {d : Dev} {n : Nat} {m : Domain}

theorem Dev.setDomain_find (hm : tabFind d.lantern.domains n = some m) (st : DomainState) (src : Nat) :
    tabFind (d.setDomain n st src).lantern.domains n = some { m with state := st } := by
  simp only [Dev.setDomain, hm]
  rw [Dev.settlePower_domains]
  refine (congrArg (fun t => tabFind t n) (Dev.posts_post _ _ _ _).domains).trans ?_
  rw [Dev.modDomain_find, hm, Option.map_some]

/-- A domain that goes to PREPARE waits PREPARE_MS, no indication sent yet (R344). -/
theorem Dev.prepare_find (hm : tabFind d.lantern.domains n = some m) :
    tabFind (d.prepare n).lantern.domains n = some { m with
      state := .prepare, prepareEnd := d.uptime + ms m.prepareMs, indSent := 0, indDone := 0, firstRun := none } := by
  unfold Dev.prepare
  rw [Dev.modDomain_find, Dev.setDomain_find hm, Option.map_some]

/-- At its commit point a domain is ASLEEP (R345). -/
theorem Dev.commitSleep_find (hm : tabFind d.lantern.domains n = some m) (m0 : Domain) :
    tabFind (d.commitSleep n m0).lantern.domains n = some { m with state := .asleep, commitAt := d.uptime } := by
  unfold Dev.commitSleep
  dsimp only
  rw [Dev.driveStb_domains, Dev.domains_foldl (fun e k => by split; exacts [e.canToSleep_domains n k, rfl]),
    Dev.domains_foldl (fun e p => (e.flushes_flushPort p).domains), Dev.modDomain_find, (Dev.posts_count _ _ _).domains,
    Dev.setDomain_find hm, Option.map_some]

/-- A domain that is in service again is AWAKE. -/
theorem Dev.domainAwake_find (hm : tabFind d.lantern.domains n = some m) (m0 : Domain) :
    tabFind (d.domainAwake n m0).lantern.domains n = some { m with state := .awake } := by
  unfold Dev.domainAwake
  dsimp only
  rw [Dev.domains_foldl (fun e k => by split; exacts [e.canRejoin_domains k, rfl])]
  exact Dev.setDomain_find (d := d.driveStb m0 false) hm _ _

theorem Dev.domainAwake_uptime (d : Dev) (n : Nat) (m : Domain) : (d.domainAwake n m).uptime = d.uptime := by
  have hset : ((d.driveStb m false).setDomain n .awake m.wakeSource).uptime = d.uptime := (Dev.stirs_setDomain _ _ _ _).uptime
  unfold Dev.domainAwake
  refine List.foldlRecOn (motive := fun e : Dev => e.uptime = d.uptime) _ _ hset (fun e he k _ => ?_)
  split
  · exact he
  · exact he

end

/-! ## The timers of a domain -/

section
variable {d : Dev} {n : Nat} {m : Domain} (hm : tabFind d.lantern.domains n = some m)
include hm

/-- A keep-alive timer that has run out prepares a domain without a hold (R342). -/
theorem keepAliveTimeout_eq :
    keepAliveTimeout n d =
      if m.state = .awake ∧ m.firstRun.isNone ∧ d.over m.kaDeadline = true ∧ d.domainHold n m = false then d.prepare n else d := by
  simp only [keepAliveTimeout, hm]

theorem noTrafficTimeout_none (hfirst : m.firstRun = none) : noTrafficTimeout n d = d := by
  simp only [noTrafficTimeout, hm, hfirst]

/-- The first run after a class B wake that ends without a keep-alive prepares the domain (R351). -/
theorem noTrafficTimeout_find (hfirst : m.firstRun.isSome = true) (hawake : m.state = .awake) (hover : d.over m.kaDeadline = true)
    (hhold : d.domainHold n m = false) : ∃ m', tabFind (noTrafficTimeout n d).lantern.domains n = some m' ∧ m'.state = .prepare := by
  obtain ⟨src, hsrc⟩ := Option.isSome_iff_exists.mp hfirst
  simp only [noTrafficTimeout, hm, hsrc]
  rw [if_pos ⟨hawake, hover, hhold⟩, (Dev.posts_post _ _ _ _).domains, (Dev.posts_count _ _ _).domains]
  exact ⟨_, Dev.prepare_find hm, rfl⟩

theorem prepareExpiry_eq :
    prepareExpiry n d =
      if m.state = .prepare ∧ m.indSent = 0 ∧ m.prepareEnd ≤ d.uptime then
        (if m.indCount == 0 then d.commitSleep n m else d.sendIndication n m)
      else d := by
  simp only [prepareExpiry, hm]

theorem indicationSend_eq :
    indicationSend n d =
      if m.state = .prepare ∧ 0 < m.indSent ∧ m.indSent < m.indCount ∧ m.indDue m.indSent ≤ d.uptime then d.sendIndication n m else d := by
  simp only [indicationSend, hm]

theorem sleepCommit_eq :
    sleepCommit n d = if m.state = .prepare ∧ 0 < m.indCount ∧ m.indCount ≤ m.indDone then d.commitSleep n m else d := by
  simp only [sleepCommit, hm]

theorem indicationTimeout_eq :
    indicationTimeout n d =
      if m.state = .prepare ∧ m.indDone < m.indSent ∧ d.over (m.indDue m.indDone + ms 100) = true then
        (d.count 12 (n * 8 + 5)).commitSleep n m
      else d := by
  simp only [indicationTimeout, hm]

theorem wakeExit_settling (h : m.state ≠ .waking ∨ (m.stbMask ≠ 0 ∧ d.uptime < m.wakeAt + m.settleUs * 1000)) : wakeExit n d = d := by
  simp only [wakeExit, hm]
  exact if_pos h

/-- A domain that has settled is AWAKE, its timer at NO_TRAFFIC_MS after a class B wake, else at KA_TIMEOUT_MS (R351, R352). -/
theorem wakeExit_find (hwaking : m.state = .waking) (hsettled : m.stbMask = 0 ∨ m.wakeAt + m.settleUs * 1000 ≤ d.uptime) :
    ∃ m', tabFind (wakeExit n d).lantern.domains n = some m' ∧ m'.state = .awake ∧
      m'.kaDeadline = d.uptime + ms (if m.wakeSource < 34 then m.noTrafficMs else m.kaTimeoutMs) := by
  have hgo : ¬(m.state ≠ .waking ∨ (m.stbMask ≠ 0 ∧ d.uptime < m.wakeAt + m.settleUs * 1000)) := by
    rintro (h | ⟨hpins, hearly⟩)
    · exact h hwaking
    · exact hsettled.elim hpins (by omega)
  simp only [wakeExit, hm]
  rw [if_neg hgo]
  split
  · rw [Dev.modDomain_find, Dev.domainAwake_find hm]
    exact ⟨_, rfl, rfl, rfl⟩
  · unfold Dev.restartKeepAlive
    rw [Dev.modDomain_find, Dev.domainAwake_find hm, Dev.domainAwake_uptime]
    exact ⟨_, rfl, rfl, rfl⟩

end

end Sys2Proof.Machine
end

section
/-! SUPPORT. Wakes: what they leave of the holds and the latched wakes, that none of them leads into DOZE, when a pattern passes, and
what the device is when its entry into a sleep completes (R336 to R352). -/

namespace Sys2Proof.Machine

open Sys2Proof

/-! ## What a wake leaves alone -/

/-- Holds and latched wakes are as before, and the device is in DOZE only where it was. -/
structure Dev.Rouses (d d' : Dev) : Prop where
  holds : d'.lantern.holds = d.lantern.holds
  latched : d'.lantern.latched = d.lantern.latched
  doze : d'.lantern.power = .doze → d.lantern.power = .doze

theorem Dev.Rouses.refl (d : Dev) : d.Rouses d := ⟨rfl, rfl, id⟩

theorem Dev.Rouses.trans {a b c : Dev} (h1 : a.Rouses b) (h2 : b.Rouses c) : a.Rouses c :=
  ⟨h2.holds.trans h1.holds, h2.latched.trans h1.latched, h1.doze ∘ h2.doze⟩

theorem Dev.Posts.rouses {d d' : Dev} (h : d.Posts d') : d.Rouses d' := by
  obtain ⟨_, _, _, rfl⟩ := h
  exact ⟨rfl, rfl, id⟩

theorem Dev.Rouses.foldl {α : Type} {f : Dev → α → Dev} (hf : ∀ (e : Dev) x, e.Rouses (f e x)) (l : List α) (d : Dev) :
    d.Rouses (l.foldl f d) := List.foldlRecOn l f (.refl d) (fun e h x _ => h.trans (hf e x))

theorem awakePower_ne_doze (l : Lantern) : awakePower l ≠ .doze := by
  unfold awakePower
  split <;> decide

theorem Dev.rouses_setPower (d : Dev) {ps : PowerState} (src : Nat) (hps : ps ≠ .doze) : d.Rouses (d.setPower ps src) := by
  unfold Dev.setPower
  split
  · exact .refl d
  · exact .trans (b := { d with lantern := { d.lantern with power := ps }, twin := { d.twin with sleepDirty := true } })
      ⟨rfl, rfl, fun h => absurd h hps⟩ (Dev.posts_post _ _ _ _).rouses

theorem Dev.rouses_settlePower (d : Dev) : d.Rouses d.settlePower := by
  unfold Dev.settlePower
  split
  · exact d.rouses_setPower 0 (awakePower_ne_doze _)
  · exact .refl d

theorem Dev.rouses_modDomain (d : Dev) (n : Nat) (f : Domain → Domain) : d.Rouses (d.modDomain n f) := ⟨rfl, rfl, id⟩

theorem Dev.rouses_setDomain (d : Dev) (n : Nat) (st : DomainState) (src : Nat) : d.Rouses (d.setDomain n st src) := by
  unfold Dev.setDomain
  split
  · exact .refl d
  · extract_lets d1
    have h1 : d.Rouses d1 := (d.rouses_modDomain _ _).trans (Dev.posts_post _ _ _ _).rouses
    refine .trans ?_ (Dev.rouses_settlePower _)
    exact h1.trans ⟨rfl, rfl, id⟩

theorem Dev.rouses_cancelSleep (d : Dev) (n : Nat) : d.Rouses (d.cancelSleep n) :=
  (((d.rouses_setDomain n .awake 0).trans (Dev.rouses_modDomain _ _ _)).trans (Dev.rouses_modDomain _ _ _)).trans
    (Dev.posts_count _ _ _).rouses

theorem Dev.rouses_beginWaking (d : Dev) (n src : Nat) : d.Rouses (d.beginWaking n src) := by
  unfold Dev.beginWaking
  extract_lets d1
  have h1 : d.Rouses d1 := by
    simp only [d1]
    split
    · exact ⟨rfl, rfl, id⟩
    · exact .refl d
  exact ((h1.trans (d1.rouses_setDomain _ _ _)).trans (Dev.rouses_modDomain _ _ _)).trans (Dev.posts_count _ _ _).rouses

theorem Dev.rouses_noteWake (d : Dev) (src : Nat) : d.Rouses (d.noteWake src) := ⟨rfl, rfl, id⟩

theorem Dev.posts_postDeferred (d : Dev) : d.Posts d.postDeferred :=
  .trans ⟨_, [], [], by rw [List.append_nil]⟩
    (List.foldlRecOn _ _ (.refl _) (fun e h _ _ => h.trans (e.posts_postAt _ _ _ _)))

/-- Out of DOZE the device is in RUN or PARTIAL. -/
theorem Dev.leaveDoze_power (d : Dev) (src : Nat) : (d.leaveDoze src).lantern.power = awakePower d.lantern := by
  unfold Dev.leaveDoze
  obtain ⟨_, _, _, h⟩ := (Dev.posts_postDeferred _).trans (Dev.posts_post
    (Dev.postDeferred { d with lantern := { d.lantern with power := awakePower d.lantern, dozeSince := 0 } }) 0x0C01
    (powerCode (awakePower d.lantern)) (powerCode .doze + src * 2 ^ 8))
  exact congrArg (fun e : Dev => e.lantern.power) h

theorem Dev.rouses_leaveDoze (d : Dev) (src : Nat) : d.Rouses (d.leaveDoze src) :=
  .trans (b := { d with lantern := { d.lantern with power := awakePower d.lantern, dozeSince := 0 } })
    ⟨rfl, rfl, fun h => absurd h (awakePower_ne_doze _)⟩ ((Dev.posts_postDeferred _).trans (Dev.posts_post _ _ _ _)).rouses

theorem Dev.latchWake_holds (d : Dev) (target src : Nat) : (d.latchWake target src).lantern.holds = d.lantern.holds := by
  unfold Dev.latchWake
  dsimp only
  split
  · exact (Dev.posts_count _ _ _).rouses.holds
  · rfl

/-- A wake leaves the holds as they are. -/
theorem Dev.wake_holds (d : Dev) (target src : Nat) : (d.wake target src).lantern.holds = d.lantern.holds := by
  unfold Dev.wake
  extract_lets d1
  have h1 : d1.lantern.holds = d.lantern.holds := by
    simp only [d1]
    split
    · exact ((d.rouses_noteWake src).trans (Dev.rouses_leaveDoze _ src)).holds
    · rfl
  split
  · exact d.latchWake_holds _ _
  · split
    · exact h1
    · split
      · exact h1
      · exact h1
      · split
        · exact (d1.latchWake_holds _ _).trans h1
        · exact (d1.rouses_cancelSleep _).holds.trans h1
      · split
        · exact ((d1.rouses_noteWake _).trans (Dev.rouses_beginWaking _ _ _)).holds.trans h1
        · exact (d1.latchWake_holds _ _).trans h1

/-! ## Latched wakes (R347) -/

theorem Dev.rouses_serveLatched (d : Dev) (x : Nat × Nat × Nat) : d.Rouses (d.serveLatched x) := by
  unfold Dev.serveLatched
  have hnoted : ∀ l : Lantern, l.holds = d.lantern.holds → l.latched = d.lantern.latched → l.power = d.lantern.power →
      d.Rouses { d with lantern := l } := fun _ hh hl hp => ⟨hh, hl, fun h => hp.symm.trans h⟩
  extract_lets d1
  have h2 := hnoted { d1.lantern with lastWakeTime := d.now - (d.uptime - x.2.2) } rfl rfl rfl
  split
  · split
    · exact h2.trans (Dev.rouses_beginWaking _ _ _)
    · exact h2
  · exact h2

/-- The target of a latched wake is a domain that prepares. -/
def Dev.preparing (d : Dev) (y : Nat × Nat × Nat) : Bool :=
  match tabFind d.lantern.domains y.1 with
  | some m => decide (m.state = .prepare)
  | none => false

theorem Dev.preparing_iff (d : Dev) (y : Nat × Nat × Nat) :
    d.preparing y = true ↔ ∃ m, tabFind d.lantern.domains y.1 = some m ∧ m.state = .prepare := by
  unfold Dev.preparing
  split
  · rename_i m hm
    simp [hm]
  · rename_i hnone
    simp [hnone]

theorem latchedServe_eq {d : Dev} {x : Nat × Nat × Nat} {t : List (Nat × Nat × Nat)} (hl : d.lantern.latched = x :: t) :
    latchedServe d =
      if d.lantern.entry.isSome || decide (d.lantern.power = .dormant) || (x :: t).any d.preparing then d
      else
        (x :: t).foldl (fun e y => e.serveLatched y)
          (if d.lantern.power = .doze then ({ d with lantern := { d.lantern with latched := [] } } : Dev).leaveDoze x.2.1
           else { d with lantern := { d.lantern with latched := [] } }) := by
  unfold latchedServe
  rw [hl]
  rfl

/-- A latched wake waits while the device enters a sleep, is in DORMANT, or a target still prepares. -/
theorem latchedServe_waits {d : Dev} (h : d.lantern.latched = [] ∨ d.lantern.entry.isSome = true ∨ d.lantern.power = .dormant ∨
    ∃ y ∈ d.lantern.latched, ∃ m, tabFind d.lantern.domains y.1 = some m ∧ m.state = .prepare) : latchedServe d = d := by
  cases hl : d.lantern.latched with
  | nil =>
    unfold latchedServe
    rw [hl]
  | cons x t =>
    rw [latchedServe_eq hl]
    refine if_pos ?_
    rw [hl] at h
    rcases h with h | h | h | ⟨y, hy, hprep⟩
    · cases h
    · rw [h]
      rfl
    · rw [decide_eq_true h, Bool.or_true, Bool.true_or]
    · rw [List.any_eq_true.mpr ⟨y, hy, (d.preparing_iff y).mpr hprep⟩, Bool.or_true]

/-- Every latched wake is served at one exit, after which the device is not in DOZE. -/
theorem latchedServe_serves {d : Dev} (hsome : d.lantern.latched ≠ []) (hentry : d.lantern.entry = none)
    (hpower : d.lantern.power ≠ .dormant)
    (hready : ∀ y ∈ d.lantern.latched, ∀ m, tabFind d.lantern.domains y.1 = some m → m.state ≠ .prepare) :
    (latchedServe d).lantern.latched = [] ∧ (latchedServe d).lantern.power ≠ .doze := by
  obtain ⟨x, t, hl⟩ := List.exists_cons_of_ne_nil hsome
  have hnone : (x :: t).any d.preparing = false := by
    rw [List.any_eq_false]
    intro y hy hprep
    obtain ⟨m, hm, hstate⟩ := (d.preparing_iff y).mp hprep
    exact hready y (hl ▸ hy) m hm hstate
  rw [latchedServe_eq hl, hentry, decide_eq_false hpower, hnone]
  simp only [Option.isSome_none, Bool.or_self, Bool.false_eq_true, if_false]
  split
  · have hrouses := Dev.Rouses.foldl Dev.rouses_serveLatched (x :: t)
      (({ d with lantern := { d.lantern with latched := [] } } : Dev).leaveDoze x.2.1)
    refine ⟨hrouses.latched.trans (Dev.rouses_leaveDoze _ _).latched, fun hdoze => ?_⟩
    exact awakePower_ne_doze _ ((Dev.leaveDoze_power _ _).symm.trans (hrouses.doze hdoze))
  · rename_i hawake
    have hrouses := Dev.Rouses.foldl Dev.rouses_serveLatched (x :: t) { d with lantern := { d.lantern with latched := [] } }
    exact ⟨hrouses.latched, fun hdoze => hawake (hrouses.doze hdoze)⟩

/-! ## The entry into a sleep (R336, R338, R339) -/

theorem Dev.setPower_power (d : Dev) (ps : PowerState) (src : Nat) : (d.setPower ps src).lantern.power = ps := by
  unfold Dev.setPower
  split
  · assumption
  · obtain ⟨_, _, _, h⟩ := Dev.posts_post
      ({ d with lantern := { d.lantern with power := ps }, twin := { d.twin with sleepDirty := true } } : Dev) 0x0C01 (powerCode ps)
      (powerCode d.lantern.power + src * 2 ^ 8)
    exact congrArg (fun e : Dev => e.lantern.power) h

theorem Dev.enterSleep_power (d : Dev) (ps : PowerState) : (d.enterSleep ps).lantern.power = ps := d.setPower_power ps 0

theorem Dev.enterSleep_entry (d : Dev) (ps : PowerState) : (d.enterSleep ps).lantern.entry = none := rfl

theorem Dev.enterSleep_dozeSince (d : Dev) (ps : PowerState) : (d.enterSleep ps).lantern.dozeSince = d.uptime := rfl

theorem Dev.storeUse_uptime (d : Dev) : d.storeUse.uptime = d.uptime := by
  unfold Dev.storeUse
  exact List.foldlRecOn (motive := fun e : Dev => e.uptime = d.uptime) _ _ rfl (fun _ he _ _ => he)

theorem Dev.stopEngines_uptime (d : Dev) : d.stopEngines.uptime = d.uptime := by
  obtain ⟨e, he, hflushes⟩ : ∃ e, (List.range 96).foldl (fun e p => (Dev.flushPort e p).2) d = e ∧ d.Flushes e :=
    ⟨_, rfl, .foldl Dev.flushes_flushPort _ d⟩
  rw [Dev.stopEngines, he]
  exact hflushes.uptime

theorem Dev.moves_dozePorts (d : Dev) : d.Moves d.dozePorts := by
  refine .foldl (fun e p => ?_) _ d
  extract_lets keep c
  split
  · exact .refl e
  · exact e.moves_free.trans (Dev.moves_linkDown _ _ _)

/-- With its entry completed the device is in DOZE, from this instant. -/
theorem dozeComplete_enters {d : Dev} {t : Nat} (he : d.lantern.entry = some (.doze, t)) :
    (dozeComplete d).lantern.power = .doze ∧ (dozeComplete d).lantern.entry = none ∧ (dozeComplete d).lantern.dozeSince = d.uptime := by
  have hup : ((d.stopEngines.storeUse.dozePorts).count 12 256).uptime = d.uptime := by
    rw [(Dev.posts_count _ _ _).uptime, (Dev.moves_dozePorts _).uptime, Dev.storeUse_uptime, Dev.stopEngines_uptime]
  unfold dozeComplete
  rw [he]
  exact ⟨Dev.enterSleep_power _ _, Dev.enterSleep_entry _ _, (Dev.enterSleep_dozeSince _ _).trans hup⟩

/-- With its entry completed the device is in DORMANT, and holds nothing volatile. -/
theorem dormantComplete_enters {d : Dev} {t : Nat} (he : d.lantern.entry = some (.dormant, t)) :
    (dormantComplete d).lantern.power = .dormant ∧ (dormantComplete d).lantern.entry = none ∧ (dormantComplete d).ports = [] ∧
      (dormantComplete d).fabric = fabric0 ∧ (dormantComplete d).lantern.keptGeneration = d.txn.generation := by
  obtain ⟨d1, hd1, hpower, hentry⟩ : ∃ d1, (d.storeUse.count 12 257).enterSleep .dormant = d1 ∧ d1.lantern.power = .dormant ∧
      d1.lantern.entry = none := ⟨_, rfl, Dev.enterSleep_power _ _, Dev.enterSleep_entry _ _⟩
  unfold dormantComplete
  rw [he]
  dsimp only
  rw [hd1]
  exact ⟨hpower, hentry, rfl, rfl, rfl⟩

/-! ## Wake patterns (R350) -/

section
variable {src : Nat} {phases : List (Bool × Nat)} {w : WakeCfg}

/-- A pattern of the right levels, each for 1.1 of FILTER_US, passes. -/
theorem wakePasses_of_long (hlevels : phases.map (fun x => x.1) = wakeLevels src w) (hlong : ∀ x ∈ phases, w.filterUs * 1100 ≤ x.2)
    (hsum : (phases.dropLast.map (fun x => x.2)).sum ≤ 5 * w.filterUs * 1000) (draw : Nat) : wakePasses src w phases draw = true := by
  have hall : phases.zipIdx.all (fun x => phasePasses w.filterUs x.1.2 (draw + x.2)) = true := by
    rw [List.all_eq_true, List.forall_mem_zipIdx']
    exact fun i hi => if_pos (hlong _ (List.getElem_mem hi))
  rw [wakePasses, decide_eq_true hlevels, hall, decide_eq_true hsum]
  rfl

/-- A pattern of other levels, or with a phase of no more than 0.9 of FILTER_US, does not. -/
theorem wakePasses_of_short (hfilter : 0 < w.filterUs)
    (hbad : phases.map (fun x => x.1) ≠ wakeLevels src w ∨ ∃ x ∈ phases, x.2 ≤ w.filterUs * 900) (draw : Nat) :
    wakePasses src w phases draw = false := by
  rcases hbad with hlevels | ⟨x, hx, hshort⟩
  · rw [wakePasses, decide_eq_false hlevels]
    rfl
  · have hany : phases.zipIdx.all (fun x => phasePasses w.filterUs x.1.2 (draw + x.2)) = false := by
      obtain ⟨i, hi, rfl⟩ := List.mem_iff_getElem.mp hx
      rw [List.all_eq_false, List.exists_mem_zipIdx']
      refine ⟨i, hi, ?_⟩
      have hlong : ¬w.filterUs * 1100 ≤ phases[i].2 := by omega
      rw [phasePasses, if_neg hlong, if_pos hshort]
      decide
    rw [wakePasses, hany, Bool.and_false]
    rfl

end

end Sys2Proof.Machine
end

section
/-! SUPPORT. What a shown pattern does (R350), and the answers of the power commands. -/

namespace Sys2Proof.Machine

open Sys2Proof

/-! ## WAKE_PATTERN_DETECTED -/

section
variable {d : Dev} {src : Nat} {phases : List (Bool × Nat)} {w : WakeCfg} (hw : tabFind d.lantern.wake src = some w)
include hw

/-- A disabled source, one of class B, and phases that do not begin its pattern do nothing. -/
theorem wakePattern_ignored
    (h : w.enable = false ∨ src < 34 ∨ (phases.map (fun x => x.1)).head? ≠ (wakeLevels src w).head?) : wakePattern src phases d = d := by
  simp only [wakePattern, hw]
  refine if_pos ?_
  rcases h with h | h | h
  · rw [h]
    rfl
  · have hport : ¬34 ≤ src := by omega
    have hpin : ¬0x100 ≤ src := by omega
    rw [decide_eq_false hport, decide_eq_false hpin]
    simp
  · rw [decide_eq_true h, Bool.or_true]

/-- What an enabled class A source does with phases that begin its pattern. -/
theorem wakePattern_eq (henable : w.enable = true) (hsrc : (34 ≤ src ∧ src < 90) ∨ (0x100 ≤ src ∧ src < 0x110))
    (hhead : (phases.map (fun x => x.1)).head? = (wakeLevels src w).head?) :
    wakePattern src phases d =
      if wakePasses src w phases d.freeIx = false then
        ({ d with freeIx := d.freeIx + phases.length } : Dev).count 12 (if src < 90 then 512 + src else 608 + (src - 0x100))
      else if 0x100 ≤ src then ({ d with freeIx := d.freeIx + phases.length } : Dev).wake w.target src
      else match d.domainOf src with
        | some n =>
          if d.portSleeping src = true then ({ d with freeIx := d.freeIx + phases.length } : Dev).wake n src
          else { d with freeIx := d.freeIx + phases.length }
        | none => { d with freeIx := d.freeIx + phases.length } := by
  have hclass : (!w.enable || !(decide (34 ≤ src) && decide (src < 90) || decide (0x100 ≤ src) && decide (src < 0x110)) ||
      decide ((phases.map (fun x => x.1)).head? ≠ (wakeLevels src w).head?)) = false := by
    rw [henable, decide_eq_false (not_not_intro hhead)]
    simpa only [Bool.not_true, Bool.false_or, Bool.or_false, Bool.not_eq_false', Bool.or_eq_true, Bool.and_eq_true,
      decide_eq_true_eq] using hsrc
  have hport : (decide (34 ≤ src) && decide (src < 90)) = decide (src < 90) := by
    rw [Bool.and_eq_right_iff_imp, decide_eq_true_iff, decide_eq_true_iff]
    omega
  have hpin : (decide (0x100 ≤ src) && decide (src < 0x110)) = decide (0x100 ≤ src) := by
    rw [Bool.and_eq_left_iff_imp, decide_eq_true_iff, decide_eq_true_iff]
    omega
  simp only [wakePattern, hw]
  rw [hclass, hport, hpin]
  simp only [Bool.false_eq_true, if_false, Bool.not_eq_true', decide_eq_true_eq]
  rfl

end

/-! ## The commands -/

theorem tabHas_put_same {α : Type} (t : Tab α) (i : Nat) (v : α) : tabHas (tabPut t i v) i = true := by simp [tabHas]

theorem tabHas_del_same {α : Type} (t : Tab α) (i : Nat) : tabHas (tabDel t i) i = false := by simp [tabHas, tabFind_del_same]

/-- HOLDS of PWR_STATUS has seven bits. -/
theorem Dev.deviceHolds_lt (d : Dev) : d.deviceHolds < 128 := by
  have hbit : ∀ b : Bool, b2n b ≤ 1 := by decide
  unfold Dev.deviceHolds
  have h0 := hbit (d.cask.sessions.any (fun x => x.2.holds))
  have h1 := hbit (d.txn.txn.isSome || d.txn.committing.isSome)
  have h2 := hbit d.updateHold
  have h3 := hbit (d.time.pins.any (fun x => x.2.holds) || !d.cupola.pins.isEmpty)
  have h4 := hbit (tabHas d.lantern.holds 32)
  have h5 := hbit d.lantern.hostActive
  have h6 := hbit d.portHold
  omega

theorem Dev.powerStatus_length (d : Dev) : d.powerStatus.length = 64 := by
  unfold Dev.powerStatus
  simp only [List.length_append, leb_length, zeros_length, t80le_length]
  rw [length_flatMap_of_const _ _ 1 (fun _ _ => leb_length _ _), List.length_range]

/-- PWR_STATUS begins with the power state. -/
theorem Dev.powerStatus_state (d : Dev) : byteAt d.powerStatus 0 = powerCode d.lantern.power := by
  have hcode : ∀ ps, powerCode ps % 256 = powerCode ps := by intro ps; cases ps <;> rfl
  unfold Dev.powerStatus
  simp only [List.append_assoc]
  rw [byteAt_append, if_pos (by simp), byteAt_leb_one, hcode]

/-- PWR_STATUS carries HOLDS at offset 2. -/
theorem Dev.powerStatus_holds (d : Dev) : le d.powerStatus 2 2 = d.deviceHolds := by
  unfold Dev.powerStatus
  simp only [List.append_assoc]
  rw [le_append_right _ _ (by simp), le_append_right _ _ (by simp)]
  exact le_count_head (lt_trans d.deviceHolds_lt (by decide)) _

end Sys2Proof.Machine
end

section
/-! The statement about domains, DOZE and DORMANT, wakes and the power commands. -/

namespace Sys2Proof.Machine

open Sys2Proof

theorem Dev.over_false {d : Dev} {t : Nat} (h : d.uptime ≤ t) : d.over t = false := decide_eq_false (by omega)

theorem Dev.over_true {d : Dev} {t : Nat} (h : t < d.uptime) : d.over t = true := decide_eq_true h

/-- With every domain asleep and no hold, the device begins its entry (R336). -/
theorem deviceSleepEntry_enters {d : Dev} (hstage : d.host.stage = .run)
    (hpower : d.lantern.power = .run ∨ d.lantern.power = .partialRun) (hentry : d.lantern.entry = none) (htarget : d.lantern.target ≠ 0)
    (hasleep : d.lantern.domains.all (fun x => decide (x.2.state = .asleep)) = true) (hholds : d.deviceHolds = 0) :
    deviceSleepEntry d =
      { d with lantern := { d.lantern with entry := some (if d.lantern.target == 2 then .dormant else .doze, d.uptime) } } :=
  if_pos ⟨hstage, hpower, by rw [hentry]; rfl, htarget, hasleep, hholds⟩

/-- Settles O55, from what each timer, entry, wake and command does with the domain or the part of Lantern it is about. -/
theorem powerActsAsRuled : Obligations.PowerActsAsRuled := by
  unfold Obligations.PowerActsAsRuled
  refine ⟨fun s n m hm => ⟨?_, ?_, ?_, ?_, ?_, ?_, ?_, ?_, ?_, ?_, ?_, ?_, ?_, ?_⟩,
    fun s => ⟨?_, ?_, ?_, ?_, ?_, ?_, ?_, ?_, ?_, ?_, ?_, ?_, ?_, ?_, ?_, ?_, ?_⟩, ?_, ?_, ?_, ?_, ?_, ?_⟩
  · intro h
    have hrun : Runs (.keepAliveTimeout n) s (keepAliveTimeout n s.dev) := rfl
    refine runs_of_eq hrun ((keepAliveTimeout_eq hm).trans (if_neg ?_))
    rintro ⟨hawake, hfirst, hover, hhold⟩
    rcases h with h | h | h | h
    · exact h hawake
    · simp_all
    · simp [Dev.over_false h] at hover
    · simp [h] at hhold
  · intro hawake hfirst hover hhold
    have hrun : Runs (.keepAliveTimeout n) s (keepAliveTimeout n s.dev) := rfl
    have heq := (keepAliveTimeout_eq hm).trans
      (if_pos ⟨hawake, by rw [hfirst]; rfl, Dev.over_true hover, hhold⟩)
    exact ⟨_, _, runs_of_eq hrun heq, Dev.prepare_find hm, rfl, rfl, rfl⟩
  · intro hfirst
    have hrun : Runs (.noTrafficTimeout n) s (noTrafficTimeout n s.dev) := rfl
    exact runs_of_eq hrun (noTrafficTimeout_none hm hfirst)
  · intro hfirst hawake hover hhold
    obtain ⟨m', hfind, hstate⟩ := noTrafficTimeout_find hm hfirst hawake (Dev.over_true hover) hhold
    exact ⟨_, m', rfl, hfind, hstate⟩
  · intro h
    have hrun : Runs (.prepareExpiry n) s (prepareExpiry n s.dev) := rfl
    refine runs_of_eq hrun ((prepareExpiry_eq hm).trans (if_neg ?_))
    rintro ⟨hprep, hsent, hend⟩
    exact h.elim (· hprep) (·.elim (· hsent) (by omega))
  · intro hprep hsent hend
    have hrun : Runs (.prepareExpiry n) s (prepareExpiry n s.dev) := rfl
    have heq := (prepareExpiry_eq hm).trans (if_pos ⟨hprep, hsent, hend⟩)
    refine ⟨fun hnone => ?_, fun hsome => runs_of_eq hrun (heq.trans (if_neg (by simpa using hsome)))⟩
    exact ⟨_, _, runs_of_eq hrun (heq.trans (if_pos (by simpa using hnone))), Dev.commitSleep_find hm m, rfl, rfl⟩
  · intro hprep hsent hmore hdue
    have hrun : Runs (.sleepIndicationSend n) s (indicationSend n s.dev) := rfl
    exact runs_of_eq hrun ((indicationSend_eq hm).trans (if_pos ⟨hprep, hsent, hmore, hdue⟩))
  · intro hearly
    have hrun : Runs (.sleepIndicationSend n) s (indicationSend n s.dev) := rfl
    refine runs_of_eq hrun ((indicationSend_eq hm).trans (if_neg ?_))
    rintro ⟨_, _, _, hdue⟩
    omega
  · intro hprep hcount hdone
    have hrun : Runs (.sleepCommitPoint n) s (sleepCommit n s.dev) := rfl
    exact ⟨_, _, runs_of_eq hrun ((sleepCommit_eq hm).trans (if_pos ⟨hprep, hcount, hdone⟩)), Dev.commitSleep_find hm m, rfl, rfl⟩
  · intro hopen
    have hrun : Runs (.sleepCommitPoint n) s (sleepCommit n s.dev) := rfl
    refine runs_of_eq hrun ((sleepCommit_eq hm).trans (if_neg ?_))
    rintro ⟨_, _, hdone⟩
    omega
  · intro hprep hopen hlate
    have hrun : Runs (.indicationTimeout n) s (indicationTimeout n s.dev) := rfl
    exact ⟨_, _, runs_of_eq hrun ((indicationTimeout_eq hm).trans (if_pos ⟨hprep, hopen, Dev.over_true hlate⟩)),
      Dev.commitSleep_find (d := s.dev.count 12 (n * 8 + 5)) hm m, rfl⟩
  · intro hearly
    have hrun : Runs (.indicationTimeout n) s (indicationTimeout n s.dev) := rfl
    refine runs_of_eq hrun ((indicationTimeout_eq hm).trans (if_neg ?_))
    rintro ⟨_, _, hlate⟩
    simp [Dev.over_false hearly] at hlate
  · intro h
    have hrun : Runs (.wakeExitComplete n) s (wakeExit n s.dev) := rfl
    exact runs_of_eq hrun (wakeExit_settling hm h)
  · intro hwaking hsettled
    obtain ⟨m', hfind, hstate, hdeadline⟩ := wakeExit_find hm hwaking hsettled
    exact ⟨_, m', rfl, hfind, hstate, hdeadline⟩
  · intro hstage hpower hentry htarget hasleep hholds
    have hrun : Runs .deviceSleepEntry s (deviceSleepEntry s.dev) := rfl
    have hall : s.dev.lantern.domains.all (fun x => decide (x.2.state = .asleep)) = true :=
      List.all_eq_true.mpr (fun x hx => decide_eq_true (hasleep x hx))
    refine ⟨_, runs_of_eq hrun (deviceSleepEntry_enters hstage hpower hentry htarget hall hholds), ?_⟩
    simp only [beq_iff_eq]
  · intro h
    have hrun : Runs .deviceSleepEntry s (deviceSleepEntry s.dev) := rfl
    refine runs_of_eq hrun (if_neg ?_)
    rintro ⟨_, _, hentry, htarget, _, hholds⟩
    rcases h with h | h | h
    · exact htarget h
    · exact h hholds
    · simp_all
  · intro hentry
    have hdoze : Runs .dozeEntryComplete s (dozeComplete s.dev) := rfl
    have hdormant : Runs .dormantEntryComplete s (dormantComplete s.dev) := rfl
    exact ⟨runs_of_eq hdoze (by rw [dozeComplete, hentry]), runs_of_eq hdormant (by rw [dormantComplete, hentry])⟩
  · intro t hentry
    exact ⟨_, rfl, dozeComplete_enters hentry⟩
  · intro t hentry
    exact ⟨_, rfl, dormantComplete_enters hentry⟩
  · intro hpower hentry htarget hafter hover
    have hrun : Runs .dormantAfterExpiry s (dormantAfter s.dev) := rfl
    exact runs_of_eq hrun (if_pos ⟨hpower, by rw [hentry]; rfl, htarget, hafter, Dev.over_true hover⟩)
  · intro h
    have hrun : Runs .dormantAfterExpiry s (dormantAfter s.dev) := rfl
    refine runs_of_eq hrun (if_neg ?_)
    rintro ⟨_, _, _, hafter, hover⟩
    rcases h with h | h
    · exact hafter h
    · simp [Dev.over_false h] at hover
  · intro spi h
    have hrun : Runs (.hostWake spi) s (hostWake spi s.dev) := rfl
    refine runs_of_eq hrun (if_pos ?_)
    rcases h with h | h
    · simp [h]
    · simp [h]
  · intro hasleep hspi hpower
    have hrun : Runs (.hostWake false) s (hostWake false s.dev) := rfl
    exact runs_of_eq hrun (if_neg (by simp [hspi, hasleep, hpower]))
  · intro h
    have hrun : Runs .rtcAlarmWake s (rtcAlarm s.dev) := rfl
    exact runs_of_eq hrun (if_neg (by rintro ⟨hset, hreached⟩; exact h.elim hset (by omega)))
  · intro hset hreached
    have hrun : Runs .rtcAlarmWake s (rtcAlarm s.dev) := rfl
    exact runs_of_eq hrun (if_pos ⟨hset, hreached⟩)
  · intro h
    have hrun : Runs .latchedWakeServe s (latchedServe s.dev) := rfl
    exact runs_of_eq hrun (latchedServe_waits h)
  · intro hsome hentry hpower hready
    exact ⟨_, rfl, latchedServe_serves hsome hentry hpower hready⟩
  · intro t hlast
    have hrun : Runs .hostIdleExpiry s (hostIdle s.dev) := rfl
    have heq : hostIdle s.dev = if s.dev.lantern.hostActive && s.dev.over (t + ms s.dev.lantern.hostIdleMs) then
        { s.dev with lantern := { s.dev.lantern with hostActive := false } } else s.dev := by rw [hostIdle, hlast]
    refine ⟨fun hearly => runs_of_eq hrun (heq.trans (if_neg (by simp [Dev.over_false hearly]))), fun hlate => ⟨_, hrun, ?_⟩⟩
    rw [heq, Dev.over_true hlate, Bool.and_true]
    split
    · rfl
    · rename_i hidle
      exact Bool.eq_false_iff.mpr hidle
  · intro n h hhold
    have hrun : Runs (.pwrHoldTimeout n) s (holdTimeout n s.dev) := rfl
    have heq : holdTimeout n s.dev = if s.dev.overO h.deadline then
        ({ s.dev with lantern := { s.dev.lantern with holds := tabDel s.dev.lantern.holds n } } : Dev).post 0x0C04 n 0
        else s.dev := by rw [holdTimeout, hhold]
    refine ⟨fun hearly => runs_of_eq hrun (heq.trans (if_neg (by simp [hearly]))), fun hlate => ⟨_, runs_of_eq hrun (heq.trans (if_pos hlate)), ?_⟩⟩
    rw [(Dev.posts_post _ _ _ _).rouses.holds]
    exact tabFind_del_same _ _
  · intro src phases w hw h
    have hrun : Runs (.wakePatternDetected src phases) s (wakePattern src phases s.dev) := rfl
    exact runs_of_eq hrun (wakePattern_ignored hw h)
  · intro src phases w hw henable hsrc levels d1
    have hrun : Runs (.wakePatternDetected src phases) s (wakePattern src phases s.dev) := rfl
    refine ⟨fun hlevels hlong hsum => ?_, fun hhead hfilter hbad => ?_⟩
    · have hpass := wakePasses_of_long hlevels hlong hsum s.dev.freeIx
      have heq := wakePattern_eq hw henable hsrc (congrArg List.head? hlevels)
      rw [hpass, if_neg (by decide)] at heq
      refine ⟨fun hpin => runs_of_eq hrun (heq.trans (if_pos hpin)), fun n hport hn hsleeps => ?_, fun hport hawake => ?_⟩
      · rw [if_neg (by omega), hn] at heq
        exact runs_of_eq hrun (heq.trans (if_pos hsleeps))
      · rw [if_neg (by omega), hawake] at heq
        refine runs_of_eq hrun (heq.trans ?_)
        split
        · rfl
        · rfl
    · have heq := wakePattern_eq hw henable hsrc hhead
      exact runs_of_eq hrun (heq.trans (if_pos (wakePasses_of_short hfilter hbad _)))
  · refine completes_of_body (fun _ _ => rfl) (fun d rq bs ⟨hlen, hok, hnamed⟩ => ?_)
    have hfound : ¬(byteAt bs 0 < 32 ∧ tabHas d.lantern.domains (byteAt bs 0) = false) := by
      rintro ⟨hlt, hnone⟩
      rcases hnamed with h | h
      · omega
      · simp [hnone] at h
    simp only [withLayout_ok _ hlen hok, if_neg hfound]
    by_cases hend : (byteAt bs 1 == 0) = true
    · rw [if_pos hend]
      refine ⟨_, _, rfl, rfl, ?_⟩
      rw [eq_of_beq hend]
      exact tabHas_del_same _ _
    · rw [if_neg hend]
      have hset : byteAt bs 1 = 1 := by
        have hrange := layoutOk_field hok (f := fr 1 1 0 1) (by simp)
        have hle : byteAt bs 1 ≤ 1 := by simpa [fr, le] using hrange.2
        have hne : byteAt bs 1 ≠ 0 := by simpa using hend
        omega
      refine ⟨_, _, rfl, rfl, ?_⟩
      rw [hset]
      split
      · rw [tabHas, Dev.wake_holds]
        exact tabHas_put_same _ _ _
      · exact tabHas_put_same _ _ _
  · refine refuses_of_body (by decide) (fun _ _ => rfl) (fun d rq bs ⟨hlen, hok, hlt, hnone⟩ => ?_)
    simp only [withLayout_ok _ hlen hok, if_pos (And.intro hlt hnone)]
    rfl
  · refine completes_of_body (fun _ _ => rfl) (fun d rq bs hnil => ?_)
    exact ⟨d, d.powerStatus, withLayout_none _ hnil, rfl, d.powerStatus_length, d.powerStatus_state, d.powerStatus_holds⟩
  · refine completes_of_body (fun _ _ => rfl) (fun d rq bs hnil => ?_)
    refine ⟨d, _, withLayout_none _ hnil, rfl, by simp, ?_⟩
    rw [List.append_assoc, byteAt_append, if_pos (by simp), byteAt_leb_one]
  · refine completes_of_body (fun _ _ => rfl) (fun d rq bs ⟨hlen, hok, htime⟩ => ?_)
    have hcome : ¬(le bs 0 6 ≠ 0 ∧ le bs 0 6 ≤ d.lantern.rtcS) := by omega
    simp only [withLayout_ok _ hlen hok, if_neg hcome]
    exact ⟨_, _, rfl, rfl, rfl, rfl⟩
  · refine refuses_of_body (by decide) (fun _ _ => rfl) (fun d rq bs ⟨hlen, hok, hset, hpast⟩ => ?_)
    simp only [withLayout_ok _ hlen hok, if_pos (And.intro hset hpast)]
    rfl

end Sys2Proof.Machine
end

section
/-! SUPPORT. What events and resets leave of the stage and of Lantern, and what the block is after a system reset and after a fault of
class F2 (R366 to R369, R406). -/

namespace Sys2Proof.Machine

open Sys2Proof

/-! ## The stage and the attachment -/

/-- The stage and the host attachment are as before. -/
structure Dev.KeepsStage (d d' : Dev) : Prop where
  stage : d'.host.stage = d.host.stage
  spi : d'.host.spi = d.host.spi

theorem Dev.KeepsStage.refl (d : Dev) : d.KeepsStage d := ⟨rfl, rfl⟩

theorem Dev.KeepsStage.trans {a b c : Dev} (h1 : a.KeepsStage b) (h2 : b.KeepsStage c) : a.KeepsStage c :=
  ⟨h2.stage.trans h1.stage, h2.spi.trans h1.spi⟩

theorem Dev.keepsStage_raise (d : Dev) (b : Nat) : d.KeepsStage (d.raise b) := by
  rw [Dev.raise_eq]
  exact ⟨rfl, rfl⟩

theorem Dev.keepsStage_ringPut (d : Dev) (e : Evt) : d.KeepsStage (d.ringPut e) := by
  unfold Dev.ringPut
  extract_lets h slot first d1 d2
  have h2 : d.KeepsStage d2 := by
    simp only [d2]
    split <;> exact ⟨rfl, rfl⟩
  repeat' split
  · exact h2.trans (d2.keepsStage_raise 0)
  · exact h2
  · exact h2.trans ⟨rfl, rfl⟩
  · exact h2
  · refine h2.trans (.trans ?_ (Dev.keepsStage_raise _ 0))
    exact ⟨rfl, rfl⟩
  · exact h2.trans ⟨rfl, rfl⟩

theorem Dev.keepsStage_deliver (d : Dev) (e : Evt) : d.KeepsStage (d.deliver e) := by
  unfold Dev.deliver
  dsimp only
  repeat' split
  · exact ⟨rfl, rfl⟩
  · exact .refl d
  · exact ⟨rfl, rfl⟩
  · exact ⟨rfl, rfl⟩
  · exact d.keepsStage_ringPut e

theorem Dev.keepsStage_postAt (d : Dev) (code object data time : Nat) : d.KeepsStage (d.postAt code object data time) := by
  unfold Dev.postAt
  dsimp only
  split
  · exact ⟨rfl, rfl⟩
  · refine .trans ?_ (Dev.keepsStage_deliver _ _)
    exact ⟨rfl, rfl⟩

theorem Dev.keepsStage_post (d : Dev) (code object data : Nat) : d.KeepsStage (d.post code object data) := d.keepsStage_postAt _ _ _ _

theorem Dev.keepsStage_postDeferred (d : Dev) : d.KeepsStage d.postDeferred :=
  List.foldlRecOn (motive := d.KeepsStage) _ _ ⟨rfl, rfl⟩ (fun e h _ _ => h.trans (e.keepsStage_postAt _ _ _ _))

theorem Dev.keepsStage_logFault (d : Dev) (cls code object data flags time : Nat) :
    d.KeepsStage (d.logFault cls code object data flags time) := by
  refine .trans (.trans ?_ (Dev.keepsStage_post _ _ _ _)) (Dev.keepsStage_raise _ _)
  exact ⟨rfl, rfl⟩

/-! ## Lantern -/

theorem Dev.raise_lantern (d : Dev) (b : Nat) : (d.raise b).lantern = d.lantern := by rw [Dev.raise_eq]

theorem Dev.ringPut_lantern (d : Dev) (e : Evt) : (d.ringPut e).lantern = d.lantern := by
  unfold Dev.ringPut
  extract_lets h slot first d1 d2
  have h2 : d2.lantern = d.lantern := by
    simp only [d2]
    split <;> rfl
  repeat' split
  · exact (d2.raise_lantern 0).trans h2
  · exact h2
  · exact h2
  · exact h2
  · exact (Dev.raise_lantern _ 0).trans h2
  · exact h2

theorem Dev.deliver_lantern (d : Dev) (e : Evt) : (d.deliver e).lantern = d.lantern := by
  unfold Dev.deliver
  dsimp only
  repeat' split
  · rfl
  · rfl
  · rfl
  · rfl
  · exact d.ringPut_lantern e

/-- An event of the awake device leaves Lantern as it is. -/
theorem Dev.post_lantern_awake {d : Dev} (hentry : d.lantern.entry = none) (hpower : d.lantern.power = .run) (code object data : Nat) :
    (d.post code object data).lantern = d.lantern := by
  have hawake : ¬(d.lantern.entry.isSome || decide (d.lantern.power = .doze) || decide (d.lantern.power = .dormant)) = true := by
    rw [hentry, hpower]
    decide
  unfold Dev.post Dev.postAt
  dsimp only
  rw [if_neg hawake]
  exact Dev.deliver_lantern _ _

/-! ## System resets -/

/-- Outputs that stop leave all but the frames in transmission, the counters and what was driven to the outside. -/
theorem Dev.stopOutputs_eq (d : Dev) :
    ∃ h o, d.stopOutputs = { d with host := h, outs := o, fabric := { d.fabric with sending := [], preempted := [] } } := by
  have hfold : ∀ l : List (Nat × Sending), ∃ h o, l.foldl (fun (e : Dev) (p : Nat × Sending) =>
      if p.1 < 50 && !p.2.offered && !p.2.lost then (e.emit (.frame p.1 p.2.bytes true)).count 2 (p.1 * 64 + 19) else e) d =
      { d with host := h, outs := o } := by
    intro l
    refine List.foldlRecOn (motive := fun e : Dev => ∃ h o, e = { d with host := h, outs := o }) l _ ⟨d.host, d.outs, rfl⟩
      (fun e he p _ => ?_)
    obtain ⟨h, o, rfl⟩ := he
    split
    · exact ⟨_, _, rfl⟩
    · exact ⟨_, _, rfl⟩
  obtain ⟨h, o, he⟩ := hfold (d.fabric.sending ++ d.fabric.preempted)
  unfold Dev.stopOutputs
  dsimp only
  rw [he]
  exact ⟨h, o, rfl⟩

/-- `d'` is `d` after a system reset of a kind, in the parts that rules speak of (R406). -/
structure Dev.ResetTo (d : Dev) (kind : Nat) (d' : Dev) : Prop where
  stage : d'.host.stage = .reset
  kind : d'.boot.resetKind = some kind
  time : d'.time = { timeUnit0 0 with clock := d.time.clock }
  log : d'.safety.log = d.safety.log
  act : d'.twin.act = false
  txn : d'.txn = txnUnit0
  ports : d'.ports = []
  counters : d'.keep.counters = d.keep.counters
  update : d'.update = { d.update with session := none, kilnDeadline := none, kilnPeer := none }
  aonLog : d'.lantern.aonLog = d.lantern.aonLog

theorem Dev.resetNow_resets (d : Dev) (kind : Nat) : d.ResetTo kind (d.resetNow kind) := by
  obtain ⟨h, o, hstop⟩ := d.stopOutputs_eq
  have hreset : d.ResetTo kind (d.stopOutputs.systemReset kind) := by
    rw [hstop]
    exact ⟨rfl, rfl, rfl, rfl, rfl, rfl, rfl, rfl, rfl, rfl⟩
  unfold Dev.resetNow
  dsimp only
  split
  · have hposts := (d.stopOutputs.systemReset kind).posts_post 0x0D03 (roleCode .disabled) (roleCode d.twin.role + 5 * 2 ^ 8)
    have hstage := (d.stopOutputs.systemReset kind).keepsStage_post 0x0D03 (roleCode .disabled) (roleCode d.twin.role + 5 * 2 ^ 8)
    obtain ⟨h, l, u, he⟩ := hposts
    rw [he] at hstage ⊢
    exact { hreset with stage := hstage.stage.trans hreset.stage }
  · exact hreset

/-! ## Faults of class F2 -/

/-- The record of a fault is the latest of the log. -/
theorem Dev.logFault_last (d : Dev) (cls code object data flags time : Nat) :
    (d.logFault cls code object data flags time).safety.log.getLast? = some (d.faultRec cls code object data flags time) ∧
      (d.logFault cls code object data flags time).safety.lastCode = code ∧
      (d.logFault cls code object data flags time).safety.safe = d.safety.safe := by
  have hlast : ∀ (l : List FaultRec) (r : FaultRec), ((l ++ [r]).drop ((l ++ [r]).length - 64)).getLast? = some r := by
    intro l r
    rw [List.getLast?_drop, if_neg (by simp), List.getLast?_concat]
  rw [(d.posts_logFault cls code object data flags time).safety]
  exact ⟨hlast _ _, rfl, rfl⟩

theorem Dev.tookF2.post {d : Dev} {code object data : Nat} (h : d.tookF2 code object data) (c o x : Nat) :
    (d.post c o x).tookF2 code object data := by
  have hkept := d.keepsStage_post c o x
  obtain ⟨_, _, _, he⟩ := d.posts_post c o x
  rw [he] at hkept ⊢
  exact { h with stage := hkept.stage.trans h.stage }

/-- A block in FAULT_HOLD with its outputs stopped has answered the fault once the record is written. -/
theorem Dev.tookF2_logged {d : Dev} (hstage : d.host.stage = .faultHold) (hsafe : d.safety.safe = true) (hact : d.twin.act = false)
    (hsending : d.fabric.sending = []) (code object data flags time : Nat) :
    (d.logFault 2 code object data flags time).tookF2 code object data := by
  obtain ⟨hlast, hcode, hkeeps⟩ := d.logFault_last 2 code object data flags time
  have hposts := d.posts_logFault 2 code object data flags time
  exact {
    stage := (d.keepsStage_logFault 2 code object data flags time).stage.trans hstage
    safe := hkeeps.trans hsafe
    released := (congrArg Twin.act hposts.twin).trans hact
    stopped := (congrArg Fabric.sending hposts.fabric).trans hsending
    last := hcode
    record := ⟨_, hlast, rfl, rfl, rfl, rfl⟩ }

/-- Outside FAULT_HOLD a fault of class F2 leads there, with its record the latest and ACT released (R369). -/
theorem Dev.faultF2_taken {d : Dev} (hstage : d.host.stage ≠ .faultHold) (code object data : Nat) :
    (d.faultF2 code object data).tookF2 code object data := by
  unfold Dev.faultF2
  rw [if_neg (by simpa using hstage)]
  dsimp only
  split
  · refine .post (Dev.tookF2_logged ?_ ?_ ?_ ?_ _ _ _ _ _) _ _ _
    all_goals rfl
  · refine Dev.tookF2_logged ?_ ?_ ?_ ?_ _ _ _ _ _
    all_goals rfl

end Sys2Proof.Machine
end

section
/-! SUPPORT. Power-on resets, and the ROM's steps up to the keys (R402 to R411): what each leaves of the block. -/

namespace Sys2Proof.Machine

open Sys2Proof

/-! ## The power-on reset (R404, R405) -/

/-- An event of the awake device changes the host interface and what was driven to the outside. -/
theorem Dev.post_awake_eq {d : Dev} (hentry : d.lantern.entry = none) (hpower : d.lantern.power = .run) (code object data : Nat) :
    ∃ h o, d.post code object data = { d with host := h, outs := o } ∧ h.stage = d.host.stage ∧ h.spi = d.host.spi := by
  have hlantern := Dev.post_lantern_awake hentry hpower code object data
  obtain ⟨hstage, hspi⟩ := d.keepsStage_post code object data
  obtain ⟨h, l, u, he⟩ := d.posts_post code object data
  rw [he] at hlantern hstage hspi
  refine ⟨h, d.outs ++ u, ?_, hstage, hspi⟩
  rw [he]
  dsimp only at hlantern
  rw [hlantern]

/-- Lantern after a power-on reset: with the AON supply kept only what a reset clears of it goes. -/
def Dev.lanternKept (d : Dev) (p : PowerPins) : Lantern := if p.aonKept && d.boot.aon then d.clearVolatile.lantern else lantern0

/-- The block as a power-on reset leaves it, before the event of an ACT released. -/
def Dev.poweredOn (d : Dev) (p : PowerPins) : Dev :=
  { d.clearVolatile with
    host := { hostIf0 with spi := p.spi }
    time := timeUnit0 (d.lanternKept p).rtcS
    lantern := d.lanternKept p
    safety := { safety0 with selfTestAt := d.uptime, digestAt := d.uptime }
    twin := { twin0 with strap := p.twinRole, actInHigh := d.twin.actInHigh, actInHighSince := d.twin.actInHighSince }
    boot := { boot0 with pads33 := padsFor p.vddioB d }
    jtag := jtag0
    freeIx := d.clearVolatile.freeIx + 1 }

theorem powerOn_short {n : Nat} (p : PowerPins) (d : Dev) (h : n < 100) : powerOn n p d = d := if_pos h

theorem powerOn_eq {n : Nat} (p : PowerPins) (d : Dev) (h : 100 ≤ n) :
    ∃ i o, powerOn n p d = { d.poweredOn p with host := i, outs := o } ∧ i.stage = .reset ∧ i.spi = p.spi := by
  have heq : powerOn n p d =
      if d.twin.act then (d.poweredOn p).post 0x0D03 (roleCode .disabled) (roleCode d.twin.role + 5 * 2 ^ 8) else d.poweredOn p :=
    if_neg (by omega)
  have hawake : (d.lanternKept p).entry = none ∧ (d.lanternKept p).power = .run := by
    unfold Dev.lanternKept
    split
    · exact ⟨rfl, rfl⟩
    · exact ⟨rfl, rfl⟩
  rw [heq]
  split
  · exact Dev.post_awake_eq (d := d.poweredOn p) hawake.1 hawake.2 _ _ _
  · exact ⟨_, _, rfl, rfl, rfl⟩

/-! ## What events, keys and banks leave of the boot -/

/-- What the boot goes by is as before: the stage, the tamper unit, the lifecycle in force, the roots, the boot unit, the trial, the banks and
the uptime. -/
structure Dev.KeepsBoot (d d' : Dev) : Prop where
  stage : d'.host.stage = d.host.stage
  tamper : d'.lantern.tamper = d.lantern.tamper
  lifecycle : d'.keep.lifecycle = d.keep.lifecycle
  roots : d'.keep.rootsUnlocked = d.keep.rootsUnlocked
  boot : d'.boot = d.boot
  trial : d'.update.trial = d.update.trial
  banks : d'.update.banks = d.update.banks
  uptime : d'.uptime = d.uptime

theorem Dev.KeepsBoot.refl (d : Dev) : d.KeepsBoot d := ⟨rfl, rfl, rfl, rfl, rfl, rfl, rfl, rfl⟩

theorem Dev.KeepsBoot.trans {a b c : Dev} (h1 : a.KeepsBoot b) (h2 : b.KeepsBoot c) : a.KeepsBoot c :=
  ⟨h2.stage.trans h1.stage, h2.tamper.trans h1.tamper, h2.lifecycle.trans h1.lifecycle, h2.roots.trans h1.roots, h2.boot.trans h1.boot,
    h2.trial.trans h1.trial, h2.banks.trans h1.banks, h2.uptime.trans h1.uptime⟩

theorem Dev.KeepsBoot.foldl {α : Type} {f : Dev → α → Dev} (hf : ∀ (e : Dev) x, e.KeepsBoot (f e x)) (l : List α) (d : Dev) :
    d.KeepsBoot (l.foldl f d) := List.foldlRecOn l f (.refl d) (fun e h x _ => h.trans (hf e x))

theorem Dev.keepsBoot_post (d : Dev) (code object data : Nat) : d.KeepsBoot (d.post code object data) := by
  have hkept := d.keepsStage_post code object data
  obtain ⟨_, _, _, he⟩ := d.posts_post code object data
  rw [he] at hkept ⊢
  exact ⟨hkept.stage, rfl, rfl, rfl, rfl, rfl, rfl, rfl⟩

theorem Dev.keepsBoot_slotsChanged (d : Dev) (is : List Nat) : d.KeepsBoot (d.slotsChanged is) := by
  unfold Dev.slotsChanged
  split
  · exact ⟨rfl, rfl, rfl, rfl, rfl, rfl, rfl, rfl⟩
  · exact .refl d

theorem Dev.keepsBoot_putKeySlot (d : Dev) (i : Nat) (k : KeySlot) : d.KeepsBoot (d.putKeySlot i k) := by
  unfold Dev.putKeySlot
  split
  · exact ⟨rfl, rfl, rfl, rfl, rfl, rfl, rfl, rfl⟩
  · exact ⟨rfl, rfl, rfl, rfl, rfl, rfl, rfl, rfl⟩

theorem Dev.keepsBoot_destroyRoots (d : Dev) (roots : List Nat) : d.KeepsBoot (d.destroyRoots roots) := by
  unfold Dev.destroyRoots
  generalize List.map (fun e : Nat × KeySlot => e.1) _ = gone
  have h1 : ∀ k : Dev → Nat → KeySlot, d.KeepsBoot (gone.foldl (fun e i => e.putKeySlot i (k e i)) d) := fun k =>
    .foldl (fun e i => e.keepsBoot_putKeySlot i _) gone d
  cases gone with
  | nil => exact .refl d
  | cons i t => exact ((h1 _).trans (Dev.keepsBoot_slotsChanged _ _)).trans (Dev.keepsBoot_post _ _ _ _)

theorem Dev.keepsBoot_free (d : Dev) : d.KeepsBoot d.free.2 := ⟨rfl, rfl, rfl, rfl, rfl, rfl, rfl, rfl⟩

theorem Dev.keepsBoot_count (d : Dev) (c i : Nat) : d.KeepsBoot (d.count c i) := ⟨rfl, rfl, rfl, rfl, rfl, rfl, rfl, rfl⟩

theorem Dev.keepsBoot_blobInvalid (d : Dev) (i : Nat) : d.KeepsBoot (d.blobInvalid i) := by
  unfold Dev.blobInvalid
  split
  · exact .refl d
  · dsimp only
    exact ((((d.keepsBoot_putKeySlot i _).trans (Dev.keepsBoot_free _)).trans (Dev.keepsBoot_slotsChanged _ _)).trans
      (Dev.keepsBoot_count _ _ _)).trans (Dev.keepsBoot_post _ _ _ _)

theorem Dev.keepsBoot_loadSlot (bad : List Nat) (d : Dev) (i : Nat) : d.KeepsBoot (Dev.loadSlot bad d i) := by
  have hblobs : ∀ x, d.KeepsBoot (d.putBlobs i x) := fun _ => ⟨rfl, rfl, rfl, rfl, rfl, rfl, rfl, rfl⟩
  unfold Dev.loadSlot
  dsimp only
  split
  · exact ⟨rfl, rfl, rfl, rfl, rfl, rfl, rfl, rfl⟩
  · exact (hblobs _).trans (Dev.keepsBoot_blobInvalid _ i)

/-- With the keys loaded the roots are unlocked; what else the boot goes by is as before. -/
theorem Dev.keepsBoot_loadKeys (d : Dev) (b : BootInfo) :
    ({ d with keep := { d.keep with rootsUnlocked := true } } : Dev).KeepsBoot (d.loadKeys b) := .foldl (Dev.keepsBoot_loadSlot _) _ _

/-! ## The lifecycle record (R311, R312) -/

/-- The lifecycle last written is in force; what else the boot goes by is as before. -/
theorem Dev.keepsBoot_takeLifecycle (d : Dev) :
    ({ d with keep := { d.keep with lifecycle := d.keep.lifecycleNext } } : Dev).KeepsBoot d.takeLifecycle := by
  unfold Dev.takeLifecycle
  extract_lets k new _ d1
  have h1 : ({ d with keep := { d.keep with lifecycle := d.keep.lifecycleNext } } : Dev).KeepsBoot d1 :=
    ⟨rfl, rfl, rfl, rfl, rfl, rfl, rfl, rfl⟩
  split
  · rename_i hsame
    exact ⟨rfl, rfl, hsame.symm, rfl, rfl, rfl, rfl, rfl⟩
  · split
    · exact h1.trans (d1.keepsBoot_destroyRoots _)
    · split
      · exact h1.trans (d1.keepsBoot_destroyRoots _)
      · exact h1

theorem Dev.tamperActive_congr {d d' : Dev} (h : d'.lantern.tamper = d.lantern.tamper) : d'.tamperActive = d.tamperActive := by
  unfold Dev.tamperActive
  rw [h]

/-! ## Image selection (R410) -/

/-- The records of SVC's two banks are as before. -/
def Dev.SparesService (d d' : Dev) : Prop := ∀ bank, bank < 2 → d'.fwBank 1 bank = d.fwBank 1 bank

theorem Dev.SparesService.refl (d : Dev) : d.SparesService d := fun _ _ => rfl

theorem Dev.SparesService.trans {a b c : Dev} (h1 : a.SparesService b) (h2 : b.SparesService c) : a.SparesService c :=
  fun bank hbank => (h2 bank hbank).trans (h1 bank hbank)

theorem Dev.bankInForce_congr {d d' : Dev} (comp : Nat) (h0 : d'.fwBank comp 0 = d.fwBank comp 0)
    (h1 : d'.fwBank comp 1 = d.fwBank comp 1) : d'.bankInForce comp = d.bankInForce comp := by
  simp only [Dev.bankInForce, List.find?_cons, List.find?_nil, h0, h1]

theorem Dev.SparesService.bankInForce {d d' : Dev} (h : d.SparesService d') : d'.bankInForce 1 = d.bankInForce 1 :=
  Dev.bankInForce_congr 1 (h 0 (by decide)) (h 1 (by decide))

theorem Dev.sparesService_setBank (d : Dev) {comp : Nat} (hcomp : 2 ≤ comp) (bank : Nat) (k : Bank) :
    d.SparesService (d.setBank comp bank k) :=
  fun i hi => tabGet_put_other bank0 d.update.banks (comp * 2 + bank) (1 * 2 + i) k (by omega)

theorem Dev.sparesService_legChanged (d : Dev) : d.SparesService d.legChanged := by
  unfold Dev.legChanged
  split
  · exact fun _ _ => rfl
  · exact .refl d

/-- Another component's selection leaves SVC's banks alone. -/
theorem Dev.sparesService_selectBank (d : Dev) (b : BootInfo) {comp : Nat} (hcomp : 2 ≤ comp) : d.SparesService (d.selectBank b comp) := by
  unfold Dev.selectBank
  split
  · exact .refl d
  · rename_i i _
    extract_lets d1 o k d2
    have h1 : d.SparesService d1 := d.sparesService_setBank hcomp i _
    have h2 : d.SparesService d2 := h1.trans (d1.sparesService_setBank hcomp o _)
    split
    · exact .refl d
    · split
      · split
        · split
          · exact h2.trans d2.sparesService_legChanged
          · exact h2
        · exact h1.trans (d1.sparesService_setBank hcomp o _)
      · exact h1

theorem Dev.selectBank_usable {d : Dev} {b : BootInfo} {comp i : Nat} (hforce : d.bankInForce comp = some i)
    (husable : d.bankUsable b comp i = true) : d.selectBank b comp = d := by
  simp only [Dev.selectBank, hforce, husable, if_true]

/-- With a usable SVC bank in force and no trial, the boot goes on to LOADING with the roots unlocked and that bank in force. -/
theorem Dev.selectImages_loads {d : Dev} {b : BootInfo} {i : Nat} (htrial : d.update.trial = none) (hforce : d.bankInForce 1 = some i)
    (husable : d.bankUsable b 1 i = true) :
    (d.selectImages b).host.stage = .loading ∧ (d.selectImages b).keep.rootsUnlocked = true ∧
      (d.selectImages b).boot.resetKind = none ∧ (d.selectImages b).bankInForce 1 = some i := by
  have hstart : d.resolveTrial b = d := by rw [Dev.resolveTrial, htrial]
  obtain ⟨d1, hd1, hspares⟩ : ∃ d1, [1, 2, 3, 4, 5].foldl (fun e c => Dev.selectBank e b c) d = d1 ∧ d.SparesService d1 := by
    refine ⟨_, rfl, ?_⟩
    simp only [List.foldl_cons, List.foldl_nil, Dev.selectBank_usable hforce husable]
    exact (((d.sparesService_selectBank b (comp := 2) (by decide)).trans (Dev.sparesService_selectBank _ b (comp := 3) (by decide))).trans
      (Dev.sparesService_selectBank _ b (comp := 4) (by decide))).trans (Dev.sparesService_selectBank _ b (comp := 5) (by decide))
  have hforce1 : d1.bankInForce 1 = some i := hspares.bankInForce.trans hforce
  unfold Dev.selectImages
  rw [hstart, hd1]
  extract_lets _ img _ d2 _
  rw [hforce1, if_neg (by simp)]
  have hkept := Dev.keepsBoot_loadKeys { d2 with boot := { d2.boot with resetKind := none } } b
  refine ⟨hkept.stage, hkept.roots, congrArg Boot.resetKind hkept.boot, Eq.trans ?_ hforce1⟩
  exact Dev.bankInForce_congr 1 (by rw [Dev.fwBank, hkept.banks]; rfl) (by rw [Dev.fwBank, hkept.banks]; rfl)

end Sys2Proof.Machine
end

section
/-! SUPPORT. Admission of an empty configuration: the device reaches RUN (R412, R414). -/

namespace Sys2Proof.Machine

open Sys2Proof

/-- The stage, the transaction unit, the twin unit and the update unit are as before. -/
structure Dev.KeepsStart (d d' : Dev) : Prop where
  stage : d'.host.stage = d.host.stage
  txn : d'.txn = d.txn
  twin : d'.twin = d.twin
  update : d'.update = d.update

theorem Dev.KeepsStart.refl (d : Dev) : d.KeepsStart d := ⟨rfl, rfl, rfl, rfl⟩

theorem Dev.KeepsStart.trans {a b c : Dev} (h1 : a.KeepsStart b) (h2 : b.KeepsStart c) : a.KeepsStart c :=
  ⟨h2.stage.trans h1.stage, h2.txn.trans h1.txn, h2.twin.trans h1.twin, h2.update.trans h1.update⟩

theorem Dev.keepsStart_post (d : Dev) (code object data : Nat) : d.KeepsStart (d.post code object data) :=
  have h := d.posts_post code object data
  ⟨(d.keepsStage_post code object data).stage, h.txn, h.twin, h.update⟩

theorem Dev.keepsStart_settleQuality (d : Dev) : d.KeepsStart d.settleQuality := by
  unfold Dev.settleQuality
  dsimp only
  split
  · exact .refl d
  · refine .trans ?_ (Dev.keepsStart_post _ _ _ _)
    exact ⟨rfl, rfl, rfl, rfl⟩

theorem Dev.keepsStart_autoSwitch (d old : Dev) : d.KeepsStart (d.autoSwitch old) := by
  unfold Dev.autoSwitch
  dsimp only
  split
  · rw [Dev.switchSlot_eq]
    refine .trans (.trans ?_ (Dev.keepsStart_post _ _ _ _)) (Dev.keepsStart_settleQuality _)
    exact ⟨rfl, rfl, rfl, rfl⟩
  · exact .refl d

theorem armGates_nil (d : Dev) : armGates [] d = d :=
  List.foldlRecOn (motive := fun e => e = d) (List.range 50) _ rfl (fun _ he _ _ => he)

/-- No command changes at once no more than the working slot and the quality of the clock. -/
theorem keepsStart_applyAtOnce_nil (d : Dev) : d.KeepsStart (applyAtOnce [] d) := by
  have hnone : applyAtOnce [] d = ((armGates [] d).autoSwitch d).settleQuality := rfl
  rw [hnone, armGates_nil]
  exact (d.keepsStart_autoSwitch d).trans (Dev.keepsStart_settleQuality _)

/-- The commit of an empty configuration at a start. -/
def Dev.emptyCommit (d : Dev) : Commit :=
  { id := nextTxnId d.txn.lastId, owner := 255, kind := .boot, staged := [], rules := none, cupola := false, since := d.uptime, pause := 0 }

/-- With no bank to switch, a commit waits for nothing. -/
theorem Dev.flipNow_of_applied {d : Dev} {c : Commit} (hc : d.txn.committing = some c) (hrules : c.rules = none)
    (hcupola : c.cupola = false) : d.flipNow = d := by
  simp only [Dev.flipNow, hc, hrules, hcupola, Option.isSome_none, Bool.false_eq_true, if_false]
  rw [← hrules, ← hcupola, ← hc]

theorem Dev.cfgBegin_nil (d : Dev) : d.KeepsStart { d.cfgBegin 255 .boot [] with txn := d.txn } ∧
    (d.cfgBegin 255 .boot []).txn.committing = some d.emptyCommit := by
  have hkept := keepsStart_applyAtOnce_nil { d with txn := { d.txn with lastId := nextTxnId d.txn.lastId } }
  have hbatch : batchOf [] = [] := rfl
  have hgroups : changesGroups [] = false := rfl
  unfold Dev.cfgBegin Dev.applyTxn
  simp only [hbatch, hgroups, List.any_nil, Bool.not_false, Bool.and_false, Bool.false_eq_true, if_false, List.foldl_nil]
  generalize applyAtOnce [] _ = e at hkept ⊢
  exact ⟨⟨hkept.stage, rfl, hkept.twin, hkept.update⟩, rfl⟩

/-- The stage, the safety unit and the transaction unit are as before. -/
structure Dev.KeepsRun (d d' : Dev) : Prop where
  stage : d'.host.stage = d.host.stage
  safety : d'.safety = d.safety
  txn : d'.txn = d.txn

theorem Dev.KeepsRun.refl (d : Dev) : d.KeepsRun d := ⟨rfl, rfl, rfl⟩

theorem Dev.KeepsRun.trans {a b c : Dev} (h1 : a.KeepsRun b) (h2 : b.KeepsRun c) : a.KeepsRun c :=
  ⟨h2.stage.trans h1.stage, h2.safety.trans h1.safety, h2.txn.trans h1.txn⟩

theorem Dev.keepsRun_post (d : Dev) (code object data : Nat) : d.KeepsRun (d.post code object data) :=
  have h := d.posts_post code object data
  ⟨(d.keepsStage_post code object data).stage, h.safety, h.txn⟩

theorem Dev.keepsRun_setRole (d : Dev) (r : TwinRole) (cause : Nat) : d.KeepsRun (d.setRole r cause) := by
  unfold Dev.setRole
  split
  · exact .refl d
  · refine .trans ?_ (Dev.keepsRun_post _ _ _ _)
    exact ⟨rfl, rfl, rfl⟩

theorem Dev.keepsRun_freeRole (d : Dev) (r : TwinRole) : d.KeepsRun (d.freeRole r) := by
  unfold Dev.freeRole
  split
  · exact .refl d
  · refine .trans ?_ (Dev.keepsRun_setRole _ _ _)
    exact ⟨rfl, rfl, rfl⟩

/-- The block that has reached RUN, before the event and the pairing that follow. -/
def Dev.reached (d : Dev) : Dev :=
  { d.setStage .run with
    safety := { d.safety with safe := false }
    boot := { d.boot with admittingAt := none, cfgRefused := false }
    update := { d.update with
      trial := d.update.trial.map (fun t : Trial =>
        if t.deadline.isNone && !t.hot && t.failed.isNone then { t with deadline := some (d.uptime + sec t.confirmS) } else t)
      trialReset := none } }

/-- RUN is reached: SAFE_N may rise (R414). -/
theorem Dev.enterRun_keeps (d : Dev) : d.reached.KeepsRun d.enterRun := by
  have hposted : d.reached.KeepsRun (d.reached.post 0x0101 6 0) := d.reached.keepsRun_post _ _ _
  have heq : d.enterRun =
      if (d.reached.post 0x0101 6 0).twin.enable then (d.reached.post 0x0101 6 0).startPairing else d.reached.post 0x0101 6 0 := rfl
  rw [heq]
  split
  · exact hposted.trans (Dev.keepsRun_freeRole _ _)
  · exact hposted

/-- Without its link a twin journals nothing. -/
theorem Dev.journalCommit_unlinked {d : Dev} (hlink : d.twin.link = false) (gen : Nat) (l : List Staged) :
    d.journalCommit gen l = d.modTwin (fun t => { t with commits := t.commits ++ [(gen, l)] }) := by
  have hnone : (d.modTwin (fun t => { t with commits := t.commits ++ [(gen, l)] })).journals = false := by
    simp [Dev.journals, hlink]
  exact if_neg (by rw [hnone]; decide)

/-- The block whose commit has ended: the PDUs written start their timers, and TXN_APPLIED is posted. -/
def Dev.noteCommit (d : Dev) (c : Commit) : Dev :=
  let d1 := startSrcTimers c.staged { d with txn := { d.txn with committing := none } }
  d1.post 0x0601 c.id (1 + d1.txn.generation % 2 ^ 32 * 2 ^ 32)

/-- What then follows it: the journal's record, and what the commit belongs to goes on. -/
def Dev.closeCommit (d : Dev) (c : Commit) : Dev :=
  ((d.noteCommit c).journalCommit (d.noteCommit c).txn.generation c.staged).commitDone c

theorem Dev.finishCommit_of_applied {d : Dev} {c : Commit} (hc : d.txn.committing = some c) (hrules : c.rules = none)
    (hcupola : c.cupola = false) :
    d.finishCommit = if (d.closeCommit c).admits then (d.closeCommit c).enterRun else d.closeCommit c := by
  unfold Dev.finishCommit
  rw [hc]
  exact if_neg (by rw [hrules, hcupola]; decide)

theorem Dev.keepsRun_noteCommit {d : Dev} {c : Commit} (hstaged : c.staged = []) :
    Dev.KeepsRun { d with txn := { d.txn with committing := none } } (d.noteCommit c) ∧ (d.noteCommit c).twin = d.twin := by
  unfold Dev.noteCommit
  rw [hstaged]
  exact ⟨Dev.keepsRun_post _ _ _ _, (Dev.posts_post _ _ _ _).twin⟩

/-- A commit at a start that has applied everything leads to RUN. -/
theorem Dev.finishCommit_runs {d : Dev} {c : Commit} (hc : d.txn.committing = some c) (hrules : c.rules = none)
    (hcupola : c.cupola = false) (hkind : c.kind = .boot) (hstaged : c.staged = []) (hstage : d.host.stage = .admitting)
    (hlink : d.twin.link = false) :
    d.finishCommit.host.stage = .run ∧ d.finishCommit.safety.safe = false ∧ d.finishCommit.txn.committing = none := by
  obtain ⟨hnoted, htwin⟩ := Dev.keepsRun_noteCommit (d := d) hstaged
  have hkept : Dev.KeepsRun { d with txn := { d.txn with committing := none } } (d.closeCommit c) := by
    unfold Dev.closeCommit
    rw [Dev.journalCommit_unlinked (by rw [htwin, hlink]), Dev.commitDone, hkind]
    exact ⟨hnoted.stage, hnoted.safety, hnoted.txn⟩
  have hadmits : (d.closeCommit c).admits = true := by
    rw [Dev.admits, hkept.stage, hstage]
  have hrun := (d.closeCommit c).enterRun_keeps
  rw [Dev.finishCommit_of_applied hc hrules hcupola, hadmits, if_pos rfl]
  exact ⟨hrun.stage, congrArg Safety.safe hrun.safety, congrArg TxnUnit.committing (hrun.txn.trans hkept.txn)⟩

/-- In ADMITTING an empty configuration leads to RUN (R412, R414). -/
theorem Dev.cfgApply_nil_runs {d : Dev} (hstage : d.host.stage = .admitting) (hlink : d.twin.link = false) :
    (d.cfgApply []).host.stage = .run ∧ (d.cfgApply []).safety.safe = false ∧ (d.cfgApply []).txn.committing = none := by
  obtain ⟨hkept, hc⟩ := d.cfgBegin_nil
  unfold Dev.cfgApply
  rw [Dev.flipNow_of_applied hc rfl rfl]
  exact Dev.finishCommit_runs hc rfl rfl rfl rfl (hkept.stage.trans hstage) ((congrArg Twin.link hkept.twin).trans hlink)

/-- Without legal SGE commands and without a CFG bank the configuration is empty. -/
theorem Dev.admitCfg_empty {d : Dev} (hbank : d.bankInForce 5 = none) (hsge : d.cask.sge = []) :
    ∃ e, d.KeepsStart e ∧ d.admitCfg = e.cfgApply [] := by
  have hlegal : d.applyLegalSge = applyAtOnce [] d := by
    rw [Dev.applyLegalSge, hsge]
    rfl
  have hkept := keepsStart_applyAtOnce_nil d
  have hsame : (applyAtOnce [] d).bankInForce 5 = none :=
    (Dev.bankInForce_congr 5 (by rw [Dev.fwBank, hkept.update]; rfl) (by rw [Dev.fwBank, hkept.update]; rfl)).trans hbank
  refine ⟨_, hkept, ?_⟩
  unfold Dev.admitCfg Dev.cfgInForce
  rw [hlegal, hsame]

end Sys2Proof.Machine
end

section
/-! SUPPORT. What each part of the boot leads to (R407 to R418). -/

namespace Sys2Proof.Machine

open Sys2Proof

section
variable {d : Dev} {b : BootInfo}

/-! ## The self-check (R407, R408) -/

theorem Dev.selfCheck_stops (h : b.romDigestOk = false ∨ b.comparatorOk = false) :
    d.selfCheck b = { d with boot := { d.boot with bootSrc := b.bootSrc % 4, stopped := true, resetKind := none } } :=
  if_pos (by simpa using h)

theorem Dev.selfCheck_passes (hrom : b.romDigestOk = true) (hcmp : b.comparatorOk = true) :
    (d.selfCheck b).host.stage = .rom ∧ (d.selfCheck b).boot.bootSrc = b.bootSrc % 4 ∧
      (d.selfCheck b).boot.resetKind = d.boot.resetKind := by
  have hgo : ¬(!b.romDigestOk || !b.comparatorOk) = true := by simp [hrom, hcmp]
  unfold Dev.selfCheck
  rw [if_neg hgo]
  exact ⟨rfl, rfl, rfl⟩

/-! ## The ROM's steps (R409 to R411) -/

theorem Dev.romSteps_eq (hread : b.lifecycleReadable = true) :
    d.romSteps b =
      if d.takeLifecycle.lantern.tamper.latched != 0 || d.takeLifecycle.tamperActive then d.takeLifecycle.enterTamperHold
      else if d.takeLifecycle.keep.lifecycle == 0 || decide (2 ≤ d.takeLifecycle.boot.bootSrc) then d.takeLifecycle.enterKiln false
      else if d.takeLifecycle.boot.resetKind = some 2 then d.takeLifecycle.enterKiln true
      else d.takeLifecycle.selectImages b :=
  if_neg (by simp [hread])

theorem Dev.enterKiln_enters (timed : Bool) : (d.enterKiln timed).host.stage = .kiln ∧
    (d.enterKiln timed).update.kilnDeadline = if timed then some (d.uptime + sec 600) else none := by
  unfold Dev.enterKiln
  exact ⟨(Dev.keepsStage_post _ _ _ _).stage, congrArg Update.kilnDeadline (Dev.posts_post _ _ _ _).update⟩

theorem Dev.enterTamperHold_enters : d.enterTamperHold.host.stage = .tamperHold ∧ d.enterTamperHold.lantern.power = .tamperHold ∧
    d.enterTamperHold.keep = d.keep := by
  unfold Dev.enterTamperHold
  dsimp only
  have hkept := Dev.keepsStage_post { d with
    host := { d.host with stage := .tamperHold, pcieReady := !d.host.spi }
    lantern := { d.lantern with power := .tamperHold } } 0x0101 (stageCode .tamperHold) 0
  obtain ⟨_, _, _, he⟩ := Dev.posts_post { d with
    host := { d.host with stage := .tamperHold, pcieReady := !d.host.spi }
    lantern := { d.lantern with power := .tamperHold } } 0x0101 (stageCode .tamperHold) 0
  rw [he] at hkept ⊢
  exact ⟨hkept.stage, rfl, rfl⟩

/-- A source that is latched, or still active, holds the boot in TAMPER_HOLD (R409). -/
theorem Dev.romSteps_holds (hread : b.lifecycleReadable = true) (h : d.lantern.tamper.latched ≠ 0 ∨ d.tamperActive = true) :
    (d.romSteps b).host.stage = .tamperHold ∧ (d.romSteps b).lantern.power = .tamperHold ∧
      (d.romSteps b).keep.rootsUnlocked = d.keep.rootsUnlocked := by
  have hkept := d.keepsBoot_takeLifecycle
  have hactive : d.takeLifecycle.tamperActive = d.tamperActive := Dev.tamperActive_congr hkept.tamper
  rw [Dev.romSteps_eq hread, if_pos (by rw [hkept.tamper, hactive]; simpa using h)]
  obtain ⟨hstage, hpower, hkeep⟩ := d.takeLifecycle.enterTamperHold_enters
  exact ⟨hstage, hpower, (congrArg Keep.rootsUnlocked hkeep).trans hkept.roots⟩

/-- Without one the boot goes on by the lifecycle, BOOT_SRC and the reset's kind. -/
theorem Dev.romSteps_free (hread : b.lifecycleReadable = true) (hlatched : d.lantern.tamper.latched = 0) (hactive : d.tamperActive = false) :
    d.romSteps b =
      if d.keep.lifecycleNext = 0 ∨ 2 ≤ d.boot.bootSrc then d.takeLifecycle.enterKiln false
      else if d.boot.resetKind = some 2 then d.takeLifecycle.enterKiln true
      else d.takeLifecycle.selectImages b := by
  have hkept := d.keepsBoot_takeLifecycle
  have hlantern : d.takeLifecycle.lantern.tamper = d.lantern.tamper := hkept.tamper
  have hlifecycle : d.takeLifecycle.keep.lifecycle = d.keep.lifecycleNext := hkept.lifecycle
  have hboot : d.takeLifecycle.boot = d.boot := hkept.boot
  have htamper : ¬(d.takeLifecycle.lantern.tamper.latched != 0 || d.takeLifecycle.tamperActive) = true := by
    rw [Dev.tamperActive_congr hlantern, hlantern, hactive, hlatched]
    decide
  rw [Dev.romSteps_eq hread, if_neg htamper, hlifecycle, hboot]
  simp only [Bool.or_eq_true, beq_iff_eq, decide_eq_true_eq]

/-! ## BOOT_SEQUENCE -/

theorem bootSequence_ignored (h : d.resettable = false ∨ d.lantern.power = .dormant) : bootSequence b d = d :=
  if_pos (by simpa using h)

theorem bootSequence_eq (hres : d.resettable = true) (hpower : d.lantern.power ≠ .dormant) :
    bootSequence b d = match d.host.stage with
      | .reset => if d.boot.resetKind.isSome then d.selfCheck b else d
      | .rom => if d.boot.resetKind.isSome then d.romSteps b else d
      | .loading => d.startFirmware.setStage .admitting
      | .admitting => if d.boot.cfgRefused then d else d.admitCfg
      | _ => d :=
  if_neg (by simp [hres, hpower])

/-- A refused configuration keeps the device in ADMITTING, marked so (R414). -/
theorem Dev.admitCfg_refused {e : CfgError} (h : d.applyLegalSge.cfgInForce.1 = .inl e) : d.admitCfg.boot.cfgRefused = true := by
  unfold Dev.admitCfg
  dsimp only
  rw [h]
  exact congrArg Boot.cfgRefused ((Dev.posts_post _ _ _ _).trans (Dev.posts_post _ _ _ _)).boot

theorem Dev.admitCfg_applies {l : List Staged} (h : d.applyLegalSge.cfgInForce.1 = .inr l) :
    d.admitCfg = d.applyLegalSge.cfgInForce.2.cfgApply l := by
  unfold Dev.admitCfg
  dsimp only
  rw [h]

/-! ## The warm path (R418) -/

/-- A start from DORMANT whose conditions fail runs the cold boot. -/
theorem Dev.coldFromDormant_starts : (d.coldFromDormant b).host.stage = .reset ∧ (d.coldFromDormant b).boot.resetKind = some 1 ∧
    (d.coldFromDormant b).lantern.power = .run ∧ (d.coldFromDormant b).time.clock.sec = d.lantern.rtcS ∧
    (d.coldFromDormant b).safety.log = [] := by
  unfold Dev.coldFromDormant
  dsimp only
  obtain ⟨_, _, _, he⟩ := (Dev.posts_postDeferred (d.leaveDormant b)).trans (Dev.posts_post _ 0x0C01 (powerCode .run)
    (powerCode .dormant + (d.lantern.latched.head?.map (fun x => x.2.1)).getD 0 * 2 ^ 8))
  rw [he]
  exact ⟨rfl, rfl, rfl, rfl, rfl⟩

theorem warmPath_eq (hpower : d.lantern.power = .dormant) (hlatched : d.lantern.latched ≠ []) :
    warmPath b d = if d.warmFits b then d.warmStart b else d.coldFromDormant b :=
  if_neg (by simp [hpower, hlatched])

end

end Sys2Proof.Machine
end

section
/-! The statement about resets and the boot. -/

namespace Sys2Proof.Machine

open Sys2Proof

/-- Settles O58, from what each reset leaves of the block and what each part of the boot leads to. -/
theorem resetsAndBootActAsRuled : Obligations.ResetsAndBootActAsRuled := by
  unfold Obligations.ResetsAndBootActAsRuled
  refine ⟨fun s n p => ⟨fun hshort => ⟨?_, ?_⟩, fun hlong => ?_, fun hlong hres => ?_, fun hres => ?_⟩, fun s => ?_, fun s b h => ?_,
    fun s b hres hpower => ⟨fun hstage hkind => ⟨fun hbad => ?_, fun hrom hcmp => ?_⟩, fun hkind hstage => ?_,
      fun hstage hkind => ⟨fun hunread => ?_, fun hread => ⟨fun htamper => ?_, fun hlatched hactive => ⟨fun hkiln => ?_,
        fun hnext hsrc => ⟨fun hkiln => ?_, fun hselect htrial i hforce husable => ?_⟩⟩⟩⟩,
      fun hstage => ?_, fun hstage => ⟨fun hrefused => ?_, fun hopen hbank hsge hlink => ?_, fun hopen e he => ?_, fun hopen l hl => ?_⟩⟩,
    fun s b => ⟨fun h => ?_, fun hdormant hlatched => ⟨fun hcold => ?_, fun hwarm => ?_⟩⟩⟩
  · have hrun : Runs (.powerOnReset n p) s (powerOn n p s.dev) := rfl
    exact runs_of_eq hrun (powerOn_short p s.dev hshort)
  · have hrun : Runs (.systemResetInput n) s (resetInput n s.dev) := rfl
    exact runs_of_eq hrun (if_pos (.inl hshort))
  · have hrun : Runs (.powerOnReset n p) s (powerOn n p s.dev) := rfl
    obtain ⟨i, o, heq, hstage, hspi⟩ := powerOn_eq p s.dev hlong
    refine ⟨_, runs_of_eq hrun heq, hstage, hspi, rfl, rfl, rfl, rfl, rfl, rfl, rfl, rfl, ⟨_, rfl, fun hlo hhi => ?_, fun hlo hhi => ?_⟩,
      rfl, rfl, rfl, rfl, rfl, fun hkept haon => ?_, fun hlost => ?_⟩
    · exact if_pos ⟨hlo, hhi⟩
    · rw [padsFor, if_neg (by omega), if_pos ⟨hlo, hhi⟩]
    · have hl : s.dev.lanternKept p = s.dev.clearVolatile.lantern := if_pos (by rw [hkept, haon]; rfl)
      simp only [Dev.poweredOn, hl]
      exact ⟨rfl, rfl, rfl, rfl⟩
    · have hl : s.dev.lanternKept p = lantern0 := if_neg (by simp [hlost])
      exact ⟨hl, congrArg Lantern.stb hl⟩
  · have hrun : Runs (.systemResetInput n) s (resetInput n s.dev) := rfl
    have heq : resetInput n s.dev = s.dev.resetNow 1 := if_neg (by rw [hres]; simp; omega)
    obtain ⟨hstage, hkind, htime, hlog, hact, htxn, hports, hcounters, hupdate, haon⟩ := s.dev.resetNow_resets 1
    exact ⟨_, runs_of_eq hrun heq, hstage, hkind, by rw [htime], by rw [htime]; rfl, hlog, hact, by rw [htxn]; rfl, hports, hcounters,
      by rw [hupdate], haon⟩
  · have hrun : Runs (.systemResetInput n) s (resetInput n s.dev) := rfl
    exact runs_of_eq hrun (if_pos (.inr hres))
  · exact ⟨_, rfl, rfl, rfl, rfl, rfl, rfl, rfl, rfl⟩
  · have hrun : Runs (.bootSequence b) s (bootSequence b s.dev) := rfl
    exact runs_of_eq hrun (bootSequence_ignored h)
  · have hrun : Runs (.bootSequence b) s (bootSequence b s.dev) := rfl
    have heq := bootSequence_eq (b := b) hres hpower
    simp only [hstage, hkind, if_true] at heq
    refine ⟨_, runs_of_eq hrun (heq.trans (Dev.selfCheck_stops hbad)), rfl, hstage, ?_, ?_, ?_⟩
    · simp [Dev.safeLow]
    · simp [Dev.faultLow]
    · simp [Dev.resettable]
  · have hrun : Runs (.bootSequence b) s (bootSequence b s.dev) := rfl
    have heq := bootSequence_eq (b := b) hres hpower
    simp only [hstage, hkind, if_true] at heq
    exact ⟨_, runs_of_eq hrun heq, Dev.selfCheck_passes hrom hcmp⟩
  · have hrun : Runs (.bootSequence b) s (bootSequence b s.dev) := rfl
    have heq := bootSequence_eq (b := b) hres hpower
    refine runs_of_eq hrun (heq.trans ?_)
    rcases hstage with hstage | hstage
    · simp [hstage, hkind]
    · simp [hstage, hkind]
  · have hrun : Runs (.bootSequence b) s (bootSequence b s.dev) := rfl
    have heq := bootSequence_eq (b := b) hres hpower
    simp only [hstage, hkind, if_true] at heq
    have hfault : s.dev.romSteps b = s.dev.faultF2 0x0502 10 b.lifecycleWord := if_pos (by rw [hunread]; rfl)
    exact ⟨_, runs_of_eq hrun (heq.trans hfault), Dev.faultF2_taken (by rw [hstage]; decide) _ _ _⟩
  · have hrun : Runs (.bootSequence b) s (bootSequence b s.dev) := rfl
    have heq := bootSequence_eq (b := b) hres hpower
    simp only [hstage, hkind, if_true] at heq
    exact ⟨_, runs_of_eq hrun heq, Dev.romSteps_holds hread htamper⟩
  · have hrun : Runs (.bootSequence b) s (bootSequence b s.dev) := rfl
    have heq := bootSequence_eq (b := b) hres hpower
    simp only [hstage, hkind, if_true] at heq
    rw [Dev.romSteps_free hread hlatched hactive, if_pos hkiln] at heq
    exact ⟨_, runs_of_eq hrun heq, Dev.enterKiln_enters false⟩
  · have hrun : Runs (.bootSequence b) s (bootSequence b s.dev) := rfl
    have heq := bootSequence_eq (b := b) hres hpower
    simp only [hstage, hkind, if_true] at heq
    rw [Dev.romSteps_free hread hlatched hactive, if_neg (by omega), if_pos hkiln] at heq
    obtain ⟨hentered, hdeadline⟩ := s.dev.takeLifecycle.enterKiln_enters true
    exact ⟨_, runs_of_eq hrun heq, hentered, hdeadline.trans (by rw [s.dev.keepsBoot_takeLifecycle.uptime]; rfl)⟩
  · have hrun : Runs (.bootSequence b) s (bootSequence b s.dev) := rfl
    have heq := bootSequence_eq (b := b) hres hpower
    simp only [hstage, hkind, if_true] at heq
    rw [Dev.romSteps_free hread hlatched hactive, if_neg (by omega), if_neg hselect] at heq
    exact ⟨_, runs_of_eq hrun heq, Dev.selectImages_loads (s.dev.keepsBoot_takeLifecycle.trial.trans htrial) hforce husable⟩
  · have hrun : Runs (.bootSequence b) s (bootSequence b s.dev) := rfl
    have heq := bootSequence_eq (b := b) hres hpower
    simp only [hstage] at heq
    exact ⟨_, runs_of_eq hrun heq, rfl, rfl, rfl, rfl⟩
  · have hrun : Runs (.bootSequence b) s (bootSequence b s.dev) := rfl
    have heq := bootSequence_eq (b := b) hres hpower
    simp only [hstage, hrefused, if_true] at heq
    exact runs_of_eq hrun heq
  · have hrun : Runs (.bootSequence b) s (bootSequence b s.dev) := rfl
    have heq := bootSequence_eq (b := b) hres hpower
    simp only [hstage, hopen, Bool.false_eq_true, if_false] at heq
    obtain ⟨e, hkept, hadmit⟩ := Dev.admitCfg_empty hbank hsge
    exact ⟨_, runs_of_eq hrun (heq.trans hadmit),
      Dev.cfgApply_nil_runs (hkept.stage.trans hstage) ((congrArg Twin.link hkept.twin).trans hlink)⟩
  · have hrun : Runs (.bootSequence b) s (bootSequence b s.dev) := rfl
    have heq := bootSequence_eq (b := b) hres hpower
    simp only [hstage, hopen, Bool.false_eq_true, if_false] at heq
    exact ⟨_, runs_of_eq hrun heq, Dev.admitCfg_refused he⟩
  · have hrun : Runs (.bootSequence b) s (bootSequence b s.dev) := rfl
    have heq := bootSequence_eq (b := b) hres hpower
    simp only [hstage, hopen, Bool.false_eq_true, if_false] at heq
    exact runs_of_eq hrun (heq.trans (Dev.admitCfg_applies hl))
  · have hrun : Runs (.warmPathBoot b) s (warmPath b s.dev) := rfl
    exact runs_of_eq hrun (if_pos h)
  · have hrun : Runs (.warmPathBoot b) s (warmPath b s.dev) := rfl
    have heq := (warmPath_eq (b := b) hdormant hlatched).trans (if_neg (by rw [hcold]; decide))
    exact ⟨_, runs_of_eq hrun heq, Dev.coldFromDormant_starts⟩
  · have hrun : Runs (.warmPathBoot b) s (warmPath b s.dev) := rfl
    exact runs_of_eq hrun ((warmPath_eq (b := b) hdormant hlatched).trans (if_pos hwarm))

end Sys2Proof.Machine
end

section
/-! SUPPORT. Frames that the device sends, and the journal of a twin, change no more than frames and links do. -/

namespace Sys2Proof.Machine

open Sys2Proof

theorem Dev.moves_modTwin (d : Dev) (f : Twin → Twin) : d.Moves (d.modTwin f) := ⟨_, _, _, _, _, _, _, _, _, rfl⟩

theorem Dev.moves_wakeOnEgress (d : Dev) (p : Nat) : d.Moves (d.wakeOnEgress p) := by
  unfold Dev.wakeOnEgress
  split
  · exact .refl d
  · split
    · split
      · exact (d.stirs_wake _ _).moves
      · exact .refl d
    · exact .refl d

theorem Dev.moves_admitCopy (n : Nat) (acc : Dev × List Copy) (k : Copy) : acc.1.Moves (Dev.admitCopy n acc k).1 := by
  unfold Dev.admitCopy
  dsimp only
  split
  · exact (acc.1.posts_count _ _).moves
  · split
    · exact Dev.moves_wakeOnEgress _ _
    · exact (acc.1.posts_count _ _).moves

theorem Dev.moves_mirrorCopy (d : Dev) (id i kind mirrored : Nat) (m : Mirror) : d.Moves (d.mirrorCopy id i kind mirrored m) := by
  unfold Dev.mirrorCopy
  split
  · exact .refl d
  · dsimp only
    split
    · exact ((d.moves_wakeOnEgress m.dest).trans (Dev.moves_modStored _ _ _)).trans
        ((Dev.posts_count _ _ _).trans (Dev.posts_count _ _ _)).moves
    · split
      · exact (d.posts_count _ _).moves
      · exact ((d.posts_count _ _).trans (Dev.posts_count _ _ _)).moves

theorem Dev.moves_mirrorOne (id i kind mirrored : Nat) (d : Dev) : d.Moves (Dev.mirrorOne id i kind mirrored d) := by
  unfold Dev.mirrorOne
  dsimp only
  split
  · exact (d.moves_fabric _).trans (Dev.moves_mirrorCopy _ _ _ _ _ _)
  · exact d.moves_fabric _

theorem Dev.moves_mirrorAll (d : Dev) (id inPort : Nat) (outs : List Nat) (named : Option Nat) :
    d.Moves (d.mirrorAll id inPort outs named) := by
  refine .foldl (fun e i => ?_) _ d
  extract_lets m e1
  have hingress : e.Moves e1 := by
    simp only [e1]
    split
    · exact Dev.moves_mirrorOne _ _ _ _ _
    · exact .refl e
  refine hingress.trans (.foldl (fun e2 p => ?_) _ _)
  split
  · exact Dev.moves_mirrorOne _ _ _ _ _
  · exact .refl e2

theorem Dev.moves_countEvicted (d : Dev) (f : Stored) : d.Moves (d.countEvicted f) :=
  .foldl (fun e _ => (e.posts_count _ _).moves) _ d

theorem Dev.moves_place (d : Dev) (bytes : Bytes) (len : Nat) (info : FrameInfo) (copies : List Copy) (receiving : Bool) :
    d.Moves (d.place bytes len info copies receiving).2 := by
  unfold Dev.place
  extract_lets n a d1
  have hadmitted : d.Moves d1 := List.foldlRecOn (motive := fun acc => d.Moves acc.1) copies _ (.refl d)
    (fun acc h k _ => h.trans (Dev.moves_admitCopy n acc (d.unfence k)))
  have hcounted : ∀ (e : Dev) (i : Nat) (ks : List Copy),
      e.Moves (ks.foldl (fun e j => e.count 3 (voqIx j.port j.tc i)) e) := fun e _ _ => .foldl (fun e _ => (e.posts_count _ _).moves) _ e
  split
  · exact hadmitted
  · extract_lets twinPort
    split
    · exact hadmitted.trans (hcounted d1 1 _)
    · refine hadmitted.trans (.trans ?_ (hcounted _ 0 _))
      exact .trans (d1.moves_fabric _) (.foldl Dev.moves_countEvicted _ _)

theorem Dev.moves_enqueue (d : Dev) (bytes : Bytes) (len : Nat) (info : FrameInfo) (copies : List Copy) (named : Option Nat)
    (receiving : Bool) : d.Moves (d.enqueue bytes len info copies named receiving) := by
  have hplaced := d.moves_place bytes len info copies receiving
  unfold Dev.enqueue
  split
  next d1 heq => rwa [heq] at hplaced
  next id d1 heq =>
    rw [heq] at hplaced
    dsimp only
    refine hplaced.trans (.trans ?_ (Dev.flushes_settleFabric _).moves)
    split
    · exact .refl d1
    · exact Dev.moves_mirrorAll _ _ _ _ _

theorem Dev.moves_twinSend (d : Dev) (rs : List (Nat × Bytes)) : d.Moves (d.twinSend rs) := by
  have hsent : ∀ f, d.Moves (d.sendAt 9 5 f) := fun f => Dev.moves_enqueue ..
  exact ((hsent _).trans (Dev.moves_modTwin _ _)).trans (Dev.posts_count _ _ _).moves

/-- The journal's record of a generation changes no more than the frames that carry it. -/
theorem Dev.moves_journalCommit (d : Dev) (gen : Nat) (l : List Staged) : d.Moves (d.journalCommit gen l) := by
  have hjournal : ∀ (e : Dev) rs, e.Moves (e.journal rs) := fun e rs => .foldl (fun e f => e.moves_twinSend f) _ e
  have hsync : ∀ (e : Dev) type rs, e.Moves (e.journalSync type rs) := by
    intro e type rs
    unfold Dev.journalSync
    exact (hjournal e rs).trans (Dev.moves_modTwin _ _)
  unfold Dev.journalCommit
  dsimp only
  split
  · exact (d.moves_modTwin _).trans (hsync _ _ _)
  · exact d.moves_modTwin _

end Sys2Proof.Machine
end

section
/-! SUPPORT. What leaves the trial and the commit being applied as they are: all that frames, links, events and wakes change, answers to
requests, and the legal event log. -/

namespace Sys2Proof.Machine

open Sys2Proof

/-- The block is on trial as `o` says, and applies the commit `c`. -/
structure Dev.Trying (d : Dev) (o : Option Trial) (c : Option Commit) : Prop where
  trial : d.update.trial = o
  committing : d.txn.committing = c

variable {d d' : Dev} {o : Option Trial} {c : Option Commit}

theorem Dev.trying (d : Dev) : d.Trying d.update.trial d.txn.committing := ⟨rfl, rfl⟩

theorem Dev.Trying.frame (h : d.Trying o c) (htrial : d'.update.trial = d.update.trial) (hcommit : d'.txn.committing = d.txn.committing) :
    d'.Trying o c := ⟨htrial.trans h.trial, hcommit.trans h.committing⟩

theorem Dev.Trying.moves (h : d.Trying o c) (hm : d.Moves d') : d'.Trying o c := by
  obtain ⟨_, _, _, _, _, _, _, _, _, rfl⟩ := hm
  exact ⟨h.trial, h.committing⟩

theorem Dev.Trying.posts (h : d.Trying o c) (hp : d.Posts d') : d'.Trying o c := h.moves hp.moves

theorem Dev.Trying.post {code object data : Nat} (h : d.Trying o c) : (d.post code object data).Trying o c := h.posts (d.posts_post _ _ _)

theorem Dev.Trying.ite {p : Prop} [Decidable p] {a b : Dev} (ha : a.Trying o c) (hb : b.Trying o c) : (if p then a else b).Trying o c := by
  split
  · exact ha
  · exact hb

theorem Dev.Trying.foldl {α : Type} {l : List α} {f : Dev → α → Dev} (h : d.Trying o c)
    (hf : ∀ e : Dev, e.Trying o c → ∀ x, (f e x).Trying o c) : (l.foldl f d).Trying o c :=
  List.foldlRecOn l f h (fun e he x _ => hf e he x)

/-! ## Answers to requests -/

theorem Dev.Trying.modChan (h : d.Trying o c) (ch : Nat) (f : Chan → Chan) : (d.modChan ch f).Trying o c := h.frame rfl rfl

theorem Dev.Trying.answer (h : d.Trying o c) (t : Taken) (st det : Nat) (pl : Bytes) : (d.answer t st det pl).Trying o c := h.frame rfl rfl

theorem Dev.Trying.hopperWrite {n : Nat} {bs : Bytes} (h : d.Trying o c) (hw : d.hopperWrite n bs = some d') : d'.Trying o c := by
  unfold Dev.hopperWrite at hw
  split at hw
  · obtain rfl := Option.some.inj hw
    exact h.frame rfl rfl
  · cases hw

theorem Dev.Trying.bulkWriteAll (l : List BulkDesc) (bs : Bytes) (h : d.Trying o c) : (bulkWriteAll d l bs).Trying o c := by
  induction l generalizing d bs with
  | nil => exact h
  | cons b l ih =>
    rw [Sys2Proof.Machine.bulkWriteAll]
    refine ih _ ?_
    split
    · exact h
    · split
      · cases hw : d.hopperWrite b.addr (bs.take b.bytes) with
        | none => exact h
        | some d' => exact h.hopperWrite hw
      · exact h.frame rfl rfl

theorem Dev.Trying.answerData (h : d.Trying o c) (t : Taken) (st det : Nat) (pl : Bytes) (r : ReqData) :
    (d.answerData t st det pl r).Trying o c := by
  unfold Dev.answerData
  split
  · split
    · exact h.answer t _ _ _
    · exact (h.bulkWriteAll _ _).answer _ _ _ _
  · exact h.answer t _ _ _

theorem Dev.Trying.drain (ch n : Nat) (h : d.Trying o c) : (Dev.drain ch n d).Trying o c := by
  induction n generalizing d with
  | zero => exact h
  | succ n ih =>
    unfold Dev.drain
    dsimp only
    split
    · split
      · exact ih ((h.modChan _ _).answer _ _ _ _)
      · exact h
    · exact h

theorem Dev.Trying.finish (h : d.Trying o c) (t : Taken) (r : ReqData) (ch det : Nat) (pl : Bytes) : (d.finish t r ch det pl).Trying o c :=
  (h.answerData t stOk det pl r).drain _ _

/-- The end of the command in progress on a channel. -/
theorem Dev.Trying.complete (h : d.Trying o c) (ch st det : Nat) (pl : Bytes) : (d.complete ch st det pl).Trying o c := by
  unfold Dev.complete
  extract_lets k
  split
  · exact h
  · dsimp only
    split
    · exact (h.modChan _ _).drain _ _
    · exact ((h.modChan _ _).answerData _ _ _ _ _).drain _ _

/-! ## The arrival of requests -/

theorem Dev.Trying.arrival (h : d.Trying o c) (ch op : Nat) : (d.arrival ch op).Trying o c := by
  unfold Dev.arrival
  extract_lets _ d1 _ d2 _
  have h2 : d2.Trying o c := .ite (h.frame rfl rfl) (h.frame rfl rfl)
  split
  · exact .ite (h2.frame rfl rfl) h2
  · exact h2

theorem Dev.Trying.take (h : d.Trying o c) (t : Taken) : (d.take t).Trying o c := (h.arrival _ _).modChan _ _

theorem Dev.Trying.pull (ch n : Nat) (h : d.Trying o c) : (Dev.pull ch n d).Trying o c := by
  induction n generalizing d with
  | zero => exact h
  | succ n ih =>
    unfold Dev.pull
    split
    · exact h
    · split
      · exact ih ((h.modChan _ _).take _)
      · exact h

/-- A request that is admitted finds the trial and the commit as they were. -/
theorem Dev.trying_of_admitted {s d : Dev} {op : Nat} {rq : Req} {most : Dev → Bytes → Nat} {t : Taken} {r : ReqData}
    (hadm : s.admitted op rq most = some (t, d, r)) : d.Trying s.update.trial s.txn.committing := by
  have hpulled := s.trying.pull rq.ch (s.chan rq.ch).waiting.length
  obtain ⟨hstart, _⟩ := Dev.admitted_inv hadm
  unfold Dev.start at hstart
  dsimp only at hstart
  split at hstart
  · cases hstart
  · split at hstart
    · split at hstart
      · cases hstart
        exact hpulled.modChan _ _
      · cases hstart
    · split at hstart
      · cases hstart
        exact (hpulled.take _).modChan _ _
      · cases hstart

/-! ## LEG's start -/

theorem Dev.Trying.logWrite (h : d.Trying o c) (type session data : Nat) : (d.logWrite type session data).Trying o c := by
  unfold Dev.logWrite
  dsimp only
  split
  · exact h.frame rfl rfl
  · refine .post ?_
    exact h.frame rfl rfl

theorem Dev.Trying.legalLog (h : d.Trying o c) (type session data : Nat) : (d.legalLog type session data).Trying o c := by
  unfold Dev.legalLog
  dsimp only
  split
  · exact h.logWrite _ _ _
  · refine .logWrite (.logWrite ?_ _ _ _) _ _ _
    exact h.frame rfl rfl

theorem Dev.Trying.queueSeal (h : d.Trying o c) (n cause : Nat) : (d.queueSeal n cause).Trying o c := h.frame rfl rfl

theorem Dev.Trying.startLogs (h : d.Trying o c) : d.startLogs.Trying o c := by
  unfold Dev.startLogs
  extract_lets _ d1 _
  have h1 : d1.Trying o c := by
    unfold d1
    split
    · exact h
    · extract_lets e
      have he : e.Trying o c := by
        refine .legalLog ?_ _ _ _
        exact h.frame rfl rfl
      exact .ite (he.queueSeal _ _) he
  split
  · exact h1
  · refine .queueSeal (.legalLog ?_ _ _ _) _ _
    exact h1.frame rfl rfl

theorem Dev.Trying.legStarts (h : d.Trying o c) : d.legStarts.Trying o c := .startLogs (h.frame rfl rfl)

end Sys2Proof.Machine
end

section
/-! SUPPORT. What the staged commands put in force leaves the trial and the commit being applied as they are (R53 to R57). -/

namespace Sys2Proof.Machine

open Sys2Proof

variable {d : Dev} {o : Option Trial} {c : Option Commit}

/-! ## The operations that the commands share -/

theorem Dev.Trying.stirs {d' : Dev} (h : d.Trying o c) (hs : d.Stirs d') : d'.Trying o c := h.moves hs.moves

theorem Dev.Trying.modPort {p : Nat} {f : Port → Port} (h : d.Trying o c) : (d.modPort p f).Trying o c := h.frame rfl rfl

theorem Dev.Trying.emit {x : Output} (h : d.Trying o c) : (d.emit x).Trying o c := h.frame rfl rfl

theorem Dev.Trying.count {cls i : Nat} (h : d.Trying o c) : (d.count cls i).Trying o c := h.frame rfl rfl

theorem Dev.Trying.mdioQueue {p kind : Nat} (h : d.Trying o c) : (d.mdioQueue p kind).Trying o c := .ite h (h.frame rfl rfl)

theorem Dev.Trying.phyAct {p kind : Nat} {a : PhyAction} (h : d.Trying o c) : (d.phyAct p kind a).Trying o c := .ite h.emit.mdioQueue h

theorem Dev.Trying.phyFault {p reason : Nat} (h : d.Trying o c) : (d.phyFault p reason).Trying o c := h.count.post

theorem Dev.Trying.phySetup {p : Nat} (h : d.Trying o c) : (d.phySetup p).Trying o c := by
  unfold Dev.phySetup
  extract_lets q d1 ident d2
  have h1 : d1.Trying o c := .ite h.emit h
  have h2 : d2.Trying o c := .modPort (h1.frame rfl rfl)
  exact .ite h1 (.ite h2.mdioQueue.phyFault h2.phyAct)

theorem Dev.Trying.putGates {p : Nat} {g : Gates} (h : d.Trying o c) : (d.putGates p g).Trying o c := h.frame rfl rfl

theorem Dev.Trying.driveGates {p : Nat} (h : d.Trying o c) : (d.driveGates p).Trying o c := by
  unfold Dev.driveGates
  extract_lets g
  split
  · exact h.putGates
  · split
    · exact h.putGates
    · split
      · exact h
      · extract_lets op hold d1 d2
        have h1 : d1.Trying o c := h.putGates
        have h2 : d2.Trying o c := h1.count
        split
        · split
          · exact .ite (h2.frame rfl rfl) h2
          · exact h2
        · exact h1

theorem Dev.moves_fdbFlushPort (d : Dev) (p : Nat) : d.Moves (d.fdbFlushPort p) := ⟨_, _, _, _, _, _, _, _, _, rfl⟩

theorem Dev.Trying.disablePort {p : Nat} (h : d.Trying o c) : (d.disablePort p).Trying o c := by
  unfold Dev.disablePort
  extract_lets d1 d2
  have hdown : ∀ e : Dev, e.Trying o c → ∀ f, ((e.endReception p).loseSending p |>.modPort p f).Trying o c := fun e he _ =>
    ((he.moves (e.moves_endReception p)).moves (Dev.moves_loseSending _ _)).modPort
  have h1 : d1.Trying o c := .ite (((hdown d h _).count.post).moves (Dev.moves_preemptLinkDown _ _)) h
  have h2 : d2.Trying o c := h1.phyAct.modPort
  exact .driveGates (((h2.moves (d2.flushes_flushPort p).moves).moves (Dev.flushes_lagPort _ p).moves).moves (Dev.moves_fdbFlushPort _ p))

theorem Dev.Trying.settleQuality (h : d.Trying o c) : d.settleQuality.Trying o c := .ite h (.post (h.frame rfl rfl))

theorem Dev.Trying.switchSlot {i cause : Nat} (h : d.Trying o c) : (d.switchSlot i cause).Trying o c := by
  rw [Dev.switchSlot_eq]
  exact .settleQuality (.post (.count (h.frame rfl rfl)))

theorem Dev.Trying.autoSwitch {old : Dev} (h : d.Trying o c) : (d.autoSwitch old).Trying o c := .ite h.switchSlot h

theorem Dev.Trying.slotState {i : Nat} {st : SlotState} (h : d.Trying o c) : (d.slotState i st).Trying o c :=
  .ite h (.post (h.frame rfl rfl))

theorem Dev.Trying.slotsLosePort {p : Nat} (h : d.Trying o c) : (d.slotsLosePort p).Trying o c :=
  .settleQuality (.autoSwitch (h.foldl (fun _ he _ => .ite (he.slotState.frame rfl rfl) he)))

theorem Dev.Trying.setCapable {p : Nat} {ok : Bool} (h : d.Trying o c) : (d.setCapable p ok).Trying o c :=
  .ite (.slotsLosePort (h.frame rfl rfl)) (h.frame rfl rfl)

theorem Dev.Trying.preemptLinkUp {p : Nat} (h : d.Trying o c) : (d.preemptLinkUp p).Trying o c := by
  have hset : ∀ st f, (d.setPreempt p st f).Trying o c := fun st f => h.moves (d.moves_setPreempt p st f)
  exact .ite h (.ite (.ite (hset _ _).emit (hset _ _)) (hset _ _))

theorem Dev.Trying.settlePower (h : d.Trying o c) : d.settlePower.Trying o c := h.stirs d.stirs_settlePower

theorem Dev.Trying.wakeFirst {n : Nat} (h : d.Trying o c) : (d.wakeFirst n).Trying o c := by
  unfold Dev.wakeFirst
  split
  · rename_i m _
    have hset : ((d.driveStb m false).setDomain n .awake m.wakeSource).Trying o c :=
      .stirs (h.frame rfl rfl) (Dev.stirs_setDomain _ _ _ _)
    exact .ite h (hset.foldl (fun _ he _ => .ite (he.frame rfl rfl) he))
  · exact h

theorem Dev.Trying.setRole {r : TwinRole} {cause : Nat} (h : d.Trying o c) : (d.setRole r cause).Trying o c :=
  .ite h (.post (h.frame rfl rfl))

theorem Dev.Trying.freeRole {r : TwinRole} (h : d.Trying o c) : (d.freeRole r).Trying o c := .ite h (.setRole (h.frame rfl rfl))

theorem Dev.Trying.modTwin {f : Twin → Twin} (h : d.Trying o c) : (d.modTwin f).Trying o c := h.frame rfl rfl

theorem Dev.Trying.startPairing (h : d.Trying o c) : d.startPairing.Trying o c := h.freeRole

theorem Dev.Trying.goDown {p cause : Nat} (h : d.Trying o c) : (d.goDown p cause).Trying o c := h.moves (d.moves_goDown p cause)

/-! ## The commands -/

theorem applyPortCfg_trying {bs : Bytes} (h : d.Trying o c) : (applyPortCfg bs d).Trying o c := by
  unfold applyPortCfg
  extract_lets p old admin limit d1 d2
  have h1 : d1.Trying o c := h.modPort
  have h2 : d2.Trying o c := h1.modPort
  split
  · exact h.modPort
  · split
    · exact h.modPort
    · exact .ite h1.disablePort (.ite h1.phySetup.driveGates (.ite (.phySetup (.ite h2.goDown h2)) h1))

theorem applyPortPlca_trying {bs : Bytes} (h : d.Trying o c) : (applyPortPlca bs d).Trying o c := by
  have hset : ∀ e : Dev, e.Trying o c → (e.setPlcaStart (byteAt bs 0) none).Trying o c := fun _ he => .ite (he.frame rfl rfl) he
  exact .ite (hset _ h.modPort).goDown (hset _ h.modPort)

theorem applyFabLag_trying {bs : Bytes} (h : d.Trying o c) : (applyFabLag bs d).Trying o c := by
  unfold applyFabLag
  extract_lets g d1 _ old ms same l _
  have h1 : d1.Trying o c := h.foldl (fun _ he _ => he.frame rfl rfl)
  exact .ite (h1.frame rfl rfl) (.moves (h.frame rfl rfl) (Dev.flushes_lagRemap _ _).moves)

theorem applySafeTwin_trying {bs : Bytes} (h : d.Trying o c) : (applySafeTwin bs d).Trying o c := by
  unfold applySafeTwin
  extract_lets on d0 d1
  have h0 : d0.Trying o c := .ite ((h.moves (d.flushes_flushPort 9).moves).moves (Dev.moves_fdbFlushPort _ 9)) h
  have h1 : d1.Trying o c := h0.modTwin
  exact .ite h1.startPairing (.ite h1.modTwin.freeRole h1)

theorem applyGateway_trying {x : Staged} (h : d.Trying o c) : (applyGateway x d).Trying o c := by
  unfold applyGateway
  split
  all_goals exact h.frame rfl rfl

theorem applyPlain_trying {x : Staged} (h : d.Trying o c) : (applyPlain d x).Trying o c := by
  unfold applyPlain
  split
  · exact h.modChan _ _
  · exact applyPortCfg_trying h
  · exact h.modPort
  · exact applyPortPlca_trying h
  · exact .moves (h.frame rfl rfl) (Dev.flushes_levelCheck _).moves
  · exact h.frame rfl rfl
  · exact h.frame rfl rfl
  · exact applyFabLag_trying h
  · exact h.frame rfl rfl
  · exact h.frame rfl rfl
  · exact h.frame rfl rfl
  · exact h.frame rfl rfl
  · exact .ite (.preemptLinkUp (h.frame rfl rfl)) (.moves (h.frame rfl rfl) (Dev.moves_preemptLinkDown _ _))
  · exact .ite (h.frame rfl rfl) (h.frame rfl rfl)
  · exact h.frame rfl rfl
  · exact h.frame rfl rfl
  · exact h.frame rfl rfl
  · exact .settleQuality (.ite (.switchSlot (h.frame rfl rfl)) (h.frame rfl rfl))
  · exact .ite h (.slotState (h.frame rfl rfl))
  · exact .ite (h.frame rfl rfl) (.setCapable (h.frame rfl rfl))
  · exact h.frame rfl rfl
  · exact .ite (h.frame rfl rfl) (h.frame rfl rfl)
  · exact h.frame rfl rfl
  · exact .ite (.settlePower (h.wakeFirst.frame rfl rfl)) (.settlePower (h.wakeFirst.frame rfl rfl))
  · exact h.frame rfl rfl
  · exact h.frame rfl rfl
  · exact h.frame rfl rfl
  · exact applySafeTwin_trying h
  · exact applyGateway_trying h

theorem applyAtOnce_trying {b : Batch} (h : d.Trying o c) : (applyAtOnce b d).Trying o c := by
  have harmed : ∀ e : Dev, e.Trying o c → (armGates b e).Trying o c := by
    intro e he
    refine .foldl he (fun _ he _ => ?_)
    split
    · exact he.putGates
    · exact he
  exact .settleQuality (.autoSwitch (harmed _ (h.foldl (fun _ he _ => applyPlain_trying he))))

theorem applyLauterState_trying {x : Staged} (h : d.Trying o c) : (applyLauterState x d).Trying o c := by
  unfold applyLauterState
  split
  · unfold applyLtrStatic
    split
    · exact h.frame rfl rfl
    · exact h
  · exact h.frame rfl rfl
  · exact h.frame rfl rfl
  · exact h.frame rfl rfl
  · exact h

/-- The commit that a transaction's application begins. -/
def Dev.begunCommit (d : Dev) (id owner : Nat) (kind : CommitKind) (l : List Staged) : Commit :=
  { id := id, owner := owner, kind := kind, staged := l, rules := if l.any (fun c => isBanked c.opcode) then some d.uptime else none
    cupola := changesGroups (batchOf l), since := d.uptime, pause := if l.any (fun c => isBanked c.opcode) then d.switchPause else 0 }

/-- The application of a transaction leaves the trial, and begins a commit. -/
theorem Dev.Trying.applyTxn (h : d.Trying o c) (id owner : Nat) (kind : CommitKind) (l : List Staged) :
    (d.applyTxn id owner kind l).Trying o (some (d.begunCommit id owner kind l)) := by
  unfold Dev.applyTxn
  extract_lets b d' banked groups d1 _ d2 d3 c _
  have h1 : d1.Trying o _ := applyAtOnce_trying h
  have h2 : d2.Trying o _ := .ite (h1.frame rfl rfl) (h1.foldl (fun _ he _ => applyLauterState_trying he))
  have h3 : d3.Trying o _ := .ite (h2.frame rfl rfl) h2
  exact ⟨h3.trial, rfl⟩

end Sys2Proof.Machine
end

section
/-! SUPPORT. What a commit's end leaves of the trial: all but its timer's start (R55, R393). -/

namespace Sys2Proof.Machine

open Sys2Proof

/-- The trial without its timer. -/
def Trial.unstarted (t : Trial) : Trial := { t with deadline := none }

/-- The trial as it is but for its timer, or none. -/
def Dev.trialKept (d : Dev) : Option Trial := d.update.trial.map Trial.unstarted

variable {d d' : Dev} {o : Option Trial} {c : Option Commit}

theorem Dev.Trying.kept (h : d.Trying o c) : d.trialKept = o.map Trial.unstarted := congrArg (Option.map Trial.unstarted) h.trial

/-- A start of the timer under any condition. -/
theorem map_unstarted_start (o : Option Trial) (p : Trial → Bool) (f : Trial → Option Nat) :
    (o.map (fun t => if p t then { t with deadline := f t } else t)).map Trial.unstarted = o.map Trial.unstarted := by
  cases o with
  | none => rfl
  | some t =>
    refine congrArg some ?_
    dsimp only
    split
    · rfl
    · rfl

theorem Dev.startTrial_kept (d : Dev) : d.startTrial.trialKept = d.trialKept := map_unstarted_start _ _ _

theorem Dev.enterRun_kept (d : Dev) : d.enterRun.trialKept = d.trialKept := by
  have hreached : d.reached.trialKept = d.trialKept := map_unstarted_start _ _ _
  have hposted : (d.reached.post 0x0101 6 0).Trying d.reached.update.trial d.reached.txn.committing := d.reached.trying.post
  have heq : d.enterRun =
      if (d.reached.post 0x0101 6 0).twin.enable then (d.reached.post 0x0101 6 0).startPairing else d.reached.post 0x0101 6 0 := rfl
  rw [heq]
  exact (Dev.Trying.ite hposted.startPairing hposted).kept.trans hreached

theorem Dev.Trying.startSrcTimers (h : d.Trying o c) (l : List Staged) : (startSrcTimers l d).Trying o c :=
  h.foldl (fun _ he _ => .ite (he.frame rfl rfl) he)

theorem Dev.Trying.noteCommit (h : d.Trying o c) (k : Commit) : (d.noteCommit k).Trying o none := by
  unfold Dev.noteCommit
  refine .post (.startSrcTimers ?_ _)
  exact ⟨h.trial, rfl⟩

theorem Dev.Trying.fallbackEnds (h : d.Trying o c) (mask id cause : Nat) : (d.fallbackEnds mask id cause).Trying o c :=
  .post (.count (.ite h.legStarts h))

theorem Dev.commitDone_kept (d : Dev) (k : Commit) : (d.commitDone k).trialKept = d.trialKept := by
  unfold Dev.commitDone
  split
  · exact (d.trying.complete _ _ _ _).kept
  · rfl
  · exact (d.startTrial.trying.complete _ _ _ _).kept.trans d.startTrial_kept
  · exact (d.trying.fallbackEnds _ _ _).kept

theorem Dev.closeCommit_kept (d : Dev) (k : Commit) : (d.closeCommit k).trialKept = d.trialKept :=
  (Dev.commitDone_kept _ k).trans ((d.trying.noteCommit k).moves (Dev.moves_journalCommit _ _ _)).kept

/-- A commit that waits for a flip is not finished. -/
theorem Dev.finishCommit_of_waiting (h : ∀ k, d.txn.committing = some k → k.rules.isSome = true ∨ k.cupola = true) : d.finishCommit = d := by
  unfold Dev.finishCommit
  split
  · rfl
  next k hk => exact if_pos (by simpa using h k hk)

theorem Dev.finishCommit_kept (d : Dev) : d.finishCommit.trialKept = d.trialKept := by
  by_cases hwait : ∀ k, d.txn.committing = some k → k.rules.isSome = true ∨ k.cupola = true
  · rw [Dev.finishCommit_of_waiting hwait]
  · push Not at hwait
    obtain ⟨k, hk, hrules, hcupola⟩ := hwait
    rw [Dev.finishCommit_of_applied hk (by simpa using hrules) (by simpa using hcupola)]
    split
    · exact (Dev.enterRun_kept _).trans (d.closeCommit_kept k)
    · exact d.closeCommit_kept k

theorem Dev.trial_of_kept {t : Trial} (h : d.trialKept = some t) : ∃ e, d.update.trial = some { t with deadline := e } := by
  obtain ⟨t', ht', rfl⟩ := Option.map_eq_some_iff.mp h
  exact ⟨t'.deadline, ht'⟩

theorem Dev.trial_none_of_kept (h : d.trialKept = none) : d.update.trial = none := Option.map_eq_none_iff.mp h

end Sys2Proof.Machine
end

section
/-! SUPPORT. The switches of a HOT activation leave the trial, and only CFG's begins a commit (R391). -/

namespace Sys2Proof.Machine

open Sys2Proof

variable {d d' : Dev} {o : Option Trial} {c : Option Commit}

theorem Dev.Trying.setBank (h : d.Trying o c) (comp bank : Nat) (k : Bank) : (d.setBank comp bank k).Trying o c := h.frame rfl rfl

theorem Dev.Trying.hotEffect (h : d.Trying o c) (comp : Nat) : (d.hotEffect comp).Trying o c := by
  unfold Dev.hotEffect
  dsimp only
  have hdown : ∀ (e : Dev) (lo : Nat) (l : List Nat), e.Trying o c →
      (l.foldl (fun (x : Dev) i => linkDown (lo + i) (x.free.1 % 5 + 1) x.free.2) e).Trying o c :=
    fun e lo l he => he.foldl (fun x hx _ => (hx.moves x.moves_free).moves (Dev.moves_linkDown _ _ _))
  split
  · exact h.legStarts
  · exact hdown _ _ _ (h.frame rfl rfl)
  · exact hdown _ _ _ (h.frame rfl rfl)
  · exact h

theorem Dev.Trying.cfgBegin (h : d.Trying o c) (owner : Nat) (kind : CommitKind) (l : List Staged) :
    ∃ k : Commit, (d.cfgBegin owner kind l).Trying o (some k) ∧ k.owner = owner ∧ k.kind = kind ∧ k.staged = l := by
  have hnumbered : ({ d with txn := { d.txn with lastId := nextTxnId d.txn.lastId } } : Dev).Trying o c := ⟨h.trial, h.committing⟩
  exact ⟨_, hnumbered.applyTxn (nextTxnId d.txn.lastId) owner kind l, rfl, rfl, rfl⟩

/-- One switch of a HOT activation. -/
def Dev.hotStep (ch us : Nat) (banks : List (Nat × Nat)) (cfg : List Staged) (d : Dev) (c : Nat) : Dev :=
  match banks.find? (fun b => b.1 == c) with
  | none => d
  | some b =>
    let d1 := (d.tryBank c b.2).hotEffect c
    if c == 5 then d1.cfgBegin ch (.hot us) cfg else d1

theorem Dev.hotSwitch_eq (d : Dev) (ch us : Nat) (banks : List (Nat × Nat)) (failsAt : Option Nat) (cfg : List Staged) :
    d.hotSwitch ch us banks failsAt cfg = (hotSteps banks failsAt).foldl (Dev.hotStep ch us banks cfg) d := rfl

variable {ch us : Nat} {banks : List (Nat × Nat)} {cfg : List Staged} {failsAt : Option Nat}

theorem Dev.Trying.hotStep_plain (h : d.Trying o c) {k : Nat} (hk : k ≠ 5) : (Dev.hotStep ch us banks cfg d k).Trying o c := by
  unfold Dev.hotStep
  split
  · exact h
  · dsimp only
    rw [if_neg (by simpa using hk)]
    exact (h.setBank _ _ _).hotEffect _

/-- The switch of CFG begins the commit of its commands. -/
theorem Dev.Trying.hotStep_cfg (h : d.Trying o c) (hcfg : ∃ b ∈ banks, b.1 = 5) :
    ∃ k : Commit, (Dev.hotStep ch us banks cfg d 5).Trying o (some k) ∧ k.owner = ch ∧ k.kind = .hot us ∧ k.staged = cfg := by
  unfold Dev.hotStep
  split
  next hnone =>
    obtain ⟨b, hb, heq⟩ := hcfg
    exact absurd heq (by simpa using List.find?_eq_none.mp hnone b hb)
  next b _ => exact ((h.setBank 5 b.2 _).hotEffect 5).cfgBegin ch (.hot us) cfg

theorem Dev.Trying.hotStep_trial (h : d.update.trial = o) (k : Nat) : (Dev.hotStep ch us banks cfg d k).update.trial = o := by
  have htrying : d.Trying o d.txn.committing := ⟨h, rfl⟩
  by_cases hk : k = 5
  · subst hk
    by_cases hcfg : ∃ b ∈ banks, b.1 = 5
    · obtain ⟨_, hbegun, _⟩ := htrying.hotStep_cfg (ch := ch) (us := us) (cfg := cfg) hcfg
      exact hbegun.trial
    · unfold Dev.hotStep
      split
      · exact h
      next b hb =>
        exact absurd ⟨b, List.mem_of_find?_eq_some hb, by simpa using List.find?_some hb⟩ hcfg
  · exact (htrying.hotStep_plain hk).trial

theorem Dev.hotSwitch_trial (d : Dev) : (d.hotSwitch ch us banks failsAt cfg).update.trial = d.update.trial := by
  rw [Dev.hotSwitch_eq]
  exact List.foldlRecOn (motive := fun e : Dev => e.update.trial = d.update.trial) _ _ rfl (fun e he k _ => Dev.Trying.hotStep_trial he k)

theorem Dev.Trying.foldl_hotStep (h : d.Trying o c) (l : List Nat) (hl : 5 ∉ l) : (l.foldl (Dev.hotStep ch us banks cfg) d).Trying o c :=
  List.foldlRecOn (motive := fun e : Dev => e.Trying o c) l _ h (fun _ he _ hk => he.hotStep_plain (fun h5 => hl (h5 ▸ hk)))

/-- Without CFG no commit begins. -/
theorem Dev.Trying.hotSwitch_plain (h : d.Trying o c) (hcfg : ∀ b ∈ banks, b.1 ≠ 5) : (d.hotSwitch ch us banks failsAt cfg).Trying o c := by
  rw [Dev.hotSwitch_eq]
  refine h.foldl_hotStep _ (fun hmem => ?_)
  have hnamed := List.of_mem_filter ((List.takeWhile_sublist _).mem hmem)
  obtain ⟨b, hb, h5⟩ := List.any_eq_true.mp hnamed
  exact hcfg b hb (by simpa using h5)

/-- CFG is the last component that is switched. -/
theorem hotSteps_of_cfg (hcfg : ∃ b ∈ banks, b.1 = 5) :
    hotSteps banks none = [1, 2, 3, 4].filter (fun c => banks.any (fun b => b.1 == c)) ++ [5] := by
  have hnamed : banks.any (fun b => b.1 == 5) = true := by
    obtain ⟨b, hb, h5⟩ := hcfg
    exact List.any_eq_true.mpr ⟨b, hb, by simpa using h5⟩
  have hall : ∀ l : List Nat, l.takeWhile (fun c => (none : Option Nat) != some c) = l := fun l => List.takeWhile_eq_self_iff.mpr (fun _ _ => rfl)
  have hlast : [5].filter (fun c => banks.any (fun b => b.1 == c)) = [5] := List.filter_cons_of_pos hnamed
  have hsplit : ([1, 2, 3, 4, 5] : List Nat) = [1, 2, 3, 4] ++ [5] := rfl
  rw [hotSteps, hall, hsplit, List.filter_append, hlast]

/-- With CFG its commit is begun, for the requesting channel and with the pause. -/
theorem Dev.Trying.hotSwitch_cfg (h : d.Trying o c) (hcfg : ∃ b ∈ banks, b.1 = 5) :
    ∃ k : Commit, (d.hotSwitch ch us banks none cfg).Trying o (some k) ∧ k.owner = ch ∧ k.kind = .hot us ∧ k.staged = cfg := by
  have hearlier := h.foldl_hotStep (ch := ch) (us := us) (banks := banks) (cfg := cfg)
    ([1, 2, 3, 4].filter (fun c => banks.any (fun b => b.1 == c))) (fun hmem => absurd (List.mem_of_mem_filter hmem) (by decide))
  rw [Dev.hotSwitch_eq, hotSteps_of_cfg hcfg, List.foldl_append]
  exact hearlier.hotStep_cfg hcfg

end Sys2Proof.Machine
end

section
/-! SUPPORT. FW_ACTIVATE: the trial it begins, its pause, and what follows the switches (R389 to R393). -/

namespace Sys2Proof.Machine

open Sys2Proof

variable {d d' : Dev} {o : Option Trial} {c : Option Commit}

/-- The longest pause of any component bounds that of a list of them. -/
theorem hotPause_le (l : List Nat) : hotPause l ≤ 150000 := by
  unfold hotPause
  refine List.foldlRecOn (motive := fun m => m ≤ 150000) l _ (Nat.zero_le _) (fun m hm k _ => max_le hm ?_)
  split
  all_goals decide

/-- The trial that an activation begins. -/
def Dev.begunTrial (d : Dev) (id confirmS : Nat) (banks : List (Nat × Nat)) (hot : Bool) : Trial :=
  { manifestId := id, mask := compMask (banks.map (fun b => b.1)), hot := hot, confirmS := confirmS, deadline := none
    previous := banks.map (fun b => (b.1, (d.bankInForce b.1).getD 2)), current := banks, faultMark := d.safety.faultSeq, failed := none }

theorem Dev.posts_beginTrial (d : Dev) (id confirmS : Nat) (banks : List (Nat × Nat)) (hot : Bool) :
    Dev.Posts { d with update := { d.update with trial := some (d.begunTrial id confirmS banks hot) } } (d.beginTrial id confirmS banks hot) :=
  (Dev.posts_count _ _ _).trans (Dev.posts_post _ _ _ _)

/-- The trial has begun; a manifest's own session has ended with it. -/
def Dev.onTrial (d : Dev) (id confirmS : Nat) (banks : List (Nat × Nat)) (hot own : Bool) : Dev :=
  if own then { d.beginTrial id confirmS banks hot with update := { (d.beginTrial id confirmS banks hot).update with session := none } }
  else d.beginTrial id confirmS banks hot

section
variable (d) (id confirmS : Nat) (banks : List (Nat × Nat)) (hot own : Bool)

theorem Dev.onTrial_trying : (d.onTrial id confirmS banks hot own).Trying (some (d.begunTrial id confirmS banks hot)) d.txn.committing := by
  have hposts := d.posts_beginTrial id confirmS banks hot
  have hbegun : (d.beginTrial id confirmS banks hot).Trying (some (d.begunTrial id confirmS banks hot)) d.txn.committing :=
    ⟨congrArg Update.trial hposts.update, congrArg TxnUnit.committing hposts.txn⟩
  exact .ite (hbegun.frame rfl rfl) hbegun

theorem Dev.onTrial_banks : (d.onTrial id confirmS banks hot own).update.banks = d.update.banks := by
  have hbanks := congrArg Update.banks (d.posts_beginTrial id confirmS banks hot).update
  unfold Dev.onTrial
  split
  · exact hbanks
  · exact hbanks

theorem Dev.onTrial_uptime : (d.onTrial id confirmS banks hot own).uptime = d.uptime := by
  have huptime := (d.posts_beginTrial id confirmS banks hot).uptime
  unfold Dev.onTrial
  split
  · exact huptime
  · exact huptime

end

/-! ## What the refusals leave -/

theorem trial_of_not_refused {reset : Bool} {banks : List (Nat × Nat)} (h : activationRefused d reset banks = none) :
    d.update.trial = none := by
  cases htrial : d.update.trial with
  | none => rfl
  | some t =>
    rw [activationRefused] at h
    simp [htrial] at h

theorem committing_of_not_refused {banks : List (Nat × Nat)} (h : activationRefused d true banks = none) : d.txn.committing = none := by
  cases hcommit : d.txn.committing with
  | none => rfl
  | some k =>
    have htrial := trial_of_not_refused h
    unfold activationRefused at h
    cases htxn : d.txn.txn with
    | none => simp [htrial, htxn, hcommit] at h
    | some t => simp [htrial, htxn] at h

/-! ## The command's answers -/

/-- What FW_ACTIVATE answers, and its effect. -/
def activateBody (failsAt : Option Nat) (d : Dev) (ch : Nat) (bs : Bytes) : Ans :=
  withLayout d 8 [fr 0 1 0 1, fr 1 1 0 1, fr 2 1 0 31, fr 4 4 0x6669726D 0x6669726D] bs
    (match activationBanks d ch bs with
     | .inl st => ansErr d st
     | .inr (id, confirmS, banks) =>
       let reset := byteAt bs 0 == 1
       match activationRefused d reset banks with
       | some e => ansErrD d e.1 e.2
       | none =>
         match activationCfg d reset banks with
         | .inl e => .done e.status e.detail e.payload d
         | .inr cfg => d.activate ch reset failsAt id confirmS banks cfg (byteAt bs 1 == 0))

theorem serveActivate_eq (rq : Req) (failsAt : Option Nat) (d : Dev) :
    serveActivate rq failsAt d = d.serve 0x0E04 rq (rspMax 4080) (activateBody failsAt) := rfl

section
variable {bs : Bytes} {ch id confirmS : Nat} {banks : List (Nat × Nat)} {cfg : List Staged} {reset own : Bool} {failsAt : Option Nat}

theorem activateBody_accepted (hlen : bs.length = 8)
    (hok : layoutOk [fr 0 1 0 1, fr 1 1 0 1, fr 2 1 0 31, fr 4 4 0x6669726D 0x6669726D] bs = true) (hreset : (byteAt bs 0 == 1) = reset)
    (hbanks : activationBanks d ch bs = .inr (id, confirmS, banks)) (hfree : activationRefused d reset banks = none)
    (hcfg : activationCfg d reset banks = .inr cfg) :
    activateBody failsAt d ch bs = d.activate ch reset failsAt id confirmS banks cfg (byteAt bs 1 == 0) := by
  unfold activateBody
  rw [withLayout_ok _ hlen hok, hbanks]
  dsimp only
  rw [hreset, hfree]
  dsimp only
  rw [hcfg]

theorem activateBody_busy (hlen : bs.length = 8)
    (hok : layoutOk [fr 0 1 0 1, fr 1 1 0 1, fr 2 1 0 31, fr 4 4 0x6669726D 0x6669726D] bs = true)
    (hbanks : ∃ x, activationBanks d ch bs = .inr x) (htrial : d.update.trial.isSome = true) :
    activateBody failsAt d ch bs = ansErr d stBusy := by
  obtain ⟨⟨id, confirmS, banks⟩, hbanks⟩ := hbanks
  have hrefused : activationRefused d (byteAt bs 0 == 1) banks = some (stBusy, 0) := if_pos htrial
  unfold activateBody
  rw [withLayout_ok _ hlen hok, hbanks]
  dsimp only
  rw [hrefused]
  rfl

theorem Dev.activate_reset : d.activate ch true failsAt id confirmS banks cfg own =
    ansOk ((({ d.onTrial id confirmS banks false own with
      update := { (d.onTrial id confirmS banks false own).update with trialFlag := true } } : Dev).activationDue).mramWrote 1) (zeros 8) := rfl

/-- The block whose HOT switches follow: the trial has begun, and the pause is drawn. -/
def Dev.hotBegun (d : Dev) (id confirmS : Nat) (banks : List (Nat × Nat)) (own : Bool) : Dev :=
  { d.onTrial id confirmS banks true own with freeIx := (d.onTrial id confirmS banks true own).freeIx + 1 }

/-- The pause of a HOT activation. -/
def Dev.hotTime (d : Dev) (id confirmS : Nat) (banks : List (Nat × Nat)) (own : Bool) : Nat :=
  Config.freePause (d.onTrial id confirmS banks true own).freeIx % (hotPause (banks.map (fun b => b.1)) + 1)

theorem Dev.hotTime_le : d.hotTime id confirmS banks own ≤ hotPause (banks.map (fun b => b.1)) := Nat.le_of_lt_succ (Nat.mod_lt _ (by omega))

theorem Dev.hotBegun_trying : (d.hotBegun id confirmS banks own).Trying (some (d.begunTrial id confirmS banks true)) d.txn.committing :=
  (d.onTrial_trying id confirmS banks true own).frame rfl rfl

theorem Dev.hotBegun_banks : (d.hotBegun id confirmS banks own).update.banks = d.update.banks := d.onTrial_banks id confirmS banks true own

theorem Dev.activate_hot : d.activate ch false failsAt id confirmS banks cfg own =
    (let us := d.hotTime id confirmS banks own
     let e := (d.hotBegun id confirmS banks own).hotSwitch ch us banks failsAt cfg
     if banks.any (fun b => failsAt == some b.1) then .wait e.hotStepFails
     else if banks.any (fun b => b.1 == 5) then .wait e
     else ansOk e.startTrial (leb 4 us ++ zeros 4)) := rfl

/-- The pause fits its field. -/
theorem le_hotAnswer {us : Nat} (h : us ≤ hotPause (banks.map (fun b => b.1))) : le (leb 4 us ++ zeros 4) 0 4 = us := by
  rw [le_leb_append]
  exact Nat.mod_eq_of_lt (lt_of_le_of_lt (h.trans (hotPause_le _)) (by decide))

end

/-! ## What follows the answer -/

/-- Where no step has failed, nothing follows the commit's end. -/
theorem fwActivate_of_sound {rq : Req} {failsAt : Option Nat} {e : Dev} (he : (serveActivate rq failsAt d).finishCommit = e)
    (hsound : ∀ t, e.update.trial = some t → t.failed = none) : fwActivate rq failsAt d = e := by
  have hno : e.update.trial.any (fun t => t.failed == some 5) = false := by
    cases htrial : e.update.trial with
    | none => rfl
    | some t => simp [hsound t htrial]
  unfold fwActivate
  dsimp only
  rw [he, hno, Bool.and_false]
  rfl

/-- During a trial, nothing follows it either. -/
theorem fwActivate_of_trial {rq : Req} {failsAt : Option Nat} (h : d.update.trial.isSome = true) :
    fwActivate rq failsAt d = (serveActivate rq failsAt d).finishCommit := by
  have hno : d.update.trial.isNone = false := by simpa using h
  unfold fwActivate
  dsimp only
  rw [hno, Bool.false_and]
  rfl

theorem fwActivate_of_failed {rq : Req} {failsAt : Option Nat} {e : Dev} {t : Trial} (he : (serveActivate rq failsAt d).finishCommit = e)
    (hnone : d.update.trial = none) (htrial : e.update.trial = some t) (hfailed : t.failed = some 5) :
    fwActivate rq failsAt d = e.hotFailed rq.ch failsAt := by
  have hyes : (d.update.trial.isNone && e.update.trial.any (fun t => t.failed == some 5)) = true := by
    rw [hnone, htrial]
    simpa using hfailed
  unfold fwActivate
  dsimp only
  rw [he, hyes]
  rfl

/-! ## Fallback (R395) -/

theorem Dev.fallbackHot_trial (d : Dev) (t : Trial) (switched cause : Nat) : (d.fallbackHot t switched cause).update.trial = none := by
  unfold Dev.fallbackHot
  extract_lets _ _ d1 old
  have h1 : d1.Trying none d1.txn.committing := d1.trying
  clear_value old
  cases old with
  | some l =>
    obtain ⟨_, hbegun, _⟩ := h1.cfgBegin 255 (.back switched t.manifestId cause) l
    exact Dev.trial_none_of_kept ((Dev.finishCommit_kept _).trans hbegun.kept)
  | none => exact (h1.fallbackEnds _ _ _).trial

theorem bit_compMask (l : List Nat) {k : Nat} : bit (compMask l) k = l.any (fun c => c - 1 == k) := by
  have hfold : ∀ (l : List Nat) v, bit (l.foldl (fun v c => setBit v (c - 1)) v) k = (bit v k || l.any (fun c => c - 1 == k)) := by
    intro l
    induction l with
    | nil => simp
    | cons c l ih =>
      intro v
      rw [List.foldl_cons, ih, bit_setBit, List.any_cons]
      by_cases hk : k = c - 1
      · simp [hk]
      · have hne : (c - 1 == k) = false := by simpa using Ne.symm hk
        simp [hk, hne]
  have hzero : bit 0 k = false := by simp [bit]
  rw [compMask, hfold, hzero, Bool.false_or]

/-- After a step that failed, a trial of SVC, LEG and CFG alone falls back at once. -/
theorem Dev.hotFailed_back {t : Trial} {ch : Nat} {failsAt : Option Nat} (htrial : d.update.trial = some t) (hback : t.backHot = true) :
    (d.hotFailed ch failsAt).update.trial = none := by
  unfold Dev.hotFailed
  rw [htrial]
  dsimp only
  rw [if_pos hback]
  have hfell := d.fallbackHot_trial t (compMask (hotSteps t.current failsAt)) 5
  have htrying : (d.fallbackHot t (compMask (hotSteps t.current failsAt)) 5).Trying none _ := ⟨hfell, rfl⟩
  exact ((htrying.moves (Dev.moves_free _)).complete _ _ _ _).trial

theorem Dev.hotFailed_reset {t : Trial} {ch : Nat} {failsAt : Option Nat} (htrial : d.update.trial = some t) (hback : t.backHot = false) :
    d.hotFailed ch failsAt = d.resetNow 1 := by
  unfold Dev.hotFailed
  rw [htrial]
  dsimp only
  rw [if_neg (by rw [hback]; decide)]

end Sys2Proof.Machine
end

section
/-! SUPPORT. Activations, HOT and RESET, and the steps that fail (R389 to R395). -/

namespace Sys2Proof.Machine

open Sys2Proof

theorem runs_fwActivate (rq : Req) (failsAt : Option Nat) (s : State) : Runs (.fwActivate rq failsAt) s (fwActivate rq failsAt s.dev) := rfl

/-- The fields of FW_ACTIVATE. -/
def activateFields : List Fld := [fr 0 1 0 1, fr 1 1 0 1, fr 2 1 0 31, fr 4 4 0x6669726D 0x6669726D]

variable {s : State} {rq : Req} {t : Taken} {d : Dev} {r : ReqData} {id confirmS : Nat} {banks : List (Nat × Nat)} {cfg : List Staged}
  {failsAt : Option Nat}

/-- A request whose commit waits, or that finds none, leaves it so. -/
theorem Dev.Trying.finishCommit_waiting {e : Dev} {o : Option Trial} (h : e.Trying o d.txn.committing)
    (hwait : ∀ k, d.txn.committing = some k → k.rules.isSome = true ∨ k.cupola = true) : e.finishCommit = e :=
  Dev.finishCommit_of_waiting (h.committing ▸ hwait)

/-- A RESET activation begins a trial, and asks for the reset (R390). -/
theorem fwActivate_reset (hadm : s.dev.admitted 0x0E04 rq (rspMax 4080) = some (t, d, r)) (hlen : r.data.length = 8)
    (hok : layoutOk activateFields r.data = true) (hreset : byteAt r.data 0 = 1)
    (hbanks : activationBanks d rq.ch r.data = .inr (id, confirmS, banks)) (hfree : activationRefused d true banks = none)
    (hcfg : activationCfg d true banks = .inr cfg) : ∃ d' : Dev, Runs (.fwActivate rq failsAt) s (d'.finish t r rq.ch 0 (zeros 8)) ∧
      d'.boot.resetDue = some (d.uptime + 100000, 1, 3) ∧ d'.update.trialFlag = true ∧
      d'.update.trial = some (d.begunTrial id confirmS banks false) := by
  have hbody := (activateBody_accepted (failsAt := failsAt) hlen hok (by rw [hreset]; rfl) hbanks hfree hcfg).trans Dev.activate_reset
  have hserved := Dev.serve_done hadm hbody
  have htrying := d.onTrial_trying id confirmS banks false (byteAt r.data 1 == 0)
  have huptime := d.onTrial_uptime id confirmS banks false (byteAt r.data 1 == 0)
  rw [committing_of_not_refused hfree] at htrying
  generalize d.onTrial id confirmS banks false (byteAt r.data 1 == 0) = x at hserved htrying huptime
  obtain ⟨e, he⟩ : ∃ e : Dev, e = ((({ x with update := { x.update with trialFlag := true } } : Dev).activationDue).mramWrote 1) := ⟨_, rfl⟩
  have hend : (e.finish t r rq.ch 0 (zeros 8)).Trying (some (d.begunTrial id confirmS banks false)) none := by
    refine .finish ?_ _ _ _ _ _
    rw [he]
    exact htrying.frame rfl rfl
  refine ⟨e, runs_of_eq (runs_fwActivate rq failsAt s) (fwActivate_of_sound ?_ ?_), ?_⟩
  · rw [serveActivate_eq, hserved, ← he]
    exact Dev.finishCommit_of_none hend.committing
  · intro tr htr
    rw [hend.trial] at htr
    exact (congrArg Trial.failed (Option.some.inj htr)).symm
  · rw [he]
    exact ⟨by rw [← huptime]; rfl, rfl, htrying.trial⟩

/-- The block in which a HOT activation switches, as statements name it. -/
theorem Dev.hotBegun_trial {own : Bool} : ∃ tr, (d.hotBegun id confirmS banks own).update.trial = some tr ∧ tr.hot = true ∧
    tr.current = banks ∧ tr.confirmS = confirmS ∧ tr.deadline = none ∧ tr.failed = none :=
  ⟨_, Dev.hotBegun_trying.trial, rfl, rfl, rfl, rfl, rfl⟩

/-- A HOT activation without CFG, no step of which fails, is answered at once. -/
theorem fwActivate_hot (hadm : s.dev.admitted 0x0E04 rq (rspMax 4080) = some (t, d, r)) (hlen : r.data.length = 8)
    (hok : layoutOk activateFields r.data = true) (hhot : byteAt r.data 0 = 0)
    (hwait : ∀ k, d.txn.committing = some k → k.rules.isSome = true ∨ k.cupola = true)
    (hbanks : activationBanks d rq.ch r.data = .inr (id, confirmS, banks)) (hfree : activationRefused d false banks = none)
    (hcfg : activationCfg d false banks = .inr cfg) (hplain : ∀ b ∈ banks, b.1 ≠ 5) (hsteps : ∀ b ∈ banks, failsAt ≠ some b.1) :
    ∃ (x : Dev) (us : Nat), us ≤ hotPause (banks.map (fun b => b.1)) ∧
      Runs (.fwActivate rq failsAt) s (((x.hotSwitch rq.ch us banks failsAt []).startTrial).finish t r rq.ch 0 (leb 4 us ++ zeros 4)) ∧
      (∃ tr, x.update.trial = some tr ∧ tr.hot = true ∧ tr.current = banks ∧ tr.confirmS = confirmS ∧ tr.deadline = none ∧
        tr.failed = none) ∧
      x.update.banks = d.update.banks := by
  have hnone : cfg = [] := by
    have hfind : banks.find? (fun b => b.1 == 5) = none := List.find?_eq_none.mpr (by simpa using hplain)
    unfold activationCfg at hcfg
    rw [hfind] at hcfg
    exact (Sum.inr.inj hcfg).symm
  subst hnone
  have hsound : banks.any (fun b => failsAt == some b.1) = false := by simpa using hsteps
  have hnocfg : banks.any (fun b => b.1 == 5) = false := by simpa using hplain
  have hbody := (activateBody_accepted (failsAt := failsAt) hlen hok (by rw [hhot]; rfl) hbanks hfree hcfg).trans Dev.activate_hot
  dsimp only at hbody
  rw [hsound, hnocfg, if_neg Bool.false_ne_true, if_neg Bool.false_ne_true] at hbody
  have hserved := Dev.serve_done hadm hbody
  have hpause : d.hotTime id confirmS banks (byteAt r.data 1 == 0) ≤ hotPause (banks.map (fun b => b.1)) := Dev.hotTime_le
  have hbegun : (d.hotBegun id confirmS banks (byteAt r.data 1 == 0)).Trying _ _ := Dev.hotBegun_trying
  have hkept : (d.hotBegun id confirmS banks (byteAt r.data 1 == 0)).update.banks = d.update.banks := Dev.hotBegun_banks
  have htrial := Dev.hotBegun_trial (d := d) (id := id) (confirmS := confirmS) (banks := banks) (own := byteAt r.data 1 == 0)
  generalize d.hotBegun id confirmS banks (byteAt r.data 1 == 0) = x at *
  generalize d.hotTime id confirmS banks (byteAt r.data 1 == 0) = us at *
  have hswitched := hbegun.hotSwitch_plain (ch := rq.ch) (us := us) (cfg := []) (failsAt := failsAt) hplain
  generalize hy : x.hotSwitch rq.ch us banks failsAt [] = y at *
  have hstart : y.startTrial.Trying y.startTrial.update.trial d.txn.committing := ⟨rfl, hswitched.committing⟩
  have hend := hstart.finish t r rq.ch 0 (leb 4 us ++ zeros 4)
  refine ⟨x, us, hpause, runs_of_eq (runs_fwActivate rq failsAt s) ?_, htrial, hkept⟩
  rw [hy]
  refine fwActivate_of_sound ?_ (fun tr htr => ?_)
  · rw [serveActivate_eq, hserved]
    exact hend.finishCommit_waiting hwait
  · have hstarted : y.startTrial.trialKept = _ := y.startTrial_kept.trans hswitched.kept
    obtain ⟨e, he⟩ := Dev.trial_of_kept hstarted
    rw [hend.trial, he] at htr
    exact (congrArg Trial.failed (Option.some.inj htr)).symm

/-- A HOT activation with CFG, no step of which fails, is answered with the end of the commit that it begins. -/
theorem fwActivate_hotCfg (hadm : s.dev.admitted 0x0E04 rq (rspMax 4080) = some (t, d, r)) (hlen : r.data.length = 8)
    (hok : layoutOk activateFields r.data = true) (hhot : byteAt r.data 0 = 0)
    (hbanks : activationBanks d rq.ch r.data = .inr (id, confirmS, banks)) (hfree : activationRefused d false banks = none)
    (hcfg : activationCfg d false banks = .inr cfg) (hnamed : ∃ b ∈ banks, b.1 = 5) :
    ∃ (x : Dev) (us : Nat), Runs (.fwActivate rq none) s
      (((x.hotSwitch rq.ch us banks none cfg).modChan rq.ch (fun k => { k with running := some t })).finishCommit) ∧
      us ≤ hotPause (banks.map (fun b => b.1)) ∧ x.update.banks = d.update.banks ∧
      (∃ tr, x.update.trial = some tr ∧ tr.hot = true ∧ tr.current = banks ∧ tr.confirmS = confirmS ∧ tr.deadline = none ∧
        tr.failed = none) ∧
      (∃ cm, (x.hotSwitch rq.ch us banks none cfg).txn.committing = some cm ∧ cm.owner = rq.ch ∧ cm.kind = .hot us ∧ cm.staged = cfg) := by
  have hsound : banks.any (fun b => (none : Option Nat) == some b.1) = false := by simp
  have hyes : banks.any (fun b => b.1 == 5) = true := by simpa using hnamed
  have hbody := (activateBody_accepted (failsAt := none) hlen hok (by rw [hhot]; rfl) hbanks hfree hcfg).trans Dev.activate_hot
  dsimp only at hbody
  rw [hsound, hyes, if_neg Bool.false_ne_true, if_pos rfl] at hbody
  have hserved := Dev.serve_wait hadm hbody
  have hpause : d.hotTime id confirmS banks (byteAt r.data 1 == 0) ≤ hotPause (banks.map (fun b => b.1)) := Dev.hotTime_le
  have hbegun : (d.hotBegun id confirmS banks (byteAt r.data 1 == 0)).Trying _ _ := Dev.hotBegun_trying
  have hkept : (d.hotBegun id confirmS banks (byteAt r.data 1 == 0)).update.banks = d.update.banks := Dev.hotBegun_banks
  have htrial := Dev.hotBegun_trial (d := d) (id := id) (confirmS := confirmS) (banks := banks) (own := byteAt r.data 1 == 0)
  generalize d.hotBegun id confirmS banks (byteAt r.data 1 == 0) = x at *
  generalize d.hotTime id confirmS banks (byteAt r.data 1 == 0) = us at *
  obtain ⟨cm, hswitched, howner, hkind, hstaged⟩ := hbegun.hotSwitch_cfg (ch := rq.ch) (us := us) (cfg := cfg) hnamed
  refine ⟨x, us, ?_, hpause, hkept, htrial, cm, hswitched.committing, howner, hkind, hstaged⟩
  generalize x.hotSwitch rq.ch us banks none cfg = y at *
  refine runs_of_eq (runs_fwActivate rq none s) (fwActivate_of_sound (congrArg Dev.finishCommit ((serveActivate_eq rq none s.dev).trans hserved))
    (fun tr htr => ?_))
  obtain ⟨e, he⟩ := Dev.trial_of_kept ((Dev.finishCommit_kept _).trans (hswitched.modChan _ _).kept)
  rw [he] at htr
  exact (congrArg Trial.failed (Option.some.inj htr)).symm

/-- The trial of a HOT activation whose step has failed. -/
theorem Dev.hotStepFails_trial {tr : Trial} (h : d.update.trial = some tr) :
    d.hotStepFails.update.trial = some { tr with failed := some 5 } := by
  unfold Dev.hotStepFails
  rw [h]
  rfl

/-- A HOT activation whose step fails: without SDS and PHY the trial falls back at once, with one of them at a reset (R395). -/
theorem fwActivate_fails (hadm : s.dev.admitted 0x0E04 rq (rspMax 4080) = some (t, d, r)) (hlen : r.data.length = 8)
    (hok : layoutOk activateFields r.data = true) (hhot : byteAt r.data 0 = 0)
    (hbanks : activationBanks d rq.ch r.data = .inr (id, confirmS, banks)) (hfree : activationRefused d false banks = none)
    (hcfg : activationCfg d false banks = .inr cfg) {b : Nat × Nat} (hb : b ∈ banks) :
    ∃ d', Runs (.fwActivate rq (some b.1)) s d' ∧
      ((∀ y ∈ banks, y.1 = 1 ∨ y.1 = 2 ∨ y.1 = 5) → d'.update.trial = none) ∧
      ((∃ y ∈ banks, y.1 = 3 ∨ y.1 = 4) → d'.host.stage = .reset ∧ d'.boot.resetKind = some 1 ∧
        ∃ tr, d'.update.trial = some tr ∧ tr.failed = some 5) := by
  have hfails : banks.any (fun y => some b.1 == some y.1) = true := List.any_eq_true.mpr ⟨b, hb, beq_self_eq_true _⟩
  have hbody := (activateBody_accepted (failsAt := some b.1) hlen hok (by rw [hhot]; rfl) hbanks hfree hcfg).trans Dev.activate_hot
  dsimp only at hbody
  rw [hfails, if_pos rfl] at hbody
  have hserved := Dev.serve_wait hadm hbody
  have hnone : s.dev.update.trial = none := (Dev.trying_of_admitted hadm).trial.symm.trans (trial_of_not_refused hfree)
  have hbegun : (d.hotBegun id confirmS banks (byteAt r.data 1 == 0)).Trying _ _ := Dev.hotBegun_trying
  generalize d.hotBegun id confirmS banks (byteAt r.data 1 == 0) = x at *
  generalize d.hotTime id confirmS banks (byteAt r.data 1 == 0) = us at *
  have hswitched := (Dev.hotSwitch_trial x (ch := rq.ch) (us := us) (banks := banks) (failsAt := some b.1) (cfg := cfg)).trans hbegun.trial
  generalize x.hotSwitch rq.ch us banks (some b.1) cfg = y at *
  have hfailed := Dev.hotStepFails_trial hswitched
  have hkept : (y.hotStepFails.modChan rq.ch (fun k => { k with running := some t })).finishCommit.trialKept = _ :=
    (Dev.finishCommit_kept _).trans (congrArg (Option.map Trial.unstarted) hfailed)
  obtain ⟨deadline, htrial⟩ := Dev.trial_of_kept hkept
  have heq := fwActivate_of_failed (failsAt := some b.1) (congrArg Dev.finishCommit ((serveActivate_eq rq (some b.1) s.dev).trans hserved))
    hnone htrial rfl
  generalize (y.hotStepFails.modChan rq.ch (fun k => { k with running := some t })).finishCommit = e at *
  refine ⟨_, runs_of_eq (runs_fwActivate rq (some b.1) s) heq, fun hplain => ?_, fun hports => ?_⟩
  · refine Dev.hotFailed_back htrial ?_
    have hclear : ∀ k, k = 2 ∨ k = 3 → bit (compMask (banks.map (fun b => b.1))) k = false := by
      intro k hk
      rw [bit_compMask, List.any_map, List.any_eq_false]
      intro y hy
      have hcomp := hplain y hy
      simp only [Function.comp, beq_iff_eq]
      omega
    simp [Trial.backHot, Trial.unstarted, Dev.begunTrial, hclear]
  · have hback : Trial.backHot
        { ({ d.begunTrial id confirmS banks true with failed := some 5 } : Trial).unstarted with deadline := deadline } = false := by
      obtain ⟨y, hy, hcomp⟩ := hports
      have hset : ∀ k, y.1 - 1 = k → bit (compMask (banks.map (fun b => b.1))) k = true := by
        rintro _ rfl
        rw [bit_compMask, List.any_map, List.any_eq_true]
        exact ⟨y, hy, beq_self_eq_true _⟩
      rcases hcomp with h3 | h4
      · simp [Trial.backHot, Trial.unstarted, Dev.begunTrial, hset 2 (by omega)]
      · simp [Trial.backHot, Trial.unstarted, Dev.begunTrial, hset 3 (by omega)]
    have hreset := e.resetNow_resets 1
    rw [Dev.hotFailed_reset htrial hback]
    exact ⟨hreset.stage, hreset.kind, _, by rw [hreset.update]; exact htrial, rfl⟩

/-- During a trial an activation is refused. -/
theorem fwActivate_busy (hadm : s.dev.admitted 0x0E04 rq (rspMax 4080) = some (t, d, r)) (hlen : r.data.length = 8)
    (hok : layoutOk activateFields r.data = true) (hwait : ∀ k, d.txn.committing = some k → k.rules.isSome = true ∨ k.cupola = true)
    (hbanks : ∃ x, activationBanks d rq.ch r.data = .inr x) (htrial : d.update.trial.isSome = true) :
    Runs (.fwActivate rq failsAt) s (d.refuse t rq.ch stBusy 0) := by
  have hserved := Dev.serve_refused hadm (activateBody_busy (failsAt := failsAt) hlen hok hbanks htrial) (by decide)
  have hrunning : s.dev.update.trial.isSome = true := (Dev.trying_of_admitted hadm).trial ▸ htrial
  have hend : (d.refuse t rq.ch stBusy 0).Trying d.update.trial d.txn.committing := .drain _ _ (d.trying.answer _ _ _ _)
  refine runs_of_eq (runs_fwActivate rq failsAt s) ?_
  rw [fwActivate_of_trial hrunning, serveActivate_eq, hserved]
  exact hend.finishCommit_waiting hwait

end Sys2Proof.Machine
end

section
/-! SUPPORT. Bank records after they are put, and what they leave of the update unit (R382, R385). -/

namespace Sys2Proof.Machine

open Sys2Proof

variable {d d' : Dev} {k : Bank}

theorem Dev.fwBank_setBank_same (d : Dev) (comp bank : Nat) (k : Bank) : (d.setBank comp bank k).fwBank comp bank = k := tabGet_put_same ..

theorem Dev.fwBank_setBank_other (d : Dev) {comp bank comp' bank' : Nat} (k : Bank) (h : comp' * 2 + bank' ≠ comp * 2 + bank) :
    (d.setBank comp bank k).fwBank comp' bank' = d.fwBank comp' bank' := tabGet_put_other _ _ _ _ _ h

theorem Dev.fwBank_congr (h : d'.update.banks = d.update.banks) (comp bank : Nat) : d'.fwBank comp bank = d.fwBank comp bank := by
  unfold Dev.fwBank
  rw [h]

/-- What holds of a record that is put, and of one that stood before, holds after. -/
theorem Dev.fwBank_setBank_of {P : Bank → Prop} {comp bank : Nat} (comp' bank' : Nat) (hk : P k) (h : P (d.fwBank comp' bank')) :
    P ((d.setBank comp bank k).fwBank comp' bank') := by
  by_cases hat : comp' * 2 + bank' = comp * 2 + bank
  · have hput : (d.setBank comp bank k).fwBank comp' bank' = k := by
      unfold Dev.fwBank
      rw [hat]
      exact d.fwBank_setBank_same comp bank k
    rwa [hput]
  · rwa [d.fwBank_setBank_other k hat]

/-- Records put one after the other: what holds of each holds of all. -/
theorem Dev.fwBank_foldl {α : Type} {P : Bank → Prop} {comp bank : α → Nat} {f : Dev → α → Dev}
    (hf : ∀ e x, ∃ k, P k ∧ (f e x).update.banks = (e.setBank (comp x) (bank x) k).update.banks) (l : List α) (d : Dev) :
    ∀ x ∈ l, P ((l.foldl f d).fwBank (comp x) (bank x)) := by
  have hkeep : ∀ (l : List α) (e : Dev) (c b : Nat), P (e.fwBank c b) → P ((l.foldl f e).fwBank c b) := by
    intro l e c b h
    refine List.foldlRecOn (motive := fun e : Dev => P (e.fwBank c b)) l f h (fun e he x _ => ?_)
    obtain ⟨k, hk, hbanks⟩ := hf e x
    rw [Dev.fwBank_congr hbanks]
    exact Dev.fwBank_setBank_of c b hk he
  induction l generalizing d with
  | nil => exact fun _ hx => absurd hx List.not_mem_nil
  | cons y l ih =>
    intro x hx
    rcases List.mem_cons.mp hx with rfl | hmem
    · refine hkeep l _ _ _ ?_
      obtain ⟨k, hk, hbanks⟩ := hf d x
      rw [Dev.fwBank_congr hbanks, d.fwBank_setBank_same]
      exact hk
    · exact ih _ x hmem

/-! ## The end of a session -/

/-- A session that ends leaves its target banks INVALID (R385). -/
theorem Dev.endUpdate_ends {u : UpdateSession} (h : d.update.session = some u) (reason : Nat) :
    (d.endUpdate reason).update.session = none ∧ ∀ t ∈ u.targets, ((d.endUpdate reason).fwBank t.1 t.2).state = 4 := by
  unfold Dev.endUpdate
  rw [h]
  dsimp only
  obtain ⟨e, he⟩ : ∃ e : Dev, e = { d with update := { d.update with session := none } } := ⟨_, rfl⟩
  have hnone : e.update.session = none := by rw [he]
  rw [← he]
  have hkept : (u.targets.foldl (fun e t => e.invalidate t.1 t.2) e).update.session = none :=
    List.foldlRecOn (motive := fun e : Dev => e.update.session = none) _ _ hnone (fun _ he _ _ => he)
  have hstates := Dev.fwBank_foldl (P := fun k => k.state = 4) (comp := Prod.fst) (bank := Prod.snd)
    (f := fun (e : Dev) (t : Nat × Nat) => e.invalidate t.1 t.2)
    (fun e t => ⟨_, rfl, rfl⟩) u.targets e
  have hposts := (u.targets.foldl (fun e t => e.invalidate t.1 t.2) e).posts_post 0x0E05 (le u.manifest 4 4) reason
  refine ⟨(congrArg Update.session hposts.update).trans hkept, fun t ht => ?_⟩
  rw [Dev.fwBank_congr (congrArg Update.banks hposts.update)]
  exact hstates t ht

end Sys2Proof.Machine
end

section
/-! SUPPORT. Sessions: what FW_BEGIN opens, FW_WRITE writes and FW_VERIFY finds (R383 to R388). -/

namespace Sys2Proof.Machine

open Sys2Proof

variable {d : Dev} {u : UpdateSession} {bs : Bytes}

/-- The target bank is not the one in force (R382). -/
theorem Dev.bankInForce_ne_target (d : Dev) (comp : Nat) : d.bankInForce comp ≠ some (d.targetBank comp) := by
  unfold Dev.targetBank
  split
  next h => rw [h]; decide
  next h => exact h

theorem Dev.openUpdate_opens (d : Dev) (ch : Nat) (m : Bytes) : ∃ u, (d.openUpdate ch m).update.session = some u ∧ u.owner = ch ∧
    u.manifest = m ∧ u.verified = false ∧ u.written = [] ∧ u.deadline = d.uptime + sec 60 ∧
    ∀ t ∈ u.targets, (d.openUpdate ch m).fwBank t.1 t.2 = bank0 ∧ d.bankInForce t.1 ≠ some t.2 := by
  refine ⟨_, rfl, rfl, rfl, rfl, rfl, rfl, fun t ht => ⟨?_, ?_⟩⟩
  · exact Dev.fwBank_foldl (P := fun k => k = bank0) (comp := Prod.fst) (bank := Prod.snd)
      (f := fun (e : Dev) (t : Nat × Nat) => e.setBank t.1 t.2 bank0)
      (fun e t => ⟨bank0, rfl, rfl⟩) _ d t ht
  · obtain ⟨e, _, rfl⟩ := List.mem_map.mp ht
    exact d.bankInForce_ne_target _

theorem fwBeginBody_accepted {ch : Nat} (hman : d.manifestError bs = none) (hses : d.update.session = none) (htrial : d.update.trial = none) :
    ∃ x, fwBeginBody d ch bs =
      ansOk (((d.openUpdate ch bs).hashed (manSigned bs).length).eccCount) (leb 4 (manId bs) ++ leb 1 x ++ zeros 3) := by
  unfold fwBeginBody
  rw [hman, hses, htrial]
  exact ⟨_, rfl⟩

theorem le_manId (m rest : Bytes) : le (leb 4 (manId m) ++ rest) 0 4 = manId m := by
  rw [le_leb_append]
  exact Nat.mod_eq_of_lt (le_lt m 4 4)

/-- The checks of FW_WRITE that come before R386's. -/
theorem fwWriteBody_named {ch : Nat} {e : Bytes} (hlen : 8 ≤ bs.length) (hzero : le bs 1 3 = 0) (hlow : 1 ≤ byteAt bs 0)
    (hhigh : byteAt bs 0 ≤ 5) (hleg : byteAt bs 0 = 2 → d.boot.legRuns = true ∨ d.host.stage = .kiln)
    (hses : d.update.session = some u) (howner : u.owner = ch) (hentry : manEntryOf u.manifest (byteAt bs 0) = some e) :
    fwWriteBody d ch bs =
      if !u.writeOk (byteAt bs 0) (le bs 4 4) (bs.length - 8) (entLength e) then ansErr d stBadParam
      else ansOk (d.writeImage u (byteAt bs 0) (le bs 4 4) (bs.drop 8))
        (leb 4 (((d.writeImage u (byteAt bs 0) (le bs 4 4) (bs.drop 8)).update.session.map (fun u => u.writtenOf (byteAt bs 0))).getD 0)) := by
  have hranged : ¬(le bs 1 3 ≠ 0 ∨ byteAt bs 0 < 1 ∨ 5 < byteAt bs 0) := by omega
  have hruns : ¬(byteAt bs 0 == 2 && !d.boot.legRuns && decide (d.host.stage ≠ .kiln)) = true := by
    intro h
    simp only [Bool.and_eq_true, beq_iff_eq, Bool.not_eq_true', decide_eq_true_eq] at h
    obtain ⟨⟨hcomp, hstopped⟩, hstage⟩ := h
    rcases hleg hcomp with hrunning | hkiln
    · rw [hstopped] at hrunning
      cases hrunning
    · exact hstage hkiln
  unfold fwWriteBody
  dsimp only
  rw [if_neg (by omega), if_neg hranged, hses]
  dsimp only
  rw [if_neg (not_not_intro howner), hentry]
  dsimp only
  rw [if_neg hruns]

/-- The session after a write. -/
def UpdateSession.wrote (u : UpdateSession) (comp off n : Nat) : UpdateSession :=
  { u with written := tabPut u.written comp (max (u.writtenOf comp) (off + n)), lastWrite := tabPut u.lastWrite comp (off, n) }

theorem Dev.writeImage_session (d : Dev) (u : UpdateSession) (comp off : Nat) (data : Bytes) :
    (d.writeImage u comp off data).update.session = some (u.wrote comp off data.length) := rfl

theorem UpdateSession.wrote_writtenOf (u : UpdateSession) (comp off n : Nat) :
    (u.wrote comp off n).writtenOf comp = max (u.writtenOf comp) (off + n) :=
  tabGet_put_same ..

/-- A write puts its bytes at their place, and changes no other (R386). -/
theorem Dev.memRead_writeImage (d : Dev) (u : UpdateSession) (comp off : Nat) (bs : Bytes) (a : Nat) :
    memRead (d.writeImage u comp off (bs.drop 8)).update.mram a =
      if bankBase comp (u.target comp) + off ≤ a ∧ a < bankBase comp (u.target comp) + off + (bs.length - 8)
      then bs.getD (8 + (a - (bankBase comp (u.target comp) + off))) 0 else memRead d.update.mram a := by
  have hbyte : ∀ i, (bs.drop 8).getD i 0 = bs.getD (8 + i) 0 := by
    intro i
    rw [List.getD_eq_getElem?_getD, List.getElem?_drop, ← List.getD_eq_getElem?_getD]
  refine (memRead_writeN (bs.drop 8) d.update.mram (bankBase comp (u.target comp) + off) a).trans ?_
  rw [List.length_drop, hbyte]

/-! ## FW_VERIFY -/

/-- What FW_VERIFY answers of the session of its channel. -/
def verifyBody (d : Dev) (ch : Nat) (bs : Bytes) : Ans :=
  withLayout d 0 [] bs
    (match d.update.session with
     | none => ansErr d stNotFound
     | some u =>
       if u.owner ≠ ch then ansErr d stNotPermitted
       else match (manEntries u.manifest).find? (fun e => decide (u.writtenOf (entComp e) < entLength e)) with
         | some e => ansErrD d stBadLength (entComp e)
         | none => d.verifyAll u)

theorem verifyBody_complete {ch : Nat} (hnil : bs = []) (hses : d.update.session = some u) (howner : u.owner = ch)
    (hwritten : ∀ e ∈ manEntries u.manifest, entLength e ≤ u.writtenOf (entComp e)) : verifyBody d ch bs = d.verifyAll u := by
  have hfind : (manEntries u.manifest).find? (fun e => decide (u.writtenOf (entComp e) < entLength e)) = none :=
    List.find?_eq_none.mpr (fun e he => by simpa using hwritten e he)
  unfold verifyBody
  rw [withLayout_none _ hnil, hses]
  dsimp only
  rw [if_neg (not_not_intro howner), hfind]

/-- Images with the right digests become VALID (R388). -/
theorem Dev.verifyAll_good (hgood : ∀ e ∈ manEntries u.manifest, d.digestOk u e = true) :
    ∃ d' : Dev, d.verifyAll u = ansOk d' (leb 4 (manId u.manifest)) ∧ d'.update.session = some { u with verified := true } ∧
      ∀ e ∈ manEntries u.manifest, (d'.fwBank (entComp e) (u.target (entComp e))).state = 1 := by
  have hbad : (manEntries u.manifest).filter (fun e => !d.digestOk u e) = [] := List.filter_eq_nil_iff.mpr (fun e he => by simp [hgood e he])
  unfold Dev.verifyAll
  dsimp only
  rw [hbad]
  dsimp only
  generalize d.hashed _ = d0
  have hstates := Dev.fwBank_foldl (P := fun k => k.state = 1) (comp := entComp) (bank := fun x => u.target (entComp x))
    (f := fun (e : Dev) (x : Bytes) => e.setBank (entComp x) (u.target (entComp x)) (d.verifiedBank u.manifest x))
    (fun e x => ⟨_, rfl, rfl⟩) (manEntries u.manifest) d0
  generalize List.foldl _ d0 (manEntries u.manifest) = d1 at hstates ⊢
  refine ⟨_, rfl, congrArg Update.session (Dev.posts_post _ _ _ _).update, fun e he => ?_⟩
  rw [Dev.fwBank_congr (congrArg Update.banks (Dev.posts_post _ _ _ _).update)]
  exact hstates e he

/-- An image that differs ends the session with its banks INVALID (R388). -/
theorem Dev.verifyAll_bad (hbad : ∃ e ∈ manEntries u.manifest, d.digestOk u e = false) :
    ∃ (d' : Dev) (comp : Nat), d.verifyAll u = ansErrD d' stAuthFail comp ∧ d'.update.session = none ∧
      (d'.fwBank comp (u.target comp)).state = 4 := by
  obtain ⟨e, he, hdiff⟩ := hbad
  have hmem : e ∈ (manEntries u.manifest).filter (fun e => !d.digestOk u e) := List.mem_filter.mpr ⟨he, by simp [hdiff]⟩
  unfold Dev.verifyAll
  dsimp only
  generalize (manEntries u.manifest).filter (fun e => !d.digestOk u e) = bad at hmem
  cases bad with
  | nil => cases hmem
  | cons b rest =>
    dsimp only
    generalize d.hashed _ = d0
    have hstates := Dev.fwBank_foldl (P := fun k => k.state = 4) (comp := entComp) (bank := fun x => u.target (entComp x))
      (f := fun (e : Dev) (x : Bytes) => (e.invalidate (entComp x) (u.target (entComp x))).count 14 3)
      (fun e x => ⟨_, rfl, rfl⟩) (b :: rest) d0 b List.mem_cons_self
    generalize List.foldl _ d0 (b :: rest) = d1 at hstates ⊢
    refine ⟨_, entComp b, rfl, congrArg Update.session (Dev.posts_post _ _ _ _).update, ?_⟩
    rw [Dev.fwBank_congr (congrArg Update.banks (Dev.posts_post _ _ _ _).update)]
    exact hstates

end Sys2Proof.Machine
end

section
/-! SUPPORT. The end of a trial: its confirmation and its fallback (R393 to R395). -/

namespace Sys2Proof.Machine

open Sys2Proof

variable {d e : Dev} {t : Trial} {bs : Bytes}

/-! ## Confirmation (R393) -/

/-- A component's trial bank becomes ACTIVE, the one it replaced VALID; its counter rises. -/
def Dev.confirmOne (t : Trial) (d : Dev) (c : Nat × Nat) : Dev :=
  let old := tabGet 2 t.previous c.1
  let d1 := if old < 2 then d.setBank c.1 old { (d.fwBank c.1 old) with state := 1 } else d
  let d2 := d1.setBank c.1 c.2 { (d1.fwBank c.1 c.2) with state := 2 }
  d2.setMono (3 + c.1) (d2.fwBank c.1 c.2).epoch

section
variable {c : Nat × Nat}

theorem Dev.confirmOne_bank (hold : tabGet 2 t.previous c.1 ≠ c.2) :
    (Dev.confirmOne t d c).fwBank c.1 c.2 = { d.fwBank c.1 c.2 with state := 2 } := by
  have hsame : (if tabGet 2 t.previous c.1 < 2 then
      d.setBank c.1 (tabGet 2 t.previous c.1) { (d.fwBank c.1 (tabGet 2 t.previous c.1)) with state := 1 } else d).fwBank c.1 c.2 =
      d.fwBank c.1 c.2 := by
    split
    · exact d.fwBank_setBank_other _ (by omega)
    · rfl
  refine (Dev.fwBank_setBank_same _ c.1 c.2 _).trans ?_
  rw [hsame]

theorem Dev.confirmOne_epoch (hold : tabGet 2 t.previous c.1 ≠ c.2) :
    (d.fwBank c.1 c.2).epoch ≤ (Dev.confirmOne t d c).mono (3 + c.1) := by
  have hbank := congrArg Bank.epoch (Dev.confirmOne_bank (d := d) hold)
  refine le_trans (le_of_eq hbank.symm) (le_trans ?_ (le_of_eq (Dev.setMono_mono_same _ _ _).symm))
  exact le_max_right _ _

theorem Dev.confirmOne_otherBank {comp bank : Nat} (hcomp : comp ≠ c.1) (hbank : bank < 2) (hc : c.2 < 2) :
    (Dev.confirmOne t d c).fwBank comp bank = d.fwBank comp bank := by
  refine (Dev.fwBank_setBank_other _ _ (by omega)).trans ?_
  split
  · exact d.fwBank_setBank_other _ (by omega)
  · rfl

theorem Dev.confirmOne_otherMono {comp : Nat} (hcomp : comp ≠ c.1) : (Dev.confirmOne t d c).mono (3 + comp) = d.mono (3 + comp) := by
  refine (Dev.setMono_mono_other _ _ (by omega)).trans ?_
  unfold Dev.mono
  dsimp only [Dev.setBank, Dev.mramWrote]
  split
  · rfl
  · rfl

end

/-- Other components leave a component's banks and counter. -/
theorem Dev.foldl_confirmOne_other (l : List (Nat × Nat)) (d : Dev) {comp bank : Nat} (hbank : bank < 2)
    (hl : ∀ c ∈ l, comp ≠ c.1 ∧ c.2 < 2) : (l.foldl (Dev.confirmOne t) d).fwBank comp bank = d.fwBank comp bank ∧
      (l.foldl (Dev.confirmOne t) d).mono (3 + comp) = d.mono (3 + comp) :=
  List.foldlRecOn (motive := fun e : Dev => e.fwBank comp bank = d.fwBank comp bank ∧ e.mono (3 + comp) = d.mono (3 + comp)) l _ ⟨rfl, rfl⟩
    (fun _ he c hc => ⟨(Dev.confirmOne_otherBank (hl c hc).1 hbank (hl c hc).2).trans he.1, (Dev.confirmOne_otherMono (hl c hc).1).trans he.2⟩)

theorem Dev.foldl_confirmOne (l : List (Nat × Nat)) (d : Dev) (hnodup : (l.map (fun c => c.1)).Nodup)
    (hl : ∀ c ∈ l, c.2 < 2 ∧ tabGet 2 t.previous c.1 ≠ c.2) :
    ∀ c ∈ l, (l.foldl (Dev.confirmOne t) d).fwBank c.1 c.2 = { d.fwBank c.1 c.2 with state := 2 } ∧
      (d.fwBank c.1 c.2).epoch ≤ (l.foldl (Dev.confirmOne t) d).mono (3 + c.1) := by
  induction l generalizing d with
  | nil => exact fun _ hc => absurd hc List.not_mem_nil
  | cons x l ih =>
    intro c hc
    obtain ⟨hfresh, hrest⟩ := List.nodup_cons.mp hnodup
    obtain ⟨hbank, hold⟩ := hl c hc
    rw [List.foldl_cons]
    rcases List.mem_cons.mp hc with rfl | hmem
    · obtain ⟨hkept, hmono⟩ := Dev.foldl_confirmOne_other l (Dev.confirmOne t d c) (t := t) (comp := c.1) (bank := c.2) hbank
        (fun y hy => ⟨fun h => hfresh (List.mem_map.mpr ⟨y, hy, h.symm⟩), (hl y (List.mem_cons_of_mem _ hy)).1⟩)
      rw [hkept, hmono]
      exact ⟨Dev.confirmOne_bank hold, Dev.confirmOne_epoch hold⟩
    · have hne : c.1 ≠ x.1 := fun h => hfresh (List.mem_map.mpr ⟨c, hmem, h⟩)
      have hbefore := Dev.confirmOne_otherBank (d := d) (t := t) hne hbank (hl x List.mem_cons_self).1
      have hafter := ih (Dev.confirmOne t d x) hrest (fun y hy => hl y (List.mem_cons_of_mem _ hy)) c hmem
      rwa [hbefore] at hafter

/-- The VALID banks that lie below their counters. -/
def Dev.staleBanks (d : Dev) : List (Nat × Nat) :=
  [1, 2, 3, 4, 5].flatMap (fun c => ([0, 1].filter (fun b =>
    (d.fwBank c b).state == 1 && decide ((d.fwBank c b).epoch < d.mono (3 + c)))).map (fun b => (c, b)))

theorem Dev.staleBanks_valid {x : Nat × Nat} (h : x ∈ d.staleBanks) : x.2 < 2 ∧ (d.fwBank x.1 x.2).state = 1 := by
  obtain ⟨c, _, hx⟩ := List.mem_flatMap.mp h
  obtain ⟨b, hb, rfl⟩ := List.mem_map.mp hx
  obtain ⟨hmem, hstale⟩ := List.mem_filter.mp hb
  obtain ⟨hstate, _⟩ := Bool.and_eq_true_iff.mp hstale
  refine ⟨?_, by simpa using hstate⟩
  rcases List.mem_cons.mp hmem with rfl | hone
  · exact Nat.zero_lt_two
  · rw [List.mem_singleton.mp hone]
    exact Nat.one_lt_two

theorem Dev.confirmBanks_eq (d : Dev) (t : Trial) : d.confirmBanks t =
    (t.current.foldl (Dev.confirmOne t) d).staleBanks.foldl (fun e x => e.invalidate x.1 x.2) (t.current.foldl (Dev.confirmOne t) d) := rfl

/-- A confirmed trial's banks are ACTIVE, and the counters at their EPOCHs. -/
theorem Dev.confirmBanks_active (hnodup : (t.current.map (fun c => c.1)).Nodup)
    (hcurrent : ∀ c ∈ t.current, c.2 < 2 ∧ tabGet 2 t.previous c.1 ≠ c.2) :
    ∀ c ∈ t.current, ((d.confirmBanks t).fwBank c.1 c.2).state = 2 ∧ (d.fwBank c.1 c.2).epoch ≤ (d.confirmBanks t).mono (3 + c.1) := by
  intro c hc
  obtain ⟨hbank, hmono⟩ := Dev.foldl_confirmOne t.current d (t := t) hnodup hcurrent c hc
  rw [Dev.confirmBanks_eq]
  generalize t.current.foldl (Dev.confirmOne t) d = e at *
  have hstate : (e.fwBank c.1 c.2).state = 2 := congrArg Bank.state hbank
  have hkept := List.foldlRecOn (motive := fun x : Dev => x.fwBank c.1 c.2 = e.fwBank c.1 c.2 ∧ x.mono (3 + c.1) = e.mono (3 + c.1))
    e.staleBanks (fun e x => e.invalidate x.1 x.2) ⟨rfl, rfl⟩ (fun y hy x hx => by
      obtain ⟨hsmall, hvalid⟩ := Dev.staleBanks_valid hx
      have hapart : c.1 * 2 + c.2 ≠ x.1 * 2 + x.2 := by
        intro hsame
        have hlow := (hcurrent c hc).1
        have hcomp : c.1 = x.1 := by omega
        have hslot : c.2 = x.2 := by omega
        rw [← hcomp, ← hslot, hstate] at hvalid
        cases hvalid
      exact ⟨(y.fwBank_setBank_other _ hapart).trans hy.1, hy.2⟩)
  rw [hkept.1, hkept.2]
  exact ⟨hstate, hmono⟩

/-- What FW_CONFIRM answers. -/
def confirmBody (d : Dev) (bs : Bytes) : Ans :=
  withLayout d 4 [fa 0 4] bs
    (match d.update.trial with
     | none => ansErr d stNotFound
     | some t =>
       if le bs 0 4 ≠ t.manifestId then ansErr d stBadParam
       else if d.host.stage ≠ .run ∨ d.boot.cfgRefused = true ∨ t.failed.isSome = true ∨ d.safety.faultSeq ≠ t.faultMark then
         ansErrD d stFault d.lastFault
       else
         let d1 := d.confirmBanks t
         let d2 := { d1 with update := { d1.update with trial := none } }
         ansOk ((d2.count 14 1).post 0x0E03 t.manifestId t.mask) [])

theorem confirmBody_confirms (hlen : bs.length = 4) (hstage : d.host.stage = .run) (hcfg : d.boot.cfgRefused = false)
    (htrial : d.update.trial = some t) (hid : t.manifestId = le bs 0 4) (hfailed : t.failed = none) (hmark : t.faultMark = d.safety.faultSeq) :
    ∃ d' : Dev, confirmBody d bs = ansOk d' [] ∧ d'.update.trial = none ∧ (∀ c b, d'.fwBank c b = (d.confirmBanks t).fwBank c b) ∧
      ∀ i, d'.mono i = (d.confirmBanks t).mono i := by
  have hgood : ¬(d.host.stage ≠ .run ∨ d.boot.cfgRefused = true ∨ t.failed.isSome = true ∨ d.safety.faultSeq ≠ t.faultMark) := by
    simp [hstage, hcfg, hfailed, hmark]
  unfold confirmBody
  rw [withLayout_ok _ hlen (layoutOk_whole hlen), htrial]
  dsimp only
  rw [if_neg (not_not_intro hid.symm), if_neg hgood]
  generalize d.confirmBanks t = e
  obtain ⟨x, hx⟩ : ∃ x : Dev, x = { e with update := { e.update with trial := none } } := ⟨_, rfl⟩
  have hposts := ((x.posts_count 14 1).trans (Dev.posts_post _ 0x0E03 t.manifestId t.mask))
  rw [← hx]
  refine ⟨_, rfl, ?_, fun c b => ?_, fun i => ?_⟩
  · rw [hposts.update, hx]
  · rw [Dev.fwBank_congr (congrArg Update.banks hposts.update), hx]
    rfl
  · unfold Dev.mono
    rw [hposts.keep, hx]

theorem confirmBody_none (hlen : bs.length = 4) (htrial : d.update.trial = none) : confirmBody d bs = ansErr d stNotFound := by
  unfold confirmBody
  rw [withLayout_ok _ hlen (layoutOk_whole hlen), htrial]

/-! ## Fallback (R395) -/

theorem Trial.backHot_of_reset (h : t.hot = false ∨ bit t.mask 2 = true ∨ bit t.mask 3 = true) : t.backHot = false := by
  rcases h with h | h | h <;> simp [Trial.backHot, h]

theorem Dev.failTrial_marks {cause : Nat} (hback : t.backHot = false) : d.failTrial t cause = d.markFailed cause :=
  if_neg (by simp [hback])

theorem Dev.markFailed_trial {cause : Nat} (h : d.update.trial = some t) :
    (d.markFailed cause).update.trial = some { t with failed := some (t.failed.getD cause) } := by
  unfold Dev.markFailed
  rw [h]
  rfl

/-- A HOT trial without CFG, SDS and PHY falls back at once. -/
theorem Dev.failTrial_back {cause : Nat} (hhot : t.hot = true) (h2 : bit t.mask 2 = false) (h3 : bit t.mask 3 = false)
    (h4 : bit t.mask 4 = false) : (d.failTrial t cause).update.trial = none := by
  have hnow : (t.backHot && !(bit t.mask 4 && d.txn.committing.isSome)) = true := by simp [Trial.backHot, hhot, h2, h3, h4]
  unfold Dev.failTrial
  rw [if_pos hnow]
  exact d.fallbackHot_trial t t.mask cause

/-- What FW_FALLBACK leaves of a trial. -/
def Dev.fellBack (d : Dev) (t : Trial) : Dev :=
  let d1 := d.failTrial t 4
  if d1.update.trial.isSome && !t.backHot then { d1.activationDue with update := { d1.update with trialFlag := false } } else d1

theorem Dev.fellBack_reset (htrial : d.update.trial = some t) (hback : t.backHot = false) :
    (d.fellBack t).boot.resetDue = some (d.uptime + 100000, 1, 3) ∧
      (d.fellBack t).update.trial = some { t with failed := some (t.failed.getD 4) } ∧ (d.fellBack t).update.trialFlag = false := by
  have hmarked := Dev.markFailed_trial (cause := 4) htrial
  have hsome : ((d.markFailed 4).update.trial.isSome && !t.backHot) = true := by simp [hmarked, hback]
  unfold Dev.fellBack
  dsimp only
  rw [Dev.failTrial_marks hback, if_pos hsome]
  exact ⟨rfl, hmarked, rfl⟩

theorem Dev.fellBack_hot (hhot : t.hot = true) (h2 : bit t.mask 2 = false) (h3 : bit t.mask 3 = false) (h4 : bit t.mask 4 = false) :
    (d.fellBack t).update.trial = none := by
  have hgone := Dev.failTrial_back (d := d) (cause := 4) hhot h2 h3 h4
  have hnone : ¬((d.failTrial t 4).update.trial.isSome && !t.backHot) = true := by simp [hgone]
  unfold Dev.fellBack
  dsimp only
  rw [if_neg hnone]
  exact hgone

/-- A trial whose reset the device performs itself (R394). -/
theorem Dev.trialOver_resets {cause : Nat} (htrial : d.update.trial = some t) (hfailed : t.failed = none) (hback : t.backHot = false) :
    (d.trialOver t cause).host.stage = .reset ∧ (d.trialOver t cause).update.trial = some { t with failed := some cause } := by
  have hmarked := Dev.markFailed_trial (cause := cause) htrial
  rw [hfailed] at hmarked
  have hsome : ((d.markFailed cause).update.trial.isSome && !t.backHot) = true := by simp [hmarked, hback]
  unfold Dev.trialOver
  dsimp only
  rw [Dev.failTrial_marks hback, if_pos hsome]
  have hreset := (d.markFailed cause).resetNow_resets 1
  exact ⟨hreset.stage, by rw [hreset.update]; exact hmarked⟩

end Sys2Proof.Machine
end

section
/-! SUPPORT. FW_STATUS, Kiln's commands and the timers of trials (R394, R397 to R400). -/

namespace Sys2Proof.Machine

open Sys2Proof

variable {d : Dev} {u : UpdateSession} {bs : Bytes}

/-! ## FW_STATUS -/

/-- The session's STATE. -/
def Dev.sessionState (d : Dev) : Nat := match d.update.session with
  | none => 0
  | some u => if u.verified then 2 else 1

/-- Four bytes before a word and what follows it. -/
theorem headed_fields (a b c e id : Nat) (rest : Bytes) :
    byteAt (leb 1 a ++ leb 1 b ++ leb 1 c ++ leb 1 e ++ leb 4 id ++ rest) 0 = a % 256 ∧
      byteAt (leb 1 a ++ leb 1 b ++ leb 1 c ++ leb 1 e ++ leb 4 id ++ rest) 1 = b % 256 ∧
      byteAt (leb 1 a ++ leb 1 b ++ leb 1 c ++ leb 1 e ++ leb 4 id ++ rest) 2 = c % 256 ∧
      le (leb 1 a ++ leb 1 b ++ leb 1 c ++ leb 1 e ++ leb 4 id ++ rest) 4 4 = id % 2 ^ 32 := by
  refine ⟨by simp [byteAt_append], by simp [byteAt_append], by simp [byteAt_append], ?_⟩
  rw [List.append_assoc, le_append_right _ _ (by simp)]
  exact le_leb_append 4 id rest

theorem Dev.fwStatusBytes_fields (d : Dev) : d.fwStatusBytes.length = 32 ∧ byteAt d.fwStatusBytes 0 = d.sessionState ∧
    byteAt d.fwStatusBytes 1 = ((d.update.session.map (fun u => u.owner)).getD 0) % 256 ∧
    byteAt d.fwStatusBytes 2 = b2n d.update.trial.isSome ∧
    ∀ u, d.update.session = some u → le d.fwStatusBytes 4 4 = manId u.manifest := by
  have hstate : d.sessionState < 256 := by
    unfold Dev.sessionState
    split
    · decide
    · split
      · decide
      · decide
  have htrial : b2n d.update.trial.isSome < 256 := by cases d.update.trial.isSome <;> decide
  have hwritten : ([1, 2, 3, 4, 5].flatMap (fun c => leb 4 ((d.update.session.map (fun u => u.writtenOf c)).getD 0))).length = 20 :=
    length_flatMap_of_const _ _ 4 (fun _ _ => by simp)
  unfold Dev.fwStatusBytes
  extract_lets u t left id
  rw [List.append_assoc]
  have hfields := headed_fields d.sessionState ((d.update.session.map (fun u => u.owner)).getD 0) (b2n d.update.trial.isSome)
    ((d.update.trial.map (fun t => t.mask)).getD 0) id
    (leb 4 left ++ [1, 2, 3, 4, 5].flatMap (fun c => leb 4 ((d.update.session.map (fun u => u.writtenOf c)).getD 0)))
  obtain ⟨hfirst, hsecond, hthird, hword⟩ := hfields
  refine ⟨?_, hfirst.trans (Nat.mod_eq_of_lt hstate), hsecond, hthird.trans (Nat.mod_eq_of_lt htrial), fun v hv => ?_⟩
  · simp only [List.length_append, leb_length, hwritten, u]
  · have hid : id = manId v.manifest := by simp only [id, u, hv]
    refine hword.trans ?_
    rw [hid]
    exact Nat.mod_eq_of_lt (le_lt v.manifest 4 4)

/-! ## Kiln -/

theorem Dev.kilnActivate_none (h : d.update.session = none) : d.kilnActivate = d := by
  unfold Dev.kilnActivate
  rw [h]

/-- A verified manifest goes on trial at a reset, and counter 3 rises (R399). -/
theorem Dev.kilnActivate_boots (h : d.update.session = some u) (hverified : u.verified = true) :
    (∃ t, d.kilnActivate.update.trial = some t ∧ t.current = u.targets ∧ t.hot = false) ∧ d.kilnActivate.update.trialFlag = true ∧
      d.kilnActivate.mono 3 = d.mono 3 + 1 := by
  have hposts := d.posts_beginTrial (manId u.manifest) (manConfirm u.manifest) u.targets false
  have hmono : (d.beginTrial (manId u.manifest) (manConfirm u.manifest) u.targets false).mono 3 = d.mono 3 := by
    unfold Dev.mono
    rw [hposts.keep]
  unfold Dev.kilnActivate
  rw [h]
  dsimp only
  rw [hverified, Bool.not_true, if_neg Bool.false_ne_true]
  refine ⟨⟨_, congrArg Update.trial hposts.update, rfl, rfl⟩, rfl, ?_⟩
  refine (Dev.setMono_mono_same _ 3 (d.mono 3 + 1)).trans ?_
  rw [hmono]
  exact Nat.max_eq_right (Nat.le_succ _)

theorem Dev.kilnActivate_uptime (d : Dev) : d.kilnActivate.uptime = d.uptime := by
  unfold Dev.kilnActivate
  split
  · rfl
  next u _ =>
    split
    · rfl
    · exact (d.posts_beginTrial (manId u.manifest) (manConfirm u.manifest) u.targets false).uptime

theorem Dev.msgWork_kept (d : Dev) (m : Bytes) : (d.msgWork m).lantern = d.lantern ∧ (d.msgWork m).host.stage = d.host.stage := by
  unfold Dev.msgWork
  dsimp only
  split
  · exact ⟨rfl, rfl⟩
  · exact ⟨rfl, rfl⟩

/-- A right message unlocks where no source is active (R333). -/
theorem unlockBody_unlocks (hst : d.msgStatus [5] bs = stOk) (hseq : le (msgBody bs) 0 4 = d.lantern.tamper.seq)
    (hquiet : d.tamperActive = false) : ∃ d' : Dev, unlockBody d bs = ansOk d' [] ∧ d'.host.stage = .rom ∧
      d'.lantern.tamper.latched = 0 ∧ d'.lantern.power = .run := by
  unfold unlockBody
  dsimp only
  rw [hst, if_neg (not_not_intro rfl), if_neg (not_not_intro hseq), hquiet, if_neg Bool.false_ne_true]
  exact ⟨_, rfl, rfl, rfl, rfl⟩

theorem unlockBody_wrong (hst : d.msgStatus [5] bs = stOk) (hseq : le (msgBody bs) 0 4 ≠ d.lantern.tamper.seq) :
    unlockBody d bs = ansErr (d.msgWork bs).msgRefused stBadParam := by
  unfold unlockBody
  dsimp only
  rw [hst, if_neg (not_not_intro rfl), if_pos hseq]
  rfl

end Sys2Proof.Machine
end

section
/-! The statement about update sessions, activations, trials and Kiln. -/

namespace Sys2Proof.Machine

open Sys2Proof

/-! ## Kiln's frames (R400) -/

theorem byteAt_slice (bs : Bytes) (off : Nat) {n i : Nat} (hi : i < n) : byteAt (slice bs off n) i = byteAt bs (off + i) := by
  have hzeros : ∀ m j, byteAt (zeros m) j = 0 := by
    intro m j
    by_cases hj : j < m <;> simp [byteAt, zeros, hj]
  have hlen : ((bs.drop off).take n).length = min n (bs.length - off) := by simp
  unfold slice
  dsimp only
  rw [byteAt_append, hlen]
  split
  next hlt =>
    have htake : ((bs.drop off).take n).getD i 0 = bs.getD (off + i) 0 := by
      simp [List.getD_eq_getElem?_getD, hi]
    exact congrArg BitVec.toNat htake
  next hge =>
    have hpast : bs.getD (off + i) 0 = 0 := List.getD_eq_default _ _ (by omega)
    rw [hzeros, byteAt, hpast]
    rfl

/-- A frame that Kiln does not take, or that finds it busy, is dropped. -/
theorem kilnFrame_dropped {f : Bytes} {d : Dev} (h : (d.host.stage ≠ .kiln ∧ d.host.stage ≠ .tamperHold) ∨ d.update.kilnPeer.isSome = true ∨
    f.length < 34 ∨ 1518 < f.length ∨ byteAt f 14 ≠ 5 ∨ be f 0 6 ≠ Config.baseMac) : kilnFrame f d = d := by
  refine if_pos ?_
  rcases h with ⟨hkiln, hhold⟩ | hpeer | hshort | hlong | hkind | hmac
  · simp [hkiln, hhold]
  · simp [hpeer]
  · have hover : ¬34 + le f 20 2 ≤ f.length := by omega
    simp [hover]
  · have hover : ¬f.length ≤ 1518 := by omega
    simp [hover]
  · simp [hkind]
  · simp [hmac]

theorem kilnFrame_taken {f : Bytes} {d : Dev} (hstage : d.host.stage = .kiln) (hpeer : d.update.kilnPeer = none) (hlong : f.length ≤ 1518)
    (hlen : 34 + le f 20 2 ≤ f.length) (hmac : be f 0 6 = Config.baseMac) (htype : be f 12 2 = 0x88B5) (hhead : slice f 14 4 = [5, 1, 0, 0]) :
    kilnFrame f d = ((({ d with update := { d.update with kilnPeer := some (be f 6 6) } } : Dev).take
      { opcode := (messageReq 0 (slice f 18 (16 + le f 20 2))).opcode, rq := (messageReq 0 (slice f 18 (16 + le f 20 2))).rq,
        origin := some { port := 10, vlan := 0, sa := be f 6 6 } }).drainAll 0) := by
  have hbyte : ∀ i, i < 4 → byteAt f (14 + i) = byteAt [5, 1, 0, 0] i := fun i hi => by rw [← byteAt_slice f 14 hi, hhead]
  have h14 : byteAt f 14 = 5 := hbyte 0 (by decide)
  have h15 : byteAt f 15 = 1 := hbyte 1 (by decide)
  have h16 : byteAt f 16 = 0 := hbyte 2 (by decide)
  have h17 : byteAt f 17 = 0 := hbyte 3 (by decide)
  exact if_neg (by simp [hstage, hpeer, hlong, hlen, hmac, htype, h14, h15, h16, h17])

/-! ## The timers -/

theorem activationReset_none {d : Dev} (h : d.boot.resetDue = none) : activationReset d = d := by
  unfold activationReset
  rw [h]

theorem activationReset_eq {d : Dev} {at_ k c : Nat} (h : d.boot.resetDue = some (at_, k, c)) :
    activationReset d = if c == 3 && decide (at_ ≤ d.uptime) then
      (if d.update.trialFlag then { d.resetNow k with update := { (d.resetNow k).update with trialReset := some d.uptime } } else d.resetNow k)
    else d := by
  unfold activationReset
  rw [h]

/-- The reset asked for is carried out; a trial's 10 s run from it (R390, R394). -/
theorem activationReset_resets {d : Dev} {at_ k : Nat} (h : d.boot.resetDue = some (at_, k, 3)) (hdue : at_ ≤ d.uptime) :
    (activationReset d).host.stage = .reset ∧ (activationReset d).boot.resetKind = some k ∧
      (activationReset d).update.trial = d.update.trial ∧
      (d.update.trialFlag = true → (activationReset d).update.trialReset = some d.uptime) := by
  obtain hreset := d.resetNow_resets k
  have htrial : (d.resetNow k).update.trial = d.update.trial := by rw [hreset.update]
  rw [activationReset_eq h, if_pos (by simpa using hdue)]
  split
  · exact ⟨hreset.stage, hreset.kind, htrial, fun _ => rfl⟩
  next hflag => exact ⟨hreset.stage, hreset.kind, htrial, fun hset => absurd hset hflag⟩

theorem updateIdle_eq {d : Dev} {u : UpdateSession} (h : d.update.session = some u) :
    updateIdle d = if d.over u.deadline then d.endUpdate 1 else d := by
  unfold updateIdle
  rw [h]

theorem trialTimer_running {d : Dev} {t : Trial} (h : d.update.trial = some t) (hfailed : t.failed = none) :
    trialTimer d = if d.overO t.deadline && !d.confirmTaken then d.trialOver t 1 else d := by
  unfold trialTimer
  rw [h]
  dsimp only
  rw [hfailed]

theorem trialTimer_failed {d : Dev} {t : Trial} {cause : Nat} (h : d.update.trial = some t) (hfailed : t.failed = some cause) :
    trialTimer d = if t.backHot && d.txn.committing.isNone then d.fallbackHot t t.mask cause else d := by
  unfold trialTimer
  rw [h]
  dsimp only
  rw [hfailed]

/-- 10 s have passed since the reset of an activation, or in ADMITTING (R394, R414). -/
def Dev.runLate (d : Dev) : Bool :=
  d.overO (d.update.trialReset.map (fun x => x + sec 10)) || d.overO (d.boot.admittingAt.map (fun x => x + sec 10))

theorem runNotReached_eq {d : Dev} {t : Trial} (h : d.update.trial = some t) :
    runNotReached d = if d.runLate && !t.hot && t.failed.isNone && decide (d.host.stage ≠ .run) then d.trialOver t 3 else d := by
  unfold runNotReached
  rw [h]
  rfl

theorem Dev.runLate_of_reset {d : Dev} {e : Nat} (h : d.update.trialReset = some e) (hlate : e + sec 10 < d.uptime) : d.runLate = true := by
  unfold Dev.runLate
  rw [h]
  exact Bool.or_eq_true_iff.mpr (.inl (Dev.over_true hlate))

/-- Kiln's idle time ends it by a reset where MB0 is idle (R398). -/
theorem kilnIdle_resets {d : Dev} (hover : d.overO d.update.kilnDeadline = true) (hidle : (d.chan 0).taken = []) :
    kilnIdle d = d.resetNow 1 := if_pos (by rw [hover, hidle]; rfl)

/-- Settles O57, from what each command of an update and each timer of a trial does with the session, the trial and the banks. -/
theorem firmwareUpdateActsAsRuled : Obligations.FirmwareUpdateActsAsRuled := by
  unfold Obligations.FirmwareUpdateActsAsRuled
  refine ⟨?_, ?_, ?_, ?_, ?_, ?_, ?_, ?_, ?_, ?_, ?_, ?_, ?_, ?_, ?_, ?_, ?_, ?_, ?_, ?_, ?_,
    fun s => ⟨?_, ?_, ?_, ?_, ?_, ?_, ?_, ?_, ?_, ?_⟩⟩
  · -- FW_BEGIN
    refine completes_of_body (fun _ _ => rfl) (fun d rq bs ⟨hman, hses, htrial⟩ => ?_)
    obtain ⟨x, hbody⟩ := fwBeginBody_accepted (ch := rq.ch) hman hses htrial
    obtain ⟨u, hu, howner, hmanifest, hverified, hwritten, hdeadline, htargets⟩ := d.openUpdate_opens rq.ch bs
    refine ⟨_, _, hbody, by simp, ?_, u, hu, howner, hmanifest, hverified, hwritten, hdeadline, htargets⟩
    rw [List.append_assoc]
    exact le_manId bs _
  · refine refuses_of_body (by decide) (fun _ _ => rfl) (fun d rq bs hshort => ?_)
    have hman : d.manifestError bs = some (stBadLength, 0) := if_pos (.inl hshort)
    unfold fwBeginBody
    rw [hman]
  · -- FW_WRITE
    refine completes_of_body (fun _ _ => rfl) (fun d rq bs ⟨hlen, hzero, hlow, hhigh, hleg, u, e, hses, howner, hentry, hok⟩ => ?_)
    have hbody := fwWriteBody_named hlen hzero hlow hhigh hleg hses howner hentry
    rw [hok, Bool.not_true, if_neg Bool.false_ne_true] at hbody
    refine ⟨_, _, hbody, u, _, hses, Dev.writeImage_session _ _ _ _ _, rfl, ?_, rfl, rfl, d.memRead_writeImage u _ _ bs⟩
    rw [UpdateSession.wrote_writtenOf, List.length_drop]
  · refine refuses_of_body (by decide) (fun _ _ => rfl)
      (fun d rq bs ⟨hlen, hzero, hlow, hhigh, hleg, u, e, hses, howner, hentry, hbad⟩ => ?_)
    have hbody := fwWriteBody_named hlen hzero hlow hhigh hleg hses howner hentry
    rwa [hbad, Bool.not_false, if_pos rfl] at hbody
  · -- FW_VERIFY
    refine completes_of_body (body := verifyBody) (fun _ _ => rfl) (fun d rq bs ⟨hnil, u, hses, howner, hall⟩ => ?_)
    obtain ⟨d', hverified, hsession, hstates⟩ := Dev.verifyAll_good (fun e he => (hall e he).2)
    exact ⟨d', _, (verifyBody_complete hnil hses howner (fun e he => (hall e he).1)).trans hverified, u, hses, hsession, rfl, hstates⟩
  · intro s rq t d r u hadm hnil hses howner hwritten hdiff
    obtain ⟨d', comp, hverified, hsession, hstate⟩ := Dev.verifyAll_bad hdiff
    have hserved := Dev.serve_refused (body := verifyBody) hadm ((verifyBody_complete hnil hses howner hwritten).trans hverified) (by decide)
    have hrun : Runs (.fwVerify rq) s (s.dev.serve 0x0E03 rq (rspMax 4) verifyBody) := rfl
    exact ⟨d', comp, runs_of_eq hrun hserved, hsession, hstate⟩
  · refine refuses_of_body (body := verifyBody) (by decide) (fun _ _ => rfl) (fun d rq bs ⟨hnil, hses⟩ => ?_)
    unfold verifyBody
    rw [withLayout_none _ hnil, hses]
    rfl
  · -- FW_ACTIVATE
    rintro fails s rq t d r hadm ⟨hlen, hok, hreset, id, c, banks, cfg, hbanks, hfree, hcfg⟩
    obtain ⟨d', hrun, hdue, hflag, htrial⟩ := fwActivate_reset (failsAt := fails) hadm hlen hok hreset hbanks hfree hcfg
    exact ⟨d', _, hrun, rfl, hdue, hflag, id, c, banks, _, hbanks, htrial, rfl, rfl, rfl, rfl, rfl, rfl⟩
  · rintro fails s rq t d r hadm ⟨hlen, hok, hhot, hwait, id, c, banks, cfg, hbanks, hfree, hcfg, hall⟩
    obtain ⟨x, us, hpause, hrun, ⟨tr, htrial, hkind, hcurrent, hconfirm, _, hfailed⟩, hkept⟩ :=
      fwActivate_hot (failsAt := fails) hadm hlen hok hhot hwait hbanks hfree hcfg (fun b hb => (hall b hb).1) (fun b hb => (hall b hb).2)
    refine ⟨_, _, hrun, by simp, id, c, banks, x, hbanks, ?_, ?_, ⟨tr, htrial, hkind, hcurrent, hconfirm, hfailed⟩, hkept⟩
    · rwa [le_hotAnswer hpause]
    · rw [le_hotAnswer hpause]
  · intro s rq t d r id c banks cfg hadm hlen hok hhot hwait hbanks hfree hcfg
    exact ⟨fwActivate_hotCfg hadm hlen hok hhot hbanks hfree hcfg, fun b hb => fwActivate_fails hadm hlen hok hhot hbanks hfree hcfg hb⟩
  · rintro fails s rq t d r hadm ⟨hlen, hok, hwait, hbanks, htrial⟩
    exact fwActivate_busy hadm hlen hok hwait hbanks htrial
  · -- FW_CONFIRM
    refine completes_of_body (body := fun d _ bs => confirmBody d bs) (fun _ _ => rfl)
      (fun d rq bs ⟨hlen, hstage, hcfg, t, htrial, hid, hfailed, hmark, hnodup, hcurrent⟩ => ?_)
    obtain ⟨d', hbody, hnone, hbanks, hmono⟩ := confirmBody_confirms hlen hstage hcfg htrial hid hfailed hmark
    refine ⟨d', [], hbody, rfl, hnone, t, htrial, fun c hc => ?_⟩
    rw [hbanks, hmono]
    exact Dev.confirmBanks_active hnodup (fun c hc => (hcurrent c hc).2.2) c hc
  · exact refuses_of_body (body := fun d _ bs => confirmBody d bs) (by decide) (fun _ _ => rfl)
      (fun d rq bs ⟨hlen, htrial⟩ => confirmBody_none hlen htrial)
  · -- FW_FALLBACK
    refine completes_of_body (fun _ _ => rfl) (fun d rq bs ⟨hlen, hok, htrial⟩ => ?_)
    obtain ⟨t, ht⟩ := Option.isSome_iff_exists.mp htrial
    refine ⟨d.fellBack t, [], (withLayout_ok _ hlen hok).trans ?_, rfl, t, ht, fun hreset => ?_, fun hhot h2 h3 h4 => ?_⟩
    · rw [ht]
      rfl
    · exact Dev.fellBack_reset ht (Trial.backHot_of_reset hreset)
    · exact Dev.fellBack_hot hhot h2 h3 h4
  · refine refuses_of_body (by decide) (fun _ _ => rfl) (fun d rq bs ⟨hlen, hok, htrial⟩ => (withLayout_ok _ hlen hok).trans ?_)
    rw [htrial]
    rfl
  · -- FW_ABORT
    refine completes_of_body (fun _ _ => rfl) (fun d rq bs ⟨hnil, u, hses, howner⟩ => ?_)
    obtain ⟨hnone, hstates⟩ := Dev.endUpdate_ends hses 3
    refine ⟨d.endUpdate 3, [], (withLayout_none _ hnil).trans ?_, rfl, hnone, u, hses, hstates⟩
    rw [hses]
    exact if_neg (not_not_intro howner)
  · refine refuses_of_body (by decide) (fun _ _ => rfl) (fun d rq bs ⟨hnil, u, hses, howner⟩ => (withLayout_none _ hnil).trans ?_)
    rw [hses]
    exact if_pos howner
  · -- FW_STATUS
    refine completes_of_body (fun _ _ => rfl) (fun d rq bs hnil => ⟨d, _, withLayout_none _ hnil, rfl, ?_⟩)
    obtain ⟨hlen, hstate, howner, htrial, hid⟩ := d.fwStatusBytes_fields
    refine ⟨hlen, htrial, fun hses => ?_, fun u hses => ⟨?_, ?_, hid u hses⟩⟩
    · rw [hstate, Dev.sessionState, hses]
    · rw [hstate, Dev.sessionState, hses]
    · rw [howner, hses]
      rfl
  · -- KILN_BOOT
    refine completes_of_body (fun _ _ => rfl) (fun d rq bs ⟨hlen, hok⟩ =>
      ⟨d.kilnActivate.activationDue, [], withLayout_ok _ hlen hok, rfl, ?_, ?_, ?_⟩)
    · rw [← d.kilnActivate_uptime]
      rfl
    · intro u hses hverified
      exact Dev.kilnActivate_boots hses hverified
    · intro hses
      rw [Dev.kilnActivate_none hses]
      exact ⟨rfl, rfl⟩
  · -- KILN_UNLOCK
    refine completes_of_body (body := fun d _ bs => unlockBody d bs) (fun _ _ => rfl) (fun d rq bs ⟨hst, hseq, hquiet⟩ => ?_)
    obtain ⟨d', hbody, hstage, hlatched, hpower⟩ := unlockBody_unlocks hst hseq hquiet
    exact ⟨d', [], hbody, rfl, hstage, hlatched, hpower⟩
  · intro s rq t d r hadm hst hseq
    have hserved := Dev.serve_refused (body := fun d _ bs => unlockBody d bs) hadm (unlockBody_wrong hst hseq) (by decide)
    have hrun : Runs (.kilnUnlock rq) s (s.dev.serve 0x0E0A rq (rspMax 0) (fun d _ bs => unlockBody d bs)) := rfl
    obtain ⟨hlantern, hstage⟩ := d.msgWork_kept r.data
    exact ⟨_, runs_of_eq hrun hserved, hlantern, hstage⟩
  · -- ACTIVATION_RESET
    intro hnone
    have hrun : Runs .activationReset s (activationReset s.dev) := rfl
    exact runs_of_eq hrun (activationReset_none hnone)
  · intro at_ k c hdue
    have hrun : Runs .activationReset s (activationReset s.dev) := rfl
    refine ⟨fun hnot => runs_of_eq hrun ((activationReset_eq hdue).trans (if_neg ?_)), fun hover hcause => ?_⟩
    · rintro hboth
      simp only [Bool.and_eq_true, beq_iff_eq, decide_eq_true_eq] at hboth
      omega
    · subst hcause
      exact ⟨_, hrun, activationReset_resets hdue hover⟩
  · -- UPDATE_SESSION_IDLE_TIMEOUT
    intro hnone
    have hrun : Runs .updateSessionIdleTimeout s (updateIdle s.dev) := rfl
    refine runs_of_eq hrun ?_
    unfold updateIdle
    rw [hnone]
  · intro u hses
    have hrun : Runs .updateSessionIdleTimeout s (updateIdle s.dev) := rfl
    refine ⟨fun hearly => runs_of_eq hrun ((updateIdle_eq hses).trans (if_neg (by rw [Dev.over_false hearly]; decide))), fun hlate => ?_⟩
    exact ⟨_, runs_of_eq hrun ((updateIdle_eq hses).trans (if_pos (Dev.over_true hlate))), Dev.endUpdate_ends hses 1⟩
  · -- The timers of a trial
    intro hnone
    have htimer : Runs .trialTimerExpiry s (trialTimer s.dev) := rfl
    have hrunning : Runs .runNotReachedTimeout s (runNotReached s.dev) := rfl
    refine ⟨runs_of_eq htimer ?_, runs_of_eq hrunning ?_⟩
    · unfold trialTimer
      rw [hnone]
    · unfold runNotReached
      rw [hnone]
  · intro t htrial
    have htimer : Runs .trialTimerExpiry s (trialTimer s.dev) := rfl
    have hrunning : Runs .runNotReachedTimeout s (runNotReached s.dev) := rfl
    refine ⟨fun hfailed hwait => ?_, fun hfailed hwait => ?_, fun cause hfailed hback hidle => ?_, fun hover hfailed hconfirm hreset => ?_,
      fun hnot => ?_, fun e he hlate hhot hfailed hstage => ?_⟩
    · refine runs_of_eq htimer ((trialTimer_running htrial hfailed).trans (if_neg ?_))
      rcases hwait with hearly | htaken
      · simp [hearly]
      · simp [htaken]
    · obtain ⟨cause, hcause⟩ := Option.isSome_iff_exists.mp hfailed
      refine runs_of_eq htimer ((trialTimer_failed htrial hcause).trans (if_neg ?_))
      rcases hwait with hback | hbusy
      · simp [hback]
      · obtain ⟨k, hk⟩ := Option.isSome_iff_exists.mp hbusy
        simp [hk]
    · exact runs_of_eq htimer ((trialTimer_failed htrial hfailed).trans (if_pos (by rw [hback, hidle]; rfl)))
    · exact ⟨_, runs_of_eq htimer ((trialTimer_running htrial hfailed).trans (if_pos (by rw [hover, hconfirm]; rfl))),
        Dev.trialOver_resets htrial hfailed (Trial.backHot_of_reset hreset)⟩
    · refine runs_of_eq hrunning ((runNotReached_eq htrial).trans (if_neg ?_))
      rcases hnot with hhot | hfailed | hstage
      · simp [hhot]
      · obtain ⟨cause, hcause⟩ := Option.isSome_iff_exists.mp hfailed
        simp [hcause]
      · simp [hstage]
    · have hgo : (s.dev.runLate && !t.hot && t.failed.isNone && decide (s.dev.host.stage ≠ .run)) = true := by
        simp [Dev.runLate_of_reset he hlate, hhot, hfailed, hstage]
      exact ⟨_, runs_of_eq hrunning ((runNotReached_eq htrial).trans (if_pos hgo)),
        Dev.trialOver_resets htrial hfailed (Trial.backHot_of_reset (.inl hhot))⟩
  · -- Kiln
    intro hearly
    have hrun : Runs .kilnIdleTimeout s (kilnIdle s.dev) := rfl
    exact runs_of_eq hrun (if_neg (by simp [hearly]))
  · intro hover hidle
    have hrun : Runs .kilnIdleTimeout s (kilnIdle s.dev) := rfl
    have hreset := s.dev.resetNow_resets 1
    exact ⟨_, runs_of_eq hrun (kilnIdle_resets hover hidle), hreset.stage, hreset.kind, by rw [hreset.update]⟩
  · intro f hdropped
    have hrun : Runs (.kilnFrameReceived f) s (kilnFrame f s.dev) := rfl
    exact runs_of_eq hrun (kilnFrame_dropped hdropped)
  · intro f hstage hpeer hlong hlen hmac htype hhead
    have hrun : Runs (.kilnFrameReceived f) s (kilnFrame f s.dev) := rfl
    exact runs_of_eq hrun (kilnFrame_taken hstage hpeer hlong hlen hmac htype hhead)

end Sys2Proof.Machine
end
